-- ==== Sys2Proof/Word.lean ====
section
/-! DEFINITION. The machine's words: bytes, the 32-bit and 64-bit words of the dictionary, and the index types of its repeated units (cells, bridges, legs, carriers, channels, streams, lanes, paths, engines). -/

namespace Sys2Proof

/-- One byte on any interface (spec/00 R3). -/
abbrev Byte := BitVec 8

/-- A byte string, least significant byte first where it spells a number (spec/00 R3). -/
abbrev Bytes := List Byte

/-- A binary32 value by its bits (spec/00 R5). -/
abbrev F32 := BitVec 32

/-- A cell number 0 to 5. -/
abbrev Cell := Fin 6

/-- A bridge: 0 G, 1 P, 2 S. -/
abbrev Bridge := Fin 3

/-- A carrier number k = 3c + b. -/
abbrev Carrier := Fin 18

/-- A leg of the device, 6c + n, where n counts G1, G2, P1, P2, S1, S2. -/
abbrev Leg := Fin 36

/-- A fine-delay line, one per gate output. -/
abbrev Line := Fin 72

/-- An engine: cells 0 to 5, 6 the string engine. -/
abbrev Engine := Fin 7

/-- A task of an engine. -/
abbrev Task := Fin 3

/-- A path: 0 X, 1 Y. -/
abbrev Path := Fin 2

/-- A lane: 0 XU, 1 XD, 2 YU, 3 YD. -/
abbrev Lane := Fin 4

end Sys2Proof
end

