-- ==== Sys2Proof/Syntax.lean ====
section
/-! DEFINITION. The commands of the device: one constructor per row of spec/opcode_table.json, with the operands that the host, the network, a ball, the analogue world or the device's own hardware gives it. -/

namespace Sys2Proof

/-- An Orsolane frame after its checks (spec/14 R446): type, path, direction, flags, addresses, sequence number and payload. -/
structure Frame where
  typ : Byte
  path : Path
  up : Bool
  retry : Bool
  lease : Bool
  coarse : Bool
  src : Byte
  dst : Byte
  seq : BitVec 16
  payload : Bytes
  deriving DecidableEq, Repr

/-- What the manager learns of one device's cell over the chain when it checks a CHARGE command (spec/10 R317): its string, string position, G carrier configuration, and whether an OUTPUT block of its loop program has kind 2 or 3 with target bridge G. -/
structure CellInfo where
  device : Fin 32
  cell : Cell
  fitted : Bool
  string : Byte
  stringPos : Byte
  mode : Byte
  phaseRef : Byte
  targetsG : Bool
  period : BitVec 32
  fine : Byte
  deriving DecidableEq, Repr

/-- A CAN frame as a controller sees it (spec/16 R518): identifier, format bits and data. -/
structure CanFrame where
  id : BitVec 29
  ext : Bool
  fd : Bool
  brs : Bool
  rtr : Bool
  esi : Bool
  data : Bytes
  dlc : BitVec 4
  deriving DecidableEq, Repr

/-- Where in a frame an error is detected, as far as the error counters tell the places apart (spec/16 R527; ISO 11898-1): a recessive stuff bit of the arbitration field that is read dominant; the controller's own error or overload flag, or a dominant bit right after its error flag; any other place. -/
inductive CanPlace where
  | elsewhere | arbitrationStuff | ownFlag
  deriving DecidableEq, Repr

/-- A WDP telegram (spec/17 R545, R549): the node that its identifier names, the fields of its header with LEN as sent, and the data that follow the header. In a SAFE or LEASE telegram the header's bytes are the telegram's bytes (R564, R565). -/
structure Telegram where
  node : BitVec 7
  tagGen : Byte
  op : Byte
  status : Byte
  len : Byte
  index : BitVec 16
  sub : Byte
  seg : Byte
  data : Bytes
  deriving DecidableEq, Repr

/-- Where a WDP request came from: a CAN channel, or a DICT frame from a position on a path, with the CHANNEL it names (spec/17 R553, spec/14 R450, R459). -/
inductive Origin where
  | can (u : Fin 2)
  | dict (src : Byte) (path : Path) (channel : Byte)
  deriving DecidableEq, Repr

/-- Why a PLL is declared unlocked (spec/03 R73): a window's count, or the magnitudes in ps of the phase error at the PFD in consecutive PFD cycles, the first of them now. -/
inductive LossEvidence where
  | window (count : BitVec 32)
  | phase (errs : Vector (BitVec 32) 4)
  deriving DecidableEq, Repr

/-- A block as it stands on a lane (spec/13 R414, R415). At G0: whether its first character is K28.5, which of its characters break the 8b/10b code, and their bytes, the first one lowest; at G1 and G2: the sync header, the 58 line bits before its payload and the 64 bits of its payload, the oldest bit lowest. -/
inductive LineBlock where
  | chars (comma : Bool) (bad : Byte) (bytes : BitVec 64)
  | coded (header : BitVec 2) (prior : BitVec 58) (bits : BitVec 64)
  deriving DecidableEq, Repr

/-- What a loss of lock is declared on (spec/13 R423): the CDR out of lock; which of the last 16 characters at G0 broke the code (R418); the sync headers of the last 64 blocks (R420); by how many blocks the recovered clock has gained on the device's own since the lane's last row of the elastic buffer, in two's complement (R421). -/
inductive LolEvidence where
  | cdr
  | violations (last : BitVec 16)
  | headers (last : BitVec 128)
  | elastic (drift : Byte)
  deriving DecidableEq, Repr

/-- The commands, area by area of the spec. -/
inductive Instr where
  -- power, reset, boot and device states (spec/04), those with operands
  | powerOnResetRelease (role : Bool)
  | resetNRelease (role : Bool)
  | cmdCharge (cells : List CellInfo)
  | cellClear (mask : Byte)
  | cellFittedWrite (mask : Byte)
  | wakePinHigh (ticks : BitVec 32)
  | supervisorWatchdogExpiry (serviced : BitVec 64)
  -- clocks and fine delay (spec/03), BYP sense and test port (spec/02)
  | pllRestart (p : Fin 3) (v : Byte)
  | pllLockDeclared (p : Fin 3) (counts : List (BitVec 32))
  | pllLockLost (p : Fin 3) (evidence : LossEvidence)
  | pllAcquisitionTimeout (p : Fin 3)
  | refclkLost (edges : Byte)
  | refclkPresent (counts : Vector Byte 8)
  | relaxOscOutOfRange (cycles : BitVec 32)
  | fineCalLineMeasure (l : Line) (plausible : Bool) (elements : Vector (BitVec 24) 64)
  | fineCalTableApply (l : Line)
  | bypSenseRelease (c : Cell)
  | bypSenseSample (c : Cell) (high : Bool)
  | bypSenseCycleStart (c : Cell)
  | jtagExtest (scan : Option (BitVec 139 × BitVec 139))
  | jtagBypass (bits : List Bool)
  | jtagSamplePreload (outside shifted : BitVec 139)
  | jtagIdcode (scan : Bool)
  -- timebase and pulse generation (spec/05)
  | carrierZero (k : Carrier)
  | carrierApex (k : Carrier)
  | tcmpEvent (k : Carrier)
  | shadowTransfer (k : Carrier) (apex : Bool)
  | legCommandChange (l : Leg) (high : Bool) (at_ : BitVec 64)
  | erasedPulseEnd (l : Leg)
  | deadtimeTurnOn (l : Leg)
  | refreshPulseEnd (l : Leg)
  | commit (c : Cell) (mask : Byte)
  | carryClear (c : Cell) (mask : Byte)
  -- measurement front end (spec/06)
  | sequenceTrigger (a : Fin 4)
  | adcHold (a : Fin 4)
  | adcResultWritten (a : Fin 4) (code : BitVec 16)
  | ondemand (ch : Byte)
  | urgentConversionStart (a : Fin 4)
  | windowTrip (ch : Fin 7) (high : Bool) (level : BitVec 32)
  | windowRelease (ch : Fin 7) (high : Bool) (level : BitVec 32)
  | openWireRequest (mask : BitVec 32)
  | openWireSettleExpiry (a : Fin 4) (code : BitVec 16)
  | dsdMainResult (s : Fin 18) (bits : List Bool) (start stop : BitVec 64)
  | dsdAlignEvent (s : Fin 18)
  | fastComparatorTrip (s : Fin 18) (bits : List Bool)
  | streamFault (s : Fin 18) (bits : List (Option Bool))
  | streamFaultClear (s : Fin 18) (bits : List (Option Bool))
  | dfPeriodMeasured (d : Fin 18) (period high : BitVec 32)
  | dfFaultRecognised (d : Fin 18) (low : BitVec 32)
  | dfFaultEnd (d : Fin 18)
  | dfTelemetryInvalid (d : Fin 18) (high : BitVec 32)
  | resultRead (stream : Bool) (n : Byte) (valueOnly : Bool)
  -- loop engines (spec/07)
  | loopTaskTrigger (e : Engine) (t : Task)
  | loopRunRelease (e : Engine) (t : Task)
  | loopDeadlineMiss (e : Engine) (t : Task)
  | validate (e : Engine) (v : Byte)
  | loopStatusClear (e : Engine) (mask : Byte)
  -- profiles and modes (spec/08)
  | profileStep (e : Engine)
  | profileRestart (e : Engine) (n : Fin 4) (v : Byte)
  | limitsSet (e : Engine) (n : Fin 4) (vMax aMax jMax tol : F32)
  | modeReq (c : Cell) (v : Byte)
  -- bridge guard (spec/09)
  | externalFaultChange (fltP fltN safeN : Bool)
  | safePatternTurnOn (c : Cell) (b : Bridge)
  | guardRelease (c : Cell) (mask : Byte)
  | autoRelease (c : Cell) (b : Bridge)
  | bypassCommandClose (c : Cell)
  | bypassTimeout (c : Cell)
  | bypassOpenTimeout (c : Cell)
  | bypMismatchTimeout (c : Cell)
  -- string coordination (spec/10)
  | stringAssembly
  | stringFrameIssue
  | stringFrameAccept (f : Frame)
  | statusFrameReceive (f : Frame)
  | moltRemove (s : Fin 3)
  | moltInsert (s : Fin 3)
  | prechargeTimeout (s : Fin 3)
  | stopTimeout
  -- thermal supervision (spec/11)
  | thermalSampleDue (n : Fin 28)
  | thermalSampleProcess (n : Fin 28)
  | lockoutRecordWritten (g : Fin 7) (ok : Bool)
  | brokenClear (mask : BitVec 32)
  | rearm (mask : Byte)
  -- fault collector (spec/12)
  | collectorDecision (equalRails : BitVec 128) (parityBad : Bool)
  | collectorDecisionTimeout
  | stickyClear (w : Fin 4) (mask : BitVec 32)
  | wdpEventSend
  | eventFrameSend
  | eventFrameReceive (f : Frame)
  | safeFrameReceive (f : Frame)
  -- lanes and HATCH (spec/13)
  | laneLosDeclared (i : Lane) (peak : BitVec 16) (ticks : BitVec 32)
  | laneLosCleared (i : Lane) (least : BitVec 16) (ticks : BitVec 32)
  | laneLolDeclared (i : Lane) (why : LolEvidence)
  | laneCommaAligned (i : Lane) (commas : BitVec 24)
  | slipPositionTest (i : Lane) (headers : BitVec 128)
  | trainBlockReceive (i : Lane) (block : LineBlock)
  | fillerBlockReceive (i : Lane) (drift : Byte) (block : LineBlock)
  | fillerInsert (i : Lane) (drift : Byte)
  | fillerSend (i : Lane)
  | enumDelayExpiry
  | enumAssignReceive (q : Path) (payload : Bytes)
  | enumEndReceive (q : Path) (payload : Bytes)
  | enumRateStepReceive (q : Path) (payload : Bytes)
  | rateStepPllRestart (q : Path)
  | rateStepTimeout (q : Path)
  | enumCheckReceive (q : Path) (payload : Bytes)
  | enumDoneReceive (q : Path) (payload : Bytes)
  | hatchYWaitExpiry
  | enumConflictReceive (q : Path) (payload : Bytes)
  | roleConflictDetect (ticks : BitVec 32)
  | enumJoinReceive (q : Path) (payload : Bytes)
  | joinDwellExpiry (q : Path)
  | wakeBlockReceive (block : LineBlock)
  | wakeFrameRepeat
  -- frames, forwarding and network time (spec/14)
  | frameReceive (i : Lane) (blocks : List LineBlock)
  | frameTransmitSelect (i : Lane)
  | ackReceive (f : Frame)
  | nakReceive (f : Frame)
  | retryTimeout (typ dst : Byte) (path : Path)
  | dictRequestReceive (f : Frame)
  | dictResponseReceive (f : Frame)
  | dictAbortReceive (f : Frame)
  | dictSwarmReceive (f : Frame)
  | dictBusyReceive (f : Frame)
  | forwardTimeout (node tag : Byte)
  | delayExchangeDue
  | delayReqReceive (f : Frame) (rxTime : BitVec 128)
  | delayRespReceive (f : Frame) (rxTime : BitVec 128)
  | timeSyncIncrement (f : Frame)
  | timeSyncSet (f : Frame)
  | timeSyncStep (f : Frame)
  | timeIncrementWrite (v : BitVec 64)
  | timeStep (data : BitVec 128)
  | comparatorFire (k : Fin 8)
  | tsyncPulseStart
  | tsyncPulseEnd
  | tsyncInputEdge
  -- path redundancy (spec/15)
  | orsolaneDueInstant
  | leaseExpiry
  | leaseFrameRenew (f : Frame)
  | leaseFrameRelease (f : Frame)
  | leaseFrameRevert (f : Frame)
  | revertHoldoffExpiry (can : Bool)
  | leaseNsWrite (v : BitVec 32)
  | pselNChange (low : Bool) (ticks : BitVec 32)
  | pselHoldoffExpiry
  | pselStuck
  | fireflyBeaconSend (p : Fin 32) (q : Path)
  | fireflyBeaconReceive (f : Frame)
  | fireflyEchoSend
  | fireflyEchoRequestReceive (f : Frame)
  | fireflyEchoReplyReceive (f : Frame) (rxTime : BitVec 128)
  | healthEvaluation (q : Path) (bits : BitVec 64) (errors others : BitVec 32) (margin : F32)
  | canLeaseExpiry
  -- CAN FD controllers (spec/16)
  | canApply (u : Fin 2) (v : Byte)
  | canTimingChange (u : Fin 2)
  | canFrameReceive (u : Fin 2) (f : CanFrame)
  | canObjectConfigure (u : Fin 2) (n : Byte) (data : Bytes)
  | canTransmitRequest (u : Fin 2) (n : Byte) (data : Bytes)
  | canTransmitCancel (u : Fin 2) (n : Byte) (data : Bytes)
  | canObjectRead (u : Fin 2) (n : Byte)
  | canTransmitStart (u : Fin 2)
  | canTransmitComplete (u : Fin 2) (ok : Bool)
  | canErrorDetected (u : Fin 2) (code : Byte) (dataPhase transmitter collision : Bool) (place : CanPlace)
  | canRecoveryComplete (u : Fin 2)
  | canRecover (u : Fin 2) (v : Byte)
  | dupClear (u : Fin 2) (v : Byte)
  | lecRead (u : Fin 2) (dlec : Bool)
  | timestampEntryRead (u : Fin 2)
  | timestampFlush (u : Fin 2) (v : Byte)
  | canBusMonitorEnter (u : Fin 2)
  -- dictionary protocol (spec/17)
  | wdpRead (o : Origin) (t : Telegram)
  | wdpWrite (o : Origin) (t : Telegram)
  | wdpBlockRead (o : Origin) (t : Telegram)
  | wdpBlockWrite (o : Origin) (t : Telegram)
  | wdpSegment (o : Origin) (t : Telegram)
  | wdpWindow (o : Origin) (t : Telegram)
  | blockTimeout (tagGen : Byte)
  | wdpState (o : Origin) (t : Telegram)
  | wdpAbort (o : Origin) (t : Telegram)
  | wdpSafe (u : Fin 2) (t : Telegram)
  | wdpLeaseRenew (u : Fin 2) (t : Telegram)
  | wdpLeaseRelease (u : Fin 2) (t : Telegram)
  | wdpLeaseRevert (u : Fin 2) (t : Telegram)
  | wdpCyclicCommand (u : Fin 2) (data : Bytes)
  | cyclicStatusSend
  | timeTelegramSend
  -- capture and triggers (spec/18)
  | captureEnable (v : Byte)
  | captureArm (v : Byte)
  | captureForce (v : Byte)
  | captureSample
  | captureDecision (cond : Fin 17)
  | captureRecordClose
  | trigLineFall (line : Fin 2)
  | trigDriveEnd (line : Fin 2)
  | triggerFrameReceive (f : Frame)
  | calArm (v : Byte)
  | trigCalTimeout (line : Fin 2)
  | trigCalDrive (line : Fin 2)
  | deadTimeClear (v : Byte)
  | ceqWordRead
  | ceqWindowRead
  | ceqMark (v : Byte)
  | ceqRewind (v : Byte)
  | ceqRelease (v : Byte)
  | egressWrite (v : Byte)
  | captureFrameSend
  | egressHoldoffExpiry
  | captureFrameReceive (f : Frame)
  -- NV store, firmware and maintenance (spec/19)
  | store (v : Byte)
  | storeComplete (ok : Bool)
  | defaults (v : Byte)
  | oemAreaWrite (data : Bytes)
  | fwImageWrite (size : BitVec 32)
  | fwCheck
  | fwCheckComplete
  | fwActivate
  | fwActivation (restart : Bool)
  | activateWaitExpiry
  | maintStandbySoak (arg duration : BitVec 32)
  | maintLanePrbs (arg duration : BitVec 32)
  | maintOpenWireSweep (arg duration : BitVec 32)
  | maintNtcSweep (arg duration : BitVec 32)
  | maintFineDelaySweep (arg duration : BitVec 32)
  | maintGateLoopback (arg duration : BitVec 32)
  | maintNvScrub (arg duration : BitVec 32)
  | maintFailoverDrill (arg duration : BitVec 32)
  | maintStop (mask : Byte)
  | maintActivityEnd (slot : Fin 4) (outcome : Byte) (v1 v2 v3 : BitVec 32)
  -- objects without a row of their own, and the two late rows of the table
  | objectWrite (index : BitVec 16) (sub : Byte) (data : Bytes)
  | fastComparatorRelease (s : Fin 18) (bits : List Bool)
  | relaxationOscillatorInRange (cycles : BitVec 32)
  -- power, reset, boot and device states (spec/04), those without operands
  | powerOnResetAssert
  | resetNAssert
  | deviceReset
  | bootComplete
  | supervisorRestartComplete
  | cmdRun
  | cmdStop
  | cmdSafe
  | cmdResume
  | cmdCocoon
  | cocoonEntryComplete
  | cmdWake
  | cmdSupervisorRestart
  | cmdDeviceReset
  | cocoonExit
  | abortCapture
  | abortBlock
  | abortStore
  | abortFwInstall
  | abortMaint
  | abortMolt
  | abortForward
  deriving DecidableEq, Repr

end Sys2Proof
end

