-- ==== Sys2Proof/Machine/Bits.lean ====
section
/-! DEFINITION. Bit-field, sign and byte-order helpers over natural numbers and byte strings (spec/00 R2, R3, R6). -/

namespace Sys2Proof.Machine

/-- Bit i of n. -/
def bit (n i : Nat) : Bool := n.testBit i

/-- n with bit i set to b. -/
def setBit (n i : Nat) (b : Bool) : Nat :=
  if b == n.testBit i then n else if b then n + 2 ^ i else n - 2 ^ i

/-- The field of n of width w that starts at bit lo (spec/00 R2). -/
def field (n lo w : Nat) : Nat := n / 2 ^ lo % 2 ^ w

/-- n with that field replaced by v (v taken modulo its width). -/
def setField (n lo w v : Nat) : Nat :=
  n - field n lo w * 2 ^ lo + v % 2 ^ w * 2 ^ lo

/-- n with the bits of the mask m cleared. -/
def clearMask (n m : Nat) : Nat := n - (n &&& m)

/-- The bits 0 to w - 1 at which f holds. -/
def maskOf (w : Nat) (f : Nat → Bool) : Nat :=
  (List.range w).foldl (fun a i => if f i then a + 2 ^ i else a) 0

/-- The positions below w that are set in m, ascending. -/
def bitsOf (w m : Nat) : List Nat := (List.range w).filter (bit m)

/-- How many of the low w bits are set. -/
def popCount (w m : Nat) : Nat := (bitsOf w m).length

/-- A counter of w bits that wraps. -/
def wrapInc (w n : Nat) (by_ : Nat := 1) : Nat := (n + by_) % 2 ^ w

/-- A counter of w bits that saturates at its largest value. -/
def satInc (w n : Nat) (by_ : Nat := 1) : Nat := min (n + by_) (2 ^ w - 1)

/-- The two's complement reading of the low w bits of n. -/
def toSigned (w n : Nat) : Int :=
  if n % 2 ^ w < 2 ^ (w - 1) then (n % 2 ^ w : Nat) else (n % 2 ^ w : Nat) - (2 ^ w : Nat)

/-- The w-bit two's complement word of an integer. -/
def ofSigned (w : Nat) (z : Int) : Nat := (z % (2 ^ w : Nat)).toNat

/-- The number a byte string spells, least significant byte first (spec/00 R3). -/
def leNat : Bytes → Nat
  | [] => 0
  | b :: bs => b.toNat + 256 * leNat bs

/-- The n bytes that spell v, least significant byte first (spec/00 R3). -/
def natLe : Nat → Nat → Bytes
  | 0, _ => []
  | n + 1, v => BitVec.ofNat 8 v :: natLe n (v / 256)

/-- The w-byte little-endian field of a byte string at an offset (absent bytes read 0). -/
def leAt (bs : Bytes) (off w : Nat) : Nat := leNat ((bs.drop off).take w)

/-- The byte at an offset (0 past the end). -/
def byteAt (bs : Bytes) (off : Nat) : Nat := (bs.getD off 0).toNat

/-- A vector with one entry changed by a function. -/
def upd {α : Type} {n : Nat} (v : Vector α n) (i : Fin n) (f : α → α) : Vector α n :=
  v.set i (f v[i])

/-- A vector with every entry changed by a function of its index. -/
def updAll {α : Type} {n : Nat} (v : Vector α n) (f : Fin n → α → α) : Vector α n :=
  Vector.ofFn fun i => f i v[i]

/-- Whether some entry of a vector has a property. -/
def anyOf {α : Type} {n : Nat} (v : Vector α n) (p : α → Bool) : Bool := (List.finRange n).any fun i => p v[i]

/-- Folding a state over the indices 0 to n - 1 in ascending order. -/
def forFin {σ : Type} (n : Nat) (s : σ) (f : Fin n → σ → σ) : σ :=
  (List.finRange n).foldl (fun a i => f i a) s

/-- The ceiling of a / b. -/
def ceilDiv (a b : Nat) : Nat := (a + b - 1) / b

/-- The quotient a / b rounded to nearest, halves up. -/
def roundDiv (a b : Nat) : Nat := (2 * a + b) / (2 * b)

/-- An integer divided by a positive number, rounded to nearest, ties to even. -/
def rneDiv (a : Int) (b : Nat) : Int :=
  let q := a / (b : Int)
  let r := a % (b : Int)
  if 2 * r < b then q else if 2 * r > b then q + 1 else if q % 2 = 0 then q else q + 1

/-- An integer limited to a range. -/
def clampInt (lo hi z : Int) : Int := if z < lo then lo else if z > hi then hi else z

/-- Whether t falls less than d after an instant, where there is one. -/
def within (o : Option Nat) (t d : Nat) : Bool :=
  match o with
  | some g => t < g + d
  | none => false

end Sys2Proof.Machine
end

