-- ==== Sys2Proof/Machine/Hash.lean ====
section
/-! DEFINITION. The codes of the device: CRC-32C (spec/14 R447), SHA-256 (spec/19 R621) and the PRBS-31 sequence (spec/15 R502, spec/19 R629). -/

namespace Sys2Proof.Machine

/-- One bit of the reflected CRC-32C register (spec/14 R447: polynomial 0x1EDC_6F41 reflected). -/
def crcBit (r : Nat) : Nat := if r % 2 = 1 then (r / 2) ^^^ 0x82F63B78 else r / 2

/-- One byte into the CRC-32C register. -/
def crcByte (r : Nat) (b : Byte) : Nat :=
  crcBit (crcBit (crcBit (crcBit (crcBit (crcBit (crcBit (crcBit (r ^^^ b.toNat))))))))

/-- CRC-32C over a byte string (spec/14 R447). -/
def crc32c (bs : Bytes) : Nat := (bs.foldl crcByte 0xFFFFFFFF) ^^^ 0xFFFFFFFF

/-- The round constants of SHA-256. -/
def shaK : List Nat :=
  [0x428a2f98, 0x71374491, 0xb5c0fbcf, 0xe9b5dba5, 0x3956c25b, 0x59f111f1, 0x923f82a4, 0xab1c5ed5] ++
  [0xd807aa98, 0x12835b01, 0x243185be, 0x550c7dc3, 0x72be5d74, 0x80deb1fe, 0x9bdc06a7, 0xc19bf174] ++
  [0xe49b69c1, 0xefbe4786, 0x0fc19dc6, 0x240ca1cc, 0x2de92c6f, 0x4a7484aa, 0x5cb0a9dc, 0x76f988da] ++
  [0x983e5152, 0xa831c66d, 0xb00327c8, 0xbf597fc7, 0xc6e00bf3, 0xd5a79147, 0x06ca6351, 0x14292967] ++
  [0x27b70a85, 0x2e1b2138, 0x4d2c6dfc, 0x53380d13, 0x650a7354, 0x766a0abb, 0x81c2c92e, 0x92722c85] ++
  [0xa2bfe8a1, 0xa81a664b, 0xc24b8b70, 0xc76c51a3, 0xd192e819, 0xd6990624, 0xf40e3585, 0x106aa070] ++
  [0x19a4c116, 0x1e376c08, 0x2748774c, 0x34b0bcb5, 0x391c0cb3, 0x4ed8aa4a, 0x5b9cca4f, 0x682e6ff3] ++
  [0x748f82ee, 0x78a5636f, 0x84c87814, 0x8cc70208, 0x90befffa, 0xa4506ceb, 0xbef9a3f7, 0xc67178f2]

/-- The initial hash value of SHA-256. -/
def shaH : List Nat :=
  [0x6a09e667, 0xbb67ae85, 0x3c6ef372, 0xa54ff53a, 0x510e527f, 0x9b05688c, 0x1f83d9ab, 0x5be0cd19]

/-- A 32-bit word rotated right. -/
def rotr (n x : Nat) : Nat := x / 2 ^ n + x % 2 ^ n * 2 ^ (32 - n)

/-- The message schedule of one block, most recent word first. -/
def shaSchedule : Nat → List Nat → List Nat
  | 0, ws => ws
  | n + 1, ws =>
    let s0 := ws.getD 14 0
    let s1 := ws.getD 1 0
    let a := rotr 7 s0 ^^^ rotr 18 s0 ^^^ (s0 / 8)
    let b := rotr 17 s1 ^^^ rotr 19 s1 ^^^ (s1 / 1024)
    shaSchedule n ((ws.getD 15 0 + a + ws.getD 6 0 + b) % 2 ^ 32 :: ws)

/-- One round of SHA-256 on the eight working words. -/
def shaRound (v : List Nat) (kw : Nat × Nat) : List Nat :=
  match v with
  | [a, b, c, d, e, f, g, h] =>
    let s1 := rotr 6 e ^^^ rotr 11 e ^^^ rotr 25 e
    let ch := (e &&& f) ^^^ ((0xFFFFFFFF - e) &&& g)
    let t1 := h + s1 + ch + kw.1 + kw.2
    let s0 := rotr 2 a ^^^ rotr 13 a ^^^ rotr 22 a
    let mj := (a &&& b) ^^^ (a &&& c) ^^^ (b &&& c)
    [(t1 + s0 + mj) % 2 ^ 32, a, b, c, (d + t1) % 2 ^ 32, e, f, g]
  | v => v

/-- One 64-byte block into the hash value. -/
def shaBlock (h : List Nat) (ws : List Nat) : List Nat :=
  let sched := (shaSchedule 48 ws.reverse).reverse
  let v := (shaK.zip sched).foldl shaRound h
  List.zipWith (fun x y => (x + y) % 2 ^ 32) h v

/-- A byte string as big-endian 32-bit words. -/
def beWords : Nat → Bytes → List Nat
  | 0, _ => []
  | n + 1, bs => leNat (bs.take 4).reverse :: beWords n (bs.drop 4)

/-- The blocks of a padded message, hashed in order. -/
def shaBlocks : Nat → List Nat → Bytes → List Nat
  | 0, h, _ => h
  | n + 1, h, bs => shaBlocks n (shaBlock h (beWords 16 bs)) (bs.drop 64)

/-- SHA-256 of a byte string, as the 32 bytes in the order SHA-256 produces them (spec/19 R621). -/
def sha256 (bs : Bytes) : Bytes :=
  let z := (119 - bs.length % 64) % 64
  let msg := bs ++ [0x80] ++ List.replicate z 0 ++ (natLe 8 (8 * bs.length)).reverse
  (shaBlocks (msg.length / 64) shaH msg).flatMap fun w => (natLe 4 w).reverse

/-- The PRBS-31 register after one bit: taps 31 and 28, the newest bit lowest (PRESUMED ITU-T O.150; log entry 8). -/
def prbsStep (r : Nat) : Nat := r * 2 % 2 ^ 31 + (field r 30 1 + field r 27 1) % 2

/-- n bits of PRBS-31 from a register, first bit lowest, and the register after them. -/
def prbsBits : Nat → Nat → Nat × Nat
  | 0, r => (0, r)
  | n + 1, r =>
    let r' := prbsStep r
    let (v, r'') := prbsBits n r'
    (r' % 2 + 2 * v, r'')

end Sys2Proof.Machine
end

