-- ==== Sys2Proof/Machine/LineCode.lean ====
section
/-! DEFINITION. Line coding: sync headers, the scrambler, control characters and the blocks of a frame (spec/13 R414 to R416, spec/14 R445, R447). -/

namespace Sys2Proof.Machine

/-! ### The scrambler (spec/13 R415) -/

/-- The first n bits of x scrambled by x^58 + x^39 + 1 after the 58 line bits h, the oldest bit lowest. -/
def scramble : Nat → Nat → Nat → Nat
  | 0, _, _ => 0
  | n + 1, h, x =>
    let b := (bit x 0 ^^ bit h 19 ^^ bit h 0).toNat
    b + 2 * scramble n (h / 2 + b * 2 ^ 57) (x / 2)

/-- The n bits whose scrambled form y follows the 58 line bits h: each bit with the bits 39 and 58 before it on the line. -/
def descramble (n h y : Nat) : Nat :=
  let stream := h + y * 2 ^ 58
  (y ^^^ stream / 2 ^ 19 ^^^ stream) % 2 ^ n

/-! ### Blocks (spec/13 R415, R416) -/

/-- What a block carries: eight data bytes, or a control type with its bytes 1 to 6. -/
inductive Block where
  | data (bytes : Bytes)
  | control (typ : Nat) (bytes : Bytes)
  deriving DecidableEq, Repr

/-- The control block types (spec/13 R416, spec/14 R445). -/
def knownType (t : Nat) : Bool :=
  t == 0x1C || t == 0x2B || t == 0x4D || t == 0x5A || t == 0x70 || t == 0x71 || (0x78 ≤ t && t ≤ 0x7F)

/-- A block as it is read off a line at a rate; none for an invalid header, a broken character, an unknown type or a block of another rate (spec/13 R415, R416). -/
def readBlock (rate : Nat) : LineBlock → Option Block
  | .chars comma bad bytes =>
    let b := natLe 8 bytes.toNat
    if rate != 0 || bad != 0 then none
    else if !comma then some (.data b)
    else if byteAt b 0 == 0xBC && knownType (byteAt b 1) then some (.control (byteAt b 1) (b.drop 2)) else none
  | .coded header prior bits =>
    let b := natLe 8 (descramble 64 prior.toNat bits.toNat)
    if rate == 0 then none
    else if header == 1 then some (.data b)
    else if header == 2 && knownType (byteAt b 0) then some (.control (byteAt b 0) ((b.drop 1).take 6)) else none

/-- Code errors of a block: its broken characters at G0; otherwise one where it cannot be read (spec/13 R416, R418, R420, R441). -/
def codeErrors (rate : Nat) (x : LineBlock) : Nat :=
  match x with
  | .chars _ bad _ => if bad = 0 then (if (readBlock rate x).isNone then 1 else 0) else popCount 8 bad.toNat
  | .coded _ _ _ => if (readBlock rate x).isNone then 1 else 0

/-- The eight bytes that a block puts on the line before scrambling; K28.5 is sent as 0xBC marked as a control character, and byte 7 of a control block is 0 at G1 and G2 (log entry 157). -/
def Block.bytes (rate : Nat) : Block → Nat
  | .data b => leAt b 0 8
  | .control t b => if rate = 0 then 0xBC + t * 2 ^ 8 + leAt b 0 6 * 2 ^ 16 else t + leAt b 0 6 * 2 ^ 8

def Block.isControl : Block → Bool
  | .data _ => false
  | .control _ _ => true

/-- A block put on the line after the 58 line bits h (spec/13 R415). -/
def Block.onLine (rate h : Nat) (b : Block) : LineBlock :=
  let x := b.bytes rate
  if rate = 0 then .chars b.isControl 0 (BitVec.ofNat 64 x)
  else .coded (if b.isControl then 2 else 1) (BitVec.ofNat 58 h) (BitVec.ofNat 64 (scramble 64 h x))

/-- The last 58 line bits after a block. -/
def lineTail : LineBlock → Nat
  | .chars _ _ _ => 0
  | .coded _ _ bits => bits.toNat / 2 ^ 6

/-- Blocks put on the line one after another, after the 58 line bits h. -/
def onLine (rate : Nat) : Nat → List Block → List LineBlock
  | _, [] => []
  | h, b :: bs => let x := b.onLine rate h; x :: onLine rate (lineTail x) bs

/-! ### Frames on the line (spec/14 R445 to R447) -/

/-- The bytes of a frame: header, payload, CRC-32C (spec/14 R446, R447). -/
def frameBytes (f : Frame) : Bytes :=
  let fl := maskOf 5 fun i => if i = 0 then f.path == 1 else if i = 1 then f.up else if i = 2 then f.retry
    else if i = 3 then f.lease else f.coarse
  let b := [f.typ, BitVec.ofNat 8 fl, f.src, f.dst] ++ natLe 2 f.seq.toNat ++ natLe 2 f.payload.length ++ f.payload
  b ++ natLe 4 (crc32c b)

/-- At most n data blocks of bytes, eight each, the last one filled with 0. -/
def dataBlocks : Nat → Bytes → List Block
  | 0, _ => []
  | n + 1, b => if b.isEmpty then [] else .data (natLe 8 (leAt b 0 8)) :: dataBlocks n (b.drop 8)

/-- The blocks of a frame of bytes: START, its data, and END with the valid bytes of the last block, or ABORT (spec/14 R445). -/
def frameBlocks (b : Bytes) (ended : Bool) : List Block :=
  let zeros : Bytes := natLe 6 0
  [Block.control 0x70 zeros] ++ dataBlocks (b.length + 1) b ++
    [Block.control (if ended then 0x78 + (b.length + 7) % 8 else 0x71) zeros]

/-- What blocks say of a frame: the bytes of its data blocks, those of the last one only that its END counts, and whether it ended in END; none without a START. FILLER between them is left out, and so is a block that cannot be read (spec/13 R416, R421, spec/14 R445). -/
def readFrameBlocks (blocks : List (Option Block)) : Option (Bytes × Bool) :=
  match (blocks.filterMap id).filter fun b => match b with
    | .control t _ => t != 0x2B
    | .data _ => true with
  | .control 0x70 _ :: rest =>
    let body := rest.takeWhile fun b => !b.isControl
    let bytes := body.flatMap fun b => match b with
      | .data d => d
      | .control _ _ => []
    match rest.drop body.length with
    | [.control t _] =>
      if 0x78 ≤ t then some (bytes.take (bytes.length + t - 0x7F), true) else some (bytes, false)
    | _ => some (bytes, false)
  | _ => none

end Sys2Proof.Machine
end

