-- ==== Sys2Proof/Config.lean ====
section
/-! DEFINITION. What an implementation fixes and the free values: constants without a body, so that nothing can be proved of the number they stand for. -/

namespace Sys2Proof.Config

/-- 0x0000/04 UNIQUE_ID, per device (spec/20 R645). Log entry 3. -/
opaque uniqueId : BitVec 64

/-- The sign and payload bits of a NaN that binary32 or binary64 arithmetic delivers, by the operands' bits (spec/07 R222 states none). Log entry 4. -/
opaque nanBits : BitVec 64 → BitVec 64 → BitVec 64

/-- The factory calibration of die sensor n, SCALE then OFFSET (spec/06 R177). Log entry 5. -/
opaque dieScale : Nat → F32
opaque dieOffset : Nat → F32

/-- Whether an ECDSA P-256 signature (r, s) of a digest verifies under ROM key KEY_ID; the keys are not in the spec (spec/19 R621, R624). Log entry 6. -/
opaque signatureOk : (keyId digest r s : Nat) → Bool

/-- VERSION of the firmware image that the device was delivered with (spec/19 R634 gives no value). Log entry 10. -/
opaque deliveredVersion : BitVec 32

/-- The version and the manufacturer of IDCODE, of which the spec gives the part number alone (spec/02 R52). Log entry 129. -/
opaque idVersion : BitVec 4
opaque idMaker : BitVec 11

/-- A value the spec leaves open, numbered by the counter State.free. Log entry 7. -/
opaque freeValue : Nat → BitVec 64

end Sys2Proof.Config
end

