-- ==== Sys2Proof/Machine/Float.lean ====
section
/-! DEFINITION. IEEE 754 arithmetic on bit patterns, generic in the format, round to nearest, ties to even: the binary32 of the objects and engines (spec/00 R5, spec/07 R222) and the binary64 of the time servo (spec/14 R469) and of the capture means (spec/18 R580). -/

namespace Sys2Proof.Machine

/-- A binary format: trailing significand bits and exponent bits; `flush` says that subnormal operands and results are zeros of their sign (spec/07 R222). -/
structure Fmt where
  p : Nat
  w : Nat
  flush : Bool
  deriving DecidableEq, Repr

/-- binary32 with subnormals. -/
def fmt32 : Fmt := ⟨23, 8, false⟩
/-- binary32 of the engines: subnormal operands and results are zeros (spec/07 R222). -/
def fmtEng : Fmt := ⟨23, 8, true⟩
/-- binary64. -/
def fmt64 : Fmt := ⟨52, 11, false⟩

/-- What a bit pattern stands for: a NaN, an infinity, or the dyadic number m · 2^e with its sign (which a zero keeps). -/
inductive FVal where
  | nan
  | inf (neg : Bool)
  | num (neg : Bool) (m : Nat) (e : Int)
  deriving DecidableEq, Repr

namespace Fmt

/-- The exponent bias. -/
def bias (f : Fmt) : Int := (2 ^ (f.w - 1) : Nat) - 1

/-- The pattern of an infinity. -/
def infBits (f : Fmt) (neg : Bool) : Nat :=
  (if neg then 2 ^ (f.p + f.w) else 0) + (2 ^ f.w - 1) * 2 ^ f.p

/-- A quiet NaN whose sign and payload are those of `x`. -/
def quietNan (f : Fmt) (x : Nat) : Nat :=
  field x (f.p + f.w) 1 * 2 ^ (f.p + f.w) + (2 ^ f.w - 1) * 2 ^ f.p + 2 ^ (f.p - 1)
    + field x 0 (f.p - 1)

/-- The NaN that an operation on a and b delivers: its payload is a free value. -/
def nanOf (f : Fmt) (a b : Nat) : Nat :=
  f.quietNan (Config.nanBits (BitVec.ofNat 64 a) (BitVec.ofNat 64 b)).toNat

/-- Reading a bit pattern. -/
def decode (f : Fmt) (x : Nat) : FVal :=
  let neg := bit x (f.p + f.w)
  let ex := field x f.p f.w
  let fr := field x 0 f.p
  if ex = 2 ^ f.w - 1 then (if fr = 0 then .inf neg else .nan)
  else if ex = 0 then
    if f.flush then .num neg 0 0 else .num neg fr (1 - f.bias - f.p)
  else .num neg (2 ^ f.p + fr) ((ex : Int) - f.bias - f.p)

/-- m · 2^k for a natural m, k ≥ 0; for k < 0 the quotient rounded to nearest, ties to even, `sticky` saying that the exact value lies a little above m. -/
def shiftRne (m : Nat) (k : Int) (sticky : Bool) : Nat :=
  if 0 ≤ k then m * 2 ^ k.toNat
  else
    let d := 2 ^ (-k).toNat
    let q := m / d
    let r := m % d
    if 2 * r < d then q
    else if 2 * r > d then q + 1
    else if sticky then q + 1
    else if q % 2 = 0 then q else q + 1

/-- The pattern nearest to ±(m + s) · 2^e, s a positive amount below one unit where `sticky` (spec/07 R222). -/
def encode (f : Fmt) (neg : Bool) (m : Nat) (e : Int) (sticky : Bool := false) : Nat :=
  let sgn := if neg then 2 ^ (f.p + f.w) else 0
  if m = 0 then sgn
  else
    let emin : Int := 1 - f.bias - f.p
    let top : Int := e + (Nat.log2 m : Int) - f.p
    let q := if top < emin then emin else top
    let r := shiftRne m (e - q) sticky
    let (r, q) := if r = 2 ^ (f.p + 1) then (2 ^ f.p, q + 1) else (r, q)
    let ex : Int := q + f.p + f.bias
    if r < 2 ^ f.p then (if f.flush then sgn else sgn + r)
    else if ex ≥ (2 ^ f.w - 1 : Nat) then f.infBits neg
    else sgn + ex.toNat * 2 ^ f.p + (r - 2 ^ f.p)

/-- The pattern nearest to an integer times 2^e. -/
def ofInt (f : Fmt) (z : Int) (e : Int := 0) : Nat := f.encode (z < 0) z.natAbs e

/-- The negation: the sign bit flipped. -/
def neg (f : Fmt) (x : Nat) : Nat :=
  if bit x (f.p + f.w) then x - 2 ^ (f.p + f.w) else x + 2 ^ (f.p + f.w)

/-- A pattern as the format's results are: a subnormal one is a zero of its sign where the format flushes (spec/07 R222). -/
def flushed (f : Fmt) (x : Nat) : Nat :=
  if f.flush && field x f.p f.w == 0 then field x (f.p + f.w) 1 * 2 ^ (f.p + f.w) else x

/-- The magnitude: the sign bit cleared. -/
def abs (f : Fmt) (x : Nat) : Nat := f.flushed (field x 0 (f.p + f.w))

/-- Whether a pattern is a NaN. -/
def isNan (f : Fmt) (x : Nat) : Bool := f.decode x == .nan

/-- Whether a pattern is neither a NaN nor an infinity. -/
def finite (f : Fmt) (x : Nat) : Bool :=
  match f.decode x with
  | .num _ _ _ => true
  | _ => false

/-- The signed sum of two dyadic numbers as an integer at the smaller exponent. -/
def sumAt (na : Bool) (ma : Nat) (ea : Int) (nb : Bool) (mb : Nat) (eb : Int) : Int × Int :=
  let e := min ea eb
  let sa : Int := ma * 2 ^ (ea - e).toNat
  let sb : Int := mb * 2 ^ (eb - e).toNat
  ((if na then -sa else sa) + (if nb then -sb else sb), e)

/-- Addition. -/
def add (f : Fmt) (a b : Nat) : Nat :=
  match f.decode a, f.decode b with
  | .nan, _ | _, .nan => f.nanOf a b
  | .inf x, .inf y => if x == y then f.infBits x else f.nanOf a b
  | .inf x, _ => f.infBits x
  | _, .inf y => f.infBits y
  | .num x ma ea, .num y mb eb =>
    let (z, e) := sumAt x ma ea y mb eb
    if z = 0 then f.encode (x && y) 0 0 else f.encode (z < 0) z.natAbs e

/-- Subtraction. -/
def sub (f : Fmt) (a b : Nat) : Nat := if f.isNan b then f.nanOf a b else f.add a (f.neg b)

/-- Multiplication. -/
def mul (f : Fmt) (a b : Nat) : Nat :=
  match f.decode a, f.decode b with
  | .nan, _ | _, .nan => f.nanOf a b
  | .inf x, .inf y => f.infBits (x != y)
  | .inf x, .num y m _ | .num y m _, .inf x => if m = 0 then f.nanOf a b else f.infBits (x != y)
  | .num x ma ea, .num y mb eb => f.encode (x != y) (ma * mb) (ea + eb)

/-- The fused a · b + c, rounded once. -/
def fma (f : Fmt) (a b c : Nat) : Nat :=
  match f.decode a, f.decode b, f.decode c with
  | .num x ma ea, .num y mb eb, .num z mc ec =>
    let (t, e) := sumAt (x != y) (ma * mb) (ea + eb) z mc ec
    if t = 0 then f.encode ((x != y) && z) 0 0 else f.encode (t < 0) t.natAbs e
  | .num _ _ _, .num _ _ _, .inf z => f.infBits z
  | .num _ _ _, .num _ _ _, .nan => f.nanOf a c
  | _, _, _ => f.add (f.mul a b) c

/-- Division. -/
def div (f : Fmt) (a b : Nat) : Nat :=
  match f.decode a, f.decode b with
  | .nan, _ | _, .nan => f.nanOf a b
  | .inf _, .inf _ => f.nanOf a b
  | .inf x, .num y _ _ => f.infBits (x != y)
  | .num x _ _, .inf y => f.encode (x != y) 0 0
  | .num x ma ea, .num y mb eb =>
    if mb = 0 then (if ma = 0 then f.nanOf a b else f.infBits (x != y))
    else
      let k := 2 * f.p + 4 + Nat.log2 mb
      f.encode (x != y) (ma * 2 ^ k / mb) (ea - eb - k) (ma * 2 ^ k % mb != 0)

/-- The square root. -/
def sqrt (f : Fmt) (a : Nat) : Nat :=
  match f.decode a with
  | .nan => f.nanOf a a
  | .inf x => if x then f.nanOf a a else f.infBits false
  | .num x m e =>
    if m = 0 then f.encode x 0 0
    else if x then f.nanOf a a
    else
      let k : Int := 2 * (f.p + 4) + (if e % 2 = 0 then 0 else 1)
      let n := m * 2 ^ k.toNat
      let r := Nat.sqrt n
      f.encode false r ((e - k) / 2) (r * r != n)

/-- The order of two patterns as numbers: none where one is a NaN. -/
def cmp (f : Fmt) (a b : Nat) : Option Ordering :=
  match f.decode a, f.decode b with
  | .nan, _ | _, .nan => none
  | .inf x, .inf y => some (if x == y then .eq else if x then .lt else .gt)
  | .inf x, _ => some (if x then .lt else .gt)
  | _, .inf y => some (if y then .gt else .lt)
  | .num x ma ea, .num y mb eb => some (compare (sumAt x ma ea (!y) mb eb).1 0)

/-- a < b (false where one is a NaN). -/
def lt (f : Fmt) (a b : Nat) : Bool := f.cmp a b == some .lt
/-- a ≤ b (false where one is a NaN). -/
def le (f : Fmt) (a b : Nat) : Bool := f.cmp a b == some .lt || f.cmp a b == some .eq
/-- a = b as numbers. -/
def eqv (f : Fmt) (a b : Nat) : Bool := f.cmp a b == some .eq

/-- The smaller of two numbers. -/
def min (f : Fmt) (a b : Nat) : Nat := f.flushed (if f.lt b a then b else a)
/-- The larger of two numbers. -/
def max (f : Fmt) (a b : Nat) : Nat := f.flushed (if f.lt a b then b else a)
/-- x limited to lo … hi. -/
def clamp (f : Fmt) (lo hi x : Nat) : Nat :=
  f.flushed (if f.lt x lo then lo else if f.lt hi x then hi else x)

/-- A finite number times 2^k, rounded to an integer, ties to even; none for a NaN or an infinity. -/
def toIntRne (f : Fmt) (x : Nat) (k : Int := 0) : Option Int :=
  match f.decode x with
  | .num neg m e => let r : Int := shiftRne m (e + k) false; some (if neg then -r else r)
  | _ => none

/-- A finite number times 2^k rounded toward minus infinity. -/
def toIntFloor (f : Fmt) (x : Nat) (k : Int := 0) : Option Int :=
  match f.decode x with
  | .num neg m e =>
    let z : Int := if neg then -(m : Int) else m
    some (if 0 ≤ e + k then z * 2 ^ (e + k).toNat else z / 2 ^ (-(e + k)).toNat)
  | _ => none

/-- A pattern of one format in another, rounded. -/
def conv (f g : Fmt) (x : Nat) : Nat :=
  match f.decode x with
  | .nan => g.nanOf x x
  | .inf n => g.infBits n
  | .num n m e => g.encode n m e

end Fmt

end Sys2Proof.Machine
end

