-- ==== Sys2Proof/Machine/Names.lean ====
section
/-! DEFINITION. Names of dictionary keys (index · 256 + subindex) that several chapters use; a cell's key is the key of cell 0 plus the cell's unit (spec/20 R637). -/

namespace Sys2Proof.Machine

/-- The key of unit u for an object named at unit 0. -/
def unitKey (k u : Nat) : Nat := k + u * 0x10000

abbrev kRole := 0x000100
abbrev kPosition := 0x000200
abbrev kNodeId := 0x000300
abbrev kExpected := 0x001000
abbrev kFitted := 0x001100
abbrev kDevState := 0x100001
abbrev kResetCause := 0x100002
abbrev kFlags := 0x100003
abbrev kSafeCause := 0x100004
abbrev kEntryS := 0x100005
abbrev kEntryNs := 0x100006
abbrev kResult := 0x100102
/-- STATE, PREVIOUS and CHANGE_COUNT of a cell (spec/09 R313). -/
def kCellState (c : Nat) : Nat := unitKey 0x700301 c
/-- BYP_STATUS of a cell (spec/09 R312). -/
def kByp (c : Nat) : Nat := unitKey 0x700203 c
/-- HELD of a cell (spec/09 R314). -/
def kHeld (c : Nat) : Nat := unitKey 0x700401 c
/-- HOLD_CAUSE of bridge b (spec/09 R314). -/
def kHoldCause (c b : Nat) : Nat := unitKey 0x700402 c + b
/-- TRIP_ACTIVE of a cell (spec/09 R314). -/
def kTripActive (c : Nat) : Nat := unitKey 0x700405 c
/-- Subindex sub of the carrier object of bridge b (spec/05 R169). -/
def kCarrier (c b sub : Nat) : Nat := unitKey 0x300000 c + b * 256 + sub

end Sys2Proof.Machine
end

