-- ==== Sys2Proof/Machine/ObjTable.lean ====
section
/-! DEFINITION. The object dictionary: every object of the device with its type, access, default, range and the states in which it may be written (spec/20 R637 to R648 and the object maps of the owning chapters). -/

namespace Sys2Proof.Machine

/-- Access codes (spec/00 R10). -/
inductive Acc where
  | ro | rw | wo | rwn | w1c | const
  deriving DecidableEq, Repr

/-- The states in which a subindex may be written (spec/20 R642): never, A (all but BOOT), C (READY, SAFE, LOCKOUT), RUN only, every state, READY and SAFE. -/
inductive Wr where
  | never | a | c | run | all | readySafe
  deriving DecidableEq, Repr

/-- How a value is checked: an unsigned number in a range; a field map with a mask of implemented bits; a raw word; a binary32 in a range of finite numbers; a DOMAIN with a least and a largest length. -/
inductive Kind where
  | uint | bits | raw | f32 | domain
  deriving DecidableEq, Repr

/-- One row of an object map: subindices lo to hi, size in bytes (0 for a DOMAIN of varying length), kind, access, states, least and largest value (mask for bits, lengths for a DOMAIN), default. -/
structure Sub where
  lo : Nat
  hi : Nat
  size : Nat
  kind : Kind
  acc : Acc
  wr : Wr
  min : Nat
  max : Nat
  dflt : Nat
  deriving DecidableEq, Repr

/-- One object or family of objects with one layout: its base index with the unit cleared, how many indices follow it, how many units, whether it acts in the manager only (mark M, R643), its count (none for a simple object, R638), its map. -/
structure Family where
  base : Nat
  count : Nat
  units : Nat
  mOnly : Bool
  cnt : Option Nat
  subs : List Sub
  deriving DecidableEq, Repr

/-- A read-only number. -/
def ro (lo hi size dflt : Nat) : Sub := ⟨lo, hi, size, .raw, .ro, .never, 0, 0, dflt⟩
/-- A constant of the stepping. -/
def con (lo size dflt : Nat) : Sub := ⟨lo, lo, size, .raw, .const, .never, 0, 0, dflt⟩
/-- An unsigned number in a range. -/
def un (acc : Acc) (wr : Wr) (lo hi size min max dflt : Nat) : Sub :=
  ⟨lo, hi, size, .uint, acc, wr, min, max, dflt⟩
/-- A field map with its implemented bits. -/
def bm (acc : Acc) (wr : Wr) (lo hi size mask dflt : Nat) : Sub :=
  ⟨lo, hi, size, .bits, acc, wr, 0, mask, dflt⟩
/-- A word taken as it is. -/
def rawv (acc : Acc) (wr : Wr) (lo hi size dflt : Nat) : Sub :=
  ⟨lo, hi, size, .raw, acc, wr, 0, 0, dflt⟩
/-- A binary32 in a range of finite numbers. -/
def fl (acc : Acc) (wr : Wr) (lo hi min max dflt : Nat) : Sub :=
  ⟨lo, hi, 4, .f32, acc, wr, min, max, dflt⟩
/-- A DOMAIN with a least and a largest length; size is its length where that is fixed. -/
def dom (acc : Acc) (wr : Wr) (lo hi size min max dflt : Nat) : Sub :=
  ⟨lo, hi, size, .domain, acc, wr, min, max, dflt⟩
/-- A BOOL. -/
def bl (acc : Acc) (wr : Wr) (lo hi dflt : Nat) : Sub := ⟨lo, hi, 1, .uint, acc, wr, 0, 1, dflt⟩

/-- The largest finite binary32. -/
def fMax : Nat := 0x7F7FFFFF

/-- Areas 0x0, 0x1 and 0x2 (spec/20 R645, spec/04 R121, spec/03 R87). -/
def famCore : List Family := [
  ⟨0x0000, 1, 1, false, some 4, [con 1 2 0x4D4D, con 2 2 0x2606, con 3 1 0xB1, con 4 8 0]⟩,
  ⟨0x0001, 1, 1, false, none, [ro 0 0 1 0]⟩,
  ⟨0x0002, 1, 1, false, none, [ro 0 0 1 0xFF]⟩,
  ⟨0x0003, 1, 1, false, none, [ro 0 0 1 0]⟩,
  ⟨0x0010, 1, 1, false, none, [un .rwn .c 0 0 1 1 32 1]⟩,
  ⟨0x0011, 1, 1, false, none, [bm .rwn .c 0 0 1 0x3F 0]⟩,
  ⟨0x1000, 1, 1, false, some 6, [ro 1 4 1 0, ro 5 5 8 0, ro 6 6 4 0]⟩,
  ⟨0x1001, 1, 1, false, some 3, [rawv .wo .a 1 1 1 0, ro 2 2 1 0, bm .wo .readySafe 3 3 1 0x3F 0]⟩,
  ⟨0x1002, 1, 1, false, none, [bm .wo .a 0 0 2 0x7F 0]⟩,
  ⟨0x1003, 1, 1, false, some 5, [ro 1 2 2 0, ro 3 3 1 0, ro 4 5 4 0]⟩,
  ⟨0x1004, 1, 1, false, some 1, [bm .rwn .c 1 1 1 7 7]⟩,
  ⟨0x1005, 1, 1, false, some 2, [un .rwn .c 1 1 2 10 1000 50, ro 2 2 4 0]⟩,
  ⟨0x2000, 1, 1, false, some 8, [un .rwn .c 1 1 1 0 2 1, un .rwn .c 2 2 2 256 65535 1024,
    un .rwn .c 3 3 1 0 15 2, un .rwn .c 4 4 1 1 255 16, ro 5 5 1 6, ro 6 7 4 0, bl .wo .c 8 8 0]⟩] ++
  [0x2010, 0x2020].map fun b => ⟨b, 1, 1, false, some 10, [ro 1 1 1 0, un .rwn .c 2 2 1 0 2 0,
    un .rwn .c 3 3 1 0 10 10, un .rwn .c 4 4 2 256 65535 1024, un .rwn .c 5 5 1 0 15 2,
    un .rwn .c 6 6 1 1 255 16, ro 7 7 1 6, ro 8 9 4 0, bl .wo .c 10 10 0]⟩

/-- The fine-delay calibrator (spec/03 R87) and area 0x3 (spec/05 R169 to R172). -/
def famEdge : List Family := [
  ⟨0x2030, 1, 1, false, some 6, [ro 1 1 1 0, ro 2 3 4 0, ro 4 4 1 0, ro 5 6 4 0]⟩,
  ⟨0x3000, 3, 6, false, some 16, [un .rwn .c 1 2 1 0 4 0, un .rwn .c 3 3 1 0 4 0,
    un .rwn .a 4 4 4 250 0xFFFFFFFF 62500, un .rwn .a 5 5 1 0 15 0, rawv .rwn .a 6 8 4 0,
    rawv .rwn .a 9 9 4 0x40000000, un .rwn .c 10 10 1 0 2 0, un .rwn .c 11 11 1 0 1 0,
    bm .rwn .c 12 12 1 7 0, ro 13 13 2 0, ro 14 15 4 0, ro 16 16 1 0]⟩,
  ⟨0x3010, 1, 6, false, some 18, [rawv .rwn .a 1 18 4 0]⟩,
  ⟨0x3020, 1, 6, false, some 6, [un .rwn .a 1 6 2 0 32000 10000]⟩,
  ⟨0x3021, 1, 6, false, some 6, [un .rwn .c 1 6 2 16 16000 2000]⟩,
  ⟨0x3022, 1, 6, false, some 17, [un .rwn .c 1 6 4 0 1000000 20000, ro 7 14 4 0,
    rawv .rwn .c 15 15 2 16, bm .w1c .a 16 16 1 7 0, bm .wo .c 17 17 1 0x3F 0]⟩,
  ⟨0x3030, 1, 6, false, some 13, [rawv .rwn .c 1 6 1 0, un .rwn .a 7 12 2 160 16000 4000,
    ro 13 13 4 0]⟩,
  ⟨0x3040, 1, 6, false, some 2, [bm .wo .a 1 1 1 7 0, ro 2 2 1 0]⟩,
  ⟨0x3050, 1, 6, false, some 30, [un .rwn .a 1 15 1 1 64 1, un .rwn .a 16 30 1 0 63 0]⟩]

/-- Area 0x4 (spec/06 R214 to R220). -/
def famMeas : List Family := [
  ⟨0x4000, 1, 1, false, some 18, [bm .rwn .c 1 1 1 0xF 0xF, bm .rwn .c 2 2 1 3 0,
    un .wo .a 3 3 1 0 25 0, un .rwn .c 4 9 2 400 2000 500, rawv .wo .c 10 10 1 0,
    bm .rwn .c 11 11 1 0x3F 0, rawv .rwn .c 12 15 1 12, ro 16 16 4 0, rawv .rwn .c 17 18 1 12]⟩,
  ⟨0x4010, 4, 1, false, some 21, [rawv .rwn .c 1 1 2 0xFFFF, rawv .rwn .c 2 2 2 0,
    un .rwn .c 3 3 1 0 16 0, ro 4 4 1 0, un .rwn .c 5 20 1 0 25 0, ro 21 21 4 0]⟩,
  ⟨0x4100, 26, 1, false, some 10, [un .rwn .c 1 1 1 0 3 0, un .rwn .c 2 2 1 0 2 0,
    rawv .rwn .c 3 3 4 0x3F800000, rawv .rwn .c 4 4 4 0, bl .rwn .c 5 5 0, rawv .rwn .a 6 6 2 65535,
    rawv .rwn .a 7 7 2 0, rawv .rwn .a 8 8 2 256, bl .rwn .c 9 9 1, bm .w1c .a 10 10 1 7 0]⟩,
  ⟨0x4200, 26, 1, false, some 2, [dom .ro .never 1 1 16 16 16 0, ro 2 2 4 0]⟩,
  ⟨0x4300, 18, 1, false, some 12, [bl .rwn .c 1 1 0, un .rwn .c 2 2 2 16 256 64,
    un .rwn .c 3 3 1 4 32 8, un .rwn .c 4 4 1 0 2 2, rawv .rwn .c 5 6 2 0xFFFF,
    rawv .rwn .c 7 7 4 0x3F800000, rawv .rwn .c 8 8 4 0, bl .rwn .c 9 9 0,
    rawv .rwn .a 10 10 2 0x7FFF, rawv .rwn .a 11 11 2 0x8000, ro 12 12 1 0]⟩,
  ⟨0x4400, 18, 1, false, some 2, [dom .ro .never 1 1 16 16 16 0, ro 2 2 4 0]⟩,
  ⟨0x4500, 1, 1, false, some 8, [bm .wo .c 1 1 4 0x1FFFF 0, un .rwn .c 2 2 1 0 2 0,
    un .rwn .c 3 3 1 0 2 2, un .rwn .c 4 4 2 625 62500 6250, un .rwn .c 5 5 2 1 65535 4096,
    ro 6 7 4 0, ro 8 8 1 0]⟩,
  ⟨0x4600, 1, 1, false, some 74, [un .rwn .c 1 18 1 0 1 0, rawv .rwn .c 19 36 4 0xC2200000,
    rawv .rwn .c 37 54 4 0x43200000, ro 55 72 4 0, ro 73 73 4 0x3FFFF, ro 74 74 4 0]⟩]

/-- Areas 0x5 and 0x6 (spec/07 R257 to R262, spec/08 R285 to R288). -/
def famLoop : List Family := [
  ⟨0x5000, 1, 7, false, some 35, [bm .rwn .c 1 32 4 0x00FF03FF 0, bl .wo .c 33 33 0,
    ro 34 34 1 0, ro 35 35 2 0]⟩,
  ⟨0x5001, 1, 7, false, some 3, [un .rwn .a 1 3 4 0 1000000 0]⟩,
  ⟨0x5002, 1, 7, false, some 24, [bm .w1c .a 1 1 1 0x1F 0, ro 2 2 1 0xFF, ro 3 11 4 0,
    ro 12 14 2 0, ro 15 23 4 0, bm .wo .a 24 24 1 7 0]⟩,
  ⟨0x5003, 1, 7, false, some 7, [rawv .rwn .c 1 3 2 0xFFFF, un .rwn .a 4 6 1 1 255 1,
    rawv .rwn .a 7 7 2 0]⟩,
  ⟨0x5010, 32, 7, false, some 24, [rawv .rwn .c 1 4 2 0, rawv .rwn .a 5 20 4 0,
    dom .wo .a 21 21 64 64 64 0, ro 22 23 4 0, ro 24 24 1 0]⟩,
  ⟨0x5040, 1, 7, false, some 32, [ro 1 32 4 0]⟩,
  ⟨0x6000, 4, 7, false, some 15, [bl .rwn .a 1 1 0, rawv .rwn .c 2 2 2 0,
    fl .rw .a 3 3 (0x80000000 + fMax) fMax 0, rawv .rwn .c 4 4 2 0, fl .rwn .a 5 7 1 fMax 0x3F800000,
    fl .rwn .a 8 8 0 fMax 0, bm .rwn .a 9 9 1 0xFF 0, dom .wo .a 10 10 16 16 16 0, bl .wo .a 11 11 0,
    ro 12 14 4 0, ro 15 15 1 0]⟩,
  ⟨0x6004, 1, 7, false, some 4, [rawv .rwn .c 1 1 2 0xFFFF, fl .rwn .a 2 2 1 fMax 0x3A83126F,
    ro 3 4 4 0]⟩,
  ⟨0x6010, 1, 6, false, some 7, [un .rwn .a 1 1 1 2 3 2, rawv .rwn .c 2 3 1 0xFF,
    un .rwn .c 4 4 1 1 4 1, ro 5 6 1 0, ro 7 7 4 0]⟩]

/-- Areas 0x7, 0x8 and 0x9 (spec/09 R310 to R314, spec/10 R352 to R357, spec/11 R374 to R377). -/
def famGuard : List Family := [
  ⟨0x7000, 1, 6, false, some 3, [un .rwn .c 1 1 1 0 1 0, un .rwn .c 2 3 1 0 0 0]⟩,
  ⟨0x7001, 1, 6, false, some 12, [bm .rwn .c 1 8 1 7 7, un .rwn .c 9 9 1 0 1 0,
    un .rwn .c 10 10 4 6250 625000000 625000, un .rwn .c 11 11 1 1 255 3, bm .wo .a 12 12 1 7 0]⟩,
  ⟨0x7002, 1, 6, false, some 5, [bl .rwn .c 1 1 0, un .rwn .c 2 2 2 10 2000 100, ro 3 3 1 0,
    ro 4 5 4 0]⟩,
  ⟨0x7003, 1, 6, false, some 3, [ro 1 2 1 0, ro 3 3 4 0]⟩,
  ⟨0x7004, 1, 6, false, some 8, [ro 1 1 1 0, ro 2 5 2 0, ro 6 6 4 0, ro 7 7 1 0, ro 8 8 4 0]⟩,
  ⟨0x8000, 1, 1, false, some 18, [rawv .rwn .c 1 6 1 0xFF, un .rwn .c 7 12 1 0 191 0,
    rawv .rwn .c 13 18 4 0]⟩,
  ⟨0x8001, 1, 3, true, some 9, [bl .rwn .c 1 1 1, un .rwn .c 2 2 4 0 0xFFFFFFFF 62500,
    un .rwn .c 3 3 1 0 15 0, un .rwn .c 4 4 1 2 16 2, ro 5 6 1 0, ro 7 7 2 0,
    dom .ro .never 8 8 192 192 192 (2 ^ 1536 - 1), ro 9 9 4 0]⟩,
  ⟨0x8002, 1, 3, true, some 10, [bl .rwn .a 1 1 0, un .rwn .a 2 2 1 1 255 1,
    fl .rwn .a 3 3 0 0x42C80000 0x3F000000, fl .rwn .a 4 4 0 0x3E800000 0x3D4CCCCD,
    fl .rwn .a 5 5 0 fMax 0x40A00000, rawv .rwn .c 6 6 2 0, ro 7 8 4 0, ro 9 9 1 0xFF, ro 10 10 4 0]⟩,
  ⟨0x8003, 1, 3, true, some 12, [un .rwn .c 1 1 1 1 192 1, un .rw .a 2 2 1 0 191 0,
    un .wo .run 3 3 1 1 2 0, fl .rwn .c 4 4 0x3A83126F 0x3E4CCCCD 0x3CA3D70A,
    un .rwn .c 5 5 1 1 255 8, un .rwn .c 6 6 2 10 60000 2000, ro 7 8 1 0, ro 9 11 4 0, ro 12 12 1 0]⟩,
  ⟨0x8010, 1, 1, false, some 14, [un .rwn .c 1 1 4 2500 12500 12500, rawv .rw .a 2 4 4 0,
    ro 5 7 4 0x3F800000, bl .rwn .c 8 8 0, un .rwn .c 9 9 1 1 16 3, un .rwn .c 10 10 2 10 10000 500,
    fl .rwn .c 11 11 0 fMax 0x40A00000, un .rwn .c 12 12 1 1 255 8, ro 13 14 4 0]⟩,
  ⟨0x8011, 1, 1, false, some 9, [ro 1 2 4 0, ro 3 9 1 0]⟩,
  ⟨0x9000, 1, 1, false, some 46, [un .rwn .c 1 28 4 0 0x0FFFFFFF 0, rawv .rwn .c 29 44 4 0,
    fl .rwn .c 45 45 0x3F800000 0x42C80000 0x41C80000, un .rwn .c 46 46 1 1 255 10]⟩,
  ⟨0x9001, 1, 1, false, some 9, [rawv .rwn .c 1 1 4 0x430C0000, rawv .rwn .c 2 2 4 0x431B0000,
    rawv .rwn .c 3 4 4 0x42FA0000, rawv .rwn .c 5 5 4 0x43160000, rawv .rwn .c 6 6 4 0x42C80000,
    rawv .rwn .c 7 7 4 0x42F00000, rawv .rwn .c 8 8 4 0x430C0000, rawv .rwn .c 9 9 4 0x42C80000]⟩,
  ⟨0x9002, 1, 1, false, some 44, [ro 1 7 4 0x3F800000, ro 8 35 4 0, bm .w1c .a 36 36 4 0x0FFFFFFF 0,
    ro 37 37 4 0x0FFFFFF0, ro 38 43 1 0xFF, ro 44 44 4 0]⟩,
  ⟨0x9003, 1, 1, false, some 10, [dom .ro .never 1 7 16 16 16 0, ro 8 10 1 0]⟩,
  ⟨0x9004, 1, 1, false, some 3, [bm .wo .a 1 1 1 0x7F 0, ro 2 3 1 0]⟩]

/-- Area 0xA (spec/12 R405 to R409) and the lane and frame objects of area 0xB (spec/13 R440 to R444, spec/14 R475 to R479). -/
def famFault : List Family := [
  ⟨0xA000, 1, 1, false, some 5, [bm .w1c .a 1 4 4 0xFFFFFFFF 0, dom .ro .never 5 5 16 16 16 0]⟩,
  ⟨0xA001, 1, 1, false, some 129, [un .rwn .c 1 128 1 0 4 0,
    fl .rwn .c 129 129 0 0x3F800000 0x3F000000]⟩,
  ⟨0xA002, 1, 1, false, some 4, [rawv .rwn .a 1 4 4 0]⟩,
  ⟨0xA003, 1, 1, false, some 12, [rawv .rwn .a 1 12 4 0xFFFFFFFF]⟩,
  ⟨0xA004, 1, 1, false, some 11, [ro 1 1 1 8, ro 2 9 4 0, bm .w1c .a 10 10 4 0xFFFFFFFF 0,
    bl .rwn .a 11 11 1]⟩,
  ⟨0xB000, 1, 1, false, some 8, [bm .rwn .c 1 1 1 0xF 0xF, un .rwn .c 2 2 1 0 2 2,
    un .rwn .c 3 3 2 1 10000 50, un .rwn .c 4 4 2 0 10000 100, un .rwn .c 5 5 2 2 1000 10,
    un .rwn .c 6 6 2 2 1000 5, un .rwn .c 7 7 1 0 3 2, un .rwn .c 8 8 1 0 7 0]⟩,
  ⟨0xB001, 4, 1, false, some 12, [ro 1 1 1 0, ro 2 2 2 0, ro 3 5 1 0, ro 6 6 1 0xFF, ro 7 12 4 0]⟩,
  ⟨0xB005, 1, 1, false, some 9, [un .rwn .c 1 1 2 10 10000 100, un .rwn .c 2 2 1 1 15 4,
    ro 3 9 4 0]⟩,
  ⟨0xB010, 1, 1, false, some 4, [ro 1 1 8 0, ro 2 2 4 0, ro 3 3 2 0, dom .ro .never 4 4 16 16 16 0]⟩,
  ⟨0xB011, 1, 1, false, some 1, [rawv .rw .a 1 1 8 0x19999999A]⟩,
  ⟨0xB012, 1, 1, false, some 2, [dom .wo .a 1 1 16 16 16 0, ro 2 2 4 0]⟩,
  ⟨0xB013, 1, 1, true, some 8, [un .rwn .c 1 1 4 125 100000 1000,
    fl .rwn .a 2 2 0 0x3F800000 0x3F000000, fl .rwn .a 3 3 0 0x3F800000 0x3DCCCCCD,
    fl .rwn .a 4 4 0x358637BD 0x3A83126F 0x3983126F, un .rwn .a 5 5 4 100 1000000000 1000,
    bl .rwn .a 6 6 1, fl .rwn .a 7 7 0x3DCCCCCD 0x447A0000 0x3F000000, ro 8 8 4 0]⟩,
  ⟨0xB014, 1, 1, true, some 64, [ro 1 64 4 0]⟩,
  ⟨0xB016, 1, 1, false, some 4, [un .rwn .c 1 1 1 0 3 0, un .rwn .c 2 2 4 1 312500000 62500,
    dom .ro .never 3 3 16 16 16 0, ro 4 4 4 0]⟩,
  ⟨0xB018, 8, 1, false, some 7, [dom .rw .a 1 1 16 16 16 0, rawv .rw .a 2 2 4 0,
    bm .rw .a 3 3 4 0x3FFFF 0, bm .rw .a 4 4 1 3 0, ro 5 5 1 0, ro 6 7 4 0]⟩,
  ⟨0xB020, 1, 1, false, some 11, [ro 1 2 1 0, ro 3 3 2 0, ro 4 7 4 0, ro 8 8 1 0, ro 9 11 4 0]⟩,
  ⟨0xB021, 1, 1, false, some 17, [un .rwn .a 1 1 4 8000 10000000 64000, un .rwn .a 2 2 1 0 1 0,
    rawv .rwn .a 3 3 4 1000, un .rwn .c 4 4 1 0 1 1, un .rwn .c 5 5 1 0 3 3, un .rwn .c 6 6 1 1 255 4,
    un .rwn .c 7 7 2 10 10000 100, bm .rwn .a 8 8 1 3 3, bl .rw .a 9 9 0, un .rwn .c 10 10 2 1 10000 100,
    rawv .rwn .a 11 11 2 0, un .rwn .a 12 12 1 0 1 0, un .rwn .c 13 13 2 100 50000 1000,
    un .rwn .c 14 14 2 1 1000 10, rawv .rwn .c 15 15 4 0x3089705F, rawv .rwn .c 16 16 4 0x358637BD,
    un .rwn .c 17 17 2 1 10000 10]⟩,
  ⟨0xB022, 1, 1, false, some 18, [ro 1 1 1 0, ro 2 2 4 0, ro 3 3 8 0, ro 4 5 4 0, ro 6 6 1 0,
    ro 7 7 8 0, ro 8 8 4 0, ro 9 9 1 0, ro 10 10 4 0, ro 11 11 8 0, ro 12 13 4 0, ro 14 14 1 0,
    ro 15 15 8 0, ro 16 16 4 0, ro 17 18 1 0]⟩,
  ⟨0xB030, 1, 1, false, some 10, [ro 1 2 1 0xFF, ro 3 3 2 0, ro 4 7 1 0, ro 8 8 1 0xFF, ro 9 10 4 0]⟩,
  ⟨0xB040, 1, 1, true, some 6, [bm .rwn .a 1 1 4 0xFFFFFFFE 0xFFFFFFFE, un .rwn .a 2 2 2 1 10000 50,
    ro 3 3 1 0, ro 4 6 4 0]⟩]

/-- Area 0xC (spec/16 R539 to R544, spec/17 R573 to R576). -/
def famCan : List Family := [
  ⟨0xC000, 1, 2, false, some 15, [bm .rwn .c 1 1 2 0xFF 0x77, un .rwn .c 2 2 2 1 256 1,
    un .rwn .c 3 3 2 2 256 127, un .rwn .c 4 5 1 1 128 32, un .rwn .c 6 6 1 1 32 1,
    un .rwn .c 7 7 1 1 32 29, un .rwn .c 8 9 1 1 16 10, un .rwn .c 10 10 2 0 1023 234,
    bl .wo .c 11 11 0, ro 12 12 4 0x48F42400, ro 13 13 4 0x49F42400, ro 14 14 2 0, ro 15 15 1 0]⟩,
  ⟨0xC010, 1, 2, false, some 100, [dom .ro .never 1 24 80 80 80 0, dom .rw .a 25 100 80 16 80 0]⟩,
  ⟨0xC020, 1, 2, false, some 5, [dom .ro .never 1 1 12 12 12 0, ro 2 2 1 0, bl .w1c .a 3 3 0,
    ro 4 4 4 0, bl .wo .a 5 5 0]⟩,
  ⟨0xC030, 1, 2, false, some 16, [ro 1 2 2 0, ro 3 5 1 0, ro 6 6 4 0, ro 7 7 1 0, bl .wo .a 8 8 0,
    ro 9 9 4 0, ro 10 10 1 0, bl .wo .a 11 11 0, ro 12 16 4 0]⟩,
  ⟨0xC040, 1, 1, false, some 1, [un .rwn .c 1 1 1 1 96 0x10]⟩,
  ⟨0xC041, 1, 1, false, some 4, [bl .rwn .c 1 1 1, un .rwn .a 2 2 2 10 60000 1000,
    un .rwn .a 3 3 2 0 10000 0, rawv .rwn .a 4 4 2 0]⟩,
  ⟨0xC042, 1, 1, false, some 7, [ro 1 5 4 0, ro 6 6 1 0, dom .ro .never 7 7 64 64 64 0]⟩,
  ⟨0xC043, 2, 1, false, some 9, [rawv .rwn .c 1 8 4 0, ro 9 9 1 0]⟩]

/-- Areas 0xD and 0xE (spec/18 R603 to R610, spec/19 R632 to R636). -/
def famCapture : List Family := [
  ⟨0xD000, 1, 1, false, some 16, [bl .rw .a 1 1 0, rawv .rwn .a 2 2 2 0xFFFF, rawv .rwn .a 3 3 2 0,
    un .rwn .a 4 4 4 0 131072 0, un .rwn .a 5 5 4 1 1000000 1024, un .rwn .a 6 6 2 0 4096 64,
    un .rwn .a 7 7 1 0 1 0, bl .wo .a 8 9 0, un .rwn .c 10 10 1 0 1 0, un .rwn .c 11 11 1 0 31 0,
    un .rwn .a 12 12 2 1 10000 10, ro 13 13 1 0, ro 14 14 8 0, ro 15 16 4 0]⟩,
  ⟨0xD010, 32, 1, false, some 5, [rawv .rwn .a 1 1 2 0, un .rwn .a 2 2 1 0 6 0,
    un .rwn .a 3 3 2 1 65535 1, ro 4 4 1 0, ro 5 5 4 0]⟩,
  ⟨0xD040, 1, 1, false, some 81, [un .rwn .a 1 16 1 0 7 0, rawv .rwn .a 17 32 2 0,
    rawv .rwn .a 33 64 4 0, bm .rwn .a 65 80 1 0x73 0, bm .w1c .a 81 81 4 0x1FFFF 0]⟩,
  ⟨0xD041, 1, 1, false, some 8, [rawv .rwn .a 1 2 4 0, un .rwn .a 3 3 4 1 62500 625, bl .rwn .c 4 4 1,
    ro 5 5 1 0, dom .ro .never 6 7 16 16 16 0, bl .wo .a 8 8 0]⟩,
  ⟨0xD050, 1, 1, false, some 7, [ro 1 2 4 0, ro 3 3 4 0xFFFFFFFF, ro 4 6 4 0, bl .wo .a 7 7 0]⟩,
  ⟨0xD060, 1, 1, false, some 15, [con 1 4 163840, bm .w1c .a 2 2 1 0x16 1, ro 3 3 4 0,
    ro 4 4 4 163840, ro 5 15 4 0]⟩,
  ⟨0xD061, 1, 1, false, some 7, [ro 1 1 8 0, dom .ro .never 2 2 0 0 14336 0,
    un .rwn .a 3 3 2 1 1792 1024, bl .wo .a 4 6 0, ro 7 7 8 0]⟩,
  ⟨0xE000, 1, 1, false, some 2, [bl .wo .a 1 1 0, bl .wo .c 2 2 0]⟩,
  ⟨0xE001, 1, 1, false, some 9, [ro 1 3 1 0, ro 4 9 4 0]⟩,
  ⟨0xE002, 1, 1, false, some 2, [un .rw .a 1 1 4 0 65528 0, dom .rw .a 2 2 0 8 4096 0]⟩,
  ⟨0xE010, 1, 1, false, some 6, [dom .wo .all 1 1 0 256 131064 0, ro 2 2 1 0, ro 3 3 4 0, ro 4 4 1 0,
    ro 5 6 4 0]⟩,
  ⟨0xE011, 1, 1, false, some 5, [un .wo .all 1 1 1 1 2 0, ro 2 3 1 0, ro 4 4 4 0,
    un .rwn .a 5 5 2 10 60000 1000]⟩,
  ⟨0xE020, 1, 1, false, some 4, [dom .wo .a 1 1 12 12 12 0, bm .wo .a 2 2 1 0xF 0, ro 3 4 1 0]⟩,
  ⟨0xE021, 1, 1, false, some 16, [ro 1 2 1 0, ro 3 3 4 0, dom .ro .never 4 4 16 16 16 0,
    ro 5 6 1 0, ro 7 7 4 0, dom .ro .never 8 8 16 16 16 0, ro 9 10 1 0, ro 11 11 4 0,
    dom .ro .never 12 12 16 16 16 0, ro 13 14 1 0, ro 15 15 4 0, dom .ro .never 16 16 16 16 16 0]⟩]

/-- Every object family (spec/20 R648). -/
def families : List Family :=
  famCore ++ famEdge ++ famMeas ++ famLoop ++ famGuard ++ famFault ++ famCan ++ famCapture

/-- Whether the unit nibble of an area names repeated units (spec/20 R637); elsewhere it is part of the index. -/
def unitArea (area : Nat) : Bool :=
  area == 3 || area == 5 || area == 6 || area == 7 || area == 8 || area == 0xC

/-- The unit of an index, 0 where its area has none (spec/20 R637). -/
def unitOf (idx : Nat) : Nat := if unitArea (idx / 4096) then idx / 256 % 16 else 0

/-- The index with its unit cleared. -/
def baseOf (idx : Nat) : Nat := idx - 256 * unitOf idx

/-- The family that holds an index (spec/20 R640: none is STATUS 2). -/
def familyOf (idx : Nat) : Option Family :=
  families.find? fun f =>
    f.base ≤ baseOf idx && baseOf idx < f.base + f.count && unitOf idx < f.units

/-- The map row of a subindex of a family; subindex 0 of an array or record is its count (spec/00 R8, spec/20 R638). -/
def subOf (f : Family) (sub : Nat) : Option Sub :=
  match sub, f.cnt with
  | 0, some n => some (ro 0 0 1 n)
  | k, _ => f.subs.find? fun e => e.lo ≤ k && k ≤ e.hi

/-- Default classes of the event sources (spec/12 R404). -/
def classDefault (n : Nat) : Nat :=
  if n ≤ 41 || n = 78 then 2
  else if n = 42 || n = 79 || n = 88 || n = 127 then 3
  else if n = 117 || n = 126 then 4 else 0

/-- Defaults that differ within a family: HOME (spec/06 R174), SCALE and OFFSET of internal channels (R177), NEIGHBOURS of the die sensors (spec/11 R374), CLASS (spec/12 R404), UNIQUE_ID (spec/20 R645). -/
def specialDefault (key : Nat) : Option Nat :=
  let idx := key / 256
  let sub := key % 256
  if key = 0x000004 then some Config.uniqueId.toNat
  else if 0x4100 ≤ idx && idx ≤ 0x4119 then
    let ch := idx - 0x4100
    if sub = 1 then some (if ch ≤ 5 then ch % 2 else if ch ≤ 12 then 2 else 3)
    else if sub = 3 then
      if 17 ≤ ch && ch ≤ 20 then some (Config.dieScale (ch - 17)).toNat
      else if ch = 22 then some 0x404CCCCD
      else if ch = 23 then some 0x40CCCCCD
      else if 21 ≤ ch then some 0x3FCCCCCD else none
    else if sub = 4 && 17 ≤ ch && ch ≤ 20 then some (Config.dieOffset (ch - 17)).toNat
    else none
  else if idx = 0x9000 && 1 ≤ sub && sub ≤ 4 then some (15 - 2 ^ (sub - 1))
  else if idx = 0xA001 && 1 ≤ sub && sub ≤ 128 then some (classDefault (sub - 1))
  else none

/-- The value an object has at reset and reads before anything has written it: its default. -/
def objDefault (key : Nat) : Nat :=
  match specialDefault key with
  | some v => v
  | none =>
    match familyOf (key / 256) with
    | none => 0
    | some f =>
      match subOf f (key % 256) with
      | none => 0
      | some e => e.dflt

/-- The index of offset o and unit u of a family. -/
def familyIndex (f : Family) (o u : Nat) : Nat := f.base + o + 256 * u

/-- Every (key, size) of access RWN, by ascending index, then unit, then subindex (spec/20 R644). -/
def rwnKeys : List (Nat × Nat) :=
  families.flatMap fun f => (List.range f.count).flatMap fun o => (List.range f.units).flatMap fun u =>
    f.subs.flatMap fun e =>
      if e.acc == .rwn then
        (List.range (e.hi + 1 - e.lo)).map fun i => (familyIndex f o u * 256 + e.lo + i, e.size)
      else []

end Sys2Proof.Machine
end

