-- ==== Sys2Proof/Machine/Store.lean ====
section
/-! DEFINITION. The dictionary's values and the byte memories: sorted lists of pairs in one canonical form, with the operations that keep it. -/

namespace Sys2Proof.Machine

/-- The values of the dictionary: (key, value) pairs, keys strictly rising, no entry equal to the object's default. A key is index · 256 + subindex. -/
abbrev Store := List (Nat × Nat)

/-- The value listed for a key. -/
def storeFind (k : Nat) : Store → Option Nat
  | [] => none
  | (a, v) :: st => if a = k then some v else storeFind k st

/-- Reading a key: an unlisted key reads the object's default (spec/20 R648). -/
def storeGet (st : Store) (k : Nat) : Nat := (storeFind k st).getD (objDefault k)

/-- Listing a value for a key. -/
def storeInsert (k v : Nat) : Store → Store
  | [] => [(k, v)]
  | (a, w) :: st =>
    if k < a then (k, v) :: (a, w) :: st
    else if a = k then (k, v) :: st
    else (a, w) :: storeInsert k v st

/-- Dropping a key. -/
def storeErase (k : Nat) (st : Store) : Store := st.filter fun e => e.1 != k

/-- Writing a key: the default's entry is dropped, so that equal dictionaries are equal lists. -/
def storeSet (st : Store) (k v : Nat) : Store :=
  if v = objDefault k then storeErase k st else storeInsert k v st

/-- The canonical form of a dictionary: keys strictly rising, no entry at its default. -/
def storeWf : Store → Bool
  | [] => true
  | (a, v) :: st =>
    v != objDefault a &&
    (match st with
     | [] => true
     | (b, _) :: _ => a < b) && storeWf st

/-- A byte memory: (address, byte) pairs, addresses strictly rising, no entry equal to 0, which an unlisted byte reads (log entry 9). -/
abbrev Mem := List Host.Cell

/-- Reading a byte. -/
def memRead : Mem → Nat → Byte
  | [], _ => 0
  | (a, b) :: m, k => if a = k then b else memRead m k

/-- Listing a byte at an address. -/
def memInsert (k : Nat) (b : Byte) : Mem → Mem
  | [] => [(k, b)]
  | (a, c) :: m =>
    if k < a then (k, b) :: (a, c) :: m
    else if a = k then (k, b) :: m
    else (a, c) :: memInsert k b m

/-- Writing a byte: an entry of 0 is dropped, so that equal memories are equal lists. -/
def memWrite (k : Nat) (b : Byte) (m : Mem) : Mem :=
  if b = 0 then m.filter fun e => e.1 != k else memInsert k b m

/-- Writing a byte string from an address up. -/
def memWriteBytes : Nat → Bytes → Mem → Mem
  | _, [], m => m
  | k, b :: bs, m => memWriteBytes (k + 1) bs (memWrite k b m)

/-- Reading n bytes from an address up. -/
def memReadBytes (m : Mem) (k n : Nat) : Bytes := (List.range n).map fun i => memRead m (k + i)

/-- The canonical form of a byte memory. -/
def memWf : Mem → Bool
  | [] => true
  | (a, b) :: m =>
    b != 0 &&
    (match m with
     | [] => true
     | (c, _) :: _ => a < c) && memWf m

end Sys2Proof.Machine
end

