-- ==== Sys2Proof/Machine/State.lean ====
section
/-! DEFINITION. The state of the device as plain data, and the state right after the release of a power-on reset. -/

namespace Sys2Proof.Machine

/-- Why a step stops without a meaning. -/
inductive Refusal where
  /-- A command whose meaning is not written: raised by its arm of the dispatch alone; safe, since the machine stops. -/
  | notModelled (mnemonic : String)
  deriving DecidableEq, Repr

/-- Why a step stops with a fault. -/
inductive Fault where
  /-- No command raises it: the spec gives every row of the table an effect. Safe. -/
  | none
  deriving DecidableEq, Repr

/-- Network time (spec/14 R462): whole seconds, and the accumulator of the second in units of 2^-32 ns. -/
structure NetTime where
  sec : Nat
  acc : Nat
  deriving DecidableEq, Repr

/-- The reset logic, the Supervisor's presence and COCOON's progress (spec/04). -/
structure PowerSt where
  /-- The power-on reset is asserted (R94). -/
  por : Bool
  /-- A RESET_N pulse is recognised and the reset asserted (R96). -/
  pinReset : Bool
  /-- DEVICE_RESET is accepted: the tick by which the reset asserts (R98). -/
  resetDue : Option Nat
  /-- The Supervisor executes (R22, R23, R99). -/
  supervisor : Bool
  /-- Neither firmware bank is valid: the boot loader answers (R102). -/
  bootLoader : Bool
  /-- Steps 4 to 6 of BOOT are done: firmware, dictionary and lockout records are loaded (R101). -/
  loaded : Bool
  /-- COCOON is being entered (R115). -/
  entering : Bool
  /-- A wake source has been seen and HATCH is due (R114, R115). -/
  waking : Bool
  /-- Tick from which the watchdog counts; none while it is held (R100). -/
  wdtFrom : Option Nat
  /-- The time-out tick of a controlled stop (spec/10 R351). -/
  stopAt : Option Nat
  /-- The safe cause that set SAFE_PENDING (R106). -/
  pendingCause : Nat
  /-- The transactions that CMD CHARGE answers once the manager has read the chain, with the positions at which a SWARM of it failed (spec/10 R317, spec/17 R562, R566). -/
  chargeReply : List (Nat × Option Nat)
  /-- Tick of the last accepted ABORT (R117, R121). -/
  abortAt : Nat
  /-- The tick at which a happening other than CMD SAFE last took the device to SAFE or LOCKOUT, and the state it left (R105). -/
  fell : Option (Nat × Nat)
  deriving DecidableEq, Repr

/-- The balls the device reads (spec/02 R29), at their present levels; they belong to the board and outlast every reset. -/
structure PinSt where
  fltInP : Bool
  fltInN : Bool
  safeN : Bool
  pselN : Bool
  /-- The DF inputs: the fault level is recognised (spec/06 R207). -/
  dfLow : Vector Bool 18
  deriving DecidableEq, Repr

/-- IEEE 1149.1 instructions (spec/02 R52). -/
inductive Jtag where
  | bypass | samplePreload | extest | idcode
  deriving DecidableEq, Repr

/-- The test access port (spec/02 R52, R53): the instruction in force, what the boundary-scan register last captured, the values that its update latches hold, the bypass register, and the bits that the last scan brought out on TDO, the first one first; the cells stand in the order of log entry 129. -/
structure TapSt where
  ir : Jtag
  captured : BitVec 139
  preload : BitVec 139
  bypass : Bool
  tdo : List Bool
  deriving DecidableEq, Repr

/-- One PLL beside its objects: the tick at which its acquisition restarted, the tick at which its 10 ms limit falls (spec/03 R72), the feedback divider N and the output divider D that the device has set (R64, R65), and the tick from which the spread triangle runs (R67). -/
structure PllSt where
  startAt : Nat
  acqLimit : Option Nat
  n : Nat
  d : Nat
  spreadAt : Option Nat
  deriving DecidableEq, Repr

/-- One fine-delay line (spec/03 R84, R86, spec/05 R127): the element selection per tap in use and in the shadow, whether the shadow waits, the consecutive implausible measurements, and the instant in taps of the edge that the Edge unit last placed on it. -/
structure LineSt where
  /-- The instant of the last edge from the Edge unit, and that of the last turn-off of any origin, in taps (R84, spec/09 R299). -/
  edgeAt : Option Nat
  offAt : Option Nat
  taps : Vector Byte 16
  shadow : Vector Byte 16
  waiting : Bool
  implausible : Nat
  deriving DecidableEq, Repr

/-- The clock sources (spec/03). -/
structure ClockSt where
  pll : Vector PllSt 3
  /-- REFCLK is declared present (R76). -/
  refPresent : Bool
  /-- Source 90 stands: the relaxation oscillator is out of range (R78). -/
  oscBad : Bool
  /-- Quarter ticks counted while the timebase runs on the relaxation oscillator (R77). -/
  quarter : Nat
  lines : Vector LineSt 72
  /-- The line measured next and the tick at which its measurement ends, and the largest tap error of the pass so far (R84, R87). -/
  nextLine : Nat
  lineDue : Nat
  passWorst : F32
  deriving DecidableEq, Repr

/-- The shadowed values of one bridge (spec/05 R153), and PHASE_SLEW, which a change of slot loads with PHASE (spec/10 R333). -/
structure EdgeVals where
  ticks : Nat
  fine : Nat
  phase : Nat
  fixed : Nat
  leg2 : Nat
  tcmp : Nat
  tcmpAbs : Nat
  cmp : Vector Nat 2
  cmpAbs : Vector Nat 2
  dead : Vector Nat 2
  boot : Vector Nat 2
  slew : Nat
  deriving DecidableEq, Repr

/-- What has been loaded for a bridge: the shadows, those loaded and not yet transferred bit by bit in the order of EdgeVals, COMMIT armed (spec/05 R153 to R157). -/
structure Loads where
  vals : EdgeVals
  pend : Nat
  armed : Bool
  deriving DecidableEq, Repr

/-- The shadow side of a bridge (spec/05 R154): the loads up to now; those made before the tick of the last load; that tick; what was loaded in it. -/
structure ShadowSt where
  now : Loads
  before : Loads
  tick : Nat
  fresh : Nat
  freshArm : Bool
  deriving DecidableEq, Repr

/-- One carrier (spec/05). Its instants are in carrier time: taps of network time for a NETWORK carrier, else taps of the local timebase (R127, R130). -/
structure CarrierSt where
  running : Bool
  /-- The waveform in force (R136, R139) and the phase reference in force (R129 to R131, R163). -/
  mode : Nat
  pref : Nat
  /-- The values in force (R153). -/
  v : EdgeVals
  sh : ShadowSt
  /-- What the transfer instant has latched for the coming boundary (R154); a follower's PHASE waits for its leader's ZERO. -/
  staged : Option EdgeVals
  stagedPhase : Option Nat
  /-- What is latched is an armed COMMIT's (R157); a loaded shadow is among it. -/
  commits : Bool
  moves : Bool
  /-- Boundaries counted under R158, and LOAD_SKEW of STATUS. -/
  skew : Nat
  skewFlag : Bool
  /-- A follower's present alignment, as a Q31 fraction of its leader's period (R131, R133); whether it was stretched past its leader's next ZERO. -/
  phi : Option Nat
  stretched : Bool
  /-- The instant from which θ counts, the last ZERO, and its local instant. -/
  zeroAt : Int
  lastZero : Nat
  zeroLoc : Nat
  /-- Taps over which ratios of this period are taken; those of the period that began at the last ZERO; those of the period that the coming ZERO begins, of a follower. -/
  span : Nat
  pk : Nat
  nextSpan : Nat
  /-- The next ZERO; whether it is placed, for a follower only after its leader's ZERO (R131). -/
  nextAt : Nat
  placed : Bool
  /-- The phase error in taps, a follower's in units of 2^-31 of the period (R133). -/
  err : Int
  /-- The first ZERO since the start has come. -/
  started : Bool
  /-- The apex and the TCMP event of this period have come (R164). -/
  apexDone : Bool
  tcmpDone : Bool
  /-- Network-time origin of a NETWORK carrier, in taps (R130, R134, R135). -/
  origin : Nat
  /-- Number of the next event of each type before its prescaler, which types renumber at the next ZERO, and the instant of the last event passed (R165, R166). -/
  evIdx : Vector Nat 5
  evRestart : Vector Bool 5
  evAt : Vector (Option Nat) 5
  /-- The Edge unit drives the bridge's gates (R161). -/
  driving : Bool
  deriving DecidableEq, Repr

/-- A command pulse of a leg: polarity, leading instant in carrier time, carry applied, and the instant at which its waveform ended where a boundary has passed since and its trailing edge is still to come (spec/05 R145, R146). -/
structure PulseSt where
  high : Bool
  lead : Nat
  a : Nat
  tail : Option Nat
  deriving DecidableEq, Repr

/-- One leg (spec/05). -/
structure LegSt where
  /-- The leg command. -/
  level : Bool
  pulse : Option PulseSt
  /-- An erased pulse whose trailing instant is to come: polarity, leading instant. -/
  erased : Option PulseSt
  /-- Both gates stay off after an erased first pulse until the next change (R161). -/
  blank : Bool
  /-- The command went low in this period; periods counted; refresh due in this period; the start and the width of a refresh in progress (R149 to R151). -/
  lowSeen : Bool
  bootCount : Nat
  refreshDue : Bool
  refreshing : Option (Nat × Nat)
  /-- A pulse was erased in this period; consecutive periods with one (R168). -/
  erasedNow : Bool
  eraseRun : Nat
  /-- A turn-on waiting for its dead time: H or L, local instant in taps (R140). -/
  turnOn : Option (Bool × Nat)
  /-- Tick at which Guard turns L on for a ZERO pattern (R297). -/
  safeOn : Option Nat
  deriving DecidableEq, Repr

/-- What an opening contactor is for: nothing, CELL_CLEAR (R308), or a MOLT step (R348). -/
inductive Opening where
  | no | cellClear | molt
  deriving DecidableEq, Repr

/-- Where a BYP ball stands in its sense cycle (spec/02 R47, R49): the commanded level driven before the release, released, released and sampled, driven again because the command changed in the window. -/
inductive Sense where
  | driven | released | sampled | ended
  deriving DecidableEq, Repr

/-- Guard and the BYP ball of one cell (spec/09, spec/02 R47). -/
structure GuardSt where
  /-- The bridge's own DF input has reported a fault since its hold began (R289 row 2). -/
  row2 : Vector Bool 3
  /-- Tick at which each trip input of R315 last became inactive. -/
  quiet : Vector Nat 9
  /-- Tick of the last automatic release (R305). -/
  lastAuto : Option Nat
  /-- Tick at which the bypass sequence commands the contactor; tick at which it did; its time-out (R306, R307). -/
  closeAt : Option Nat
  closedAt : Nat
  bypLimit : Option Nat
  /-- An opening under way and its time-out (R308, R348). -/
  opening : Opening
  openLimit : Option Nat
  /-- The last opening of a re-insertion ended with BYP_TIMEOUT (spec/10 R348). -/
  openFailed : Bool
  /-- Tick at which a standing difference becomes a mismatch (R309). -/
  mismatchAt : Option Nat
  /-- The sense cycle: its start tick, where the ball stands in it, and consecutive samples at the new level (R47 to R49). -/
  cycleAt : Option Nat
  sense : Sense
  count : Nat
  deriving DecidableEq, Repr

/-- An event that the router has signalled (spec/05 R165, R166; the codes of spec/07 R226): its code, its tick, the consumers that have acted on it. -/
structure Signal where
  code : Nat
  tick : Nat
  taken : List Nat
  deriving DecidableEq, Repr

/-- The rails of the 128 event sources: conditions asserted, occurrences latched since the last decision (spec/12). -/
structure RailSt where
  cond : BitVec 128
  occ : BitVec 128
  deriving DecidableEq, Repr

/-- What one block of a run produced (spec/07 R230 to R243): output, new states, flags of R261, and for a PI the error, feed-forward and limits a write-back uses. -/
structure BlkRes where
  blk : Nat
  out : Nat
  s1 : Nat
  s2 : Nat
  flags : Nat
  e : Nat
  u2 : Nat
  lo : Nat
  hi : Nat
  deriving DecidableEq, Repr

/-- A run in progress: trigger tick, deadline tick, staged field values, results, whether it started after an uncommitted mode request (spec/07 R246, R247; spec/08 R283); whether the engine has begun it, the tick since which it computes, the ticks it computed before that (R225); the typical ns at which each block starts and the run ends (R244), and the results that were not finite, with the place of the block that produced each; how many of its blocks have executed as far as is recorded (R251); whether it was suspended with its last block done (R225). -/
structure RunSt where
  trig : Nat
  deadline : Nat
  staged : List (Nat × Nat)
  res : List BlkRes
  sawReq : Bool
  begun : Bool
  since : Option Nat
  ran : Nat
  starts : List Nat
  total : Nat
  bad : List (Nat × Nat)
  noted : Nat
  done : Bool
  deriving DecidableEq, Repr

/-- A step of a profile group in progress: its trigger tick, the tick at which it ends, and POSITION, VELOCITY, ACCEL and STATUS that each of its channels takes then (spec/08 R268). -/
structure StepSt where
  trig : Nat
  endsAt : Nat
  outs : List (Fin 4 × Vector Nat 4)
  deriving DecidableEq, Repr

/-- A task: its run, the tick of its last accepted trigger, whether its miss source has been raised since the last commit, and the SEQ of its class 2 and 3 references at the last run start (spec/07 R227, R233, R250). -/
structure TaskSt where
  run : Option RunSt
  lastTrig : Option Nat
  missRaised : Bool
  seqs : List (Nat × Nat)
  deriving DecidableEq, Repr

/-- A block beside its objects: consecutive clamped runs, whether the clamp event stands, whether it has run since a clear (spec/07 R241, R252). -/
structure BlkAux where
  clamped : Nat
  raised : Bool
  ran : Bool
  deriving DecidableEq, Repr

/-- Why a profile channel seeds at its next step (spec/08 R270, R272). -/
inductive Seed where
  | no | start | mode
  deriving DecidableEq, Repr

/-- One engine with its profile group: tasks, blocks, the string engine's refusal of triggers (R254), the group's stepping, its last accepted trigger, seeds due, last finite targets, and the step in progress (spec/08 R267, R268, R270, R280). -/
structure EngineSt where
  tasks : Vector TaskSt 3
  blk : Vector BlkAux 32
  inhibited : Bool
  stepping : Bool
  lastStep : Option Nat
  seed : Vector Seed 4
  lastTarget : Vector Nat 4
  step : Option StepSt
  deriving DecidableEq, Repr

/-- The string references in force in this device (spec/10 R325, R329; spec/15 R490): MOD_REF and STEER of each cell as Q15 words, SHARE_TARGET and OWN_CURRENT, and the values of indices 16 to 39. -/
structure RefSt where
  modRef : Vector Nat 6
  steer : Vector Nat 6
  share : Nat
  own : Nat
  strings : Vector Nat 24
  deriving DecidableEq, Repr


/-- What a STATUS contribution says of one cell (spec/10 R326). -/
structure CellRep where
  v : Nat
  state : Nat
  flags : Nat
  seq : Nat
  deriving DecidableEq, Repr

/-- The last STATUS contribution of a device, and the assemblies since (spec/10 R326, R327). -/
structure Contrib where
  current : Nat
  dev : Nat
  runCells : Nat
  flags : Nat
  cells : Vector CellRep 6
  missed : Nat
  deriving DecidableEq, Repr

/-- One cell of the installation map with what the frame unit keeps of it: active, slot in force (0xFF none) and its phase, steering offset, OFF set (spec/10 R317, R332, R337, R340, R351). -/
structure MapCell where
  dev : Fin 32
  cell : Cell
  str : Fin 3
  pos : Nat
  active : Bool
  slot : Nat
  phase : Nat
  steer : Int
  off : Bool
  deriving DecidableEq, Repr

/-- A pending MOLT step: the cell, removal or re-insertion, the tick of acceptance, whether its request has been applied, consecutive pre-charged contributions, the pre-charge limit, joining, and the result an abort ends it with (spec/10 R343 to R350). -/
structure MoltSt where
  dev : Fin 32
  cell : Cell
  insert : Bool
  since : Nat
  applied : Bool
  /-- The cell has been reported in INSERTING. -/
  entered : Bool
  seen : Nat
  limit : Option Nat
  opening : Bool
  joining : Bool
  abort : Option Nat
  deriving DecidableEq, Repr

/-- The string frame unit (spec/10): the map, the contributions, MOLT, steering counts, the stop, the frame assembled and not yet issued. -/
structure StringSt where
  map : List MapCell
  contrib : Vector (Option Contrib) 32
  molt : Vector (Option MoltSt) 3
  /-- Assemblies since steering was last recomputed (R338). -/
  sinceSteer : Vector Nat 3
  /-- The stop was accepted in CHARGE; consecutive assemblies at or below STOP_I_MAX; trips are off since OFF was set (R351). -/
  stopInCharge : Bool
  settled : Nat
  noTrip : Vector Bool 3
  /-- Network ticks of assembly and the payload waiting for its issue instant (R321). -/
  assembled : Option Bytes
  lastIssue : Nat
  deriving DecidableEq, Repr

/-- The receiving side of STRING frames in this device (spec/10 R325, R333; spec/15 R484, R485, R490): SEQ and DEVICES of the last accepted frame, SLOT of each cell and N_ACTIVE of its string as last seen, m_a and m_b, the renewal interval, the instants of the last acceptance and the due instants passed since. -/
structure StringRx where
  seq : Option Nat
  devices : Option Nat
  slots : Vector (Option (Nat × Nat)) 6
  ma : Vector Nat 6
  mb : Vector Nat 6
  acceptAt : Option Nat
  interval : Option Nat
  dues : Nat
  deriving DecidableEq, Repr

/-- The fault collector beside its objects (spec/12): what the last decision read as asserted, which rails it saw equal, sources marked for WDP and for an EVENT frame, workers' sources to relay, tick of the last decision. -/
structure CollectorSt where
  asserted : BitVec 128
  equal : BitVec 128
  railFault : BitVec 128
  wdpMarks : BitVec 128
  risen : BitVec 128
  relay : List (Nat × Nat × Nat)
  lastAt : Nat
  deriving DecidableEq, Repr

/-- A frame waiting on a lane: whether it is forwarded, and network time at its arrival in units of 2^-32 ns (spec/14 R453, R466). -/
structure QFrame where
  f : Frame
  fwd : Bool
  rx : Nat
  /-- A forwarded frame whose CRC has failed: it ends in ABORT (spec/14 R452). -/
  cut : Bool
  deriving DecidableEq, Repr

/-- One lane beside its objects (spec/13 R418 to R427, spec/14 R453): consecutive valid TRAIN blocks, those with ACK, those with the wrong PATH or FACE; ACK sent; elastic fill; tick of the last FILLER sent; WAKE blocks in a run; the transmit queue; the last frame sent; ticks of recent CRC failures. -/
structure LaneSt where
  trainOk : Nat
  trainAck : Nat
  trainBad : Nat
  ack : Bool
  fill : Nat
  fillerAt : Nat
  wakes : Nat
  queue : List QFrame
  sent : Option Frame
  /-- The blocks of the last frame, FILLER or wake run as it was put on the line (spec/13 R415). -/
  line : List LineBlock
  /-- The tick at which the slip search came to its position (spec/13 R419). -/
  slipAt : Nat
  /-- The tick at which the frame in progress ends (spec/14 R453). -/
  busyTo : Nat
  /-- The blocks so far of a received frame whose END has not come (spec/14 R448). -/
  rx : List Block
  crcAt : List Nat
  deriving DecidableEq, Repr

/-- One path beside its objects: the rate is fixed and changing (R422, R424), the step due with its rate, its time-out and the lanes it must bring UP (R431, R432), the manager's cap, CHECK sent, ASSIGN received, the scan (R438); beacons and PRBS per position sent, expected and last received, echoes (spec/15 R502, R503); recent errors; health: since when neither BAD nor MARGINAL (R504). -/
structure PathSt where
  rateFixed : Bool
  changing : Bool
  stepDue : Option (Nat × Nat)
  stepLimit : Option Nat
  stepUp : Nat
  cap : Nat
  /-- The manager's rate that has failed and is to be noted once the path is back at G0 (R432). -/
  failed : Option Nat
  checking : Bool
  assigned : Bool
  scan : Option Nat
  dwell : Option Nat
  beaconTx : Vector Nat 32
  prbsTx : Vector Nat 32
  beaconRx : Option Nat
  prbsRx : Nat
  beaconAt : Nat
  echoTx : Nat
  echoPrbs : Nat
  echoAt : Nat
  errs : List (Nat × Nat)
  goodAt : Option Nat
  /-- Path Y was declared BAD by PSEL_STUCK (R501). -/
  stuck : Bool
  /-- This worker joins a running chain on this path (spec/13 R439). -/
  joining : Bool
  /-- The tick of the last evaluation of health, and of the last beacon to each position (R502, R504). -/
  evalAt : Nat
  beaconTo : Vector (Option Nat) 32
  /-- The tick of the last echo request (R503). -/
  echoSent : Option Nat
  /-- The U lane has stayed UP since before the last entry into HATCH, so its partner's record is older (spec/13 R428). -/
  kept : Bool
  deriving DecidableEq, Repr

/-- A joiner whose JOIN the manager has taken: its position, whether on X and on Y, the tick at which Y is awaited no longer (spec/13 R439). -/
structure JoinSt where
  pos : Nat
  x : Bool
  y : Bool
  due : Option Nat
  deriving DecidableEq, Repr

/-- Bring-up of the device: tick of entry into HATCH, enumeration time-outs, wake frames until (spec/13 R430, R434, R437, R444). -/
structure HatchSt where
  since : Nat
  enumAt : Option Nat
  yWaitAt : Option Nat
  wakeUntil : Option Nat
  wakeAt : Option Nat
  /-- LANE_EN, RATE_MAX, ENUM_DELAY, HATCH_Y_WAIT, STEP_TIMEOUT and JOIN_DWELL as taken at the last entry into HATCH (R440). -/
  cfg : Vector Nat 6
  /-- The joiners that the manager has still to send DONE (R439). -/
  joins : List JoinSt
  deriving DecidableEq, Repr

/-- The leases (spec/15): expiry of the Orsolane lease, last renewal, the release a fail-over follows, since when reversion counts, PSEL_N's drive and its hold-off, whether the line has risen since reset, since when it has been sensed low, the CAN lease's expiry and reversion, STRING frames since the last LEASE frame. -/
structure LeaseSt where
  until_ : Option Nat
  renewedAt : Option Nat
  failAt : Option Nat
  revertFrom : Option Nat
  revertDue : Bool
  holdoffAt : Option Nat
  risen : Bool
  lowAt : Option Nat
  stuck : Bool
  canUntil : Option Nat
  canRevertFrom : Option Nat
  frames : Nat
  /-- The tick of the last condition for a release on each path (R486, R493). -/
  released : Vector (Option Nat) 2
  /-- The tick at which a device without a lease last took one (R488). -/
  takenAt : Option Nat
  /-- The tick of the manager's last beacon (R502). -/
  beaconAt : Option Nat
  /-- The tick from which the CAN lease's present duration counts: its last renewal (R497). -/
  canFrom : Option Nat
  /-- The Orsolane holder was Y as PSEL_N was sensed to fall (R501). -/
  wasY : Bool
  deriving DecidableEq, Repr

/-- An unacknowledged DICT or CAPTURE frame: the frame, its path, retransmissions made, tick of its time-out (spec/14 R456, R457). -/
structure Unacked where
  f : Frame
  tries : Nat
  due : Nat
  deriving DecidableEq, Repr

/-- A transaction forwarded to a worker: position, channel, tag and generation, tick of its time-out (spec/14 R460). -/
structure Forwarded where
  node : Nat
  channel : Nat
  tagGen : Nat
  due : Nat
  /-- The header of the request as it came (spec/17 R549). -/
  head : Bytes
  deriving DecidableEq, Repr

/-- A SWARM request under way: channel, telegram, position the last DICT frame went to, mask of the positions that failed (spec/14 R461, spec/17 R566). -/
structure SwarmSt where
  channel : Nat
  telegram : Telegram
  at_ : Nat
  failed : Nat
  /-- A host waits for its response; the SWARM that follows a SAFE telegram has none (spec/17 R564). -/
  answered : Bool
  deriving DecidableEq, Repr

/-- Frames beside the objects (spec/14): the next SEQ to send and the SEQ expected per triple (TYPE · 65536 + SRC · 256 + DST), unacknowledged frames and those waiting behind them, transactions forwarded, SWARM. -/
structure FrameSt where
  txSeq : List (Nat × Nat)
  rxSeq : List (Nat × Nat)
  unacked : List Unacked
  waiting : List Frame
  forwarded : List Forwarded
  /-- Transactions that ended while their worker may still answer: node and tag with generation (R460). -/
  dropped : List (Nat × Nat)
  swarm : List SwarmSt
  /-- Ticks at which the frames in the DICT receive buffer have been served (R456). -/
  dictEnds : List Nat
  /-- SWARM requests of a worker whose ACK has not been sent (R461). -/
  swarmIn : List Frame
  deriving DecidableEq, Repr

/-- The manager's time servo (spec/14 R468, R469, R477): I(p) in binary64, the last 8 kept offsets of each worker in ns, the exchange number and the next exchange; TSYNC's pulse. -/
structure TimeSt where
  integral : Vector Nat 32
  within : Vector (List Nat) 32
  exchange : Nat
  next : Nat
  tsync : Bool
  tsyncEnd : Option Nat
  /-- The tick of the last set by TIME_SYNC (R463). -/
  setAt : Option Nat
  /-- The tick of the last exchange, or of the end of HATCH (R468). -/
  exchAt : Nat
  deriving DecidableEq, Repr


/-- What a conversion is for: a table entry, held later than scheduled or not, the last of its table or not; an urgent request; the reference conversion of an open-wire test (spec/06 R182, R184, R186, R192). -/
inductive ConvKind where
  | entry (late last : Bool)
  | urgent (thermal : Bool)
  | reference
  deriving DecidableEq, Repr

/-- A conversion being resolved: its channel, hold tick, nanoseconds field at the hold, purpose (spec/06 R178). -/
structure ConvSt where
  ch : Nat
  hold : Nat
  ns : Nat
  /-- The second of network time in which the hold falls (spec/11 R369). -/
  sec : Nat
  kind : ConvKind
  deriving DecidableEq, Repr

/-- A running sequence table (spec/06 R178, R182, R184): the entry whose hold comes next or that is being resolved; the hold from which the present run begins; the hold of the run before it and the spacings made in this run; the scheduled hold of the next entry, and the spacings scheduled so far. -/
structure SeqSt where
  entry : Nat
  runAt : Nat
  prev : Option Nat
  gaps : Nat
  plan : Nat
  planned : Nat
  deriving DecidableEq, Repr

/-- A request waiting at a converter: its rank (0 Guard, 1 thermal, 2 host), its channel, whether thermal supervision waits for it, and its tick of arrival (spec/06 R186). -/
structure UrgentReq where
  rank : Nat
  ch : Nat
  thermal : Bool
  since : Nat
  deriving DecidableEq, Repr

/-- An open-wire test under way: its channel, code n0, whether the current pulls up, the tick at which SETTLE ends while the current is on, whether a step found the wire open (spec/06 R192). -/
structure WireSt where
  ch : Nat
  n0 : Nat
  up : Bool
  settleAt : Option Nat
  found : Bool
  deriving DecidableEq, Repr

/-- One converter (spec/06 R178 to R193): the conversion being resolved, the running table (kept at the even converter of a pair), requests waiting, the urgent request whose hold is scheduled, the test under way and the channels still to test; the ticks at which its last conversion, and its last one that was not urgent, ended. -/
structure AdcSt where
  conv : Option ConvSt
  run : Option SeqSt
  queue : List UrgentReq
  urgent : Option (UrgentReq × Nat)
  test : Option WireSt
  todo : List Nat
  ended : Nat
  endedOwn : Nat
  deriving DecidableEq, Repr

/-- One stream (spec/06 R199, R200): the tick of the last accepted alignment event; the ticks at or after which a window ends; the tick and the number of the bit from which its filters began, and from which the main filter filled last; the tick of the last bit of the last window. -/
structure StreamSt where
  aligned : Option Nat
  due : List Nat
  begun : Nat
  anchor : Nat
  restart : Nat
  first : Nat
  lastBit : Option Nat
  deriving DecidableEq, Repr

/-- One driver input in TELEMETRY mode (spec/06 R206 to R208): up to four latest valid temperatures, newest first; the last valid period in ticks; whether telemetry has been valid since reset; the tick of entry into the mode; the tick at which the last valid period ended, or of that entry; the tick from which its level counts towards a fault (spec/09 R675). -/
structure DriverSt where
  temps : List Nat
  period : Nat
  everValid : Bool
  since : Nat
  validAt : Nat
  lowFrom : Nat
  deriving DecidableEq, Repr

/-- The measurement front end beside its objects (spec/06): converters, streams, the tick of the first rising edge of each DSCK since its restart, the DSD_DELAY before its last write with the tick of that write (R196), driver inputs, the code of each channel's result, and of the open-wire request the channels it named and those found open. -/
structure MeasSt where
  adc : Vector AdcSt 4
  stream : Vector StreamSt 18
  dsck : Vector (Option Nat) 6
  delay : Vector (Nat × Nat) 6
  driver : Vector DriverSt 18
  code : Vector Nat 26
  named : Nat
  opened : Nat
  deriving DecidableEq, Repr

/-- One thermal sensor (spec/11 R359 to R368): the tick of its next sample, none while none is scheduled; the scheduled tick of the latest sample; whether that sample waits to be processed and the code or temperature it has brought; its departure count and trip count; whether it has an effective value. -/
structure SensorSt where
  due : Option Nat
  last : Nat
  waiting : Bool
  value : Option Nat
  departed : Nat
  trips : Nat
  sampled : Bool
  /-- The tick at which the present value came, and the second of network time in which its sample was taken (spec/11 R362, R369). -/
  gotAt : Nat
  sec : Nat
  deriving DecidableEq, Repr

/-- A lockout record as the device knows it: its 16 bytes, and the write to the NV store under way (spec/11 R369, R370). -/
structure LockoutSt where
  record : Bytes
  writing : Bool
  /-- The write under way re-arms the group. -/
  rearm : Bool
  deriving DecidableEq, Repr

/-- Thermal supervision beside its objects (spec/11). -/
structure ThermalSt where
  sensor : Vector SensorSt 28
  lockouts : Vector LockoutSt 7
  deriving DecidableEq, Repr


/-- A firmware bank (spec/19 R622): the state word's value (0 ERASED, 1 INVALID, 2 VALID) and the image's bytes. -/
structure FwBank where
  state : Nat
  image : Bytes
  deriving DecidableEq, Repr

/-- The NV store (spec/19 R611 to R615, R617, R622): the images in the dictionary banks as bytes, none where no whole image stands; copies A and B of the commit word, the select word and MIN_VERSION as 64-bit words, the last position at which HATCH completed with its complement, the lockout records, the firmware banks, the OEM area. -/
structure NvSt where
  dict : Vector Bytes 2
  commit : Vector Nat 2
  select : Vector Nat 2
  minVersion : Vector Nat 2
  lastPos : Nat
  lockouts : Vector Bytes 7
  fw : Vector FwBank 2
  oem : Mem
  deriving DecidableEq, Repr

/-- A STORE under way: the image, the bank it goes to, the tick of acceptance (spec/19 R616). -/
structure StoreSt where
  image : Bytes
  bank : Fin 2
  since : Nat
  deriving DecidableEq, Repr

/-- A write that waits for the NV port (spec/19 R614, R623, R633): the staged bank's state word INVALID, bytes of the staged image, OEM words at an offset. -/
inductive NvJob where
  | invalidate
  | stage (data : Bytes)
  | oem (offset : Nat) (data : Bytes)
  deriving DecidableEq, Repr

/-- A firmware install beside its objects (spec/19 R623, R625): the bank the device runs, the size announced, ACTIVATE's time-out, the transaction that ACTIVATE answers, the header of the block write that ends once its last segment is written. -/
structure InstallSt where
  active : Fin 2
  size : Nat
  waitAt : Option Nat
  reply : Option Nat
  staged : Option Bytes
  /-- The tick at which CHECK began (R624). -/
  checkAt : Nat
  /-- Steps 1 to 3 of an activation are done and its reset is due: the select word names the staged bank (R625). -/
  switched : Bool
  deriving DecidableEq, Repr

/-- A running maintenance activity (spec/19 R629, R630): its code, ARG, end of its duration, the path or holder it concerns. -/
structure SlotSt where
  act : Nat
  arg : Nat
  until_ : Nat
  path : Nat
  /-- The tick of its acceptance. -/
  since : Nat
  /-- What it has found so far: bit errors of STANDBY_SOAK, interlock refusals of GATE_LOOPBACK, the mask of workers that FAILOVER_DRILL has moved. -/
  seen : Nat
  /-- The longest round trip of STANDBY_SOAK, in ns. -/
  longest : Nat
  deriving DecidableEq, Repr

/-- What the Supervisor does with the NV store and maintenance (spec/19). -/
structure JobSt where
  store : Option StoreSt
  /-- The tick until which copy B of the commit word that the last STORE committed is being written (R615, R616). -/
  copyB : Option Nat
  /-- Writes that wait for the port, in the order in which they came (R614). -/
  waiting : List NvJob
  install : InstallSt
  slots : Vector (Option SlotSt) 4
  deriving DecidableEq, Repr


/-- A message object (spec/16 R518). -/
structure MsgObj where
  ident : Nat
  mask : Nat
  octrl : Nat
  dlc : Nat
  tag : Nat
  ostat : Nat
  tsNs : Nat
  data : Bytes
  /-- The tick from which a request takes part in arbitration (R523). -/
  readyAt : Nat
  deriving DecidableEq, Repr

/-- A frame on the bus or in the re-queue buffer: the object it comes from (of the other controller in the re-queue buffer), the frame's record, whether it has been cancelled, whether its object was requested again meanwhile, network time at its start of frame (spec/16 R524, R529, R534). -/
structure CanTx where
  obj : Nat
  requeued : Bool
  m : MsgObj
  cancelled : Bool
  again : Bool
  sof : NetTime
  /-- TIMEBASE_COARSE at the start of frame (R535), and the frame as it is sent (R510, R523). -/
  coarse : Bool
  frame : CanFrame
  deriving DecidableEq, Repr

/-- The timing and MODE of a controller, in the order of subindices 01 to 0A (spec/16 R513, R514). -/
abbrev CanTiming := Vector Nat 10

/-- One controller beside its objects (spec/16): message objects 1 to 100 in order, timing in force, an accepted APPLY with its tick, the frame being sent, the re-queue buffer, ticks of up to four collisions, the timestamp queue, the tick at which recovery began, and the tick from which it integrates (R513, R517, R526). -/
structure CanSt where
  msg : Vector MsgObj 100
  timing : CanTiming
  apply : Option (Nat × CanTiming)
  tx : Option CanTx
  requeue : Option CanTx
  collisions : List Nat
  stamps : List Bytes
  recovering : Option Nat
  integAt : Nat
  deriving DecidableEq, Repr

/-- A telegram for function 7: its identifier's node and its data, with the TAGGEN it answers (spec/17 R548, R554). -/
structure OutTel where
  node : Nat
  tagGen : Nat
  data : Bytes
  deriving DecidableEq, Repr

/-- One entry of the tag table (spec/17 R552): generation, state (0 EMPTY, 1 RUNNING, 2 DONE), stored response, where the copy that runs came from. -/
structure TagSt where
  gen : Nat
  state : Nat
  resp : Bytes
  origin : Origin
  deriving DecidableEq, Repr

/-- A block transaction (spec/17 R558 to R561): TAGGEN, origin, read or write, object, size, the bytes captured or received, the next segment expected or one past LAST, segments since the last BLOCK_ACK, tick of its last telegram. -/
structure BlockSt where
  tagGen : Nat
  origin : Origin
  read : Bool
  index : Nat
  sub : Nat
  size : Nat
  data : Bytes
  next : Nat
  lastAt : Nat
  deriving DecidableEq, Repr

/-- The dictionary protocol beside its objects (spec/17): tags, block transactions, function 7 telegrams waiting for object 21 of each controller, the event telegram in object 22 of each controller that has not been sent, the TIME telegram's SEQ, validity, the time at which the previous one was queued and the controller that it went to, and the whole multiples for which a cyclic status and a TIME telegram have gone (R569, R571). -/
structure WdpSt where
  tags : Vector TagSt 64
  blocks : List BlockSt
  out : Vector (List OutTel) 2
  events : Vector (List Bytes) 2
  timeSeq : Nat
  timeValid : Bool
  timeQueued : NetTime
  timeCan : Fin 2
  statusAt : Option Nat
  timeAt : Option Nat
  deriving DecidableEq, Repr


/-- A capture sample as the ring and a record keep it (spec/18 R578 to R581): number, instant in units of 2^-32 ns of network time, tick, the outputs of the tracks that produced one (halfwords in order), TIMEBASE_COARSE. -/
structure SampleSt where
  num : Nat
  instant : Nat
  tick : Nat
  halves : List Nat
  coarse : Bool
  deriving DecidableEq, Repr

/-- A track's window so far: smallest or largest value as a pattern, sum in binary64, and the latest output as compared (spec/18 R580, R582). -/
structure TrackSt where
  best : Option Nat
  sum : Nat
  prev : Option Nat
  deriving DecidableEq, Repr

/-- A firing that waits for its anchor (spec/18 R583): its condition (16 is FORCE), its instant, and the tick at which it came. -/
structure FiringSt where
  cond : Nat
  instant : Nat
  came : Nat
  deriving DecidableEq, Repr

/-- A record not yet closed (spec/18 R586, R587): its trigger sample, its number and mask, MISSED, LATE_ANCHOR, its first word and size, its samples so far, PRE_SAMPLES and the post-trigger samples due. -/
structure RecordSt where
  trig : SampleSt
  number : Nat
  mask : Nat
  missed : Nat
  late : Bool
  start : Nat
  words : Nat
  samples : List SampleSt
  pre : Nat
  post : Nat
  deriving DecidableEq, Repr

/-- A packet reserved in the queue: its first word, its size, its record number, whether it has closed (spec/18 R588, R595). -/
structure PacketSt where
  start : Nat
  words : Nat
  record : Nat
  closed : Bool
  deriving DecidableEq, Repr

/-- A CAPTURE frame of this device's packetiser (spec/18 R599): words taken, chunk number, SEQ, its payload, whether it waits for an ACK, the tick at which a stall ends. -/
structure EgressSt where
  words : Nat
  chunk : Nat
  payload : Bytes
  waiting : Bool
  stallAt : Option Nat
  failed : Option Frame
  deriving DecidableEq, Repr

/-- Capture and the egress queue beside their objects (spec/18): the next sample number, the sample instants to come (tick, exact instant in units of 2^-32 ns where the trigger has one), arming, the ring (newest first), tracks, conditions in a run, firings waiting, the open record; the queue's memory (8 bytes a word), packets not yet freed, RELEASE_PTR with the words from it to WRITE_PTR, READ_PTR and MARK_PTR, LAST; the packetiser; TRIG lines driven until, calibration armed until and its next line, the manager's calibration (0 none, 1 due, 2 arming, 3 TRIG0 next, 4 TRIG1 next) and the network time from which it drives. -/
structure CaptureSt where
  next : Nat
  due : List (Nat × Option Nat)
  lastTick : Option Nat
  armedAt : Option Nat
  ring : List SampleSt
  tracks : Vector TrackSt 32
  fresh : Vector Bool 16
  firings : List FiringSt
  record : Option RecordSt
  mem : Mem
  packets : List PacketSt
  releasePtr : Nat
  used : Nat
  readAhead : Nat
  markAhead : Nat
  lastWord : Nat
  egress : EgressSt
  driveEnd : Vector (Option Nat) 2
  calUntil : Option Nat
  calLine : Nat
  calPhase : Nat
  calFrom : Nat
  deriving DecidableEq, Repr

/-- The device. -/
structure State where
  /-- Commands waiting, first in, first out. -/
  pending : List Instr
  /-- Ticks of the timebase since power-on (spec/00 R4). -/
  tick : Nat
  /-- Network time (spec/14 R462). -/
  net : NetTime
  /-- Free values taken so far (the model's own counter; log entry 7). -/
  free : Nat
  /-- The value of every object of the dictionary (spec/20 R648). -/
  objs : Store
  /-- The STATUS and data a directly commanded object access answered (spec/17 R551, R557). -/
  lastStatus : Nat
  lastData : Bytes
  power : PowerSt
  pins : PinSt
  tap : TapSt
  clock : ClockSt
  /-- The gate outputs, line by line (spec/03 R83). -/
  gates : Vector Bool 72
  carriers : Vector CarrierSt 18
  legs : Vector LegSt 36
  guard : Vector GuardSt 6
  rails : RailSt
  /-- What the event router has signalled and whose tick is not past (spec/05 R165). -/
  signals : List Signal
  /-- The window comparators: 2·ch low, 2·ch + 1 high, tripped (spec/06 R190). -/
  winTrip : Vector Bool 14
  engines : Vector EngineSt 7
  /-- The mode of each cell as last committed; none before any request since reset (spec/08 R283). -/
  modeDone : Vector (Option Nat) 6
  refs : RefSt
  /-- Consecutive link-voltage results at or above CHARGE_DONE_V of each cell in CHARGE; 8 is charge complete and stays (spec/10 R318). -/
  charge : Vector Nat 6
  string : StringSt
  stringRx : StringRx
  collector : CollectorSt
  lanes : Vector LaneSt 4
  paths : Vector PathSt 2
  hatch : HatchSt
  lease : LeaseSt
  frames : FrameSt
  time : TimeSt
  meas : MeasSt
  thermal : ThermalSt
  nv : NvSt
  jobs : JobSt
  can : Vector CanSt 2
  wdp : WdpSt
  capture : CaptureSt
  deriving DecidableEq, Repr

/-- The reset logic after a release: no Supervisor yet. -/
def PowerSt.init : PowerSt where
  por := false
  pinReset := false
  resetDue := none
  supervisor := false
  bootLoader := false
  loaded := false
  entering := false
  waking := false
  wdtFrom := none
  stopAt := none
  pendingCause := 0
  chargeReply := []
  abortAt := 0
  fell := none

/-- A line before its first measurement. -/
def LineSt.init : LineSt := ⟨none, none, Vector.replicate 16 0, Vector.replicate 16 0, false, 0⟩

/-- The values in force of a carrier that has not run: the objects' defaults (spec/05 R169, R171). -/
def EdgeVals.init : EdgeVals :=
  ⟨62500, 0, 0, 0, 0x40000000, 0, 0, Vector.replicate 2 0, Vector.replicate 2 0,
    Vector.replicate 2 10000, Vector.replicate 2 4000, 0⟩

/-- Shadows that hold v since a tick, none of them pending. -/
def ShadowSt.of (v : EdgeVals) (t : Nat) : ShadowSt := ⟨⟨v, 0, false⟩, ⟨v, 0, false⟩, t, 0, false⟩

/-- A carrier that does not run, with values in force equal to its shadows v (spec/05 R153). -/
def CarrierSt.stopped (v : EdgeVals) (t : Nat) : CarrierSt :=
  { running := false, mode := 0, pref := 0, v := v, sh := .of v t, staged := none, stagedPhase := none,
    commits := false, moves := false, skew := 0, skewFlag := false, phi := none, stretched := false,
    zeroAt := 0, lastZero := 0, zeroLoc := 0, span := 1000000, pk := 1000000, nextSpan := 1000000,
    nextAt := 0, placed := false, err := 0, started := false, apexDone := false, tcmpDone := false,
    origin := 0, evIdx := Vector.replicate 5 0, evRestart := Vector.replicate 5 false,
    evAt := Vector.replicate 5 none, driving := false }

/-- A carrier that does not run, at the defaults. -/
def CarrierSt.init : CarrierSt := .stopped .init 0

/-- A leg that is not driven. -/
def LegSt.init : LegSt := ⟨false, none, none, false, false, 0, false, none, false, 0, none, none⟩

/-- Guard of a cell with no hold and no sequence. -/
def GuardSt.init : GuardSt :=
  ⟨Vector.replicate 3 false, Vector.replicate 9 0, none, none, 0, none, .no, none, false, none, none, .driven, 0⟩

/-- The clocks after a device-wide reset: every PLL acquires with the dividers of REF_MODE 1 and of G0, the reference not yet declared (spec/03 R64, R65, R88). -/
def ClockSt.init (t : Nat) : ClockSt :=
  ⟨#v[⟨t, some (t + 6250000), 16, 4, none⟩, ⟨t, some (t + 6250000), 32, 4, none⟩,
      ⟨t, some (t + 6250000), 32, 4, none⟩], false, false, 0, Vector.replicate 72 .init, 0, 0, 0⟩

/-- An engine with cleared states. -/
def EngineSt.init : EngineSt :=
  ⟨Vector.replicate 3 ⟨none, none, false, []⟩, Vector.replicate 32 ⟨0, false, false⟩, false, false, none,
    Vector.replicate 4 .no, Vector.replicate 4 0, none⟩

/-- No string reference accepted. -/
def RefSt.init : RefSt := ⟨Vector.replicate 6 0, Vector.replicate 6 0, 0, 0, Vector.replicate 24 0⟩


/-- A frame unit that has issued and heard nothing. -/
def StringSt.init : StringSt :=
  ⟨[], Vector.replicate 32 none, Vector.replicate 3 none, Vector.replicate 3 0, false, 0,
    Vector.replicate 3 false, none, 0⟩

/-- A device that has accepted no STRING frame. -/
def StringRx.init : StringRx :=
  ⟨none, none, Vector.replicate 6 none, Vector.replicate 6 0, Vector.replicate 6 0, none, none, 0⟩

/-- A collector before its first decision. -/
def CollectorSt.init (t : Nat) : CollectorSt := ⟨0, 0, 0, 0, 0, [], t⟩

/-- A lane with nothing received and nothing waiting; the elastic buffer half full. -/
def LaneSt.init (t : Nat) : LaneSt := ⟨0, 0, 0, false, 16, t, 0, [], none, [], t, 0, [], []⟩

/-- A path before HATCH. -/
def PathSt.init (t : Nat) : PathSt :=
  ⟨false, false, none, none, 0, 2, none, false, false, none, none, Vector.replicate 32 0,
    Vector.replicate 32 1, none, 0, t, 0, 1, t, [], none, false, false, t, Vector.replicate 32 none, none, false⟩

/-- No bring-up under way. -/
def HatchSt.init (t : Nat) : HatchSt :=
  ⟨t, none, none, none, none, #v[0xF, 2, 50, 100, 10, 5], []⟩

/-- The leases before they start: X and CANA hold, PSEL_N has not risen (spec/15 R480). -/
def LeaseSt.init : LeaseSt := 
  ⟨none, none, none, none, false, none, false, none, false, none, none, 0, Vector.replicate 2 none, none, none, none, false⟩

/-- No frame sent or received. -/
def FrameSt.init : FrameSt := ⟨[], [], [], [], [], [], [], [], []⟩

/-- A servo at rest. -/
def TimeSt.init : TimeSt := ⟨Vector.replicate 32 0, Vector.replicate 32 [], 0, 0, false, none, none, 0⟩

/-- The front end at rest (spec/06 R207: 657,895 ticks before the first valid period). -/
def MeasSt.init : MeasSt :=
  ⟨Vector.replicate 4 ⟨none, none, [], none, none, [], 0, 0⟩, Vector.replicate 18 ⟨none, [], 0, 0, 0, 0, none⟩,
    Vector.replicate 6 none, Vector.replicate 6 (0, 0), Vector.replicate 18 ⟨[], 657895, false, 0, 0, 0⟩, Vector.replicate 26 0, 0, 0⟩

/-- Thermal supervision before HATCH: no sample scheduled, no record. -/
def ThermalSt.init : ThermalSt :=
  ⟨Vector.replicate 28 ⟨none, 0, false, none, 0, 0, false, 0, 0⟩, Vector.replicate 7 ⟨[], false, false⟩⟩


/-- The NV store as delivered: no dictionary stored, no lockout record; bank A VALID, bank B ERASED. -/
def NvSt.init : NvSt :=
  ⟨Vector.replicate 2 [], Vector.replicate 2 0, Vector.replicate 2 0, Vector.replicate 2 0, 0,
    Vector.replicate 7 [], #v[⟨2, []⟩, ⟨0, []⟩], []⟩

/-- No STORE, no install, no activity. -/
def JobSt.init : JobSt := ⟨none, none, [], ⟨0, 0, none, none, none, 0, false⟩, Vector.replicate 4 none⟩


/-- A free message object (spec/16 R542). -/
def MsgObj.init : MsgObj := ⟨0, 0, 0, 0, 0, 0, 0, List.replicate 64 0, 0⟩

/-- A controller at its defaults (spec/16 R514, R538). -/
def CanSt.init : CanSt :=
  ⟨Vector.replicate 100 .init, #v[0x77, 1, 127, 32, 32, 1, 29, 10, 10, 234], none, none, none, [], [], none, 0⟩

/-- No transaction. -/
def WdpSt.init : WdpSt :=
  ⟨Vector.replicate 64 ⟨0, 0, [], .can 0⟩, [], Vector.replicate 2 [], Vector.replicate 2 [], 0, false, ⟨0, 0⟩, 0, none, none⟩


/-- Capture at rest, the queue empty. -/
def CaptureSt.init : CaptureSt where
  next := 0
  due := []
  lastTick := none
  armedAt := none
  ring := []
  tracks := Vector.replicate 32 ⟨none, 0, none⟩
  fresh := Vector.replicate 16 false
  firings := []
  record := none
  mem := []
  packets := []
  releasePtr := 0
  used := 0
  readAhead := 0
  markAhead := 0
  lastWord := 0
  egress := ⟨0, 0, [], false, none, none⟩
  driveEnd := Vector.replicate 2 none
  calUntil := none
  calLine := 0
  calPhase := 0
  calFrom := 0

/-- The device right after the release of its power-on reset (spec/04 R97, R104, R120): BOOT, every object at its default, all volatile state clear. -/
def State.reset : State where
  pending := []
  tick := 0
  net := ⟨0, 0⟩
  free := 0
  objs := []
  lastStatus := 0
  lastData := []
  power := .init
  pins := ⟨false, true, false, true, Vector.replicate 18 true⟩
  tap := ⟨.idcode, 0, 0, false, []⟩
  clock := .init 0
  gates := Vector.replicate 72 false
  carriers := Vector.replicate 18 .init
  legs := Vector.replicate 36 .init
  guard := Vector.replicate 6 .init
  rails := ⟨1#128 <<< 127, 0⟩
  signals := []
  winTrip := Vector.replicate 14 false
  engines := Vector.replicate 7 .init
  modeDone := Vector.replicate 6 none
  refs := .init
  charge := Vector.replicate 6 0
  string := .init
  stringRx := .init
  collector := .init 0
  lanes := Vector.replicate 4 (.init 0)
  paths := Vector.replicate 2 (.init 0)
  hatch := .init 0
  lease := .init
  frames := .init
  time := .init
  meas := .init
  thermal := .init
  nv := .init
  jobs := .init
  can := Vector.replicate 2 .init
  wdp := .init
  capture := .init

end Sys2Proof.Machine
end

