-- ==== Sys2Proof/Machine/Ops.lean ====
section
/-! DEFINITION. The named operations over the state: the dictionary's values, time and deadlines, the rails of the event sources, carriers, legs and gates. -/

namespace Sys2Proof.Machine

/-- What a command answers. -/
abbrev Out := Host.Outcome State Fault Refusal

/-- The value of an object. -/
def State.rd (s : State) (k : Nat) : Nat := storeGet s.objs k

/-- Giving an object a value. -/
def State.wr (s : State) (k v : Nat) : State := { s with objs := storeSet s.objs k v }

/-- Bit i of an object. -/
def State.bitAt (s : State) (k i : Nat) : Bool := bit (s.rd k) i

/-- Giving bit i of an object a value. -/
def State.wrBit (s : State) (k i : Nat) (b : Bool) : State := s.wr k (setBit (s.rd k) i b)

/-- Setting every bit of a mask in an object. -/
def State.orBits (s : State) (k m : Nat) : State := s.wr k (s.rd k ||| m)

/-- Clearing every bit of a mask in an object. -/
def State.clrBits (s : State) (k m : Nat) : State := s.wr k (clearMask (s.rd k) m)

/-- A 32-bit counter object that wraps. -/
def State.count (s : State) (k : Nat) (n : Nat := 1) : State := s.wr k (wrapInc 32 (s.rd k) n)

/-- A 32-bit counter object that saturates. -/
def State.countSat (s : State) (k : Nat) : State := s.wr k (satInc 32 (s.rd k))

/-- Writing several objects. -/
def State.wrAll (s : State) (kvs : List (Nat × Nat)) : State := kvs.foldl (fun a p => a.wr p.1 p.2) s

/-! ### Time -/

/-- Units of 2^-32 ns in one second (spec/14 R462). -/
def secUnits : Nat := 1000000000 * 2 ^ 32

/-- Network time in units of 2^-32 ns. -/
def State.netUnits (s : State) : Nat := s.net.sec * secUnits + s.net.acc

/-- A count of 2^-32 ns as seconds and accumulator. -/
def netOf (u : Nat) : NetTime := ⟨u / secUnits % 2 ^ 64, u % secUnits⟩

/-- What one tick adds to network time (spec/14 R463). -/
def State.inc (s : State) : Nat := s.rd 0xB01101

/-- PLL_T is in bypass on REFCLK: network time is updated once per REFCLK period, at the ticks that are multiples of 4 (spec/03 R75, R80). -/
def State.netCoarse (s : State) : Bool := s.bitAt 0x200005 2 && s.clock.refPresent

/-- The tick at which network time was last updated: this one, in bypass the last multiple of 4 (spec/03 R80). -/
def State.netTick (s : State) : Nat := if s.netCoarse then s.tick / 4 * 4 else s.tick

/-- The ticks by which network time advances while n ticks pass: in bypass 4 of them at each REFCLK edge (spec/03 R80). -/
def State.netTicks (s : State) (n : Nat) : Nat :=
  if s.netCoarse then (s.tick + n) / 4 * 4 - s.tick / 4 * 4 else n

/-- n ticks pass: the timebase counts and network time advances by the increment in force at each of its ticks (spec/03 R80, spec/14 R462). -/
def State.advance (s : State) (n : Nat) : State :=
  { s with tick := s.tick + n, net := netOf (s.netUnits + s.netTicks n * s.inc) }

/-- Time passes until a tick, where that tick is still to come (log entry 2). -/
def State.advanceTo (s : State) (t : Nat) : State := s.advance (t - s.tick)

/-- The NS field of network time (spec/14 R462). -/
def State.ns (s : State) : Nat := s.net.acc / 2 ^ 32

/-- The FRAC field of network time, in 2^-16 ns (spec/14 R462). -/
def State.frac (s : State) : Nat := s.net.acc / 2 ^ 16 % 2 ^ 16

/-- A 16-byte timestamp of network time, as the number its bytes spell (spec/14 R462). -/
def State.stamp (s : State) : Nat := s.net.sec + s.ns * 2 ^ 64 + s.frac * 2 ^ 96

/-- An instant of network time in taps of 100 ps: SECONDS · 10^10 + NS · 10 + floor(FRAC · 10 ÷ 65,536) (spec/05 R130). -/
def tapsOf (u : Nat) : Nat := u / secUnits * 10 ^ 10 + u % secUnits / 2 ^ 32 * 10 + u / 2 ^ 16 % 2 ^ 16 * 10 / 65536

/-- Network time in taps. -/
def State.netTaps (s : State) : Nat := tapsOf s.netUnits

/-- Ticks in n milliseconds (spec/00 R4). -/
def msTicks (n : Nat) : Nat := n * 625000

/-- Ticks in n microseconds. -/
def usTicks (n : Nat) : Nat := n * 625

/-- Ticks until network time reaches u units; in bypass it does so at a REFCLK edge (spec/03 R80). -/
def State.ticksTo (s : State) (u : Nat) : Nat :=
  let d := u - s.netUnits
  if s.netCoarse then (if d = 0 then 0 else s.tick / 4 * 4 + ceilDiv d (4 * max s.inc 1) * 4 - s.tick)
  else ceilDiv d (max s.inc 1)

/-- A value the spec leaves open: the next free value, and the state that has taken it (log entry 7). -/
def State.freeVal (s : State) : Nat × State :=
  ((Config.freeValue s.free).toNat, { s with free := s.free + 1 })

/-- A value between lo and hi of which the spec says no more: free (log entry 7). -/
def State.freeIn (s : State) (lo hi : Nat) : Nat × State :=
  if hi ≤ lo then (lo, s) else (lo + s.freeVal.1 % (hi - lo + 1), s.freeVal.2)

/-! ### Event sources (spec/12 R378 to R380) -/

/-- An occurrence of source n, latched until the next collector decision. -/
def State.raise (s : State) (n : Nat) : State :=
  { s with rails := { s.rails with occ := s.rails.occ ||| (1#128 <<< n) } }

/-- The condition of source n asserts. -/
def State.assertSrc (s : State) (n : Nat) : State :=
  { s with rails := { s.rails with cond := s.rails.cond ||| (1#128 <<< n) } }

/-- The condition of source n ends. -/
def State.deassertSrc (s : State) (n : Nat) : State :=
  { s with rails := { s.rails with cond := s.rails.cond &&& ~~~(1#128 <<< n) } }

/-- The condition of source n follows a level. -/
def State.levelSrc (s : State) (n : Nat) (b : Bool) : State :=
  if b then s.assertSrc n else s.deassertSrc n

/-! ### The event router (spec/05 R165, R166, spec/07 R226) -/

/-- A signal put in its place: those of one tick in ascending event number (spec/05 R165). -/
def insertSignal (g : Signal) : List Signal → List Signal
  | [] => [g]
  | x :: xs => if g.tick < x.tick || (g.tick == x.tick && g.code < x.code) then g :: x :: xs else x :: insertSignal g xs

/-- The router signals an event at a tick, whose exact instant in units of 2^-32 ns may lie before it; events of past ticks are gone. While capture samples on this code, a sample is due SAMPLE_DELAY ticks after it (spec/18 R577). -/
def State.emit (s : State) (code tick : Nat) (exact : Option Nat := none) : State :=
  let d := s.rd 0xD00003
  let due := s.capture.due ++ [(tick + d, exact.map (· + d * s.inc))]
  { s with
    signals := insertSignal ⟨code, tick, []⟩
      (s.signals.filter fun (g : Signal) => s.tick ≤ g.tick && !(g.code == code && g.tick == tick))
    capture := if s.rd 0xD00001 == 1 && s.rd 0xD00002 == code then { s.capture with due := due } else s.capture }

/-- A trigger of a self-timed kind: its instant is the tick at which it leaves the synchroniser, 1 or 2 ticks on, which of them free; what it triggers begins before that (spec/03 R60, spec/07 R226; log entry 151). -/
def State.emitSync (s : State) (code : Nat) : State :=
  let (d, s) := s.freeIn 1 2
  s.emit code (s.tick + d)

/-- Whether a signalled event waits for a consumer. -/
def Signal.waits (g : Signal) (code who now : Nat) : Bool :=
  g.code == code && now ≤ g.tick && !g.taken.contains who

/-- The tick of the event that a consumer may act on now: signalled, not past, not yet acted on by it. -/
def State.dueAt (s : State) (code who : Nat) : Option Nat :=
  (s.signals.find? fun g => g.waits code who s.tick).map (·.tick)

/-- A consumer has acted on that event. -/
def State.claim (s : State) (code who t : Nat) : State :=
  { s with signals := s.signals.map fun (g : Signal) =>
      if g.waits code who s.tick && g.tick == t then { g with taken := who :: g.taken } else g }

/-- A consumer acts on that event, at its tick. -/
def State.take (s : State) (code who t : Nat) : State := (s.claim code who t).advanceTo t

/-- Whether a trigger code is of a self-timed kind: it starts an engine at once, and only its trigger instant comes with the synchroniser (spec/07 R226). -/
def selfTimed (code : Nat) : Bool := 0x0200 ≤ code && code ≤ 0x0400

/-- An engine acts on an event, at its tick, or at once on one of a self-timed kind. -/
def State.takeTrigger (s : State) (code who t : Nat) : State :=
  if selfTimed code then s.claim code who t else s.take code who t

/-- The consumers of events: tables, tasks, steps of profiles, alignments of streams. -/
def whoTable (n : Nat) : Nat := n
def whoTask (e t : Nat) : Nat := 16 + 4 * e + t
def whoSteps (e : Nat) : Nat := 64 + e
def whoAlign (n : Nat) : Nat := 80 + n

/-! ### Repeated units -/

/-- One carrier changed. -/
def State.modCarrier (s : State) (k : Carrier) (f : CarrierSt → CarrierSt) : State :=
  { s with carriers := upd s.carriers k f }

/-- One leg changed. -/
def State.modLeg (s : State) (l : Leg) (f : LegSt → LegSt) : State := { s with legs := upd s.legs l f }

/-- Guard of one cell changed. -/
def State.modGuard (s : State) (c : Cell) (f : GuardSt → GuardSt) : State :=
  { s with guard := upd s.guard c f }

/-- The carrier of bridge b of cell c (spec/05 R123). -/
def carrierOf (c : Cell) (b : Bridge) : Carrier := ⟨c.val * 3 + b.val, by omega⟩

/-- The cell and the bridge of a carrier. -/
def cellOf (k : Carrier) : Cell := ⟨k.val / 3, by omega⟩
def bridgeOf (k : Carrier) : Bridge := ⟨k.val % 3, by omega⟩

/-- Leg j (0 or 1) of a carrier's bridge, and the carrier and number of a leg. -/
def legOf (k : Carrier) (j : Fin 2) : Leg := ⟨k.val * 2 + j.val, by omega⟩
def legCarrier (l : Leg) : Carrier := ⟨l.val / 2, by omega⟩
def legNum (l : Leg) : Fin 2 := ⟨l.val % 2, by omega⟩

/-- The gate line of a leg's H or L switch (spec/03 R83: c·12 + b·4 + (leg − 1)·2 + h). -/
def lineH (l : Leg) : Line := ⟨l.val * 2, by omega⟩
def lineL (l : Leg) : Line := ⟨l.val * 2 + 1, by omega⟩

/-- A gate output set to a level. -/
def State.gate (s : State) (l : Line) (b : Bool) : State := { s with gates := s.gates.set l b }

/-- Whether a cell is fitted (spec/01 R26). -/
def State.fitted (s : State) (c : Nat) : Bool := s.bitAt kFitted c

/-- The state of a cell (spec/00 R13). -/
def State.cellSt (s : State) (c : Nat) : Nat := s.rd (kCellState c)

/-- The device state (spec/00 R12). -/
def State.dev (s : State) : Nat := s.rd kDevState

/-- Whether the device is the manager (spec/02 R42). -/
def State.manager (s : State) : Bool := s.rd kRole == 1

/-- Whether a device-wide reset holds the device (spec/04 R94, R96). -/
def State.inReset (s : State) : Bool := s.power.por || s.power.pinReset

/-- The cell is in CHARGE, RUN or INSERTING (spec/05 R161). -/
def State.cellDrives (s : State) (c : Nat) : Bool :=
  s.cellSt c == 1 || s.cellSt c == 2 || s.cellSt c == 5

/-- The external trip input: FLT_IN_P low, FLT_IN_N high or SAFE_N low (spec/09 R291, R292). -/
def State.extActive (s : State) : Bool := !s.pins.fltInP || s.pins.fltInN || !s.pins.safeN

/-! ### Which thermal sensors take part (spec/11 R358 to R361) -/

/-- The cell of a module sensor or an NTC. -/
def sensorCell (n : Nat) : Nat := if n < 22 then (n - 4) / 3 else n - 22

/-- The NTC table is valid: breakpoints strictly rising, every entry finite (spec/11 R360). -/
def State.ntcValid (s : State) : Bool :=
  ((List.range 16).all fun i => fmt32.finite (s.rd (0x90001D + i))) &&
    (List.range 7).all fun i => fmt32.lt (s.rd (0x90001D + i)) (s.rd (0x90001E + i))

/-- Whether sensor n is excluded from supervision (spec/11 R359). -/
def State.excluded (s : State) (n : Fin 28) : Bool :=
  let c := sensorCell n
  if n.val < 4 then false
  else if n.val < 22 then
    !s.fitted c || s.rd (0x460001 + (n.val - 4)) == 0 ||
      (!s.meas.driver[(⟨(n.val - 4) % 18, by omega⟩ : Fin 18)].everValid && !s.cellDrives c)
  else !s.fitted c || !s.ntcValid

/-- One sensor changed. -/
def State.modSensor (s : State) (n : Fin 28) (f : SensorSt → SensorSt) : State :=
  { s with thermal := { s.thermal with sensor := upd s.thermal.sensor n f } }

/-- Whether sensor n is sampled in this device state: all that take part, in COCOON the die sensors, none in BOOT (spec/11 R361). -/
def State.samples (s : State) (n : Fin 28) : Bool :=
  !s.excluded n && s.dev != 0 && (s.dev != 5 || n.val < 4)

/-- A sensor that starts to take part gets its first sample; one that no longer does loses its schedule (spec/11 R361). -/
def State.reschedule (s : State) : State :=
  forFin 28 s fun n a =>
    if a.samples n then
      if a.thermal.sensor[n].due.isSome || a.thermal.sensor[n].waiting then a
      else a.modSensor n fun x => { x with due := some (a.tick + n.val * 62500) }
    else a.modSensor n fun x => { x with due := none, waiting := false, value := none }

end Sys2Proof.Machine
end

