-- ==== Sys2Proof/Machine/Gates.lean ====
section
/-! DEFINITION. What decides a gate output: the waveform of a carrier, the rows of Guard's table, holds and their causes, the trip inputs (spec/05 R126 to R156, spec/09 R289 to R305). -/

namespace Sys2Proof.Machine

/-! ### Waveforms -/

/-- The waveform of one leg within a span of taps: the level it has from `start` for `width` taps, cyclically; the other level elsewhere (spec/05 R136). -/
structure Wave where
  act : Bool
  start : Nat
  width : Nat
  span : Nat
  deriving DecidableEq, Repr

/-- A Q1.31 ratio, at most 1.0, of a span, rounded half up (spec/05 R128, R137). -/
def ratioOf (n span : Nat) : Nat := (min n (2 ^ 31) * span + 2 ^ 30) / 2 ^ 31

/-- A Q1.31 ratio of half a span (spec/05 R128). -/
def halfRatioOf (n span : Nat) : Nat := (min n (2 ^ 31) * span + 2 ^ 31) / 2 ^ 32

/-- The waveform of leg j of a carrier whose LOAD_MODE is `absolute` (spec/05 R136, R156). -/
def waveOf (c : CarrierSt) (absolute : Bool) (j : Fin 2) : Wave :=
  let p := c.span
  let phi := if j = 0 then 0 else (c.v.leg2 * p + 2 ^ 30) / 2 ^ 31 % p
  match c.mode with
  | 1 =>
    let e := if absolute then min c.v.cmpAbs[j] (p / 2) else halfRatioOf c.v.cmp[j] p
    ⟨true, (p - e) % p, min (2 * e) p, p⟩
  | 2 => ⟨true, 0, min (if absolute then c.v.cmpAbs[j] else ratioOf c.v.cmp[j] p) p, p⟩
  | 3 => ⟨true, phi, min c.v.fixed p, p⟩
  | 4 => ⟨false, phi, min c.v.fixed p, p⟩
  | _ => ⟨true, 0, 0, p⟩

/-- Taps since the active interval began, at phase θ; past the span the level of its last tap stands (spec/05 R131). -/
def waveX (w : Wave) (th : Nat) : Nat := (min th (w.span - 1) + w.span - w.start) % w.span

/-- The level at phase θ. -/
def waveLevel (w : Wave) (th : Nat) : Bool := if waveX w th < w.width then w.act else !w.act

/-- Whether the waveform never changes (spec/05 R137). -/
def waveConst (w : Wave) : Bool := w.width == 0 || w.width ≥ w.span

/-- Taps from phase θ to the next change. -/
def waveRemaining (w : Wave) (th : Nat) : Nat :=
  if waveX w th < w.width then w.width - waveX w th else w.span - waveX w th

/-- The width of a pulse of a polarity. -/
def waveWidth (w : Wave) (high : Bool) : Nat := if high = w.act then w.width else w.span - w.width

/-- Whether the carrier's compares are absolute (spec/05 R155, R156). -/
def State.absolute (s : State) (k : Carrier) : Bool :=
  s.rd (kCarrier (cellOf k) (bridgeOf k) 0x0B) == 1

/-- The waveform of a leg now. -/
def State.wave (s : State) (l : Leg) : Wave :=
  waveOf s.carriers[legCarrier l] (s.absolute (legCarrier l)) (legNum l)

/-! ### Carrier time (spec/05 R127, R130) -/

/-- The local instant in taps of a network instant in taps: the last tick whose network time is at or before it, and the tap interpolated at the accumulator's rate; in bypass the ticks between two REFCLK edges count as the accumulator's rate gives them (spec/03 R80, spec/05 R130). -/
def State.localOfNet (s : State) (t : Nat) : Nat :=
  let per : Int := 10 * max s.inc 1
  let d : Int := (t * 2 ^ 32 : Nat) - (s.netUnits * 10 : Nat)
  let k := d / per
  let rest := d - k * per
  (((s.netTick : Int) + k) * 16 + (rest * 32 + per) / (2 * per)).toNat

/-- The local instant of an instant of a carrier. -/
def State.localOf (s : State) (k : Carrier) (t : Int) : Nat :=
  if s.carriers[k].pref = 1 then s.localOfNet t.toNat else t.toNat

/-- Network time in taps at the start of this tick as carriers count it: with the ticks that a coarse network time skips (spec/03 R80). -/
def State.nowTaps (s : State) : Nat := tapsOf (s.netUnits + (s.tick - s.netTick) * s.inc)

/-- A carrier's time at the start of this tick. -/
def State.carrierNow (s : State) (k : Carrier) : Nat :=
  if s.carriers[k].pref = 1 then s.nowTaps else s.tick * 16

/-- The phase of a carrier at an instant of its time (spec/05 R126). -/
def State.theta (s : State) (k : Carrier) (t : Nat) : Nat := ((t : Int) - s.carriers[k].zeroAt).toNat

/-- The level that the waveform gives a leg now; low before the first ZERO. -/
def State.levelNow (s : State) (l : Leg) : Bool :=
  let k := legCarrier l
  s.carriers[k].started && waveLevel (s.wave l) (s.theta k (s.carrierNow k))

/-- The erase threshold W_E of a leg (spec/05 R142). -/
def State.minPulse (s : State) (l : Leg) : Nat :=
  s.rd (unitKey 0x302101 (l.val / 6) + l.val % 6)
def State.deadTime (s : State) (l : Leg) : Nat := s.carriers[legCarrier l].v.dead[legNum l]
def State.eraseLimit (s : State) (l : Leg) : Nat := s.deadTime l + s.minPulse l

/-! ### Carry (spec/05 R144 to R148) -/

/-- The CARRY object of a leg. -/
def kCarry (l : Leg) : Nat := unitKey 0x302207 (l.val / 6) + l.val % 6

/-- C of a leg, in taps. -/
def State.carry (s : State) (l : Leg) : Int := toSigned 32 (s.rd (kCarry l))

/-- An Edge cause of cell c: its bit of EVENT_CAUSE and source 65 + c (spec/05 R168). -/
def State.edgeCause (s : State) (c i : Nat) : State :=
  (s.wrBit (unitKey 0x302210 c) i true).raise (65 + c)

/-- C of a leg takes a value, limited to CARRY_LIMIT; an excess is discarded and counted (spec/05 R147). -/
def State.setCarry (s : State) (l : Leg) (z : Int) : State :=
  let lim : Int := s.rd (unitKey 0x302201 (l.val / 6) + l.val % 6)
  let s' := s.wr (kCarry l) (ofSigned 32 (clampInt (-lim) lim z))
  if clampInt (-lim) lim z = z then s'
  else (s'.count (unitKey 0x30220E (l.val / 6))).edgeCause (l.val / 6) 1

/-- Carry, bootstrap count and consecutive erasures of a carrier's legs set to 0 (spec/05 R148). -/
def State.resetCarry (s : State) (k : Carrier) : State :=
  forFin 2 s fun j a =>
    (a.wr (kCarry (legOf k j)) 0).modLeg (legOf k j) fun g =>
      { g with bootCount := 0, eraseRun := 0, erasedNow := false }

/-! ### The rows of Guard's table -/

/-- The first row of the table of R289 whose condition holds for a bridge. -/
def State.guardRow (s : State) (c : Cell) (b : Bridge) : Nat :=
  if s.inReset || s.tap.ir == .extest || s.dev == 5 || !s.fitted c then 1
  else if s.guard[c].row2[b] then 2
  else if s.cellSt c == 3 || s.cellSt c == 4 || (s.cellSt c == 6 && s.bitAt (kByp c) 0) then 3
  else if s.rd (kHoldCause c b) != 0 then 4
  else if s.carriers[carrierOf c b].driving then 5
  else 6

/-- Whether the row's pattern is ZERO: the bypass pattern of G, or a SAFE_PATTERN of 1 (spec/09 R289, R296). -/
def State.zeroRow (s : State) (c : Cell) (b : Bridge) : Bool :=
  (s.guardRow c b == 3 && b == 0) ||
    (s.guardRow c b == 4 && s.rd (unitKey 0x700001 c + b.val) == 1)

/-- The protective delay of a leg, in ticks (spec/09 R297). -/
def State.safeDelay (s : State) (l : Leg) : Nat := max (ceilDiv (s.deadTime l) 16) 32

/-- A gate output that Guard turns off at once: the interlock's blanking counts from here (spec/09 R299). -/
def State.gateOff (s : State) (l : Line) : State :=
  if s.gates[l] then
    { s.gate l false with clock := { s.clock with lines := upd s.clock.lines l fun x => { x with offAt := some (s.tick * 16) } } }
  else s

/-- One leg of a bridge taken into the ZERO pattern: H off at once, an L that was off after the protective delay. -/
def State.legZero (s : State) (l : Leg) : State :=
  let on := s.gates[lineL l]
  let due := if on then none else
    match s.legs[l].safeOn with
    | some t => some t
    | none => some (s.tick + s.safeDelay l)
  (s.gateOff (lineH l)).modLeg l fun g => { g with turnOn := none, safeOn := due }

/-- One leg with both gates off and nothing waiting. -/
def State.legOff (s : State) (l : Leg) : State :=
  ((s.gateOff (lineH l)).gateOff (lineL l)).modLeg l fun g =>
    { g with turnOn := none, safeOn := none }

/-- The Edge unit stops driving a bridge; its leg commands follow the waveform, and the jump to its level is no CMP event (spec/05 R162; log entry 144). -/
def State.stopDriving (s : State) (k : Carrier) : State :=
  if s.carriers[k].driving then
    let s' := s.modCarrier k fun c => { c with driving := false }
    forFin 2 s' fun j a =>
      let l := legOf k j
      a.modLeg l fun g =>
        { g with level := a.levelNow l, pulse := none,
                 erased := none, blank := false, refreshDue := false, refreshing := none }
  else s

/-- The gates of a bridge take the pattern of its row; row 5 leaves them to the Edge unit (spec/09 R289). -/
def State.applyRow (s : State) (c : Cell) (b : Bridge) : State :=
  let k := carrierOf c b
  if s.guardRow c b == 5 then s
  else
    let s' := s.stopDriving k
    forFin 2 s' fun j a => if s'.zeroRow c b then a.legZero (legOf k j) else a.legOff (legOf k j)

/-- The conditions under which the Edge unit drives: the cell's state, its bit of OUTPUT_EN, no hold by Guard (spec/05 R161). -/
def State.driveOk (s : State) (k : Carrier) : Bool :=
  let c := cellOf k
  let b := bridgeOf k
  let en := s.rd (kCarrier c b 0x0C)
  let st := s.cellSt c
  s.fitted c && s.rd (kHoldCause c b) == 0 && !s.guard[c].row2[b] &&
    ((st == 1 && bit en 0) || (st == 2 && bit en 1) || (st == 5 && bit en 2))

/-- Every running activity changed (spec/19 R630). -/
def State.modSlots (s : State) (f : SlotSt → SlotSt) : State :=
  { s with jobs := { s.jobs with slots := updAll s.jobs.slots fun _ x => x.map f } }

/-- Whether GATE_LOOPBACK has a cell: its Edge unit drives into the loopback samplers and its GT balls stay low (spec/19 R629). -/
def State.looped (s : State) (c : Cell) : Bool :=
  anyOf s.jobs.slots fun x => match x with
    | some j => j.act == 6 && bit j.arg c.val
    | none => false

/-- Whether a carrier may drive: those conditions hold, or GATE_LOOPBACK has its cell and Guard does not hold the bridge; it runs, and in CHARGE its CHARGE_MODE is not 0 (spec/05 R139, R161, spec/19 R629). -/
def State.mayDrive (s : State) (k : Carrier) : Bool :=
  let c := cellOf k
  let b := bridgeOf k
  (s.driveOk k || (s.looped c && s.fitted c && s.rd (kHoldCause c b) == 0 && !s.guard[c].row2[b])) &&
    s.carriers[k].running &&
    !(s.cellSt (cellOf k) == 1 && s.rd (kCarrier (cellOf k) (bridgeOf k) 2) == 0)

/-- Every bridge of a cell: driving ends where its conditions have ended, and the gates follow (spec/05 R162). -/
def State.applyCell (s : State) (c : Cell) : State :=
  forFin 3 s fun b a =>
    let k := carrierOf c b
    (if a.mayDrive k then a else a.stopDriving k).applyRow c b

/-- Every bridge of every cell. -/
def State.applyAll (s : State) : State := forFin 6 s fun c a => a.applyCell c

/-! ### Holds (spec/09 R293, R301 to R303) -/

/-- Cause bits set in HOLD_CAUSE of a bridge: a new hold counts and resets the carry; the bridge's own DF input puts it in row 2. -/
def State.hold (s : State) (c : Cell) (b : Bridge) (bits : Nat) : State :=
  if !s.fitted c then s
  else
    let fresh := s.rd (kHoldCause c b) == 0
    let s1 := s.orBits (kHoldCause c b) bits
    let s2 := if fresh then (s1.count (unitKey 0x700408 c)).resetCarry (carrierOf c b) else s1
    let s3 := s2.modGuard c fun g =>
      { g with row2 := g.row2.set b ((g.row2[b] && !fresh) || bit bits b.val) }
    s3.applyRow c b

/-- Cause bits cleared in HOLD_CAUSE of a bridge; the hold ends with its last bit. -/
def State.unhold (s : State) (c : Cell) (b : Bridge) (bits : Nat) : State :=
  let s1 := s.clrBits (kHoldCause c b) bits
  let s2 := if s1.rd (kHoldCause c b) == 0 then
      s1.modGuard c fun g => { g with row2 := g.row2.set b false }
    else s1
  s2.applyRow c b

/-- Cause bits set on every bridge of a cell. -/
def State.holdCell (s : State) (c : Cell) (bits : Nat) : State :=
  forFin 3 s fun b a => a.hold c b bits

/-- Cause bits set on every bridge of the device. -/
def State.holdAll (s : State) (bits : Nat) : State := forFin 6 s fun c a => a.holdCell c bits

/-- Cause bits cleared on every bridge of a cell (spec/09 R302). -/
def State.unholdCell (s : State) (c : Cell) (bits : Nat) : State :=
  forFin 3 s fun b a => a.unhold c b bits

/-! ### Trip inputs (spec/09 R291, R292) -/

/-- Whether a window comparator of channel ch acts and is tripped. -/
def State.winActive (s : State) (ch : Fin 7) : Bool :=
  s.rd ((0x4100 + ch.val) * 256 + 5) == 1 &&
    (s.winTrip[2 * ch.val]'(by omega) || s.winTrip[2 * ch.val + 1]'(by omega))

/-- Whether the fast comparator of stream n acts and is tripped. -/
def State.fastActive (s : State) (n : Nat) : Bool :=
  s.rd ((0x4300 + n) * 256 + 9) == 1 && field (s.rd ((0x4300 + n) * 256 + 12)) 1 2 != 0

/-- Whether trip input i of R315 of cell c is active now. -/
def State.tripInput (s : State) (c : Cell) (i : Nat) : Bool :=
  if i < 3 then s.bitAt 0x46004A (c.val * 3 + i)
  else if i = 3 then s.winActive ⟨c.val, by omega⟩
  else if i = 4 then s.winActive 6
  else if i < 8 then s.fastActive (c.val * 3 + (i - 5))
  else if i = 8 then s.extActive else false

/-- TRIP_ACTIVE of a cell: its live inputs (spec/09 R314). -/
def State.tripActive (s : State) (c : Cell) : Nat :=
  if s.fitted c then maskOf 9 (s.tripInput c) else 0

/-- The bridges that trip input i holds (spec/09 R291, R311). -/
def State.actsOn (s : State) (c : Cell) (i : Nat) : Nat :=
  if i < 3 then s.rd (unitKey 0x700101 c + i)
  else if i = 3 then s.rd (unitKey 0x700104 c)
  else if i = 4 then s.rd (unitKey 0x700105 c)
  else if i < 8 then s.rd (unitKey 0x700106 c + (i - 5)) else 7

/-- The timebase island registers a bridge's change of pattern 1 to 2 ticks after a trip reaches Guard, a free value between: the protective delays that the trip has started count from there (spec/09 R297; log entry 49). -/
def State.registerTrip (s old : State) (c : Cell) (b : Bridge) : State :=
  let starts (j : Fin 2) : Bool :=
    s.legs[legOf (carrierOf c b) j].safeOn.isSome && old.legs[legOf (carrierOf c b) j].safeOn.isNone
  if starts 0 || starts 1 then
    let (d, s) := s.freeIn 1 2
    forFin 2 s fun j a =>
      if starts j then a.modLeg (legOf (carrierOf c b) j) fun g => { g with safeOn := g.safeOn.map (· + d) } else a
  else s

/-- An active trip input holds the bridges it acts on (spec/09 R293). -/
def State.trip (s : State) (c : Cell) (i : Nat) : State :=
  forFin 3 s fun b a => if bit (s.actsOn c i) b.val then (a.hold c b (2 ^ i)).registerTrip a c b else a

/-- A trip input of a cell has become inactive: AUTO_DELAY counts from here (spec/09 R305). -/
def State.tripEnds (s : State) (c : Cell) (i : Fin 9) : State :=
  s.modGuard c fun g => { g with quiet := g.quiet.set i s.tick }

/-- The level of trip input i of a cell has changed or is evaluated (spec/09 R293, R675). -/
def State.evalTrip (s : State) (c : Cell) (i : Fin 9) : State :=
  if !s.fitted c then s
  else if s.tripInput c i.val then s.trip c i.val else s.tripEnds c i

/-- Every trip input of a cell evaluated at its present level; a DF input at its fault level asserts its source (spec/09 R675). -/
def State.evalCell (s : State) (c : Cell) : State :=
  forFin 9 s fun i a => if a.tripInput c i.val then a.trip c i.val else a

end Sys2Proof.Machine
end

