-- ==== Sys2Proof/Machine/Edge.lean ====
section
/-! DEFINITION. Carriers and pulses: periods, transfers, phase references, judgement and erasure of pulses, dead time, refresh and carrier events (spec/05). -/

namespace Sys2Proof.Machine

/-! ### Placement of edges (spec/05 R127, spec/03 R77, R80, R86, R90) -/

/-- Whether a line is flagged as failed (spec/03 R86). -/
def State.lineFailed (s : State) (l : Line) : Bool := s.bitAt (0x203002 + l.val / 32) (l.val % 32)

/-- Taps to which a line's edges are quantised: 100 on the relaxation oscillator, 64 in PLL_T bypass, 16 on a failed line and before the first pass, else 1. -/
def State.quantum (s : State) (l : Line) : Nat :=
  if s.bitAt 0x200005 1 then (if s.clock.refPresent then 64 else 100)
  else if s.lineFailed l || !s.bitAt 0x203001 1 then 16 else 1

/-- The quantum of a leg: that of its coarser line. -/
def State.legQuantum (s : State) (l : Leg) : Nat := max (s.quantum (lineH l)) (s.quantum (lineL l))

/-- The boundary at or before t on a grid of q taps, counted from tick 0 (log entry 130). -/
def placeOff (q t : Nat) : Nat := t / q * q

/-- The boundary at or after t on a grid of q taps. -/
def placeOn (q t : Nat) : Nat := ceilDiv t q * q

/-- The instant at which a turn-off is issued: earlier, to the boundary before it; where that boundary has passed, at the present one (spec/03 R80). -/
def State.offAt (s : State) (q t : Nat) : Nat :=
  if q = 1 then t else max (placeOff q t) (placeOff q (s.tick * 16))

/-- Time passes until the tick that holds a local instant in taps. -/
def State.toTaps (s : State) (t : Nat) : State := s.advanceTo (t / 16)

/-- An edge issued on a line at an instant: the tick ⌊T/16⌋, and the tap T mod 16 for its fine-delay line (spec/05 R127). -/
def State.issueEdge (s : State) (l : Line) (on : Bool) (t : Nat) : State :=
  let s := (s.toTaps t).gate l on
  { s with clock := { s.clock with lines := upd s.clock.lines l fun x =>
      { x with edgeAt := some t, offAt := if on then x.offAt else some t } } }

/-! ### Carrier events (spec/05 R164 to R166) -/

/-- The prescaler's N and O of event type y; a written value filters at once, though the numbers restart at the next ZERO (spec/05 R166, R172; log entry 145). -/
def State.prescale (s : State) (k : Carrier) (y : Nat) : Nat × Nat :=
  let i := unitKey 0x305001 (cellOf k) + (bridgeOf k).val * 5 + y
  (s.rd i, s.rd (i + 15))

/-- An event of type y at an instant of a carrier: numbered, and signalled to the router at the first tick boundary at or after it where its number is O modulo N (spec/05 R165, R166). -/
def State.event (s : State) (k : Carrier) (y : Fin 5) (t : Nat) : State :=
  let c := s.carriers[k]
  let no := s.prescale k y.val
  let pass := c.evIdx[y] % (max no.1 1) == no.2
  let s1 := s.modCarrier k fun c =>
    { c with evIdx := c.evIdx.set y (c.evIdx[y] + 1),
             evAt := if pass then c.evAt.set y (some t) else c.evAt }
  if pass then
    s1.emit (k.val * 8 + y.val) (ceilDiv (s.localOf k t) 16) (if c.pref = 1 then some (t * 2 ^ 32 / 10) else none)
  else s1

/-- CMP1 or CMP2 of a leg. -/
def State.cmpEvent (s : State) (l : Leg) (t : Nat) : State :=
  s.event (legCarrier l) (if legNum l = 0 then 2 else 3) t

/-! ### Shadows (spec/05 R153 to R158, R673) -/

/-- The shadows of a carrier: the objects' values, in which the last load of any writer stands (spec/05 R673). -/
def State.shadows (s : State) (k : Carrier) : EdgeVals :=
  let c := (cellOf k).val
  let b := (bridgeOf k).val
  let car (i : Nat) := s.rd (kCarrier c b i)
  let leg (base : Nat) : Vector Nat 2 := Vector.ofFn fun j => s.rd (unitKey base c + 2 * b + j.val)
  { ticks := car 4, fine := car 5, phase := car 6, fixed := car 8, leg2 := car 9,
    tcmp := s.rd (unitKey 0x301007 c + b), tcmpAbs := s.rd (unitKey 0x301010 c + b),
    cmp := leg 0x301001, cmpAbs := leg 0x30100A, dead := leg 0x302001, boot := leg 0x303007, slew := car 7 }

/-- The values v with those of w whose bits are set in a mask, in the order of EdgeVals. -/
def mixVals (m : Nat) (v w : EdgeVals) : EdgeVals :=
  let p {α : Type} (i : Nat) (a b : α) : α := if bit m i then b else a
  let p2 (i : Nat) (a b : Vector Nat 2) : Vector Nat 2 := Vector.ofFn fun j => p (i + j.val) a[j] b[j]
  { ticks := p 0 v.ticks w.ticks, fine := p 1 v.fine w.fine, phase := p 2 v.phase w.phase,
    fixed := p 3 v.fixed w.fixed, leg2 := p 4 v.leg2 w.leg2, tcmp := p 5 v.tcmp w.tcmp,
    tcmpAbs := p 6 v.tcmpAbs w.tcmpAbs, cmp := p2 7 v.cmp w.cmp, cmpAbs := p2 9 v.cmpAbs w.cmpAbs,
    dead := p2 11 v.dead w.dead, boot := p2 13 v.boot w.boot, slew := p 15 v.slew w.slew }

/-- Every shadow. -/
def allShadows : Nat := 2 ^ 16 - 1

/-- The bit of a shadowed object's subindex in the order of EdgeVals, with the bridge it belongs to (spec/05 R153). -/
def shadowBit (item sub : Nat) : Option (Nat × Nat) :=
  if item < 3 then
    match sub with
    | 4 => some (item, 0)
    | 5 => some (item, 1)
    | 6 => some (item, 2)
    | 8 => some (item, 3)
    | 9 => some (item, 4)
    | _ => none
  else if item = 0x10 then
    if 1 ≤ sub && sub ≤ 6 then some ((sub - 1) / 2, 7 + (sub - 1) % 2)
    else if 7 ≤ sub && sub ≤ 9 then some (sub - 7, 5)
    else if 0xA ≤ sub && sub ≤ 0xF then some ((sub - 0xA) / 2, 9 + (sub - 0xA) % 2)
    else if 0x10 ≤ sub && sub ≤ 0x12 then some (sub - 0x10, 6) else none
  else if item = 0x20 && 1 ≤ sub && sub ≤ 6 then some ((sub - 1) / 2, 11 + (sub - 1) % 2)
  else if item = 0x30 && 7 ≤ sub && sub ≤ 12 then some ((sub - 7) / 2, 13 + (sub - 7) % 2)
  else none

/-- The period in taps that values give; one below 250 ticks is used as 250 (spec/05 R126, R138). -/
def EdgeVals.period (v : EdgeVals) : Nat := max v.ticks 250 * 16 + v.fine

/-- The shadow side opened for loads in tick t: what stood before it is kept (spec/05 R154). -/
def ShadowSt.open_ (x : ShadowSt) (t : Nat) : ShadowSt :=
  if x.tick = t then x else ⟨x.now, x.now, t, 0, false⟩

/-- Shadow i loaded in tick t, the shadows being w. -/
def ShadowSt.load (x : ShadowSt) (t i : Nat) (w : EdgeVals) : ShadowSt :=
  let y := x.open_ t
  { y with now := { y.now with vals := mixVals (2 ^ i) y.now.vals w, pend := y.now.pend ||| 2 ^ i },
           fresh := y.fresh ||| 2 ^ i }

/-- COMMIT loaded in tick t. -/
def ShadowSt.arm (x : ShadowSt) (t : Nat) : ShadowSt :=
  let y := x.open_ t
  { y with now := { y.now with armed := true }, freshArm := true }

/-- What a transfer instant in tick t sees: the loads of the ticks before it (spec/05 R154). -/
def ShadowSt.seen (x : ShadowSt) (t : Nat) : Loads := if x.tick = t then x.before else x.now

/-- The shadows of a mask, latched in tick t, no longer wait; one loaded anew in that tick does. -/
def ShadowSt.clear (x : ShadowSt) (t m : Nat) : ShadowSt :=
  { x with now := { x.now with pend := clearMask x.now.pend (if x.tick = t then clearMask m x.fresh else m) },
           before := { x.before with pend := clearMask x.before.pend m } }

/-- The arming ends; one loaded in tick t itself stands (spec/05 R157). -/
def ShadowSt.disarm (x : ShadowSt) (t : Nat) : ShadowSt :=
  { x with now := { x.now with armed := x.tick = t && x.freshArm }, before := { x.before with armed := false } }

/-- A load of shadow i of a carrier: at once where the carrier has no boundaries, else waiting for a boundary (spec/05 R153, R155, R157). -/
def State.loadShadow (s : State) (k : Carrier) (i : Nat) : State :=
  let w := s.shadows k
  s.modCarrier k fun c =>
    if !c.running then
      { c with v := mixVals (2 ^ i) c.v w, sh := .of w s.tick, span := (mixVals (2 ^ i) c.v w).period }
    else { c with sh := c.sh.load s.tick i w }

/-- A host write of PHASE_SLEW acts at once: it has no shadow (spec/05 R153). -/
def State.loadSlew (s : State) (k : Carrier) : State :=
  let n := s.rd (kCarrier (cellOf k) (bridgeOf k) 7)
  s.modCarrier k fun c =>
    let put (x : Loads) : Loads := { x with vals := { x.vals with slew := n }, pend := clearMask x.pend 0x8000 }
    { c with v := { c.v with slew := n }, staged := c.staged.map fun v => { v with slew := n },
             sh := { c.sh with now := put c.sh.now, before := put c.sh.before } }

/-- COMMIT arms the transfer of a bridge's pending shadows; ignored in RATIO mode and without boundaries (spec/05 R153, R155, R157). -/
def State.armCommit (s : State) (k : Carrier) : State :=
  if s.absolute k && s.carriers[k].running then s.modCarrier k fun c => { c with sh := c.sh.arm s.tick } else s

/-! ### Phase (spec/05 R129 to R135) -/

/-- A Q31 phase times a period, rounded half up (spec/05 R128). -/
def phaseTaps (phase period : Nat) : Int := (toSigned 32 phase * period + 2 ^ 30) / 2 ^ 31

/-- A distance reduced into (−P/2, P/2] (spec/05 R133). -/
def centred (d : Int) (p : Nat) : Int :=
  let r := d % (p : Int)
  if 2 * r > p then r - p else r

/-- The leader of a following carrier. -/
def leaderOf (k : Carrier) (pref : Nat) : Carrier := carrierOf (cellOf k) ⟨(pref - 2) % 3, by omega⟩

/-- A Q31 phase reduced modulo 1, in units of 2^-31 (spec/05 R131). -/
def unitPhase (phase : Nat) : Nat := (toSigned 32 phase % 2 ^ 31).toNat

/-- A fraction in units of 2^-31 of a period, rounded half up (spec/05 R128). -/
def fracTaps (n period : Nat) : Nat := (n * period + 2 ^ 30) / 2 ^ 31

/-- The stretch of one period of p taps: the phase error d limited to n units of 2^-31 of the period, 0 meaning no limit, rounded half up (spec/05 R128, R133). -/
def stretch (n : Nat) (d : Int) (p : Nat) : Int :=
  let lim : Int := n * p
  if n = 0 then d
  else if lim < d * 2 ^ 31 then (lim + 2 ^ 30) / 2 ^ 31
  else if d * 2 ^ 31 < -lim then (-lim + 2 ^ 30) / 2 ^ 31
  else d

/-- The local instant of a carrier's next ZERO. -/
def State.nextZero (s : State) (k : Carrier) : Nat := s.localOf k s.carriers[k].nextAt

/-- The first network instant at or after t that is aligned to origin + phase (spec/05 R130). -/
def firstAligned (t origin p : Nat) (phase : Int) : Nat :=
  let off := ((origin : Int) + phase - t) % (p : Int)
  t + off.toNat

/-- A carrier starts: its values in force are the shadows, its events number from 0, its first ZERO follows its reference; a follower's awaits its leader's ZERO where the one of the leader's present period is past (spec/05 R129 to R131, R163). -/
def State.startCarrier (s : State) (k : Carrier) : State :=
  let c := (cellOf k).val
  let b := (bridgeOf k).val
  let v := s.shadows k
  let pref := s.rd (kCarrier c b 3)
  let p := v.period
  let ld := s.carriers[leaderOf k pref]
  let z := ld.zeroLoc + fracTaps (unitPhase v.phase) ld.pk
  let here := ld.started && s.tick * 16 ≤ z
  let z0 :=
    if pref = 1 then firstAligned s.nowTaps 0 p (phaseTaps v.phase p)
    else if pref ≥ 2 && ld.started then (if here then z else z + ld.pk) else s.tick * 16
  s.modCarrier k fun _ =>
    { CarrierSt.stopped v s.tick with
        phi := if pref ≥ 2 then some (unitPhase v.phase) else none
        running := true, mode := s.rd (kCarrier c b 1), pref := pref, span := p, pk := p,
        nextSpan := if pref ≥ 2 then ld.pk else p, nextAt := z0, placed := pref < 2 || here }

/-- A carrier with no boundaries has its shadows in force (spec/05 R153). -/
def State.restShadows (s : State) (k : Carrier) : State :=
  s.modCarrier k fun _ => .stopped (s.shadows k) s.tick

/-- PERIOD_COUNT is cleared where a carrier's own MODE is 0 (spec/05 R163). -/
def State.clearPeriods (s : State) (k : Carrier) : State :=
  if s.rd (kCarrier (cellOf k) (bridgeOf k) 1) = 0 then s.wr (kCarrier (cellOf k) (bridgeOf k) 0x0E) 0 else s

/-- A carrier stops at an instant: PERIOD_COUNT is cleared where its own MODE is 0, a leg command that was high falls with its CMP event, and a write of a shadow takes effect at once (spec/05 R136, R153, R163, R164). -/
def State.stopCarrier (s : State) (k : Carrier) (t : Nat) : State :=
  let s1 := (s.stopDriving k).clearPeriods k
  let s2 := forFin 2 s1 fun j a =>
    let l := legOf k j
    if a.legs[l].level then (a.modLeg l fun g => { g with level := false }).cmpEvent l t else a
  s2.restShadows k

/-- Whether a carrier is to run: its MODE, and its leader's where it follows; a running one by the reference in force (spec/05 R132, R163). -/
def State.wantsRun (s : State) (k : Carrier) : Bool :=
  let c := (cellOf k).val
  let x := s.carriers[k]
  let pref := if x.running then x.pref else s.rd (kCarrier c (bridgeOf k) 3)
  s.rd (kCarrier c (bridgeOf k) 1) != 0 &&
    (pref < 2 || s.rd (kCarrier c ((pref - 2) % 3) 1) != 0)

/-- The carriers of a cell start and stop as their MODEs say; one that its leader had stopped still loses its PERIOD_COUNT with its own MODE (spec/05 R163). -/
def State.syncCarriers (s : State) (c : Cell) : State :=
  forFin 3 s fun b a =>
    let k := carrierOf c b
    if a.wantsRun k && !a.carriers[k].running then a.startCarrier k
    else if a.wantsRun k then a
    else if a.carriers[k].running then (a.stopCarrier k (a.carrierNow k)).applyRow c b
    else a.clearPeriods k

/-- Network time has moved by d taps: every NETWORK carrier keeps its local instants, so that only its commanded alignment moves. -/
def State.rebaseNet (s : State) (d : Int) : State :=
  let mv (x : Nat) : Nat := (x + d).toNat
  let s1 := forFin 18 s fun k a =>
    if a.carriers[k].running && a.carriers[k].pref = 1 then
      let a := a.modCarrier k fun c =>
        { c with zeroAt := c.zeroAt + d, lastZero := mv c.lastZero, nextAt := mv c.nextAt }
      forFin 2 a fun j a => a.modLeg (legOf k j) fun g =>
        { g with pulse := g.pulse.map fun p => { p with lead := mv p.lead, tail := p.tail.map mv },
                 erased := g.erased.map fun p => { p with lead := mv p.lead },
                 refreshing := g.refreshing.map fun p => (mv p.1, p.2) }
    else a
  s1

/-! ### Driving (spec/05 R161) -/

/-- The width that a pulse of a leg has from phase θ on by the values in force; none where the waveform never changes (spec/05 R137, R143). -/
def State.pulseWidth (s : State) (l : Leg) (th : Nat) : Option Nat :=
  if waveConst (s.wave l) then none else some (waveRemaining (s.wave l) th)

/-- An erased pulse counts (spec/05 R168, R171). -/
def State.countErase (s : State) (l : Leg) : State :=
  (s.modLeg l fun g => { g with erasedNow := true }).count (unitKey 0x30220D (l.val / 6))

/-- One leg at the start of driving, at an instant of its carrier: the pulse in progress is judged over its remaining width (spec/05 R161). -/
def State.startLeg (s : State) (l : Leg) (t : Nat) : State :=
  let k := legCarrier l
  let w := s.wave l
  let th := s.theta k t
  let lvl := waveLevel w th
  let ok := match s.pulseWidth l th with
    | none => true
    | some n => n ≥ s.eraseLimit l
  let s1 := (s.legOff l).modLeg l fun g =>
    { g with level := lvl, blank := !ok, lowSeen := !lvl, refreshDue := false, refreshing := none,
             erased := none, pulse := if ok then some ⟨lvl, t, 0, none⟩ else none,
             turnOn := if ok then some (lvl, s.localOf k t + s.deadTime l) else none }
  if ok then s1 else s1.countErase l

/-- The waveform that the next ZERO puts in force: CHARGE_MODE in CHARGE where it is not 0, else MODE; both changes fall at a ZERO (spec/05 R139; log entry 146). -/
def State.modeAt (s : State) (k : Carrier) : Nat :=
  let c := (cellOf k).val
  let b := (bridgeOf k).val
  let cm := s.rd (kCarrier c b 2)
  if s.cellSt c == 1 && cm != 0 then cm else s.rd (kCarrier c b 1)

/-- The Edge unit starts driving a bridge at a boundary at which it may, under the waveform that the cell's state asks for (spec/05 R139, R148, R161). -/
def State.tryDrive (s : State) (k : Carrier) (t : Nat) : State :=
  let c := s.carriers[k]
  if c.driving || !s.mayDrive k || c.mode != s.modeAt k || s.guardRow (cellOf k) (bridgeOf k) != 6 then s
  else
    let s1 := (s.modCarrier k fun c => { c with driving := true }).resetCarry k
    forFin 2 s1 fun j a => a.startLeg (legOf k j) t

/-! ### Boundaries (spec/05 R133, R135, R153 to R158) -/

/-- Whether transfers take place at the apex, and at ZERO; a ZERO that changes the waveform is a transfer (spec/05 R139, R153). -/
def State.loadsAt (s : State) (k : Carrier) (apex : Bool) : Bool :=
  let at_ := s.rd (kCarrier (cellOf k) (bridgeOf k) 0x0A)
  let c := s.carriers[k]
  if c.mode = 1 then (if apex then at_ ≥ 1 else at_ != 1 || s.modeAt k != 1) else !apex

/-- What the transfer instant latches: in RATIO mode every shadow, in ABSOLUTE mode the pending ones of an armed bridge, whose arming ends with the boundary; a follower's PHASE waits for its leader's ZERO (spec/05 R153 to R157; log entry 147). -/
def State.latch (s : State) (k : Carrier) : State :=
  let abs := s.absolute k
  s.modCarrier k fun c =>
    let x := c.sh.seen s.tick
    let fol := c.pref ≥ 2
    let m := if abs then (if x.armed then x.pend else 0) else if fol then clearMask allShadows 4 else allShadows
    let own := if fol then clearMask m 4 else m
    { c with staged := some (mixVals own c.v x.vals),
             stagedPhase := if fol && bit m 2 then some x.vals.phase else c.stagedPhase,
             commits := abs && x.armed, moves := x.pend &&& m != 0,
             sh := (c.sh.clear s.tick m).disarm s.tick }

/-- The followers of a leader latch their PHASE at the leader's transfer instant (spec/05 R153). -/
def State.latchFollowers (s : State) (k : Carrier) : State :=
  forFin 3 s fun b a =>
    let f := carrierOf (cellOf k) b
    let abs := a.absolute f
    a.modCarrier f fun c =>
      let x := c.sh.seen a.tick
      if c.running && c.pref ≥ 2 && leaderOf f c.pref = k && (!abs || (x.armed && bit x.pend 2)) then
        { c with stagedPhase := some x.vals.phase, sh := c.sh.clear a.tick 4 } else c

/-- The latched values take effect at a boundary, a follower's PHASE as it stands; COMMIT's arming ends with it, and LOAD_SKEW where a shadow was loaded; a new period restarts the events' numbering (spec/05 R138, R153, R157, R158, R166). -/
def State.transfer (s : State) (k : Carrier) : State :=
  s.modCarrier k fun c =>
    match c.staged with
    | none => c
    | some v =>
      let newP := v.period != c.v.period && c.pref < 2
      { c with v := if c.pref < 2 then v else { v with phase := c.v.phase },
               staged := none, commits := false, moves := false,
               skew := if c.moves then 0 else c.skew, skewFlag := c.skewFlag && !c.moves,
               evIdx := if newP then Vector.replicate 5 0 else c.evIdx }

/-- The lone pending writes of a carrier: pending without COMMIT, in ABSOLUTE mode (spec/05 R158). -/
def State.lonePending (s : State) (k : Carrier) : Bool :=
  let x := s.carriers[k].sh.now
  s.absolute k && x.pend != 0 && !x.armed

/-- A boundary while a lone pending write stands: the 16th sets LOAD_SKEW (spec/05 R158). -/
def State.countSkew (s : State) (k : Carrier) : State :=
  let c := s.carriers[k]
  if s.lonePending k then
    let s1 := s.modCarrier k fun c => { c with skew := c.skew + 1, skewFlag := c.skewFlag || c.skew + 1 == 16 }
    if c.skew + 1 = 16 then s1.edgeCause (cellOf k) 2 else s1
  else s.modCarrier k fun c => { c with skew := if c.sh.now.pend = 0 then 0 else c.skew }

/-- A leg at a ZERO while driven: bootstrap count and run of erasures, whose cause arises once per run, at the ZERO that ends its ERASE_EVENT_COUNT-th period (spec/05 R149, R150, R168; log entry 148). -/
def State.legPeriod (s : State) (l : Leg) : State :=
  let g := s.legs[l]
  let c := l.val / 6
  let n := s.rd (unitKey 0x303001 c + l.val % 6)
  let cnt := if n = 0 || g.lowSeen || !g.level then 0 else g.bootCount + 1
  let due := n != 0 && cnt == n
  let run := if g.erasedNow then g.eraseRun + 1 else 0
  let lim := s.rd (unitKey 0x30220F c)
  let s1 := s.modLeg l fun g =>
    { g with bootCount := if due then 0 else cnt, refreshDue := due, lowSeen := !g.level,
             eraseRun := run, erasedNow := false }
  if lim != 0 && run == lim then s1.edgeCause c 0 else s1

/-- A follower at a ZERO of its leader at t, whose period is p and whose ZERO before it was at zp: the latched PHASE takes effect, the phase error is taken and, limited by PHASE_SLEW, moves the alignment, and the follower's coming ZERO is placed. A ZERO of the leader's last period that is still to come stands; an alignment stretched past this ZERO is taken from it; one moved back past it lets the ZERO of the old alignment come first; the transfer of a PHASE clears LOAD_SKEW (spec/05 R131, R133, R153, R158). -/
def CarrierSt.follow (c : CarrierSt) (t p zp : Nat) : CarrierSt :=
  let ph := c.stagedPhase.getD c.v.phase
  let goal := unitPhase ph
  let slew := c.v.slew
  let taken := c.stagedPhase.isSome
  let c0 := { c with v := { c.v with phase := ph }, stagedPhase := none,
                     skew := if taken then 0 else c.skew, skewFlag := c.skewFlag && !taken }
  let put (c : CarrierSt) (n : Nat) : CarrierSt :=
    let z := t + fracTaps n p
    { c with nextAt := if c.started && z ≤ c.lastZero then z + p else z, nextSpan := p, placed := true }
  if !c.started then put { c0 with phi := some goal } goal
  else
    let phi := c.phi.getD ((c.nextAt - t) * 2 ^ 31 / max p 1 % 2 ^ 31)
    if c.stretched then put { c0 with phi := some phi, stretched := false } phi
    else
      let d := centred ((goal : Int) - phi) (2 ^ 31)
      let n : Int := phi + (if slew = 0 then d else clampInt (-slew) slew d)
      let c1 := { c0 with err := d, phi := some (n % 2 ^ 31).toNat, stretched := n ≥ 2 ^ 31 }
      if c.placed && c.lastZero < zp then c1
      else put c1 (if n < 0 then phi else n.toNat)

/-- The followers of a leader at its ZERO (spec/05 R131, R153). -/
def State.zeroFollowers (s : State) (k : Carrier) (t p zp : Nat) : State :=
  forFin 3 s fun b a =>
    let f := carrierOf (cellOf k) b
    a.modCarrier f fun c =>
      if c.running && c.pref ≥ 2 && leaderOf f c.pref = k then c.follow t p zp else c

/-- Origin, phase error and length of the period that a NETWORK carrier begins at a ZERO at t under values v, whose reference it has kept or takes up; a new period keeps the alignment of the PHASE in force before (spec/05 R130, R133, R135). -/
def CarrierSt.aligned (c : CarrierSt) (v : EdgeVals) (t oldPeriod oldPhase : Nat) (same : Bool) : Nat × Int × Nat :=
  let p := v.period
  let origin := if !same then 0 else if p != oldPeriod then
      (((t : Int) - phaseTaps oldPhase p) % (p : Int)).toNat else c.origin
  let d := centred ((origin : Int) + phaseTaps v.phase p - t) p
  (origin, d, ((p : Int) + stretch v.slew d p).toNat)

/-- The period that begins at a ZERO at instant t of the carrier: phase error, span and next ZERO; a follower's next ZERO stands in its leader's period in progress or awaits the leader's ZERO (spec/05 R129 to R133, R135, R163). -/
def State.nextPeriod (s : State) (k : Carrier) (t oldPeriod oldPhase : Nat) (same : Bool) : State :=
  let c := s.carriers[k]
  let p := c.v.period
  if c.pref = 1 then
    let (origin, d, len) := c.aligned c.v t oldPeriod oldPhase same
    s.modCarrier k fun c => { c with origin := origin, err := d, span := len, pk := len, nextAt := t + len, placed := true }
  else if c.pref ≥ 2 then
    let ld := s.carriers[leaderOf k c.pref]
    let lead := s.nextZero (leaderOf k c.pref) - ld.zeroLoc
    let again := match c.phi with
      | some n => ld.zeroLoc + fracTaps n ld.pk
      | none => 0
    s.modCarrier k fun c =>
      { c with span := c.nextSpan, pk := c.nextSpan, nextSpan := ld.pk,
               nextAt := if t < again then again else t + lead, placed := t < again }
  else s.modCarrier k fun c => { c with err := 0, span := p, pk := p, nextAt := t + p, placed := true }

/-! ### A pulse in progress at a boundary (spec/05 R143 to R147) -/

/-- +1 for a high pulse, −1 for a low one. -/
def polarity (high : Bool) : Int := if high then 1 else -1

/-- The instant at which a placed pulse ends, where the waveform ends it at t. W_E is that in force as the trailing edge is decided: DESIGN CHOICE, the spec does not say which DEADTIME it takes after a transfer inside the pulse (spec/05 R145, R146; log entry 172). -/
def State.trailing (s : State) (l : Leg) (t : Nat) : Nat :=
  match s.legs[l].pulse with
  | some p => max (t + p.a) (p.lead + s.eraseLimit l)
  | none => t

/-- C after a placed pulse that ends at t1 where the waveform ended it at t (spec/05 R145, R146). -/
def State.chargedCarry (s : State) (l : Leg) (t t1 : Nat) : Int :=
  match s.legs[l].pulse with
  | some p => s.carry l - polarity p.high * ((t1 : Int) - t)
  | none => s.carry l

/-- The phases at which the waveform of a leg can change to a level: the ends of its active interval, ZERO and the apex, where new values or a new waveform come into force; where edges are judged at an earlier boundary, also those of the coming period (spec/05 R131, R136, R143, R153). -/
def State.changePhases (s : State) (l : Leg) : List Nat :=
  let c := s.carriers[legCarrier l]
  let w := s.wave l
  let xs := [0, c.span / 2, w.start, (w.start + w.width) % max w.span 1]
  if s.legQuantum l = 1 then xs else xs ++ xs.map (· + (c.nextAt - c.zeroAt).toNat)

/-- The phase of the period it lies in. -/
def CarrierSt.inPeriod (c : CarrierSt) (x : Nat) : Nat :=
  let len := (c.nextAt - c.zeroAt).toNat
  if len ≤ x then x - len else x

/-- The local instant at which an edge of a leg is decided: its own, or the quantisation boundary at or before it (spec/05 R143). -/
def State.decidedAt (s : State) (l : Leg) (t : Nat) : Nat :=
  placeOff (s.legQuantum l) (s.localOf (legCarrier l) t)

/-- At a boundary at t: a placed pulse that its waveform has ended before it by the values in force so far, and whose trailing edge is to come after it, keeps that end (spec/05 R143, R145, R146). -/
def State.keepTails (s : State) (k : Carrier) (t : Nat) : State :=
  forFin 2 s fun j a =>
    let l := legOf k j
    let g := a.legs[l]
    match g.pulse with
    | none => a
    | some p =>
      if !a.carriers[k].driving || p.tail.isSome || g.erased.isSome || g.refreshing.isSome || g.level != p.high then a
      else
        let ends := ((a.changePhases l).filter fun (x : Nat) =>
          let y := (a.carriers[k].zeroAt + x).toNat
          p.lead ≤ y && y < t && waveLevel (a.wave l) (a.carriers[k].inPeriod x) != p.high &&
            a.localOf k t ≤ a.decidedAt l (a.trailing l y)).map fun (x : Nat) => (a.carriers[k].zeroAt + x).toNat
        a.modLeg l fun g => { g with pulse := some { p with tail := ends.min? } }

/-- What a ZERO at an instant t0 of the reference in force so far makes of a carrier: the waveform and the reference that the objects give from here on, θ counted from this instant. A change of MODE between two waveforms is taken up here: DESIGN CHOICE, the spec times only the changes from 0 and to 0 (spec/05 R139, R163, R166; log entry 172). -/
def State.newPeriod (s : State) (k : Carrier) (tl t0 : Nat) : State :=
  let c := s.carriers[k]
  let pref := s.rd (kCarrier (cellOf k) (bridgeOf k) 3)
  let mode := s.modeAt k
  let t := if pref = c.pref then t0 else if pref = 1 then s.nowTaps + (tl - s.tick * 16) * s.inc * 10 / (16 * 2 ^ 32) else tl
  s.modCarrier k fun c =>
    { c with mode := mode, pref := pref, phi := if pref = c.pref then c.phi else none,
             stretched := c.stretched && pref == c.pref, started := true, apexDone := false, tcmpDone := false,
             nextSpan := if pref ≥ 2 && pref != c.pref then s.carriers[leaderOf k pref].pk else c.nextSpan,
             zeroAt := t, lastZero := t, zeroLoc := tl,
             evIdx := Vector.ofFn fun y => if c.evRestart[y] then 0 else c.evIdx[y],
             evRestart := Vector.replicate 5 false }

/-- The boundary of a ZERO: what was latched takes effect; a waveform that changes here takes the shadows even where no transfer instant saw the change coming (spec/05 R139, R153, R158). -/
def State.zeroBoundary (s : State) (k : Carrier) : State :=
  let c := s.carriers[k]
  let s1 := if s.modeAt k != c.mode && c.staged.isNone then s.latch k else s
  let s2 := s1.transfer k
  if s.loadsAt k false then s2.countSkew k else s2

/-- PERIOD_COUNT, and ACTIVE_PERIOD of the period that a ZERO at t ends (spec/05 R131, R167, R169). -/
def State.countPeriod (s : State) (k : Carrier) (t : Nat) : State :=
  let b := (bridgeOf k).val
  let cl := (cellOf k).val
  let c := s.carriers[k]
  let len := t - c.lastZero
  let s1 := s.count (kCarrier cl b 0x0E)
  if c.started then (s1.wr (kCarrier cl b 0x0F) (len / 16)).wr (kCarrier cl b 0x10) (len % 16) else s1

/-- A ZERO of a carrier; a follower has one only where its leader's ZERO has placed it, and one whose new leader does not run stops here, after its ZERO event (spec/05 R129 to R139, R149, R153 to R168). -/
def State.zero (s : State) (k : Carrier) : State :=
  let c := s.carriers[k]
  if !c.running || !c.placed then s
  else
    let tl := s.nextZero k
    let s := s.toTaps tl
    let s := (s.countPeriod k c.nextAt).keepTails k c.nextAt
    let s := (s.zeroBoundary k).newPeriod k tl c.nextAt
    let n := s.carriers[k]
    let t := n.lastZero
    if !s.wantsRun k then ((s.event k 0 t).stopCarrier k t).applyRow (cellOf k) (bridgeOf k)
    else
      let s := s.nextPeriod k t c.v.period c.v.phase (n.pref == c.pref)
      let s := s.zeroFollowers k tl s.carriers[k].pk c.zeroLoc
      let s := if n.driving then forFin 2 s fun j a => a.legPeriod (legOf k j) else s
      let s := s.event k 0 t
      if n.mode = 1 then s else s.tryDrive k t

/-- A new period taken at the apex at t: θ there is half of it, and the rest of the period in progress is its second half; the alignment kept is that of the PHASE in force before, so that one taken with it is reached by R133 (spec/05 R133, R135). -/
def CarrierSt.halfAt (c : CarrierSt) (t oldPhase : Nat) : CarrierSt :=
  let p := c.v.period
  let z := t + (p - p / 2)
  { c with zeroAt := (t : Int) - p / 2, span := p, nextAt := z,
           origin := if c.pref = 1 then (((z : Int) - phaseTaps oldPhase p) % (p : Int)).toNat else c.origin }

/-- The apex, or half period, of a carrier, once in a period and before its end: the PERIOD event, numbered before a restart that the apex brings, and in TRIANGLE mode a boundary (spec/05 R131, R135, R136, R153, R161; log entry 145). -/
def State.apex (s : State) (k : Carrier) : State :=
  let c := s.carriers[k]
  let t := (c.zeroAt + c.span / 2).toNat
  if !c.running || !c.started || c.apexDone || c.nextAt ≤ t then s
  else
    let s := s.toTaps (s.localOf k t)
    let s := (s.modCarrier k fun c => { c with apexDone := true }).event k 1 t
    let s := if c.mode = 1 then
        let s1 := (if c.staged.isSome then s.keepTails k t else s).transfer k
        if s.loadsAt k true then s1.countSkew k else s1
      else s
    let s := if s.carriers[k].v.period = c.v.period || c.pref ≥ 2 then s
      else s.modCarrier k fun x => x.halfAt t c.v.phase
    if c.mode = 1 then s.tryDrive k t else s

/-- The phase of the TCMP event (spec/05 R164). -/
def State.tcmpAt (s : State) (k : Carrier) : Nat :=
  let c := s.carriers[k]
  (if s.absolute k then c.v.tcmpAbs else ratioOf c.v.tcmp c.span) % (max c.span 1)

/-- The TCMP event, once in a period and before its end (spec/05 R131, R164). -/
def State.tcmpEvent (s : State) (k : Carrier) : State :=
  let c := s.carriers[k]
  let t := (c.zeroAt + s.tcmpAt k).toNat
  if !c.running || !c.started || c.tcmpDone || c.nextAt ≤ t then s
  else ((s.toTaps (s.localOf k t)).modCarrier k fun c => { c with tcmpDone := true }).event k 4 t

/-- The transfer instant of the coming boundary, 16 ticks before it: what was loaded in a tick before the tick that holds it is latched, once (spec/05 R154). -/
def State.transferInstant (s : State) (k : Carrier) (apex : Bool) : State :=
  let c := s.carriers[k]
  if !c.running || (apex && (!c.started || c.apexDone)) then s
  else
    let t := if apex then s.localOf k (c.zeroAt + c.span / 2) else s.nextZero k
    let s := s.toTaps (t - 256)
    let s := if s.loadsAt k apex && c.staged.isNone then s.latch k else s
    if apex then s else s.latchFollowers k

/-! ### Pulses (spec/05 R124, R140 to R151) -/

/-- The turn-off of one switch of a leg at a command change, and the dead time of the other, which a late turn-off does not shorten; a rise at the ZERO that began this period leaves the leg high throughout it (spec/03 R80, spec/05 R124, R140, R149). -/
def State.commandEdge (s : State) (l : Leg) (high : Bool) (t : Nat) : State :=
  let k := legCarrier l
  let off := if high then lineL l else lineH l
  let tl := s.localOf k t
  let at_ := s.offAt (s.quantum off) tl
  let s := s.issueEdge off false at_
  let early := high && t ≤ s.carriers[k].lastZero
  (s.modLeg l fun g =>
    { g with level := high, blank := false, lowSeen := !early && (g.lowSeen || !high),
             turnOn := some (high, max at_ tl + s.deadTime l) }).cmpEvent l t

/-- The width of a pulse from t to t + w as placed: on the grid of a leg whose lines are coarse, else exact (spec/03 R80, spec/05 R142). -/
def State.placedWidth (s : State) (l : Leg) (t : Nat) (w : Int) : Int :=
  let q := s.legQuantum l
  let k := legCarrier l
  if q = 1 then w else (placeOff q (s.localOf k (t + w)) : Int) - placeOff q (s.localOf k t)

/-- C limited to CARRY_LIMIT (spec/05 R147). -/
def State.clipCarry (s : State) (l : Leg) (z : Int) : Int :=
  let lim : Int := s.rd (unitKey 0x302201 (l.val / 6) + l.val % 6)
  clampInt (-lim) lim z

/-- The width of a pulse that begins at t1, where the waveform is at another level 0, and none where it never ends (spec/05 R137, R143). -/
def State.widthAt (s : State) (l : Leg) (high : Bool) (t1 : Nat) : Option Nat :=
  let th := s.carriers[legCarrier l].inPeriod (s.theta (legCarrier l) t1)
  if waveLevel (s.wave l) th == high then s.pulseWidth l th else some 0

/-- The judgement of a pulse that the waveform begins at t, the pulse before it ending at t1: at its leading instant t1 by the values then in force, where edges are coarse at the boundary before it; an endless pulse is never erased. An erased pulse begins where its edge, which is not issued, would have fallen, and its width counts from there: DESIGN CHOICE, R144 leaves open which edge it counts from (spec/05 R142 to R147; log entry 172). -/
def State.judge (s : State) (l : Leg) (high : Bool) (t t1 : Nat) : State :=
  let we : Int := s.eraseLimit l
  let s := s.toTaps (s.decidedAt l t1)
  let c1 := s.clipCarry l (s.chargedCarry l t t1)
  let spare : Int := (waveWidth (s.wave l) (!high) : Int) - we
  let a : Int := if c1 * polarity high > 0 then max 0 (min c1.natAbs spare) else 0
  let erase := match s.widthAt l high t1 with
    | none => false
    | some w => s.placedWidth l t1 w + a < we
  if erase then (s.modLeg l fun g => { g with erased := some ⟨high, t1, 0, none⟩ }).countErase l
  else
    let s1 := s.setCarry l (s.chargedCarry l t t1)
    let s2 := s1.modLeg l fun g => { g with pulse := some ⟨high, t1, a.toNat, none⟩, erased := none }
    s2.commandEdge l high t1

/-- The phase at which the waveform now in force ends a pulse of a polarity that began at lead: not before the last boundary, whose values are the first that count. None where it never ends: an erased pulse that a transfer makes endless keeps its leg at its level and charges nothing, DESIGN CHOICE (spec/05 R143, R144; log entry 172). -/
def State.pulseEnd (s : State) (l : Leg) (high : Bool) (lead : Nat) : Option Nat :=
  let c := s.carriers[legCarrier l]
  let w := s.wave l
  let x := max (s.theta (legCarrier l) lead) (if c.apexDone && c.mode == 1 then c.span / 2 else 0)
  if waveLevel w x != high then some x
  else if waveConst w then none else some (x + waveRemaining w x)

/-- The would-be end of an erased pulse at the instant that the values now in force give: its width is owed (spec/05 R144). -/
def State.erasedEnd (s : State) (l : Leg) : State :=
  let k := legCarrier l
  match s.legs[l].erased with
  | none => s
  | some p =>
    match s.pulseEnd l p.high p.lead with
    | none => s
    | some x =>
      let t := (s.carriers[k].zeroAt + x).toNat
      let s := s.toTaps (s.localOf k t)
      (s.setCarry l (s.carry l + polarity p.high * ((t : Int) - p.lead))).modLeg l fun g =>
        { g with erased := none }

/-- The low width of a refresh pulse (spec/05 R150). -/
def State.refreshWidth (s : State) (l : Leg) : Nat :=
  s.deadTime l + max s.carriers[legCarrier l].v.boot[legNum l] (s.minPulse l)

/-- The instant at which this period's refresh pulse begins (spec/05 R150). -/
def State.refreshStart (s : State) (l : Leg) : Nat :=
  let c := s.carriers[legCarrier l]
  let wb := s.refreshWidth l
  (c.zeroAt + (if c.mode = 1 then c.span / 2 - wb / 2 else c.span - wb : Nat)).toNat

/-- Whether a refresh pulse may begin: due in this period, and the command high throughout it so far (spec/05 R150). -/
def LegSt.canRefresh (g : LegSt) : Bool := g.refreshDue && g.level && !g.lowSeen && g.refreshing.isNone

/-- A refresh pulse begins: never erased, its width fixed here (spec/05 R150, R151). -/
def State.refresh (s : State) (l : Leg) : State :=
  let t := s.refreshStart l
  let w := s.refreshWidth l
  let s := s.toTaps (placeOff (s.legQuantum l) (s.localOf (legCarrier l) t))
  let s := s.modLeg l fun g =>
    { g with refreshDue := false, refreshing := some (t, w), pulse := some ⟨false, t, 0, none⟩ }
  s.commandEdge l false t

/-- The instants of a carrier at which the waveform of a leg changes to a level, by the values in force (spec/05 R136, R143). -/
def State.changes (s : State) (l : Leg) (high : Bool) : List Nat :=
  let c := s.carriers[legCarrier l]
  ((s.changePhases l).filter fun (x : Nat) => waveLevel (s.wave l) (c.inPeriod x) == high).map fun (x : Nat) =>
    (c.zeroAt + x).toNat

/-- Such an instant that lies at local instant t. -/
def State.changeAt (s : State) (l : Leg) (high : Bool) (t : Nat) : Option Nat :=
  (s.changes l high).find? fun x => s.localOf (legCarrier l) x == t

/-- The waveform's end of the placed pulse of a leg whose trailing edge falls at local instant t: the end kept at a boundary, else one that the values in force give (spec/05 R143, R145, R146). -/
def State.endAt (s : State) (l : Leg) (high : Bool) (t : Nat) : Option Nat :=
  let tail := match s.legs[l].pulse with
    | some p => p.tail
    | none => none
  (match tail with
    | some x => [x]
    | none => s.changes l high).find? fun x => s.localOf (legCarrier l) (s.trailing l x) == t

/-- An erased pulse whose end has come by local instant t is settled. -/
def State.settle (s : State) (l : Leg) (t : Nat) : State :=
  match s.legs[l].erased with
  | none => s
  | some p =>
    match s.pulseEnd l p.high p.lead with
    | none => s
    | some x => if s.localOf (legCarrier l) (s.carriers[legCarrier l].zeroAt + x) ≤ t then s.erasedEnd l else s

/-- A change of a leg's command, at the local instant at which it comes by the values in force; at another instant there is none, nor past a ZERO that is still to come. Undriven, the command follows the waveform; driven, the pulse before it ends, with its carry, and the pulse that begins is judged, a refresh begins where it is due, and a change during a refresh waits for its end (spec/05 R124, R136, R143 to R151, R162). -/
def State.legChange (s : State) (l : Leg) (high : Bool) (t : Nat) : State :=
  let k := legCarrier l
  let c := s.carriers[k]
  if !c.running || !c.started then s
  else if c.driving && !high && s.legs[l].canRefresh && t == s.localOf k (s.refreshStart l) then s.refresh l
  else if !c.driving then
    match s.changeAt l high t with
    | none => s
    | some x =>
      if s.legs[l].level = high then s
      else ((s.toTaps t).modLeg l fun g => { g with level := high }).cmpEvent l x
  else
    match s.endAt l high t with
    | none => s
    | some x =>
      if c.placed && s.nextZero k ≤ s.decidedAt l (s.trailing l x) then s
      else
        let s := s.settle l t
        let g := s.legs[l]
        if g.refreshing.isSome || g.erased.isSome || g.level = high then s
        else s.judge l high x (s.trailing l x)

/-- A refusal counts for a GATE_LOOPBACK that has the cell (spec/19 R629). -/
def State.loopRefused (s : State) (c : Cell) : State :=
  s.modSlots fun j => if j.act == 6 && bit j.arg c.val then { j with seen := j.seen + 1 } else j

/-- A turn-on requested while the partner is on: refused, counted, the bridge held, its source raised (spec/09 R300). -/
def State.refuseOn (s : State) (l : Leg) : State :=
  let k := legCarrier l
  let c := cellOf k
  (((s.loopRefused c).count (unitKey 0x700406 c)).hold c (bridgeOf k) 0x800).raise k.val

/-- The blanking time after the partner's turn-off at t0: between 20 ns and 35 ns, which of these is a free value (spec/09 R299; log entry 149). -/
def State.blanked (s : State) (t0 t : Nat) : Nat × State :=
  if t0 + 350 ≤ t then (t, s)
  else
    let (v, s) := s.freeVal
    (max t (t0 + 200 + v % 151), s)

/-- The dead time of a leg expires: its switch turns on, no earlier than the interlock's blanking after the partner's turn-off (spec/05 R140, spec/09 R299, R300). -/
def State.deadEnd (s : State) (l : Leg) : State :=
  match s.legs[l].turnOn with
  | none => s
  | some (high, t) =>
    let k := legCarrier l
    let on := if high then lineH l else lineL l
    let other := if high then lineL l else lineH l
    let at_ := placeOn (s.quantum on) t
    let (at_, s) := match s.clock.lines[other].offAt with
      | some t0 => s.blanked t0 at_
      | none => (at_, s)
    let s := (s.toTaps at_).modLeg l fun g => { g with turnOn := none }
    if s.guardRow (cellOf k) (bridgeOf k) != 5 then s
    else if s.gates[other] then s.refuseOn l
    else s.issueEdge on true at_

/-- The level that the waveform gives a leg at an instant, ZERO of the next period where it has come. -/
def State.phaseOf (s : State) (k : Carrier) (t : Nat) : Nat :=
  if s.carriers[k].nextAt ≤ t then 0 else s.theta k t

/-- The end of a refresh pulse: its width is credited, and the leg takes up its waveform (spec/05 R151). -/
def State.refreshEnd (s : State) (l : Leg) : State :=
  match s.legs[l].refreshing with
  | none => s
  | some (st, wb) =>
    let k := legCarrier l
    let t := st + wb
    let s := s.toTaps (s.localOf k t)
    let s := (s.setCarry l (s.carry l + wb)).count (unitKey 0x30300D (l.val / 6))
    let s := s.modLeg l fun g => { g with refreshing := none }
    let w := s.wave l
    let th := s.phaseOf k t
    if waveLevel w th then
      (s.modLeg l fun g => { g with pulse := none }).judge l true t t
    else s

/-- Re-anchoring of a NETWORK carrier by a comparator instant; one that does not run is not re-anchored, and the origin is lost with the carrier's stop (spec/05 R134, R166; log entry 150). -/
def State.reanchor (s : State) (k : Carrier) (tn : Nat) : State :=
  s.modCarrier k fun c =>
    if c.running && c.pref = 1 then { c with origin := tn, evIdx := Vector.replicate 5 0 } else c

/-! ### Status (spec/05 R158, R170) -/

/-- STATUS of a carrier. COARSE is live from reset on and reads 1 until the first calibration pass is done, as its meaning says and not the Reset of its map: DESIGN CHOICE (spec/03 R80, R90, spec/05 R158, R170; log entry 38). -/
def State.carrierStatus (s : State) (k : Carrier) : Nat :=
  let c := s.carriers[k]
  let coarse := forFin 2 false fun j a => a || s.legQuantum (legOf k j) != 1
  maskOf 8 fun i =>
    match i with
    | 0 => c.running
    | 1 => s.driveOk k
    | 2 => c.running && c.err == 0
    | 3 => c.running && c.err != 0
    | 4 => c.skewFlag
    | 5 => c.v.ticks < 250
    | 6 => coarse
    | _ => c.sh.now.armed || c.commits

/-- PENDING of a cell: COMMIT armed, and lone pending writes (spec/05 R158). -/
def State.commitPending (s : State) (c : Cell) : Nat :=
  maskOf 7 fun i =>
    if i < 3 then
      let k := s.carriers[carrierOf c ⟨i % 3, by omega⟩]
      k.sh.now.armed || k.commits
    else if 4 ≤ i then s.lonePending (carrierOf c ⟨(i - 4) % 3, by omega⟩)
    else false

/-! ### The commands -/

def execCarrierZero (k : Carrier) (s : State) : Out := .next (s.zero k)
def execCarrierApex (k : Carrier) (s : State) : Out := .next (s.apex k)
def execTcmpEvent (k : Carrier) (s : State) : Out := .next (s.tcmpEvent k)
def execShadowTransfer (k : Carrier) (apex : Bool) (s : State) : Out := .next (s.transferInstant k apex)
def execLegCommandChange (l : Leg) (high : Bool) (at_ : BitVec 64) (s : State) : Out :=
  .next (s.legChange l high at_.toNat)
def execErasedPulseEnd (l : Leg) (s : State) : Out := .next (s.erasedEnd l)
def execDeadtimeTurnOn (l : Leg) (s : State) : Out := .next (s.deadEnd l)
def execRefreshPulseEnd (l : Leg) (s : State) : Out := .next (s.refreshEnd l)

end Sys2Proof.Machine
end

