-- ==== Sys2Proof/Machine/Loop.lean ====
section
/-! DEFINITION. The loop engines: references, the block library, runs, deadlines, commit and rollback, validation (spec/07), and the cell modes they commit (spec/08 R281 to R284). -/

namespace Sys2Proof.Machine

/-- One engine changed. -/
def State.modEngine (s : State) (e : Engine) (f : EngineSt → EngineSt) : State :=
  { s with engines := upd s.engines e f }

/-- One task of an engine changed. -/
def State.modTask (s : State) (e : Engine) (t : Task) (f : TaskSt → TaskSt) : State :=
  s.modEngine e fun g => { g with tasks := upd g.tasks t f }

/-- Engine arithmetic (spec/07 R222). -/
abbrev fe := fmtEng

/-- 1.0 in binary32. -/
abbrev f1 : Nat := 0x3F800000

/-- The engine's minimum and maximum; a NaN operand gives a NaN. -/
def eMin (a b : Nat) : Nat :=
  if fe.isNan a || fe.isNan b then fe.nanOf a b else fe.min a b
def eMax (a b : Nat) : Nat :=
  if fe.isNan a || fe.isNan b then fe.nanOf a b else fe.max a b

/-- A value limited to lo … hi. -/
def eClamp (x lo hi : Nat) : Nat := fe.clamp lo hi x

/-! ### Programs -/

/-- The descriptor of block b: type, task, SUB (spec/07 R257). -/
def State.desc (s : State) (e : Engine) (b : Nat) : Nat := s.rd (unitKey 0x500001 e + b)
def State.bType (s : State) (e : Engine) (b : Nat) : Nat := field (s.desc e b) 0 8
def State.bTask (s : State) (e : Engine) (b : Nat) : Nat := field (s.desc e b) 8 2
def State.bSub (s : State) (e : Engine) (b : Nat) : Nat := field (s.desc e b) 16 8

/-- The key of subindex i of block b (spec/07 R260). -/
def kBlock (e b i : Nat) : Nat := unitKey 0x501000 e + b * 256 + i

/-- Parameter i (1 to 16) and input reference i (1 to 4) of block b. -/
def State.par (s : State) (e : Engine) (b i : Nat) : Nat := s.rd (kBlock e b (4 + i))
def State.inRef (s : State) (e : Engine) (b i : Nat) : Nat := s.rd (kBlock e b i)

/-- The committed output of block b of engine e (spec/07 R262). -/
def kSignal (e b : Nat) : Nat := unitKey 0x504001 e + b
def State.signal (s : State) (e b : Nat) : Nat := s.rd (kSignal e b)

/-- How many of IN1 to IN4 a block type reads (spec/07 R234). -/
def inputsOf (ty : Nat) : Nat :=
  match ty with
  | 2 => 1
  | 3 => 4
  | 4 => 2
  | 5 => 4
  | 6 => 2
  | 7 => 1
  | 8 => 1
  | 9 => 3
  | 10 => 1
  | 11 => 4
  | 12 => 3
  | 13 => 1
  | 14 => 1
  | _ => 0

/-- The blocks of a task, ascending (spec/07 R224). -/
def State.taskBlocks (s : State) (e : Engine) (t : Nat) : List Nat :=
  (List.range 32).filter fun b => s.bType e b != 0 && s.bTask e b == t

/-! ### References (spec/07 R229 to R232) -/

/-- A Q15 word as binary32 (spec/07 R223). -/
def ofQ15 (n : Nat) : Nat := fe.ofInt (toSigned 16 n) (-15)

/-- The binary32 of a number of ticks and taps, in seconds: taps × 10^-10. -/
def tapsSeconds (t : Nat) : Nat := fe.div (fe.ofInt t) (fe.ofInt 10000000000)

/-- The derate factor that class 7 index 0 of cell c reads: the thermal factor, times DERATE_LEVEL while a sticky DERATE source of the cell or the device stands (spec/11 R367, spec/12 R387). -/
def State.derateBy (s : State) (c : Nat) (derated : Bool) : Nat :=
  let f := s.rd (0x900201 + c)
  if derated then fe.mul f (s.rd 0xA00181) else f

/-- The cell a source belongs to: cells 0 to 5, 6 the device, 7 the cells of TRIP_CELLS (spec/12 R404). -/
def sourceScope (n : Nat) : Nat :=
  if n < 36 then n % 18 / 3
  else if n < 42 then n - 36
  else if n = 42 then 6
  else if n < 49 then n - 43
  else if n < 53 then 6
  else if n < 77 then (n - 53) % 6
  else if n = 78 then 7 else 6

/-- Whether a sticky bit of class DERATE stands whose scope is cell c or the device; in a self-fault no class has a reaction (spec/12 R387, R395). -/
def State.derated (s : State) (c : Nat) : Bool :=
  !s.bitAt 0xA00401 0 && (List.range 128).any fun n =>
    s.bitAt (0xA00001 + n / 32) (n % 32) && s.rd (0xA00101 + n) == 1 &&
      (sourceScope n == c || sourceScope n == 6)

/-- A cell quantity (spec/07 R229 class 7). -/
def State.cellQuantity (s : State) (c item : Nat) : Nat :=
  match item with
  | 0 => s.derateBy c (s.derated c)
  | 4 => fe.ofInt (s.cellSt c)
  | i => tapsSeconds (s.rd (kCarrier c (i - 1) 0x0F) * 16 + s.rd (kCarrier c (i - 1) 0x10))

/-- A class 5 reference (spec/07 R229, spec/10 R329). -/
def State.stringRef (s : State) (e : Engine) (i : Nat) : Nat :=
  if h : e.val < 6 then
    let m := ofQ15 s.refs.modRef[e.val]
    let st := ofQ15 s.refs.steer[e.val]
    if i = 0 then m else if i = 1 then st else fe.add m st
  else
    match i with
    | 0 => s.refs.share
    | 1 => s.refs.own
    | 2 => fe.sub s.refs.share s.refs.own
    | 3 => if s.rd 0x801109 == 1 then f1 else 0
    | i => if h : 16 ≤ i ∧ i < 40 ∧ s.manager then s.refs.strings[i - 16]'(by omega) else 0

/-- The value a reference reads now; a class 1 reference reads the committed output (spec/07 R229 to R232, spec/08 R271). -/
def State.readRef (s : State) (e : Engine) (ref : Nat) : Nat :=
  let i := ref % 4096
  match ref / 4096 with
  | 1 => s.signal e i
  | 2 => s.rd ((0x4200 + i) * 256 + 1) % 2 ^ 32
  | 3 => s.rd ((0x4400 + i) * 256 + 1) % 2 ^ 32
  | 4 => s.rd (unitKey 0x600000 e + (i % 4) * 256 + (if i < 4 then 0x0C else 0x0D))
  | 5 => s.stringRef e i
  | 6 => s.signal 6 i
  | 7 => if e.val < 6 then s.cellQuantity e i else s.cellQuantity (i / 8) (i % 8)
  | 8 => s.rd (0x460037 + i)
  | _ => 0

/-- Whether a reference's class and index are accepted in an engine (spec/07 R229, spec/10 R329). -/
def refOk (cellEngine : Bool) (ref : Nat) : Bool :=
  let i := ref % 4096
  match ref / 4096 with
  | 0 => i == 0
  | 1 => i < 32
  | 2 => i < 26
  | 3 => i < 18
  | 4 => i < 8
  | 5 => if cellEngine then i < 3 else i < 4 || (16 ≤ i && i < 40)
  | 6 => cellEngine && i < 32
  | 7 => if cellEngine then i < 5 else i / 8 < 6 && i % 8 < 5
  | 8 => i < 18
  | _ => false

/-- The distinct external references of a task, each with the block that first brings it, in order (spec/07 R230). -/
def State.externals (s : State) (e : Engine) (t : Nat) : List (Nat × Nat) :=
  (s.taskBlocks e t).foldl (fun acc b =>
    (List.range (inputsOf (s.bType e b))).foldl (fun acc i =>
      let r := s.inRef e b (i + 1)
      let ext := 2 ≤ r / 4096 || (r / 4096 == 1 && s.bTask e (r % 4096) != t)
      if ext && !(acc.any fun p => p.2 == r) then acc ++ [(b, r)] else acc) acc) []

/-! ### Blocks (spec/07 R235 to R243) -/

/-- The results of a run so far, most recent first. -/
abbrev Results := List BlkRes

/-- The result of block b in this run. -/
def resOf (acc : Results) (b : Nat) : Option BlkRes := acc.find? fun r => r.blk == b

/-- A result replaced. -/
def resSet (acc : Results) (r : BlkRes) : Results := acc.map fun q => if q.blk == r.blk then r else q

/-- An input: none where unconnected; a lower block of the same task gives this run's output (spec/07 R231, R232). -/
def State.input (s : State) (e : Engine) (b i : Nat) (acc : Results) : Option Nat :=
  let r := s.inRef e b i
  if r / 4096 = 0 then none
  else if r / 4096 = 1 then
    match resOf acc (r % 4096) with
    | some q => some q.out
    | none => some (s.signal e (r % 4096))
  else some (s.readRef e r)

/-- The lower-numbered PI of the same task that input i names (spec/07 R237). -/
def State.piOf (s : State) (e : Engine) (b i : Nat) (acc : Results) : Option BlkRes :=
  let r := s.inRef e b i
  if r / 4096 = 1 && s.bType e (r % 4096) == 5 && r % 4096 < b then resOf acc (r % 4096) else none

/-- The PI law (spec/07 R236): output, integrator, unlimited value. -/
def piLaw (p : Nat → Nat) (e u2 lo hi s1 : Nat) : Nat × Nat × Nat :=
  let d := fe.mul (p 2) e
  let i := eClamp (fe.add s1 d) (p 6) (p 5)
  let v := fe.add (fe.add (fe.mul (p 1) e) i) u2
  if (fe.lt hi v && fe.lt 0 d) || (fe.lt v lo && fe.lt d 0) then
    let i := eClamp s1 (p 6) (p 5)
    let v := fe.add (fe.add (fe.mul (p 1) e) i) u2
    (eClamp v lo hi, i, v)
  else (eClamp v lo hi, i, v)

/-- A write-back of a PI to a target (spec/07 R237): output, integrator, unlimited value. -/
def piBack (p : Nat → Nat) (e u2 lo hi g : Nat) : Nat × Nat × Nat :=
  let i := eClamp (fe.sub (fe.sub g (fe.mul (p 1) e)) u2) (p 6) (p 5)
  let v := fe.add (fe.add (fe.mul (p 1) e) i) u2
  (eClamp v lo hi, i, v)

/-- CLAMPED: y differs from v (spec/07 R236). -/
def clampedBit (y v : Nat) : Nat := if fe.eqv y v then 0 else 1

/-- The slope of segment i of a LINEARISE block, which the Supervisor computes in binary32 (spec/07 R242). -/
def slope (p : Nat → Nat) (i : Nat) : Nat :=
  fmt32.div (fmt32.sub (p (i + 9)) (p (i + 8))) (fmt32.sub (p (i + 1)) (p i))

/-- LINEARISE (spec/07 R242), also the NTC curve of spec/11 R360 where the caller's points differ. -/
def linearise (p : Nat → Nat) (symmetric : Bool) (u : Nat) : Nat :=
  let neg := symmetric && fe.lt u 0
  let a := if symmetric then fe.abs u else u
  let f :=
    if fe.le a (p 1) then p 9
    else if fe.le (p 8) a then p 16
    else if fe.isNan a then fe.nanOf a a
    else
      let i := ((List.range 7).map (· + 1)).foldl (fun m i => if fe.le (p i) a then i else m) 1
      fe.add (p (i + 8)) (fe.mul (fe.sub a (p i)) (slope p i))
  if neg then fe.mul (fe.neg f1) f else fe.mul f1 f

/-- A finite number times an integer factor, rounded once to an integer, ties to even (spec/07 R243). -/
def scaledInt (x factor : Nat) : Int :=
  match fe.decode x with
  | .num neg m ex => let r : Int := Fmt.shiftRne (m * factor) ex false; if neg then -r else r
  | .inf neg => if neg then -(2 ^ 80) else 2 ^ 80
  | .nan => 0

/-- What an OUTPUT block stages: keys and values of the field its SUB names (spec/07 R243, spec/10 R330). -/
def stageOf (e : Engine) (sub u : Nat) : List (Nat × Nat) :=
  let t := sub / 16
  let c := e.val
  let u32 (z : Int) : Nat := (clampInt 0 0xFFFFFFFF z).toNat
  match sub % 16 with
  | 0 => [(unitKey 0x301001 c + t, (clampInt 0 0x80000000 (scaledInt u (2 ^ 31))).toNat)]
  | 1 => [(unitKey 0x301007 c + t, (clampInt 0 0x80000000 (scaledInt u (2 ^ 31))).toNat)]
  | 2 => [(kCarrier c t 6, ofSigned 32 (clampInt (-2147483648) 2147483647 (scaledInt u (2 ^ 31))))]
  | 3 =>
    let n := (clampInt 0 68719476735 (scaledInt u 10000000000)).toNat
    [(kCarrier c t 4, n / 16), (kCarrier c t 5, n % 16)]
  | 4 => [(kCarrier c t 8, u32 (scaledInt u 10000000000))]
  | 5 => [(unitKey 0x30100A c + t, u32 (scaledInt u 10000000000))]
  | 6 => [(unitKey 0x301010 c + t, u32 (scaledInt u 10000000000))]
  | 7 => [(0x801002 + t, eClamp u (fe.neg f1) f1)]
  | _ => []

/-- Write-backs of a SEL: every connected losing input that is a PI (spec/07 R240). -/
def State.selBack (s : State) (e : Engine) (b win y : Nat) (acc : Results) : Results :=
  (List.range 4).foldl (fun acc i =>
    if i + 1 = win then acc
    else match s.piOf e b (i + 1) acc with
      | none => acc
      | some q =>
        let (o, st, v) := piBack (s.par e q.blk) q.e q.u2 q.lo q.hi y
        resSet acc { q with out := o, s1 := st, flags := clampedBit o v + 4 }) acc

/-- One block of a run: its result, and the results with its write-backs (spec/07 R235 to R243). -/
def State.evalBlock (s : State) (e : Engine) (b : Nat) (acc : Results) : BlkRes × Results :=
  let p := s.par e b
  let inp (i : Nat) := s.input e b i acc
  let u (i : Nat) := (inp i).getD 0
  let s1 := s.rd (kBlock e b 0x16)
  let s2 := s.rd (kBlock e b 0x17)
  let fl := s.rd (kBlock e b 0x18)
  let mk (y a1 a2 f : Nat) : BlkRes := ⟨b, fe.flushed y, fe.flushed a1, fe.flushed a2, f, 0, 0, 0, 0⟩
  let sub := s.bSub e b
  match s.bType e b with
  | 1 => (mk (p 1) s1 s2 0, acc)
  | 2 => (mk (fe.add (fe.mul (p 1) (u 1)) (p 2)) s1 s2 0, acc)
  | 3 =>
    let y := (List.range 4).foldl (fun y i =>
      match field sub (2 * i) 2 with
      | 1 => fe.add y (u (i + 1))
      | 2 => fe.sub y (u (i + 1))
      | _ => y) 0
    (mk y s1 s2 0, acc)
  | 4 => (mk (fe.mul (fe.mul (u 1) ((inp 2).getD f1)) (p 1)) s1 s2 0, acc)
  | 5 =>
    let hi := match inp 3 with
      | some x => eMin (p 3) x
      | none => p 3
    let lo := match inp 4 with
      | some x => eMax (p 4) x
      | none => p 4
    let lo := if fe.lt hi lo then hi else lo
    let (y, i, v) := piLaw p (u 1) (u 2) lo hi s1
    (⟨b, y, i, s2, clampedBit y v, u 1, u 2, lo, hi⟩, acc)
  | 6 =>
    let r := fe.add (fe.mul (p 2) (u 1)) s1
    let v := fe.add (fe.add (fe.mul (p 1) (u 1)) r) (u 2)
    let y := eClamp v (p 8) (p 7)
    if fe.eqv y v then
      (mk y (fe.add (fe.sub (fe.mul (p 3) (u 1)) (fe.mul (p 5) r)) s2)
        (fe.sub (fe.mul (p 4) (u 1)) (fe.mul (p 6) r)) 0, acc)
    else (mk y s1 s2 1, acc)
  | 7 =>
    let y := fe.add (fe.mul (p 1) (u 1)) s1
    (mk y (fe.sub (fe.mul (p 2) (u 1)) (fe.mul (p 3) y)) s2 0, acc)
  | 8 =>
    let y := fe.add (fe.mul (p 1) (u 1)) s1
    (mk y (fe.add (fe.sub (fe.mul (p 2) (u 1)) (fe.mul (p 4) y)) s2)
      (fe.sub (fe.mul (p 3) (u 1)) (fe.mul (p 5) y)) 0, acc)
  | 9 =>
    let hi := match inp 2 with
      | some x => eMin (p 1) x
      | none => p 1
    let lo := match inp 3 with
      | some x => eMax (p 2) x
      | none => p 2
    let lo := if fe.lt hi lo then hi else lo
    let y := eClamp (u 1) lo hi
    (mk y s1 s2 (clampedBit y (u 1)), acc)
  | 10 =>
    let y := if bit fl 4 then fe.add s1 (eClamp (fe.sub (u 1) s1) (fe.neg (p 2)) (p 1)) else u 1
    (mk y y s2 (clampedBit y (u 1) + 16), acc)
  | 11 =>
    let best := (List.range 4).foldl (fun (m : Option (Nat × Nat)) i =>
      match inp (i + 1), m with
      | none, m => m
      | some x, none => some (i + 1, x)
      | some x, some (j, y) =>
        if (if bit sub 0 then fe.lt y x else fe.lt x y) then some (i + 1, x) else some (j, y)) none
    match best with
    | none => (mk 0 s1 s2 0, acc)
    | some (j, y) => (mk y (fe.ofInt j) s2 0, s.selBack e b j (fe.flushed y) acc)
  | 12 =>
    let selB := fe.le 0x3F000000 (u 3)
    let src := if selB then 2 else 1
    let n := (fe.toIntRne (p 1)).getD 0
    let rn := fmt32.div f1 (p 1)
    let fb := if selB then 32 else 0
    let f := s.signal e b
    if !(if h : b < 32 then s.engines[e].blk[b].ran else true) then (mk (u src) s1 s2 fb, acc)
    else
      let change := bit fl 5 != selB
      let (acc, ui) := if change then
          match s.piOf e b src acc with
          | none => (acc, u src)
          | some q =>
            let (o, st, v) := piBack (s.par e q.blk) q.e q.u2 q.lo q.hi f
            (resSet acc { q with out := o, s1 := st, flags := clampedBit o v + 4 }, o)
        else (acc, u src)
      let from_ := if change then f else s1
      let j : Int := if change then
          (if fe.lt (p 2) (fe.abs (fe.sub ui f)) && n > 0 then 1 else 0)
        else (fe.toIntRne s2).getD 0
      if 1 ≤ j && j < n then
        (mk (fe.add from_ (fe.mul (fe.mul (fe.sub ui from_) (fe.ofInt j)) rn)) from_
          (fe.ofInt (j + 1)) (fb + 8), acc)
      else (mk ui from_ 0 fb, acc)
  | 13 => (mk (linearise p (bit sub 0) (u 1)) s1 s2 0, acc)
  | 14 => (mk (u 1) s1 s2 0, acc)
  | _ => (mk 0 s1 s2 0, acc)

/-- The numeric source of an engine: 59 + c, or 118 (spec/07 R251); the deadline source: 53 + c, or 118 (R250). -/
def numericSrc (e : Engine) : Nat := if e.val < 6 then 59 + e.val else 118
def missSrc (e : Engine) : Nat := if e.val < 6 then 53 + e.val else 118

/-- Key of subindex i of LOOP_STATUS (spec/07 R259). -/
def kLoop (e i : Nat) : Nat := unitKey 0x500200 e + i

/-- Whether a block's output and new states are finite numbers. -/
def BlkRes.ok (r : BlkRes) : Bool := fe.finite r.out && fe.finite r.s1 && fe.finite r.s2

/-- A result that is not finite: the committed output and states replace it (spec/07 R251). -/
def State.finiteRes (s : State) (e : Engine) (r : BlkRes) : BlkRes :=
  if r.ok then r
  else { r with out := s.signal e r.blk, s1 := s.rd (kBlock e r.blk 0x16), s2 := s.rd (kBlock e r.blk 0x17) }

/-- NUMERIC of a block, of the 32 of its engine: its FLAGS, CAUSE, NUMERIC_BLOCK and the source (spec/07 R251). -/
def State.recordNumeric (s : State) (e : Engine) (n : Nat) : State :=
  let blk := n % 32
  let s1 := (s.wrBit (kBlock e blk 0x18) 1 true).wrBit (kLoop e 1) 2 true
  (s1.wr (kLoop e 2) blk).raise (numericSrc e)

/-- The typical time of a block in ns, with its write-backs and transfer; the first run of a SWITCH since a clear makes no transfer (spec/07 R234, R241). -/
def State.blockNs (s : State) (e : Engine) (b : Nat) (acc : Results) (r : BlkRes) : Nat :=
  let back (i : Nat) := (s.piOf e b i acc).isSome
  match s.bType e b with
  | 1 => 10
  | 3 => 35
  | 5 => 55
  | 6 => 65
  | 7 => 40
  | 8 => 60
  | 10 => 30
  | 11 => 35 + 20 * ((List.range 4).filter fun i => back (i + 1) && !fe.eqv (fe.ofInt (i + 1)) r.s1).length
  | 12 => 40 + (if (if h : b < 32 then s.engines[e].blk[b].ran else true) &&
      bit (s.rd (kBlock e b 0x18)) 5 != bit r.flags 5 then 30 else 0)
  | 13 => 50
  | 14 => 30
  | _ => 25

/-- What a run has computed: the results, the typical time in ns at which each block starts and the whole ends, and the blocks whose results were not finite, each with the place of the block that produced them. -/
structure Computed where
  res : Results
  starts : List Nat
  total : Nat
  bad : List (Nat × Nat)

/-- Every block of a task, in ascending order, from the committed state (spec/07 R224, R230, R244, R251). -/
def State.runBlocks (s : State) (e : Engine) (bs : List Nat) (t0 : Nat) : Computed :=
  bs.foldl (fun c b =>
    let (r, acc) := s.evalBlock e b c.res
    let n := c.starts.length
    let new := (acc.filter fun q => !q.ok) ++ (if r.ok then [] else [r])
    { res := s.finiteRes e r :: acc.map (s.finiteRes e)
      starts := c.starts ++ [c.total]
      total := c.total + s.blockNs e b c.res r
      bad := c.bad ++ new.map fun q => (n, q.blk) }) ⟨[], [], t0, []⟩

/-! ### Deadlines (spec/07 R227, R228, R247) -/

/-- Whether an engine accepts triggers (spec/07 R228, R254). -/
def State.accepts (s : State) (e : Engine) : Bool :=
  (s.dev == 3 || s.dev == 4) &&
    (if e.val < 6 then s.cellDrives e.val else !s.engines[e].inhibited)

/-- What the transfer at the coming apex of a carrier will make of it, where values latched for it wait (spec/05 R135, R153). -/
def State.afterApex (s : State) (k : Carrier) : CarrierSt :=
  let c := s.carriers[k]
  match c.staged with
  | none => c
  | some v =>
    if !c.started || c.apexDone || !s.loadsAt k true || c.pref ≥ 2 then c
    else
      let c1 := { c with v := v, staged := none }
      if v.period = c.v.period then c1 else c1.halfAt (c.zeroAt + c.span / 2).toNat c.v.phase

/-- The length of the period that the coming ZERO of a carrier begins: with what is latched for that ZERO, a NETWORK carrier's stretched, a follower's that of its leader (spec/05 R131, R133, R153). -/
def State.nextLen (s : State) (k : Carrier) (c : CarrierSt) : Nat :=
  let v := if s.loadsAt k false then c.staged.getD c.v else c.v
  if c.pref = 1 then (c.aligned v c.nextAt c.v.period c.v.phase true).2.2
  else if c.pref ≥ 2 then s.carriers[leaderOf k c.pref].v.period
  else v.period

/-- The tick that holds the transfer instant of the first boundary after tick g that takes a shadow of a carrier, where it has one; a follower's PHASE is taken at its leader's ZEROs. The boundaries after the coming one fall where the values latched for it place them (spec/05 R133, R135, R153, spec/07 R247). -/
def State.transferTick (s : State) (k : Carrier) (phase : Bool) (g : Nat) : Option Nat :=
  let x := s.carriers[k]
  if !x.running then none
  else
    let led := phase && x.pref ≥ 2
    let k := if led then leaderOf k x.pref else k
    let c := s.carriers[k]
    let n := s.afterApex k
    let len := s.nextLen k n
    let z : Int := n.nextAt
    let half : Int := ((len / 2 : Nat) : Int)
    let zs := if led || s.loadsAt k false then [z, z + len] else []
    let as_ := if !led && s.loadsAt k true then
        (if c.started && !c.apexDone then [c.zeroAt + ((c.span / 2 : Nat) : Int)] else []) ++ [z + half] else []
    let ticks := ((zs ++ as_).map fun b => (s.localOf k b - 256) / 16).filter fun t => g < t
    ticks.foldl (fun m t => match m with
      | none => some t
      | some x => some (min x t)) none

/-- Network units of the k-th issue instant of a STRING frame (spec/10 R321). -/
def State.issueUnits (s : State) (k : Nat) : Nat := k * s.rd 0x801001 * 8 * 2 ^ 32 / 5

/-- The number of the first issue instant whose assembly tick, 64 ticks before it, is not past. -/
def State.nextAssembly (s : State) : Nat :=
  let k := s.netUnits * 5 / (s.rd 0x801001 * 8 * 2 ^ 32) + 1
  if s.ticksTo (s.issueUnits k) < 64 then k + 1 else k

/-- The first assembly tick after tick g: the transfer instant of MOD_DEMAND (spec/10 R321). -/
def State.assemblyTick (s : State) (g : Nat) : Nat :=
  let k := s.nextAssembly
  let at_ (k : Nat) := s.tick + s.ticksTo (s.issueUnits k) - 64
  if g < at_ k then at_ k else at_ (k + 1)

/-- The carrier and shadow bit that a staged key belongs to. -/
def shadowOf (key : Nat) : Option (Carrier × Nat) :=
  let idx := key / 256
  if idx / 4096 = 3 then
    match shadowBit (idx % 256) (key % 256) with
    | some (b, i) => some (carrierOf ⟨idx / 256 % 16 % 6, by omega⟩ ⟨b % 3, by omega⟩, i)
    | none => none
  else none

/-- The deadline tick of a run triggered at tick g with a budget and staged fields (spec/07 R247). -/
def State.deadlineOf (s : State) (g budget : Nat) (staged : List (Nat × Nat)) : Nat :=
  staged.foldl (fun d kv =>
    match shadowOf kv.1 with
    | some (k, i) =>
      match s.transferTick k (i == 2) g with
      | some t => min d (t - 1)
      | none => d
    | none => min d (s.assemblyTick g - 1)) (g + budget * 5 / 8)

/-- A miss of a task: counted, and its source raised when CONSEC_MISS reaches MISS_LIMIT (spec/07 R250). -/
def State.miss (s : State) (e : Engine) (t : Task) (cause countSub : Nat) : State :=
  let s1 := (s.count (kLoop e (countSub + t))).wrBit (kLoop e 1) cause true
  let m := satInc 16 (s1.rd (kLoop e (0x0C + t)))
  let s2 := s1.wr (kLoop e (0x0C + t)) m
  if m ≥ s2.rd (unitKey 0x500304 e + t) && !s2.engines[e].tasks[t].missRaised then
    (s2.modTask e t fun q => { q with missRaised := true }).raise (missSrc e)
  else s2

/-- SEQ of each class 2 and class 3 reference of a task now (spec/07 R233). -/
def State.refSeqs (s : State) (e : Engine) (t : Task) : List (Nat × Nat) :=
  ((s.externals e t).map (·.2)).filterMap fun r =>
    if r / 4096 = 2 then some (r, field (s.rd ((0x4200 + r % 4096) * 256 + 1)) 96 8)
    else if r / 4096 = 3 then some (r, field (s.rd ((0x4400 + r % 4096) * 256 + 1)) 96 8)
    else none

/-! ### Runs (spec/07 R225, R227, R230, R244) -/

/-- The code under which the router knows a trigger code of an engine: a commit is its own engine's (spec/07 R226). -/
def routed (e : Engine) (code : Nat) : Nat :=
  if 0x0500 ≤ code && code ≤ 0x0502 then 0x10000 * (e.val + 1) + code else code

/-- Subindex i of profile channel n of engine e (spec/08 R285). -/
def kProf (e n i : Nat) : Nat := unitKey 0x600000 e + n * 256 + i

/-- The outputs of the channels of a step taken into their objects, TARGET_SET as given or as it stands (spec/08 R268). -/
def State.putStep (s : State) (e : Engine) (outs : List (Fin 4 × Vector Nat 4)) (keep : Bool) : State :=
  outs.foldl (fun a x =>
    let st := kProf e x.1 0x0F
    a.wrAll [(kProf e x.1 0x0C, x.2[0]), (kProf e x.1 0x0D, x.2[1]), (kProf e x.1 0x0E, x.2[2]),
      (st, if keep then setBit x.2[3] 5 (bit (a.rd st) 5) else x.2[3])]) s

/-- The step in progress of an engine's profile group ends where its time has come: the outputs of every channel change together; a TARGET_SET changed since stands (spec/08 R268). -/
def State.settleStep (s : State) (e : Engine) : State :=
  match s.engines[e].step with
  | none => s
  | some x =>
    if s.tick < x.endsAt then s
    else (s.putStep e x.outs true).modEngine e fun g => { g with step := none }

/-- The engine starts a run: the snapshot, after a profile step that the same instant triggered, and from it the results; SEQs not advanced are counted (spec/07 R230, R233, spec/08 R268). -/
def State.startRun (s : State) (e : Engine) (t : Task) (r : RunSt) : State :=
  let s := s.settleStep e
  let (snap, from_) := match s.engines[e].step with
    | some x => if x.trig = r.trig then (s.putStep e x.outs false, x.endsAt) else (s, s.tick)
    | none => (s, s.tick)
  let q := s.engines[e].tasks[t]
  let seqs := s.refSeqs e t
  let stale := seqs.any fun p => q.seqs.contains p
  let s1 := if stale then (s.count (kLoop e (0x15 + t))).wrBit (kLoop e 1) 4 true else s
  let bs := s.taskBlocks e t
  let c := snap.runBlocks e bs (21 + 6 * (s.externals e t).length)
  let staged := bs.flatMap fun b =>
    if s.bType e b = 14 then stageOf e (s.bSub e b) ((resOf c.res b).map (·.out) |>.getD 0) else []
  let req := if e.val < 6 then bit (s.rd (unitKey 0x601006 e)) 1 else false
  s1.modTask e t fun q =>
    { q with seqs := seqs,
             run := some { r with begun := true, since := some from_, staged := staged, res := c.res,
                                  starts := c.starts, total := c.total, bad := c.bad, noted := 0, sawReq := req } }

/-- The highest task of an engine that is running and has blocks to execute computes: it starts, or resumes (spec/07 R225). -/
def State.runNext (s : State) (e : Engine) : State :=
  match (List.finRange 3).find? fun t => s.engines[e].tasks[t].run.any fun r => !r.done with
  | none => s
  | some t =>
    match s.engines[e].tasks[t].run with
    | none => s
    | some r =>
      if !r.begun then s.startRun e t r
      else if r.since.isSome then s
      else s.modTask e t fun q => { q with run := some { r with since := some s.tick } }

/-- A run that computes is suspended. -/
def RunSt.suspend (r : RunSt) (now : Nat) : RunSt :=
  { r with ran := r.ran + (match r.since with
      | some x => now - x
      | none => 0), since := none }

/-- How many blocks of a run have been reached by now: its self-timed time lies between 0.82 and 1.67 times the typical one; which number between those bounds is a free value (spec/03 R59, spec/07 R244; log entry 151). -/
def State.reached (s : State) (r : RunSt) : Nat × State :=
  let el := 160 * (r.suspend s.tick).ran
  let by_ (k : Nat) := (r.starts.filter fun x => x * k ≤ el).length
  s.freeIn (by_ 167) (by_ 82)

/-- What is left of the block in progress of a run that computes: the ticks to its end, a free value within the bounds of its typical time, and whether it is the run's last (spec/03 R59, spec/07 R225, R244; log entry 151). -/
def State.blockLeft (s : State) (r : RunSt) : (Nat × Bool) × State :=
  let (n, s1) := s.reached r
  let el := 160 * (r.suspend s.tick).ran
  let end_ := r.starts.getD n r.total
  let (w, s2) := s1.freeIn (ceilDiv (82 * end_ - el) 160) ((167 * end_ - el) / 160)
  ((w, n == r.starts.length), s2)

/-- The tasks below task t of an engine are suspended, at the end of the block in progress; one whose last block that is has nothing left to execute (spec/07 R225). -/
def State.suspendBelow (s : State) (e : Engine) (t : Task) : State :=
  let stop (a : State) (last : Bool) : State :=
    a.modEngine e fun g =>
      { g with tasks := updAll g.tasks fun u q =>
          if t.val < u.val then { q with run := q.run.map fun r =>
            { r.suspend a.tick with done := r.done || (last && r.since.isSome) } } else q }
  match (List.finRange 3).find? fun u => t.val < u.val && s.engines[e].tasks[u].run.any fun r => r.since.isSome with
  | none => stop s false
  | some u =>
    match s.engines[e].tasks[u].run with
    | none => stop s false
    | some r =>
      let (x, s1) := s.blockLeft r
      stop (s1.advance x.1) x.2

/-- A task's trigger with instant g is accepted: its deadline, and the run of the highest task, which starts once the block in progress of a lower one has ended (spec/07 R225, R227, R247). -/
def State.acceptTrigger (s : State) (e : Engine) (t : Task) (g : Nat) : State :=
  let keys := (s.taskBlocks e t).flatMap fun b => if s.bType e b = 14 then stageOf e (s.bSub e b) 0 else []
  let d := s.deadlineOf g (s.rd (unitKey 0x500101 e + t)) keys
  let r : RunSt := ⟨g, d, [], [], false, false, none, 0, [], 0, [], 0, false⟩
  ((s.modTask e t fun q => { q with lastTrig := some g, run := some r }).suspendBelow e t).runNext e

/-- A run records what its blocks executed so far found that was not finite (spec/07 R251, R261). -/
def State.noteRun (s : State) (e : Engine) (t : Task) : State :=
  match s.engines[e].tasks[t].run with
  | none => s
  | some r =>
    if !r.begun || r.bad.isEmpty then s
    else
      let (n, s) := if r.done then (r.starts.length, s) else s.reached r
      let s1 := (r.bad.filter fun p => r.noted ≤ p.1 && p.1 < n).foldl (fun a p => a.recordNumeric e p.2) s
      s1.modTask e t fun q => { q with run := q.run.map fun r => { r with noted := max r.noted n } }

/-- Every run of the device does so: before anything looks at what is recorded. -/
def State.noteNumeric (s : State) : State := forFin 7 s fun e a => forFin 3 a fun t b => b.noteRun e t

/-- A run is given up: what its blocks executed so far found is recorded (spec/07 R249, R251). -/
def State.abandon (s : State) (e : Engine) (t : Task) : State :=
  match s.engines[e].tasks[t].run with
  | none => s
  | some _ => (s.noteRun e t).modTask e t fun q => { q with run := none }

/-- Whether a run can have been released by now: its last block is done, or it computes, no earlier than 0.82 times its typical time and the one tick of the crossing at least (spec/03 R59, R60, spec/07 R225, R244). -/
def RunSt.mayEnd (r : RunSt) (now : Nat) : Bool :=
  r.done || match r.since with
  | none => false
  | some x => r.begun && x ≤ now && 82 * r.total + 160 ≤ 160 * (r.ran + (now - x))

/-- The last tick by which a run that computes is released unless it is suspended: 1.67 times its typical time and the two ticks of the crossing (spec/03 R59, R60, spec/07 R244). -/
def RunSt.lastTick (r : RunSt) : Option Nat :=
  match r.since with
  | none => none
  | some x => if r.begun then some (x + (167 * r.total + 320 - 160 * r.ran) / 160) else none

/-- Whether a run is released by its deadline whatever its self-timed time. -/
def RunSt.sure (r : RunSt) : Bool := r.lastTick.any fun t => t ≤ r.deadline

/-- Consecutive clamped runs of a block at a commit (spec/07 R252). -/
def State.countClamp (s : State) (e : Engine) (r : BlkRes) : State :=
  if h : r.blk < 32 then
    let ty := s.bType e r.blk
    let b : Fin 32 := ⟨r.blk, h⟩
    let a := s.engines[e].blk[b]
    let cl := (ty == 5 || ty == 6 || ty == 9 || ty == 10) && bit r.flags 0
    let n := if cl then a.clamped + 1 else 0
    let lim := s.rd (unitKey 0x500307 e)
    let fire := lim != 0 && n == lim && !a.raised
    let s1 := s.modEngine e fun g =>
      { g with blk := g.blk.set b ⟨n, (a.raised && cl) || fire, true⟩ }
    if fire then (s1.wrBit (kLoop e 1) 3 true).raise (numericSrc e) else s1
  else s

/-- A block's result becomes its committed state (spec/07 R248, R261). -/
def State.commitBlock (s : State) (e : Engine) (r : BlkRes) : State :=
  let num := s.rd (kBlock e r.blk 0x18) &&& 2
  let s1 := s.wrAll [(kSignal e r.blk, r.out), (kBlock e r.blk 0x16, r.s1), (kBlock e r.blk 0x17, r.s2),
    (kBlock e r.blk 0x18, r.flags ||| num)]
  s1.countClamp e r

/-- A staged value taken into its field: a shadow with its COMMIT in ABSOLUTE mode, or MOD_DEMAND (spec/05 R159, spec/07 R246, spec/10 R330). -/
def State.loadStaged (s : State) (kv : Nat × Nat) : State :=
  let s1 := s.wr kv.1 kv.2
  match shadowOf kv.1 with
  | some (k, i) => (s1.loadShadow k i).armCommit k
  | none => s1

/-! ### Cell modes (spec/08 R281 to R283) -/

/-- The requested mode as committed: before any request since reset, the restored MODE_REQ. -/
def State.committedMode (s : State) (c : Cell) : Nat :=
  s.modeDone[c].getD (s.rd (unitKey 0x601001 c))

/-- MODE_ACTIVE by the first condition that holds (spec/08 R283). -/
def State.modeActive (s : State) (c : Cell) : Nat :=
  let st := s.cellSt c
  if !s.cellDrives c then 0
  else if st = 1 then 1
  else
    let sel := s.rd (unitKey 0x601003 c)
    let e : Engine := ⟨c.val, by omega⟩
    if sel < 32 && s.bType e sel == 11 &&
        fe.eqv (s.rd (kBlock e sel 0x16)) (fe.ofInt (s.rd (unitKey 0x601004 c))) then 4
    else s.committedMode c

/-- MODE_ACTIVE brought up to date; each change counts (spec/08 R283). -/
def State.updMode (s : State) (c : Cell) : State :=
  let m := s.modeActive c
  if s.rd (unitKey 0x601005 c) = m then s
  else (s.wr (unitKey 0x601005 c) m).count (unitKey 0x601007 c)

/-- A commit of a task of a cell's engine: a request that took effect before the run is committed (spec/08 R283). -/
def State.commitMode (s : State) (c : Cell) (t : Task) (saw : Bool) : State :=
  let mb := s.rd (unitKey 0x601002 c)
  let e : Engine := ⟨c.val, by omega⟩
  let s1 := if saw && mb < 32 && s.bTask e mb == t.val && s.bitAt (unitKey 0x601006 c) 1 then
      { (s.wrBit (unitKey 0x601006 c) 1 false) with
          modeDone := s.modeDone.set c (some (s.rd (unitKey 0x601001 c))) }
    else s
  s1.updMode c

/-- A run commits at this tick: the commit is an event of its engine, and the next task goes on (spec/07 R225, R226, R246, R248, R251). -/
def State.commitRun (s : State) (e : Engine) (t : Task) (r : RunSt) : State :=
  let s0 := (r.bad.filter fun p => r.noted ≤ p.1).foldl (fun a p => a.recordNumeric e p.2) s
  let s1 := r.staged.foldl State.loadStaged s0
  let s2 := r.res.foldr (fun b a => a.commitBlock e b) s1
  let dur := (s.tick - r.trig) * 8 / 5
  let s3 := (s2.count (kLoop e (3 + t))).wrAll [(kLoop e (0x0C + t), 0), (kLoop e (0x0F + t), dur),
    (kLoop e (0x12 + t), max (s2.rd (kLoop e (0x12 + t))) dur)]
  let s4 := s3.modTask e t fun q => { q with run := none, missRaised := false }
  let s5 := if h : e.val < 6 then s4.commitMode ⟨e.val, h⟩ t r.sawReq else s4
  (s5.emit (routed e (0x500 + t.val)) s5.tick).runNext e

/-- The release of a run that has ended: by its deadline it commits, later it is blocked (spec/07 R248, R249). -/
def State.release (s : State) (e : Engine) (t : Task) : State :=
  match s.engines[e].tasks[t].run with
  | none => s
  | some r => if r.deadline < s.tick || !r.mayEnd s.tick then s else s.commitRun e t r

/-- Tick D + 1 of an unreleased run: the LATE miss, and the next task goes on; a run whose time could not reach D has been released by then (spec/07 R225, R244, R249, R250). -/
def State.late (s : State) (e : Engine) (t : Task) : State :=
  match s.engines[e].tasks[t].run with
  | none => s
  | some r =>
    if r.sure then (s.advanceTo (r.lastTick.getD s.tick)).commitRun e t r
    else (((s.advanceTo (r.deadline + 1)).abandon e t).miss e t 0 6).runNext e

/-- Every run of an engine discarded without a miss (spec/07 R228). -/
def State.discardRuns (s : State) (e : Engine) : State := forFin 3 s fun t a => a.abandon e t

/-- Whether the channels' group of an engine has a trigger and its engine takes it (spec/07 R254, spec/08 R267). -/
def State.canStep (s : State) (e : Engine) : Bool :=
  s.rd (unitKey 0x600401 e) != 0xFFFF && !(e.val == 6 && s.engines[e].inhibited)

/-- The group of an engine that has accepted triggers stops stepping: TARGET_SET of the channels that stepped clears, and a step in progress leaves nothing (spec/08 R269, R272; log entry 152). -/
def State.stopGroup (s : State) (e : Engine) : State :=
  let s0 := s.settleStep e
  let s1 := s0.modEngine e fun g => { g with stepping := false, step := none }
  if s1.canStep e then
    forFin 4 s1 fun n a =>
      let k := unitKey 0x600000 e + n.val * 256
      if a.rd (k + 1) == 1 then a.wrBit (k + 0x0F) 5 false else a
  else s1

/-- An engine leaves the states in which it accepts triggers: runs are discarded and profiles stop (spec/07 R228, spec/08 R269). -/
def State.engineStops (s : State) (e : Engine) : State := (s.discardRuns e).stopGroup e

/-- Block states, committed outputs, flags, and miss and clamp counts of an engine set to 0 (spec/07 R228, spec/04 R113, R120). -/
def State.clearEngine (s : State) (e : Engine) : State :=
  let s1 := forFin 32 s fun b a =>
    a.wrAll [(kSignal e b, 0), (kBlock e b 0x16, 0), (kBlock e b 0x17, 0), (kBlock e b 0x18, 0)]
  let s2 := forFin 3 s1 fun t a => a.wr (kLoop e (0x0C + t.val)) 0
  (s2.discardRuns e).modEngine e fun g =>
    { g with blk := Vector.replicate 32 ⟨0, false, false⟩,
             tasks := updAll g.tasks fun _ q => { q with missRaised := false } }

/-! ### Validation (spec/07 R254, R255) -/

/-- Whether the parameters of a block type are in range: code 5 (spec/07 R255). -/
def paramsOk (ty : Nat) (p : Nat → Nat) : Bool :=
  let nat (x : Nat) : Bool :=
    match fe.toIntRne x with
    | some z => fe.eqv (fe.ofInt z) x && 0 ≤ z && z ≤ 65535
    | none => false
  match ty with
  | 5 => !fe.lt (p 3) (p 4) && !fe.lt (p 5) (p 6)
  | 6 => !fe.lt (p 7) (p 8)
  | 9 => !fe.lt (p 1) (p 2)
  | 10 => !fe.lt (p 1) 0 && !fe.lt (p 2) 0
  | 12 => nat (p 1) && !fe.lt (p 2) 0
  | 13 => (List.range 7).all fun i => fe.lt (p (i + 1)) (p (i + 2))
  | _ => true

/-- Whether a block's SUB is valid: code 4 (spec/07 R235, R243; spec/10 R330). -/
def subOk (ty sub : Nat) : Bool :=
  match ty with
  | 3 => (List.range 4).all fun i => field sub (2 * i) 2 != 3
  | 14 =>
    if sub % 16 = 0 || sub % 16 = 5 then sub / 16 < 6
    else if sub % 16 ≤ 7 then sub / 16 < 3 else true
  | _ => true

/-- Whether a cell counts as belonging to an interleaving string: in the manager by ENABLE, in a worker by the flag of the last accepted STRING frame (spec/10 R334). -/
def State.interleaves (s : State) (c : Nat) : Bool :=
  if s.manager then
    let g := s.rd (0x800001 + c)
    g < 3 && s.rd (unitKey 0x800101 g) == 1
  else s.bitAt (0x801103 + c) 7

/-- Whether an OUTPUT block is accepted: code 6 (spec/07 R243, spec/10 R330, R334). -/
def State.outputOk (s : State) (e : Engine) (b : Nat) : Bool :=
  let sub := s.bSub e b
  let kind := sub % 16
  let br := if kind = 0 || kind = 5 then sub / 16 / 2 else sub / 16
  let mode := s.rd (kCarrier e br 0x0B)
  let pref := s.rd (kCarrier e br 3)
  let twice := (List.range b).any fun j => s.bType e j == 14 && s.bSub e j == sub
  !twice &&
    (if e.val < 6 then
      kind ≤ 6 && !((kind == 0 || kind == 1) && mode == 1) && !((kind == 5 || kind == 6) && mode == 0) &&
        !(kind == 2 && pref == 0) && !(kind == 3 && pref ≥ 2) &&
        !((kind == 2 || kind == 3) && br == 0 && s.interleaves e.val)
    else kind == 7 && s.manager)

/-- The first fault of a block, 0 where it has none (spec/07 R255). -/
def State.blockFault (s : State) (e : Engine) (b : Nat) : Nat :=
  let ty := s.bType e b
  let refs := (List.range (inputsOf ty)).map fun i => s.inRef e b (i + 1)
  if ty = 0 then 0
  else if 14 < ty then 1
  else if !(refs.all (refOk (e.val < 6))) then 2
  else if refs.any (fun r => r / 4096 == 1 && s.bType e (r % 4096) == 0) then 3
  else if !subOk ty (s.bSub e b) then 4
  else if !paramsOk ty (s.par e b) then 5
  else if ty = 14 && !s.outputOk e b then 6
  else if (ty = 11 && refs.all (· / 4096 == 0)) ||
      (ty = 12 && (refs.take 2).any (· / 4096 == 0)) then 10
  else 0

/-- The first fault of a task: code and block, 0 where it has none (spec/07 R255). -/
def State.taskFault (s : State) (e : Engine) (t : Nat) : Nat × Nat :=
  let bs := s.taskBlocks e t
  let ext := s.externals e t
  let trg := s.rd (unitKey 0x500301 e + t)
  if 16 < ext.length then (7, (ext.getD 16 (0xFF, 0)).1)
  else if t = 0 && bs.isEmpty then (8, 0xFF)
  else if !bs.isEmpty &&
      (trg = 0xFFFF || trg = 0x500 + t || s.rd (unitKey 0x500101 e + t) < 100) then (9, 0xFF)
  else (0, 0)

/-- ERROR of a program: code in bits 15:8, block in bits 7:0 (spec/07 R255). -/
def State.programError (s : State) (e : Engine) : Nat :=
  match (List.range 32).find? fun b => s.blockFault e b != 0 with
  | some b => s.blockFault e b * 256 + b
  | none =>
    match (List.range 3).find? fun t => (s.taskFault e t).1 != 0 with
    | some t => (s.taskFault e t).1 * 256 + (s.taskFault e t).2
    | none => 0

/-- Validation writes ERROR and VALID (spec/07 R254). -/
def State.validateProgram (s : State) (e : Engine) : State :=
  let er := s.programError e
  s.wrAll [(unitKey 0x500023 e, er), (unitKey 0x500022 e, if er = 0 then 1 else 0)]

/-- The fields that the OUTPUT blocks of a validated program target (spec/05 R160, spec/10 R330). -/
def State.targets (s : State) (e : Engine) : List Nat :=
  if s.rd (unitKey 0x500022 e) = 1 then
    (List.range 32).flatMap fun b =>
      if s.bType e b = 14 then (stageOf e (s.bSub e b) 0).map (·.1) else []
  else []

/-! ### The commands -/

def execLoopRunRelease (e : Engine) (t : Task) (s : State) : Out := .next (s.release e t)
def execLoopDeadlineMiss (e : Engine) (t : Task) (s : State) : Out := .next (s.late e t)

end Sys2Proof.Machine
end

