-- ==== Sys2Proof/Machine/Profile.lean ====
section
/-! DEFINITION. Profile channels, the triggers of tasks, and requests of a cell's mode (spec/07 R225 to R228, spec/08 R263 to R284). -/

namespace Sys2Proof.Machine

/-- A channel marked to seed at its next step; a start, ENABLE or RESTART outweighs a mode (spec/08 R270, R272). -/
def State.markSeed (s : State) (e : Engine) (n : Fin 4) (w : Seed) : State :=
  s.modEngine e fun g => { g with seed := upd g.seed n fun o => if o == .start then o else w }

/-- The sign of a binary32 as binary32, 0 for 0 (spec/08 R274). -/
def fSign (x : Nat) : Nat := if fe.lt 0 x then f1 else if fe.lt x 0 then fe.neg f1 else 0

/-- A reading of PAIRED or TARGET_SRC: none where unconnected (spec/08 R271, R276). -/
def State.profileRef (s : State) (e : Engine) (ref : Nat) : Option Nat :=
  if ref / 4096 = 0 then none else some (s.readRef e ref)

/-- The limits of a channel and the step interval (spec/08 R265, R274). -/
structure Limits where
  v : Nat
  a : Nat
  j : Nat
  tol : Nat
  h : Nat

/-- The motion of one step from position x, velocity v, acceleration a to target g: the new three, and whether it settled; the constants are the Supervisor's, in binary32 (spec/08 R265, R274). -/
def moveStep (l : Limits) (g x v a : Nat) : Nat × Nat × Nat × Bool :=
  let jh := fmt32.mul l.j l.h
  let jh2 := fmt32.mul jh l.h
  let jh3 := fmt32.mul jh2 l.h
  let c1 := fmt32.mul (fmt32.mul l.a l.a) (fmt32.div f1 l.j)
  let c2 := fmt32.mul c1 c1
  let c3 := fmt32.mul (fmt32.ofInt 8) l.a
  let c4 := fmt32.mul (fmt32.ofInt 2) l.j
  let e := fe.sub g x
  if fe.le (fe.abs e) (eMax l.tol jh3) && fe.le (fe.abs v) jh2 && fe.le (fe.abs a) jh then
    (g, 0, 0, true)
  else
    let wb := fe.mul (fe.sub (fe.sqrt (fe.add c2 (fe.mul c3 (fe.abs e)))) c1) 0x3F000000
    let vr := fe.mul (fSign e) (eMin l.v wb)
    let dv := fe.sub vr v
    let ar := fe.mul (fSign dv) (eMin l.a (fe.sqrt (fe.mul c4 (fe.abs dv))))
    let a1 := eClamp (fe.add a (eClamp (fe.sub ar a) (fe.neg jh) jh)) (fe.neg l.a) l.a
    let vc := eMax l.v (fe.abs v)
    let v1 := eClamp (fe.add v (fe.mul a1 l.h)) (fe.neg vc) vc
    (fe.add x (fe.mul v1 l.h), v1, a1, false)

/-- The limits of channel n in force at a step. -/
def State.limits (s : State) (e : Engine) (n : Nat) : Limits :=
  ⟨s.rd (kProf e n 5), s.rd (kProf e n 6), s.rd (kProf e n 7), s.rd (kProf e n 8),
    s.rd (unitKey 0x600402 e)⟩

/-- STATUS of a channel after a step: bits 1 TARGET_SLEW, 3 LIMIT_STEP and 6 SEEDED follow, 2 SETTLED and 4 NUMERIC are given, 5 stays (spec/08 R286). -/
def stepStatus (old : Nat) (settled limit numeric seeded : Bool) : Nat :=
  maskOf 8 fun i =>
    match i with
    | 1 => !settled
    | 2 => settled
    | 3 => limit
    | 4 => numeric
    | 5 => bit old 5
    | 6 => seeded
    | _ => false

/-- The seed step of a channel (spec/08 R270 to R272). -/
def State.seedStep (s : State) (e : Engine) (n : Fin 4) (cause : Seed) : State :=
  let st := s.rd (kProf e n 0x0F)
  let x := s.rd (kProf e n 0x0C)
  let r := s.profileRef e (s.rd (kProf e n 4))
  let bad := match r with
    | some v => !fe.finite v
    | none => false
  let x1 := match r with
    | some v => if fe.finite v then v else x
    | none => x
  let s1 := s.wrAll [(kProf e n 0x0C, x1), (kProf e n 0x0D, 0), (kProf e n 0x0E, 0),
    (kProf e n 0x0F, stepStatus st (bit st 2) false (bit st 4 || bad) true)]
  let s2 := if cause == .start && !bit st 5 then s1.wr (kProf e n 3) x1 else s1
  let s3 := s2.modEngine e fun g => { g with seed := g.seed.set n .no }
  if bad then s3.raise (numericSrc e) else s3

/-- The moving step of a channel (spec/08 R274, R276 to R280). -/
def State.motionStep (s : State) (e : Engine) (n : Fin 4) : State :=
  let st := s.rd (kProf e n 0x0F)
  let l := s.limits e n
  let read := (s.profileRef e (s.rd (kProf e n 2))).getD (s.rd (kProf e n 3))
  let ok := fe.finite read
  let g := if ok then read else s.engines[e].lastTarget[n]
  let a := s.rd (kProf e n 0x0E)
  let (x1, v1, a1, settled) := moveStep l g (s.rd (kProf e n 0x0C)) (s.rd (kProf e n 0x0D)) a
  let s1 := s.wrAll [(kProf e n 0x0C, x1), (kProf e n 0x0D, v1), (kProf e n 0x0E, a1),
    (kProf e n 0x0F, stepStatus st settled (fe.lt l.a (fe.abs a)) (!ok) false)]
  let s2 := s1.modEngine e fun q => { q with lastTarget := q.lastTarget.set n g }
  if ok then s2 else s2.raise (numericSrc e)

/-- A step accepted, its trigger instant g: every enabled channel seeds or moves on what it reads now, and the outputs of all of them change at the end, 25 ns and 40 ns a channel later times a factor between 0.82 and 1.67 that is a free value (spec/03 R59, spec/08 R266 to R270; log entry 152). -/
def State.stepGroup (s : State) (e : Engine) (g : Nat) : State :=
  let on := (List.finRange 4).filter fun (n : Fin 4) => s.rd (kProf e n 1) == 1
  let begins := !s.engines[e].stepping
  let s1 := if begins then on.foldl (fun a n => a.markSeed e n .start) s else s
  let s2 := s1.modEngine e fun q => { q with stepping := true, lastStep := some g }
  let s3 := s2.count (unitKey 0x600403 e)
  let (k, s4) := s3.freeIn 82 167
  let s5 := on.foldl (fun a n =>
    match s3.engines[e].seed[n] with
    | .no => a.motionStep e n
    | w => a.seedStep e n w) s4
  let read (a : State) := on.map fun (n : Fin 4) =>
    (n, #v[a.rd (kProf e n 0x0C), a.rd (kProf e n 0x0D), a.rd (kProf e n 0x0E), a.rd (kProf e n 0x0F)])
  let outs := read s5
  (s5.putStep e (read s4) false).modEngine e fun q =>
    { q with step := some ⟨g, s.tick + ceilDiv ((25 + 40 * on.length) * k) 160, outs⟩ }

/-- A group's trigger with instant g has come: ignored while the engine takes none, an overrun while a step runs or within 2,500 ticks, else a step (spec/08 R266, R267, R269). -/
def State.stepNow (s : State) (e : Engine) (g : Nat) : State :=
  let s := s.settleStep e
  if !s.accepts e then s
  else if s.engines[e].step.isSome || within s.engines[e].lastStep g 2500 then s.count (unitKey 0x600404 e)
  else s.stepGroup e g

/-- PROFILE_STEP: the event that STEP_TRIGGER names, where the router has signalled it (spec/07 R226, spec/08 R266, R267). -/
def State.profileStep (s : State) (e : Engine) : State :=
  let code := routed e (s.rd (unitKey 0x600401 e))
  match s.dueAt code (whoSteps e) with
  | none => s
  | some t => (s.takeTrigger code (whoSteps e) t).stepNow e t

/-- A task's trigger arrives: the event that TRIGGER names, where the router has signalled it; a profile step of the engine at the same instant comes first (spec/07 R225 to R228, R247, spec/08 R268). -/
def State.taskTrigger (s : State) (e : Engine) (t : Task) : State :=
  let code := routed e (s.rd (unitKey 0x500301 e + t))
  match s.dueAt code (whoTask e t) with
  | none => s
  | some g =>
    let s := if s.dueAt (routed e (s.rd (unitKey 0x600401 e))) (whoSteps e) == some g then s.profileStep e else s
    let s := s.takeTrigger code (whoTask e t) g
    let q := s.engines[e].tasks[t]
    if !s.accepts e then s
    else if q.run.isSome || within q.lastTrig g 2500 then s.miss e t 1 9
    else s.acceptTrigger e t g

/-- Whether a group steps: its engine accepts triggers and STEP_TRIGGER names one (spec/08 R267, R269). -/
def State.groupSteps (s : State) (e : Engine) : Bool := s.accepts e && s.rd (unitKey 0x600401 e) != 0xFFFF

/-- STATUS as it reads: STEPPING while the channel is enabled and its group steps (spec/08 R286). -/
def State.profileStatus (s : State) (e : Engine) (n : Nat) : Nat :=
  setBit (s.rd (kProf e n 0x0F)) 0 (s.rd (kProf e n 1) == 1 && s.groupSteps e)

/-- ENABLE written: while the group steps, 1 seeds and 0 stops the channel where it was enabled (spec/08 R270, R272). -/
def State.onEnable (s : State) (e : Engine) (n : Fin 4) (v : Nat) : State :=
  let was := s.rd (kProf e n 1) == 1
  let s1 := s.wr (kProf e n 1) v
  if !s.groupSteps e then s1
  else if v = 0 then (if was then s1.wrBit (kProf e n 0x0F) 5 false else s1)
  else s1.markSeed e n .start

/-- LIMITS_SET taken: V_MAX, A_MAX, J_MAX and TOL together (spec/08 R279). -/
def State.setLimits (s : State) (e : Engine) (n v a j tol : Nat) : State :=
  s.wrAll [(kProf e n 5, v), (kProf e n 6, a), (kProf e n 7, j), (kProf e n 8, tol)]

/-- A value of the limits finite and above 0; TOL finite and not negative (spec/08 R280). -/
def limitOk (x : Nat) : Bool := fmt32.finite x && fmt32.lt 0 x
def tolOk (x : Nat) : Bool := fmt32.finite x && !fmt32.lt x 0

/-- MODE_REQ accepted (spec/08 R282, R283). -/
def State.modeRequest (s : State) (c : Cell) (v : Nat) : State :=
  if s.rd (unitKey 0x601001 c) = v then s
  else
    let e : Engine := ⟨c.val, by omega⟩
    let mb := s.rd (unitKey 0x601002 c)
    let s1 := s.wr (unitKey 0x601001 c) v
    let s1 := { s1 with modeDone := s1.modeDone.set c (some (s.committedMode c)) }
    let s1 := s1.modEngine e fun g =>
      { g with tasks := updAll g.tasks fun _ q => { q with run := q.run.map fun r => { r with sawReq := false } } }
    let s2 := if mb < 32 && s.bType e mb == 1 then
        (s1.wr (kBlock e mb 5) (fe.ofInt v)).wr (unitKey 0x601006 c) 2
      else { (s1.wr (unitKey 0x601006 c) 1) with modeDone := s1.modeDone.set c (some v) }
    let s3 := forFin 4 s2 fun n a =>
      if bit (a.rd (kProf e n 9)) v then a.markSeed e n .mode else a
    s3.updMode c

/-! ### The commands -/

def execProfileStep (e : Engine) (s : State) : Out := .next (s.profileStep e)
def execLoopTaskTrigger (e : Engine) (t : Task) (s : State) : Out := .next (s.taskTrigger e t)

end Sys2Proof.Machine
end

