-- ==== Sys2Proof/Machine/Guard.lean ====
section
/-! DEFINITION. Cell states, release of holds, the bypass sequence and the BYP sense cycle (spec/02 R47 to R50, spec/04 R110, spec/09 R297, R303 to R309). -/

namespace Sys2Proof.Machine

/-! ### Cell states (spec/04 R110, R112) -/

/-- The event source of trip input i of cell c (spec/09 R291). -/
def tripSource (c i : Nat) : Nat :=
  if i < 3 then 3 * c + i
  else if i = 3 then 36 + c
  else if i = 4 then 42
  else if i < 8 then 18 + 3 * c + (i - 5) else 127

/-- The tick at which the bypass sequence commands the contactor: one after the last L turn-on of G, by the formula where G stays off (spec/09 R306, R298). -/
def State.bypassCloseTick (s : State) (c : Cell) : Nat :=
  1 + forFin 2 s.tick fun j m =>
    let l := legOf (carrierOf c 0) j
    max m (if s.guard[c].row2[(0 : Bridge)] then s.tick + s.safeDelay l else (s.legs[l].safeOn.getD s.tick))

/-- A fitted cell enters a state: STATE, PREVIOUS and CHANGE_COUNT, its source, and what the entry clears, starts and stops (spec/04 R110, spec/07 R228, spec/11 R361, spec/09 R302, R305, R306, R312). -/
def State.setCell (s : State) (c : Cell) (new : Nat) : State :=
  let old := s.cellSt c
  if !s.fitted c || old == new then s
  else
    let e : Engine := ⟨c.val, by omega⟩
    let s1 := ((s.wrAll [(kCellState c + 1, old), (kCellState c, new)]).count (kCellState c + 2)).raise
      (71 + c.val)
    let s1 := { s1 with charge := s1.charge.set c 0 }
    let s2 := if new = 1 || new = 5 then (s1.clearEngine e).unholdCell c 0x600
      else if new = 0 && (old == 4 || old == 6) then s1.unholdCell c 0x600 else s1
    let s3 := if new = 1 then s2.wr (unitKey 0x700407 c) 0
      else if new = 5 then s2.modGuard c fun g => { g with openFailed := false } else s2
    let s4 := if new = 0 then s3.clrBits (kByp c) 0x18 else s3
    let s5 := if s.cellDrives c && !s4.cellDrives c then s4.engineStops e else s4
    let s6 := s5.applyCell c
    let s7 := if new = 3 then
        (s6.orBits (kByp c) 4).modGuard c fun g => { g with closeAt := some (s6.bypassCloseTick c) }
      else if old = 3 then
        (s6.clrBits (kByp c) 4).modGuard c fun g => { g with closeAt := none, bypLimit := none }
      else s6
    (s7.updMode c).reschedule

/-! ### The contactor (spec/02 R47 to R49, spec/09 R306 to R309) -/

/-- BYP_TIMEOUT of a cell in ticks (spec/09 R312). -/
def State.bypTicks (s : State) (c : Cell) : Nat := msTicks (s.rd (unitKey 0x700202 c))

/-- COMMAND and FEEDBACK of a cell. -/
def State.bypCmd (s : State) (c : Cell) : Bool := s.bitAt (kByp c) 0
def State.bypClosed (s : State) (c : Cell) : Bool := s.bitAt (kByp c) 1

/-- The ball is released in its sense window (spec/02 R47). -/
def GuardSt.released (g : GuardSt) : Bool := g.sense == .released || g.sense == .sampled

/-- The level of ball BYP‹c› as the device drives it; none while it is released to its pull-down (spec/02 R30, R47, R50, R53). -/
def State.bypBall (s : State) (c : Cell) : Option Bool :=
  if s.inReset then none
  else if s.tap.ir == .extest || !s.fitted c then some false
  else if s.guard[c].released then none else some (s.bypCmd c)

/-- The commanded level changes: any release window ends without its sample, and a difference may stand for BYP_TIMEOUT (spec/02 R49, spec/09 R309). -/
def State.setByp (s : State) (c : Cell) (level : Bool) : State :=
  if s.bypCmd c == level then s
  else
    let s1 := s.wrBit (kByp c) 0 level
    let due := if s.bypClosed c == level then none else some (s.tick + s.bypTicks c)
    (s1.modGuard c fun g =>
      { g with sense := if g.released then .ended else g.sense, mismatchAt := due }).applyCell c

/-- MISMATCH set, counted and reported (spec/09 R308, R309, R348). -/
def State.mismatch (s : State) (c : Cell) : State :=
  ((s.wrBit (kByp c) 4 true).count (unitKey 0x700205 c)).raise (71 + c.val)

/-- Step 4 of the bypass sequence: CLOSE_TIME in µs, and the cell enters BYPASSED (spec/09 R306). -/
def State.bypassDone (s : State) (c : Cell) : State :=
  (s.wr (unitKey 0x700204 c) ((s.tick - s.guard[c].closedAt) / 625)).setCell c 4

/-- Step 3: the contactor is commanded closed and the time-out starts (spec/09 R306). -/
def State.bypassClose (s : State) (c : Cell) : State :=
  match s.guard[c].closeAt with
  | none => s
  | some t =>
    let s1 := s.advanceTo t
    let s2 := s1.setByp c true
    let s3 := s2.modGuard c fun g =>
      { g with closeAt := none, closedAt := s2.tick, mismatchAt := none,
               bypLimit := some (s2.tick + s2.bypTicks c) }
    if s3.bypClosed c then s3.bypassDone c else s3

/-- The debounced feedback changes (spec/09 R306 to R309). -/
def State.feedback (s : State) (c : Cell) (closed : Bool) : State :=
  let s := s.wrBit (kByp c) 1 closed
  let g := s.guard[c]
  if closed && g.bypLimit.isSome then s.bypassDone c
  else if !closed && g.opening == .cellClear && s.cellSt c == 4 then
    (s.modGuard c fun g => { g with opening := .no, openLimit := none }).setCell c 0
  else if !closed && g.opening == .molt then
    s.modGuard c fun g => { g with opening := .no, openLimit := none }
  else if g.opening != .no then s
  else if closed == s.bypCmd c then s.modGuard c fun g => { g with mismatchAt := none }
  else if g.mismatchAt.isSome then s
  else s.mismatch c

/-- Whether a cell's sense cycle runs: a fitted cell, in COCOON only while BYPASSED (spec/02 R47, R50; spec/04 R113). -/
def State.senses (s : State) (c : Cell) : Bool :=
  s.fitted c && !s.inReset && (s.dev != 5 || s.cellSt c == 4)

/-- 90 µs into the cycle the ball is released, once a cycle (spec/02 R47). -/
def State.bypRelease (s : State) (c : Cell) : State :=
  match s.guard[c].cycleAt with
  | none => s
  | some t =>
    if s.senses c && s.guard[c].sense == .driven then
      (s.advanceTo (t + 56250)).modGuard c fun g => { g with sense := .released }
    else s

/-- 99 µs into the cycle the released ball is sampled, once a cycle; the eighth consecutive sample at a new level changes the feedback (spec/02 R47 to R49). -/
def State.bypSample (s : State) (c : Cell) (high : Bool) : State :=
  match s.guard[c].cycleAt with
  | none => s
  | some t =>
    if s.guard[c].sense != .released || !s.senses c then s
    else
      let s := (s.advanceTo (t + 61875)).modGuard c fun g => { g with sense := .sampled }
      if high == s.bypClosed c then s.modGuard c fun g => { g with count := 0 }
      else if s.guard[c].count + 1 < 8 then s.modGuard c fun g => { g with count := g.count + 1 }
      else (s.modGuard c fun g => { g with count := 0 }).feedback c high

/-- The cycle in which tick `now` lies, the one that began at t being over: cycles follow one another every 62,500 ticks (spec/02 R47). -/
def nextCycle (t now : Nat) : Nat := t + 62500 * max 1 ((now - t) / 62500)

/-- The next cycle begins, 62,500 ticks after the last: the commanded level is driven again (spec/02 R47). -/
def State.bypCycle (s : State) (c : Cell) : State :=
  match s.guard[c].cycleAt with
  | none => s
  | some t =>
    let s := s.advanceTo (t + 62500)
    s.modGuard c fun g => { g with sense := .driven, cycleAt := some (nextCycle t s.tick) }

/-- BYP_TIMEOUT after step 3 without feedback: TIMEOUT, and the cell enters FAULTED with its command high (spec/09 R307). -/
def State.bypassLate (s : State) (c : Cell) : State :=
  match s.guard[c].bypLimit with
  | none => s
  | some t => ((s.advanceTo t).wrBit (kByp c) 3 true).setCell c 6

/-- An opening that the feedback has not followed (spec/09 R308, R348). -/
def State.openLate (s : State) (c : Cell) : State :=
  match s.guard[c].openLimit with
  | none => s
  | some t =>
    let s := (s.advanceTo t).modGuard c fun g => { g with openLimit := none }
    if s.guard[c].opening == .molt then
      let s := (s.mismatch c).modGuard c fun g => { g with opening := .no, openFailed := true }
      (s.setByp c true).setCell c 4
    else s.mismatch c

/-- A difference that still stands BYP_TIMEOUT after the last change of command (spec/09 R309). -/
def State.mismatchLate (s : State) (c : Cell) : State :=
  match s.guard[c].mismatchAt with
  | none => s
  | some t =>
    let s := (s.advanceTo t).modGuard c fun g => { g with mismatchAt := none }
    if s.bypCmd c == s.bypClosed c then s else s.mismatch c

/-- BYP‹c› commanded low for CELL_CLEAR or a MOLT step: its time-out runs from that change, no mismatch before it; a CELL_CLEAR whose feedback reads open takes the cell to OFF at once, and one repeated changes nothing (spec/04 R110, spec/09 R308, spec/10 R348). -/
def State.openContactor (s : State) (c : Cell) (w : Opening) : State :=
  if s.guard[c].opening != .no then s
  else
    let s1 := s.setByp c false
    if s1.bypClosed c then
      s1.modGuard c fun g =>
        { g with mismatchAt := none, opening := w, openLimit := some (s1.tick + s1.bypTicks c) }
    else
      let s2 := s1.modGuard c fun g => { g with mismatchAt := none }
      if w == .cellClear then s2.setCell c 0 else s2

/-- A re-insertion ends in BYPASSED with the command closed (spec/04 R110, spec/10 R325). -/
def State.endInsert (s : State) (c : Cell) : State :=
  let s1 := s.modGuard c fun g => { g with opening := .no, openLimit := none }
  (s1.setByp c true).setCell c 4

/-! ### Release of holds (spec/09 R303 to R305) -/

/-- The cause bits whose input is inactive now. -/
def State.releasable (s : State) (c : Cell) (causes : Nat) : Nat :=
  maskOf 9 fun i => bit causes i && !s.tripInput c i

/-- RELEASE of the bridges of a mask (spec/09 R304). -/
def State.guardRelease (s : State) (c : Cell) (mask : Nat) : State :=
  let s1 := s.wr (unitKey 0x700407 c) 0
  forFin 3 s1 fun b a =>
    if bit mask b.val then
      let q := a.rd (kHoldCause c b)
      a.unhold c b (a.releasable c q + if a.cellDrives c then 0 else q &&& 0x800)
    else a

/-- The tick at which a bridge is due for an automatic release: AUTO_DELAY after the last of its inputs went inactive; none where a condition of R305 fails. -/
def State.autoDue (s : State) (c : Cell) (b : Bridge) : Option Nat :=
  let q := s.rd (kHoldCause c b)
  if s.rd (unitKey 0x700109 c) == 1 && q != 0 && q < 0x200 && s.releasable c q == q then
    some (forFin 9 0 (fun i m => if bit q i.val then max m s.guard[c].quiet[i] else m) +
      s.rd (unitKey 0x70010A c))
  else none

/-- The automatic release of a bridge; several bridges of a cell in one tick count as one (spec/09 R305). -/
def State.autoRelease (s : State) (c : Cell) (b : Bridge) : State :=
  match s.autoDue c b with
  | none => s
  | some t =>
    let again := s.guard[c].lastAuto == some (max t s.tick)
    let n := s.rd (unitKey 0x700407 c)
    if !again && n ≥ s.rd (unitKey 0x70010B c) then s
    else
      let s := s.advanceTo t
      let s1 := if again then s
        else (s.wr (unitKey 0x700407 c) (n + 1)).modGuard c fun g => { g with lastAuto := some s.tick }
      s1.unhold c b (s1.rd (kHoldCause c b))

/-- The protective delay of a bridge's L gates expires: the earliest due turn on, where the pattern is still ZERO; one whose H gate is on is refused (spec/09 R297, R299, R300). -/
def State.safeTurnOn (s : State) (c : Cell) (b : Bridge) : State :=
  let k := carrierOf c b
  let due := (List.finRange 2).filterMap fun j => s.legs[legOf k j].safeOn
  match due with
  | [] => s
  | t :: ts =>
    let s := s.advanceTo (ts.foldl min t)
    forFin 2 s fun j a =>
      let l := legOf k j
      match a.legs[l].safeOn with
      | none => a
      | some d =>
        if a.tick < d then a
        else
          let a := a.modLeg l fun g => { g with safeOn := none }
          if !a.zeroRow c b then a
          else if a.gates[lineH l] then a.refuseOn l else a.gate (lineL l) true

/-! ### External fault lines (spec/09 R292, spec/12 R398) -/

/-- FLT_IN or SAFE_N change level: source 127 and the hold on every bridge follow. -/
def State.extChange (s : State) (p n sn : Bool) : State :=
  let was := s.extActive
  let s1 := { s with pins := { s.pins with fltInP := p, fltInN := n, safeN := sn } }
  if s1.inReset then s1
  else if s1.extActive then forFin 6 (s1.assertSrc 127) fun c a => if a.fitted c then a.trip c 8 else a
  else if was then forFin 6 (s1.deassertSrc 127) fun c a => if a.fitted c then a.tripEnds c 8 else a
  else s1

/-! ### The commands -/

def execExternalFaultChange (fltP fltN safeN : Bool) (s : State) : Out := .next (s.extChange fltP fltN safeN)
def execSafePatternTurnOn (c : Cell) (b : Bridge) (s : State) : Out := .next (s.safeTurnOn c b)
def execAutoRelease (c : Cell) (b : Bridge) (s : State) : Out := .next (s.autoRelease c b)
def execBypMismatchTimeout (c : Cell) (s : State) : Out := .next (s.mismatchLate c)
def execBypSenseRelease (c : Cell) (s : State) : Out := .next (s.bypRelease c)
def execBypSenseCycleStart (c : Cell) (s : State) : Out := .next (s.bypCycle c)

end Sys2Proof.Machine
end

