-- ==== Sys2Proof/Machine/States.lean ====
section
/-! DEFINITION. The device state machine: safe causes, lockout, and what leaving CHARGE and RUN ends (spec/04 R104 to R111, spec/10 R349 to R351). -/

namespace Sys2Proof.Machine

/-- A state is entered: DEVICE_STATE and its entry time (spec/04 R104). -/
def State.enterDev (s : State) (d : Nat) : State :=
  s.wrAll [(kDevState, d), (kEntryS, s.net.sec), (kEntryNs, s.ns)]

/-- Whether a sticky bit stands whose source has class `least` or above. -/
def State.stickyAtLeast (s : State) (least : Nat) : Bool :=
  (List.range 128).any fun n =>
    s.bitAt (0xA00001 + n / 32) (n % 32) && s.rd (0xA00101 + n) ≥ least

/-- A safe cause is present (spec/04 R106). -/
def State.safePresent (s : State) : Bool := s.stickyAtLeast 3 || s.extActive

/-- An ABORT whose MOLT steps have all ended is idle: PENDING, and LAST_DURATION in ns (spec/04 R117, R121). -/
def State.abortIdle (s : State) : State :=
  if s.bitAt 0x100301 5 && !(anyOf s.string.molt fun x => match x with
      | some m => m.abort.isSome
      | none => false) then
    (s.wrBit 0x100301 5 false).wr 0x100304 (max (s.rd 0x100304) ((s.tick - s.power.abortAt) * 8 / 5))
  else s

/-- A MOLT step ends with a result: STEP idle, LAST_DURATION, and source 116 for the codes 8 to 12 (spec/10 R349, R350). -/
def State.endMolt (s : State) (g : Fin 3) (result : Nat) : State :=
  match s.string.molt[g] with
  | none => s
  | some m =>
    let s1 := s.wrAll [(unitKey 0x800307 g, 0), (unitKey 0x800308 g, result),
      (unitKey 0x800309 g, (s.tick - m.since) / 625)]
    let s2 := { s1 with string := { s1.string with molt := s1.string.molt.set g none } }.abortIdle
    if 8 ≤ result then s2.raise 116 else s2

/-- The device leaves CHARGE and RUN for READY, SAFE or LOCKOUT: the string engine and its profiles stop, a stop ends, pending MOLT steps end aborted (spec/07 R228, spec/08 R269, spec/10 R349, R351). -/
def State.leaveRunning (s : State) : State :=
  if s.dev == 3 || s.dev == 4 then
    let s1 := s.engineStops 6
    let s2 := forFin 3 s1 fun g a => a.endMolt g 11
    { (s2.wr 0x801109 0) with power := { s2.power with stopAt := none } }
  else s

/-- The cells as the device enters SAFE or LOCKOUT (spec/04 R111, spec/09 R301). -/
def State.cellsSafe (s : State) : State :=
  forFin 6 s fun c a =>
    if a.cellSt c == 1 || a.cellSt c == 2 then (a.holdCell c 0x400).setCell c 0
    else if a.cellSt c == 5 then a.endInsert c else a

/-- The device falls to SAFE or LOCKOUT: a state command of the same decision comes after it (spec/04 R105). -/
def State.falls (s : State) : State := { s with power := { s.power with fell := some (s.tick, s.dev) } }

/-- The device enters SAFE from a state that can (spec/04 R104 to R106). -/
def State.toSafe (s : State) (cause : Nat) : State :=
  (((if cause = 4 then s else s.falls).leaveRunning.enterDev 6).wr kSafeCause cause).cellsSafe

/-- A safe cause: SAFE at once from READY, CHARGE and RUN; pending in BOOT, HATCH and COCOON; no change in SAFE and LOCKOUT (spec/04 R104, R106). -/
def State.safeCause (s : State) (cause : Nat) : State :=
  match s.dev with
  | 2 | 3 | 4 => s.toSafe cause
  | 0 | 1 | 5 =>
    if s.bitAt kFlags 1 then s
    else { (s.wrBit kFlags 1 true) with power := { s.power with pendingCause := cause } }
  | _ => s

/-- A device thermal trip: LOCKOUT, pending in BOOT, HATCH and COCOON (spec/04 R104, R106). -/
def State.lockout (s : State) : State :=
  match s.dev with
  | 2 | 3 | 4 | 6 => (s.falls.leaveRunning.enterDev 7).cellsSafe
  | 0 | 1 | 5 => s.wrBit kFlags 2 true
  | _ => s

/-- HATCH is complete: LOCKOUT, SAFE or READY by what is pending; no STRING frame has been accepted since (spec/04 R104, R107). -/
def State.hatchEnds (s : State) : State :=
  let lock := s.bitAt kFlags 2
  let safe := s.bitAt kFlags 1
  let s1 := { (s.clrBits kFlags 6) with stringRx := { s.stringRx with devices := none } }
  if lock then s1.enterDev 7
  else if safe then (s1.enterDev 6).wr kSafeCause s.power.pendingCause
  else s1.enterDev 2

/-- CHARGE complete for a cell (spec/10 R318). -/
def State.chargeDone (s : State) (c : Cell) : Bool := s.charge[c] ≥ 8

/-- Every fitted cell is OFF, BYPASSED or FAULTED: a controlled stop is complete (spec/04 R104). -/
def State.stopComplete (s : State) : Bool :=
  (List.range 6).all fun c =>
    !s.fitted c || s.cellSt c == 0 || s.cellSt c == 4 || s.cellSt c == 6

/-- After a cell has changed: a device that stops enters READY once its stop is complete (spec/04 R104, spec/10 R351). -/
def State.checkStop (s : State) : State :=
  if s.power.stopAt.isSome && (s.dev == 3 || s.dev == 4) && s.stopComplete then
    s.leaveRunning.enterDev 2
  else s

/-- A CELL reaction on a cell (spec/12 R388). -/
def State.cellReaction (s : State) (c : Cell) : State :=
  if !s.fitted c then s
  else
    let s1 := s.holdCell c 0x200
    let s2 := match s1.cellSt c with
      | 2 => if s1.rd (unitKey 0x700201 c) == 1 then s1.setCell c 3 else s1.setCell c 6
      | 0 => s1.setCell c 6
      | 1 => s1.setCell c 6
      | 5 => s1.endInsert c
      | _ => s1
    s2.checkStop

/-! ### The commands of the bypass sequence: a controlled stop may end with the cell's change (spec/02 R47, spec/09 R306 to R308) -/

def execBypassCommandClose (c : Cell) (s : State) : Out := .next (s.bypassClose c).checkStop
def execBypassTimeout (c : Cell) (s : State) : Out := .next (s.bypassLate c).checkStop
def execBypassOpenTimeout (c : Cell) (s : State) : Out := .next (s.openLate c).checkStop
def execBypSenseSample (c : Cell) (high : Bool) (s : State) : Out := .next (s.bypSample c high).checkStop

end Sys2Proof.Machine
end

