-- ==== Sys2Proof/Machine/Link.lean ====
section
/-! DEFINITION. Lanes and paths as the later chapters use them: lane states, transmit queues, frame headers, the Orsolane holder and its release, restart of a PLL (spec/03 R70 to R74, spec/13 R410 to R427, spec/14 R446 to R456, spec/15 R481 to R488). -/

namespace Sys2Proof.Machine

/-! ### Names -/

/-- Subindex j of the status of lane i (spec/13 R441). -/
def kLane (i j : Nat) : Nat := 0xB00100 + i * 256 + j

/-- The path of a lane; its U and D lane (spec/13 R410). -/
def lanePath (i : Lane) : Path := ⟨i.val / 2, by omega⟩
def uLane (q : Path) : Lane := ⟨2 * q.val, by omega⟩
def dLane (q : Path) : Lane := ⟨2 * q.val + 1, by omega⟩
def isD (i : Lane) : Bool := i.val % 2 == 1

/-- One lane, one path changed. -/
def State.modLane (s : State) (i : Lane) (f : LaneSt → LaneSt) : State := { s with lanes := upd s.lanes i f }
def State.modPath (s : State) (q : Path) (f : PathSt → PathSt) : State := { s with paths := upd s.paths q f }

/-- LANE_STATE of a lane (spec/13 R426): 0 OFF, 1 DARK, 2 ALIGN, 3 TRAIN, 4 UP, 5 STEP. -/
def State.laneState (s : State) (i : Lane) : Nat := s.rd (kLane i 1)
def State.laneUp (s : State) (i : Lane) : Bool := s.laneState i == 4

/-- Rate in use on a lane. -/
def State.laneRate (s : State) (i : Lane) : Nat := s.rd (kLane i 3)

/-- This device's position on a path; none before enumeration, 0 in the manager (spec/13 R430, spec/20 R645). -/
def State.posOn (s : State) (q : Path) : Option Nat :=
  if s.manager then some 0
  else
    let p := s.rd (0xB03001 + q.val)
    if p = 0xFF then none else some p

/-- Block period in ticks (spec/13 R414): 64 ns, 12.8 ns, 6.4 ns. -/
def blockTicks (rate : Nat) : Nat := if rate = 0 then 40 else if rate = 1 then 8 else 4

/-- Setting or changing an entry of a list of pairs. -/
def assocSet (l : List (Nat × Nat)) (k v : Nat) : List (Nat × Nat) :=
  (k, v) :: l.filter fun p => p.1 != k
def assocGet (l : List (Nat × Nat)) (k : Nat) : Option Nat := (l.find? fun p => p.1 == k).map (·.2)

/-! ### Lane states (spec/13 R424 to R427) -/

/-- Whether a lane's LOS and LOL drive their sources: it has been UP, and its path neither changes rate nor is scanned (spec/13 R424). -/
def State.laneSpeaks (s : State) (i : Lane) : Bool :=
  s.bitAt (kLane i 2) 4 && !s.paths[lanePath i].changing && s.paths[lanePath i].scan.isNone

/-- Sources 93 + 2i and 94 + 2i of a lane. -/
def State.laneSources (s : State) (i : Lane) : State :=
  (s.levelSrc (93 + 2 * i.val) (s.laneSpeaks i && s.bitAt (kLane i 2) 0)).levelSrc (94 + 2 * i.val)
    (s.laneSpeaks i && s.bitAt (kLane i 2) 1)

/-- A lane takes a state; TRAIN starts its counts, ALIGN the wait of the slip search, the way out of OFF and STEP the count towards FILLER; UP sets EVER_UP and clears ELASTIC_ERROR, STEP takes the CDR out of lock, OFF clears its flags; a frame whose END has not come is discarded and counted (spec/13 R419, R422, R425 to R427, R442; spec/14 R448; log entry 175). -/
def State.setLane (s : State) (i : Lane) (st : Nat) : State :=
  let was := s.laneState i
  let s1 := (s.wr (kLane i 1) st).count 0xB00504 (if st != 4 && !s.lanes[i].rx.isEmpty then 1 else 0)
  let fl := s1.rd (kLane i 2)
  let fl := if st = 4 then setBit (setBit fl 4 true) 7 false
    else if st = 0 then 0
    else if st = 3 then setBit fl 3 true
    else if st = 5 then clearMask fl 0x0C
    else setBit fl 3 false
  let s2 := (s1.wr (kLane i 2) fl).modLane i fun l =>
    let l := if st = 4 then { l with wakes := 0 }
      else { l with trainOk := 0, trainAck := 0, trainBad := 0, ack := false, wakes := 0, rx := [] }
    { l with slipAt := if st = 2 then s.tick else l.slipAt
             fillerAt := if (was = 0 || was = 5) && (st = 1 || st = 2) then s.tick else l.fillerAt }
  s2.laneSources i

/-- Whether a lane is enabled: LANE_EN as taken at HATCH, and not a manager's U lane (spec/13 R411, R426). -/
def State.laneEnabled (s : State) (i : Lane) : Bool :=
  bit s.hatch.cfg[(0 : Fin 6)] i.val && !(s.manager && !isD i)

/-! ### PLLs (spec/03 R68 to R75, R88) -/

/-- PLL_STATUS of PLL p (0 PLL_T, 1 PLL_LX, 2 PLL_LY) and the key before it of subindex 0. -/
def kPll (p : Nat) : Nat := 0x200000 + p * 0x1000
def kPllStatus (p : Nat) : Nat := kPll p + (if p = 0 then 5 else 7)

/-- The feedback divider N and the output divider D of a PLL: PLL_T's from REF_MODE, a lane PLL's from the rate (spec/03 R64, R65). -/
def State.dividers (s : State) (p : Fin 3) : Nat × Nat :=
  if p.val = 0 then
    (match s.rd (kPll 0 + 1) with
      | 0 => 32
      | 2 => 8
      | _ => 16, 4)
  else
    match s.rd (kPll p + 1) with
    | 0 => (32, 4)
    | 1 => (33, 2)
    | _ => (33, 1)

/-- The PFD period of a PLL in ticks: 2.5 GHz ÷ N for PLL_T, REFCLK for a lane PLL (spec/03 R64, R65). -/
def State.pfdTicks (s : State) (p : Fin 3) : Nat := if p.val = 0 then s.clock.pll[p].n / 4 else 4

/-- The VCO's frequency in units of 15.625 MHz: N times the PFD rate (spec/03 R64, R65). -/
def State.vco (s : State) (p : Fin 3) : Nat := s.clock.pll[p].n * (40 / s.pfdTicks p)

/-- Time passes to a REFCLK edge: the tick counter at a multiple of 4 (spec/03 R75, R80; log entry 130). -/
def State.toRefEdge (s : State) : State := s.advance (ceilDiv s.tick 4 * 4 - s.tick)

/-- Acquisition restarts: bypass, acquiring with the dividers of the present configuration, the 10 ms limit from now; PLL_T's consumers change over at a REFCLK edge where there is one; a lane PLL's lanes fall to STEP (spec/03 R64, R65, R70, R73, R77; spec/13 R426). -/
def State.acquire (s : State) (p : Fin 3) : State :=
  let s := if p.val = 0 && s.clock.refPresent then s.toRefEdge else s
  let st := s.rd (kPllStatus p)
  let st := setBit (setBit (setBit (setBit st 0 false) 1 true) 2 true) 4 false
  let s1 := s.wr (kPllStatus p) st
  let (n, d) := s1.dividers p
  let s2 := { s1 with clock := { s1.clock with
    pll := s1.clock.pll.set p ⟨s1.tick, some (s1.tick + msTicks 10), n, d, none⟩ } }
  if p.val = 0 then (s2.wrBit kFlags 3 true).wrBit 0x203001 0 false
  else
    let q : Path := ⟨p.val - 1, by omega⟩
    let drop (a : State) (i : Lane) : State := if a.laneState i == 0 then a else a.setLane i 5
    drop (drop s2 (uLane q)) (dLane q)

/-- A path's PLL restarts at a rate (spec/03 R66, spec/13 R431). -/
def State.restartPath (s : State) (q : Path) (rate : Nat) : State :=
  let p : Fin 3 := ⟨q.val + 1, by omega⟩
  let s1 := s.wrAll [(kPll p + 1, rate), (kLane (uLane q) 3, rate), (kLane (dLane q) 3, rate)]
  s1.acquire p

/-- The path rate (spec/13 R443). -/
def kPathRate (q : Path) : Nat := 0xB03006 + q.val

/-- The path returns to G0 after a failed step; in the manager it is enumerated anew (spec/13 R432). -/
def State.fallBack (s : State) (q : Path) : State :=
  if s.dev != 1 || s.rd (kPll (q.val + 1) + 1) == 0 then s
  else
    let r := s.rd (kPathRate q)
    let s1 := (s.restartPath q 0).wr (kPathRate q) 0
    let s1 := if s.manager then s1.wrBit 0xB03003 q.val false else s1
    s1.modPath q fun p =>
      { p with stepDue := none, stepLimit := none, rateFixed := false, checking := false,
               failed := if s.manager then some r else none }

/-- A lane of a path has left UP: before DONE the path falls back to G0 (spec/13 R432). -/
def State.hatchFalls (s : State) (q : Path) : State :=
  if s.dev == 1 && !s.bitAt 0xB03003 2 then s.fallBack q else s

/-! ### What a lane puts on the line (spec/13 R415 to R417, R422, R427) -/

/-- Blocks put on a lane's line; the scrambler's state before them is open, since blocks of which no command tells went before (log entry 157). -/
def State.putLine (s : State) (i : Lane) (bs : List Block) : State :=
  let (h, s) := s.freeVal
  s.modLane i fun l => { l with line := onLine (s.laneRate i) (h % 2 ^ 58) bs }

/-- A control block of a type whose other bytes are 0: IDLE, FILLER, WAKE (spec/13 R416). -/
def plainBlock (typ : Nat) : Block := .control typ (natLe 6 0)

/-- This device's training record on a lane; a worker that has entered HATCH shows no position before its ASSIGN (spec/13 R417, R428). -/
def State.trainRecord (s : State) (i : Lane) : Block :=
  let q := lanePath i
  let ssc := s.rd (kPll (q.val + 1) + 2) != 0
  let fl := maskOf 5 fun j => if j = 0 then ssc else if j = 1 then s.manager else if j = 2 then s.lanes[i].ack
    else if j = 3 then q == 1 else isD i
  let pos := if s.dev == 1 && !s.manager && !s.paths[q].assigned then 0xFF else (s.posOn q).getD 0xFF
  .control 0x4D (natLe 1 (s.hatch.cfg[(1 : Fin 6)] % 4 + 4 * fl) ++ natLe 1 pos ++
    natLe 4 (s.rd 0x000004))

/-- What a lane sends while nothing is due: TRAIN in TRAIN, and in a manager with ROLE_CONFLICT on its U lanes, IDLE in UP, else nothing; a device not UP aligns its partner with TRAIN (spec/13 R411, R416, R427, R435; log entry 157). -/
def State.sends (s : State) (i : Lane) : Option Block :=
  if s.manager && !isD i then (if s.bitAt 0xB03003 4 then some (s.trainRecord i) else none)
  else
    match s.laneState i with
    | 0 => none
    | 5 => none
    | 4 => some (plainBlock 0x1C)
    | _ => some (s.trainRecord i)

/-! ### Maintenance activities that hold a path (spec/19 R629 to R631) -/

/-- Whether LANE_PRBS has taken a path: its lanes carry no frames. -/
def State.prbsOn (s : State) (q : Path) : Bool :=
  anyOf s.jobs.slots fun x => match x with
    | some j => j.act == 2 && j.path == q.val
    | none => false

/-- Whether STANDBY_SOAK has a path (spec/19 R629). -/
def State.soaks (s : State) (q : Path) : Bool :=
  anyOf s.jobs.slots fun x => match x with
    | some j => j.act == 1 && j.path == q.val
    | none => false

/-- What STANDBY_SOAK of a path takes note of: bit errors, a round trip in ns (spec/19 R629). -/
def State.soakNote (s : State) (q : Path) (errors trip : Nat) : State :=
  s.modSlots fun j =>
    if j.act == 1 && j.path == q.val then { j with seen := j.seen + errors, longest := max j.longest trip } else j

/-- An activity ends with its OUTCOME and values: claims released, the lanes of LANE_PRBS retrain, the Edge units of GATE_LOOPBACK stop (spec/19 R629, R631). -/
def State.slotEnds (s : State) (n : Fin 4) (outcome v1 v2 v3 : Nat) : State :=
  match s.jobs.slots[n] with
  | none => s
  | some j =>
    let k := 0xE02100 + 4 * n.val
    let res := outcome + v1 % 2 ^ 32 * 2 ^ 32 + v2 % 2 ^ 32 * 2 ^ 64 + v3 % 2 ^ 32 * 2 ^ 96
    let s1 := { s with jobs := { s.jobs with slots := s.jobs.slots.set n none } }.wrAll
      [(k + 2, 2), (k + 3, 0), (k + 4, res)]
    let train (a : State) (i : Lane) : State := if a.laneUp i then a.setLane i 3 else a
    if j.act = 2 then
      let q : Path := if j.path = 1 then 1 else 0
      train (train s1 (uLane q)) (dLane q)
    else if j.act = 6 then (bitsOf 6 j.arg).foldl (fun a c => a.applyCell ⟨c % 6, by omega⟩) s1
    else s1

/-- An activity ends aborted; the values it leaves are open (log entry 14). -/
def State.slotAborted (s : State) (n : Fin 4) : State :=
  let (a, s1) := s.freeVal
  let (b, s2) := s1.freeVal
  let (c, s3) := s2.freeVal
  s3.slotEnds n 2 a b c

/-- LANE_PRBS and STANDBY_SOAK end at a release of the lease (spec/19 R631). -/
def State.pathSlotsEnd (s : State) : State :=
  forFin 4 s fun n a =>
    match a.jobs.slots[n] with
    | some j => if j.act = 1 || j.act = 2 then a.slotAborted n else a
    | none => a

/-! ### Holder (spec/15 R480 to R488, R505) -/

/-- HOLDER, and whether PSEL_N is sensed low. -/
def State.holder (s : State) : Nat := s.rd 0xB02001
def State.pselLow (s : State) : Bool := s.bitAt 0xB02003 0

/-- Health of path q (spec/15 R509). -/
def State.health (s : State) (q : Nat) : Nat := s.rd (0xB02201 + 8 * q)

/-- A lease duration in nanoseconds as ticks: the first tick at or after it. -/
def nsTicks (n : Nat) : Nat := ceilDiv (n * 5) 8

/-- Sources 103 and 105 follow their conditions (spec/15 R487, R497, R504, R505; spec/14 R454). -/
def State.pathSources (s : State) : State :=
  let h := s.holder
  let other := if h = 0 then s.health 1 != 3 else if h = 1 then s.health 0 != 3
    else s.health 0 != 3 || s.health 1 != 3
  let slow := s.rd 0xB02003 / 256 % 4 != 0
  (s.levelSrc 103 (h == 0xFF || s.bitAt 0xB02003 3)).levelSrc 105
    ((s.lease.risen && other) || slow || s.lease.stuck)

/-- A worker's holder becomes path q with a fresh lease, which has no expiry while PSEL_N is low (spec/15 R481, R487, R500). -/
def State.setHolder (s : State) (q : Nat) : State :=
  let s1 := s.wr 0xB02001 q
  let until_ := if q = 0xFF || s.pselLow || s.manager then none
    else some (s.tick + nsTicks (s.rd 0xB02101))
  { s1 with lease := { s1.lease with
      until_ := until_, renewedAt := none,
      revertFrom := none, revertDue := false } }.pathSources

/-- Whether the time towards a reversion of the Orsolane lease counts. -/
def State.revertCounts (s : State) : Bool :=
  !s.manager && !s.pselLow && s.holder != 0xFF && s.holder != s.rd 0xB02102 &&
    s.health (s.rd 0xB02102) == 3 && s.rd 0xB02103 != 0

/-- Whether the time towards a reversion of the CAN lease counts (spec/15 R497). -/
def State.canRevertCounts (s : State) : Bool :=
  let pr := s.rd 0xB0210C
  !s.pselLow && s.rd 0xB02002 != pr && s.rd (0xB02211 + pr) == 3 && s.rd 0xB02103 != 0

/-- Both counts brought up to date: any break restarts them (spec/15 R493). -/
def State.updRevert (s : State) : State :=
  let from_ (on : Bool) (old : Option Nat) : Option Nat := if on then some (old.getD s.tick) else none
  let a := from_ s.revertCounts s.lease.revertFrom
  let b := from_ s.canRevertCounts s.lease.canRevertFrom
  let s1 := { s with lease := { s.lease with
    revertFrom := a, revertDue := s.lease.revertDue && a.isSome, canRevertFrom := b } }
  (s1.wrBit 0xB02003 6 a.isSome).wrBit 0xB02003 7 b.isSome

/-- A path's lane has come UP: its health is not known before the next evaluation (spec/15 R504). -/
def State.healthUnknown (s : State) (q : Path) : State :=
  (((s.modPath q fun p => { p with goodAt := none }).wr (0xB02201 + 8 * q.val) 0).pathSources).updRevert

/-- Release or expiry of a worker's Orsolane lease with its cause (spec/15 R486, R487). -/
def State.releaseLease (s : State) (cause : Nat) : State :=
  let h := s.holder
  if s.pselLow || s.manager || h == 0xFF then s
  else
    let s1 := s.pathSlotsEnd.wr 0xB02008 cause
    let other := 1 - h
    if s.health other == 3 then
      let s2 := ((s1.setHolder other).count 0xB02005).raise 101
      { s2 with lease := { s2.lease with failAt := some s.tick } }
    else s1.setHolder 0xFF

/-- A condition for a release on a path: of its holder it is one (spec/15 R486, R493). -/
def State.releaseOn (s : State) (q : Path) (cause : Nat) : State :=
  let s1 := { s with lease := { s.lease with released := s.lease.released.set q (some s.tick) } }
  if s1.holder == q.val then s1.releaseLease cause else s1

/-! ### Errors on the line (spec/13 R416, R441; spec/15 R504) -/

/-- The lane from which the device evaluates a path: U, in the manager D. -/
def State.judged (s : State) (q : Path) : Lane := if s.manager then dLane q else uLane q

/-- Errors on the lane of a path that the device evaluates, at this tick. -/
def State.noteErrors (s : State) (q : Path) (n : Nat) : State :=
  if n = 0 then s else s.modPath q fun x => { x with errs := (s.tick, n) :: x.errs }

/-- Code errors on a lane: CODE_ERROR_COUNT, and the errors of its path where the device evaluates it. -/
def State.codeErrorsOn (s : State) (i : Lane) (n : Nat) : State :=
  let s1 := s.count (kLane i 0x0A) n
  if s1.judged (lanePath i) = i then s1.noteErrors (lanePath i) n else s1

/-! ### Frames (spec/14 R446 to R456) -/

/-- The priority of a frame type; types outside the table go last (spec/14 R449). -/
def priority (typ : Nat) : Nat :=
  match typ with
  | 0x0D => 0
  | 1 => 1
  | 7 => 1
  | 4 => 2
  | 5 => 2
  | 6 => 2
  | 2 => 3
  | 0x0A => 3
  | 0x0C => 3
  | 0x0B => 4
  | 0x0E => 4
  | 0x0F => 4
  | 3 => 5
  | 8 => 6
  | _ => 7

/-- A triple of TYPE, SRC and DST (spec/14 R455). -/
def triple (typ src dst : Nat) : Nat := typ * 65536 + src * 256 + dst

/-- Whether this device may send on a lane: UP, not a manager's U lane, and not taken by LANE_PRBS (spec/13 R411, spec/19 R629). -/
def State.maySend (s : State) (i : Lane) : Bool :=
  s.laneUp i && !(s.manager && !isD i) && !s.prbsOn (lanePath i)

/-- A frame put on a lane's queue; a STRING or STATUS still waiting is superseded by its successor (spec/14 R453). -/
def State.enqueue (s : State) (i : Lane) (f : Frame) (fwd : Bool) (rx : Nat) (cut : Bool := false) : State :=
  if !s.maySend i then s
  else
    let old := s.lanes[i].queue
    let stale (x : QFrame) : Bool := !fwd && !x.fwd && x.f.typ == f.typ && (f.typ == 1 || f.typ == 2)
    let keep := old.filter fun x => !stale x
    (s.modLane i fun l => { l with queue := keep ++ [⟨f, fwd, rx, cut⟩] }).count 0xB00508
      (old.length - keep.length)

/-- The LEASE bit of a frame that this device sends: a manager's offer in STRING and LEASE frames, a worker's holder path upstream (spec/15 R482, spec/14 R454). -/
def State.leaseBit (s : State) (typ : Nat) (q : Path) (up : Bool) : Bool :=
  if s.manager then
    (typ == 1 || typ == 7) && s.bitAt 0xB02108 q.val && !(typ == 1 && s.bitAt 0xB02003 (8 + q.val))
  else up && s.holder == q.val

/-- A frame with this device's header (spec/14 R446). -/
def State.mkFrame (s : State) (typ : Nat) (q : Path) (up : Bool) (dst seq : Nat) (payload : Bytes) : Frame :=
  { typ := BitVec.ofNat 8 typ, path := q, up := up, retry := false, lease := s.leaseBit typ q up,
    coarse := s.bitAt kFlags 3, src := BitVec.ofNat 8 ((s.posOn q).getD 0xFF), dst := BitVec.ofNat 8 dst,
    seq := BitVec.ofNat 16 seq, payload := payload }

/-- The next SEQ of a triple, counted from 0 (spec/14 R455). -/
def State.takeSeq (s : State) (typ src dst : Nat) : Nat × State :=
  let n := (assocGet s.frames.txSeq (triple typ src dst)).getD 0
  (n, { s with frames := { s.frames with
    txSeq := assocSet s.frames.txSeq (triple typ src dst) ((n + 1) % 65536) } })

/-- A frame of this device sent in one direction of a path with the next SEQ of its triple. -/
def State.sendOn (s : State) (typ : Nat) (q : Path) (up : Bool) (dst : Nat) (payload : Bytes) : State :=
  let i := if up then uLane q else dLane q
  if !s.maySend i then s
  else
    let (n, s1) := s.takeSeq typ ((s.posOn q).getD 0xFF) dst
    s1.enqueue i (s1.mkFrame typ q up dst n payload) false 0

/-- A frame sent on every lane that is UP and on which this device may transmit (spec/12 R390, spec/14 R449). -/
def State.sendEverywhere (s : State) (typ : Nat) (payload : Bytes) : State :=
  let one (a : State) (q : Path) (up : Bool) := a.sendOn typ q up 0xFF payload
  one (one (one (one s 0 true) 0 false) 1 true) 1 false

/-- The path on which this device serves position p: a worker's holder, the manager's PEER_PATH; X while PSEL_N is low (spec/14 R449, spec/15 R483). -/
def State.pathTo (s : State) (p : Nat) : Option Path :=
  if s.pselLow then some 0
  else if s.manager then some (if s.bitAt 0xB0200A p then 1 else 0)
  else if s.holder == 0 then some 0 else if s.holder == 1 then some 1 else none

/-- A lease-gated frame or message not acted on (spec/15 R506). -/
def State.ignored (s : State) : State := s.count 0xB0200B

/-- A worker's frame that arrives with LEASE 1: the manager serves that worker on this path from now on; a FAILOVER_DRILL within its first 1 ms notes a worker that has left the drill's holder path (spec/15 R483, spec/19 R629). -/
def State.heard (s : State) (f : Frame) : State :=
  if s.manager && f.up && f.lease && f.src.toNat < 32 then
    (s.wrBit 0xB0200A f.src.toNat (f.path == 1)).modSlots fun j =>
      if j.act == 8 && f.path.val != j.path && s.tick ≤ j.since + msTicks 1 then
        { j with seen := setBit j.seen f.src.toNat true } else j
  else s

/-- The lane on which a frame arrives: one that travels up on a D lane, one that travels down on a U lane (spec/14 R446). -/
def inLane (f : Frame) : Lane := if f.up then dLane f.path else uLane f.path

/-- A frame consumed: FRAME_RX_COUNT, and the lease that its LEASE bit tells of (spec/14 R475, spec/15 R483). -/
def State.received (s : State) (f : Frame) : State := (s.count 0xB00509).heard f

/-- A frame that reaches this device and is consumed; on a lane that is not UP its blocks were discarded (spec/13 R411, R425). -/
def State.frameRow (s : State) (f : Frame) (act : State → State) : State :=
  if s.laneUp (inLane f) then act (s.received f) else s

/-- The direction in which this device reaches a position: the manager down, a worker up to positions before its own and down to those after it (spec/14 R449, R451). -/
def State.upTo (s : State) (q : Path) (dst : Nat) : Bool := !s.manager && dst ≤ (s.posOn q).getD 0xFF

/-- A DICT or CAPTURE frame to a position: at once where its triple has none unacknowledged, else it waits (spec/14 R456, R457). -/
def State.sendReliable (s : State) (typ : Nat) (dst : Nat) (payload : Bytes) : State :=
  match s.pathTo dst with
  | none => s
  | some q =>
    let up := s.upTo q dst
    let src := (s.posOn q).getD 0xFF
    let (n, s1) := s.takeSeq typ src dst
    let f := s1.mkFrame typ q up dst n payload
    if s1.frames.unacked.any fun u => u.f.typ == f.typ && u.f.src == f.src && u.f.dst == f.dst then
      { s1 with frames := { s1.frames with waiting := s1.frames.waiting ++ [f] } }
    else
      let due := s1.tick + usTicks (s1.rd 0xB00501)
      let s2 := { s1 with frames := { s1.frames with unacked := s1.frames.unacked ++ ([⟨f, 0, due⟩] : List Unacked) } }
      s2.enqueue (if up then uLane q else dLane q) f false 0

/-- The SAFE frame of a cause and source (spec/14 R450). -/
def State.sendSafe (s : State) (cause source : Nat) : State :=
  s.sendEverywhere 0x0D (natLe 1 cause ++ natLe 7 source)

/-- An EVENT frame: every source risen since the last one with the sticky words, once this worker has a position and a lease (spec/12 R402). -/
def State.sendEvents (s : State) : State :=
  if s.manager || s.collector.risen == 0 then s
  else
    match s.pathTo 0 with
    | none => s
    | some q =>
      if (s.posOn q).isNone || !s.maySend (uLane q) then s
      else
        let sticky := (List.range 4).flatMap fun w => natLe 4 (s.rd (0xA00001 + w))
        let s1 := s.sendOn 0x0C q true 0 (natLe 16 s.collector.risen.toNat ++ sticky)
        { s1 with collector := { s1.collector with risen := 0 } }

end Sys2Proof.Machine
end

