-- ==== Sys2Proof/Machine/Clocks.lean ====
section
/-! DEFINITION. PLLs, the reference and the relaxation oscillator, fine-delay calibration (spec/03). -/

namespace Sys2Proof.Machine

/-- Source 91 stands while a PLL has not locked 10 ms after its restart (spec/03 R72, log entry 12). -/
def State.acqSource (s : State) : State :=
  s.levelSrc 91 ((List.range 3).any fun p => s.bitAt (kPllStatus p) 5)

/-- The key before LOCK_WINDOW, LOCK_TOL and LOCK_COUNT (spec/03 R87). -/
def kLock (p : Fin 3) : Nat := kPll p + (if p.val = 0 then 1 else 3)

/-- Whether a PLL spreads: SSC_MODE of a lane PLL (spec/03 R67). -/
def State.spreads (s : State) (p : Fin 3) : Bool := p.val != 0 && s.rd (kPll p + 2) != 0

/-- The length of a lock window in REFCLK cycles: with spread on, the next whole multiple of 4,960 (spec/03 R68, R69). -/
def State.lockWindow (s : State) (p : Fin 3) : Nat :=
  if s.spreads p then ceilDiv (s.rd (kLock p + 1)) 4960 * 4960 else s.rd (kLock p + 1)

/-- The count expected of a window: its length; with down-spread, that times (1 − depth/2), rounded (spec/03 R68, R69; log entry 131). -/
def State.expectedCount (s : State) (p : Fin 3) : Nat :=
  if s.spreads p && s.rd (kPll p + 2) == 1 then roundDiv (s.lockWindow p * (4000 - s.rd (kPll p + 3))) 4000
  else s.lockWindow p

/-- Whether a window's count differs from its expected count by at most LOCK_TOL (spec/03 R68). -/
def State.inTol (s : State) (p : Fin 3) (count : Nat) : Bool :=
  let e := s.expectedCount p
  (e - count) + (count - e) ≤ s.rd (kLock p + 2)

/-- Whether the windows of an acquisition end with the first run of `need` good ones, `run` of which have been counted (spec/03 R68). -/
def endsRun (good : Nat → Bool) (need : Nat) : Nat → List (BitVec 32) → Bool
  | _, [] => false
  | run, x :: xs =>
    let r := if good x.toNat then run + 1 else 0
    if r = need then xs.isEmpty else endsRun good need r xs

/-- The REFCLK cycles of an acquisition of n windows: 40 µs are discarded first (spec/03 R71). -/
def State.acqCycles (s : State) (p : Fin 3) (n : Nat) : Nat := 6250 + n * s.lockWindow p

/-- The tick at which an acquisition of n windows ends: its windows count REFCLK cycles from the edge of its restart. -/
def State.lockTick (s : State) (p : Fin 3) (n : Nat) : Nat :=
  ceilDiv s.clock.pll[p].startAt 4 * 4 + 4 * s.acqCycles p n

/-- Lock is declared, while the reference is present, by the counts of the windows since the restart: consumers leave the bypass clock at a REFCLK edge, and a lane PLL's lanes leave STEP (spec/03 R68, R69, R71, R74, R75, R82; spec/13 R426; log entry 132). -/
def State.lock (s : State) (p : Fin 3) (counts : List (BitVec 32)) : State :=
  if !s.bitAt (kPllStatus p) 2 || !s.clock.refPresent ||
      !endsRun (s.inTol p) (s.rd (kLock p + 3)) 0 counts then s
  else
    let cycles := s.acqCycles p counts.length
    let s := (s.advanceTo (s.lockTick p counts.length)).toRefEdge
    let ssc := s.spreads p
    let st := setBit (setBit (setBit (setBit (setBit (s.rd (kPllStatus p)) 0 true) 1 false) 2 false) 4 ssc)
      5 false
    let s1 := s.wrAll [(kPllStatus p, st), (kPllStatus p + 2, cycles)]
    let s2 := { s1 with clock := { s1.clock with pll := upd s1.clock.pll p fun x =>
      { x with acqLimit := none, spreadAt := if ssc then some s1.tick else none } } }
    let s3 := (s2.deassertSrc (85 + p)).acqSource
    if p.val = 0 then
      let s4 := (s3.wrBit kFlags 3 false).wrBit 0x203001 0 true
      { s4 with clock := { s4.clock with lineDue := s4.tick + 555 } }
    else
      let q : Path := ⟨p.val - 1, by omega⟩
      let wake (a : State) (i : Lane) : State :=
        if a.laneState i == 5 then a.setLane i (if a.bitAt (kLane i 2) 0 then 1 else 2) else a
      wake (wake s3 (uLane q)) (dLane q)

/-- The spread of a lane PLL now, in units of 0.05 % / 2,480: a triangle of 4,960 REFCLK cycles, down from 0 to the depth and back, or about 0 from + depth to − depth and back (spec/03 R67; log entry 133). -/
def State.spread (s : State) (p : Fin 3) : Int :=
  match s.clock.pll[p].spreadAt with
  | none => 0
  | some t =>
    let x := (s.tick - t) / 4 % 4960
    let y : Int := min x (4960 - x)
    let depth : Int := s.rd (kPll p + 3)
    if s.rd (kPll p + 2) = 1 then -(depth * y) else depth * (2480 - 2 * y)

/-- The line rate of a path while its PLL is locked: both edges of the VCO divided by D, modulated by the spread; in units of 15.625 Mb/s ÷ 4,960,000 (spec/03 R65, R67). -/
def State.lineRate (s : State) (q : Path) : Nat :=
  let p : Fin 3 := ⟨q.val + 1, by omega⟩
  let x := s.clock.pll[p]
  let fast := if x.d = 4 then 1 else 2
  (((s.vco p * fast / x.d : Nat) : Int) * (4960000 + s.spread p)).toNat

/-- Whether what the detector has seen declares a PLL unlocked: a window off by more than LOCK_TOL, or more than 800 ps in 4 consecutive PFD cycles (spec/03 R73). -/
def State.lossShown (s : State) (p : Fin 3) (e : LossEvidence) : Bool :=
  match e with
  | .window count => !s.inTol p count.toNat
  | .phase errs => !anyOf errs fun x => x.toNat ≤ 800

/-- The tick of that declaration: now for a window, with the fourth of the PFD cycles else. -/
def State.lossTick (s : State) (p : Fin 3) (e : LossEvidence) : Nat :=
  match e with
  | .window _ => s.tick
  | .phase _ => s.tick + 3 * s.pfdTicks p

/-- A PLL acquires again after a loss; lanes that this takes out of UP before DONE return their path to G0 (spec/03 R73, R76; spec/13 R432). -/
def State.reacquire (s : State) (p : Fin 3) : State :=
  if p.val = 0 then s.acquire p
  else
    let q : Path := ⟨p.val - 1, by omega⟩
    let up := s.laneUp (uLane q) || s.laneUp (dLane q)
    if up then (s.acquire p).hatchFalls q else s.acquire p

/-- A locked PLL is declared unlocked and acquires again (spec/03 R73, R79, R80, R81). -/
def State.lockLost (s : State) (p : Fin 3) (e : LossEvidence) : State :=
  if s.bitAt (kPllStatus p) 0 && s.lossShown p e then
    let s := s.advanceTo (s.lossTick p e)
    ((s.countSat (kPllStatus p + 1)).assertSrc (85 + p)).reacquire p
  else s

/-- 10 ms after a restart without lock; the PLL keeps acquiring (spec/03 R72). -/
def State.acqLate (s : State) (p : Fin 3) : State :=
  match s.clock.pll[p].acqLimit with
  | none => s
  | some t =>
    let s1 := (s.advanceTo t).wrBit (kPllStatus p) 5 true
    { s1 with clock := { s1.clock with pll := upd s1.clock.pll p fun x => { x with acqLimit := none } } }.acqSource

/-- The timebase runs on by one tick; to the next REFCLK edge while PLL_T is in bypass, by one oscillator cycle of 6.25 ticks while the reference is absent (spec/03 R77, R80; spec/14 R462; log entry 1). -/
def State.idle (s : State) : State :=
  if s.inReset then s
  else if s.netCoarse then s.advance (4 - s.tick % 4)
  else if !s.bitAt (kPllStatus 0) 2 then s.advance 1
  else
    let q := s.clock.quarter + 25
    { s.advance (q / 4) with clock := { s.clock with quarter := q % 4 } }

/-- Whether a monitor window's count is within range (spec/03 R76). -/
def windowGood (edges : Nat) : Bool := 80 ≤ edges && edges ≤ 120

/-- Whether a monitor window declares the reference lost (spec/03 R76, R78). -/
def State.windowLost (s : State) (edges : Nat) : Bool :=
  if s.clock.oscBad then edges == 0 else !windowGood edges

/-- The reference is declared lost: every PLL is in bypass; one that was locked acquires again, one that acquires keeps its limit. A timebase that ran on REFCLK hands over at its edge (spec/03 R72, R75, R76, R77; log entry 130). -/
def State.refLost (s : State) (edges : Nat) : State :=
  if !s.windowLost edges then s
  else
    let s := if s.netCoarse then s.toRefEdge else s
    let s1 := { (s.assertSrc 88) with clock := { s.clock with refPresent := false } }
    forFin 3 s1 fun p a =>
      let b := a.wrBit (kPllStatus p) 3 false
      if b.bitAt (kPllStatus p) 0 then b.reacquire p else b

/-- Whether PLL p is off: PLL_LY in COCOON (spec/04 R113, R120). -/
def State.pllOff (s : State) (p : Fin 3) : Bool := p.val == 2 && s.dev == 5

/-- The reference is declared present by 8 consecutive windows within range: at a REFCLK edge every PLL restarts, the CAN controllers leave bus monitoring and integrate. What stands in the quarter-tick accumulator, less than a tick, is dropped: DESIGN CHOICE, the spec does not say what becomes of it (spec/03 R76, R77, spec/16 R517; log entries 1 and 178). -/
def State.refPresent (s : State) (counts : Vector Byte 8) : State :=
  if s.clock.refPresent || anyOf counts fun n => !windowGood n.toNat then s
  else
    let s := s.toRefEdge
    let s1 := { s with clock := { s.clock with refPresent := true, quarter := 0 } }
    let s2 := forFin 3 s1 fun p a =>
      let b := a.wrBit (kPllStatus p) 3 true
      if b.pllOff p then b else b.acquire p
    let s3 := forFin 2 s2 fun u a =>
      let k := unitKey 0xC0000F u
      if a.bitAt k 2 then
        { (a.wrBit k 2 false).wrBit k 1 true with can := upd a.can u fun c => { c with integAt := a.tick } }
      else a
    s3.deassertSrc 88

/-- Whether the oscillator's cycles in 100 µs of REFCLK are within ±10 % of 10,000 (spec/03 R78; log entry 134). -/
def oscGood (cycles : Nat) : Bool := 9000 ≤ cycles && cycles ≤ 11000

/-- The oscillator's check while the reference is present (spec/03 R78). -/
def State.oscCheck (s : State) (cycles : Nat) : State :=
  if !s.clock.refPresent then s
  else { (s.levelSrc 90 (!oscGood cycles)) with clock := { s.clock with oscBad := !oscGood cycles } }

/-- Failed lines as they stand: ANY_FAILED and source 89 (spec/03 R86, R89). -/
def State.calSource (s : State) : State :=
  let bad := s.rd 0x203002 != 0 || s.rd 0x203003 != 0 || s.rd 0x203004 != 0
  (s.wrBit 0x203001 2 bad).levelSrc 89 bad

/-- One line changed. -/
def State.modLine (s : State) (l : Line) (f : LineSt → LineSt) : State :=
  { s with clock := { s.clock with lines := upd s.clock.lines l f } }

/-- The summed delay of the first n elements of a line, in fs. -/
def elementSum (elements : Vector (BitVec 24) 64) (n : Nat) : Nat :=
  (elements.toList.take n).foldl (fun a x => a + x.toNat) 0

/-- How far the first n elements are from tap k, in fs. -/
def tapError (elements : Vector (BitVec 24) 64) (k n : Nat) : Nat :=
  let d := elementSum elements n
  (d - k * 100000) + (k * 100000 - d)

/-- The number of elements whose summed delay lies nearest k × 100 ps; the smaller where two are as near (spec/03, Fine-delay calibration; log entry 135). -/
def nearestElements (elements : Vector (BitVec 24) 64) (k : Nat) : Nat :=
  (List.range 65).foldl (fun best n => if tapError elements k n < tapError elements k best then n else best) 0

/-- A number of femtoseconds in seconds as binary32. -/
def fsSeconds (n : Nat) : Nat := fmt32.encode false (n * 2 ^ 80 / 10 ^ 15) (-80) (n * 2 ^ 80 % 10 ^ 15 != 0)

/-- The calibrator measures its next line, one every 888 ns or 555 ticks from the lock of PLL_T on; the last of a pass closes it; after a suspension it goes on at the line it had reached. WORST_TAP_ERROR takes in every measurement of the pass, a failing or implausible one too: DESIGN CHOICE, the spec does not leave those out (spec/03 R82, R84, R86, R87, R90; log entries 153, 169). -/
def State.measureLine (s : State) (l : Line) (plausible : Bool) (elements : Vector (BitVec 24) 64) : State :=
  if !s.bitAt 0x203001 0 || s.clock.nextLine != l.val then s
  else
    let s := s.advanceTo s.clock.lineDue
    let s := { s with clock := { s.clock with lineDue := s.clock.lineDue + 555 } }
    let taps : Vector Byte 16 := Vector.ofFn fun k => BitVec.ofNat 8 (nearestElements elements k.val)
    let reach := 1500000 ≤ elementSum elements 64
    let err := fsSeconds ((List.finRange 16).foldl (fun (m : Nat) (k : Fin 16) => max m (tapError elements k.val taps[k].toNat)) 0)
    let n := if plausible then 0 else s.clock.lines[l].implausible + 1
    let good := reach && plausible
    let s1 := s.modLine l fun x =>
      { x with implausible := n, shadow := if good then taps else x.shadow, waiting := x.waiting || good }
    let s2 := s1.wrBit (0x203002 + l.val / 32) (l.val % 32)
      (!good && (!reach || n ≥ 3 || s.lineFailed l))
    let worst := if fmt32.lt s.clock.passWorst.toNat err then BitVec.ofNat 32 err else s.clock.passWorst
    if l.val = 71 then
      let s3 := { s2 with clock := { s2.clock with nextLine := 0, passWorst := 0 } }
      (((s3.wr 0x203005 worst.toNat).count 0x203006).wrBit 0x203001 1 true).calSource
    else { s2 with clock := { s2.clock with nextLine := l.val + 1, passWorst := worst } }.calSource

/-- The first tick, now or later, at which no edge is pending in a line's fine stage: an edge is in it during the tick it is placed in (spec/03 R84). -/
def State.lineFree (s : State) (l : Line) : Nat :=
  match s.clock.lines[l].edgeAt with
  | some t => max s.tick (t / 16 + 1)
  | none => s.tick

/-- A line's shadow table takes effect (spec/03 R84). -/
def State.applyLine (s : State) (l : Line) : State :=
  if s.clock.lines[l].waiting && s.bitAt 0x203001 0 then
    (s.advanceTo (s.lineFree l)).modLine l fun x => { x with taps := x.shadow, waiting := false }
  else s

/-! ### The commands -/

def execPllLockDeclared (p : Fin 3) (counts : List (BitVec 32)) (s : State) : Out := .next (s.lock p counts)
def execPllLockLost (p : Fin 3) (evidence : LossEvidence) (s : State) : Out := .next (s.lockLost p evidence)
def execPllAcquisitionTimeout (p : Fin 3) (s : State) : Out := .next (s.acqLate p)
def execRefclkLost (edges : Byte) (s : State) : Out := .next (s.refLost edges.toNat)

/-- A measurement out of range asserts source 90 (spec/03 R78). -/
def execRelaxOscOutOfRange (cycles : BitVec 32) (s : State) : Out :=
  .next (if oscGood cycles.toNat then s else s.oscCheck cycles.toNat)

/-- A measurement in range ends it (spec/03 R78). -/
def execRelaxationOscillatorInRange (cycles : BitVec 32) (s : State) : Out :=
  .next (if oscGood cycles.toNat then s.oscCheck cycles.toNat else s)

def execFineCalLineMeasure (l : Line) (plausible : Bool) (elements : Vector (BitVec 24) 64) (s : State) : Out :=
  .next (s.measureLine l plausible elements)
def execFineCalTableApply (l : Line) (s : State) : Out := .next (s.applyLine l)

end Sys2Proof.Machine
end

