-- ==== Sys2Proof/Machine/Meas.lean ====
section
/-! DEFINITION. The measurement front end: SAR conversions, sequence tables, urgent requests, window comparators, open-wire tests, isolated streams, driver inputs, result objects (spec/06). -/

namespace Sys2Proof.Machine

/-- Subindex i of the table of converter a, of the configuration of channel ch, of stream n (spec/06 R215, R216, R218). -/
def kTable (a i : Nat) : Nat := (0x4010 + a) * 256 + i
def kChan (ch i : Nat) : Nat := (0x4100 + ch) * 256 + i
def kStream (n i : Nat) : Nat := (0x4300 + n) * 256 + i

/-- RECORD of a channel's result and of a stream's main-filter result (spec/06 R217). -/
def kSar (ch : Nat) : Nat := (0x4200 + ch) * 256 + 1
def kMain (n : Nat) : Nat := (0x4400 + n) * 256 + 1

/-- One converter, one stream, one driver input changed. -/
def State.modAdc (s : State) (a : Fin 4) (f : AdcSt → AdcSt) : State :=
  { s with meas := { s.meas with adc := upd s.meas.adc a f } }
def State.modStream (s : State) (n : Fin 18) (f : StreamSt → StreamSt) : State :=
  { s with meas := { s.meas with stream := upd s.meas.stream n f } }
def State.modDriver (s : State) (d : Fin 18) (f : DriverSt → DriverSt) : State :=
  { s with meas := { s.meas with driver := upd s.meas.driver d f } }

/-! ### Results (spec/06 R175 to R177, R209 to R213) -/

/-- Whether a channel is differential (spec/02 R33). -/
def isDiff (ch : Nat) : Bool := ch < 7

/-- The 16 bytes of a result record as a number: VALUE, RAW, TS_NS, SEQ, FLAGS (spec/06 R209). -/
def recordOf (value raw ns seq flags : Nat) : Nat :=
  value % 2 ^ 32 + raw % 2 ^ 32 * 2 ^ 32 + ns % 2 ^ 32 * 2 ^ 64 + seq % 256 * 2 ^ 96 + flags % 256 * 2 ^ 104

/-- SEQ after a SEQ: 1 to 255 and from 255 to 1 (spec/06 R211). -/
def nextSeq (q : Nat) : Nat := if q = 255 then 1 else q + 1

/-- A new result replaces the previous one whole and sets FRESH and VALID (spec/06 R210 to R212). -/
def State.putResult (s : State) (k value raw ns flags : Nat) : State :=
  s.wr k (recordOf value raw ns (nextSeq (field (s.rd k) 96 8)) (flags ||| 3))

/-- A read of a result: FRESH clears (spec/06 R212). -/
def State.clearFresh (s : State) (k : Nat) : State := s.wrBit k 104 false

/-- RAW of a code (spec/06 R176). -/
def rawOf (format code : Nat) : Nat :=
  match format with
  | 1 => code * 65536
  | 2 => ofSigned 32 (code - 32768)
  | _ => code

/-- VALUE of a code: SCALE · x + OFFSET, one rounding per operation (spec/06 R177). -/
def State.valueOf (s : State) (ch code : Nat) : Nat :=
  let x := if isDiff ch then fmt32.ofInt (code - 32768) (-15) else fmt32.ofInt code (-16)
  fmt32.add (fmt32.mul (s.rd (kChan ch 3)) x) (s.rd (kChan ch 4))

/-- The result of a conversion of channel ch (spec/06 R175 to R177, R184, R189). -/
def State.putCode (s : State) (ch code ns : Nat) (late urgent : Bool) : State :=
  let flags := (if late then 4 else 0) + (if urgent then 8 else 0) +
    (if code = 0 || code = 65535 then 16 else 0)
  let s1 := s.putResult (kSar ch) (s.valueOf ch code) (rawOf (s.rd (kChan ch 2)) code) ns flags
  { s1 with meas := { s1.meas with code := s1.meas.code.set (ch % 26) code } }

/-! ### Sequence tables (spec/06 R178 to R185) -/

/-- PLL_T is in bypass: holds fall on 4-tick boundaries, 64 ticks apart (spec/06 R180). -/
def State.coarse (s : State) : Bool := s.bitAt kFlags 3
def State.holdTick (s : State) (t : Nat) : Nat := if s.coarse then ceilDiv t 4 * 4 else t

/-- The spacing to the next hold of a run that has made n spacings: 63 and 62 ticks in turn, 64 in bypass (spec/06 R178, R180). -/
def State.gap (s : State) (n : Nat) : Nat := if s.coarse then 64 else 63 - n % 2

/-- Whether converters 2·⌊a/2⌋ and the next are paired; the one whose table drives them; the converters that hold with a, a disabled odd one not among them (spec/06 R181, R214). -/
def State.paired (s : State) (a : Fin 4) : Bool := s.bitAt 0x400002 (a.val / 2)
def evenOf (a : Fin 4) : Fin 4 := ⟨a.val / 2 * 2, by omega⟩
def oddOf (a : Fin 4) : Fin 4 := ⟨a.val / 2 * 2 + 1, by omega⟩
def State.tableOwner (s : State) (a : Fin 4) : Fin 4 := if s.paired a then evenOf a else a
def State.adcEnabled (s : State) (a : Fin 4) : Bool := s.bitAt 0x400001 a.val
def State.held (s : State) (a : Fin 4) : List (Fin 4) :=
  if s.paired a && s.adcEnabled (oddOf a) then [evenOf a, oddOf a] else if s.paired a then [evenOf a] else [a]

/-- The hold of the next entry of a running table, where nothing delays it further (spec/06 R178, R180). -/
def State.entryHold (s : State) (r : SeqSt) : Nat :=
  s.holdTick (match r.prev with
    | none => r.runAt
    | some h => h + s.gap r.gaps)

/-- A converter has tracked for 22 ticks since its last conversion, and since its last one that was not urgent (spec/06 R178). -/
def AdcSt.free (c : AdcSt) : Nat := if c.ended = 0 then 0 else c.ended + 22
def AdcSt.freeOwn (c : AdcSt) : Nat := if c.endedOwn = 0 then 0 else c.endedOwn + 22

/-- The first hold of a table triggered at this tick: START_DELAY later, after the track phase; where an urgent conversion of a held converter waits or is under way, 63 ticks after its hold (spec/06 R178, R182, R187; log entry 154). -/
def State.firstHold (s : State) (who : List (Fin 4)) (t : Nat) : Nat :=
  who.foldl (fun m x =>
    let c := s.meas.adc[x]
    let u := match c.urgent, c.conv with
      | some (_, h), _ => h + s.gap 0
      | none, some v => v.hold + s.gap 0
      | none, none => 0
    max (max m c.free) u) t

/-- A table starts (spec/06 R182 to R185, R193): an overrun while it runs or a test holds a converter. -/
def State.seqStart (s : State) (a : Fin 4) : State :=
  let who := s.held a
  if s.meas.adc[a].run.isSome || who.any (fun x => s.meas.adc[x].test.isSome) then
    (s.count (kTable a 0x15)).wrBit (kTable a 4) 1 true
  else
    let t := s.tick + s.rd (kTable a 2)
    let plan := who.foldl (fun m x => max m s.meas.adc[x].freeOwn) t
    (who.foldl (fun b x => b.wr (kTable x 4) 1) s).modAdc a fun c =>
      { c with run := some ⟨1, s.firstHold who t, none, 0, s.holdTick plan, 0⟩ }

/-- SEQUENCE_TRIGGER: the event that TRIGGER names, where the router has signalled it; ignored in COCOON, by a disabled converter and by a table of LENGTH 0. In a pair whose even converter is disabled nothing runs on the odd one either, whose own TRIGGER is ignored: DESIGN CHOICE (spec/06 R181, R182, R185, R214; log entry 155). -/
def State.seqTrigger (s : State) (a : Fin 4) : State :=
  let code := s.rd (kTable a 1)
  if s.tableOwner a != a then s
  else
    match s.dueAt code (whoTable a) with
    | none => s
    | some t =>
      let s := s.take code (whoTable a) t
      if !s.adcEnabled a || s.dev == 5 || s.rd (kTable a 3) == 0 then s else s.seqStart a

/-- The entry under way is over: the next one, its scheduled hold a spacing later, or the end of the table (spec/06 R182, R184). -/
def State.nextEntry (s : State) (a : Fin 4) : State :=
  let o := s.tableOwner a
  match s.meas.adc[o].run with
  | none => s
  | some r =>
    if (s.held a).any fun x => s.meas.adc[x].conv.isSome then s
    else if r.entry < s.rd (kTable o 3) then
      s.modAdc o fun c => { c with run := some { r with
        entry := r.entry + 1, plan := s.holdTick (r.plan + s.gap r.planned), planned := r.planned + 1 } }
    else
      let s1 := s.modAdc o fun c => { c with run := none }
      (if s.paired a then [evenOf a, oddOf a] else [a]).foldl (fun b (x : Fin 4) => b.wrBit (kTable x 4) 0 false) s1

/-- One converter holds its entry, where the channel is its own. A run under way on a converter that is then disabled goes on and holds nothing more: DESIGN CHOICE (spec/06 R174, R181, R184, R214; log entry 155). -/
def State.holdEntry (s : State) (a : Fin 4) (entry : Nat) (late last : Bool) : State :=
  let ch := s.rd (kTable a (4 + entry))
  if s.adcEnabled a && s.rd (kChan ch 1) == a.val then
    (s.modAdc a fun c => { c with conv := some ⟨ch, s.tick, s.ns, s.net.sec, .entry late last⟩ }).wrBit (kTable a 4) 2
      (late || s.bitAt (kTable a 4) 2)
  else s

/-- The running table of o holds its entry on the converters that hold with a: at its planned tick, or now where that is past; later than scheduled it is LATE (spec/06 R178, R181, R184). -/
def State.holdTable (s : State) (a o : Fin 4) (r : SeqSt) : State :=
  let s1 := s.advanceTo (s.holdTick (max s.tick (s.entryHold r)))
  let late := r.plan < s1.tick
  let last := r.entry == s.rd (kTable o 3)
  let s2 := s1.modAdc o fun c => { c with run := some { r with
    prev := some s1.tick, gaps := if r.prev.isSome then r.gaps + 1 else 0 } }
  ((s.held a).foldl (fun b x => b.holdEntry x r.entry late last) s2).nextEntry a

/-- A scheduled hold instant arrives: an urgent one first, then the running table's, then the reference conversion of a test. A test runs on a disabled converter too, which ignores triggers and requests only: DESIGN CHOICE (spec/06 R178, R180, R187, R188, R192, R214; log entry 155). -/
def State.adcHold (s : State) (a : Fin 4) : State :=
  let o := s.tableOwner a
  let me := s.meas.adc[a]
  if me.conv.isSome then s
  else
    match me.urgent with
    | some (q, h) =>
      let s1 := s.advanceTo (s.holdTick (max s.tick h))
      s1.modAdc a fun c => { c with urgent := none, conv := some ⟨q.ch, s1.tick, s1.ns, s1.net.sec, .urgent q.thermal⟩ }
    | none =>
      match s.meas.adc[o].run with
      | some r =>
        if (s.held a).any fun x => s.meas.adc[x].conv.isSome || s.meas.adc[x].urgent.isSome then s
        else s.holdTable a o r
      | none =>
        match me.test with
        | some w =>
          if w.settleAt.isSome then s
          else
            let s1 := s.advanceTo (s.holdTick (max s.tick me.free))
            s1.modAdc a fun c => { c with conv := some ⟨w.ch, s1.tick, s1.ns, s1.net.sec, .reference⟩ }
        | none => s

/-! ### Urgent requests (spec/06 R186 to R189) -/

/-- A request in the order of its rank and its arrival. -/
def insertReq (r : UrgentReq) : List UrgentReq → List UrgentReq
  | [] => [r]
  | q :: qs => if r.rank < q.rank then r :: q :: qs else q :: insertReq r qs

/-- A request for a channel at its home converter: merged, queued, or dropped and counted (spec/06 R186). -/
def State.request (s : State) (rank ch : Nat) : State :=
  let h := s.rd (kChan ch 1) % 4
  let a : Fin 4 := ⟨h % 4, by omega⟩
  if !s.adcEnabled a then s
  else
    let q := s.meas.adc[a].queue
    match q.find? fun x => x.ch == ch with
    | some x =>
      let m : UrgentReq := ⟨min rank x.rank, ch, x.thermal || rank == 1, x.since⟩
      s.modAdc a fun c => { c with
        queue := if rank < x.rank then insertReq m (q.filter fun y => y.ch != ch)
          else q.map fun y => if y.ch == ch then m else y }
    | none =>
      if q.length ≥ 8 then s.count 0x400010
      else s.modAdc a fun c => { c with queue := insertReq ⟨rank, ch, rank == 1, s.tick⟩ q }

/-- An entry with more than 4 of its 40 ticks to run is aborted (spec/06 R187, R188). -/
def abortsAt (t : Nat) (c : Option ConvSt) : Bool :=
  match c with
  | some x =>
    match x.kind with
    | .entry _ _ => t + 4 < x.hold + 40
    | _ => false
  | none => false

/-- The run of a table after an urgent hold: it begins again 63 ticks later with the aborted entry, or with the next one where its hold was planned earlier (spec/06 R187). -/
def State.restartRun (s : State) (o : Fin 4) (hold : Nat) (cut : Bool) : State :=
  match s.meas.adc[o].run with
  | none => s
  | some t =>
    let next := hold + s.gap 0
    if cut || s.entryHold t < next then
      s.modAdc o fun c => { c with run := some { t with runAt := next, prev := none, gaps := 0 } }
    else s

/-- The head of a converter's queue starts its conversion, r being the tick at which it reached the head: an entry with more than 4 ticks to run is aborted, in a pair on both converters; the hold falls 22 ticks after r or after the end of what completes. From here on the request no longer counts as queued, and a new one for its channel takes a place of its own: DESIGN CHOICE (spec/06 R186 to R188, R193; log entry 155). -/
def State.urgentStart (s : State) (a : Fin 4) : State :=
  let me := s.meas.adc[a]
  let busy : Bool := match me.conv with
    | some c => match c.kind with
      | .urgent _ => true
      | _ => false
    | none => false
  if me.urgent.isSome || busy then s
  else
    match me.queue with
    | [] => s
    | q :: qs =>
      let o := s.tableOwner a
      let r := max q.since me.ended
      let cut := (s.held a).any fun x => abortsAt r s.meas.adc[x].conv
      let e := match me.conv with
        | some c => match c.kind with
          | .entry _ _ => if abortsAt r me.conv then r else max r (c.hold + 40)
          | _ => r
        | none => r
      let hold := s.holdTick (max s.tick (e + 22))
      let s1 := (s.held a).foldl (fun b x => b.modAdc x fun c =>
        { c with conv := if abortsAt r c.conv then none else c.conv }) s
      let drop : Bool := match me.conv with
        | some c => c.kind == .reference
        | none => false
      let s2 := s1.modAdc a fun c =>
        { c with
          conv := if drop then none else c.conv
          queue := qs
          urgent := some (q, hold)
          test := c.test.map fun w => { w with settleAt := none, up := s.rd 0x450003 != 0, found := false } }
      s2.restartRun o hold cut

/-- Converters are enabled and disabled: a disabled one drops the requests that wait at it (spec/06 R214). -/
def State.setAdcs (s : State) (v : Nat) : State :=
  forFin 4 (s.wr 0x400001 v) fun a b =>
    if bit v a.val then b else b.modAdc a fun c => { c with queue := [], urgent := none }

/-- PAIR_MODE takes a value: where a pair forms or parts, the odd converter's own table ends with the conversion in hand; one that joins a table under way runs with it (spec/06 R181; log entry 155). -/
def State.setPairs (s : State) (v : Nat) : State :=
  let old := s.rd 0x400002
  forFin 2 (s.wr 0x400002 v) fun i b =>
    let odd : Fin 4 := ⟨2 * i.val + 1, by omega⟩
    if bit old i.val == bit v i.val then b
    else (b.modAdc odd fun c => { c with run := none }).wrBit (kTable odd 4) 0
      (bit v i.val && b.adcEnabled odd && b.meas.adc[evenOf odd].run.isSome)

/-! ### Open-wire diagnosis (spec/06 R192 to R194) -/

/-- The next channel of a converter begins its test. -/
def State.nextTest (s : State) (a : Fin 4) : State :=
  match s.meas.adc[a].todo with
  | [] => s.modAdc a fun c => { c with test := none }
  | ch :: rest => s.modAdc a fun c =>
      { c with todo := rest, test := some ⟨ch, 0, s.rd 0x450003 != 0, none, false⟩ }

/-- A channel put in its place among those still to test. -/
def insertCh (ch : Nat) : List Nat → List Nat
  | [] => [ch]
  | x :: xs => if ch < x then ch :: x :: xs else x :: insertCh ch xs

/-- A request that has waited elsewhere comes to a converter: ignored where it is disabled, dropped and counted where the queue is full (spec/06 R186, R214). -/
def State.requeue (s : State) (a : Fin 4) (q : UrgentReq) : State :=
  if !s.adcEnabled a then s
  else if s.meas.adc[a].queue.length ≥ 8 then s.count 0x400010
  else s.modAdc a fun c => { c with queue := insertReq q c.queue }

/-- A test under way on a channel stops; the converter goes on with its next one. -/
def State.leaveTest (s : State) (a : Fin 4) : State :=
  (s.modAdc a fun c => { c with conv := match c.conv with
    | some x => if x.kind == .reference then none else some x
    | none => none }).nextTest a

/-- A channel's home changes: its waiting requests go to the new home, and its open-wire test, which begins anew there in the order of the channels (spec/06 R174, R186, R193, R214; log entry 155). -/
def State.rehome (s : State) (ch new : Nat) : State :=
  let a : Fin 4 := ⟨s.rd (kChan ch 1) % 4, by omega⟩
  let b : Fin 4 := ⟨new % 4, by omega⟩
  if a = b then s
  else
    let me := s.meas.adc[a]
    let mine := (me.queue.filter fun q => q.ch == ch) ++ (match me.urgent with
      | some (q, _) => if q.ch == ch then [q] else []
      | none => [])
    let testing := me.test.any fun w => w.ch == ch
    let s1 := s.modAdc a fun c =>
      { c with queue := c.queue.filter fun q => q.ch != ch
               urgent := c.urgent.filter fun u => u.1.ch != ch
               todo := c.todo.filter fun x => x != ch }
    let s2 := mine.foldl (fun s q => s.requeue b q) (if testing then s1.leaveTest a else s1)
    if testing || me.todo.contains ch then
      let s3 := s2.modAdc b fun c => { c with todo := insertCh ch c.todo }
      if s3.meas.adc[b].test.isNone then s3.nextTest b else s3
    else s2

/-- Every named channel is tested: DONE, RESULT, causes and sources, BUSY clears (spec/06 R194). -/
def State.wireEnds (s : State) : State :=
  if (List.finRange 4).any fun a => s.meas.adc[a].test.isSome || !s.meas.adc[a].todo.isEmpty then s
  else
    let s1 := (s.orBits 0x450007 s.meas.named).orBits 0x450006 s.meas.opened
    let s2 := (bitsOf 17 s.meas.opened).foldl (fun b ch =>
      (b.wrBit (kChan ch 0x0A) 2 true).raise (36 + ch)) s1
    s2.wr 0x450008 0

/-- Tests of the named channels begin (spec/06 R192, R193, R219). -/
def State.wireStart (s : State) (mask : Nat) : State :=
  let m := mask % 2 ^ 17
  let s1 := ((s.clrBits 0x450006 m).clrBits 0x450007 m).wr 0x450008 1
  let s2 := { s1 with meas := { s1.meas with named := m, opened := 0 } }
  let s3 := forFin 4 s2 fun a b =>
    (b.modAdc a fun c => { c with todo := (bitsOf 17 m).filter fun ch => b.rd (kChan ch 1) == a.val }).nextTest a
  s3.wireEnds

/-- A test stops: the current goes off and BUSY clears. -/
def State.wireAbort (s : State) : State :=
  (forFin 4 s fun a b => b.modAdc a fun c =>
    { c with
      test := none
      todo := []
      conv := match c.conv with
        | some x => if x.kind == .reference then none else some x
        | none => none }).wr 0x450008 0

/-- The code of a reference conversion that ended at a tick: the current goes on for SETTLE ticks (spec/06 R192 steps 1 and 2). -/
def State.wireReference (s : State) (a : Fin 4) (code ended : Nat) : State :=
  s.modAdc a fun c =>
    { c with test := c.test.map fun w => { w with n0 := code, settleAt := some (ended + s.rd 0x450004) } }

/-- SETTLE has passed: the test conversion, on a 4-tick boundary in bypass, and the current goes off at its end (spec/06 R180, R192 steps 3 and 4). -/
def State.wireSettled (s : State) (a : Fin 4) (code : Nat) : State :=
  match s.meas.adc[a].test with
  | none => s
  | some w =>
    match w.settleAt with
    | none => s
    | some t =>
      let s := (s.advanceTo (s.holdTick (max s.tick t))).advance 40
      let s := s.modAdc a fun c => { c with ended := s.tick, endedOwn := s.tick }
      let d : Int := if w.up then code - w.n0 else w.n0 - code
      let hit := w.found || d ≥ s.rd 0x450005
      if w.up && s.rd 0x450003 == 2 then
        s.modAdc a fun c => { c with test := some { w with
          up := false, found := hit, settleAt := some (s.tick + s.rd 0x450004) } }
      else
        let m := if hit then setBit s.meas.opened w.ch true else s.meas.opened
        ({ s with meas := { s.meas with opened := m } }.nextTest a).wireEnds

/-- A code reaches the thermal sensor that waits for its channel: CH17 to CH20 and CH7 to CH12; its instant is the hold (spec/11 R358, R362). -/
def State.sensorCode (s : State) (ch code sec : Nat) : State :=
  let n := if 17 ≤ ch then ch - 17 else ch + 15
  if h : n < 28 then
    s.modSensor ⟨n, h⟩ fun x => { x with
      value := if x.waiting then some code else none, gotAt := s.tick, sec := sec }
  else s

/-- A conversion ends 40 ticks after its hold, and its result is written 8 to 15 ticks later, 15 ns typical to 25 ns, which of these a free value; the result of a table's last entry is the end of its sequence (spec/03 R59, spec/06 R178, R179, R192, spec/07 R226). -/
def State.adcResult (s : State) (a : Fin 4) (code : Nat) : State :=
  match s.meas.adc[a].conv with
  | none => s
  | some c =>
    let (d, s) := s.freeIn 8 15
    let e := c.hold + 40
    let own := match c.kind with
      | .urgent _ => false
      | _ => true
    let s1 := (s.advanceTo (e + d)).modAdc a fun x =>
      { x with conv := none, ended := e, endedOwn := if own then e else x.endedOwn }
    match c.kind with
    | .entry late last =>
      let s2 := (s1.putCode c.ch code c.ns late false).nextEntry a
      if last then s2.emitSync (0x200 + a.val) else s2
    | .urgent thermal =>
      let s2 := s1.putCode c.ch code c.ns false true
      if thermal then s2.sensorCode c.ch code c.sec else s2
    | .reference => s1.wireReference a code e

/-! ### Window comparators (spec/06 R190, R191) -/

/-- The level of a comparator DAC for a code: bits 15:4, on a scale of 2^-16 codes (spec/06 R190). -/
def dacLevel (code : Nat) : Nat := min code 65535 / 16 * 16 * 65536

/-- Whether an input level, in units of 2^-16 codes, trips a comparator of channel ch, and whether it releases it (spec/06 R190). -/
def State.winTrips (s : State) (ch : Fin 7) (high : Bool) (x : Nat) : Bool :=
  if high then dacLevel (s.rd (kChan ch 6)) < x else x < dacLevel (s.rd (kChan ch 7))
def State.winReleases (s : State) (ch : Fin 7) (high : Bool) (x : Nat) : Bool :=
  if high then x < dacLevel (s.rd (kChan ch 6) - s.rd (kChan ch 8))
  else dacLevel (s.rd (kChan ch 7) + s.rd (kChan ch 8)) < x

/-- Whether the channel's comparators act: CH6's always, another's where its cell is fitted (spec/02 R56, spec/09 R675). -/
def State.winFitted (s : State) (ch : Fin 7) : Bool := ch.val == 6 || s.fitted ch.val

/-- The actions of a trip: CAUSE, the source, an urgent request, Guard (spec/06 R191). -/
def State.windowActs (s : State) (ch : Fin 7) (high : Bool) : State :=
  let s2 := (s.wrBit (kChan ch 0x0A) (if high then 0 else 1) true).assertSrc (36 + ch.val)
  let s3 := if s2.rd (kChan ch 9) == 1 then s2.request 0 ch.val else s2
  if h : ch.val < 6 then s3.evalTrip ⟨ch.val, h⟩ 3 else forFin 6 s3 fun c a => a.evalTrip c 4

/-- A comparator, high or low, of a channel. -/
def winIndex (ch : Fin 7) (high : Bool) : Fin 14 := ⟨2 * ch.val + (if high then 1 else 0), by split <;> omega⟩

/-- An input beyond a comparator's level trips it. -/
def State.windowTrip (s : State) (ch : Fin 7) (high : Bool) (x : Nat) : State :=
  let i := winIndex ch high
  if s.rd (kChan ch 5) != 1 || s.winTrip[i] || !s.winTrips ch high x then s
  else
    let s1 := { s with winTrip := s.winTrip.set i true }
    if s.winFitted ch then s1.windowActs ch high else s1

/-- A comparator is released; the source stands while the other one is tripped. -/
def State.windowEnds (s : State) (ch : Fin 7) (high : Bool) : State :=
  let i := winIndex ch high
  if !s.winTrip[i] then s
  else
    let s1 := { s with winTrip := s.winTrip.set i false }
    if !s.winFitted ch then s1
    else
      let s2 := s1.levelSrc (36 + ch.val) (s1.winActive ch)
      if s2.winActive ch then s2
      else if h : ch.val < 6 then s2.tripEnds ⟨ch.val, h⟩ 3 else forFin 6 s2 fun c a => a.tripEnds c 4

/-- An input back within the release level releases a comparator (spec/06 R190). -/
def State.windowRelease (s : State) (ch : Fin 7) (high : Bool) (x : Nat) : State :=
  if s.winReleases ch high x then s.windowEnds ch high else s

/-! ### Isolated bitstreams (spec/06 R195 to R204) -/

/-- The triangular number n (n + 1) / 2. -/
def triangular (n : Nat) : Nat := n * (n + 1) / 2

/-- Coefficient k of the threefold and of the twofold convolution of m ones (spec/06 R198, R202). -/
def sinc3 (m k : Nat) : Int :=
  (triangular (k + 1) : Int) - 3 * triangular (k + 1 - m) + 3 * triangular (k + 1 - 2 * m)
def sinc2 (m k : Nat) : Nat := min (k + 1) (2 * m - 1 - k)

/-- The filter's sum over a window of bits, x = ±1. -/
def filterSum (h : Nat → Int) (bits : List Bool) : Int :=
  (bits.zipIdx.map fun p => if p.1 then h p.2 else -h p.2).foldl (· + ·) 0

/-- DSCK_DIV of a stream's cell (spec/06 R196). -/
def State.dsckDiv (s : State) (n : Nat) : Nat := s.rd (0x400004 + n / 3)

/-- Whether a stream's filters run: enabled, its cell fitted, out of reset, BOOT and COCOON (spec/02 R56, spec/06 R196, spec/04 R113). -/
def State.streamRuns (s : State) (n : Nat) : Bool :=
  s.rd (kStream n 1) == 1 && s.fitted (n / 3) && s.dev != 5 && s.dev != 0 && !s.inReset

/-- Whether a cell's streams are Manchester-coded (spec/06 R197). -/
def State.manchester (s : State) (c : Nat) : Bool := s.bitAt 0x40000B c

/-- Taps of the window centre before the last bit: 3 (M − 1) / 2 bit periods of DSCK_DIV taps, doubled (spec/06 R198). -/
def State.halfWindow (s : State) (n : Nat) : Nat := 3 * (s.rd (kStream n 2) - 1) * s.dsckDiv n

/-- The tick of rising edge j of a DSCK whose first one fell at tick t0: the tick nearest its ideal position, halves up; in bypass on a 4-tick boundary (spec/03 R80, spec/06 R196). -/
def State.dsckEdge (s : State) (t0 div j : Nat) : Nat := s.holdTick (t0 + (j * div + 8) / 16)

/-- DSD_DELAY of a cell (spec/06 R214). -/
def State.dsdDelay (s : State) (c : Nat) : Nat := s.rd (if c < 4 then 0x40000C + c else 0x40000D + c)

/-- DSD_DELAY of a cell for a DSCK edge at tick e: a write takes effect at the next edge (spec/06 R196). -/
def State.delayAt (s : State) (c : Cell) (e : Nat) : Nat :=
  if e ≤ s.meas.delay[c].2 then s.meas.delay[c].1 else s.dsdDelay c

/-- The tick at which bit j is sampled: DSD_DELAY after its edge, in bypass on a 4-tick boundary (spec/03 R80, spec/06 R196). -/
def State.bitTick (s : State) (n : Fin 18) (t0 j : Nat) : Nat :=
  let e := s.dsckEdge t0 (s.dsckDiv n) j
  s.holdTick (e + s.delayAt ⟨n.val / 3, by omega⟩ e)

/-- The number of the first bit of a stream sampled at or after tick t, of a DSCK that began at t0: within two of where its ideal edges place it (spec/06 R196). -/
def State.firstBit (s : State) (n : Fin 18) (t0 t : Nat) : Nat :=
  let j := (t - t0) * 16 / s.dsckDiv n - 2
  ((List.range 5).find? fun i => t ≤ s.bitTick n t0 (j + i)).map (j + ·) |>.getD (j + 5)

/-- The bit of a stream that comes next; of no account without a running DSCK. -/
def State.nextBit (s : State) (n : Fin 18) : Nat :=
  match s.meas.dsck[(⟨n.val / 3, by omega⟩ : Cell)] with
  | some t0 => s.firstBit n t0 s.tick
  | none => 0

/-- The main filter of a stream fills afresh: its first result comes from the first full window; the bits go on being counted as before (spec/06 R199, R200). -/
def State.refill (s : State) (n : Fin 18) : State :=
  (s.wrBit (kStream n 0x0C) 3 false).modStream n fun x => { x with due := [], restart := s.tick, first := s.nextBit n }

/-- The filters of a stream restart: all its bits count from here (spec/06 R199). -/
def State.restartStream (s : State) (n : Fin 18) : State :=
  let j := s.nextBit n
  (s.wrBit (kStream n 0x0C) 3 false).modStream n fun _ => ⟨none, [], s.tick, j, s.tick, j, none⟩

/-- DSCK of a cell restarts: its first rising edge falls at the tick that follows; with the cell's MANCHESTER bit it is driven low, and the streams lock to their bits anew; the filters restart (spec/06 R196, R197, R199). -/
def State.restartDsck (s : State) (c : Cell) : State :=
  let first := if s.manchester c || s.dev == 0 || s.dev == 5 || s.inReset then none else some (s.tick + 1)
  let s1 := { s with meas := { s.meas with dsck := s.meas.dsck.set c first } }
  forFin 3 s1 fun q a => a.restartStream ⟨3 * c.val + q.val, by omega⟩

/-- The last bit of the next window of a stream clocked by DSCK: in mode 0 every M-th bit counted from ENABLE, else the first bit at or after the instant that is due; none where nothing is due or the window would not be full (spec/06 R199, R200). -/
def State.lastBitOf (s : State) (n : Fin 18) (t0 : Nat) : Option Nat :=
  let m := s.rd (kStream n 2)
  let st := s.meas.stream[n]
  let full := st.first + 3 * m - 3
  if s.rd (kStream n 4) = 0 then
    let from_ := max full (match st.lastBit with
      | some t => s.firstBit n t0 (t + 1)
      | none => 0)
    some (st.anchor + ceilDiv (from_ + 1 - st.anchor) m * m - 1)
  else
    match st.due with
    | [] => none
    | t :: _ => let j := s.firstBit n t0 t; if full ≤ j then some j else none

/-- An alignment event that the router has signalled reaches a stream; the two events in one tick are one event, and one less than 8 bit periods after the last accepted one is ignored (spec/06 R200). -/
def State.alignEvent (s : State) (n : Fin 18) : State :=
  let mode := s.rd (kStream n 4)
  let a := s.rd (kStream n 5)
  let b := s.rd (kStream n 6)
  match (s.dueAt a (whoAlign n)).or (s.dueAt b (whoAlign n)) with
  | none => s
  | some t =>
    let s := (s.take a (whoAlign n) t).take b (whoAlign n) t
    if !s.streamRuns n || mode = 0 || s.bitAt (kStream n 0x0C) 0 then s
    else
      let near := s.meas.stream[n].aligned.any fun t => (s.tick - t) * 2 < s.dsckDiv n
      if near then s.wrBit (kStream n 0x0C) 4 true
      else
        let due := if mode = 2 then s.tick + ceilDiv (s.halfWindow n) 32 else s.tick
        s.modStream n fun m => { m with aligned := some s.tick, due := m.due ++ [due] }

/-- Charge completion of a cell at a link-voltage result (spec/10 R318). -/
def State.countCharge (s : State) (n : Fin 18) (v : Nat) : State :=
  let c : Cell := ⟨n.val / 3, by omega⟩
  if n.val % 3 != 0 || s.cellSt c != 1 then s
  else
    let done := s.rd (0x80000D + c.val)
    let n' := if fmt32.eqv done 0 || s.charge[c] ≥ 8 then 8
      else if fmt32.le done v then s.charge[c] + 1 else 0
    { s with charge := s.charge.set c n' }

/-- Whether a Manchester bit rate is accepted: n bits within 3 % of the nominal rate, span their time in taps (spec/06 R197). -/
def rateOk (div n span : Nat) : Bool := 97 * span ≤ 100 * (n * div) && 100 * (n * div) ≤ 103 * span

/-- Whether a Manchester window is the one that is due: in mode 0 a whole number of M bits after the last one, counted at the window's own rate; else ended by the first bit at or after the instant that is due (spec/06 R200; log entry 156). -/
def State.manchesterFits (s : State) (n : Fin 18) (x0 x1 : Nat) : Bool :=
  let m := s.rd (kStream n 2)
  let st := s.meas.stream[n]
  match st.due with
  | t :: _ => t * 16 ≤ x1 && 97 * (x1 - t * 16) ≤ 100 * s.dsckDiv n
  | [] => s.rd (kStream n 4) = 0 && (match st.lastBit with
      | some t => roundDiv ((x1 - t * 16) * (3 * m - 3)) (x1 - x0) % m == 0
      | none => true)

/-- The instants in taps of a window's last bit and of its centre: of a stream clocked by DSCK by its edges, of a Manchester stream by the mid-bit transitions of its first and last bits, where they are those of the window that is due; none where no window ends (spec/06 R197 to R201; log entry 156). -/
def State.windowOf (s : State) (n : Fin 18) (x0 x1 : Nat) : Option (Nat × Nat) :=
  let m := s.rd (kStream n 2)
  let st := s.meas.stream[n]
  if s.manchester (n.val / 3) then
    let after := (st.lastBit.getD st.restart + 1) * 16
    if rateOk (s.dsckDiv n) (3 * m - 3) (x1 - x0) && st.restart * 16 ≤ x0 && after ≤ x1 && s.manchesterFits n x0 x1 then
      some (x1, (x0 + x1) / 2)
    else none
  else
    match s.meas.dsck[(⟨n.val / 3, by omega⟩ : Cell)] with
    | none => none
    | some t0 =>
      match s.lastBitOf n t0 with
      | none => none
      | some j =>
        let x := s.bitTick n t0 j * 16
        some (x, x - s.halfWindow n / 2)

/-- A Manchester window whose bit rate is not accepted has lost the lock: the stream locks anew, and its first result comes from the first full window after that (spec/06 R197, R199; log entry 156). -/
def State.lockBroken (s : State) (n : Fin 18) (x0 x1 : Nat) : Bool :=
  s.manchester (n.val / 3) && x0 < x1 && !rateOk (s.dsckDiv n) (3 * s.rd (kStream n 2) - 3) (x1 - x0)

/-- Network time at an instant in taps of the local timebase that is not to come, in units of 2^-32 ns; in bypass the coarse value of that instant (spec/03 R80). -/
def State.netAt (s : State) (x : Nat) : Nat :=
  s.netUnits - (s.netTick * 16 - (if s.netCoarse then x / 64 * 64 else x)) * s.inc / 16

/-- A window that is due but not full gives no result (spec/06 R199). -/
def State.dropWindow (s : State) (n : Fin 18) : State := s.modStream n fun x => { x with due := x.due.drop 1 }

/-- A window of 3M − 2 bits is complete: the main-filter result, 16 to 31 ticks after its last bit, 30 ns typical to 50 ns, which of these a free value (spec/03 R59, spec/06 R198 to R201, spec/07 R226). -/
def State.mainResult (s : State) (n : Fin 18) (bits : List Bool) (x0 x1 : Nat) : State :=
  let m := s.rd (kStream n 2)
  if !s.streamRuns n || s.bitAt (kStream n 0x0C) 0 || bits.length + 2 != 3 * m then s
  else
    match s.windowOf n x0 x1 with
    | none => if s.lockBroken n x0 x1 then s.refill n else s.dropWindow n
    | some (last, centre) =>
      let (d, s) := s.freeIn 16 31
      let s1 := ((s.advanceTo (last / 16 + d)).dropWindow n).modStream n fun x => { x with lastBit := some (last / 16) }
      let sum := filterSum (sinc3 m) bits
      let y := fmt32.div (fmt32.ofInt sum) (fmt32.ofInt (m ^ 3))
      let q := rneDiv (sum * 2 ^ 31) (m ^ 3)
      let raw := clampInt (-(2 ^ 31)) (2 ^ 31 - 1) q
      let v := fmt32.add (fmt32.mul (s1.rd (kStream n 7)) y) (s1.rd (kStream n 8))
      let s2 := s1.putResult (kMain n) v (ofSigned 32 raw) (s1.netAt centre % secUnits / 2 ^ 32)
        (if raw = q then 0 else 16)
      (((s2.wrBit (kStream n 0x0C) 3 true).wrBit (kStream n 0x0C) 4 false).countCharge n v).emitSync (0x300 + n.val)

/-- Source 18 + n stands while the stream's fast comparator is tripped or the stream is faulty (spec/06 R203, R204). -/
def State.streamSource (s : State) (n : Nat) : State :=
  s.levelSrc (18 + n) (s.fastActive n || s.bitAt (kStream n 0x0C) 0)

/-- The fast comparator of a stream as the last 2F − 1 bits set it: high and low trip (spec/06 R202, R203). -/
def State.fastLevels (s : State) (n : Nat) (bits : List Bool) : Bool × Bool :=
  let f := s.rd (kStream n 3)
  let y := filterSum (fun k => sinc2 f k) bits * 32768
  let at_ (i : Nat) : Int := toSigned 16 (s.rd (kStream n i)) * (f * f : Nat)
  (decide (at_ 0x0A < y), decide (y < at_ 0x0B))

/-- Whether a window of bits is what the fast comparator of a stream evaluates: 2F − 1 bits, all sampled since its filters began; a fault and its end do not stop it (spec/06 R202 to R204). -/
def State.fastRuns (s : State) (n : Fin 18) (bits : List Bool) : Bool :=
  let f := s.rd (kStream n 3)
  let st := s.meas.stream[n]
  let full := match s.meas.dsck[(⟨n.val / 3, by omega⟩ : Cell)] with
    | some t0 => s.bitTick n t0 (st.anchor + 2 * f - 2) ≤ s.tick
    | none => s.manchester (n.val / 3) && 100 * ((2 * f - 1) * s.dsckDiv n) ≤ 1648 * (s.tick - st.begun)
  s.streamRuns n && s.rd (kStream n 9) == 1 && bits.length + 1 == 2 * f && full

/-- The trip bits of STATUS, the source and Guard's input follow the fast comparator. -/
def State.setFast (s : State) (n : Fin 18) (hi lo : Bool) : State :=
  let was := s.fastActive n
  let s1 := ((s.wrBit (kStream n 0x0C) 1 hi).wrBit (kStream n 0x0C) 2 lo).streamSource n
  let c : Cell := ⟨n.val / 3, by omega⟩
  let i : Fin 9 := ⟨5 + n.val % 3, by omega⟩
  if hi || lo then s1.evalTrip c i else if was then s1.tripEnds c i else s1

/-- The fast output exceeds a threshold (spec/06 R203). -/
def State.fastTrip (s : State) (n : Fin 18) (bits : List Bool) : State :=
  let (hi, lo) := s.fastLevels n bits
  if s.fastRuns n bits && (hi || lo) then s.setFast n hi lo else s

/-- The fast output is back within FAST_LO to FAST_HI (spec/06 R203). -/
def State.fastRelease (s : State) (n : Fin 18) (bits : List Bool) : State :=
  let (hi, lo) := s.fastLevels n bits
  if s.fastRuns n bits && s.fastActive n && !hi && !lo then s.setFast n false false else s

/-- A stream is declared faulty, or its fault clears: STATUS, the flag of the result where there is one, the source (spec/06 R204, R213). -/
def State.setStreamFault (s : State) (n : Fin 18) (b : Bool) : State :=
  let s0 := s.wrBit (kStream n 0x0C) 0 b
  let s1 := if s0.bitAt (kMain n) 105 then s0.wrBit (kMain n) 109 b else s0
  (s1.modStream n fun m => { m with due := [] }).streamSource n

/-- The streams stop in COCOON with their clocks: fast trips and faults clear, the results stay (spec/04 R113, spec/06 R203, R213). -/
def State.stopStreams (s : State) : State :=
  let s1 := { s with meas := { s.meas with dsck := Vector.replicate 6 none } }
  forFin 18 s1 fun n a =>
    (((a.setFast n false false).wrBit (kStream n 0x0C) 0 false).streamSource n).restartStream n

/-- A run of bits as a stream recovered them, oldest first, none for a code violation; whether the last 64 fulfil a condition of R204: all of one value, or in Manchester mode 4 violations among them or among the fewer that there are. -/
def faultyBits (manchester : Bool) (w : List (Option Bool)) : Bool :=
  let v := (w.reverse.take 64)
  (v.length == 64 && (v.all (· == some true) || v.all (· == some false))) ||
    (manchester && 4 ≤ (v.filter (·.isNone)).length)

/-- A stream's last bits show a fault (spec/06 R204). -/
def State.streamFault (s : State) (n : Fin 18) (bits : List (Option Bool)) : State :=
  if s.streamRuns n && !s.bitAt (kStream n 0x0C) 0 && faultyBits (s.manchester (n.val / 3)) bits then
    s.setStreamFault n true else s

/-- 256 bits in a row in which neither condition held: of the last 319 bits, each of the last 256 ends 64 without a fault (spec/06 R204). -/
def State.streamClean (s : State) (n : Fin 18) (bits : List (Option Bool)) : State :=
  let man := s.manchester (n.val / 3)
  let clean := bits.length == 319 && (List.range 256).all fun i => !faultyBits man (bits.drop i |>.take 64)
  if s.streamRuns n && s.bitAt (kStream n 0x0C) 0 && clean then (s.setStreamFault n false).refill n else s

/-- Sequence tables and open-wire tests stop (spec/04 R113, spec/06 R185, R220). -/
def State.stopTables (s : State) : State :=
  (forFin 4 s fun a b =>
    (b.modAdc a fun c =>
      { c with
        run := none
        conv := match c.conv with
          | some x => match x.kind with
            | .urgent _ => some x
            | _ => none
          | none => none }).wrBit (kTable a 0x04) 0 false).wireAbort

/-! ### Driver inputs (spec/06 R205 to R208) -/

/-- Whether input d reads telemetry: its cell is fitted and MODE is TELEMETRY. -/
def State.telemetry (s : State) (d : Nat) : Bool := s.fitted (d / 3) && s.rd (0x460001 + d) == 1

/-- T of a period with its high time (spec/06 R206). -/
def State.driverTemp (s : State) (d period high : Nat) : Nat :=
  let ratio := fmt32.div (fmt32.ofInt high) (fmt32.ofInt period)
  let lo := fmt32.div f1 (fmt32.ofInt 10)
  let x := fmt32.div (fmt32.sub (fmt32.clamp lo (fmt32.div (fmt32.ofInt 9) (fmt32.ofInt 10)) ratio) lo)
    (fmt32.div (fmt32.ofInt 8) (fmt32.ofInt 10))
  fmt32.add (s.rd (0x460013 + d))
    (fmt32.mul x (fmt32.sub (s.rd (0x460025 + d)) (s.rd (0x460013 + d))))

/-- The mean of a list of numbers. -/
def meanOf (ts : List Nat) : Nat :=
  fmt32.div (ts.foldl fmt32.add 0) (fmt32.ofInt ts.length)

/-- A rising edge ends a period that began after the input entered the mode: where it is valid, TEMP is the mean of the latest four (spec/06 R206). -/
def State.driverPeriod (s : State) (d : Fin 18) (period high : Nat) : State :=
  let m := s.meas.driver[d]
  if !s.telemetry d || s.tick < m.since + 1 + period || period < 29762 || 657895 < period ||
      100 * high < 8 * period || 92 * period < 100 * high then s
  else
    let ts := (s.driverTemp d period high :: m.temps).take 4
    (((s.modDriver d fun x => { x with temps := ts, period := period, everValid := true, validAt := s.tick }).wr
      (0x460037 + d) (meanOf ts.reverse)).wrBit 0x460049 d false).reschedule

/-- Whether a low phase of a number of taps is a fault: in TELEMETRY mode after 0.9 × P_m + 2 µs, counted from when the input was first evaluated; in STATIC mode from 8 ns, not up to 3 ns, and in between as a free value says (spec/06 R207, spec/09 R675). -/
def State.lowIsFault (s : State) (d : Fin 18) (low : Nat) : Bool × State :=
  let m := s.meas.driver[d]
  if s.rd (0x460001 + d) == 1 then
    (10 * (min low ((s.tick - m.lowFrom) * 16)) ≥ 16 * (9 * m.period + 12500), s)
  else if 80 ≤ low then (true, s)
  else if low ≤ 30 then (false, s)
  else (s.freeVal.1 % 2 == 1, s.freeVal.2)

/-- The effects of a recognised driver fault (spec/06 R207). -/
def State.faultActs (s : State) (d : Fin 18) : State :=
  ((s.wrBit 0x46004A d true).assertSrc d).evalTrip ⟨d.val / 3, by omega⟩ ⟨d.val % 3, by omega⟩

/-- An input's level changed as the device keeps it. -/
def State.setDf (s : State) (d : Fin 18) (low : Bool) : State :=
  { s with pins := { s.pins with dfLow := s.pins.dfLow.set d low } }

/-- A low phase of an input: a fault where it is recognised as one; ignored in reset and while the cell is not fitted (spec/02 R56, spec/06 R207). -/
def State.driverFault (s : State) (d : Fin 18) (low : Nat) : State :=
  let s1 := s.setDf d true
  if !s.fitted (d.val / 3) || s.inReset then s1
  else
    let (yes, s2) := s1.lowIsFault d low
    if yes then s2.faultActs d else s2

/-- An input is high again: a driver fault ends. -/
def State.driverFaultEnds (s : State) (d : Fin 18) : State :=
  let s := s.setDf d false
  if !s.bitAt 0x46004A d then s
  else ((s.wrBit 0x46004A d false).deassertSrc d).tripEnds ⟨d.val / 3, by omega⟩ ⟨d.val % 3, by omega⟩

/-- Telemetry is invalid where no valid period has ended for 4 ms, or a high level has lasted 657,895 ticks: TEMP holds its last value (spec/06 R208). -/
def State.driverInvalid (s : State) (d : Fin 18) (high : Nat) : State :=
  let m := s.meas.driver[d]
  if s.telemetry d && (657895 ≤ min high (s.tick - m.since) || msTicks 4 ≤ s.tick - m.validAt) then
    s.wrBit 0x460049 d true
  else s

/-- The measurement of an input's telemetry begins (spec/06 R206). -/
def State.driverBegins (s : State) (d : Fin 18) : State :=
  s.modDriver d fun m => { m with temps := [], period := 657895, since := s.tick, validAt := s.tick }

/-- An input enters its mode: measurement begins afresh, and its level counts from here (spec/06 R206, spec/09 R675). -/
def State.driverMode (s : State) (d : Fin 18) : State :=
  (s.driverBegins d).modDriver d fun m => { m with lowFrom := s.tick }

/-- The end of BOOT and the wake from COCOON: every DSCK restarts (spec/06 R196); BOOT's end is the entry of the inputs into their restored modes (R206). -/
def State.restartClocks (s : State) : State := forFin 6 s fun c a => a.restartDsck c

/-! ### Fitting (spec/02 R56, spec/09 R675, spec/20 R646) -/

/-- The trip inputs of a newly fitted cell at their present level: an input at its fault level acts as a change to it would (spec/09 R675). -/
def State.fitCell (s : State) (c : Cell) : State :=
  let s1 := s.modGuard c fun _ => { GuardSt.init with cycleAt := some s.tick }
  let s2 := forFin 3 s1 fun b a =>
    let d : Fin 18 := ⟨3 * c.val + b.val, by omega⟩
    if a.rd (0x460001 + d) == 1 then a.driverMode d
    else if a.pins.dfLow[d] then a.faultActs d else a
  let ch : Fin 7 := ⟨c.val, by omega⟩
  let s3 := [true, false].foldl (fun a (h : Bool) =>
    if a.winTrip[winIndex ch h] && a.rd (kChan ch 5) == 1 then a.windowActs ch h else a) s2
  let s4 := forFin 3 s3 fun q a => a.restartStream ⟨3 * c.val + q.val, by omega⟩
  s4.evalCell c

/-- A cell no longer fitted: gates low, no hold, no sense cycle, its inputs ignored (spec/01 R26, spec/02 R50, R56, spec/09 R290). -/
def State.unfitCell (s : State) (c : Cell) : State :=
  let s1 := forFin 3 s fun b a =>
    let n : Fin 18 := ⟨3 * c.val + b.val, by omega⟩
    let a := ((a.wr (kHoldCause c b) 0).wrBit 0x46004A n false).deassertSrc n.val
    (a.setFast n false false).setStreamFault n false
  let s2 := ((s1.deassertSrc (36 + c.val)).wrBit (kByp c) 0 false).modGuard c fun _ => GuardSt.init
  s2.applyCell c

/-- CELL_FITTED takes a value (spec/20 R646). -/
def State.setFitted (s : State) (mask : Nat) : State :=
  let old := s.rd kFitted
  let s1 := s.wr kFitted mask
  forFin 6 s1 fun c a =>
    if bit mask c.val && !bit old c.val then a.fitCell c
    else if !bit mask c.val && bit old c.val then a.unfitCell c else a

/-! ### The commands -/

def execSequenceTrigger (a : Fin 4) (s : State) : Out := .next (s.seqTrigger a)
def execAdcHold (a : Fin 4) (s : State) : Out := .next (s.adcHold a)
def execAdcResultWritten (a : Fin 4) (code : BitVec 16) (s : State) : Out := .next (s.adcResult a code.toNat)
def execUrgentConversionStart (a : Fin 4) (s : State) : Out := .next (s.urgentStart a)
def execWindowTrip (ch : Fin 7) (high : Bool) (level : BitVec 32) (s : State) : Out :=
  .next (s.windowTrip ch high level.toNat)
def execWindowRelease (ch : Fin 7) (high : Bool) (level : BitVec 32) (s : State) : Out :=
  .next (s.windowRelease ch high level.toNat)
def execOpenWireSettleExpiry (a : Fin 4) (code : BitVec 16) (s : State) : Out :=
  .next (s.wireSettled a code.toNat)
def execDsdMainResult (n : Fin 18) (bits : List Bool) (start stop : BitVec 64) (s : State) : Out :=
  .next (s.mainResult n bits start.toNat stop.toNat)
def execDsdAlignEvent (n : Fin 18) (s : State) : Out := .next (s.alignEvent n)
def execFastComparatorTrip (n : Fin 18) (bits : List Bool) (s : State) : Out := .next (s.fastTrip n bits)
def execFastComparatorRelease (n : Fin 18) (bits : List Bool) (s : State) : Out := .next (s.fastRelease n bits)
def execDfPeriodMeasured (d : Fin 18) (period high : BitVec 32) (s : State) : Out :=
  .next (s.driverPeriod d period.toNat high.toNat)
def execDfFaultRecognised (d : Fin 18) (low : BitVec 32) (s : State) : Out := .next (s.driverFault d low.toNat)
def execDfFaultEnd (d : Fin 18) (s : State) : Out := .next (s.driverFaultEnds d)
def execDfTelemetryInvalid (d : Fin 18) (high : BitVec 32) (s : State) : Out := .next (s.driverInvalid d high.toNat)
def execStreamFault (n : Fin 18) (bits : List (Option Bool)) (s : State) : Out := .next (s.streamFault n bits)
def execStreamFaultClear (n : Fin 18) (bits : List (Option Bool)) (s : State) : Out := .next (s.streamClean n bits)

end Sys2Proof.Machine
end

