-- ==== Sys2Proof/Machine/Retry.lean ====
section
/-! DEFINITION. End-to-end retry of DICT and CAPTURE frames (spec/14 R455 to R457). -/

namespace Sys2Proof.Machine

/-- An ACK (0x0E) or NAK (0x0F) sent back on the path of a frame, naming its TYPE and a SEQ (spec/14 R450, R456). -/
def State.answer (s : State) (typ : Nat) (f : Frame) (seq : Nat) : State :=
  s.sendOn typ f.path (!f.up) f.src.toNat (natLe 2 f.typ.toNat ++ natLe 2 seq)

/-- Whether the next frame of a triple is this one: the expected SEQ, that of the first frame heard otherwise (spec/14 R456). -/
def State.expected (s : State) (f : Frame) : Nat :=
  (assocGet s.frames.rxSeq (triple f.typ.toNat f.src.toNat f.dst.toNat)).getD f.seq.toNat

/-- The destination's answer to an intact frame: accepted with an ACK, or a duplicate with an ACK, or ahead with a NAK (spec/14 R456). -/
def State.acceptSeq (s : State) (f : Frame) : Bool × State :=
  let e := s.expected f
  let n := f.seq.toNat
  if n = e then
    let s1 := s.answer 0x0E f n
    (true, { s1 with frames := { s1.frames with
      rxSeq := assocSet s1.frames.rxSeq (triple f.typ.toNat f.src.toNat f.dst.toNat) ((e + 1) % 65536) } })
  else if (e + 65536 - n) % 65536 < 32768 then (false, s.answer 0x0E f n)
  else (false, s.answer 0x0F f e)

/-- Whether a frame is another unacknowledged frame's triple. -/
def sameTriple (a b : Frame) : Bool := a.typ == b.typ && a.src == b.src && a.dst == b.dst

/-- A frame on the path that now serves its destination (spec/15 R489, spec/18 R599). -/
def State.onPath (s : State) (f : Frame) : Frame :=
  let q := (s.pathTo f.dst.toNat).getD f.path
  { f with path := q, lease := s.leaseBit f.typ.toNat q f.up }

/-- An unacknowledged frame sent again with RETRY set (spec/14 R457). -/
def State.resend (s : State) (u : Unacked) : State :=
  let f : Frame := { s.onPath u.f with retry := true }
  let q := f.path
  let due := s.tick + usTicks (s.rd 0xB00501)
  let s1 := { s with frames := { s.frames with
    unacked := s.frames.unacked.map fun (x : Unacked) => if sameTriple x.f u.f then ⟨f, u.tries + 1, due⟩ else x } }
  (s1.enqueue (if f.up then uLane q else dLane q) f false 0).count 0xB00506

/-- A triple has no unacknowledged frame left: the oldest waiting one is sent (spec/14 R456). -/
def State.nextWaiting (s : State) (f : Frame) : State :=
  let s1 := { s with frames := { s.frames with
    unacked := s.frames.unacked.filter fun u => !sameTriple u.f f } }
  match s1.frames.waiting.find? fun w => sameTriple w f with
  | none => s1
  | some w₀ =>
    let w := s1.onPath w₀
    let rest := s1.frames.waiting.filter fun x => !(sameTriple x w && x.seq == w.seq)
    let due := s1.tick + usTicks (s1.rd 0xB00501)
    let s2 := { s1 with frames := { s1.frames with
      waiting := rest, unacked := s1.frames.unacked ++ ([⟨w, 0, due⟩] : List Unacked) } }
    s2.enqueue (if w.up then uLane w.path else dLane w.path) w false 0

end Sys2Proof.Machine
end

