-- ==== Sys2Proof/Machine/Nv.lean ====
section
/-! DEFINITION. The NV store: commit words, STORE and DEFAULTS, restoring the dictionary, the OEM area, firmware banks and install (spec/19 R611 to R627). -/

namespace Sys2Proof.Machine

/-! ### Commit words (spec/19 R615) -/

/-- A commit or select word: GENERATION, BANK and their complement. -/
def commitWord (gen bank : Nat) : Nat :=
  let w := gen % 2 ^ 24 + bank % 256 * 2 ^ 24
  w + (2 ^ 32 - 1 - w) * 2 ^ 32

/-- Whether a copy is valid: CHECK matches and BANK is allowed. -/
def commitOk (dict : Bool) (c : Nat) : Bool :=
  c / 2 ^ 32 == 2 ^ 32 - 1 - c % 2 ^ 32 &&
    (field c 24 8 ≤ 1 || (dict && field c 24 8 == 0xFF))

/-- Whether generation a is greater than b in serial order modulo 2^24. -/
def serialGreater (a b : Nat) : Bool :=
  let d := (a + 2 ^ 24 - b % 2 ^ 24) % 2 ^ 24
  d != 0 && d < 2 ^ 23

/-- The copy in use; none where no copy is valid. -/
def bestCopy (dict : Bool) (v : Vector Nat 2) : Option Nat :=
  match commitOk dict v[0], commitOk dict v[1] with
  | true, true => some (if serialGreater (field v[1] 0 24) (field v[0] 0 24) then v[1] else v[0])
  | true, false => some v[0]
  | false, true => some v[1]
  | false, false => none

/-- GENERATION and BANK in force: bank A with generation 0 where no copy is valid. -/
def commitOf (dict : Bool) (v : Vector Nat 2) : Nat × Nat :=
  match bestCopy dict v with
  | some c => (field c 0 24, field c 24 8)
  | none => (0, 0)

/-- Both copies made to match at BOOT. -/
def matchCopies (dict : Bool) (v : Vector Nat 2) : Vector Nat 2 :=
  match bestCopy dict v with
  | some c => #v[c, c]
  | none => v

/-- The NV store changed. -/
def State.modNv (s : State) (f : NvSt → NvSt) : State := { s with nv := f s.nv }

/-- The dictionary's commit word written: GENERATION + 1 and a bank, copy A then B. -/
def State.commitDict (s : State) (bank : Nat) : State :=
  let g := ((commitOf true s.nv.commit).1 + 1) % 2 ^ 24
  let c := commitWord g bank
  (s.modNv fun n => { n with commit := #v[c, c] }).wrAll [(0xE00103, bank), (0xE00104, g)]

/-! ### STORE, DEFAULTS and restoring (spec/19 R616 to R620) -/

/-- The map row of a key. -/
def rowOf (key : Nat) : Option Sub := (familyOf (key / 256)).bind fun f => subOf f (key % 256)

/-- Whether a value lies in its row's range (spec/00 R9, R11; spec/20 R642). -/
def Sub.accepts (e : Sub) (v : Nat) : Bool :=
  match e.kind with
  | .uint => e.min ≤ v && v ≤ e.max
  | .f32 => fmt32.finite v && fmt32.le e.min v && fmt32.le v e.max
  | _ => true

/-- The bytes of one entry: INDEX, SUB, SIZE, and the value padded with zeros to a multiple of 4 bytes (R617). -/
def entryBytes (key size value : Nat) : Bytes :=
  natLe 2 (key / 256) ++ natLe 1 (key % 256) ++ natLe 1 size ++ natLe ((size + 3) / 4 * 4) value

/-- A dictionary image: GENERATION, ENTRIES, BYTES, a CRC-32C over what follows, and one entry for every RWN object, by ascending index, then unit, then subindex (R617, spec/20 R644). -/
def State.imageOf (s : State) (gen : Nat) : Bytes :=
  let body := rwnKeys.flatMap fun k => entryBytes k.1 k.2 (s.rd k.1)
  natLe 4 gen ++ natLe 4 rwnKeys.length ++ natLe 4 (16 + body.length) ++ natLe 4 (crc32c body) ++ body

/-- Whether a bank holds a whole image whose CRC-32C passes (R616, R619). -/
def imageOk (b : Bytes) : Bool :=
  let n := leAt b 8 4
  16 ≤ n && n ≤ b.length && crc32c ((b.take n).drop 16) == leAt b 12 4

/-- The entries of an image: key, SIZE and value, at most `n` of them. -/
def entriesOf : Nat → Bytes → List (Nat × Nat × Nat)
  | 0, _ => []
  | n + 1, b =>
    if b.length < 4 then []
    else
      let size := byteAt b 3
      (leAt b 0 2 * 256 + byteAt b 2, size, leAt b 4 size) :: entriesOf n (b.drop (4 + (size + 3) / 4 * 4))

/-- The entries of a bank's image. -/
def imageEntries (b : Bytes) : List (Nat × Nat × Nat) := entriesOf (leAt b 4 4) ((b.take (leAt b 8 4)).drop 16)

/-! ### The port (R612, R614) -/

/-- An install or maintenance job changed. -/
def State.modJobs (s : State) (f : JobSt → JobSt) : State := { s with jobs := f s.jobs }

/-- The firmware bank the device does not run. -/
def State.idleBank (s : State) : Fin 2 := if s.jobs.install.active = 0 then 1 else 0

/-- Whether a write that waits is the firmware's. -/
def NvJob.isFw (j : NvJob) : Bool :=
  match j with
  | .oem _ _ => false
  | _ => true

/-- Whether a user of the port that goes before rank r has it: 0 lockout records, 1 STORE, 2 firmware, 3 OEM writes, 4 NV_SCRUB. -/
def State.portTaken (s : State) (r : Nat) : Bool :=
  (0 < r && anyOf s.thermal.lockouts fun l => l.writing) || (1 < r && s.jobs.store.isSome) ||
    (2 < r && s.jobs.waiting.any NvJob.isFw) || (3 < r && !s.jobs.waiting.isEmpty)

/-- A write takes effect. -/
def State.portWrite (s : State) (j : NvJob) : State :=
  match j with
  | .invalidate => s.modNv fun n => { n with fw := upd n.fw s.idleBank fun _ => ⟨1, []⟩ }
  | .stage d =>
    let s1 := s.modNv fun n => { n with fw := upd n.fw s.idleBank fun x => { x with image := x.image ++ d } }
    s1.wr 0xE01104 s1.nv.fw[s.idleBank].image.length
  | .oem off d => s.modNv fun n => { n with oem := memWriteBytes off d n.oem }

/-- A write of firmware or OEM words: at once where no user before it has the port, else it waits and resumes when that user is done. -/
def State.portRequest (s : State) (j : NvJob) : State :=
  if s.portTaken (if j.isFw then 2 else 3) || s.jobs.waiting.any (fun x => x.isFw == j.isFw) then
    s.modJobs fun x => { x with waiting := x.waiting ++ [j] }
  else s.portWrite j

/-- The port is free of its first two users: what waits is written, firmware before OEM words. -/
def State.portServe (s : State) : State :=
  if s.portTaken 2 then s
  else
    let w := s.jobs.waiting
    (w.filter NvJob.isFw ++ w.filter fun j => !j.isFw).foldl (fun a j => a.portWrite j)
      (s.modJobs fun x => { x with waiting := [] })

/-- STORE accepted: the image as of now, to the bank the commit word does not name, bank A where it names 0xFF. -/
def State.storeStart (s : State) : State :=
  let (g, b) := commitOf true s.nv.commit
  let bank : Fin 2 := if b = 0 then 1 else 0
  let s1 := s.modJobs fun x => { x with store := some ⟨s.imageOf ((g + 1) % 2 ^ 24), bank, s.tick⟩, copyB := none }
  (s1.modNv fun n => { n with dict := n.dict.set bank [] }).wrBit 0xE00101 0 true

/-- A STORE ends without a commit. -/
def State.storeEnds (s : State) (result : Nat) : State :=
  ((s.modJobs fun x => { x with store := none }).wrBit 0xE00101 0 false).wr 0xE00102 result

/-- The tick before which a STORE is not complete: 0.82 to 1.67 times 3.2 µs, 2.5 µs a word and 5.6 µs for each copy of the commit word after its acceptance, a free value (R616, spec/03 R59; log entry 151). -/
def State.storeTick (s : State) (j : StoreSt) : Nat × State :=
  let t := 9000 + ceilDiv (ceilDiv j.image.length 8 * 3125) 2
  let (d, s) := s.freeIn (ceilDiv (82 * t) 100) (167 * t / 100)
  (j.since + d, s)

/-- The image is written; it is verified and committed, or the STORE fails. While a lockout record is being written the STORE is paused, and its end waits (R614). Copy B follows copy A by 5.6 µs (R616; log entry 136). -/
def State.storeDone (s : State) (ok : Bool) : State :=
  match s.jobs.store with
  | none => s
  | some j =>
    if s.portTaken 1 then s
    else if ok then
      let (t, s) := s.storeTick j
      let s := s.advanceTo t
      let s1 := s.modNv fun n => { n with dict := n.dict.set j.bank j.image }
      (((s1.commitDict j.bank.val).storeEnds 1).wrAll
        [(0xE00105, j.image.length), (0xE00107, (s.tick - j.since) / 625)]).modJobs fun x =>
          { x with copyB := some (s.tick + 3500) }
    else (s.storeEnds 2).raise 119

/-- Whether the last STORE has committed and is still at copy B of the commit word (spec/04 R118). -/
def State.storeCommitting (s : State) : Bool :=
  match s.jobs.copyB with
  | some t => s.tick < t
  | none => false

/-- DEFAULTS: the commit word names no bank. -/
def State.storeDefaults (s : State) : State := s.commitDict 0xFF

/-- The image of a bank where its CRC-32C passes. -/
def State.goodBank (s : State) (b : Fin 2) : Option Bytes :=
  if imageOk s.nv.dict[b] then some s.nv.dict[b] else none

/-! ### OEM area (spec/19 R633) -/

/-- A write of DATA at OFFSET. -/
def State.oemWrite (s : State) (data : Bytes) : State := s.portRequest (.oem (s.rd 0xE00201) data)

/-- Whether a write of DATA is accepted: whole words, not past the area's end. -/
def State.oemFits (s : State) (n : Nat) : Bool := n % 8 == 0 && s.rd 0xE00201 + n ≤ 65536

/-- A read of DATA: from OFFSET, 4,096 bytes at most, to the area's end (log entry 13). -/
def State.oemRead (s : State) : Bytes :=
  let off := s.rd 0xE00201
  memReadBytes s.nv.oem off (min 4096 (65536 - off))

/-! ### Firmware (spec/19 R621 to R627) -/

/-- PHASE and RESULT. -/
def State.fwPhase (s : State) : Nat := s.rd 0xE01102

/-- VERSION of a bank's image; the delivered image's bytes are not in the spec (log entry 10). -/
def FwBank.version (b : FwBank) : Nat :=
  if b.image.isEmpty then Config.deliveredVersion.toNat else leAt b.image 8 4

/-- Whether an image's DIGEST matches its body. -/
def digestOk (img : Bytes) : Bool :=
  let len := leAt img 16 4
  sha256 ((img.take (len - 64)).drop 128) == (img.drop 20).take 32

/-- Whether a bank is valid: its state word is VALID and its DIGEST matches (R622). -/
def FwBank.valid (b : FwBank) : Bool := b.state == 2 && (b.image.isEmpty || digestOk b.image)

/-- MIN_VERSION: the larger of the valid copies (R613). -/
def State.minVersion (s : State) : Nat :=
  let one (c : Nat) : Nat := if c / 2 ^ 32 == 2 ^ 32 - 1 - c % 2 ^ 32 then c % 2 ^ 32 else 0
  max (one s.nv.minVersion[0]) (one s.nv.minVersion[1])

/-- The idle bank changed; PHASE and RESULT; an install job changed. -/
def State.modIdle (s : State) (f : FwBank → FwBank) : State :=
  s.modNv fun n => { n with fw := upd n.fw s.idleBank f }
def State.fwState (s : State) (phase result : Nat) : State := s.wrAll [(0xE01102, phase), (0xE01103, result)]
def State.modInstall (s : State) (f : InstallSt → InstallSt) : State :=
  { s with jobs := { s.jobs with install := f s.jobs.install } }

/-- The firmware's writes that wait are dropped. -/
def State.fwDrop (s : State) : State :=
  (s.modJobs fun x => { x with waiting := x.waiting.filter fun j => !j.isFw }).modInstall fun j =>
    { j with staged := none }

/-- A BLOCK_WRITE of IMAGE accepted: the idle bank INVALID before any segment is taken, STAGING (R623). -/
def State.fwStage (s : State) (size : Nat) : State :=
  (((s.fwDrop.portRequest .invalidate).wr 0xE01102 1).wr 0xE01104 0).modInstall fun j =>
    { j with size := size, waitAt := none, reply := none }

/-- Bytes of a segment for the idle bank. -/
def State.fwBytes (s : State) (d : Bytes) : State := s.portRequest (.stage d)

/-- Bytes of the staged image so far, those that wait for the port among them. -/
def State.stagedLength (s : State) : Nat :=
  if s.jobs.waiting.contains .invalidate then
    s.jobs.waiting.foldl (fun a j => match j with
      | .stage d => a + d.length
      | _ => a) 0
  else
    s.jobs.waiting.foldl (fun a j => match j with
      | .stage d => a + d.length
      | _ => a) s.nv.fw[s.idleBank].image.length

/-- The install fails with a RESULT; the staged bank is INVALID. -/
def State.fwFail (s : State) (result : Nat) : State :=
  ((s.fwDrop.modIdle fun b => { b with state := 1 }).fwState 6 result).modInstall fun j => { j with waitAt := none }

/-- The last segment is written: STAGED, or FAILED with RESULT 10 where the words written do not verify, which is a free value; the STATUS of the block write (R623, R627; log entry 162). -/
def State.fwStaged (s : State) : Nat × State :=
  if s.fwPhase = 1 then
    let (f, s1) := s.freeVal
    if f % 2 = 0 then (0, s1.wr 0xE01102 2) else (11, s1.fwFail 10)
  else (0, s)

/-- The checks in order: RESULT of the first that fails, 1 where all pass (R624). -/
def State.fwTest (s : State) : Nat :=
  let img := s.nv.fw[s.idleBank].image
  let len := leAt img 16 4
  let sig := img.drop (len - 64)
  if leAt img 0 2 != 1 || len != img.length || len != s.jobs.install.size || len < 256 || len > 131064 then 3
  else if leAt img 2 2 != 0x2606 || byteAt img 4 > 0xB1 then 4
  else if !digestOk img then 5
  else if byteAt img 5 > 3 ||
    !Config.signatureOk (byteAt img 5) (leNat (sha256 (img.take 128))) (leAt sig 0 32) (leAt sig 32 32) then 6
  else if leAt img 8 4 < s.minVersion then 7
  else 1

/-- The typical ticks that the checks take up to the one that gives a RESULT: 1.2 µs for each 64 bytes of the digest, 7.5 ms for the signature (R624). -/
def State.checkTicks (s : State) (result : Nat) : Nat :=
  let digest := ceilDiv s.nv.fw[s.idleBank].image.length 64 * 750
  if result = 3 || result = 4 then 0 else if result = 5 then digest else digest + 4687500

/-- The checks end, their time between 0.82 and 1.67 times the typical, a free value (R624, spec/03 R59; log entry 151). -/
def State.fwChecked (s : State) : State :=
  if s.fwPhase != 3 then s
  else
    let r := s.fwTest
    let t := s.checkTicks r
    let (d, s) := s.freeIn (ceilDiv (82 * t) 100) (167 * t / 100)
    let s := s.advanceTo (s.jobs.install.checkAt + d)
    if r = 1 then (s.modIdle fun b => { b with state := 2 }).fwState 4 1
    else (s.fwFail r).raise 121

/-- CMD 2 in VERIFIED: ACTIVATING until ACTIVATE_WAIT has passed. -/
def State.fwActivate (s : State) (reply : Option Nat) : State :=
  (s.wr 0xE01102 5).modInstall fun j =>
    { j with waitAt := some (s.tick + msTicks (s.rd 0xE01105)), reply := reply }

/-- The select word names the staged bank, MIN_VERSION rises to FLOOR; the bank is run from the reset that follows (R625). -/
def State.fwSwitch (s : State) : State :=
  let b := s.idleBank
  let g := ((commitOf false s.nv.select).1 + 1) % 2 ^ 24
  let c := commitWord g b.val
  let floor := leAt s.nv.fw[b].image 12 4
  let m := max floor s.minVersion
  let w := m + (2 ^ 32 - 1 - m) * 2 ^ 32
  let s1 := s.modNv fun n =>
    { n with select := #v[c, c], minVersion := if floor > s.minVersion then #v[w, w] else n.minVersion }
  s1.modInstall fun j => { j with waitAt := none, switched := true }

/-- Firmware selection at BOOT: the bank the select word names, else the other with BOOT_FALLBACK, else the boot loader; source 120 (spec/04 R102). -/
def State.selectBank (s : State) : State :=
  let named : Fin 2 := if (commitOf false s.nv.select).2 = 1 then 1 else 0
  let other : Fin 2 := if named = 0 then 1 else 0
  let s1 := s.modNv fun n => { n with select := matchCopies false n.select }
  let run (a : State) (b : Fin 2) : State := a.modInstall fun j => { j with active := b }
  if s1.nv.fw[named].valid then run s1 named
  else if s1.nv.fw[other].valid then ((run s1 other).wrBit kFlags 4 true).raise 120
  else { (run s1 named).raise 120 with power := { s1.power with bootLoader := true } }

/-- A Supervisor-only restart reloads the active bank, or the other where that one fails its digest check, with source 120; whether a bank was loaded (spec/04 R99, R102; log entry 137). -/
def State.reloadBank (s : State) : Bool × State :=
  if s.nv.fw[s.jobs.install.active].valid then (true, s)
  else if s.nv.fw[s.idleBank].valid then
    (true, ((s.modInstall fun j => { j with active := s.idleBank }).wrBit kFlags 4 true).raise 120)
  else (false, s.raise 120)

/-- What a reset leaves of an install and of writes that waited: with no verified bank pending the phase is IDLE; once the select word names the staged bank, that bank is the active one, IDLE with RESULT 2 (R623, R625 to R627). -/
def State.fwReset (s : State) (phase : Nat) : State :=
  let done := s.jobs.install.switched
  let active := if done then s.idleBank else s.jobs.install.active
  let s := (s.modJobs fun x => { x with waiting := [] }).modInstall fun j =>
    { j with staged := none, switched := false, active := active }
  if done then s.fwState 0 2
  else if phase = 1 || phase = 2 || phase = 3 then (s.modIdle fun b => { b with state := 1 }).fwState 0 11
  else if phase = 4 || phase = 5 then s.wr 0xE01102 4
  else if phase = 6 then s.fwState 0 0
  else s

end Sys2Proof.Machine
end

