-- ==== Sys2Proof/Machine/CanObj.lean ====
section
/-! DEFINITION. The objects of the CAN controllers by name, the message objects, and how the Supervisor sets up the system objects (spec/16 R518, R519, R539 to R544; spec/17 R546, R548). -/

namespace Sys2Proof.Machine

/-! ### Names -/

/-- Subindex i of CAN_TIMING, TX_TIMESTAMPS and ERROR_COUNTERS of controller u (spec/16 R539, R543, R544). -/
def kTiming (u i : Nat) : Nat := unitKey 0xC00000 u + i
def kStamps (u i : Nat) : Nat := unitKey 0xC02000 u + i
def kErr (u i : Nat) : Nat := unitKey 0xC03000 u + i

/-- One controller changed. -/
def State.modCan (s : State) (u : Fin 2) (f : CanSt → CanSt) : State := { s with can := upd s.can u f }

/-- The other controller. -/
def otherCan (u : Fin 2) : Fin 2 := ⟨1 - u.val, by omega⟩

/-- Object n (1 to 100) of a controller. -/
def objIx (n : Nat) : Fin 100 := ⟨(n - 1) % 100, by omega⟩
def State.msg (s : State) (u : Fin 2) (n : Nat) : MsgObj := s.can[u].msg[objIx n]
def State.modMsg (s : State) (u : Fin 2) (n : Nat) (f : MsgObj → MsgObj) : State :=
  s.modCan u fun c => { c with msg := upd c.msg (objIx n) f }

/-- NODE_BASE as the committed dictionary holds it (spec/19 R615). -/
def State.storedBase (s : State) : Nat :=
  let b : Fin 2 := if (commitOf true s.nv.commit).2 = 0 then 0 else 1
  match s.goodBank b with
  | some d =>
    if (commitOf true s.nv.commit).2 = 0xFF then objDefault 0xC04001
    else (((imageEntries d).find? fun e => e.1 == 0xC04001).map (·.2.2)).getD (objDefault 0xC04001)
  | none => objDefault 0xC04001

/-- The node that the device answers at; the boot loader's from the last position at which HATCH completed, 0x7E where none is kept (spec/17 R546, R572). -/
def State.node (s : State) : Nat :=
  if !s.power.bootLoader then s.rd kNodeId
  else
    let p := s.nv.lastPos % 2 ^ 32
    if s.nv.lastPos / 2 ^ 32 == 2 ^ 32 - 1 - p && p ≤ 31 then s.storedBase + p else 0x7E

/-- IDENT, MASK and whether system object n is a transmit object; none where the node or the role leaves it invalid (spec/17 R548). -/
def State.systemObj (s : State) (n : Nat) : Option (Nat × Nat × Bool) :=
  let node := s.node
  let own (f : Nat) (tx : Bool) := if node = 0 then none else some (f * 128 + node, 0x200007FF, tx)
  let all_ (f : Nat) := some (f * 128, 0x200007FF, false)
  let any_ (f : Nat) := if s.manager then some (f * 128, 0x20000780, false) else none
  match n with
  | 1 => own 0 false | 2 => all_ 0 | 3 => own 1 false | 4 => all_ 1 | 5 => own 3 false | 6 => all_ 3
  | 7 => own 6 false | 8 => own 6 false | 9 => own 6 false | 10 => own 6 false | 11 => all_ 6
  | 12 => own 8 false | 13 => own 8 false | 14 => own 9 false | 15 => own 10 false | 16 => all_ 10
  | 17 => any_ 6 | 18 => any_ 8 | 19 => any_ 9 | 20 => any_ 10
  | 21 => own 7 true | 22 => own 4 true | 23 => own 5 true
  | 24 => if s.manager then own 2 true else none
  | _ => none

/-- The Supervisor sets up the system objects of both controllers; a telegram that still stands PENDING in a transmit object keeps its identifier (spec/16 R519, spec/17 R546 to R548). -/
def State.setupSystem (s : State) : State :=
  forFin 2 s fun u a =>
    (List.range 24).foldl (fun b i =>
      match a.systemObj (i + 1) with
      | some (id, mask, tx) => b.modMsg u (i + 1) fun m =>
          { m with ident := if tx && bit m.ostat 0 then m.ident else id, mask := mask,
                   octrl := if tx then 0x13 else 0x11 }
      | none => b.modMsg u (i + 1) fun _ => { MsgObj.init with octrl := 0x10 }) a

end Sys2Proof.Machine
end

