-- ==== Sys2Proof/Machine/Lanes.lean ====
section
/-! DEFINITION. Lane bring-up, HATCH and enumeration (spec/13). -/

namespace Sys2Proof.Machine

/-! ### PSEL_N (spec/15 R498) -/

/-- Whether the manager drives PSEL_N low. -/
def State.drivesPsel (s : State) : Bool :=
  s.manager && !s.inReset && s.dev != 0 && !s.bitAt 0xB03003 4 &&
    (s.dev == 1 || s.dev == 5 || s.lease.holdoffAt.isSome || s.rd 0xB02109 == 1)

/-- The manager's LEASE frame with ACTION 0 on each offered path (spec/15 R494, R495). -/
def State.offerLease (s : State) : State :=
  forFin 2 s fun q a =>
    if a.bitAt 0xB02108 q.val then
      a.sendOn 7 q false 0xFF (natLe 1 0 ++ natLe 3 q.val ++ natLe 4 (a.rd 0xB02101))
    else a

/-- PSEL_DRIVEN brought up to date; its release is followed by LEASE frames (spec/15 R495, R498). -/
def State.updPsel (s : State) : State :=
  let was := s.bitAt 0xB02003 1
  let s1 := s.wrBit 0xB02003 1 s.drivesPsel
  if was && !s.drivesPsel then
    { s1 with lease := { s1.lease with lowAt := s1.lease.lowAt.map fun _ => s1.tick } }.offerLease
  else s1

/-! ### Entry into HATCH (spec/13 R428, R430, R437, R438, R440, R444) -/

/-- A lane at the start of HATCH: OFF, or at G0 awaiting lock or alignment; an X lane UP at G0 stays UP. -/
def State.startLane (s : State) (i : Lane) : State :=
  if !s.laneEnabled i then (s.setLane i 0).wr (kLane i 3) 0
  else if s.laneUp i && s.laneRate i == 0 then s
  else
    let s1 := s.wr (kLane i 3) 0
    let p := 1 + (lanePath i).val
    if !s1.bitAt (kPllStatus p) 0 then s1.setLane i 5
    else s1.setLane i (if s1.bitAt (kLane i 2) 0 then 1 else 2)

/-- A run of four WAKE blocks on XD while it is UP (spec/13 R427, R437). -/
def State.wakeRun (s : State) : State :=
  if s.laneUp 1 then s.putLine 1 (List.replicate 4 (plainBlock 0x5A)) else s

/-- The device enters HATCH; from COCOON it wakes the next device at once (spec/13 R428, R437). -/
def State.enterHatch (s : State) (fromCocoon : Bool) : State :=
  let cfg : Vector Nat 6 := Vector.ofFn fun j => s.rd (0xB00001 + j.val)
  let t := s.tick
  let wasG0 (q : Path) := s.rd (kPll (q.val + 1) + 1) == 0
  let s1 := s.enterDev 1
  let s2 := { s1 with hatch :=
    { HatchSt.init t with
        cfg := cfg, enumAt := if s.manager then some (t + msTicks cfg[(2 : Fin 6)]) else none,
        wakeUntil := if fromCocoon then some (t + msTicks 10) else none,
        wakeAt := if fromCocoon then some t else none } }
  let s3 := (s2.wr 0xB03003 (s2.rd 0xB03003 &&& 0x30)).wr 0xB0300A 0
  let s4 := forFin 2 s3 fun q a =>
    let a := a.modPath q fun p =>
      { p with rateFixed := false, changing := false, stepDue := none, stepLimit := none, cap := 2,
               failed := none, checking := false, assigned := false, joining := false,
               scan := if a.manager then none else some 0,
               dwell := if a.manager then none else some (t + msTicks cfg[(5 : Fin 6)]) }
    let a := if wasG0 q && !(fromCocoon && q = 1) then a else a.restartPath q 0
    let a := a.modPath q fun p => { p with kept := a.laneUp (uLane q) }
    (a.startLane (uLane q)).startLane (dLane q)
  let s4 := if fromCocoon then s4.wakeRun else s4
  let s5 := forFin 28 s4 fun n a => a.modSensor n fun x => { x with due := none, waiting := false, value := none }
  s5.reschedule.updPsel

/-! ### ENUM frames (spec/13 R429) -/

/-- What an ENUM payload says. -/
structure Enum where
  sub : Nat
  count : Nat
  rate : Nat
  ssc : Bool
  ovf : Bool
  countY : Nat

/-- Reading an ENUM payload. -/
def readEnum (b : Bytes) : Enum :=
  ⟨byteAt b 0, byteAt b 1, byteAt b 2, bit (byteAt b 3) 0, bit (byteAt b 3) 2, byteAt b 4⟩

/-- The payload of an ENUM frame that this device builds for a path. -/
def State.enumBytes (s : State) (q : Path) (m : Enum) : Bytes :=
  let fl := maskOf 3 fun i => if i = 0 then m.ssc else if i = 1 then q == 1 else m.ovf
  natLe 1 m.sub ++ natLe 1 m.count ++ natLe 1 m.rate ++ natLe 1 fl ++ natLe 4 m.countY ++
    natLe 8 (s.rd 0x000004)

/-- An ENUM frame one hop down, and one to position 0. -/
def State.enumDown (s : State) (q : Path) (m : Enum) : State := s.sendOn 0x0B q false 0xFF (s.enumBytes q m)
def State.enumUp (s : State) (q : Path) (m : Enum) : State := s.sendOn 0x0B q true 0 (s.enumBytes q m)

/-- This device's RATE_MAX as taken at HATCH, and whether its path PLL spreads (spec/13 R417, R430). -/
def State.rateMax (s : State) : Nat := s.hatch.cfg[(1 : Fin 6)]
def State.ownSsc (s : State) (q : Path) : Bool := s.rd (kPll (q.val + 1) + 2) != 0

/-- The manager's ASSIGN or CHECK on a path. -/
def State.assignFromManager (s : State) (q : Path) (sub : Nat) : State :=
  s.enumDown q ⟨sub, 1, s.rateMax, s.ownSsc q, false, 0⟩

/-- The scan of a path ends: its lanes' sources follow their conditions again (spec/13 R424, R438). -/
def State.endScan (s : State) (q : Path) : State :=
  if s.paths[q].scan.isNone && s.paths[q].dwell.isNone then s
  else
    let a := s.modPath q fun p => { p with scan := none, dwell := none }
    (a.laneSources (uLane q)).laneSources (dLane q)

/-- HATCH is complete in this device (spec/13 R434, spec/14 R456, spec/15 R498). -/
def State.completeHatch (s : State) : State :=
  if s.dev != 1 then s
  else
    let pos := (s.posOn 0).getD 0xFF
    let s1 := s.wrAll [(kPosition, pos), (0xB0300A, (s.tick - s.hatch.since) / 625)]
    let s2 := s1.wrBit 0xB03003 2 true
    let hold := if s.manager then some (s.tick + msTicks (s.rd 0xB0210A)) else none
    let s3 := { s2 with
      frames := { s2.frames with rxSeq := [] },
      hatch := { s2.hatch with enumAt := none, yWaitAt := none },
      lease := { s2.lease with holdoffAt := hold } }
    let s4 := forFin 2 s3 fun q a => (a.endScan q).modPath q fun p =>
      { p with beaconAt := s.tick, echoAt := s.tick }
    let s5 := { s4 with
      time := { s4.time with integral := Vector.replicate 32 0, exchAt := s.tick }
      nv := { s4.nv with lastPos := pos + (2 ^ 32 - 1 - pos) * 2 ^ 32 }
      capture := { s4.capture with calPhase := if s.manager && s.rd 0xD04104 == 1 then 1 else 0 } }
    let s6 := s5.wr kNodeId (if pos = 0xFF then 0 else s5.rd 0xC04001 + pos)
    s6.setupSystem.hatchEnds.updPsel

/-- The manager ends enumeration: DONE on both paths, and HATCH is complete (spec/13 R434). -/
def State.finishEnum (s : State) : State :=
  let cy := if s.bitAt 0xB03003 1 then s.rd 0xB03005 else 0
  let s1 := forFin 2 s fun q a =>
    let b := a.enumDown q ⟨4, a.rd 0xB03004, a.rd (kPathRate q), a.bitAt 0xB03003 (8 + q.val), false, cy⟩
    b.modPath q fun p => { p with rateFixed := true }
  s1.completeHatch

/-- After a path is enumerated: DONE once X and Y are, or X is and HATCH_Y_WAIT has passed (spec/13 R434). -/
def State.afterEnumerated (s : State) : State :=
  if s.bitAt 0xB03003 0 then
    if s.bitAt 0xB03003 1 then s.finishEnum
    else if s.hatch.yWaitAt.isSome then s
    else { s with hatch := { s.hatch with
        yWaitAt := some (s.tick + msTicks s.hatch.cfg[(3 : Fin 6)]) } }
  else s

/-- LOS or LOL has been declared on a lane that was UP or not: on a U lane its path gives the lease up, and one that was UP lets its path fall back before DONE (spec/13 R425, R432; spec/15 R486, R493). -/
def State.laneLost (s : State) (i : Lane) (up : Bool) (cause : Nat) : State :=
  let q := lanePath i
  let s1 := if isD i then s else (s.releaseOn q cause).updRevert
  if up then s1.hatchFalls q else s1

/-! ### Loss and alignment (spec/13 R418 to R426) -/

/-- Whether a lane's receiver is in use: it is not OFF. -/
def State.laneOn (s : State) (i : Lane) : Bool := s.laneState i != 0

/-- LOS declared on a lane: an amplitude below 80 mV for 256 ns (spec/13 R423). -/
def State.los (s : State) (i : Lane) (peak ticks : Nat) : State :=
  if !s.laneOn i || s.bitAt (kLane i 2) 0 || 80 ≤ peak || ticks < 160 then s
  else
    let up := s.laneUp i
    let s1 := s.count (kLane i 8)
    let fl := s1.rd (kLane i 2)
    let fl := setBit (setBit (setBit (setBit fl 0 true) 1 false) 2 false) 5 false
    let s2 := s1.wr (kLane i 2) fl
    let s3 := if s2.laneState i == 5 then s2.laneSources i else s2.setLane i 1
    s3.laneLost i up 1

/-- LOS clears after 10 µs continuously above 150 mV: a DARK lane begins to align (spec/13 R423, R426). -/
def State.losEnds (s : State) (i : Lane) (least ticks : Nat) : State :=
  if !s.laneOn i || !s.bitAt (kLane i 2) 0 || least ≤ 150 || ticks < 6250 then s
  else
    let s1 := s.wrBit (kLane i 2) 0 false
    if s1.laneState i == 1 then s1.setLane i 2 else s1.laneSources i

/-- The invalid ones among 64 sync headers (spec/13 R415). -/
def badHeaders (w : BitVec 128) : Nat :=
  ((List.range 64).filter fun j => field w.toNat (2 * j) 2 == 0 || field w.toNat (2 * j) 2 == 3).length

/-- The fill of a lane's elastic buffer after its clocks have drifted by a number of blocks, in two's complement; between 0 and 32 (spec/13 R421). -/
def State.fillAt (s : State) (i : Lane) (drift : Byte) : Nat :=
  (clampInt 0 32 (s.lanes[i].fill + toSigned 8 drift.toNat)).toNat

/-- Whether what happened on a lane is a loss of lock: the CDR out of lock; of an aligned lane at G0, 4 code violations in 16 characters; at G1 and G2, 16 invalid headers in 64 blocks; a fill of 0 or 32 (spec/13 R418, R420, R421, R423). -/
def State.isLol (s : State) (i : Lane) : LolEvidence → Bool
  | .cdr => true
  | .violations w => s.bitAt (kLane i 2) 3 && s.laneRate i == 0 && 4 ≤ popCount 16 w.toNat
  | .headers w => s.bitAt (kLane i 2) 3 && s.laneRate i != 0 && 16 ≤ badHeaders w
  | .elastic drift => s.bitAt (kLane i 2) 3 && (s.fillAt i drift = 0 || s.fillAt i drift = 32)

/-- LOL declared: an UP lane goes to ALIGN; not declared while LOS holds; a frame that an elastic error breaks fails its CRC (spec/13 R421, R423, R425). -/
def State.lol (s : State) (i : Lane) (why : LolEvidence) : State :=
  if !s.laneOn i || s.bitAt (kLane i 2) 0 || !s.isLol i why then s
  else
    let up := s.laneUp i
    let s1 := (s.count (kLane i 9)).wrBit (kLane i 2) 1 true
    let s2 := match why with
      | .elastic _ =>
        let broken := if s1.lanes[i].rx.isEmpty then 0 else 1
        ((s1.wrBit (kLane i 2) 7 true).count 0xB00503 broken).modLane i fun l => { l with rx := [] }
      | .cdr => s1.wrBit (kLane i 2) 2 false
      | .violations w => s1.codeErrorsOn i (popCount 16 w.toNat)
      | .headers w => s1.codeErrorsOn i (badHeaders w)
    let s4 := if s2.laneState i == 5 then s2.laneSources i else s2.setLane i 2
    s4.laneLost i up 2

/-- A lane is aligned: TRAIN blocks are exchanged; the fill at which its elastic buffer begins to read is a free value above that at which it inserts (spec/13 R418, R419, R421, R426; log entry 174). -/
def State.aligned (s : State) (i : Lane) : State :=
  if s.laneState i != 2 || s.bitAt (kLane i 2) 0 then s
  else
    let (n, s) := s.freeIn 13 31
    let s := s.modLane i fun l => { l with fill := n }
    ((s.wrBit (kLane i 2) 1 false).wrBit (kLane i 2) 2 true).setLane i 3

/-- A receiver that sees characters or sync headers has its CDR in lock (spec/13 R442; log entry 174). -/
def State.cdrLocked (s : State) (i : Lane) : State :=
  if s.laneState i == 2 && !s.bitAt (kLane i 2) 0 then s.wrBit (kLane i 2) 2 true else s

/-- Comma alignment at G0: 3 K28.5 characters at one boundary within 24 characters (spec/13 R418). -/
def State.commaAlign (s : State) (i : Lane) (commas : Nat) : State :=
  if s.laneRate i != 0 then s
  else if 3 ≤ popCount 24 commas then s.aligned i
  else s.cdrLocked i

/-- The slip search: 64 block periods and 0.82 to 1.67 times 3.0 µs, 5.0 µs at most, a free value, after the last position, 64 valid headers give block lock, and any other position slips once; it waits for the Supervisor (spec/03 R59, spec/13 R419, R420). -/
def State.slipTest (s : State) (i : Lane) (headers : BitVec 128) : State :=
  if s.laneState i != 2 || s.bitAt (kLane i 2) 0 || s.laneRate i == 0 || !s.power.supervisor then s
  else
    let (d, s) := s.freeIn 1538 3125
    let s := (s.advanceTo (s.lanes[i].slipAt + 64 * blockTicks (s.laneRate i) + d))
    let s := s.modLane i fun l => { l with slipAt := s.tick }
    if badHeaders headers = 0 then s.aligned i
    else (s.cdrLocked i).wr (kLane i 4) ((s.rd (kLane i 4) + 1) % 66)

/-! ### Training (spec/13 R417, R424, R427, R432, R433, R438, R439) -/

/-- Whether every lane of a path that the step must bring UP is UP. -/
def State.stepUpDone (s : State) (q : Path) : Bool :=
  (!bit s.paths[q].stepUp 0 || s.laneUp (uLane q)) && (!bit s.paths[q].stepUp 1 || s.laneUp (dLane q))

/-- A lane has reached UP: the step's time-out and the scan end, the manager goes on with enumeration, a running device serves a joiner. -/
def State.reachedUp (s : State) (i : Lane) : State :=
  let q := lanePath i
  let p := s.paths[q]
  let s := if isD i == s.manager then s.healthUnknown q else s
  let s1 := if s.stepUpDone q then
      let a := s.modPath q fun p => { p with stepLimit := none, changing := false }
      (a.laneSources (uLane q)).laneSources (dLane q)
    else s
  let s2 := if isD i then s1 else (s1.endScan q).modPath q fun p => { p with kept := false }
  if !isD i then s2
  else if s2.dev == 1 then
    if !s2.manager || s2.bitAt 0xB03003 4 then s2
    else
      match p.failed with
      | some r =>
        let s3 := s2.wrBit 0xB03003 (8 - r) true
        (s3.modPath q fun p => { p with failed := none, cap := r - 1 }).assignFromManager q 0
      | none =>
        if s2.laneRate i != 0 && !p.checking then
          (s2.modPath q fun p => { p with checking := true }).assignFromManager q 3
        else s2
  else if s2.rd (kLane i 6) == 0xFF && s2.dev != 0 then
    match s2.posOn q with
    | some n => s2.enumDown q ⟨0, n + 1, s2.rd (kPathRate q), s2.bitAt 0xB03003 (8 + q.val), false, 0⟩
    | none => s2
  else s2

/-- A block that a lane takes: as it reads, or none and its code errors counted (spec/13 R416, R441). -/
def State.blockIn (s : State) (i : Lane) (x : LineBlock) : Option Block × State :=
  let r := s.laneRate i
  (readBlock r x, s.codeErrorsOn i (codeErrors r x))

/-- A training record (spec/13 R417, R427, R435). -/
def State.train (s : State) (i : Lane) (tflags position : Nat) (uid : Nat) : State :=
  if s.laneState i != 3 then s
  else
    let tflags := tflags % 128
    let good := bit tflags 5 == (i.val / 2 == 1) && bit tflags 6 != isD i
    if good then
      let s1 := s.wrAll [(kLane i 5, tflags), (kLane i 6, position), (kLane i 7, uid)]
      let s2 := if bit tflags 3 && isD i && !s.manager then s1.wrBit (kLane i 2) 6 true else s1
      let s3 := s2.modLane i fun l =>
        { l with trainOk := l.trainOk + 1, trainAck := if bit tflags 4 then l.trainAck + 1 else 0,
                 trainBad := 0, ack := l.ack || l.trainOk + 1 ≥ 8 }
      if s3.lanes[i].trainAck ≥ 8 && !s3.bitAt (kLane i 2) 5 then (s3.setLane i 4).reachedUp i else s3
    else
      let s1 := s.modLane i fun l => { l with trainOk := 0, trainAck := 0, trainBad := l.trainBad + 1 }
      if s1.lanes[i].trainBad ≥ 8 then s1.wrBit (kLane i 2) 5 true else s1

/-- A block that stands where a TRAIN block is expected: FILLER breaks no run of TRAIN blocks, any other block does (spec/13 R421, R427). -/
def State.trainBlock (s : State) (i : Lane) (x : LineBlock) : State :=
  if s.laneState i != 3 then s
  else
    match s.blockIn i x with
    | (some (.control 0x4D b), s1) => s1.train i (byteAt b 0) (byteAt b 1) (leAt b 2 4)
    | (some (.control 0x2B _), s1) => s1
    | (_, s1) => s1.modLane i fun l => { l with trainOk := 0, trainAck := 0, trainBad := 0 }

/-! ### FILLER (spec/13 R421, R422) -/

/-- Whether a lane's receiver reads blocks: it is aligned. -/
def State.reads (s : State) (i : Lane) : Bool := s.laneState i == 3 || s.laneState i == 4

/-- A received FILLER block, the clocks having drifted since the last row: discarded at a fill of 16 or more, which leaves one block fewer in the buffer, else kept (spec/13 R421). -/
def State.fillerIn (s : State) (i : Lane) (drift : Byte) (x : LineBlock) : State :=
  if !s.reads i then s
  else
    let n := s.fillAt i drift
    match s.blockIn i x with
    | (some (.control 0x2B _), s1) =>
      if n ≥ 16 then (s1.modLane i fun l => { l with fill := n - 1 }).count (kLane i 0x0C)
      else s1.modLane i fun l => { l with fill := n }
    | (_, s1) => s1.modLane i fun l => { l with fill := n }

/-- The fill has fallen to 12: one FILLER block is inserted, which leaves one block more in the buffer. -/
def State.fillerFill (s : State) (i : Lane) (drift : Byte) : State :=
  if !s.reads i || s.fillAt i drift != 12 then s
  else (s.modLane i fun l => { l with fill := 13 }).count (kLane i 0x0B)

/-- Blocks between two FILLER blocks (spec/13 R422). -/
def State.cadence (s : State) (i : Lane) : Nat :=
  let q := lanePath i
  if (s.dev == 1 && !s.paths[q].rateFixed) || s.bitAt 0xB03003 (8 + q.val) then 64 else 4096

/-- The transmitter's next FILLER block, in every state in which the lane transmits (spec/13 R411, R422). -/
def State.fillerOut (s : State) (i : Lane) : State :=
  if (s.manager && !isD i) || (s.sends i).isNone then s
  else
    let s1 := s.advanceTo (s.lanes[i].fillerAt + (s.cadence i + 1) * blockTicks (s.laneRate i))
    (s1.modLane i fun l => { l with fillerAt := s1.tick }).putLine i [plainBlock 0x2B]

/-! ### Enumeration (spec/13 R430 to R435, R439) -/

/-- ENUM_DELAY after entry into HATCH the manager sends ASSIGN. -/
def State.enumDelay (s : State) : State :=
  match s.hatch.enumAt with
  | none => s
  | some t =>
    let s1 := s.advanceTo t
    let s2 := { s1 with hatch := { s1.hatch with enumAt := none } }
    if s2.dev != 1 || s2.bitAt 0xB03003 4 then s2
    else (s2.assignFromManager 0 0).assignFromManager 1 0

/-- Whether the first ASSIGN of this HATCH comes from a device that runs, over a lane at G0: a worker in HATCH shows no position in its TRAIN blocks, a record from before this HATCH says nothing; a manager's ASSIGN with RATE G0 may be either, which is a free value (spec/13 R428, R430, R439; log entry 36). -/
def State.runningPartner (s : State) (q : Path) (rate : Nat) : Bool × State :=
  let p := s.rd (kLane (uLane q) 6)
  if s.paths[q].assigned || s.paths[q].kept || p = 0xFF then (false, s)
  else if p != 0 then (true, s)
  else if rate = 0 then
    let (v, s1) := s.freeVal
    (v % 2 == 1, s1)
  else (false, s)

/-- A worker's answer to ASSIGN or CHECK, on a lane that is UP (spec/13 R425, R430, R433, R439). -/
def State.takeAssign (s : State) (q : Path) (b : Bytes) (sub : Nat) : State :=
  if s.manager || !s.laneUp (uLane q) then s
  else
    let m := readEnum b
    let (atG0, s) := if sub = 0 && s.dev == 1 && s.laneRate (uLane q) == 0 then s.runningPartner q m.rate
      else (false, s)
    let joins := sub = 0 && s.dev == 1 && (s.laneRate (uLane q) != 0 || atG0)
    let s1 := (s.endScan q).modPath q fun p => { p with assigned := true }
    let s1 := { s1 with hatch := { s1.hatch with wakeUntil := none, wakeAt := none } }
    let rate := min m.rate s1.rateMax
    let ssc := m.ssc || s1.ownSsc q
    if m.count ≥ 32 then
      (s1.wrBit 0xB03003 5 true).enumUp q ⟨1, 32, rate, ssc, true, 0⟩
    else
      let s2 := s1.wr (0xB03001 + q.val) m.count
      if joins then
        ((s2.wr (kPathRate q) m.rate).modPath q fun p => { p with joining := true }).enumUp q
        ⟨5, m.count, m.rate, ssc, false, 0⟩
      else if s2.bitAt (kLane (dLane q) 2) 6 then s2.enumUp q ⟨6, m.count + 1, rate, ssc, false, 0⟩
      else if s2.laneUp (dLane q) then s2.enumDown q ⟨sub, m.count + 1, rate, ssc, false, 0⟩
      else s2.enumUp q ⟨1, m.count + 1, rate, ssc, false, 0⟩

/-- The manager takes END (spec/13 R431, R433). -/
def State.takeEnd (s : State) (q : Path) (b : Bytes) : State :=
  if !s.manager || s.dev != 1 || s.bitAt 0xB03003 4 || !s.laneUp (dLane q) then s
  else
    let m := readEnum b
    let s1 := ((s.wr (0xB03004 + q.val) m.count).wrBit 0xB03003 (8 + q.val) m.ssc)
    let s1 := if m.ovf then s1.wrBit 0xB03003 5 true else s1
    if s1.paths[q].checking then ((s1.modPath q fun p => { p with checking := false }).wrBit 0xB03003 q.val
        true).afterEnumerated
    else
      let r := min (min m.rate s1.rateMax) s1.paths[q].cap
      let s2 := s1.wr (kPathRate q) r
      if r = 0 then (s2.wrBit 0xB03003 q.val true).afterEnumerated
      else
        let s3 := s2.enumDown q ⟨2, 0, r, m.ssc, false, 0⟩
        let s4 := s3.modPath q fun p =>
          { p with changing := true, rateFixed := true, stepDue := some (s3.tick + 32 * blockTicks 0, r) }
        (s4.laneSources (uLane q)).laneSources (dLane q)

/-- A device in HATCH takes RATE_STEP: forwarded, and the step is due 32 block periods later (spec/13 R413, R431). -/
def State.takeRateStep (s : State) (q : Path) (b : Bytes) : State :=
  if s.manager || s.dev != 1 || !s.laneUp (uLane q) then s
  else
    let m := readEnum b
    let s1 := ((s.wr (kPathRate q) m.rate).wrBit 0xB03003 (8 + q.val) m.ssc).enumDown q
      ⟨2, 0, m.rate, m.ssc, false, 0⟩
    let due := s1.tick + 32 * blockTicks (s1.laneRate (uLane q))
    let s2 := s1.modPath q fun p =>
      { p with changing := true, rateFixed := true, stepDue := some (due, m.rate) }
    (s2.laneSources (uLane q)).laneSources (dLane q)

/-- The path PLL restarts at the new rate, in HATCH alone (spec/13 R413, R431, R432). -/
def State.stepPll (s : State) (q : Path) : State :=
  match s.paths[q].stepDue with
  | none => s
  | some (t, r) =>
    if s.dev != 1 then s.modPath q fun p => { p with stepDue := none }
    else
    let s1 := s.advanceTo t
    let up := maskOf 2 fun i => s1.laneUp (if i = 0 then uLane q else dLane q)
    let s2 := s1.modPath q fun p =>
      { p with stepDue := none, stepUp := up, stepLimit := some (s1.tick + msTicks s1.hatch.cfg[(4 : Fin 6)]) }
    s2.restartPath q r

/-- STEP_TIMEOUT after the restart (spec/13 R432). -/
def State.stepLate (s : State) (q : Path) : State :=
  match s.paths[q].stepLimit with
  | none => s
  | some t =>
    let s1 := (s.advanceTo t).modPath q fun p => { p with stepLimit := none }
    if s1.stepUpDone q then s1 else s1.fallBack q

/-- A worker takes DONE: forwarded; on X it ends HATCH (spec/13 R434, R439). -/
def State.takeDone (s : State) (q : Path) (b : Bytes) : State :=
  if s.manager || !s.laneUp (uLane q) then s
  else
    let m := readEnum b
    let s1 := if s.paths[q].joining then s.modPath q fun p => { p with joining := false }
      else s.enumDown q ⟨4, m.count, m.rate, m.ssc, false, m.countY⟩
    let s2 := s1.wrAll [(0xB03004, m.count), (0xB03005, m.countY), (kPathRate q, m.rate)]
    let s3 := (s2.wrBit 0xB03003 (8 + q.val) m.ssc).modPath q fun p => { p with rateFixed := true }
    if q = 0 && s3.dev == 1 && (s3.posOn 0).isSome then
      let s4 := if s3.rd 0xB03002 != s3.rd 0xB03001 then (s3.wrBit 0xB03003 3 true).raise 105 else s3
      s4.completeHatch.pathSources
    else s3

/-- DONE on both paths for a joiner, from the manager (spec/13 R434, R439). -/
def State.doneTo (s : State) (pos : Nat) : State :=
  let cy := if s.bitAt 0xB03003 1 then s.rd 0xB03005 else 0
  let s1 := { s with hatch := { s.hatch with joins := s.hatch.joins.filter fun j => j.pos != pos } }
  forFin 2 s1 fun q a =>
    a.sendOn 0x0B q false pos
      (a.enumBytes q ⟨4, a.rd 0xB03004, a.rd (kPathRate q), a.bitAt 0xB03003 (8 + q.val), false, cy⟩)

/-- HATCH_Y_WAIT passes without Y: for the manager's own HATCH, else for the joiner whose wait ends first (spec/13 R434, R439). -/
def State.yWaitEnds (s : State) : State :=
  match s.hatch.yWaitAt with
  | none =>
    let dues := s.hatch.joins.filterMap fun j => j.due
    match s.hatch.joins.find? fun j => j.due.isSome && j.due == dues.min? with
    | some j => (s.advanceTo (j.due.getD 0)).doneTo j.pos
    | none => s
  | some t =>
    let s1 := s.advanceTo t
    let s2 := { s1 with hatch := { s1.hatch with yWaitAt := none } }
    if s2.dev == 1 && s2.bitAt 0xB03003 0 && !s2.bitAt 0xB03003 4 then s2.finishEnum else s2

/-- Signal on a U lane of a manager for 1 ms within HATCH (spec/13 R435). -/
def State.conflictSeen (s : State) (ticks : Nat) : Bool := msTicks 1 ≤ min ticks (s.tick - s.hatch.since)

/-- A role conflict: the manager stays in HATCH and releases PSEL_N (spec/13 R435). -/
def State.roleConflict (s : State) (pos : Option Nat) : State :=
  if !s.manager || s.dev != 1 then s
  else
    let s1 := (s.wrBit 0xB03003 4 true)
    let s2 := match pos with
      | some p => s1.wr 0xB03008 p
      | none => s1
    { s2 with hatch := { s2.hatch with enumAt := none, yWaitAt := none } }.updPsel

/-- The manager takes JOIN: its count rises to hold the joiner, which gets a DONE of its own once it has joined X and either Y as well or HATCH_Y_WAIT has passed (spec/13 R434, R439). -/
def State.takeJoin (s : State) (q : Path) (b : Bytes) : State :=
  if !s.manager || s.dev == 1 || s.dev == 0 || !s.laneUp (dLane q) then s
  else
    let m := readEnum b
    let k := 0xB03004 + q.val
    let s1 := (s.wr k (max (s.rd k) (m.count + 1))).count 0xB03009
    let s1 := { s1 with time := { s1.time with
      integral := Vector.ofFn fun p => if p.val = m.count then 0 else s1.time.integral[p] } }
    let old := (s1.hatch.joins.find? fun j => j.pos == m.count).getD ⟨m.count, false, false, none⟩
    let x := old.x || q = 0
    let y := old.y || q = 1
    let wait := s1.tick + msTicks s1.hatch.cfg[(3 : Fin 6)]
    let new : JoinSt := ⟨m.count, x, y, if x then some (old.due.getD wait) else none⟩
    let s2 := { s1 with hatch := { s1.hatch with
      joins := (s1.hatch.joins.filter fun j => j.pos != m.count) ++ [new] } }
    if x && y then s2.doneTo m.count else s2

/-- JOIN_DWELL passes: the scan goes to its next rate, in the order G0, G2, G1 (spec/13 R438). -/
def State.dwellEnds (s : State) (q : Path) : State :=
  match s.paths[q].scan, s.paths[q].dwell with
  | some n, some t =>
    let s1 := s.advanceTo t
    if s1.dev != 1 || s1.laneUp (uLane q) then s1.endScan q
    else
      let k := (n + 1) % 3
      let s2 := s1.modPath q fun p =>
        { p with scan := some k, dwell := some (s1.tick + msTicks s1.hatch.cfg[(5 : Fin 6)]) }
      s2.restartPath q (if k = 0 then 0 else if k = 1 then 2 else 1)
  | _, _ => s

/-- The wake run is sent again on XD (spec/13 R437). -/
def State.wakeRepeat (s : State) : State :=
  match s.hatch.wakeAt, s.hatch.wakeUntil with
  | some t, some u =>
    let next := t + 625
    if next > u then
      let s1 := s.advanceTo u
      { s1 with hatch := { s1.hatch with wakeAt := none, wakeUntil := none } }
    else
      let s1 := s.advanceTo next
      { s1 with hatch := { s1.hatch with wakeAt := some next } }.wakeRun
  | _, _ => s

/-- An ENUM frame consumed on a lane that is UP (spec/13 R425, spec/14 R475). -/
def State.enumRow (s : State) (i : Lane) (act : State → State) : State :=
  if s.laneUp i then act (s.count 0xB00509) else s

/-! ### The commands -/

def execLaneLosDeclared (i : Lane) (peak : BitVec 16) (ticks : BitVec 32) (s : State) : Out :=
  .next (s.los i peak.toNat ticks.toNat)
def execLaneLosCleared (i : Lane) (least : BitVec 16) (ticks : BitVec 32) (s : State) : Out :=
  .next (s.losEnds i least.toNat ticks.toNat)
def execLaneLolDeclared (i : Lane) (why : LolEvidence) (s : State) : Out := .next (s.lol i why)
def execLaneCommaAligned (i : Lane) (commas : BitVec 24) (s : State) : Out := .next (s.commaAlign i commas.toNat)
def execSlipPositionTest (i : Lane) (headers : BitVec 128) (s : State) : Out := .next (s.slipTest i headers)
def execTrainBlockReceive (i : Lane) (block : LineBlock) (s : State) : Out := .next (s.trainBlock i block)
def execFillerBlockReceive (i : Lane) (drift : Byte) (block : LineBlock) (s : State) : Out :=
  .next (s.fillerIn i drift block)
def execFillerInsert (i : Lane) (drift : Byte) (s : State) : Out := .next (s.fillerFill i drift)
def execFillerSend (i : Lane) (s : State) : Out := .next (s.fillerOut i)
def execEnumDelayExpiry (s : State) : Out := .next s.enumDelay
def execEnumAssignReceive (q : Path) (payload : Bytes) (s : State) : Out :=
  .next (s.enumRow (uLane q) fun a => a.takeAssign q payload 0)
def execEnumEndReceive (q : Path) (payload : Bytes) (s : State) : Out :=
  .next (s.enumRow (dLane q) fun a => a.takeEnd q payload)
def execEnumRateStepReceive (q : Path) (payload : Bytes) (s : State) : Out :=
  .next (s.enumRow (uLane q) fun a => a.takeRateStep q payload)
def execRateStepPllRestart (q : Path) (s : State) : Out := .next (s.stepPll q)
def execRateStepTimeout (q : Path) (s : State) : Out := .next (s.stepLate q)
def execEnumCheckReceive (q : Path) (payload : Bytes) (s : State) : Out :=
  .next (s.enumRow (uLane q) fun a => a.takeAssign q payload 3)
def execEnumDoneReceive (q : Path) (payload : Bytes) (s : State) : Out :=
  .next (s.enumRow (uLane q) fun a => a.takeDone q payload)
def execHatchYWaitExpiry (s : State) : Out := .next s.yWaitEnds
def execEnumConflictReceive (q : Path) (payload : Bytes) (s : State) : Out :=
  .next (s.enumRow (dLane q) fun a => a.roleConflict (some (byteAt payload 1)))
def execRoleConflictDetect (ticks : BitVec 32) (s : State) : Out :=
  .next (if s.conflictSeen ticks.toNat then s.roleConflict none else s)
def execEnumJoinReceive (q : Path) (payload : Bytes) (s : State) : Out :=
  .next (s.enumRow (dLane q) fun a => a.takeJoin q payload)
def execJoinDwellExpiry (q : Path) (s : State) : Out := .next (s.dwellEnds q)
def execWakeFrameRepeat (s : State) : Out := .next s.wakeRepeat

end Sys2Proof.Machine
end

