-- ==== Sys2Proof/Machine/Trig.lean ====
section
/-! DEFINITION. Firings of capture's trigger conditions (spec/18 R582, R583). -/

namespace Sys2Proof.Machine

/-- Capture changed. -/
def State.modCapture (s : State) (f : CaptureSt → CaptureSt) : State := { s with capture := f s.capture }

/-- KIND, SOURCE, HI, LO and OPTIONS of condition k (spec/18 R605). -/
def kCond (i k : Nat) : Nat := 0xD04001 + 16 * i + k

/-- A condition fires at an instant of network time: FIRED, and a decision to come while samples are taken. -/
def State.fireCond (s : State) (k instant : Nat) : State :=
  let s1 := s.wrBit 0xD04051 k true
  if s.rd 0xD00001 == 1 then
    s1.modCapture fun c => { c with firings := c.firings ++ [⟨k, instant, s.tick⟩] }
  else s1

/-- Every condition of a kind whose SOURCE is accepted fires. -/
def State.fireKind (s : State) (kind : Nat) (accepts : Nat → Bool) (instant : Nat) : State :=
  forFin 16 s fun k a =>
    if a.rd (kCond 0 k) == kind && accepts (a.rd (kCond 1 k)) then a.fireCond k instant else a

end Sys2Proof.Machine
end

