-- ==== Sys2Proof/Machine/Time.lean ====
section
/-! DEFINITION. Network time: timestamps, increments, steps and sets, delay exchanges and the manager's servo, comparators, TSYNC (spec/14 R462 to R474). -/

namespace Sys2Proof.Machine

/-! ### Timestamps (spec/14 R450, R462) -/

/-- A 16-byte timestamp at an offset, in units of 2^-16 ns. -/
def stampAt (b : Bytes) (off : Nat) : Int :=
  (leAt b off 8 * 1000000000 + leAt b (off + 8) 4) * 65536 + leAt b (off + 12) 2

/-- A 16-byte timestamp given as a number, in units of 2^-16 ns. -/
def stampUnits (n : Nat) : Int := stampAt (natLe 16 n) 0

/-- Network time now as 16 bytes. -/
def State.stampBytes (s : State) : Bytes := natLe 16 s.stamp

/-- A signed 64-bit field at an offset. -/
def i64At (b : Bytes) (off : Nat) : Int := toSigned 64 (leAt b off 8)

/-! ### Rate, step and set (spec/14 R463, R464, R467) -/

/-- Whether a TIME_INCREMENT is accepted. -/
def incrementOk (v : Nat) : Bool := 6871947674 - 6871948 ≤ v && v ≤ 6871947674 + 6871948

/-- Network time takes a value, in units of 2^-32 ns; every NETWORK carrier keeps its local instants, so that only its commanded alignment moves. -/
def State.setNet (s : State) (u : Nat) : State :=
  let s1 := { s with net := netOf u }
  let s2 := s1.rebaseNet ((s1.netTaps : Int) - s.netTaps)
  s2.count 0xB01202

/-- A signed offset of 2^-16 ns added to network time; refused where time would become negative. -/
def State.stepNet (s : State) (d : Int) : Option State :=
  let u := (s.netUnits : Int) + d * 65536
  if u < 0 then none else some (s.setNet u.toNat)

/-- A TIME_STEP write adds its offset at the next tick; a TIME_SYNC set in that tick comes last and stands (spec/14 R463). -/
def State.hostStep (s : State) (d : Int) : Option State :=
  let s := s.advance 1
  if s.time.setAt == some s.tick then (s.stepNet d).map fun _ => s.count 0xB01202 else s.stepNet d

/-- The offset that TIME_STEP's 16 bytes spell: SECONDS I64, NS I32, FRAC U16. -/
def stepOffset (b : Bytes) : Int :=
  (toSigned 64 (leAt b 0 8) * 1000000000 + toSigned 32 (leAt b 8 4)) * 65536 + leAt b 12 2

/-- Whether this device takes lease-gated frames of a path now (spec/14 R449). -/
def State.takesFrom (s : State) (q : Path) (src : Nat) : Bool := s.pathTo src == some q

/-- A TIME_SYNC of a mode (spec/14 R467). -/
def State.timeSync (s : State) (f : Frame) (mode : Nat) : State :=
  if s.manager || byteAt f.payload 24 != mode then s
  else if !s.takesFrom f.path 0 then s.ignored
  else
    let s1 := s.wr 0xB01101 (leAt f.payload 32 8)
    let delay := i64At f.payload 40
    if mode = 1 then
      let s2 := s1.setNet ((stampAt f.payload 0 + i64At f.payload 16 + delay) * 65536).toNat
      { s2 with time := { s2.time with setAt := some s2.tick } }
    else if mode = 2 then (s1.stepNet delay).getD s1
    else s1

/-! ### Delay exchanges (spec/14 R466 to R469) -/

/-- The worker and path of the manager's n-th exchange: every worker on X, then every worker on Y. -/
def State.exchangeOf (s : State) (n : Nat) : Option (Nat × Path) :=
  let x := s.rd 0xB03004 - 1
  let y := s.rd 0xB03005 - 1
  if x + y = 0 then none
  else
    let i := n % (x + y)
    if i < x then some (i + 1, 0) else some (i - x + 1, 1)

/-- The manager sends the next DELAY_REQ: every worker on each path once per SYNC_INTERVAL, spread evenly. -/
def State.exchangeDue (s : State) : State :=
  if !s.manager || s.dev == 0 || s.dev == 1 then s
  else
    match s.exchangeOf s.time.next with
    | none => s
    | some (p, q) =>
      let n := s.rd 0xB03004 - 1 + (s.rd 0xB03005 - 1)
      let s := s.advanceTo (s.time.exchAt + usTicks (s.rd 0xB01301) / n)
      let s1 := s.sendOn 5 q false p (natLe 24 0 ++ natLe 2 s.time.exchange ++ natLe 6 0)
      { s1 with time := { s1.time with exchange := (s.time.exchange + 1) % 65536, next := s.time.next + 1, exchAt := s.tick } }

/-- A worker's lane hardware answers a DELAY_REQ. -/
def State.delayReq (s : State) (f : Frame) (rx : Nat) : State :=
  if s.manager || s.posOn f.path != some f.dst.toNat then s
  else
    let coarse := if s.bitAt kFlags 3 then 1 else 0
    let body := f.payload.take 26 ++ natLe 6 coarse ++ natLe 16 (rx % 2 ^ 112) ++ natLe 24 0
    s.enqueue (uLane f.path) (s.mkFrame 6 f.path true 0 f.seq.toNat body) false 0

/-- Clamping in binary64. -/
def clamp64 (x lo hi : Nat) : Nat := fmt64.clamp lo hi x

/-- A binary32 object in binary64. -/
def State.rd64 (s : State) (k : Nat) : Nat := fmt32.conv fmt64 (s.rd k)

/-- A half of a number of 2^-16 ns, in ns, as binary64. -/
def halfNs (z : Int) : Nat := fmt64.ofInt z (-17)

/-- One servo step for worker p: MODE, DELAY in 2^-16 ns, INCREMENT and the new I(p) (spec/14 R469). -/
def State.servo (s : State) (ip offset : Nat) (delay : Int) : Nat × Int × Nat × Nat :=
  let g := fmt64
  let h := g.mul (g.ofInt (s.rd 0xB01301)) (g.ofInt 1000)
  let incM := g.ofInt s.inc
  if g.lt (g.ofInt (s.rd 0xB01305)) (g.abs offset) then (1, delay, s.inc, 0)
  else
    let yMax := s.rd64 0xB01304
    let lim := g.mul yMax h
    let i1 := clamp64 (g.add ip (g.mul (s.rd64 0xB01303) offset)) (g.neg lim) lim
    let y := clamp64 (g.div (g.neg (g.add (g.mul (s.rd64 0xB01302) offset) i1)) h) (g.neg yMax) yMax
    let inc := (g.toIntRne (g.mul incM (g.add (g.ofInt 1) y))).getD s.inc
    (0, 0, inc.toNat, i1)

/-- CONVERGED: bit p while the last 8 kept offsets of p lie within CONVERGE_NS as it stands (spec/14 R477). -/
def State.judgeConverged (s : State) : State :=
  let lim := s.rd64 0xB01307
  s.wr 0xB01308 (maskOf 32 fun p =>
    let l := s.time.within.toList.getD p []
    l.length == 8 && l.all fun x => fmt64.le x lim)

/-- The manager takes a DELAY_RESP: offset and delay, CONVERGED, and the servo's TIME_SYNC on the path that holds the worker's lease (spec/14 R468, R469, R477). -/
def State.delayResp (s : State) (f : Frame) (rx : Nat) : State :=
  let b := f.payload
  let t1 := stampAt b 0
  let t2 := stampAt b 32
  let t3 := stampAt b 48
  let t4 := stampUnits rx
  if !s.manager || bit (byteAt b 26) 0 || f.coarse || s.bitAt kFlags 3 || t4 - t1 > 65536000000 then s
  else if h : f.src.toNat < 32 then
    let p : Fin 32 := ⟨f.src.toNat, h⟩
    let a := t2 - t1 - i64At b 16
    let u := t4 - t3 - i64At b 64
    if s.pathTo p != some f.path then s
    else
      let off := halfNs (a - u)
      let secs (x : Nat) := fmt64.conv fmt32 (fmt64.div x (fmt64.ofInt 1000000000))
      let s1 := s.wrAll [(0xB01401 + p, secs off), (0xB01421 + p, secs (halfNs (a + u)))]
      let s2 := { s1 with time := { s1.time with
        within := s1.time.within.set p ((fmt64.abs off :: s1.time.within[p]).take 8) } }
      let s3 := s2.judgeConverged
      if s3.rd 0xB01306 == 1 && s3.power.supervisor then
        let (mode, delay, inc, i1) := s3.servo s3.time.integral[p] off (rneDiv (a + u) 2)
        let s4 := { s3 with time := { s3.time with integral := s3.time.integral.set p i1 } }
        s4.sendOn 4 f.path false p
          (natLe 24 0 ++ natLe 8 mode ++ natLe 8 inc ++ natLe 8 (ofSigned 64 delay))
      else s3
  else s

/-! ### Comparators and TSYNC (spec/14 R473, R474) -/

/-- Subindex i of comparator k. -/
def kComp (k i : Nat) : Nat := 0xB01800 + k * 256 + i

/-- A TARGET in units of 2^-32 ns; FRAC is ignored. -/
def targetUnits (n : Nat) : Nat := ((n % 2 ^ 64) * 1000000000 + n / 2 ^ 64 % 2 ^ 32) * 2 ^ 32

/-- The 16 bytes of a time of whole nanoseconds. -/
def nsStamp (n : Nat) : Nat := n / 1000000000 % 2 ^ 64 + n % 1000000000 * 2 ^ 64

/-- TSYNC goes high for WIDTH ticks. -/
def State.tsyncHigh (s : State) : State :=
  { s with time := { s.time with tsync := true, tsyncEnd := some (s.tick + s.rd 0xB01602) } }

/-- A comparator reaches its TARGET: its trigger is signalled, carriers re-anchor, it advances or disarms; in bypass, where it matches on the coarse value, it is late past one update (spec/03 R80, spec/14 R473, spec/18 R582; log entry 130). -/
def State.fire (s : State) (k : Fin 8) : State :=
  if !s.bitAt (kComp k 4) 0 then s
  else
    let u := targetUnits (s.rd (kComp k 1))
    let s1 := s.advance (s.ticksTo u)
    let s1 := s1.emit (0x100 + k.val) s1.tick
    let late := u + (if s1.netCoarse then 4 else 1) * s1.inc < s1.netUnits
    let st := 1 + (if late || s1.bitAt (kComp k 5) 1 then 2 else 0)
    let s2 := (s1.wr (kComp k 5) st).count (kComp k 6)
    let s3 := forFin 18 s2 fun c a =>
      if a.bitAt (kComp k 3) c.val then a.reanchor c (u * 10 / 2 ^ 32) else a
    let per := s3.rd (kComp k 2)
    let s4 := if per = 0 then s3.wrBit (kComp k 4) 0 false
      else
        let n := s3.netUnits / 2 ^ 32
        let t := u / 2 ^ 32
        let m := (n - t) / per + 1
        (s3.wr (kComp k 1) (nsStamp (t + m * per))).count (kComp k 7) (m - 1)
    let s5 := s4.fireKind 5 (fun x => x == k.val) s1.netUnits
    if s5.rd 0xB01601 == 3 && s5.bitAt (kComp k 4) 1 then s5.tsyncHigh else s5

/-- TSYNC rises at the second in MODE 1; in MODE 3 a firing has already raised it. -/
def State.tsyncStart (s : State) : State :=
  if s.rd 0xB01601 == 1 then (s.advance (s.ticksTo ((s.net.sec + 1) * secUnits))).tsyncHigh else s

/-- TSYNC falls WIDTH ticks after it rose. -/
def State.tsyncFall (s : State) : State :=
  match s.time.tsyncEnd with
  | none => s
  | some t => { s.advanceTo t with time := { s.time with tsync := false, tsyncEnd := none } }

/-! ### The commands -/

def execDelayExchangeDue (s : State) : Out := .next s.exchangeDue
def execDelayReqReceive (f : Frame) (rxTime : BitVec 128) (s : State) : Out := .next (s.frameRow f fun a => a.delayReq f rxTime.toNat)
def execDelayRespReceive (f : Frame) (rxTime : BitVec 128) (s : State) : Out :=
  .next (s.frameRow f fun a => a.delayResp f rxTime.toNat)
def execTimeSyncIncrement (f : Frame) (s : State) : Out := .next (s.frameRow f fun a => a.timeSync f 0)
def execTimeSyncSet (f : Frame) (s : State) : Out := .next (s.frameRow f fun a => a.timeSync f 1)
def execTimeSyncStep (f : Frame) (s : State) : Out := .next (s.frameRow f fun a => a.timeSync f 2)
def execComparatorFire (k : Fin 8) (s : State) : Out := .next (s.fire k)
def execTsyncPulseStart (s : State) : Out := .next s.tsyncStart
def execTsyncPulseEnd (s : State) : Out := .next s.tsyncFall

/-- A rising edge on TSYNC in input mode (spec/14 R474). -/
def execTsyncInputEdge (s : State) : Out :=
  .next (if s.rd 0xB01601 == 2 then (s.wr 0xB01603 s.stamp).count 0xB01604 else s)

end Sys2Proof.Machine
end

