-- ==== Sys2Proof/Machine/Capture.lean ====
section
/-! DEFINITION. Capture: samples, reductions, firings, records, the egress queue, the lane packetiser and the relay, the TRIG lines (spec/18). -/

namespace Sys2Proof.Machine

/-! ### The queue (spec/18 R588, R595 to R597) -/

/-- CAPACITY in words. -/
def ceqWords : Nat := 163840

/-- WRITE_PTR, READ_PTR, MARK_PTR; FREE (spec/18 R595). -/
def CaptureSt.writePtr (c : CaptureSt) : Nat := (c.releasePtr + c.used) % ceqWords
def CaptureSt.readPtr (c : CaptureSt) : Nat := (c.releasePtr + c.readAhead) % ceqWords
def CaptureSt.markPtr (c : CaptureSt) : Nat := (c.releasePtr + c.markAhead) % ceqWords
def CaptureSt.free (c : CaptureSt) : Nat := ceqWords - c.used

/-- Words from RELEASE_PTR to OPEN_PTR; OPEN_PTR; READABLE. -/
def CaptureSt.openAhead (c : CaptureSt) : Nat :=
  match c.packets.find? fun p => !p.closed with
  | some p => (p.start + ceqWords - c.releasePtr) % ceqWords
  | none => c.used
def CaptureSt.openPtr (c : CaptureSt) : Nat := (c.releasePtr + c.openAhead) % ceqWords
def CaptureSt.readable (c : CaptureSt) : Nat := c.openAhead - c.readAhead

/-- A word of the queue's memory. -/
def CaptureSt.word (c : CaptureSt) (i : Nat) : Nat := leNat (memReadBytes c.mem (8 * i) 8)

/-- Words written from an offset on, modulo CAPACITY. -/
def CaptureSt.putWords (c : CaptureSt) (start : Nat) (ws : List Nat) : CaptureSt :=
  { c with mem := ws.zipIdx.foldl (fun m p =>
      memWriteBytes (8 * ((start + p.2) % ceqWords)) (natLe 8 p.1) m) c.mem }

/-- A length word: WORDS, VALID_LAST, KIND, RECORD (spec/18 R588). -/
def lengthWord (words valid kind record : Nat) : Nat :=
  words % 2 ^ 20 + valid * 2 ^ 20 + kind * 2 ^ 24 + record % 65536 * 2 ^ 32

/-- A reservation at the write end. -/
def CaptureSt.reserve (c : CaptureSt) (words record : Nat) (closed : Bool) : CaptureSt :=
  { c with used := c.used + words, packets := c.packets ++ [⟨c.writePtr, words, record, closed⟩] }

/-- The packets left once n words from the front are freed. -/
def dropFreed : Nat → List PacketSt → List PacketSt
  | _, [] => []
  | n, p :: ps => if p.words ≤ n then dropFreed (n - p.words) ps else p :: ps

/-- MARK, REWIND, RELEASE (spec/18 R597). -/
def State.ceqMark (s : State) : State := s.modCapture fun c => { c with markAhead := c.readAhead }
def State.ceqRewind (s : State) : State := s.modCapture fun c => { c with readAhead := c.markAhead }
def State.ceqRelease (s : State) : State :=
  s.modCapture fun c =>
    let n := c.readAhead
    let freed := c.packets.foldl (fun a p => a + p.words) 0 - c.used
    { c with
      releasePtr := (c.releasePtr + n) % ceqWords
      used := c.used - n
      readAhead := 0
      markAhead := 0
      packets := dropFreed (freed + n) c.packets }

/-- A read finds nothing readable (spec/18 R596). -/
def State.underrun (s : State) : State :=
  let s1 := (s.wrBit 0xD06002 1 true).count 0xD0600D
  if s.bitAt 0xD06002 1 then s1 else s1.raise 115

/-- A read of n words: their bytes, LAST where nothing is readable (spec/18 R596). -/
def State.ceqRead (s : State) (n : Nat) : Bytes × State :=
  let c := s.capture
  let m := min n c.readable
  if m = 0 then (natLe 8 c.lastWord, s.underrun)
  else
    let ws := (List.range m).map fun i => c.word ((c.readPtr + i) % ceqWords)
    (ws.flatMap (natLe 8), s.modCapture fun c =>
      { c with readAhead := c.readAhead + m, lastWord := ws.getLastD 0 })

/-! ### Tracks (spec/18 R579, R580) -/

/-- Subindex i of track t (spec/18 R604). -/
def kTrack (t i : Nat) : Nat := (0xD010 + t) * 256 + i

/-- Class and index of a track's source; whether it is enabled; its window; its WIDTH. -/
def State.trackClass (s : State) (t : Nat) : Nat := s.rd (kTrack t 1) / 4096
def State.trackIndex (s : State) (t : Nat) : Nat := s.rd (kTrack t 1) % 4096
def State.trackOn (s : State) (t : Nat) : Bool := s.trackClass t != 0 && s.rd (kTrack t 2) != 0
def State.trackWindow (s : State) (t : Nat) : Nat := if s.rd (kTrack t 2) = 1 then 1 else s.rd (kTrack t 3)
def State.trackWidth (s : State) (t : Nat) : Nat :=
  match s.trackClass t with
  | 0 => 0
  | 1 => if s.rd (kTrack t 2) ≥ 5 then 2 else 1
  | _ => 2

/-- Phase of a carrier in whole ticks (spec/05 R126). -/
def State.phaseTicks (s : State) (i : Nat) : Nat :=
  let k : Carrier := ⟨i % 18, by omega⟩
  if s.carriers[k].running then s.theta k (s.carrierNow k) / 16 else 0

/-- The native value of a source now. -/
def State.native (s : State) (cls i : Nat) : Nat :=
  match cls with
  | 1 => s.meas.code[(⟨i % 26, by omega⟩ : Fin 26)]
  | 2 => field (s.rd (kMain i)) 32 32
  | 3 => s.signal (i / 32) (i % 32)
  | 4 => s.phaseTicks i
  | _ => 0

/-- A native value as a number in a binary format (spec/18 R580, R582). -/
def nativeIn (f : Fmt) (cls v : Nat) : Nat :=
  match cls with
  | 2 => f.ofInt (toSigned 32 v) (-31)
  | 3 => Fmt.conv fmt32 f v
  | _ => f.ofInt v

/-- Whether native value a is smaller than b (spec/18 R580). -/
def nativeLt (cls a b : Nat) : Bool :=
  match cls with
  | 2 => toSigned 32 a < toSigned 32 b
  | 3 => fe.lt a b
  | _ => a < b

/-- The smallest or largest value so far; a NaN gives way to a number. -/
def keepBest (cls : Nat) (least : Bool) (best : Option Nat) (v : Nat) : Option Nat :=
  match best with
  | none => some v
  | some b =>
    if cls = 3 && fmt32.isNan v then some b
    else if cls = 3 && fmt32.isNan b then some v
    else if (if least then nativeLt cls v b else nativeLt cls b v) then some v else some b

/-- A track's output at sample k, where it has one, as native bits and as compared (spec/18 R580, R582). -/
def State.trackStep (s : State) (t : Fin 32) (k : Nat) : Option (Nat × Nat) × TrackSt :=
  let cls := s.trackClass t
  let v := s.native cls (s.trackIndex t)
  let red := s.rd (kTrack t 2)
  let w := s.trackWindow t
  let old := s.capture.tracks[t]
  let x := nativeIn fmt64 cls v
  let best := if red = 3 || red = 4 then keepBest cls (red == 3) old.best v else none
  let sum := if red = 5 then fmt64.add old.sum x
    else if red = 6 then fmt64.add old.sum (fmt64.mul x x) else 0
  if (k + 1) % w != 0 then (none, { old with best := best, sum := sum })
  else
    let m := fmt64.div sum (fmt64.ofInt w)
    let out := match red with
      | 3 => best.getD v
      | 4 => best.getD v
      | 5 => Fmt.conv fmt64 fmt32 m
      | 6 => Fmt.conv fmt64 fmt32 (fmt64.sqrt m)
      | _ => v
    let cmp := if red ≥ 5 then out else nativeIn fmt32 cls out
    (some (out, cmp), { old with best := none, sum := 0 })

/-- The halfwords of an output, low first (spec/18 R590). -/
def halvesOf (width v : Nat) : List Nat := (List.range width).map fun i => field v (16 * i) 16

/-! ### Conditions on tracks (spec/18 R582) -/

/-- Whether an output satisfies the LEVEL or WINDOW condition k as it stands. -/
def State.satisfies (s : State) (k : Fin 16) (v : Nat) : Bool :=
  let hi := s.rd (kCond 2 k)
  let lo := s.rd (kCond 3 k)
  let opt := bit (s.rd (kCond 4 k)) 0
  if s.rd (kCond 0 k) = 1 then if opt then fmt32.le v lo else fmt32.le hi v
  else
    let inside := fmt32.le lo v && fmt32.le v hi
    if opt then inside else !inside

/-- Whether a condition on an output fires: at the first output of a run, a LEVEL run in progress at arming once more at the first output after it. -/
def State.trackFires (s : State) (k : Fin 16) (v : Nat) (prev : Option Nat) : Bool :=
  let hi := s.rd (kCond 2 k)
  let lo := s.rd (kCond 3 k)
  let was := match prev with
    | none => false
    | some p => s.satisfies k p
  match s.rd (kCond 0 k) with
  | 1 => s.satisfies k v && (!was || s.capture.fresh[k])
  | 2 =>
    match prev with
    | none => false
    | some p =>
      let up := fmt32.lt p hi && fmt32.le hi v
      let down := fmt32.lt lo p && fmt32.le v lo
      match s.rd (kCond 4 k) % 4 with
      | 0 => up
      | 1 => down
      | _ => up || down
  | 3 => s.satisfies k v && !was
  | _ => false

/-- One track at a sample: its halfwords, and the conditions on it. -/
def State.trackSample (s : State) (t : Fin 32) (k instant : Nat) : List Nat × State :=
  if !s.trackOn t then ([], s)
  else
    let prev := s.capture.tracks[t].prev
    match s.trackStep t k with
    | (none, st) => ([], s.modCapture fun c => { c with tracks := c.tracks.set t st })
    | (some (out, cmp), st) =>
      let s1 := (s.modCapture fun c => { c with tracks := c.tracks.set t { st with prev := some cmp } }).wr
        (kTrack t 5) cmp
      let s2 := forFin 16 s1 fun n a =>
        let kind := a.rd (kCond 0 n)
        if 1 ≤ kind && kind ≤ 3 && a.rd (kCond 1 n) == t.val then
          let b := a.modCapture fun c => { c with fresh := c.fresh.set n false }
          if a.trackFires n cmp prev then b.fireCond n instant else b
        else a
      (halvesOf (s.trackWidth t) out, s2)

/-! ### Samples (spec/18 R577, R578, R581) -/

/-- PRE_DEPTH, POST_DEPTH, LOOKBACK; halfwords per sample at most. -/
def State.preDepth (s : State) : Nat := s.rd 0xD00004
def State.postDepth (s : State) : Nat := s.rd 0xD00005
def State.ringDepth (s : State) : Nat := max 1 (s.rd 0xD00004 + s.rd 0xD00006)
def State.sampleWidth (s : State) : Nat :=
  (List.range 32).foldl (fun a t => if s.trackOn t then a + s.trackWidth t else a) 0

/-- Whether ENABLE 1 and ARM 1 are accepted (spec/18 R581). -/
def State.captureFits (s : State) : Bool :=
  let h := s.sampleWidth
  (s.preDepth + s.rd 0xD00006) * h ≤ 131072 &&
    8 + ceilDiv ((s.preDepth + s.postDepth) * h) 4 ≤ ceqWords

/-- A capture sample, at the first sample instant that is due: taken, reduced, evaluated, put into the ring and the open record; its timestamp is the network time of its instant, exact where a NETWORK carrier's event triggered it (spec/18 R577, R578). -/
def State.sampleAt (s : State) (exact : Option Nat) : State :=
  if s.rd 0xD00001 != 1 || s.dev == 0 || s.dev == 5 || s.inReset then s
  else if within s.capture.lastTick s.tick 80 then s.count 0xD00010
  else
    let k := s.capture.next
    let inst := exact.getD s.netUnits
    let (hs, s1) := (List.finRange 32).foldl (fun a t =>
      let (h, b) := a.2.trackSample t k inst
      (a.1 ++ h, b)) (([] : List Nat), s)
    let x : SampleSt := ⟨k, inst, s.tick, hs, s.bitAt kFlags 3⟩
    s1.modCapture fun c =>
      { c with
        next := (k + 1) % 2 ^ 64
        lastTick := some s.tick
        ring := (x :: c.ring).take (s.ringDepth + 1)
        record := c.record.map fun r =>
          if r.samples.length < r.pre + r.post then { r with samples := r.samples ++ [x] } else r }

/-- The sample instant that is due next, where there is one (spec/18 R577). -/
def State.captureSample (s : State) : State :=
  match s.capture.due with
  | [] => s
  | (t, exact) :: rest => ((s.modCapture fun c => { c with due := rest }).advanceTo t).sampleAt exact

/-! ### Decisions (spec/18 R583 to R586, R591, R592) -/

/-- The distance of two instants. -/
def apart (a b : Nat) : Nat := if a < b then b - a else a - b

/-- The sample nearest to an instant, the later of equals; the samples newest first. -/
def nearest (samples : List SampleSt) (t : Nat) : Option SampleSt :=
  samples.foldl (fun b x =>
    match b with
    | none => some x
    | some y => if apart x.instant t < apart y.instant t then some x else some y) none

/-- The anchor of a firing, once a sample at or after it has been taken, and whether it is later than the nearest sample ever taken. -/
def State.anchor (s : State) (t : Nat) : Option (SampleSt × Bool) :=
  let ring := s.capture.ring
  let held := ring.take s.ringDepth
  match ring.head?, nearest ring t with
  | some newest, some x =>
    if newest.instant < t then none
    else if held.any fun y => y.num == x.num then some (x, false)
    else held.getLast?.map fun y => (y, true)
  | _, _ => none

/-- Halfwords that the samples from number a on, n of them, will produce (spec/18 R590). -/
def State.dataHalves (s : State) (a n : Nat) : Nat :=
  (List.range 32).foldl (fun h t =>
    if s.trackOn t then h + s.trackWidth t * ((a + n) / s.trackWindow t - a / s.trackWindow t) else h) 0

/-- A firing counted as missed: source 114. -/
def State.lateMissed (s : State) : State := (s.count 0xD05005).raise 114

/-- A record is decided (spec/18 R586, R591, R592). -/
def State.decideRecord (s : State) (x : SampleSt) (late : Bool) (mask : Nat) : State :=
  let before := (s.capture.ring.take s.ringDepth).filter fun y => y.num < x.num
  let pre := min s.preDepth before.length
  let after := (s.capture.ring.filter fun y => x.num ≤ y.num).reverse
  let post := s.postDepth
  let words := 8 + ceilDiv (s.dataHalves (x.num - pre) (pre + post)) 4
  if s.capture.free < words then ((s.count 0xD05006).wrBit 0xD06002 2 true).raise 115
  else
    let number := s.rd 0xD0000F
    let r : RecordSt :=
      { trig := x, number := number, mask := mask, missed := 0, late := late, start := s.capture.writePtr,
        words := words, samples := (before.take pre).reverse ++ after.take post, pre := pre, post := post }
    let s1 := s.modCapture fun c =>
      { (c.reserve words (number % 65536) false) with record := some r, armedAt := none }
    let opts := (bitsOf 16 mask).map fun k => (k, s.rd (kCond 4 k))
    let s2 := forFin 2 s1 fun l a =>
      if opts.any fun o => bit o.2 (4 + l.val) then
        a.modCapture fun c => { c with driveEnd := c.driveEnd.set l (some (a.tick + a.rd 0xD04103)) }
      else a
    match opts.find? fun o => bit o.2 6 with
    | some o => s2.sendEverywhere 0x0A
        (natLe 16 (x.instant / secUnits + x.instant % secUnits / 2 ^ 32 * 2 ^ 64 +
          x.instant / 2 ^ 16 % 2 ^ 16 * 2 ^ 96) ++ natLe 1 o.1 ++ natLe 3 0)
    | none => s2

/-- The tick at which a firing's anchor was known: the first sample at or after it has been taken, and it has come. -/
def State.anchorKnown (s : State) (f : FiringSt) : Nat :=
  max f.came (((s.capture.ring.reverse.find? fun x => f.instant ≤ x.instant).map (·.tick)).getD f.came)

/-- The decision on the oldest waiting firing of a condition, with every other one that has the same anchor: 60 ns typical to 100.2 ns after the anchor is known, a free value between (spec/18 R584, spec/03 R59; log entry 151). -/
def State.captureDecide (s : State) (cond : Nat) : State :=
  match s.capture.firings.find? fun f => f.cond == cond with
  | none => s
  | some f =>
    match s.anchor f.instant with
    | none => s
    | some (x, late) =>
      let (d, s) := s.freeIn 31 62
      let s := s.advanceTo (s.anchorKnown f + d)
      let drop (gone : FiringSt → Bool) (a : State) : State :=
        a.modCapture fun c => { c with firings := c.firings.filter fun g => !gone g }
      let me (g : FiringSt) : Bool := g.cond == f.cond && g.instant == f.instant
      let same (g : FiringSt) : Bool :=
        match s.anchor g.instant with
        | some (y, _) => y.num == x.num
        | none => false
      let armed : Bool := match s.capture.armedAt with
        | some t => t ≤ x.tick
        | none => false
      if armed then
        let group := s.capture.firings.filter same
        let mask := group.foldl (fun m g => m ||| 2 ^ g.cond) 0
        drop same (s.decideRecord x late mask)
      else
        let s1 := drop me s
        match s.capture.record with
        | some r =>
          if r.trig.num = x.num then
            s1.modCapture fun c => { c with record := some { r with mask := r.mask ||| 2 ^ cond } }
          else if r.trig.num < x.num then
            let s2 := s1.modCapture fun c => { c with record := some { r with missed := min (r.missed + 1) 65535 } }
            (if r.missed < 65535 then s2.count 0xD05004 else s2).raise 114
          else s1.lateMissed
        | none => if s.capture.armedAt.isSome then s1.lateMissed else s1

/-! ### Closing a record (spec/18 R587 to R590, R601) -/

/-- The header of a record (spec/18 R589). -/
def State.header (s : State) (r : RecordSt) (aborted : Bool) (dead : Nat) : Bytes :=
  let t := r.trig.instant
  let fl := (if aborted then 1 else 0) + (if r.late then 2 else 0) + (if r.samples.any (·.coarse) then 4 else 0)
  let primary := (bitsOf 17 r.mask).headD 16
  natLe 2 r.number ++ natLe 1 (s.rd kPosition) ++ natLe 1 fl ++ natLe 4 r.mask ++
    natLe 8 (r.trig.num - r.pre) ++
    natLe 16 (t / secUnits + t % secUnits / 2 ^ 32 * 2 ^ 64 + t % secUnits / 2 ^ 16 % 2 ^ 16 * 2 ^ 96) ++
    natLe 4 r.pre ++ natLe 4 (r.samples.length - r.pre) ++ natLe 4 dead ++ natLe 2 r.missed ++ natLe 1 primary ++
    natLe 1 0 ++ natLe 4 (maskOf 32 s.trackOn) ++ natLe 4 0

/-- Bytes as words, the last filled with zeros. -/
def wordsOf (n : Nat) (b : Bytes) : List Nat := (List.range n).map fun i => leAt b (8 * i) 8

/-- The open record closes: header and length word written, counts, source 113, re-arming (spec/18 R585, R587). -/
def State.closeRecord (s : State) (aborted : Bool) : State :=
  match s.capture.record with
  | none => s
  | some r =>
    let dead := min (s.tick - r.trig.tick) (2 ^ 32 - 1)
    let data := (r.samples.flatMap (·.halves)).flatMap (natLe 2)
    let d := s.dataHalves (r.trig.num - r.pre) (r.pre + r.post)
    let valid := if d % 4 = 0 then 8 else 2 * (d % 4)
    let body := wordsOf (r.words - 1) (s.header r aborted dead ++ data)
    let rearm := !aborted && s.rd 0xD00007 == 1
    let s1 := s.modCapture fun c =>
      { (c.putWords r.start (lengthWord r.words valid 1 r.number :: body)) with
        record := none
        armedAt := if rearm then some s.tick else c.armedAt
        fresh := if rearm then Vector.replicate 16 true else c.fresh
        packets := c.packets.map fun p => if p.start == r.start && !p.closed then { p with closed := true } else p }
    let s2 := ((s1.count 0xD0000F).count 0xD0600A).raise 113
    s2.wrAll [(0xD05001, dead), (0xD05002, max dead (s2.rd 0xD05002)), (0xD05003, min dead (s2.rd 0xD05003))]

/-- The record's outputs are complete: it closes 220 ns typical to 367.4 ns after the last sample, a free value between (spec/18 R587, spec/03 R59; log entry 151). -/
def State.recordClose (s : State) : State :=
  match s.capture.record with
  | none => s
  | some r => if r.samples.length < r.pre + r.post then s
    else
      let (d, s) := s.freeIn 113 229
      (s.advanceTo (((r.samples.getLast?.map fun x => x.tick).getD s.tick) + d)).closeRecord false

/-- ABORT bit CAPTURE, ENABLE 0, entry into COCOON (spec/18 R601). -/
def State.captureStop (s : State) : State :=
  (s.closeRecord true).modCapture fun c => { c with armedAt := none, firings := [] }

/-- A write of ENABLE (spec/18 R578, R581). -/
def State.captureOn (s : State) (on : Bool) : State :=
  if on then
    if s.rd 0xD00001 == 1 then s
    else (s.wr 0xD00001 1).modCapture fun c =>
      { c with next := 0, due := [], lastTick := none, ring := [], tracks := Vector.replicate 32 ⟨none, 0, none⟩ }
  else (s.captureStop.wr 0xD00001 0).modCapture fun c => { c with ring := [], due := [] }

/-- ARM (spec/18 R582, R585). -/
def State.captureArm (s : State) : State :=
  if s.capture.armedAt.isSome || s.capture.record.isSome then s
  else s.modCapture fun c => { c with armedAt := some s.tick, fresh := Vector.replicate 16 true }

/-- FORCE (spec/18 R582). -/
def State.captureForce (s : State) : State := s.fireCond 16 s.netUnits

/-! ### TRIG lines (spec/18 R582, R583, R591, R593) -/

/-- Picoseconds as units of 2^-32 ns. -/
def psUnits (ps : Int) : Int := ps * 2 ^ 32 / 1000

/-- The calibration moves on after a line: TRIG1 after TRIG0, then it ends. -/
def State.calNext (s : State) (line : Nat) : State :=
  s.modCapture fun c =>
    { c with calUntil := if line = 0 then some (s.tick + msTicks 40) else none, calLine := 1 }

/-- An edge latched for calibration (spec/18 R593). -/
def State.calEdge (s : State) (line : Fin 2) : State :=
  match s.capture.calUntil with
  | none => s
  | some t =>
    if s.capture.calLine != line.val || t < s.tick then s
    else
      let ten := 10000000 * 2 ^ 32
      let u := s.netUnits
      let d : Int := u - (roundDiv u ten * ten : Nat)
      let ps := rneDiv (d * 1000) (2 ^ 32)
      let s1 := if ps.natAbs ≤ 1000000 then
          (s.wr (0xD04101 + line.val) (ofSigned 32 ps)).wrBit 0xD04105 line.val true
        else s.wrBit 0xD04105 (2 + line.val) true
      s1.calNext line.val

/-- A falling edge at a TRIG ball that the device does not drive. -/
def State.trigFall (s : State) (line : Fin 2) : State :=
  if s.capture.driveEnd[line].isSome then s
  else
    let s1 := (s.wr (0xD04106 + line.val) s.stamp).calEdge line
    let inst := (s.netUnits : Int) - psUnits (toSigned 32 (s.rd (0xD04101 + line.val)))
    s1.fireKind 6 (fun x => x == line.val) inst.toNat

/-- The device releases a TRIG line WIDTH ticks after its decision. -/
def State.trigRelease (s : State) (line : Fin 2) : State :=
  match s.capture.driveEnd[line] with
  | none => s
  | some t => (s.advanceTo t).modCapture fun c => { c with driveEnd := c.driveEnd.set line none }

/-- A write of CAL_ARM 1 (spec/18 R593, R606). -/
def State.calArm (s : State) : State :=
  (s.wr 0xD04105 0).modCapture fun c => { c with calUntil := some (s.tick + msTicks 40), calLine := 0 }

/-- 40 ms without a calibration edge. -/
def State.calLate (s : State) (line : Fin 2) : State :=
  match s.capture.calUntil with
  | none => s
  | some t =>
    if s.capture.calLine != line.val then s
    else (((s.advanceTo t).wrBit 0xD04105 (2 + line.val) true).calNext line.val)

/-- An accepted TRIGGER frame (spec/18 R582, R592). -/
def State.triggerFrame (s : State) (f : Frame) : State :=
  if s.posOn f.path == some f.src.toNat then s
  else if !s.takesFrom f.path f.src.toNat then s.ignored
  else
    let t := leAt f.payload 0 8 * secUnits + leAt f.payload 8 4 * 2 ^ 32 + leAt f.payload 12 2 * 2 ^ 16
    let c := byteAt f.payload 16
    s.fireKind 7 (fun x => (x % 256 == 0xFF || x % 256 == f.src.toNat) &&
      (x / 256 == 0xFF || x / 256 == c)) t

/-! ### Lane egress and relay (spec/18 R598 to R600) -/

/-- EGRESS changes: REWIND first, and a frame of the packetiser that is under way moves no pointer any more (spec/18 R598; log entry 187). -/
def State.setEgress (s : State) (v : Nat) : State :=
  if s.rd 0xD0000A == v then s
  else (s.ceqRewind.wr 0xD0000A v).modCapture fun c =>
    { c with egress := { c.egress with waiting := false, payload := [], stallAt := none, failed := none } }

/-- The packetiser sends the next words to DEST (spec/18 R599). -/
def State.captureSend (s : State) : State :=
  let c := s.capture
  let dest := s.rd 0xD0000B
  if s.rd 0xD0000A != 1 || c.egress.waiting || c.egress.stallAt.isSome || c.readable = 0 ||
      (s.pathTo dest).isNone then s
  else
    let at_ (p : PacketSt) : Nat := (c.readPtr + ceqWords - p.start) % ceqWords
    match c.packets.find? fun p => at_ p < p.words with
    | none => s
    | some p =>
      let off := at_ p
      let n := min (min 255 (p.words - off)) c.readable
      let isFirst := off = 0
      let isLast := off + n = p.words
      let chunk := if isFirst then 0 else c.egress.chunk
      let ws := (List.range n).flatMap fun i => natLe 8 (c.word ((c.readPtr + i) % ceqWords))
      let load := natLe 2 p.record ++ natLe 2 chunk ++
        natLe 4 ((if isFirst then 1 else 0) + (if isLast then 2 else 0)) ++ ws
      let s1 := s.ceqMark.modCapture fun c =>
        { c with
          readAhead := c.readAhead + n
          egress := ⟨n, chunk, load, true, none, none⟩ }
      s1.sendReliable 9 dest load

/-- Whether a frame is the one the packetiser waits for. -/
def State.egressIs (s : State) (f : Frame) : Bool := s.capture.egress.waiting && s.capture.egress.payload == f.payload

/-- The ACK of the packetiser's frame (spec/18 R599). -/
def State.egressAck (s : State) (f : Frame) : State :=
  let e := s.capture.egress
  if !s.egressIs f then s
  else
    (s.ceqRelease.count 0xD0600E).modCapture fun c =>
      { c with egress := { e with waiting := false, chunk := e.chunk + 1, payload := [] } }

/-- The packetiser's frame has failed: REWIND, counted, stalled for EGRESS_HOLDOFF (spec/18 R599). -/
def State.egressFail (s : State) (f : Frame) : State :=
  if !s.egressIs f then s
  else
    (s.ceqRewind.count 0xD0600F).modCapture fun c =>
      { c with egress := { c.egress with
          waiting := false, stallAt := some (s.tick + msTicks (s.rd 0xD0000C)), failed := some f } }

/-- EGRESS_HOLDOFF has passed: the same words with the same SEQ and RETRY, where the packetiser is still the consumer (spec/18 R598, R599). -/
def State.egressRetry (s : State) : State :=
  let e := s.capture.egress
  match e.stallAt, e.failed with
  | some t, some f =>
    let s1 := s.advanceTo t
    if s1.rd 0xD0000A != 1 then
      s1.modCapture fun c => { c with egress := { e with stallAt := none, failed := none } }
    else
    let s2 := s1.modCapture fun c =>
      { c with
        readAhead := c.readAhead + e.words
        egress := { e with waiting := true, stallAt := none, failed := none } }
    let u : Unacked := ⟨f, 0, s2.tick⟩
    { s2 with frames := { s2.frames with unacked := s2.frames.unacked ++ [u] } }.resend u
  | _, _ => s

/-- A CAPTURE frame becomes a closed packet of KIND 2, where there is room; none where there is not (spec/18 R600). -/
def State.relayPacket (s : State) (f : Frame) : Option State :=
  let n := (f.payload.length - 8) / 8
  if s.capture.free < n + 2 then none
  else
    let rec_ := leAt f.payload 0 2
    let w1 := natLe 1 f.src.toNat ++ natLe 1 (byteAt f.payload 4 % 4) ++ natLe 2 rec_ ++ natLe 2 (leAt f.payload 2 2) ++
      natLe 2 0
    let ws := lengthWord (n + 2) 8 2 rec_ :: leNat w1 :: wordsOf n (f.payload.drop 8)
    let s1 := s.modCapture fun c => (c.putWords c.writePtr ws).reserve (n + 2) rec_ true
    some ((s1.count 0xD0600A).count 0xD0600B)

/-- A CAPTURE frame addressed to this device: room first, then SEQ (spec/14 R456, spec/18 R600). -/
def State.captureFrame (s : State) (f : Frame) : State :=
  if !s.takesFrom f.path f.src.toNat then s.ignored
  else
    match s.relayPacket f with
    | none => (((s.count 0xD0600C).wrBit 0xD06002 4 true)).raise 115
    | some _ =>
      let (ok, s1) := s.acceptSeq f
      if ok then (s1.relayPacket f).getD s1 else s1

/-! ### The commands -/

def execCaptureSample (s : State) : Out := .next s.captureSample
def execCaptureDecision (cond : Fin 17) (s : State) : Out := .next (s.captureDecide cond)
def execCaptureRecordClose (s : State) : Out := .next s.recordClose
def execTrigLineFall (line : Fin 2) (s : State) : Out := .next (s.trigFall line)
def execTrigDriveEnd (line : Fin 2) (s : State) : Out := .next (s.trigRelease line)
def execTriggerFrameReceive (f : Frame) (s : State) : Out := .next (s.frameRow f fun a => a.triggerFrame f)
def execTrigCalTimeout (line : Fin 2) (s : State) : Out := .next (s.calLate line)
def execCaptureFrameSend (s : State) : Out := .next s.captureSend
def execEgressHoldoffExpiry (s : State) : Out := .next s.egressRetry
def execCaptureFrameReceive (f : Frame) (s : State) : Out := .next (s.frameRow f fun a => a.captureFrame f)

end Sys2Proof.Machine
end

