-- ==== Sys2Proof/Machine/Balls.lean ====
section
/-! DEFINITION. What the device drives its digital balls to, and the test port that observes them (spec/02 R29, R30, R44, R52 to R56). -/

namespace Sys2Proof.Machine

/-! ### The balls (spec/02 R29, R30, R56, spec/04 R94, R97, R113) -/

/-- Whether DSCK‹c› is driven low: in reset, BOOT and COCOON, for a cell that is not fitted and in Manchester mode (spec/02 R29, R30, R56, spec/04 R113, spec/06 R196). -/
def State.dsckLow (s : State) (c : Cell) : Bool :=
  s.inReset || s.dev == 0 || s.dev == 5 || !s.fitted c || s.manchester c

/-- Whether controller u sends nothing: CANx_TX is recessive, driven high (spec/02 R29). -/
def State.canQuiet (s : State) (u : Fin 2) : Bool := s.inReset || s.can[u].tx.isNone

/-- FLT_OUT is asserted: FLT_OUT_P low and FLT_OUT_N high, in reset always (spec/02 R29, R30, spec/12 R397). -/
def State.fltAsserted (s : State) : Bool := s.inReset || s.bitAt 0xA00401 3

/-- Whether TSYNC is an output (spec/14 R474). -/
def State.tsyncOut (s : State) : Bool := !s.inReset && (s.rd 0xB01601 == 1 || s.rd 0xB01601 == 3)

/-- An open-drain ball that is pulled low, or released. -/
def pulled (low : Bool) : Option Bool := if low then some false else none

/-- The number of output ball i without its test port, by the order of log entry 129: the level that the device drives; none for an input, a released ball, a running DSCK and a CANx_TX in a transmission; the GT balls of a cell under GATE_LOOPBACK stay low, but for a bridge that Guard holds, whose pattern nothing takes away (spec/01 R24, spec/19 R629; log entry 170). -/
def State.ownBall (s : State) (i : Nat) : Option Bool :=
  if h : i < 72 then
    let c : Cell := ⟨i / 12, by omega⟩
    let row := s.guardRow c ⟨i / 4 % 3, by omega⟩
    some (s.gates[(⟨i, h⟩ : Line)] && (!s.looped c || (2 ≤ row && row ≤ 4)))
  else if h : i - 72 < 6 then s.bypBall ⟨i - 72, h⟩
  else if h : 114 ≤ i ∧ i - 114 < 6 then (if s.dsckLow ⟨i - 114, h.2⟩ then some false else none)
  else if i = 120 then (if s.canQuiet 0 then some true else none)
  else if i = 121 then (if s.canQuiet 1 then some true else none)
  else if i = 126 then some (!s.fltAsserted)
  else if i = 127 then some s.fltAsserted
  else if i = 129 then pulled (!s.inReset && s.capture.driveEnd[(0 : Fin 2)].isSome)
  else if i = 130 then pulled (!s.inReset && s.capture.driveEnd[(1 : Fin 2)].isSome)
  else if i = 131 then (if s.tsyncOut then some s.time.tsync else none)
  else if i = 132 then pulled (!s.inReset && s.bitAt 0xB02003 1)
  else if i = 136 then pulled (!s.inReset && s.bitAt 0xA00401 4)
  else none

/-- An output ball while EXTEST is in force: the value preloaded into its cell; an open-drain ball is pulled low by a 0, PSEL_N of a worker never; GT and BYP balls low, a DSCK ball of a cell that is not fitted low (spec/02 R44, R52, R53, R56). -/
def State.testBall (s : State) (i : Nat) : Option Bool :=
  let v := s.tap.preload.getLsbD i
  if i < 78 then some false
  else if 114 ≤ i ∧ i - 114 < 6 then some (s.fitted (i - 114) && v)
  else if i = 120 || i = 121 || i = 126 || i = 127 then some v
  else if i = 129 || i = 130 || i = 136 then pulled (!v)
  else if i = 131 then (if s.tap.preload.getLsbD 138 then some v else none)
  else if i = 132 then pulled (s.manager && !v)
  else none

/-- The level that the device drives ball i to; the ball states of reset go before the test port's (spec/02 R30, R53). -/
def State.ball (s : State) (i : Nat) : Option Bool :=
  if s.tap.ir == .extest && !s.inReset then s.testBall i else s.ownBall i

/-! ### The test port (spec/02 R52 to R54) -/

/-- An instruction is loaded: with EXTEST every GT and BYP ball goes low, and after it the bridges take the pattern of their rows again (spec/02 R53, spec/09 R289). -/
def State.loadJtag (s : State) (i : Jtag) : State := { s with tap := { s.tap with ir := i } }.applyAll

/-- Whether EXTEST is loaded: no fitted cell is in a state other than OFF, no BYP‹c› is commanded high (spec/02 R54). -/
def State.extestOk (s : State) : Bool :=
  (List.finRange 6).all fun (c : Cell) => (!s.fitted c || s.cellSt c == 0) && !s.bypCmd c

/-- What the boundary-scan register captures: the level of each ball, as the device drives it or else as it stands from outside, and whether TSYNC is driven (spec/02 R52, R53). -/
def State.boundary (s : State) (outside : BitVec 139) : BitVec 139 :=
  BitVec.ofNat 139 (maskOf 139 fun i =>
    if i = 138 then (s.ball 131).isSome else (s.ball i).getD (outside.getLsbD i))

/-- IDCODE: bit 0 is 1, the part number 0x2606 in bits 27:12 (spec/02 R52; log entry 129). -/
def idcode : Nat :=
  1 + Config.idMaker.toNat * 2 + 0x2606 * 2 ^ 12 + Config.idVersion.toNat * 2 ^ 28

/-- What a scan brings out on TDO, the first bit first: nothing in reset, when TDO has high impedance (spec/02 R29, R30). -/
def State.scanOut (s : State) (bits : List Bool) : State :=
  { s with tap := { s.tap with tdo := if s.inReset then [] else bits } }

/-- The bits of a register of n bits, the first to leave it first. -/
def scanBits (n v : Nat) : List Bool := (List.range n).map (bit v)

/-- A scan through the bypass register, which captures 0 and is one bit long. -/
def State.bypassScan (s : State) (bits : List Bool) : State :=
  ({ s with tap := { s.tap with bypass := bits.getLast?.getD false } }).scanOut ((false :: bits).take bits.length)

/-- A scan through the boundary-scan register: it captures the balls, then takes new values, which its update latches hold. -/
def State.boundaryScan (s : State) (outside shifted : BitVec 139) : State :=
  let cap := s.boundary outside
  ({ s with tap := { s.tap with captured := cap, preload := shifted } }).scanOut (scanBits 139 cap.toNat)

/-! ### The commands -/

/-- EXTEST is shifted in, and a scan of the data register may follow it: of the boundary-scan register, or of the bypass register where BYPASS was loaded instead (spec/02 R52 to R54). -/
def State.extest (s : State) (scan : Option (BitVec 139 × BitVec 139)) : State :=
  let ok := s.extestOk
  let s1 := s.loadJtag (if ok then .extest else .bypass)
  match scan with
  | none => s1.scanOut []
  | some (outside, shifted) =>
    if ok then s1.boundaryScan outside shifted else s1.bypassScan (scanBits 139 shifted.toNat)

/-- IDCODE is shifted in and read; or the port is reset, by TRST_N or by TMS, which loads IDCODE and reads nothing (spec/02 R29, R52; log entry 129). -/
def State.jtagId (s : State) (scan : Bool) : State :=
  let s1 := s.loadJtag .idcode
  if scan && !s.inReset then { s1.scanOut (scanBits 32 idcode) with lastData := natLe 4 idcode } else s1.scanOut []

def execJtagExtest (scan : Option (BitVec 139 × BitVec 139)) (s : State) : Out := .next (s.extest scan)
def execJtagBypass (bits : List Bool) (s : State) : Out := .next ((s.loadJtag .bypass).bypassScan bits)
def execJtagSamplePreload (outside shifted : BitVec 139) (s : State) : Out :=
  .next ((s.loadJtag .samplePreload).boundaryScan outside shifted)
def execJtagIdcode (scan : Bool) (s : State) : Out := .next (s.jtagId scan)

end Sys2Proof.Machine
end

