-- ==== Sys2Proof/Machine/Thermal.lean ====
section
/-! DEFINITION. Thermal supervision: sampling, broken sensors, factors, trips, lockout records and their re-arming (spec/11). -/

namespace Sys2Proof.Machine

/-- The kind of a sensor: 0 die, 1 module, 2 NTC; its group (spec/11 R358). -/
def sensorKind (n : Nat) : Nat := if n < 4 then 0 else if n < 22 then 1 else 2
def sensorGroup (n : Fin 28) : Fin 7 :=
  if n.val < 4 then 0 else if n.val < 22 then ⟨1 + (n.val - 4) / 3 % 6, by omega⟩ else ⟨1 + (n.val - 22) % 6, by omega⟩

/-- T_DERATE, T_TRIP and T_REARM of a sensor's kind (spec/11 R375). -/
def State.tDerate (s : State) (n : Nat) : Nat := s.rd (0x900101 + 3 * sensorKind n)
def State.tTrip (s : State) (n : Nat) : Nat := s.rd (0x900102 + 3 * sensorKind n)
def State.tRearm (s : State) (n : Nat) : Nat := s.rd (0x900103 + 3 * sensorKind n)

/-- TEMP: the latest effective value of a sensor (spec/11 R376). -/
def kTemp (n : Nat) : Nat := 0x900208 + n
def State.broken (s : State) (n : Nat) : Bool := s.bitAt 0x900224 n

/-- The healthy declared neighbours of a sensor (spec/11 R364, R365). -/
def State.neighbours (s : State) (n : Fin 28) : List (Fin 28) :=
  (List.finRange 28).filter fun m =>
    s.bitAt (0x900001 + n.val) m && m != n && !s.excluded m && !s.broken m && s.thermal.sensor[m].sampled

/-- The interval after a sample with effective value t (spec/11 R361, spec/04 R113). -/
def State.interval (s : State) (n : Fin 28) (t : Nat) : Nat :=
  if s.dev = 5 || fmt32.lt t (fmt32.sub (s.tDerate n) 0x41200000) then 6250000
  else if fmt32.lt t (s.tDerate n) then 625000 else 156250

/-- The channel of a die or NTC sensor (spec/11 R358). -/
def sensorChannel (n : Nat) : Nat := if n < 4 then 17 + n else n - 15

/-- A sample brings nothing: counted, source 84, the next one an interval later (spec/11 R362). -/
def State.sampleMissed (s : State) (n : Fin 28) : State :=
  ((s.count 0x90022C).raise 84).modSensor n fun x =>
    { x with due := some (x.last + s.interval n (s.rd (kTemp n))), waiting := false, value := none }

/-- A sensor's scheduled tick (spec/11 R361, R362). -/
def State.sampleDue (s : State) (n : Fin 28) : State :=
  match s.thermal.sensor[n].due with
  | none => s
  | some t =>
    if !s.samples n then s.modSensor n fun x => { x with due := none }
    else
      let s1 := (s.advanceTo t).modSensor n fun x => { x with due := none, last := t, waiting := true, value := none }
      if sensorKind n = 1 then s1.modSensor n fun x =>
        { x with value := some (s.rd (0x460037 + (n.val - 4))), gotAt := s1.tick, sec := s1.net.sec }
      else
        let ch := sensorChannel n
        let a : Fin 4 := ⟨s.rd (kChan ch 1) % 4, by omega⟩
        let q := s1.meas.adc[a].queue
        let lost := !s1.adcEnabled a || (q.length ≥ 8 && !q.any fun x => x.ch == ch)
        let s2 := s1.request 1 ch
        if lost then s2.sampleMissed n else s2

/-- The measured temperature of a sample, none where it is invalid (spec/11 R360, R363). -/
def State.measured (s : State) (n : Fin 28) (v : Nat) : Option Nat :=
  match sensorKind n with
  | 0 => if v = 0 || v = 65535 then none else some (s.valueOf (17 + n.val) v)
  | 1 => if s.bitAt 0x460049 (n.val - 4) && s.cellDrives (sensorCell n) then none else some v
  | _ =>
    let x := fmt32.ofInt v (-16)
    if v = 0 || v = 65535 || fmt32.lt x (s.rd 0x90001D) || fmt32.lt (s.rd 0x900024) x then none
    else some (linearise (fun i => s.rd (0x90001C + i)) false x)

/-- A sensor is declared broken with a cause (spec/11 R363, R364, R376). -/
def State.declareBroken (s : State) (n : Fin 28) (cause : Nat) : State :=
  if s.broken n then s
  else
    let v := setField (setBit (s.rd 0x900224) n true) 28 2 cause
    (s.wr 0x900224 v).modSensor n fun x => { x with departed := 0 }

/-- The cross-check of a valid sample (spec/11 R364). -/
def State.crossCheck (s : State) (n : Fin 28) (t : Nat) : State :=
  let ns := s.neighbours n
  if s.broken n || ns.isEmpty then s
  else
    let m := fmt32.div ((ns.map fun (i : Fin 28) => s.rd (kTemp i)).foldl fmt32.add 0) (fmt32.ofInt ns.length)
    let d := if fmt32.lt (s.rd 0x90002D) (fmt32.abs (fmt32.sub t m)) then s.thermal.sensor[n].departed + 1 else 0
    if d ≥ s.rd 0x90002E && d != 0 then (s.declareBroken n 2).raise 80
    else s.modSensor n fun x => { x with departed := d }

/-- The effective value that stands for a broken sensor (spec/11 R365). -/
def State.substitute (s : State) (n : Fin 28) : Nat :=
  match s.neighbours n with
  | [] => fmt32.add (s.tDerate n) (fmt32.mul 0x3F000000 (fmt32.sub (s.tTrip n) (s.tDerate n)))
  | m :: ms => ms.foldl (fun a (i : Fin 28) => fmt32.max a (s.rd (kTemp i))) (s.rd (kTemp m))

/-- The factor of a sensor (spec/11 R366). -/
def State.sensorFactor (s : State) (n : Fin 28) : Nat :=
  if s.excluded n || !s.thermal.sensor[n].sampled then f1
  else eClamp (fe.div (fe.sub (s.tTrip n) (s.rd (kTemp n))) (fe.sub (s.tTrip n) (s.tDerate n))) 0 f1

/-- The smallest factor of a group of sensors with the sensor that gives it, the lowest-numbered of equals (spec/11 R366, R376). -/
def State.leastFactor (s : State) (f : Fin 28 → Bool) : Nat × Nat :=
  ((List.finRange 28).filter f).foldl (fun a n =>
    let x := s.sensorFactor n
    if fe.lt x a.1 then (x, n.val) else a) (f1, 0xFF)

/-- FACTOR, DEVICE_FACTOR and LIMITING brought up to date; source 77 where a cell factor falls from 1 (spec/11 R366, R367). -/
def State.writeFactors (s : State) : State :=
  let (d, _) := s.leastFactor fun n => n.val < 4
  let s1 := s.wr 0x900207 d
  forFin 6 s1 fun c a =>
    let (x, n) := s.leastFactor fun m => m.val < 4 || (sensorGroup m).val == 1 + c.val
    let old := a.rd (0x900201 + c.val)
    let a1 := a.wrAll [(0x900201 + c.val, x), (0x900226 + c.val, n)]
    if fe.eqv old f1 && fe.lt x f1 then a1.raise 77 else a1

/-! ### Trips and lockout records (spec/11 R368 to R371, R674) -/

/-- RFLAGS of a record; whether a group holds an unarmed record (spec/11 R369). -/
def State.rflags (s : State) (g : Fin 7) : Nat := byteAt s.thermal.lockouts[g].record 13
def State.unarmed (s : State) (g : Fin 7) : Bool := bit (s.rflags g) 7 && !bit (s.rflags g) 0

/-- A lockout record changed. -/
def State.modLockout (s : State) (g : Fin 7) (f : LockoutSt → LockoutSt) : State :=
  { s with thermal := { s.thermal with lockouts := upd s.thermal.lockouts g f } }

/-- A group's trip: its record unarmed and its write begun, sources 78 and 79, the CELL reaction or LOCKOUT (spec/11 R368, R369, R674). -/
def State.tripGroup (s : State) (n : Fin 28) : State :=
  let g := sensorGroup n
  let fl := 0x80 + (if s.broken n then 2 else 0) + (if s.bitAt kFlags 3 then 4 else 0)
  let rec_ := natLe 8 s.thermal.sensor[n].sec ++ natLe 4 (s.rd (kTemp n)) ++ natLe 1 n ++ natLe 1 fl ++ natLe 2 0
  let s1 := s.modLockout g fun _ => ⟨rec_, true, false⟩
  if h : 1 ≤ g.val then
    ((s1.wrBit 0x90030A (g.val - 1) true).raise 78).cellReaction ⟨g.val - 1, by omega⟩
  else (s1.raise 79).lockout

/-- A sample's effective value counts towards the trip (spec/11 R368). -/
def State.countTrip (s : State) (n : Fin 28) (keep : Bool) : State :=
  if keep then s
  else if fmt32.le (s.tTrip n) (s.rd (kTemp n)) then
    if s.thermal.sensor[n].trips + 1 ≥ 3 then
      (s.modSensor n fun x => { x with trips := 0 }).tripGroup n
    else s.modSensor n fun x => { x with trips := x.trips + 1 }
  else s.modSensor n fun x => { x with trips := 0 }

/-- Whether a sensor's conversion is still to come: asked for, about to be held or under way (spec/11 R362). -/
def State.samplePending (s : State) (n : Fin 28) : Bool :=
  let ch := sensorChannel n
  let c := s.meas.adc[(⟨s.rd (kChan ch 1) % 4, by omega⟩ : Fin 4)]
  (c.queue.any fun q => q.ch == ch) || (c.urgent.any fun u => u.1.ch == ch) ||
    (c.conv.any fun v => v.ch == ch && v.kind == .urgent true)

/-- A sample is processed in the order of R362, 125 to 208 ticks after its value came, 200 ns typical to 334 ns, which a free value (spec/03 R59). -/
def State.sampleProcess (s : State) (n : Fin 28) : State :=
  match s.thermal.sensor[n].value with
  | none => if s.thermal.sensor[n].waiting && !s.samplePending n then s.sampleMissed n else s
  | some v =>
    let (d, s) := s.freeIn 103 208
    let s := s.advanceTo (s.thermal.sensor[n].gotAt + d)
    let was := s.broken n
    let t := s.measured n v
    let s1 := match t with
      | none => (s.declareBroken n 1).raise 81
      | some x => s.crossCheck n x
    let e := if s1.broken n then s1.substitute n else t.getD 0
    let s2 := (s1.wr (kTemp n) e).modSensor n fun x =>
      { x with
        sampled := true
        waiting := false
        value := none
        due := some (x.last + s.interval n e) }
    (s2.countTrip n (t.isNone && !was)).writeFactors

/-- While a cell's group holds an unarmed record, a CELL reaction keeps the cell out of OFF, CHARGE and RUN (spec/11 R371). -/
def State.lockoutCells (s : State) : State :=
  forFin 6 s fun c a =>
    if a.unarmed ⟨1 + c.val, by omega⟩ && a.fitted c && a.cellSt c ≤ 2 then a.cellReaction c else a

/-- The write of a record ends (spec/11 R370, R372). -/
def State.recordWritten (s : State) (g : Fin 7) (ok : Bool) : State :=
  let l := s.thermal.lockouts[g]
  if !l.writing then s
  else
    let s1 := s.modLockout g fun x => { x with writing := false, rearm := false }
    if ok then { s1 with nv := { s1.nv with lockouts := s1.nv.lockouts.set g l.record } }
    else
      let s2 := (s1.wrBit 0x900309 g true).raise 82
      if l.rearm then s2.wr 0x900402 3 else s2

/-- A sensor of a group that takes part is still at or above its T_REARM (spec/11 R372). -/
def State.groupHot (s : State) (g : Fin 7) : Bool :=
  (List.finRange 28).any fun n =>
    sensorGroup n == g && !s.excluded n && s.thermal.sensor[n].sampled && fmt32.le (s.tRearm n) (s.rd (kTemp n))

/-- One group is re-armed or refused (spec/11 R372). -/
def State.rearmGroup (s : State) (g : Fin 7) : State :=
  let s0 := forFin 7 s fun i a => a.modLockout i fun l => { l with rearm := false }
  if !s0.unarmed g then s0.wr 0x900402 2
  else if s0.groupHot g then ((s0.wrBit 0x900403 g true).wr 0x900402 1).raise 83
  else
    ((s0.modLockout g fun l =>
      ⟨l.record.set 13 (l.record.getD 13 0 ||| 1), true, true⟩).wrBit 0x900403 g false).wr 0x900402 0

/-- A write of REARM (spec/11 R372). -/
def State.rearmGroups (s : State) (mask : Nat) : State :=
  forFin 7 s fun g a => if bit mask g then a.rearmGroup g else a

/-- Written 1s clear broken sensors (spec/11 R365, R376). -/
def State.clearBroken (s : State) (mask : Nat) : State :=
  forFin 28 (s.clrBits 0x900224 (mask % 2 ^ 28)) fun n a =>
    if bit mask n then a.modSensor n fun x => { x with departed := 0 } else a

/-! ### The commands -/

def execThermalSampleDue (n : Fin 28) (s : State) : Out := .next (s.sampleDue n)
def execThermalSampleProcess (n : Fin 28) (s : State) : Out := .next (s.sampleProcess n)

end Sys2Proof.Machine
end

