-- ==== Sys2Proof/Machine/Collector.lean ====
section
/-! DEFINITION. The fault collector: decisions, sticky bits, reactions, self-fault, routing (spec/12). -/

namespace Sys2Proof.Machine

/-- Sticky word w, CLASS of source n, whether source n has its sticky bit set (spec/12 R405, R406). -/
def kSticky (w : Nat) : Nat := 0xA00001 + w
def State.classOf (s : State) (n : Nat) : Nat := s.rd (0xA00101 + n)
def State.sticky (s : State) (n : Nat) : Bool := s.bitAt (kSticky (n / 32)) (n % 32)

/-- A map of 128 bits held in four words of 32 bits from key k on. -/
def State.map128 (s : State) (k : Nat) : BitVec 128 :=
  BitVec.ofNat 128 (s.rd k % 2 ^ 32 + s.rd (k + 1) % 2 ^ 32 * 2 ^ 32 + s.rd (k + 2) % 2 ^ 32 * 2 ^ 64 +
    s.rd (k + 3) * 2 ^ 96)

/-- The four sticky words. -/
def State.stickyMap (s : State) : BitVec 128 := s.map128 0xA00001

/-- The sticky words set; TRIP_CELLS clears where bit 78 goes from 1 to 0 (spec/11 R674). -/
def State.setSticky (s : State) (m : BitVec 128) : State :=
  let was := s.sticky 78
  let s1 := s.wrAll ((List.range 4).map fun w => (kSticky w, field m.toNat (32 * w) 32))
  if was && !m.getLsbD 78 then s1.wr 0x90030A 0 else s1

/-- Whether a self-fault holds. -/
def State.selfFaulted (s : State) : Bool := s.bitAt 0xA00401 0

/-! ### Routing (spec/12 R397, R400 to R402) -/

/-- Whether FLT_OUT is asserted out of reset. -/
def State.fltOut (s : State) : Bool :=
  s.selfFaulted || (List.range 126).any fun n => s.sticky n && s.classOf n == 4

/-- Whether EVT_N is pulled low. -/
def State.evtN (s : State) : Bool :=
  s.selfFaulted || (s.stickyMap &&& s.map128 0xA00301 &&& ~~~s.map128 0xA00201) != 0 ||
    (s.manager && s.rd 0xA0040A != 0 && s.rd 0xA0040B == 1)

/-- EVT_N and FLT_OUT as a decision leaves them. -/
def State.route (s : State) : State := (s.wrBit 0xA00401 3 s.fltOut).wrBit 0xA00401 4 s.evtN

/-- Notifications of a decision's rises (spec/12 R401, R402). -/
def State.notify (s : State) (rises : BitVec 128) : State :=
  let open_ := rises &&& ~~~s.map128 0xA00201
  let up := if s.manager then 0 else open_ &&& s.map128 0xA00309
  { s with collector := { s.collector with
      wdpMarks := s.collector.wdpMarks ||| (open_ &&& s.map128 0xA00305)
      risen := s.collector.risen ||| up } }

/-- Rises reach capture 1 or 2 ticks after the decision, which of them free (spec/18 R582, R583). -/
def State.fireRises (s : State) (rises : BitVec 128) : State :=
  if (List.finRange 16).any fun k => s.rd (kCond 0 k) == 4 && rises.getLsbD (s.rd (kCond 1 k)) then
    let (d, s1) := s.freeIn 1 2
    s1.fireKind 4 (fun n => rises.getLsbD n) (s1.netUnits + d * s1.inc)
  else s

/-! ### Self-fault (spec/12 R393 to R396) -/

/-- A self-fault with its cause bit of STATUS: 1 parity, 2 no decision; the rise of bit 126 is notified as any other (spec/12 R381, R383, R395). -/
def State.selfFault (s : State) (cause : Nat) : State :=
  if s.selfFaulted then s.wrBit 0xA00401 cause true
  else
    let s1 := (s.orBits 0xA00401 (0x19 + 2 ^ cause)).wrBit (kSticky 3) 30 true
    ((((s1.holdAll 0x200).safeCause 3).sendSafe 3 126).fireRises (1#128 <<< 126)).notify (1#128 <<< 126)

/-! ### A decision (spec/12 R379 to R392) -/

/-- Whether the scope of source n takes in cell c; source 78 takes in the cells of TRIP_CELLS (spec/11 R674). -/
def State.inScope (s : State) (n : Nat) (c : Nat) : Bool :=
  sourceScope n == c || (sourceScope n == 7 && s.bitAt 0x90030A c)

/-- Step 1 of R392: a risen or a standing CELL source of a cell. -/
def State.cellRises (s : State) (rises : BitVec 128) : State :=
  forFin 6 s fun c a =>
    let cell (n : Nat) : Bool := a.classOf n == 2 && a.inScope n c
    if (List.range 128).any fun n => rises.getLsbD n && cell n then a.cellReaction c
    else if a.cellSt c ≤ 2 && (List.range 128).any fun n => a.sticky n && cell n then a.cellReaction c
    else a

/-- Steps 2 and 3 of R392: the strongest risen class of DEVICE and STRING, and one SAFE frame. -/
def State.deviceRises (s : State) (rises : BitVec 128) : State :=
  let of_ (k : Nat) := (List.range 128).filter fun n => rises.getLsbD n && s.classOf n == k
  match of_ 4 with
  | n :: _ => ((s.holdAll 0x200).safeCause 2).sendSafe 2 n
  | [] => if (of_ 3).isEmpty then s else (s.holdAll 0x200).safeCause 1

/-- A collector pass. -/
def State.decide (s : State) (equal : BitVec 128) (parityBad : Bool) : State :=
  let s0 := if parityBad then s.selfFault 1 else s
  let c := s0.collector
  let fault := equal &&& c.equal
  let held := equal &&& ~~~c.equal
  let now := ((s0.rails.cond ||| s0.rails.occ) &&& ~~~equal) ||| (held &&& c.asserted) ||| fault
  let s1 := { s0 with
    rails := { s0.rails with occ := s0.rails.occ &&& equal }
    collector := { c with asserted := now, equal := equal, railFault := fault, lastAt := s0.tick } }
  let old := s1.stickyMap
  if s1.selfFaulted then
    let (f1, s2) := s1.freeVal
    let (f2, s3) := s2.freeVal
    let new := BitVec.ofNat 128 (f1 % 2 ^ 64 + f2 % 2 ^ 64 * 2 ^ 64) &&& ~~~old
    (((s3.setSticky (old ||| new)).fireRises new).route).notify new
  else
    let rises := now &&& ~~~old
    let s2 := (s1.setSticky (old ||| now)).fireRises rises
    let s3 := (s2.cellRises rises).lockoutCells
    ((s3.deviceRises rises).route).notify rises

/-- No decision has completed 1,024 ticks after the request that falls 64 ticks after the last one (spec/12 R381, R394). -/
def State.decisionLate (s : State) : State := (s.advanceTo (s.collector.lastAt + 1088)).selfFault 2

/-- Written 1s clear sticky bits of word w, bit 126 excepted (spec/12 R384, R396). -/
def State.clearSticky (s : State) (w : Fin 4) (mask : Nat) : State :=
  let m := BitVec.ofNat 128 (mask % 2 ^ 32 * 2 ^ (32 * w.val)) &&& ~~~(1#128 <<< 126)
  s.setSticky (s.stickyMap &&& ~~~m)

/-! ### Frames (spec/12 R390, R402, R403) -/

/-- The manager accepts an EVENT frame: WORKER_EVENT, and its sources wait to be relayed. -/
def State.eventFrame (s : State) (f : Frame) : State :=
  if !s.manager then s
  else if !s.takesFrom f.path f.src.toNat then s.ignored
  else
    let risen := leAt f.payload 0 16
    let sticky := leAt f.payload 16 16
    let p := f.src.toNat % 32
    let s1 := s.wrBit 0xA0040A p true
    { s1 with collector := { s1.collector with
        relay := s1.collector.relay ++ (bitsOf 128 risen).map fun n => (p, n, sticky) } }

/-- A SAFE frame from the path holding the lease is a safe cause with code 5 (spec/04 R106). -/
def State.safeFrame (s : State) (f : Frame) : State :=
  if s.takesFrom f.path f.src.toNat then s.safeCause 5 else s.ignored

/-! ### The commands -/

def execCollectorDecision (equalRails : BitVec 128) (parityBad : Bool) (s : State) : Out :=
  .next (if s.inReset then s else s.noteNumeric.decide equalRails parityBad)
def execCollectorDecisionTimeout (s : State) : Out := .next (if s.inReset then s else s.decisionLate)
def execEventFrameSend (s : State) : Out := .next s.sendEvents
def execEventFrameReceive (f : Frame) (s : State) : Out := .next (s.frameRow f fun a => a.eventFrame f)
def execSafeFrameReceive (f : Frame) (s : State) : Out := .next (s.frameRow f fun a => a.safeFrame f)

end Sys2Proof.Machine
end

