-- ==== Sys2Proof/Machine/Paths.lean ====
section
/-! DEFINITION. Path redundancy: leases, due instants, reversion, PSEL_N, FIREFLY and health (spec/15). -/

namespace Sys2Proof.Machine

/-! ### Renewal and reversion (spec/15 R481, R493) -/

/-- The Orsolane lease renewed: LEASE_NS from now, without expiry while PSEL_N is low (spec/15 R481, R500). -/
def State.renew (s : State) : State :=
  { s with lease := { s.lease with
      renewedAt := some s.tick,
      until_ := if s.pselLow then none else some (s.tick + nsTicks (s.rd 0xB02101)) } }

/-- The Orsolane lease moves to a path (spec/15 R487, R488, R493, R494). -/
def State.moveLease (s : State) (q : Nat) : State := (s.setHolder q).updRevert

/-- Reversion at the acceptance of a STRING frame on the preferred path with LEASE 1; a condition for a release on that path in the same tick wins (spec/15 R493; log entry 165). -/
def State.revertOn (s : State) (q : Path) : State :=
  if s.lease.revertDue && s.rd 0xB02102 == q.val && s.holder != q.val && s.lease.released[q] != some s.tick then
    ((s.moveLease q).count 0xB02006).raise 102
  else s

/-! ### Due instants (spec/15 R485, R486, R490, R491) -/

/-- The next due instant, at the first tick at or after it: 1 to EXTRAP_PERIODS + 1 for the references, 2 for the lease (log entry 158). -/
def State.nextDue (s : State) : Option Nat :=
  match s.stringRx.acceptAt, s.stringRx.interval with
  | some t, some i =>
    if s.stringRx.dues ≤ max (s.rd 0xB02105) 1 then some (t + (s.stringRx.dues + 1) * i + ceilDiv i 4) else none
  | _, _ => none

/-- Whether the lease has been renewed since the last accepted STRING frame. -/
def State.renewedSince (s : State) : Bool :=
  match s.lease.renewedAt, s.stringRx.acceptAt with
  | some r, some t => t < r
  | _, _ => false

/-- A Q15 word moved n steps along the last difference, kept in range. With n up to 3 every binary32 operation is exact, so the integers give the converted value (spec/15 R490, spec/07 R223). -/
def extrapolate (ma mb n : Nat) : Nat :=
  let a := toSigned 16 ma
  ofSigned 16 (clampInt (-32768) 32767 (a + n * (a - toSigned 16 mb)))

/-- Due instant n: extrapolation up to EXTRAP_PERIODS, then the hold pattern. -/
def State.atDue (s : State) : State :=
  let n := s.stringRx.dues + 1
  let s1 := { s with stringRx := { s.stringRx with dues := n } }
  if n ≤ s.rd 0xB02105 then
    let m : Vector Nat 6 := Vector.ofFn fun c => extrapolate s.stringRx.ma[c] s.stringRx.mb[c] n
    { (s1.wrBit 0xB02003 4 true) with refs := { s1.refs with modRef := m } }
  else
    let z : Vector Nat 6 := Vector.replicate 6 0
    let s2 := if s.rd 0xB02104 == 1 then { s1 with refs := { s1.refs with modRef := z, steer := z } } else s1
    ((s2.wrBit 0xB02003 4 false).wrBit 0xB02003 5 true).assertSrc 106

/-- The next due instant passes without a frame: the second gives up a lease that has not been renewed (spec/15 R486 cause 4, R490, R491). -/
def State.dueInstant (s : State) : State :=
  match s.nextDue with
  | none => s
  | some t =>
    let s1 := s.advanceTo t
    let s2 := if s.stringRx.dues = 1 && !s.renewedSince then s1.releaseLease 4 else s1
    s2.atDue.updRevert

/-- The lease expires (spec/15 R481, R486). -/
def State.leaseExpires (s : State) : State :=
  match s.lease.until_ with
  | none => s
  | some t => ((s.advanceTo t).releaseLease 6).updRevert

/-! ### LEASE frames (spec/15 R494) -/

/-- A LEASE frame of an ACTION. -/
def State.leaseFrame (s : State) (f : Frame) (action : Nat) : State :=
  if s.manager || byteAt f.payload 0 != action then s
  else if s.pselLow then s.ignored
  else
    let h := byteAt f.payload 1
    match action with
    | 0 =>
      if s.holder == f.path.val then
        let s1 := s.wr 0xB02101 (leAt f.payload 4 4)
        if f.lease then s1.renew else s1
      else s.ignored
    | 1 =>
      if f.path.val == h then
        let s1 := (s.releaseOn f.path 5).updRevert
        if s.holder == h then s1 else s1.ignored
      else s.ignored
    | _ => if h ≤ 1 && s.health h == 3 then (if s.holder == h then s else s.moveLease h) else s.ignored

/-! ### PSEL_N (spec/15 R499 to R501) -/

/-- Health of a path with the cause of an entry into BAD (spec/15 R504). -/
def State.setHealth (s : State) (q : Path) (st cause : Nat) : State :=
  let k := 0xB02201 + 8 * q.val
  let s1 := if st = 1 && s.rd k != 1 then s.wrAll [(k + 5, cause), (k + 6, s.net.sec)] else s
  ((s1.wr k st).pathSources).updRevert

/-- A level of PSEL_N that has been stable for a number of ticks: from 64 on it counts (spec/15 R499, R500). -/
def State.pselChange (s : State) (low : Bool) (ticks : Nat) : State :=
  if s.pselLow == low || ticks < 64 then s
  else
    let s1 := { s with pins := { s.pins with pselN := !low } }
    let s2 := ((s1.wrBit 0xB02003 0 low).wr 0xB02002 0).wrBit 0xB02003 3 false
    let ms := s2.rd 0xB0210B
    let s3 := { s2 with lease := { s2.lease with
      failAt := none, risen := s2.lease.risen || !low, lowAt := if low then some s2.tick else none,
      stuck := s2.lease.stuck && low,
      wasY := if low then s.holder == 1 else false,
      canFrom := some s2.tick,
      canUntil := if low || ms = 0 then none else some (s2.tick + msTicks ms) } }
    let s4 := if low then s3
      else (s3.wrBit 0xB02003 2 false).modPath 1 fun p => { p with stuck := false }
    s4.moveLease 0

/-- PSEL_N low for 1 ms that nobody should drive; a worker's holder counts as it was when the line fell, for while it is low R500 makes it X (spec/15 R500, R501; log entry 176). -/
def State.pselStuck (s : State) : State :=
  match s.lease.lowAt with
  | none => s
  | some t =>
    if s.lease.stuck then s
    else if (s.manager && !s.bitAt 0xB02003 1) || (!s.manager && s.dev != 1 && s.lease.wasY) then
      let s1 := s.advanceTo (t + msTicks 1)
      let s2 := { s1 with lease := { s1.lease with stuck := true } }
      ((s2.wrBit 0xB02003 2 s2.manager).modPath 1 fun p => { p with stuck := true }).setHealth 1 1 9
    else s

/-- PSEL_HOLDOFF after HATCH (spec/15 R498). -/
def State.pselHoldoff (s : State) : State :=
  match s.lease.holdoffAt with
  | none => s
  | some t =>
    let s1 := s.advanceTo t
    { s1 with lease := { s1.lease with holdoffAt := none } }.updPsel

/-! ### FIREFLY (spec/15 R502, R503) -/

/-- The next 40 bytes of a PRBS-31 sequence and its state after them. -/
def prbsBytes (r : Nat) : Bytes × Nat :=
  let p := prbsBits 320 r
  (natLe 40 p.1, p.2)

/-- A FIREFLY payload. -/
def State.firefly (s : State) (beacon kind : Nat) (prbs : Bytes) : Bytes :=
  natLe 4 beacon ++ natLe 4 kind ++ s.stampBytes ++ prbs

/-- The manager's next beacon to a position on a path: one per FIREFLY_PERIOD to each position, and those of all positions and paths spread evenly over it; under STANDBY_SOAK of the path ten times as often (spec/19 R629). -/
def State.beaconSend (s : State) (p : Fin 32) (q : Path) : State :=
  if !s.manager || s.dev == 0 || s.dev == 1 || p.val == 0 || p.val ≥ s.rd (0xB03004 + q.val) || !s.maySend (dLane q) then s
  else
    let t := usTicks (s.rd 0xB0210D) / (if s.soaks q then 10 else 1)
    let after (d : Nat) (o : Option Nat) : Nat := (o.map fun a => a + d).getD 0
    let s := s.advanceTo (max (after t s.paths[q].beaconTo[p])
      (after (t / (s.rd 0xB03004 - 1 + (s.rd 0xB03005 - 1))) s.lease.beaconAt))
    let x := s.paths[q]
    let (b, r) := prbsBytes x.prbsTx[p]
    let s1 := s.sendOn 8 q false p (s.firefly x.beaconTx[p] 0 b)
    { s1 with lease := { s1.lease with beaconAt := some s.tick } }.modPath q fun x =>
      { x with beaconTx := upd x.beaconTx p (wrapInc 32), prbsTx := x.prbsTx.set p r, beaconTo := x.beaconTo.set p (some s.tick) }

/-- A worker checks a beacon: its number, and every PRBS bit; a missing number re-seeds. -/
def State.beaconReceive (s : State) (f : Frame) : State :=
  if s.manager || byteAt f.payload 4 != 0 || s.posOn f.path != some f.dst.toNat then s
  else
    let q := f.path
    let n := leAt f.payload 0 4
    let got := leAt f.payload 24 40
    let x := s.paths[q]
    let want := (prbsBits 320 x.prbsRx)
    let missing := match x.beaconRx with
      | some m => (n + 2 ^ 32 - (m + 1) % 2 ^ 32) % 2 ^ 32
      | none => 0
    let reseed := x.beaconRx.isNone || missing != 0
    let errors := if reseed then 0 else popCount 320 (got ^^^ want.1)
    let state := if reseed then prbsState got else want.2
    let s1 := s.modPath q fun x => { x with beaconRx := some n, prbsRx := state, beaconAt := s.tick }
    let s1 := (s1.noteErrors q errors).soakNote q errors 0
    if missing = 0 then s1 else s1.count (0xB02208 + 8 * q.val) missing
where
  /-- The register that has put out these 320 bits: the last 31 of them, newest lowest. -/
  prbsState (bits : Nat) : Nat := (List.range 31).foldl (fun a i => a * 2 + field bits (289 + i) 1) 0

/-- The tick at which the next echo request of a path is due: ECHO_PERIOD after the last, a tenth of it under STANDBY_SOAK (spec/19 R629). -/
def State.echoDue (s : State) (q : Path) : Nat :=
  match s.paths[q].echoSent with
  | some t => t + msTicks (s.rd 0xB0210E) / (if s.soaks q then 10 else 1)
  | none => s.tick

/-- A worker's echo requests, one on each path every ECHO_PERIOD. -/
def State.echoSend (s : State) : State :=
  if s.manager || s.dev == 0 || s.dev == 1 then s
  else
    let s := s.advanceTo (min (s.echoDue 0) (s.echoDue 1))
    forFin 2 s fun q a =>
      if (a.posOn q).isNone || !a.maySend (uLane q) || a.tick < a.echoDue q then a
      else
        let x := a.paths[q]
        let (b, r) := prbsBytes x.echoPrbs
        (a.sendOn 8 q true 0 (a.firefly x.echoTx 1 b)).modPath q fun x =>
          { x with echoTx := wrapInc 32 x.echoTx, echoPrbs := r, echoSent := some a.tick }

/-- The manager's lane hardware returns an echo request. -/
def State.echoReturn (s : State) (f : Frame) : State :=
  if !s.manager || byteAt f.payload 4 != 1 then s
  else s.sendOn 8 f.path false f.src.toNat (f.payload.take 4 ++ natLe 4 2 ++ f.payload.drop 8)

/-- A worker measures the round trip of an echo reply. -/
def State.echoReply (s : State) (f : Frame) (rx : Nat) : State :=
  if s.manager || byteAt f.payload 4 != 2 || s.posOn f.path != some f.dst.toNat then s
  else
    let d := stampUnits rx - stampAt f.payload 8
    let secs := fmt32.div (fmt32.ofInt d (-16)) (fmt32.ofInt 1000000000)
    ((s.wr (0xB02204 + 8 * f.path.val) secs).soakNote f.path 0 (d / 65536).toNat).modPath f.path fun x =>
      { x with echoAt := s.tick }

/-! ### Health (spec/15 R504) -/

/-- The cause that makes a path BAD now, none where none does; 0 where the path is BAD for what no code stands for: the lane not UP without LOS or LOL, the position lost. -/
def State.badCause (s : State) (q : Path) (ber : Nat) : Option Nat :=
  let i := s.judged q
  let x := s.paths[q]
  if x.stuck then some 9
  else if q = 1 && s.bitAt 0xB03003 3 then some 11
  else if !s.laneUp i then some (if s.bitAt (kLane i 2) 0 then 1 else if s.bitAt (kLane i 2) 1 then 2 else 0)
  else if (s.posOn q).isNone then some 0
  else if !s.manager && s.tick > x.beaconAt + 3 * usTicks (s.rd 0xB0210D) then some 7
  else if !s.manager && s.tick > x.echoAt + 2 * msTicks (s.rd 0xB0210E) then some 8
  else if fmt32.le (s.rd 0xB02110) ber then some 10
  else none

/-- BER_EST; of no bits it is open (log entry 159). -/
def State.berOf (s : State) (errors bits : Nat) : Nat × State :=
  if bits = 0 then
    let (v, s1) := s.freeVal
    (v % 2 ^ 32, s1)
  else (fmt32.div (fmt32.ofInt errors) (fmt32.ofInt bits), s)

/-- A path is BAD with a cause; one that no code stands for is open (log entry 46). -/
def State.badPath (s : State) (q : Path) (cause : Nat) : State :=
  let s1 := s.modPath q fun x => { x with goodAt := none }
  if cause = 0 && s1.rd (0xB02201 + 8 * q.val) != 1 then
    let (v, s2) := s1.freeVal
    s2.setHealth q 1 (v % 256)
  else s1.setHealth q 1 cause

/-- The evaluation of a path, a millisecond after the last: line bits of the last second, and code errors in blocks that no command has told of, on the evaluated lane and on the other, since the last evaluation. -/
def State.evalHealth (s : State) (q : Path) (bits errors others margin : Nat) : State :=
  let s := s.advanceTo (s.paths[q].evalAt + msTicks 1)
  let i := s.judged q
  let s := ((s.codeErrorsOn i errors).codeErrorsOn (if i = dLane q then uLane q else dLane q) others).modPath q fun x =>
    { x with evalAt := s.tick }
  let recent := s.paths[q].errs.filter fun e => s.tick < e.1 + 625000000
  let e := (recent.map fun x => x.2).sum
  let (ber, s) := s.berOf e bits
  let k := 0xB02201 + 8 * q.val
  let s1 := (s.wrAll [(k + 1, ber), (k + 2, bits), (k + 4, margin)]).modPath q fun x =>
    { x with errs := recent }
  match s1.badCause q ber with
  | some c => s1.badPath q c
  | none =>
    if fmt32.lt (s1.rd 0xB0210F) ber then
      (s1.modPath q fun x => { x with goodAt := none }).setHealth q 2 0
    else
      let t := s1.paths[q].goodAt.getD s1.tick
      let s2 := s1.modPath q fun x => { x with goodAt := some t }
      s2.setHealth q (if s2.tick ≥ t + msTicks (s2.rd 0xB02111) then 3 else 2) 0

/-! ### CAN lease (spec/15 R497) -/

/-- The CAN lease moves to a channel with a fresh CAN_LEASE_MS. -/
def State.setCanHolder (s : State) (u : Nat) : State :=
  let ms := s.rd 0xB0210B
  let s1 := (s.wr 0xB02002 u).wrBit 0xB02003 3 false
  { s1 with lease := { s1.lease with
      canFrom := some s.tick
      canUntil := if ms = 0 || s.pselLow then none else some (s.tick + msTicks ms) } }.pathSources.updRevert

/-- CAN_LEASE_MS takes a value: 0 ends the count; another counts from the last renewal, and from now where there was none (spec/15 R497; log entry 19). -/
def State.setCanLease (s : State) (v : Nat) : State :=
  let s1 := s.wr 0xB0210B v
  let from_ := s.lease.canFrom.getD s.tick
  let until_ := if v = 0 || s.pselLow || s.bitAt 0xB02003 3 then none else some (from_ + msTicks v)
  { s1 with lease := { s1.lease with canUntil := until_, canFrom := some from_ } }

/-- The holder releases the CAN lease: the other channel takes it where it is GOOD, else it lapses. -/
def State.canRelease (s : State) : State :=
  if s.pselLow then s
  else
    let other := 1 - s.rd 0xB02002
    if s.rd (0xB02211 + other) == 3 then ((s.setCanHolder other).count 0xB02009).raise 104
    else
      let s1 := s.wrBit 0xB02003 3 true
      { s1 with lease := { s1.lease with canUntil := none } }.pathSources

/-- CAN_LEASE_MS passes without a renewal. -/
def State.canExpires (s : State) : State :=
  match s.lease.canUntil with
  | none => s
  | some t => (s.advanceTo t).canRelease

/-- REVERT_HOLDOFF of unbroken GOOD: the Orsolane lease moves at its next STRING frame, the CAN lease at once (spec/15 R493, R497). -/
def State.revertReady (s : State) (can : Bool) : State :=
  let d := msTicks (s.rd 0xB02103)
  if can then
    match s.lease.canRevertFrom with
    | some t => (((s.advanceTo (t + d)).setCanHolder (s.rd 0xB0210C)).count 0xB02009).raise 104
    | none => s
  else
    match s.lease.revertFrom with
    | some t =>
      let s1 := s.advanceTo (t + d)
      { s1 with lease := { s1.lease with revertDue := true } }
    | none => s

/-! ### The commands -/

def execOrsolaneDueInstant (s : State) : Out := .next s.dueInstant
def execLeaseExpiry (s : State) : Out := .next s.leaseExpires
def execLeaseFrameRenew (f : Frame) (s : State) : Out := .next (s.frameRow f fun a => a.leaseFrame f 0)
def execLeaseFrameRelease (f : Frame) (s : State) : Out := .next (s.frameRow f fun a => a.leaseFrame f 1)
def execLeaseFrameRevert (f : Frame) (s : State) : Out := .next (s.frameRow f fun a => a.leaseFrame f 2)
def execRevertHoldoffExpiry (can : Bool) (s : State) : Out := .next (s.revertReady can)
def execPselNChange (low : Bool) (ticks : BitVec 32) (s : State) : Out := .next (s.pselChange low ticks.toNat)
def execPselHoldoffExpiry (s : State) : Out := .next s.pselHoldoff
def execPselStuck (s : State) : Out := .next s.pselStuck
def execFireflyBeaconSend (p : Fin 32) (q : Path) (s : State) : Out := .next (s.beaconSend p q)
def execFireflyBeaconReceive (f : Frame) (s : State) : Out := .next (s.frameRow f fun a => a.beaconReceive f)
def execFireflyEchoSend (s : State) : Out := .next s.echoSend
def execFireflyEchoRequestReceive (f : Frame) (s : State) : Out :=
  .next (s.frameRow f fun a => a.echoReturn f)
def execFireflyEchoReplyReceive (f : Frame) (rxTime : BitVec 128) (s : State) : Out :=
  .next (s.frameRow f fun a => a.echoReply f rxTime.toNat)
def execHealthEvaluation (q : Path) (bits : BitVec 64) (errors others : BitVec 32) (margin : F32) (s : State) : Out :=
  .next (s.evalHealth q bits.toNat errors.toNat others.toNat margin.toNat)
def execCanLeaseExpiry (s : State) : Out := .next s.canExpires

end Sys2Proof.Machine
end

