-- ==== Sys2Proof/Machine/Can.lean ====
section
/-! DEFINITION. The CAN FD controllers: bit timing, message objects, transmission, errors and bus-off, the timestamp queue, the system objects (spec/16, spec/17 R545 to R548). -/

namespace Sys2Proof.Machine

/-- MODE in force, bit i (spec/16 R540). -/
def State.canMode (s : State) (u : Fin 2) (i : Nat) : Bool := bit s.can[u].timing[(0 : Fin 10)] i

/-- Bus-off; silenced as a duplicate node (spec/16 R527, R532). -/
def State.busOff (s : State) (u : Fin 2) : Bool := s.rd (kErr u 3) == 2
def State.silenced (s : State) (u : Fin 2) : Bool := s.rd (kErr u 0x0A) == 1
def State.monitoring (s : State) (u : Fin 2) : Bool := s.bitAt (kTiming u 0x0F) 2

/-- Restricted mode (spec/16 R525). -/
def State.restricted (s : State) (u : Fin 2) : Bool := s.canMode u 7 || s.dev == 5 || s.silenced u

/-! ### Bit timing (spec/16 R512 to R514) -/

/-- The stored timing set of a controller. -/
def State.storedTiming (s : State) (u : Fin 2) : CanTiming := Vector.ofFn fun i => s.rd (kTiming u (1 + i.val))

/-- Quanta of a nominal and of a data bit; kernel clocks of one bit. -/
def nomQuanta (t : CanTiming) : Nat := 1 + t[(2 : Fin 10)] + t[(3 : Fin 10)]
def dataQuanta (t : CanTiming) : Nat := 1 + t[(6 : Fin 10)] + t[(7 : Fin 10)]
def nomClocks (t : CanTiming) : Nat := t[(1 : Fin 10)] * nomQuanta t
def dataClocks (t : CanTiming) : Nat := t[(5 : Fin 10)] * dataQuanta t

/-- The checks of APPLY (spec/16 R513). -/
def timingOk (t : CanTiming) : Bool :=
  80 ≤ nomClocks t && nomClocks t ≤ 8000 && 8 ≤ nomQuanta t &&
    10 ≤ dataClocks t && dataClocks t ≤ nomClocks t && 5 ≤ dataQuanta t &&
    t[(4 : Fin 10)] ≤ t[(3 : Fin 10)] && t[(8 : Fin 10)] ≤ t[(7 : Fin 10)] &&
    !(bit t[(0 : Fin 10)] 3 && nomClocks t < 640)

/-- A timing set comes into force with its rates (spec/16 R512). -/
def State.setTiming (s : State) (u : Fin 2) (t : CanTiming) : State :=
  let rate (n : Nat) := fmt32.div (fmt32.ofInt 80000000) (fmt32.ofInt n)
  (s.wrAll [(kTiming u 0x0C, rate (nomClocks t)), (kTiming u 0x0D, rate (dataClocks t))]).modCan u fun c =>
    { c with timing := t }

/-- Ticks of n nominal bits on the kernel clock of 12.5 ns (spec/03 R63, spec/16 R512). -/
def bitTicks (t : CanTiming) (n : Nat) : Nat := ceilDiv (n * nomClocks t * 125) 16

/-- The controller waits for 11 recessive bits from now (spec/16 R513, R517, R526). -/
def State.integrate (s : State) (u : Fin 2) : State :=
  (s.wrBit (kTiming u 0x0F) 1 true).modCan u fun c => { c with integAt := s.tick }

/-- The tick at which a controller that integrates has seen 11 recessive bits at the earliest. -/
def State.integrated (s : State) (u : Fin 2) : Nat :=
  if s.bitAt (kTiming u 0x0F) 1 then s.can[u].integAt + bitTicks s.can[u].timing 11 else s.tick

/-- RECOVERY_REMAINING as it stands now, for a read: recovery counts it down with every sequence that the bus shows; no fewer are left than an idle bus leaves and no more than when it was last looked at, which number between is a free value (spec/16 R531; log entry 160). -/
def State.countRecovery (s : State) (u : Fin 2) : State :=
  match s.can[u].recovering with
  | none => s
  | some t =>
    let was := s.rd (kErr u 7)
    let least := 128 - (s.tick - t) / bitTicks s.can[u].timing 11
    let (n, s) := s.freeIn (min least was) was
    s.wr (kErr u 7) n

/-- An accepted APPLY waits; a later one replaces it (spec/16 R513). -/
def State.canApply (s : State) (u : Fin 2) : State :=
  (s.wrBit (kTiming u 0x0F) 0 true).modCan u fun c => { c with apply := some (s.tick, s.storedTiming u) }

/-- ENABLE and RESTRICTED of the stored MODE come into force between frames; ENABLE 0 cancels every pending object (spec/16 R514, R538). -/
def State.canModeBits (s : State) (u : Fin 2) : State :=
  if s.can[u].tx.isSome then s
  else
    let m := s.can[u].timing[(0 : Fin 10)]
    let w := s.rd (kTiming u 1)
    let m' := setBit (setBit m 0 (bit w 0)) 7 (bit w 7)
    s.modCan u fun c =>
      { c with
        timing := c.timing.set 0 m'
        msg := if bit m' 0 then c.msg else updAll c.msg fun _ x => { x with ostat := setBit x.ostat 0 false }
        requeue := if bit m' 0 then c.requeue else none }

/-- The first bus idle 10 ms or more after APPLY: the new timing, then integration (spec/16 R513). -/
def State.canTimingChange (s : State) (u : Fin 2) : State :=
  match s.can[u].apply with
  | none => s
  | some (t, set_) =>
    if s.can[u].tx.isSome then s
    else
      let s1 := s.advanceTo (t + msTicks 10)
      let m := s1.can[u].timing[(0 : Fin 10)]
      let mode := setBit (setBit set_[(0 : Fin 10)] 0 (bit m 0)) 7 (bit m 7)
      let s2 := (s1.setTiming u (set_.set 0 mode)).modCan u fun c => { c with apply := none }
      (s2.wrBit (kTiming u 0x0F) 0 false).integrate u

/-- The controllers at BOOT: the restored timing where it passes, else the defaults with DEFAULTED (spec/16 R514). -/
def State.canBoot (s : State) (u : Fin 2) : State :=
  if timingOk (s.storedTiming u) then s.setTiming u (s.storedTiming u)
  else (s.setTiming u CanSt.init.timing).wrBit (kTiming u 0x0F) 5 true

/-! ### Health and sources (spec/15 R497, spec/16 R527) -/

/-- CAN health of a controller; the holder that enters BAD releases the lease. -/
def State.canHealth (s : State) (u : Fin 2) : State :=
  let k := 0xB02211 + u.val
  let was := s.rd k
  let h := if s.busOff u || s.silenced u then 1 else if s.rd (kErr u 0x0D) = 0 then 0
    else if s.rd (kErr u 3) = 1 then 2 else 3
  let s1 := s.wr k h
  let s2 := if h = 1 && was != 1 && s1.rd 0xB02002 == u.val then s1.canRelease else s1
  s2.updRevert

/-- ERROR_STATE and the sources of a controller follow its counters; a counter above 127 keeps source 107 + 3u asserted in bus-off too, as the worked example has it (spec/16 R527, R531). -/
def State.canState (s : State) (u : Fin 2) : State :=
  let st := if s.rd (kErr u 1) > 255 then 2
    else if s.rd (kErr u 1) > 127 || s.rd (kErr u 2) > 127 then 1 else 0
  let s1 := s.wr (kErr u 3) st
  let s2 := (s1.levelSrc (107 + 3 * u.val) (st != 0 || s1.rd (kStamps u 3) == 1)).levelSrc
    (108 + 3 * u.val) (st == 2)
  (s2.levelSrc (109 + 3 * u.val) (s2.silenced u)).canHealth u

/-! ### Message objects (spec/16 R518 to R524) -/

/-- The record of an object. -/
def recordBytes (m : MsgObj) : Bytes :=
  natLe 4 m.ident ++ natLe 4 m.mask ++ natLe 1 m.octrl ++ natLe 1 m.dlc ++ natLe 1 m.tag ++ natLe 1 m.ostat ++
    natLe 4 m.tsNs ++ m.data

/-- VALID, DIR, SINGLE_SHOT, TS_EN of an object; PENDING. -/
def isValid (m : MsgObj) : Bool := bit m.octrl 0
def isTx (m : MsgObj) : Bool := bit m.octrl 1
def isPending (m : MsgObj) : Bool := bit m.ostat 0

/-- The data length of a DLC, and the least DLC that holds n bytes (spec/16 R510). -/
def dlcLen (d : Nat) : Nat :=
  if d ≤ 8 then d else if d ≤ 12 then 12 + 4 * (d - 9) else if d = 13 then 32 else if d = 14 then 48 else 64
def dlcFor (n : Nat) : Nat := ((List.range 16).find? fun d => n ≤ dlcLen d).getD 15

/-- 64 bytes of data. -/
def pad64 (d : Bytes) : Bytes := (d ++ List.replicate 64 0).take 64

/-- A request of an object for transmission, which takes part in arbitration 125 ns typical to 192 ns after the write, a free value between; FDF without FD_EN fails (spec/16 R523, spec/03 R59; log entry 151). -/
def State.requestTx (s : State) (u : Fin 2) (n : Nat) : State :=
  let m := s.msg u n
  if !isValid m || !isTx m then s
  else if bit m.ident 30 && !s.canMode u 1 then
    s.modMsg u n fun m => { m with ostat := setBit (clearMask m.ostat 0x21) 4 true }
  else
    let (d, s) := s.freeIn 60 120
    (s.modMsg u n fun m => { m with ostat := setBit m.ostat 0 true, readyAt := s.tick + d }).modCan u fun c =>
      { c with tx := c.tx.map fun t => if t.obj == n && !t.requeued then { t with again := true } else t }

/-- A request cancelled: a frame on the bus runs to its end without retry, a copy not yet started goes too; a message kept with FIRST is one no longer (spec/16 R524, R530; log entry 160). -/
def State.cancelTx (s : State) (u : Fin 2) (n : Nat) : State :=
  let s1 := (s.modMsg u n fun m => { m with ostat := clearMask m.ostat 0x21 }).modCan u fun c =>
    { c with tx := c.tx.map fun t =>
        if t.obj == n && !t.requeued then { t with cancelled := true, again := false } else t }
  s1.modCan (otherCan u) fun c =>
    { c with requeue := match c.requeue with
        | some q => if q.obj == n then none else some q
        | none => none }

/-- A write of 16 or 80 bytes to an object (spec/16 R520, R523, R524). -/
def State.writeMsg (s : State) (u : Fin 2) (n : Nat) (d : Bytes) : State :=
  let old := s.msg u n
  let oc := byteAt d 8 % 16
  let keep := if bit oc 1 then old.ostat else clearMask old.ostat 6
  let m : MsgObj :=
    { ident := leAt d 0 4, mask := leAt d 4 4 % 2 ^ 30, octrl := oc, dlc := byteAt d 9 % 16, tag := byteAt d 10,
      ostat := keep, tsNs := leAt d 12 4, data := if d.length = 80 then d.drop 16 else old.data,
      readyAt := old.readyAt }
  let s1 := s.modMsg u n fun _ => m
  if bit (byteAt d 11) 0 && bit oc 0 && bit oc 1 then s1.requestTx u n else s1.cancelTx u n

/-- A read of an object clears NEW and MSGLOST (spec/16 R522). -/
def State.clearNew (s : State) (u : Fin 2) (n : Nat) : State :=
  s.modMsg u n fun m => { m with ostat := clearMask m.ostat 6 }

/-- Whether a receive object takes a frame (spec/16 R521). -/
def matches_ (m : MsgObj) (f : CanFrame) : Bool :=
  isValid m && !isTx m &&
    (f.id.toNat &&& (m.mask % 2 ^ 29)) == (m.ident % 2 ^ 29 &&& (m.mask % 2 ^ 29)) &&
    (!bit m.mask 29 || bit m.ident 29 == f.ext)

/-- The object that stores a frame: the lowest matching one whose NEW is 0, else the lowest matching one. -/
def State.storesAt (s : State) (u : Fin 2) (f : CanFrame) : Option Nat :=
  let c := (List.range 100).map (· + 1) |>.filter fun n => matches_ (s.msg u n) f
  match c.find? fun n => !bit (s.msg u n).ostat 1 with
  | some n => some n
  | none => c.head?

/-- A successful reception lowers REC (ISO 11898-1, log entry 20). -/
def State.recDown (s : State) (u : Fin 2) : State :=
  let r := s.rd (kErr u 2)
  if s.restricted u || s.monitoring u || r = 0 then s
  else if r ≤ 127 then (s.wr (kErr u 2) (r - 1)).canState u
  else
    let (f, s1) := s.freeVal
    (s1.wr (kErr u 2) (119 + f % 9)).canState u

/-- A valid frame received from another node; a controller that still integrates takes no part; in a WDP object a classical or extended frame, or a request of fewer than 8 bytes, is counted and ignored (spec/16 R510, R513, R521; spec/17 R547, R549). -/
def State.canReceive (s : State) (u : Fin 2) (f : CanFrame) : State :=
  if s.inReset || !s.canMode u 0 || s.busOff u || (f.fd && !s.canMode u 1) || s.tick < s.integrated u then s
  else
    let s1 := (((s.wrBit (kTiming u 0x0F) 1 false).count (kErr u 0x0D)).recDown u).canHealth u
    if f.rtr then s1
    else
      match s1.storesAt u f with
      | none => s1
      | some n =>
        let ident := f.id.toNat + (if f.ext then 2 ^ 29 else 0) + (if f.fd then 2 ^ 30 else 0) +
          (if f.brs then 2 ^ 31 else 0)
        let lost := bit (s1.msg u n).ostat 1
        let s2 := s1.modMsg u n fun m =>
          { m with
            ident := ident
            dlc := f.dlc.toNat
            tsNs := s1.ns
            data := pad64 f.data
            ostat := setBit (setBit (setBit m.ostat 1 true) 2 (lost || bit m.ostat 2)) 6 f.esi }
        if n ≤ 20 && (!f.fd || f.ext || (7 ≤ n && f.data.length < 8)) then (s2.clearNew u n).count 0xC04204 else s2

/-! ### Function 7, event, status and TIME telegrams (spec/17 R546 to R548) -/

/-- A transmit system object loaded with a telegram and requested. -/
def State.loadSystem (s : State) (u : Fin 2) (n ident : Nat) (d : Bytes) : State :=
  let brs := if s.rd 0xC04101 == 1 then 2 ^ 31 else 0
  let s1 := s.modMsg u n fun m =>
    { m with ident := ident + 2 ^ 30 + brs, dlc := dlcFor d.length, data := pad64 d }
  s1.requestTx u n

/-- Object 21 takes the next waiting response while it is not PENDING; one that fails at once makes room for the next (spec/17 R548). -/
def State.loadNext (u : Fin 2) : Nat → State → State
  | 0, s => s
  | n + 1, s =>
    match s.wdp.out[u] with
    | [] => s
    | t :: ts =>
      if isPending (s.msg u 21) || !isValid (s.msg u 21) then s
      else
        State.loadNext u n { s.loadSystem u 21 (7 * 128 + t.node) t.data with
          wdp := { s.wdp with out := s.wdp.out.set u ts } }

/-- Whether the cyclic telegrams, events and TIME are sent: a served device with a node, outside COCOON (spec/16 R526). -/
def State.speaks (s : State) : Bool := s.power.supervisor && s.dev != 0 && s.dev != 5 && s.node != 0

/-- The controller of the CAN holder (spec/15 R496). -/
def State.canHolder (s : State) : Fin 2 := ⟨s.rd 0xB02002 % 2, by omega⟩

/-- An event telegram of a source with its class as it stands (spec/17 R568, spec/12 R401). -/
def State.eventBytes (s : State) (source position : Nat) (relayed : Bool) (sticky : Nat) : Bytes :=
  natLe 1 source ++ natLe 1 (s.classOf source) ++ natLe 1 position ++ natLe 1 (if relayed then 1 else 0) ++
    natLe 4 0 ++ natLe 16 sticky

/-- Whether an event message is relayed; the source of the device's own message that stands in an object 22, not yet sent. -/
def relayed (d : Bytes) : Bool := byteAt d 3 == 1
def ownEvent (l : List Bytes) : Option Nat := (l.find? fun d => !relayed d).map fun d => byteAt d 0

/-- Object 22 of the holder takes the next event message when it is not PENDING: of the marked sources the lowest whose message does not stand in the other controller, with the class and the words of now; then the oldest source that a worker's EVENT frame named. One that could not be sent is taken again (spec/12 R401, R403, spec/17 R548, R568). -/
def State.loadEvent (s : State) (u : Fin 2) : State :=
  if !s.speaks || s.canHolder != u || isPending (s.msg u 22) || !isValid (s.msg u 22) then s
  else
    let load (a : State) (d : Bytes) : State :=
      { a.loadSystem u 22 (4 * 128 + a.node) d with wdp := { a.wdp with events := a.wdp.events.set u [d] } }
    let own := (bitsOf 128 s.collector.wdpMarks.toNat).find? fun n =>
      ownEvent s.wdp.events[otherCan u] != some n
    match s.wdp.events[u].find? relayed, own, s.collector.relay with
    | some d, _, _ => load s d
    | none, some n, _ => load s (s.eventBytes n (s.rd kPosition) false s.stickyMap.toNat)
    | none, none, x :: xs =>
      load { s with collector := { s.collector with relay := xs } } (s.eventBytes x.2.1 x.1 true x.2.2)
    | none, none, [] => s

/-- The event message of a controller's object 22 has been sent: the mark of its source clears (spec/12 R401). -/
def State.eventSent (s : State) (u : Fin 2) : State :=
  let clear := match ownEvent s.wdp.events[u] with
    | some n => 1#128 <<< n
    | none => 0
  { s with
    wdp := { s.wdp with events := s.wdp.events.set u [] }
    collector := { s.collector with wdpMarks := s.collector.wdpMarks &&& ~~~clear } }

/-- Objects 21 and 22 take what waits for them. -/
def State.loadOut (s : State) (u : Fin 2) : State := (State.loadNext u s.wdp.out[u].length s).loadEvent u

/-! ### Transmission (spec/16 R523 to R526, R529 to R534) -/

/-- The order in which identifiers win arbitration: the smaller number wins. -/
def arbRank (ident : Nat) : Nat :=
  if bit ident 29 then field ident 18 11 * 2 ^ 19 + 2 ^ 18 + ident % 2 ^ 18 else ident % 2 ^ 11 * 2 ^ 19

/-- Whether a controller may start object n now, 0 the re-queue buffer: restricted mode and COCOON (spec/16 R525, R526). -/
def State.maySendObj (s : State) (u : Fin 2) (n : Nat) : Bool :=
  let response := n == 21 || (n == 0 && match s.can[u].requeue with
    | some q => q.obj == 21
    | none => false)
  !s.restricted u || (s.dev == 5 && response && !s.silenced u && !s.canMode u 7)

/-- The frame of a record as a controller sends it: 8 bytes at most without FDF, BRS only with FDF and BRS_EN, ESI while error passive (spec/16 R510, R523). -/
def State.sentFrame (s : State) (u : Fin 2) (m : MsgObj) : CanFrame :=
  let fd := bit m.ident 30
  { id := BitVec.ofNat 29 (if bit m.ident 29 then m.ident else m.ident % 2 ^ 11), ext := bit m.ident 29, fd := fd,
    brs := fd && bit m.ident 31 && s.canMode u 2, rtr := false, esi := fd && s.rd (kErr u 3) == 1,
    data := m.data.take (if fd then dlcLen m.dlc else min m.dlc 8), dlc := BitVec.ofNat 4 m.dlc }

/-- The highest-ranked pending object of a controller among those allowed, of equals the lowest number; 0 stands for the re-queue buffer, whose copy has its object's number (spec/16 R524, R529). -/
def State.topMsg (s : State) (u : Fin 2) (allowed : Nat → Bool) : Option Nat :=
  let objs := (List.range 100).map (· + 1) |>.filter fun n =>
    isPending (s.msg u n) && isValid (s.msg u n) && isTx (s.msg u n)
  let all_ := (if s.can[u].requeue.isSome then [0] else []) ++ objs
  let rank (n : Nat) : Nat :=
    if n = 0 then (s.can[u].requeue.map fun q => 128 * (1 + arbRank q.m.ident) + q.obj).getD 0
    else n + 128 * (if bit (s.msg u n).ostat 5 then 0 else 1 + arbRank (s.msg u n).ident)
  (all_.filter allowed).foldl (fun b n =>
    match b with
    | none => some n
    | some m => if rank n < rank m then some n else some m) none

/-- Without FD_EN in force a pending frame of FD format is not sent: it fails (spec/16 R523). -/
def State.dropFd (s : State) (u : Fin 2) : State :=
  if s.canMode u 1 then s
  else
    let fails (_ : Fin 100) (m : MsgObj) : MsgObj :=
      let bad := isPending m && isValid m && isTx m && bit m.ident 30
      if bad then { m with ostat := setBit (clearMask m.ostat 0x21) 4 true } else m
    let s1 := s.modCan u fun c => { c with msg := updAll c.msg fails }
    match s1.can[u].requeue with
    | some q =>
      if bit q.m.ident 30 then
        (s1.modCan u fun c => { c with requeue := none }).modMsg (otherCan u) q.obj fun m =>
          { m with ostat := setBit (setBit m.ostat 5 false) 4 true }
      else s1
    | none => s1

/-- Whether object n, or the copy in the re-queue buffer, takes part in an arbitration that begins now (spec/16 R523, R529). -/
def State.ready (s : State) (u : Fin 2) (n : Nat) : Bool :=
  (if n = 0 then (s.can[u].requeue.map fun q => q.m.readyAt).getD 0 else (s.msg u n).readyAt) ≤ s.tick

/-- A transmission of object n that starts now; 0 stands for the re-queue buffer. -/
def State.newTx (s : State) (u : Fin 2) (n : Nat) : CanTx :=
  let own : CanTx := ⟨n, false, s.msg u n, false, false, s.net, s.bitAt kFlags 3, s.sentFrame u (s.msg u n)⟩
  match s.can[u].requeue with
  | some q => if n = 0 then { q with sof := s.net, coarse := s.bitAt kFlags 3, frame := s.sentFrame u q.m } else own
  | none => own

/-- The controller starts its highest-ranked pending object, once it has integrated (spec/16 R513, R515, R517, R523, R524, R534). -/
def State.canStart (s : State) (u : Fin 2) : State :=
  if s.inReset || s.can[u].tx.isSome || !s.canMode u 0 || s.busOff u || s.monitoring u || !s.clock.refPresent then s
  else
    let s := ((s.advanceTo (s.integrated u)).dropFd u).loadOut u
    match s.topMsg u fun n => s.maySendObj u n && s.ready u n with
    | none => s
    | some n =>
      let s1 := s.wrBit (kTiming u 0x0F) 1 false
      let t := s1.newTx u n
      let s2 := s1.modCan u fun c => { c with tx := some t, requeue := if n = 0 then none else c.requeue }
      if bit t.m.ident 30 && bit t.m.ident 31 && s2.canMode u 2 && s2.canMode u 5 then
        let (v, s3) := s2.freeVal
        (s3.wr (kTiming u 0x0E) (min (v % 1024) 511)).wrBit (kTiming u 0x0F) 3 (511 < v % 1024)
      else s2

/-- A timestamp entry of a sent frame (spec/16 R534, R535, R537). -/
def State.stampEntry (s : State) (u : Fin 2) (t : CanTx) : State :=
  if !bit t.m.octrl 3 then s
  else if s.can[u].stamps.length ≥ 16 then
    ((s.wr (kStamps u 3) 1).countSat (kStamps u 4)).canState u
  else
    let fl := (if t.requeued then 1 else 0) + (if t.coarse then 2 else 0)
    let e := natLe 1 t.obj ++ natLe 1 t.m.tag ++ natLe 1 fl ++ natLe 1 0 ++ natLe 4 t.sof.sec ++
      natLe 4 (t.sof.acc / 2 ^ 32)
    s.modCan u fun c => { c with stamps := c.stamps ++ [e] }

/-- The controller whose object a frame comes from. -/
def txHome (u : Fin 2) (t : CanTx) : Fin 2 := if t.requeued then otherCan u else u

/-- A transmission succeeds (spec/16 R524, R530, R531; TEC falls by ISO 11898-1, log entry 20). -/
def State.txDone (s : State) (u : Fin 2) (t : CanTx) : State :=
  let h := txHome u t
  let s1 := (s.count (kErr u 0x0C)).modCan u fun c => { c with tx := none }
  let s2 := s1.modMsg h t.obj fun m =>
    { m with
      tsNs := t.sof.acc / 2 ^ 32
      ostat := if t.requeued then clearMask m.ostat 0x30
        else setBit (clearMask m.ostat 0x31) 0 t.again }
  let s3 := (if t.obj = 22 then s2.eventSent h else s2).stampEntry u t
  let tec := s3.rd (kErr u 1)
  let s4 := if s3.restricted u && s3.dev != 5 then s3 else s3.wr (kErr u 1) (tec - 1)
  let s5 := if t.obj = 24 && h = s4.wdp.timeCan then { s4 with wdp := { s4.wdp with timeValid := true } } else s4
  (s5.canState u).canModeBits u

/-- An attempt ends without success: a single shot has failed, cancelled or not, a cancelled frame ends, any other stays pending (spec/16 R524, R531). -/
def State.txFail (s : State) (u : Fin 2) (t : CanTx) : State :=
  let s1 := s.modCan u fun c => { c with tx := none }
  let single := bit t.m.octrl 2
  let s2 := if t.requeued then
      if single then s1.modMsg (otherCan u) t.obj fun m => { m with ostat := setBit (setBit m.ostat 5 false) 4 true }
      else if t.cancelled then s1
      else s1.modCan u fun c => { c with requeue := some t }
    else if single && !t.again then
      s1.modMsg u t.obj fun m =>
        { m with ostat := setBit (clearMask m.ostat 0x21) 4 true }
    else s1
  let s3 := if t.obj = 24 && txHome u t = s2.wdp.timeCan then { s2 with wdp := { s2.wdp with timeValid := false } } else s2
  s3.canModeBits u

/-- A transmission ends. -/
def State.canComplete (s : State) (u : Fin 2) (ok : Bool) : State :=
  match s.can[u].tx with
  | none => s
  | some t => (if ok then s.txDone u t else s.txFail u t).loadOut u

/-! ### Errors (spec/16 R527 to R533) -/

/-- The top message at bus-off moves to the other controller's re-queue buffer, the copy complete 150 ns typical to 250.5 ns later, or stays with FIRST; where the copy of the other controller's message ranks first, nothing moves (spec/16 R529, R530; log entries 151, 160). -/
def State.requeueTop (s : State) (u : Fin 2) : State :=
  match s.topMsg u fun _ => true with
  | none => s
  | some n =>
    if n = 0 then s
    else
      let o := otherCan u
      let sending := match s.can[o].tx with
        | some x => x.requeued
        | none => false
      let takes := s.canMode o 0 && !s.busOff o && !s.silenced o && s.can[o].requeue.isNone && !sending &&
        (s.rd 0xB02002 == o.val || s.rd (0xB02211 + o.val) == 3)
      if takes then
        let (d, s) := s.freeIn 77 157
        let m := { s.msg u n with readyAt := s.tick + d }
        let copy : CanTx := ⟨n, true, m, false, false, ⟨0, 0⟩, false, s.sentFrame o m⟩
        ((s.modCan o fun c => { c with requeue := some copy }).modMsg u n fun m =>
          { m with ostat := setBit (setBit m.ostat 0 false) 3 true }).count (kErr u 0x0F)
      else s.modMsg u n fun m => { m with ostat := setBit m.ostat 5 true }

/-- Recovery from bus-off starts (spec/16 R531). -/
def State.startRecovery (s : State) (u : Fin 2) : State :=
  (s.wr (kErr u 7) 128).modCan u fun c => { c with recovering := some s.tick }

/-- Bus-off is entered; the frame under way has ended, a re-queued copy waits in its buffer, and what object 21 gives up makes room for the next response (spec/16 R514, R529 to R531; spec/17 R548). -/
def State.enterBusOff (s : State) (u : Fin 2) : State :=
  let back (c : CanSt) : Option CanTx := match c.tx with
    | some t => if t.requeued then some t else c.requeue
    | none => c.requeue
  let s1 := (((s.count (kErr u 6)).modCan u fun c => { c with tx := none, requeue := back c }).canState u).canModeBits u
  let s2 := s1.requeueTop u
  (if s2.canMode u 6 then s2.startRecovery u else s2).loadOut u

/-- A collision; the fourth within 1,000 ms declares a duplicate node (spec/16 R532). -/
def State.collide (s : State) (u : Fin 2) : State :=
  let cs := (s.tick :: s.can[u].collisions).take 4
  let s1 := (s.count (kErr u 9)).modCan u fun c => { c with collisions := cs }
  if cs.length = 4 && s.tick ≤ cs.getD 3 0 + msTicks 1000 then (s1.wr (kErr u 0x0A) 1).canState u else s1

/-- TEC and REC after an error: a transmitter adds 8, but for an acknowledgement error while error passive and a recessive stuff bit of the arbitration field read dominant; a receiver adds 1, and 8 in its own flag or at the dominant bit after it (ISO 11898-1, log entry 20); restricted mode and bus monitoring keep them (spec/16 R517, R526, R527). -/
def State.errCounts (s : State) (u : Fin 2) (code : Nat) (transmitter : Bool) (place : CanPlace) : State :=
  let passive := s.rd (kErr u 3) == 1
  if (s.restricted u && !(s.dev == 5 && s.can[u].tx.isSome)) || s.monitoring u || code = 7 then s
  else if transmitter then
    if (code = 3 && passive) || (code = 1 && place == .arbitrationStuff) then s
    else s.wr (kErr u 1) (s.rd (kErr u 1) + 8)
  else s.wr (kErr u 2) (min (s.rd (kErr u 2) + if place == .ownFlag then 8 else 1) 65535)

/-- Whether the frame being sent comes from the controller's own object. -/
def State.sendsOwn (s : State) (u : Fin 2) : Bool :=
  match s.can[u].tx with
  | some x => !x.requeued
  | none => false

/-- A protocol error or exception is detected; a recessive res bit is a form error without PEX; in restricted mode 11 recessive bits follow (spec/16 R510, R526 to R532). -/
def State.canError (s : State) (u : Fin 2) (code : Nat) (dataPhase transmitter collision : Bool) (place : CanPlace) :
    State :=
  if s.inReset || !s.canMode u 0 || s.busOff u || code = 0 || 7 < code then s
  else
    let code := if code = 7 && !s.canMode u 4 then 2 else code
    let transmitter := transmitter && s.can[u].tx.isSome
    let s1 := (s.wr (kErr u (if dataPhase then 5 else 4)) code).count
      (kErr u (if code = 7 then 0x10 else 0x0E))
    let s2 := (s1.errCounts u code transmitter place).canState u
    let s3 := if collision && transmitter && code = 4 && s2.sendsOwn u then s2.collide u else s2
    let s3 := if s3.restricted u && !transmitter then s3.integrate u else s3
    if s3.rd (kErr u 1) > 255 then s3.enterBusOff u
    else if transmitter then
      match s3.can[u].tx with
      | some t => (s3.txFail u t).loadOut u
      | none => s3
    else s3

/-- 128 sequences of 11 recessive bits: error active again (spec/16 R531). -/
def State.canRecovered (s : State) (u : Fin 2) : State :=
  match s.can[u].recovering with
  | none => s
  | some t =>
    let s := s.advanceTo (t + bitTicks s.can[u].timing 1408)
    ((s.wrAll [(kErr u 1, 0), (kErr u 2, 0), (kErr u 7, 0)]).modCan u fun c =>
      { c with recovering := none }).canState u

/-- A write of RECOVER: ignored unless bus-off with AUTO_RECOVER 0 (spec/16 R531, R544). -/
def State.canRecover (s : State) (u : Fin 2) : State :=
  if s.busOff u && !s.canMode u 6 && s.can[u].recovering.isNone then s.startRecovery u else s

/-- A write of DUP_CLEAR (spec/16 R533). -/
def State.dupClear (s : State) (u : Fin 2) : State :=
  ((s.wr (kErr u 0x0A) 0).modCan u fun c => { c with collisions := [] }).canState u

/-- The controller goes into bus monitoring at the end of its frame, while the reference is lost (spec/16 R517). -/
def State.canMonitor (s : State) (u : Fin 2) : State :=
  if s.clock.refPresent || s.can[u].tx.isSome then s else s.wrBit (kTiming u 0x0F) 2 true

/-- OVERFLOW cleared by a written 1 (spec/16 R537). -/
def State.clearOverflow (s : State) (u : Fin 2) : State := (s.wr (kStamps u 3) 0).canState u

/-! ### The commands -/

def execCanTimingChange (u : Fin 2) (s : State) : Out := .next (s.canTimingChange u)
def execCanFrameReceive (u : Fin 2) (f : CanFrame) (s : State) : Out := .next (s.canReceive u f)
def execCanTransmitStart (u : Fin 2) (s : State) : Out := .next (s.canStart u)
def execCanTransmitComplete (u : Fin 2) (ok : Bool) (s : State) : Out := .next (s.canComplete u ok)
def execCanErrorDetected (u : Fin 2) (code : Byte) (dataPhase transmitter collision : Bool) (place : CanPlace)
    (s : State) : Out :=
  .next (s.canError u code.toNat dataPhase transmitter collision place)
def execCanRecoveryComplete (u : Fin 2) (s : State) : Out := .next (s.canRecovered u)
def execCanBusMonitorEnter (u : Fin 2) (s : State) : Out := .next (s.canMonitor u)

end Sys2Proof.Machine
end

