-- ==== Sys2Proof/Machine/Tags.lean ====
section
/-! DEFINITION. The tag table, responses and what ends a transaction (spec/17 R549 to R556, R558, R561; spec/14 R459, R460). -/

namespace Sys2Proof.Machine

/-- The dictionary protocol's state changed. -/
def State.modWdp (s : State) (f : WdpSt → WdpSt) : State := { s with wdp := f s.wdp }

/-- The bytes of a telegram: header with LEN, data (R549). -/
def telBytes (tagGen op status index sub seg : Nat) (data : Bytes) : Bytes :=
  natLe 1 tagGen ++ natLe 1 op ++ natLe 1 status ++ natLe 1 data.length ++ natLe 2 index ++ natLe 1 sub ++
    natLe 1 seg ++ data

/-- The response to a request with a STATUS and data. -/
def responseTo (t : Telegram) (status : Nat) (data : Bytes) : Bytes :=
  telBytes t.tagGen.toNat t.op.toNat status t.index.toNat t.sub.toNat 0 data

/-- A DICT payload (spec/14 R450). -/
def dictBytes (kind func channel tagGen : Nat) (data : Bytes) : Bytes :=
  natLe 1 kind ++ natLe 1 func ++ natLe 1 channel ++ natLe 1 tagGen ++ natLe 2 data.length ++ natLe 2 0 ++ data

/-- A function 7 telegram for a node queued on a channel (R548). -/
def State.queueOut (s : State) (u : Fin 2) (node tagGen : Nat) (data : Bytes) : State :=
  (s.modWdp fun w => { w with out := w.out.set u (w.out[u] ++ [⟨node, tagGen, data⟩]) }).loadOut u

/-- A telegram of this node sent back to where a request came from (R556; spec/14 R459). -/
def State.reply (s : State) (o : Origin) (tagGen : Nat) (data : Bytes) : State :=
  match o with
  | .can u => s.queueOut u s.node tagGen data
  | .dict _ _ ch => s.sendReliable 3 0 (dictBytes 1 7 ch.toNat tagGen data)

/-- Whether a request comes from the holder (spec/15 R496, R500). -/
def State.fromHolder (s : State) (o : Origin) : Bool :=
  match o with
  | .can u => s.rd 0xB02002 == u.val
  | .dict src q _ => s.takesFrom q src.toNat

/-- The tag and the generation of a TAGGEN (R549). -/
def tagOf (tg : Nat) : Fin 64 := ⟨tg % 64, by omega⟩
def genOf (tg : Nat) : Nat := tg / 64 % 4

/-- A tag's entry set. -/
def State.setTag (s : State) (tg state : Nat) (resp : Bytes) (o : Origin) : State :=
  s.modWdp fun w => { w with tags := w.tags.set (tagOf tg) ⟨genOf tg, state, resp, o⟩ }

/-- Whether the entry of a TAGGEN is RUNNING with its generation. -/
def State.running (s : State) (tg : Nat) : Bool :=
  s.wdp.tags[tagOf tg].state == 1 && s.wdp.tags[tagOf tg].gen == genOf tg

/-- A response with the header of another, a STATUS and data. -/
def withData (resp : Bytes) (status : Nat) (data : Bytes) : Bytes :=
  ((resp.take 8).set 2 (BitVec.ofNat 8 status)).set 3 (BitVec.ofNat 8 data.length) ++ data
def withStatus (resp : Bytes) (status : Nat) : Bytes := withData resp status []

/-- A transaction is DONE: its response is stored and sent to where its copy came from (R553, R556). -/
def State.tagDone (s : State) (tg : Nat) (resp : Bytes) : State :=
  let e := s.wdp.tags[tagOf tg]
  (s.setTag tg 2 resp e.origin).reply e.origin tg resp

/-- Responses of a TAGGEN not yet sent are removed or cancelled; how many (R554). -/
def State.suppress (s : State) (tg : Nat) : Nat × State :=
  forFin 2 (0, s) fun u (c, a) =>
    let mine (x : OutTel) : Bool := x.node == a.node && x.tagGen == tg
    let n := (a.wdp.out[u].filter mine).length
    let a1 := a.modWdp fun w => { w with out := w.out.set u (w.out[u].filter fun x => !mine x) }
    let m := a1.msg u 21
    if isPending m && m.ident % 2048 == 7 * 128 + a1.node && byteAt m.data 0 == tg then
      (c + n + 1, (a1.cancelTx u 21).loadOut u)
    else (c + n, a1)

/-! ### What ends a transaction -/

/-- The block transaction of a TAGGEN. -/
def State.blockOf (s : State) (tg : Nat) : Option BlockSt := s.wdp.blocks.find? fun b => b.tagGen == tg

/-- A block transaction removed; an image that was being staged fails (R558; spec/19 R623, R626). -/
def State.dropBlock (s : State) (b : BlockSt) : State :=
  let s1 := s.modWdp fun w => { w with blocks := w.blocks.filter fun x => x.tagGen != b.tagGen }
  if !b.read && b.index = 0xE010 && s1.fwPhase = 1 then s1.fwFail 8 else s1

/-- The response of a block transaction with a STATUS. -/
def BlockSt.response (b : BlockSt) (status : Nat) (data : Bytes) : Bytes :=
  telBytes b.tagGen (if b.read then 3 else 4) status b.index b.sub 0 data

/-- A block transaction ends early with a STATUS (R561). -/
def State.endBlock (s : State) (b : BlockSt) (status : Nat) : State :=
  (s.dropBlock b).tagDone b.tagGen (b.response status [])

/-- What a RUNNING transaction is doing stops: its block, its SWARM, a CHARGE or an activation that waits (R563). -/
def State.stopWork (s : State) (tg : Nat) : State :=
  let s1 := match s.blockOf tg with
    | some b => s.dropBlock b
    | none => s
  let s2 := { s1 with
    frames := { s1.frames with swarm := s1.frames.swarm.filter fun w => !(w.answered && w.telegram.tagGen.toNat == tg) }
    power := { s1.power with chargeReply := s1.power.chargeReply.filter fun w => w.1 != tg } }
  if s2.fwPhase = 5 && s2.jobs.install.reply == some tg then s2.fwFail 8 else s2

/-- ABORT bit BLOCK: every block transaction ends with STATUS 11 (R561). -/
def State.abortBlocks (s : State) : State := s.wdp.blocks.foldl (fun a b => a.endBlock b 11) s

/-- A transaction noted as ended while its worker may still answer (spec/14 R460). -/
def addDropped (l : List (Nat × Nat)) (node tg : Nat) : List (Nat × Nat) :=
  if l.contains (node, tg) then l else l ++ [(node, tg)]

/-- ABORT bit FORWARD: every forwarded transaction ends, later responses are discarded (spec/14 R460). -/
def State.abortForwards (s : State) : State :=
  { s with frames := { s.frames with
      forwarded := []
      dropped := s.frames.forwarded.foldl (fun l f => addDropped l f.node f.tagGen) s.frames.dropped } }

/-- A Supervisor-only reset: RUNNING entries become DONE with STATUS 11, nothing stays in progress (R552, spec/04 R99). -/
def State.tagsReset (s : State) : State :=
  let s1 := s.wdp.blocks.foldl (fun a b => a.dropBlock b) s
  let s2 := { s1.abortForwards with frames := { s1.abortForwards.frames with swarm := [] } }
  s2.modWdp fun w => { w with tags := updAll w.tags fun _ e =>
    if e.state = 1 then { e with state := 2, resp := withStatus e.resp 11 } else e }

end Sys2Proof.Machine
end

