-- ==== Sys2Proof/Machine/Operands.lean ====
section
/-! DEFINITION. The operands of an access: which objects an index and subindex name, lengths, access codes, states, and the codings of triggers and references (spec/00 R8 to R11, spec/17 R557, spec/20 R637 to R643, R649). -/

namespace Sys2Proof.Machine

/-- Whether an index addresses all six cells at once (spec/20 R637, R639). -/
def broadcast (idx : Nat) : Bool :=
  let a := idx / 4096
  (a == 3 || a == 5 || a == 6 || a == 7) && unitOf idx == 15

/-- The indices that an access reaches, in ascending cell order (spec/20 R639). -/
def accessIndices (idx : Nat) : List Nat :=
  if broadcast idx then (List.range 6).map fun u => baseOf idx + 256 * u else [idx]

/-- The map row that an access names: STATUS 2 where there is no such object, 3 where it has no such subindex (spec/20 R640). -/
def rowFor (idx sub : Nat) : Nat × Option Sub :=
  match familyOf ((accessIndices idx).headD idx) with
  | none => (2, none)
  | some f =>
    match subOf f sub with
    | none => (3, none)
    | some e => (0, some e)

/-- The objects that the boot loader serves, and BOOT with it (spec/20 R649). -/
def bootServed (idx : Nat) : Bool := idx == 0x0000 || idx == 0x1000 || idx == 0xE010 || idx == 0xE011

/-- Subindices of LEASE that a worker does not write (spec/20 R643, spec/15 R508). -/
def leaseManagerSub (sub : Nat) : Bool := sub == 1 || sub == 8 || sub == 9 || sub == 0x0A || sub == 0x0D

/-- Whether an object is written in the manager only, STATUS 4 in a worker (spec/20 R643). -/
def managerWritten (idx sub : Nat) : Bool :=
  (match familyOf idx with
   | some f => f.mOnly
   | none => false) || (idx == 0xB021 && leaseManagerSub sub)

/-- Whether the access code allows a write (spec/20 R641). -/
def Sub.writable (e : Sub) : Bool := !(e.acc == .ro || e.acc == .const)

/-- Whether a length is one that the object allows (spec/17 R557; spec/16 R520; spec/19 R633). -/
def Sub.lengthOk (e : Sub) (idx n : Nat) : Bool :=
  if e.kind == .domain then
    if baseOf idx == 0xC010 then n == 16 || n == 80
    else if idx == 0xE002 then 8 ≤ n && n ≤ 4096 && n % 8 == 0
    else e.min ≤ n && n ≤ e.max
  else n == e.size

/-- Whether the present state lets the object be written (spec/20 R642). -/
def Wr.allows (w : Wr) (dev : Nat) : Bool :=
  match w with
  | .never => false
  | .a => dev != 0
  | .c => dev == 2 || dev == 6 || dev == 7
  | .run => dev == 4
  | .all => true
  | .readySafe => dev == 2 || dev == 6

/-- The value that a write carries: reserved bits are ignored (spec/00 R9). -/
def Sub.taken (e : Sub) (data : Bytes) : Nat :=
  if e.kind == .bits then leNat data &&& e.max else leNat data

/-! ### Codings -/

/-- A router event, a time comparator, or none (spec/06 R215). -/
def routerCode (v : Nat) : Bool := v ≤ 143 || (0x0100 ≤ v && v ≤ 0x0107) || v == 0xFFFF

/-- Those with the end of a sequence and a main-filter result: SAMPLE_TRIGGER (spec/18 R577). -/
def sampleCode (v : Nat) : Bool :=
  routerCode v || (0x0200 ≤ v && v ≤ 0x0203) || (0x0300 ≤ v && v ≤ 0x0311)

/-- A task's TRIGGER and STEP_TRIGGER (spec/07 R226, spec/08 R266). -/
def taskCode (v : Nat) : Bool := sampleCode v || v == 0x0400 || (0x0500 ≤ v && v ≤ 0x0502)

/-- PAIRED and TARGET_SRC of an engine's group (spec/08 R271, R276). -/
def profileCode (cellEngine : Bool) (v : Nat) : Bool := v / 4096 != 4 && refOk cellEngine v

/-- CURRENT_REF of steering (spec/10 R336). -/
def currentCode (v : Nat) : Bool :=
  (v == 0 || v / 4096 == 1 || v / 4096 == 2 || v / 4096 == 3 || v / 4096 == 7) && refOk false v

/-- SOURCE of a capture track (spec/18 R579). -/
def trackCode (v : Nat) : Bool :=
  let i := v % 4096
  match v / 4096 with
  | 0 => i == 0
  | 1 => i ≤ 25
  | 2 => i ≤ 17
  | 3 => i / 32 ≤ 6
  | 4 => i ≤ 17
  | _ => false

/-- The row of an entry of a cyclic map: a number, of the size the entry gives (spec/17 R570). -/
def cyclicRow (e : Nat) : Option Sub :=
  match rowFor (e % 65536) (e / 65536 % 256) with
  | (0, some r) => if r.kind == .domain || r.acc == .wo || r.size != e / 2 ^ 24 then none else some r
  | _ => none

/-- An engine of a unit. -/
def engineOfUnit (u : Nat) : Engine := ⟨u % 7, by omega⟩

end Sys2Proof.Machine
end

