-- ==== Sys2Proof/Machine/Strings.lean ====
section
/-! DEFINITION. String coordination: assembly and issue of STRING frames, their acceptance, STATUS contributions, interleave, steering, sharing, MOLT and the controlled stop (spec/10). -/

namespace Sys2Proof.Machine

/-! ### Contributions (spec/10 R326, R327, R341) -/

/-- Whether a cell of this device is carrying the string current (spec/10 R341). -/
def State.carrying (s : State) (c : Cell) : Bool :=
  s.zeroRow c 0 || s.guardRow c 0 == 3 || s.cellSt c == 3 || s.bypClosed c

/-- The record of stream n, and of channel n (spec/06 R209). -/
def State.streamRec (s : State) (n : Nat) : Nat := s.rd ((0x4400 + n) * 256 + 1)
def State.chanRec (s : State) (n : Nat) : Nat := s.rd ((0x4200 + n) * 256 + 1)

/-- What this device reports of one of its cells. -/
def State.cellRep (s : State) (c : Cell) : CellRep :=
  let r := s.streamRec (3 * c)
  let fl := maskOf 4 fun i =>
    match i with
    | 0 => s.chargeDone c
    | 1 => s.carrying c
    | 2 => !s.bypClosed c
    | _ => bit r 105 && !bit r 109
  ⟨r % 2 ^ 32, s.cellSt c, fl, field r 96 8⟩

/-- This device's contribution. -/
def State.contribution (s : State) : Contrib :=
  let run := (List.finRange 6).filter fun c => s.cellSt c.val == 2
  { current := run.foldl (fun a c => fmt32.add a (s.chanRec c.val % 2 ^ 32)) 0, dev := s.dev,
    runCells := run.length,
    flags := maskOf 2 fun i => if i = 0 then s.bitAt kFlags 3 else s.rd 0x801109 == 1,
    cells := Vector.ofFn fun c => s.cellRep c, missed := 0 }

/-- A contribution as 56 bytes, and read from them. -/
def contribBytes (x : Contrib) : Bytes :=
  natLe 4 x.current ++ natLe 1 x.dev ++ natLe 1 x.runCells ++ natLe 2 x.flags ++
    (List.finRange 6).flatMap fun c =>
      natLe 4 x.cells[c].v ++ natLe 1 x.cells[c].state ++ natLe 1 x.cells[c].flags ++ natLe 2 x.cells[c].seq
def readContrib (b : Bytes) : Contrib :=
  { current := leAt b 0 4, dev := byteAt b 4, runCells := byteAt b 5, flags := leAt b 6 2,
    cells := Vector.ofFn fun c =>
      ⟨leAt b (8 + 8 * c.val) 4, byteAt b (12 + 8 * c.val), byteAt b (13 + 8 * c.val), byteAt b (14 + 8 * c.val)⟩,
    missed := 0 }

/-- A contribution before any has come. -/
def Contrib.none : Contrib := ⟨0, 0, 0, 0, Vector.replicate 6 ⟨0, 0, 0, 0⟩, 0⟩

/-- The last contribution of the device at position p. -/
def State.contribOf (s : State) (p : Fin 32) : Contrib := s.string.contrib[p].getD .none
def State.absent (s : State) (p : Nat) : Bool := s.bitAt 0x80100E p

/-- The frame unit changed. -/
def State.modString (s : State) (f : StringSt → StringSt) : State := { s with string := f s.string }

/-- The manager accepts a worker's contribution (spec/10 R327, spec/15 R483). -/
def State.takeStatus (s : State) (f : Frame) : State :=
  if !s.manager then s
  else if h : f.src.toNat < 32 then
    let s1 := s.modString fun g => { g with contrib := g.contrib.set f.src.toNat (some (readContrib f.payload)) }
    s1.wrBit 0x80100E f.src.toNat false
  else s

/-- Step 1 of an assembly: the manager's own contribution, and who is absent (spec/10 R327, R328). -/
def State.gather (s : State) : State :=
  let own := s.contribution
  let lim := s.rd 0x801009
  let n := s.rd 0x001000
  forFin 32 s fun p a =>
    if p.val = 0 then a.modString fun g => { g with contrib := g.contrib.set 0 (some own) }
    else if p.val < n then
      let x := a.string.contrib[p].getD { Contrib.none with missed := 1 }
      let a := if x.missed ≥ lim then a.wrBit 0x80100E p.val true else a
      a.modString fun g => { g with contrib := g.contrib.set p (some { x with missed := x.missed + 1 }) }
    else a

/-! ### The active set (spec/10 R340 to R342) -/

/-- What was last reported of a map cell. -/
def State.repOf (s : State) (m : MapCell) : CellRep := (s.contribOf m.dev).cells[m.cell]

/-- Whether a pending MOLT step concerns a map cell. -/
def MoltSt.is (x : MoltSt) (m : MapCell) : Bool := x.dev == m.dev && x.cell == m.cell

/-- Whether a map cell meets the conditions of R340. -/
def State.mayBeActive (s : State) (m : MapCell) : Bool :=
  let d := (s.contribOf m.dev).dev
  let st := (s.repOf m).state
  let x := s.string.molt[m.str]
  let removing := match x with
    | some x => x.is m && !x.insert && x.applied
    | none => false
  let joining := match x with
    | some x => x.is m && x.insert && x.joining && x.abort.isNone
    | none => false
  (d == 3 || d == 4) && (st == 1 || st == 2 || joining) && !removing && !s.absent m.dev.val

/-- The string trips: its cause, source 117, and a pending MOLT step ends with RESULT 12 (spec/10 R342, R349). -/
def State.tripString (s : State) (g : Fin 3) (cause : Nat) : State :=
  (((s.wr (unitKey 0x80030C g) cause).raise 117).endMolt g 12).modString fun t => { t with assembled := none }

/-- Cells of a string, ascending by position; the active ones. -/
def State.cellsOf (s : State) (g : Fin 3) : List MapCell := s.string.map.filter fun m => m.str == g
def State.activeOf (s : State) (g : Fin 3) : List MapCell := (s.cellsOf g).filter (·.active)

/-- Every map cell changed by a function. -/
def State.mapCells (s : State) (f : MapCell → MapCell) : State :=
  s.modString fun g => { g with map := g.map.map f }

/-- Step 2: cells that have left, with the carrying rule, and cells that join; whether a string tripped (spec/10 R340, R341). -/
def State.updActive (s : State) : State × Bool :=
  let left := s.string.map.filter fun m =>
    m.active && !s.mayBeActive m && s.dev == 4 && !s.string.noTrip[m.str] &&
      (s.absent m.dev.val || !bit (s.repOf m).flags 1)
  let s1 := left.foldr (fun m a => a.tripString m.str (if s.absent m.dev.val then 3 else 2)) s
  (s1.mapCells fun m => { m with active := s.mayBeActive m }, !left.isEmpty)

/-- Step 4: the N_min rule over strings that hold a cell (spec/10 R342). -/
def State.nMinRule (s : State) : State × Bool :=
  forFin 3 (s, false) fun g (a, t) =>
    if a.dev == 4 && !a.string.noTrip[g] && !(a.cellsOf g).isEmpty &&
        (a.activeOf g).length < a.rd (unitKey 0x800301 g) then (a.tripString g 1, true)
    else (a, t)

/-! ### MOLT (spec/10 R343 to R350) -/

/-- One string's pending step changed. -/
def State.modMolt (s : State) (g : Fin 3) (f : MoltSt → MoltSt) : State :=
  s.modString fun t => { t with molt := t.molt.set g (t.molt[g].map f) }

/-- A request by ACTION: 1 removes, 2 re-inserts; a request while a step is pending gets RESULT 4 whatever the cell's state (spec/10 R343, R345; spec/17's worked exchange of TAGGEN 0x86). -/
def State.moltRequest (s : State) (g : Fin 3) (insert : Bool) : State :=
  let refuse (n : Nat) : State := s.wr (unitKey 0x800308 g) n
  let pos := s.rd (unitKey 0x800302 g)
  if s.dev != 4 then refuse 1
  else
    match (s.cellsOf g).find? fun m => m.pos == pos with
    | none => refuse 5
    | some m =>
      let d := s.contribOf m.dev
      let st := (s.repOf m).state
      if insert && d.dev != 4 then refuse 1
      else if s.string.molt[g].isSome then refuse 4
      else if (!insert && !(m.active && st == 2)) || (insert && st != 4) then refuse 2
      else if !insert && (s.activeOf g).length < 1 + s.rd (unitKey 0x800301 g) then refuse 3
      else
        (s.wr (unitKey 0x800307 g) (if insert then 3 else 1)).modString fun t =>
          { t with molt := t.molt.set g (some ⟨m.dev, m.cell, insert, s.tick, false, false, 0, none, false,
            false, none⟩) }

/-- The mean of a list of binary32 numbers. -/
def meanF (l : List Nat) : Nat := fmt32.div (l.foldl fmt32.add 0) (fmt32.ofInt l.length)

/-- V̄ of a string: over its active cells whose V_VALID is 1 (spec/10 R336). -/
def State.vMean (s : State) (g : Fin 3) : Option Nat :=
  let l := (s.activeOf g).filter fun m => bit (s.repOf m).flags 3
  if l.isEmpty then none else some (meanF (l.map fun m => (s.repOf m).v))

/-- Whether a re-inserting cell counts as pre-charged at this assembly (spec/10 R346). -/
def State.precharged (s : State) (g : Fin 3) (r : CellRep) : Bool :=
  match s.vMean g with
  | none => false
  | some v =>
    bit r.flags 3 &&
      fmt32.le (fmt32.abs (fmt32.sub r.v v)) (fmt32.mul (s.rd (unitKey 0x800304 g)) v)

/-- A cell whose contactor was to open is reported in BYPASSED: RESULT 10 where it did not open within BYP_TIMEOUT, 11 where a reaction took it; of a worker's cell the manager is not told which, and the result is free between the two (spec/10 R348, spec/12 R388; log entry 177). -/
def State.openingEnded (s : State) (g : Fin 3) (x : MoltSt) : State :=
  if x.dev = 0 then s.endMolt g (if s.guard[x.cell].openFailed then 10 else 11)
  else
    let (v, s1) := s.freeVal
    s1.endMolt g (10 + v % 2)

/-- Step 3: a string's pending step moves by one step at most (spec/10 R343, R344, R346, R348, R349). -/
def State.advanceMolt (s : State) (g : Fin 3) : State :=
  match s.string.molt[g] with
  | none => s
  | some x =>
    let r := (s.contribOf x.dev).cells[x.cell]
    if x.insert then
      match x.abort with
      | some n =>
        if r.state == 4 || (x.joining && r.state == 2) then s.endMolt g n else s
      | none =>
        if !x.applied then
          s.modMolt g fun x =>
            { x with applied := true, limit := some (s.tick + msTicks (s.rd (unitKey 0x800306 g))) }
        else if r.state == 4 then
          if x.opening && !x.joining then s.openingEnded g x else if x.entered then s.endMolt g 11 else s
        else if x.joining then
          if r.state == 2 then (s.endMolt g 7).count (unitKey 0x80030B g) else s
        else if x.opening then
          if bit r.flags 2 then
            ((s.wr (unitKey 0x800307 g) 5).modMolt g fun x => { x with joining := true }).mapCells fun m =>
              if x.is m then { m with active := true } else m
          else s
        else if r.state == 5 then
          if 1 < (s.contribOf x.dev).missed then s.modMolt g fun x => { x with entered := true }
          else
          let n := if s.precharged g r then x.seen + 1 else 0
          if n ≥ s.rd (unitKey 0x800305 g) then
            (s.wr (unitKey 0x800307 g) 4).modMolt g fun x =>
              { x with entered := true, seen := n, opening := true, limit := none }
          else s.modMolt g fun x => { x with entered := true, seen := n }
        else s
    else if !x.applied then
      if (s.activeOf g).length < 1 + s.rd (unitKey 0x800301 g) then s.endMolt g 3
      else
        (s.modMolt g fun x => { x with applied := true }).mapCells fun m =>
          if x.is m then { m with active := false } else m
    else if r.state == 4 then (s.endMolt g 6).count (unitKey 0x80030A g)
    else if r.state == 6 then s.endMolt g 8
    else if r.state == 3 then s.wr (unitKey 0x800307 g) 2
    else s

/-- PRECHARGE_TIMEOUT after step 1 (spec/10 R349). -/
def State.prechargeLate (s : State) (g : Fin 3) : State :=
  match s.string.molt[g] with
  | some x =>
    match x.limit with
    | some t => (s.advanceTo t).modMolt g fun x => { x with limit := none, abort := some 9 }
    | none => s
  | none => s

/-- ABORT naming MOLT: a cell still INSERTING is active no longer, so its next frame sends it to BYPASSED (spec/10 R349, spec/04 R117). -/
def State.abortMolt (s : State) : State :=
  forFin 3 s fun g a =>
    match a.string.molt[g] with
    | none => a
    | some x =>
      if x.insert then
        (a.modMolt g fun x => { x with limit := none, abort := some 11 }).mapCells fun m =>
          if x.is m && (a.repOf m).state == 5 then { m with active := false } else m
      else if !x.applied then a.endMolt g 11 else a

/-! ### Interleave (spec/10 R332) -/

/-- PHASE of slot n among N active cells. -/
def slotPhase (n total : Nat) : Nat := (n * 2 ^ 31 + total) / (2 * total)

/-- Step 5: slots in ascending position, N_ACTIVE and SLEW; a cell that takes a slot moves from the PHASE it had last, from the default 0 where it had none (log entry 114). -/
def State.slots (s : State) (g : Fin 3) : State :=
  let act := s.activeOf g
  let n := act.length
  let on := s.rd (unitKey 0x800101 g) == 1
  let rank (m : MapCell) : Nat := (act.filter fun x => x.pos < m.pos).length
  let place (m : MapCell) : MapCell :=
    if m.str != g then m
    else if m.active && on then { m with slot := rank m, phase := slotPhase (rank m) n }
    else { m with slot := 0xFF }
  let old := s.cellsOf g
  let new := old.map place
  let moves := (old.zip new).filterMap fun p =>
    if p.2.slot != 0xFF then
      some (centred ((p.2.phase : Int) - p.1.phase) (2 ^ 31)).natAbs else none
  let changed := (old.zip new).any (fun p => p.1.slot != p.2.slot) || s.rd (unitKey 0x800105 g) != n
  let slew := max 1 (ceilDiv (moves.foldl max 0) (32768 * s.rd (unitKey 0x800104 g)))
  let slotMap := (List.range 192).foldr (fun i a =>
    a * 256 + ((new.find? fun m => m.pos == i).map (·.slot)).getD 0xFF) 0
  let s1 := s.wrAll [(unitKey 0x800105 g, n), (unitKey 0x800108 g, slotMap)]
  let s2 := if changed && on then s1.wr (unitKey 0x800107 g) slew else s1
  s2.mapCells place

/-! ### Steering (spec/10 R336 to R338) -/

/-- A binary32 as a Q15 integer (spec/07 R223). -/
def toQ15 (x : Nat) : Int := clampInt (-32768) 32767 (scaledInt x 32768)

/-- The offset of one cell before the mean is taken away. -/
def State.rawOffset (s : State) (g : Fin 3) (i v vm : Nat) : Nat :=
  let f := fmt32
  let t := f.mul (f.neg (s.rd (unitKey 0x800203 g))) (f.mul (f.sub v vm) (f.div f1 vm))
  let mx := s.rd (unitKey 0x800204 g)
  f.clamp (f.neg mx) mx (f.mul t (fSign i))

/-- Offsets of a string's active cells, with the absorber's position (0xFF none). -/
def State.offsets (s : State) (g : Fin 3) : List (MapCell × Int) × Nat :=
  let act := s.activeOf g
  let i := s.readRef 6 (s.rd (unitKey 0x800206 g))
  let f := fmt32
  let off := s.rd (unitKey 0x800206 g) == 0 || f.lt (f.abs i) (s.rd (unitKey 0x800205 g))
  let raw := match s.vMean g with
    | some vm =>
      if off || f.lt vm f1 then act.map fun m => (m, 0)
      else act.map fun m =>
        (m, if bit (s.repOf m).flags 3 then s.rawOffset g i (s.repOf m).v vm else 0)
    | none => act.map fun m => (m, 0)
  let mean := meanF (raw.map (·.2))
  let zero := raw.all fun p => p.2 == 0
  let q := raw.map fun p => (p.1, if zero then 0 else toQ15 (f.sub p.2 mean))
  let sum := q.foldl (fun a p => a + p.2) 0
  let below (m : MapCell) : Nat := (act.filter fun x =>
    f.lt (s.repOf x).v (s.repOf m).v || (f.eqv (s.repOf x).v (s.repOf m).v && x.pos < m.pos)).length
  let ab := ((act.find? fun m => below m + 1 == ceilDiv act.length 2).map (·.pos)).getD 0xFF
  (q.map fun p => (p.1, if p.1.pos = ab then p.2 - sum else p.2), ab)

/-- The largest and the smallest of a list of binary32 numbers. -/
def maxF (l : List Nat) : Nat := l.tail.foldl fmt32.max (l.headD 0)
def minF (l : List Nat) : Nat := l.tail.foldl fmt32.min (l.headD 0)

/-- Step 6: steering recomputed where it is due (spec/10 R338). -/
def State.steering (s : State) (g : Fin 3) (changed : Bool) : State :=
  let n := s.string.sinceSteer[g] + 1
  let s1 := s.modString fun t => { t with sinceSteer := t.sinceSteer.set g n }
  if s.rd (unitKey 0x800201 g) != 1 then
    s1.mapCells fun m => if m.str == g then { m with steer := 0 } else m
  else if n < s.rd (unitKey 0x800202 g) && !changed then
    s1.mapCells fun m => if m.str == g && !m.active then { m with steer := 0 } else m
  else
    let (q, ab) := s.offsets g
    let vs := (s.activeOf g).map fun m => (s.repOf m).v
    let s2 := s1.wrAll [(unitKey 0x800207 g, (s.vMean g).getD 0),
      (unitKey 0x800208 g, if vs.isEmpty then 0 else fmt32.sub (maxF vs) (minF vs)), (unitKey 0x800209 g, ab)]
    let s3 := (s2.count (unitKey 0x80020A g)).modString fun t => { t with sinceSteer := t.sinceSteer.set g 0 }
    s3.mapCells fun m =>
      if m.str == g then
        { m with steer := ((q.find? fun p => p.1.pos == m.pos).map (·.2)).getD 0 } else m

/-! ### References of the string engine (spec/10 R329, R331) -/

/-- SCALE, and what class 5 indices 16 to 39 read; a mean or an extreme of no cell is a value the spec leaves open. -/
def State.stringRefs (s : State) (g : Fin 3) : State :=
  let act := s.activeOf g
  let n := act.length
  let fitted := (s.cellsOf g).length
  let scale := if n = 0 then f1 else fmt32.div (fmt32.ofInt fitted) (fmt32.ofInt n)
  let vs := act.map fun m => (s.repOf m).v
  let (open_, s1) := if n = 0 then s.freeVal else (0, s)
  let v (x : Nat) := if n = 0 then open_ % 2 ^ 32 else x
  let vals := [fmt32.ofInt n, fmt32.ofInt fitted, v (meanF vs), vs.foldl fmt32.add 0, scale, v (maxF vs),
    v (minF vs), s.rd (0x801002 + g)]
  let s2 := s1.wr (0x801005 + g) scale
  { s2 with refs := { s2.refs with strings := Vector.ofFn fun i =>
      if i.val / 8 = g.val then vals.getD (i.val % 8) 0 else s2.refs.strings[i] } }

/-! ### The frame (spec/10 R323, R324, R331, R339) -/

/-- CFLAGS of a map cell. -/
def State.cflags (s : State) (m : MapCell) (clamped : Bool) : Nat :=
  let st := (s.repOf m).state
  let x := (s.string.molt[m.str]).filter fun x => x.is m && x.applied
  maskOf 8 fun i =>
    match i with
    | 0 => m.active
    | 1 => (match x with
      | some x => !x.insert && st != 3 && st != 4 && st != 6
      | none => false)
    | 2 => (match x with
      | some x => x.insert && x.abort.isNone && !x.entered && st != 5
      | none => false)
    | 3 => (match x with
      | some x => x.insert && x.abort.isNone && x.opening && !x.joining && st != 4
      | none => false)
    | 4 => m.off && st != 0
    | 5 => (match x with
      | some x => x.insert && x.abort.isSome && st != 4
      | none => false)
    | 6 => clamped
    | _ => s.rd (unitKey 0x800101 m.str) == 1

/-- The 8 bytes of a cell entry. -/
def State.cellEntry (s : State) (p c : Nat) : Bytes :=
  match s.string.map.find? fun m => m.dev.val == p && m.cell.val == c with
  | none => natLe 4 0 ++ natLe 1 0xFF ++ natLe 3 0
  | some m =>
    let x := fmt32.mul (s.rd (0x801002 + m.str)) (s.rd (0x801005 + m.str))
    let q := if m.active then toQ15 x else 0
    let over_ := m.active && (fmt32.lt x 0xBF800000 || fmt32.lt 0x3F7FFE00 x)
    natLe 2 (ofSigned 16 q) ++ natLe 2 (if m.active then ofSigned 16 m.steer else 0) ++
      natLe 1 (if m.active then m.slot else 0xFF) ++ natLe 1 (s.cflags m over_) ++ natLe 2 0

/-- SHARE_TARGET and OWN_CURRENT of position p (spec/10 R339). -/
def State.share (s : State) (p : Fin 32) : Nat × Nat :=
  if s.rd 0x801008 != 1 then (0, 0)
  else
    let run := (List.finRange 32).filter fun d => (s.contribOf d).dev == 4 && d.val < s.rd 0x001000
    let tot := run.foldl (fun a d => fmt32.add a (s.contribOf d).current) 0
    let n := run.foldl (fun a d => a + (s.contribOf d).runCells) 0
    let x := s.contribOf p
    let own := x.current
    if x.dev == 4 && 0 < n && p.val < s.rd 0x001000 then
      (fmt32.div (fmt32.mul tot (fmt32.ofInt x.runCells)) (fmt32.ofInt n), own)
    else (0, own)

/-- Whether the manager is in a state in which cell entries carry values (spec/10 R322). -/
def State.stringLive (s : State) : Bool := s.dev == 3 || s.dev == 4

/-- The STRING payload. -/
def State.stringPayload (s : State) : Bytes :=
  let n := s.rd 0x001000
  let live := s.stringLive
  let head := natLe 1 (if live && s.rd 0x801109 == 1 then 1 else 0) ++ natLe 3 n
  let strs := (List.range 3).flatMap fun g =>
    natLe 2 (if live then s.rd (unitKey 0x800105 g) else 0) ++ natLe 2 (s.rd (unitKey 0x800107 g))
  let devs := (List.finRange 32).flatMap fun p =>
    if p.val < n then
      let (sh, own) := s.share p
      natLe 4 sh ++ natLe 4 own ++ (List.range 6).flatMap fun c =>
        if live then s.cellEntry p.val c else natLe 8 0
    else []
  head ++ strs ++ devs

/-! ### Assembly and issue (spec/10 R321, R322, R328, R351; spec/14 R454) -/

/-- The controlled stop at the manager: OFF once the stop began in CHARGE, or every string current has settled (spec/10 R351). -/
def State.stopStep (s : State) : State :=
  if s.rd 0x801109 != 1 then s
  else
    let low := (List.finRange 3).all fun g =>
      let r := s.rd (unitKey 0x800206 g)
      r == 0 || fmt32.le (fmt32.abs (s.readRef 6 r)) (s.rd 0x80100B)
    let n := if low then s.string.settled + 1 else 0
    let s1 := s.modString fun t => { t with settled := n }
    if s.string.stopInCharge || n ≥ s.rd 0x80100C then
      (s1.modString fun t => { t with noTrip := Vector.replicate 3 true }).mapCells fun m => { m with off := true }
    else s1

/-- A path is SLOW when twice the STRING frame's duration exceeds STRING_PERIOD (spec/14 R454). -/
def State.slowPaths (s : State) : State :=
  let len := 16 + 56 * s.rd 0x001000
  let slow (q : Path) := 2 * (2 + ceilDiv (12 + len) 8) * blockTicks (s.rd (kPathRate q)) > s.rd 0x801001
  let s1 := ((s.wrBit 0xB02003 8 (slow 0)).wrBit 0xB02003 9 (slow 1)).pathSources
  if slow 0 && slow 1 && s1.stringLive then
    forFin 3 s1 fun g a => if (a.cellsOf g).isEmpty then a else a.tripString g 4
  else s1

/-- STRING frames of this device that still wait when their successor is assembled are discarded unsent and counted (spec/14 R453). -/
def State.supersede (s : State) : State :=
  forFin 4 s fun i a =>
    let keep := a.lanes[i].queue.filter fun x => x.fwd || x.f.typ != 1
    (a.count 0xB00508 (a.lanes[i].queue.length - keep.length)).modLane i fun l => { l with queue := keep }

/-- One assembly; a trip of a string ends it, and its frame is not issued (spec/10 R328, R342). -/
def State.assemble (s : State) : State :=
  let s := s.gather.stopStep.slowPaths
  let before := s.string.map.map (·.active)
  let (s1, t1) := s.updActive
  if t1 || (s.stringLive && s.bitAt 0xB02003 8 && s.bitAt 0xB02003 9) then s1
  else
    let (s2, t2) := (forFin 3 s1 fun g a => a.advanceMolt g).nMinRule
    if t2 then s2
    else
      let s3 := forFin 3 s2 fun g a =>
        let changed := (before.zip a.string.map).any fun p => p.2.str == g && p.1 != p.2.active
        ((a.slots g).steering g changed).stringRefs g
      (s3.modString fun t => { t with assembled := some s3.stringPayload }).supersede

/-- The assembly tick, 64 ticks before the next issue instant (spec/10 R321, R322). -/
def State.assembly (s : State) : State :=
  if !s.manager || s.dev == 0 || s.dev == 1 || s.dev == 5 || s.string.assembled.isSome then s
  else
    let k := s.nextAssembly
    let s1 := s.advance (s.ticksTo (s.issueUnits k) - 64)
    (s1.modString fun t => { t with lastIssue := k }).assemble

/-! ### Acceptance (spec/10 R325, R326, R333; spec/15 R484, R485, R488 to R492) -/

/-- The action of a cell's CFLAGS (spec/10 R325). -/
def State.actFlags (s : State) (c : Cell) (fl : Nat) : State :=
  let st := s.cellSt c
  if bit fl 1 && st == 2 then s.setCell c 3
  else if bit fl 2 && st == 4 && s.dev == 4 then s.setCell c 5
  else if bit fl 3 && st == 5 && s.bypCmd c then s.openContactor c .molt
  else if bit fl 0 && st == 5 && !s.bypClosed c then s.setCell c 2
  else if bit fl 5 && st == 5 then s.endInsert c
  else if bit fl 4 && (st == 1 || st == 2) && s.rd 0x801109 == 1 then (s.setCell c 0).checkStop
  else s

/-- A cell's slot has changed: PHASE and PHASE_SLEW of its G carrier (spec/10 R333). -/
def State.respace (s : State) (c : Cell) (fl slot n slew : Nat) : State :=
  if bit fl 0 && slot != 0xFF && 0 < n && s.stringRx.slots[c] != some (slot, n) then
    let s1 := s.wrAll [(kCarrier c 0 6, slotPhase slot n), (kCarrier c 0 7, slew * 32768)]
    (s1.loadShadow (carrierOf c 0) 2).loadShadow (carrierOf c 0) 15
  else s

/-- This device accepts a STRING payload: its block, the action of its flags, trigger 0x0400 (spec/10 R325, spec/07 R226). -/
def State.takeString (s : State) (b : Bytes) (seq pos : Nat) : State :=
  let off := 16 + 56 * pos
  let entry (c : Nat) := off + 8 + 8 * c
  let has := pos < byteAt b 1
  let consecutive := s.stringRx.seq == some ((seq + 65535) % 65536)
  let ma : Vector Nat 6 := if has then Vector.ofFn fun c => leAt b (entry c.val) 2 else s.stringRx.ma
  let st : Vector Nat 6 := Vector.ofFn fun c => leAt b (entry c.val + 2) 2
  let s1 := { s with stringRx := { s.stringRx with
    seq := some seq, devices := some (byteAt b 1), ma := ma,
    mb := if consecutive then s.stringRx.ma else ma,
    interval := if consecutive then s.stringRx.acceptAt.map (s.tick - ·) else s.stringRx.interval,
    acceptAt := some s.tick, dues := 0 } }
  let s2 := ((s1.count 0x801101).wr 0x801102 s.ns).wrAll
    ((List.range 6).map fun c => (0x801103 + c, if has then byteAt b (entry c + 5) else 0))
  let s3 := (((s2.wrBit 0xB02003 4 false).wrBit 0xB02003 5 false).deassertSrc 106).emitSync 0x400
  if !has then s3
  else
    let s4 := { s3 with refs := { s3.refs with
      modRef := ma, steer := st, share := leAt b off 4, own := leAt b (off + 4) 4 } }
    forFin 6 s4 fun c a =>
      let fl := byteAt b (entry c.val + 5)
      let slot := byteAt b (entry c.val + 4)
      let g := a.rd (0x800001 + c.val)
      let n := if g < 3 then byteAt b (4 + 4 * g) else 0
      let slew := if g < 3 then leAt b (6 + 4 * g) 2 else 0
      let a := (a.actFlags c fl).respace c fl slot n slew
      { a with stringRx := { a.stringRx with slots := a.stringRx.slots.set c (some (slot, n)) } }

/-- A worker's STATUS contribution on each U lane that is UP (spec/10 R326). -/
def State.sendStatus (s : State) : State :=
  let b := contribBytes s.contribution
  (s.sendOn 2 0 true 0 b).sendOn 2 1 true 0 b

/-- A STRING frame reaches a worker: lease, reversion, renewal, references, flags, contribution. A second copy in the tick in which a lease was taken on the other path takes it over where its path is the preferred one (spec/15 R484, R488). -/
def State.stringFrame (s : State) (f : Frame) : State :=
  let q := f.path
  if s.manager then s
  else if s.stringRx.seq == some f.seq.toNat then
    if f.lease && s.lease.takenAt == some s.tick && s.rd 0xB02102 == q.val && s.holder != q.val then s.moveLease q
    else if s.holder != q.val then s.ignored
    else s
  else
    let s := if s.holder == 0xFF && f.lease && !s.pselLow && s.laneUp (uLane q) then
        { s.moveLease q with lease := { (s.moveLease q).lease with takenAt := some s.tick } }
      else if f.lease then s.revertOn q else s
    if s.holder != q.val then s.ignored
    else
      let s := if f.lease then s.renew else s
      let s := match s.lease.failAt with
        | some t =>
          { (s.wr 0xB02007 ((s.tick - t) * 8 / 5)) with lease := { s.lease with failAt := none } }
        | none => s
      ((s.takeString f.payload f.seq.toNat ((s.posOn q).getD 0xFF)).sendStatus).updRevert

/-- The issue instant: the frame on XD and YD, and its acceptance by the manager's own cells (spec/10 R321, spec/14 R455, spec/15 R495). -/
def State.issue (s : State) : State :=
  match s.string.assembled with
  | none => s
  | some b =>
    if !s.manager || s.dev == 0 || s.dev == 1 || s.dev == 5 then
      s.modString fun t => { t with assembled := none }
    else
      let s := s.advance (s.ticksTo (s.issueUnits s.string.lastIssue))
      let n := s.rd 0x80100D % 65536
      let s1 := forFin 2 s fun q a => a.enqueue (dLane q) (a.mkFrame 1 q false 0xFF n b) false 0
      let s2 := (s1.count 0x80100D).modString fun t => { t with assembled := none }
      let s2 := forFin 3 s2 fun g a =>
        match a.string.molt[g] with
        | some x => if x.applied && !x.insert then a.wr (unitKey 0x800307 g) 2 else a
        | none => a
      let k := s2.lease.frames + 1
      let s3 := { s2 with lease := { s2.lease with frames := k % 1000 } }
      let s4 := if k = 1000 then s3.offerLease else s3
      s4.takeString b n 0

/-- STOP_TIMEOUT passes before READY (spec/10 R351). -/
def State.stopLate (s : State) : State :=
  match s.power.stopAt with
  | none => s
  | some t =>
    let s1 := (s.advanceTo t).toSafe 7
    if s1.manager then s1.sendSafe 7 0xFF else s1

/-! ### The commands -/

def execStringAssembly (s : State) : Out := .next s.assembly
def execStringFrameIssue (s : State) : Out := .next s.issue
def execStringFrameAccept (f : Frame) (s : State) : Out := .next (s.frameRow f fun a => a.stringFrame f)
def execStatusFrameReceive (f : Frame) (s : State) : Out := .next (s.frameRow f fun a => a.takeStatus f)
def execPrechargeTimeout (g : Fin 3) (s : State) : Out := .next (s.prechargeLate g)
def execStopTimeout (s : State) : Out := .next s.stopLate

end Sys2Proof.Machine
end

