-- ==== Sys2Proof/Machine/Checks.lean ====
section
/-! DEFINITION. The values that the owning chapters refuse with STATUS 6, beside the ranges of the object maps (spec/17 R551 code 6), and the restore of the dictionary, which judges its entries by the same rules (spec/19 R619). -/

namespace Sys2Proof.Machine

/-- P of a carrier in taps with one of its two fields replaced (spec/05 R126). -/
def State.periodWith (s : State) (c : Cell) (b sub v : Nat) : Nat :=
  (if sub = 4 then v else s.rd (kCarrier c b 4)) * 16 + (if sub = 5 then v else s.rd (kCarrier c b 5))

/-- Areas 0x0 to 0x2 (spec/20 R646, spec/04 R121, spec/03 R67). -/
def State.okCore (s : State) (key v : Nat) : Bool :=
  if key = kFitted then (List.range 6).all fun c => bit v c || !bit (s.rd kFitted) c || s.cellSt c == 0
  else if key = 0x100401 then v != 0
  else if key = 0x201002 || key = 0x202002 then !(v == 2 && s.rd (key + 1) > 5)
  else if key = 0x201003 || key = 0x202003 then !(v > 5 && s.rd (key - 1) == 2)
  else true

/-- A carrier's PHASE_REF: no carrier follows itself, or one that follows (spec/05 R132). -/
def State.okPhaseRef (s : State) (c : Cell) (b v : Nat) : Bool :=
  if v < 2 then true
  else
    v - 2 != b && s.rd (kCarrier c (v - 2) 3) < 2 &&
      (List.range 3).all fun o => o == b || s.rd (kCarrier c o 3) != b + 2

/-- The periods that ABSOLUTE mode allows (spec/05 R156). -/
def State.okAbsolute (s : State) (c : Cell) (b sub v : Nat) : Bool :=
  let absolute := if sub = 0x0B then v == 1 else s.rd (kCarrier c b 0x0B) == 1
  !absolute || s.periodWith c b sub v ≤ 0xFFFFFFFF

/-- Area 0x3 (spec/05 R132, R138, R156, R160, R166; spec/10 R334). -/
def State.okEdge (s : State) (key base sub v : Nat) (c : Cell) : Bool :=
  let drives := s.cellDrives c
  let owned := drives && (s.targets ⟨c.val, by omega⟩).contains key
  !owned &&
    (if base ≤ 0x3002 then
      let b := base % 3
      if sub = 3 then s.okPhaseRef c b v
      else if sub = 4 || sub = 5 || sub = 0x0B then
        s.okAbsolute c b sub v && !(b == 0 && sub != 0x0B && drives && s.interleaves c)
      else if sub = 6 || sub = 7 then !(b == 0 && drives && s.interleaves c)
      else true
    else if base = 0x3050 && 16 ≤ sub then v < s.rd (key - 15)
    else true)

/-- Whether the first n entries of converter a's table name its own channels (spec/06 R174). -/
def State.ownEntries (s : State) (a n : Nat) : Bool :=
  (List.range n).all fun i => s.rd (kChan (s.rd (kTable a (5 + i))) 1) == a

/-- Area 0x4 (spec/06 R174, R176, R190, R192, R196, R200, R203, R215). -/
def State.okMeas (s : State) (key base sub v : Nat) : Bool :=
  if base = 0x4000 then
    if sub = 0x0A then (List.range 6).all fun c => 16 * v < s.rd (0x400004 + c)
    else if 0x0C ≤ sub && sub ≤ 0x0F then 16 * v < s.rd (0x400004 + (sub - 0x0C))
    else if sub = 0x11 || sub = 0x12 then 16 * v < s.rd (0x400004 + (sub - 0x0D))
    else true
  else if base ≤ 0x4013 then
    let a := base - 0x4010
    if sub = 1 then routerCode v
    else if sub = 3 then s.ownEntries a v
    else if 5 ≤ sub && sub ≤ 0x14 then s.rd (kTable a 3) < sub - 4 || s.rd (kChan v 1) == a
    else true
  else if base ≤ 0x4119 then
    let ch := base - 0x4100
    if sub = 1 then
      let a := s.rd key
      v == a || (List.range (s.rd (kTable a 3))).all fun i => s.rd (kTable a (5 + i)) != ch
    else if sub = 2 then v != 2 || isDiff ch
    else if sub = 5 then v == 0 || (ch ≤ 6 && s.rd (kChan ch 7) < s.rd (kChan ch 6))
    else if sub = 6 then s.rd (kChan ch 5) == 0 || s.rd (kChan ch 7) < v
    else if sub = 7 then s.rd (kChan ch 5) == 0 || v < s.rd (kChan ch 6)
    else true
  else if 0x4300 ≤ base && base ≤ 0x4311 then
    if sub = 5 || sub = 6 then routerCode v
    else if sub = 0x0A then toSigned 16 (s.rd (key + 1)) < toSigned 16 v
    else if sub = 0x0B then toSigned 16 v < toSigned 16 (s.rd (key - 1))
    else true
  else if key = 0x450001 then s.rd 0x450008 == 0
  else true

/-- Whether parameters are judged now: in CHARGE, RUN or INSERTING of the cell; in CHARGE or RUN of the device (spec/07 R256). -/
def State.judgesParams (s : State) (e : Engine) : Bool :=
  if e.val = 6 then s.dev == 3 || s.dev == 4 else s.cellDrives e

/-- Area 0x5 (spec/07 R226, R247, R256, R257). -/
def State.okLoop (s : State) (base sub v : Nat) (data : Bytes) (e : Engine) : Bool :=
  if base = 0x5000 then sub = 0x21 || v / 256 % 4 != 3
  else if base = 0x5001 then v == 0 || 100 ≤ v
  else if base = 0x5003 then sub > 3 || taskCode v
  else if 0x5010 ≤ base && base ≤ 0x502F && 5 ≤ sub then
    let b := base - 0x5010
    let p (i : Nat) : Nat := if sub = 0x15 then leAt data (4 * (i - 1)) 4 else if i + 4 = sub then v else s.par e b i
    !s.judgesParams e || paramsOk (s.bType e b) p
  else true

/-- Area 0x6 (spec/08 R266, R271, R276, R280, R282). -/
def State.okProfile (base sub v : Nat) (data : Bytes) (u : Nat) : Bool :=
  if base ≤ 0x6003 then
    if sub = 2 || sub = 4 then profileCode (u != 6) v
    else if sub = 0x0A then
      limitOk (leAt data 0 4) && limitOk (leAt data 4 4) && limitOk (leAt data 8 4) && tolOk (leAt data 12 4)
    else true
  else if base = 0x6004 then sub != 1 || taskCode v
  else if base = 0x6010 then !(sub == 2 || sub == 3) || v ≤ 31 || v == 0xFF
  else true

/-- Areas 0x7 and 0x8 (spec/09 R311, spec/10 R330, R336, R352). -/
def State.okGuard (s : State) (key base sub v : Nat) : Bool :=
  if base = 0x7001 then !(1 ≤ sub && sub ≤ 3) || bit v (sub - 1)
  else if base = 0x8000 then 6 < sub || v ≤ 2 || v == 0xFF
  else if base = 0x8002 then sub != 6 || currentCode v
  else if 0x801002 ≤ key && key ≤ 0x801004 then
    !((s.dev == 3 || s.dev == 4) && (s.targets ⟨6, by omega⟩).contains key)
  else true

/-- The limits of a sensor kind: T_REARM < T_DERATE, T_DERATE + 1 K ≤ T_TRIP, the die limits at most 140 and 155 °C (spec/11 R375). -/
def State.okLimits (s : State) (sub v : Nat) : Bool :=
  let k := 0x900101 + (sub - 1) / 3 * 3
  let at_ (i : Nat) : Nat := if k + i = 0x900100 + sub then v else s.rd (k + i)
  fmt32.lt (at_ 2) (at_ 0) && fmt32.le (fmt32.add (at_ 0) f1) (at_ 1) &&
    (sub > 3 || (fmt32.le (at_ 0) 0x430C0000 && fmt32.le (at_ 1) 0x431B0000))

/-- A class for source n (spec/12 R386, R404). -/
def classOk (n v : Nat) : Bool :=
  !((71 ≤ n && n ≤ 76) || n == 78 || n == 79 || n == 92 || n == 117 || n == 126) &&
    !(v == 2 && sourceScope n == 6) && !(n == 127 && v < 3)

/-- Area 0x9 and 0xA (spec/11 R374, R375; spec/12 R386). -/
def State.okThermal (s : State) (base sub v : Nat) : Bool :=
  if base = 0x9000 then 28 < sub || !bit v (sub - 1)
  else if base = 0x9001 then s.okLimits sub v
  else if base = 0xA001 then 128 < sub || classOk (sub - 1) v
  else true

/-- Area 0xB (spec/14 R463, R478; spec/15 R495, R508). -/
def State.okNet (s : State) (key base sub v : Nat) (data : Bytes) : Bool :=
  if key = 0xB01101 then incrementOk v
  else if key = 0xB01201 then (s.hostStep (stepOffset data)).isSome
  else if 0xB018 ≤ base && base ≤ 0xB01F && sub = 2 then v == 0 || 1000 ≤ v
  else if base = 0xB021 then
    match sub with
    | 0x01 => (!s.manager || 16 * s.rd 0x801001 ≤ 5 * v) && 8000 ≤ v && v ≤ 10000000
    | 0x03 => v == 0 || (10 ≤ v && v ≤ 60000)
    | 0x0B => v == 0 || (10 ≤ v && v ≤ 10000)
    | 0x0F => fmt32.lt v (s.rd 0xB02110) && fmt32.finite v
    | 0x10 => fmt32.lt (s.rd 0xB0210F) v && fmt32.le v 0x3C23D70A
    | _ => true
  else true

/-- The entries of a cyclic map before the first 0, with entry i replaced (spec/17 R570). -/
def State.mapWith (s : State) (idx i v : Nat) : List Nat :=
  ((List.range 8).map fun j => if j = i then v else s.rd (idx * 256 + 1 + j)).takeWhile fun e => e != 0

/-- Area 0xC (spec/16 R513; spec/17 R570, R574). -/
def State.okCan (s : State) (base sub v : Nat) (u : Nat) : Bool :=
  if base = 0xC000 && sub = 0x0B then v == 0 || timingOk (s.storedTiming ⟨u % 2, by omega⟩)
  else if base = 0xC041 then
    if sub = 4 then v == 0 || (100 ≤ v && v ≤ 60000) else true
  else if base = 0xC043 || base = 0xC044 then
    (v == 0 || (cyclicRow v).isSome) && ((s.mapWith base (sub - 1) v).map fun e => e / 2 ^ 24).sum ≤ 64
  else true

/-- Condition k with its KIND, SOURCE and OPTIONS as a write would leave them (spec/18 R582). -/
def State.okCondition (s : State) (kind source options : Nat) : Bool :=
  !((kind == 6 || kind == 7) && options / 16 % 8 != 0) &&
    (!(1 ≤ kind && kind ≤ 3) || (source < 32 && s.trackOn source))

/-- Area 0xD (spec/18 R577, R579, R581, R582, R598). -/
def State.okCapture (s : State) (base sub v : Nat) : Bool :=
  let on := s.rd 0xD00001 == 1
  if base = 0xD000 then
    match sub with
    | 1 => v == 0 || s.captureFits
    | 2 => !on && sampleCode v
    | 8 => v == 0 || s.captureFits
    | 0x0A => v == 0 || (!s.manager && s.rd 0xD0000B != s.rd kPosition)
    | _ => !(3 ≤ sub && sub ≤ 7) || !on
  else if 0xD010 ≤ base && base ≤ 0xD02F then !on && (sub != 1 || trackCode v)
  else if base = 0xD040 then
    let k := (sub - 1) % 16
    if sub ≤ 0x10 then s.okCondition v (s.rd (kCond 2 k)) (s.rd (kCond 5 k))
    else if sub ≤ 0x20 then s.okCondition (s.rd (kCond 1 k)) v (s.rd (kCond 5 k))
    else if 0x41 ≤ sub && sub ≤ 0x50 then s.okCondition (s.rd (kCond 1 k)) (s.rd (kCond 2 k)) v
    else true
  else if base = 0xD061 && 4 ≤ sub && sub ≤ 6 then s.rd 0xD0000A != 1
  else true

/-- Area 0xE (spec/19 R616, R623, R625, R629, R633). -/
def State.okMemory (s : State) (key v : Nat) (data : Bytes) : Bool :=
  if key = 0xE00001 then v == 0 || s.jobs.store.isNone
  else if key = 0xE00201 then v % 8 == 0
  else if key = 0xE00202 then s.oemFits data.length
  else if key = 0xE02001 then 1 ≤ byteAt data 0 && byteAt data 0 ≤ 8
  else if key = 0xE01101 then (v == 1 && s.fwPhase == 2) || (v == 2 && s.fwPhase == 4)
  else true

/-- Whether the owning chapter accepts a value for an object (spec/17 R551 code 6). -/
def State.ownerOk (s : State) (key v : Nat) (data : Bytes) : Bool :=
  let base := baseOf (key / 256)
  let sub := key % 256
  let u := unitOf (key / 256)
  match key / 2 ^ 20 with
  | 0x3 => s.okEdge key base sub v ⟨u % 6, by omega⟩
  | 0x4 => s.okMeas key base sub v
  | 0x5 => s.okLoop base sub v data (engineOfUnit u)
  | 0x6 => State.okProfile base sub v data u
  | 0x7 => s.okGuard key base sub v
  | 0x8 => s.okGuard key base sub v
  | 0x9 => s.okThermal base sub v
  | 0xA => s.okThermal base sub v
  | 0xB => s.okNet key base sub v data
  | 0xC => s.okCan base sub v u
  | 0xD => s.okCapture base sub v
  | 0xE => s.okMemory key v data
  | _ => s.okCore key v

/-- Whether a value is accepted: its range, and its owner's rules. -/
def State.valueOk (s : State) (e : Sub) (key v : Nat) (data : Bytes) : Bool := e.accepts v && s.ownerOk key v data

/-! ### Restoring the dictionary (spec/19 R615, R619; spec/20 R644) -/

/-- The order in which a restore visits a key: ascending index, then unit, then subindex. -/
def restoreRank (key : Nat) : Nat :=
  baseOf (key / 256) * 2 ^ 16 + unitOf (key / 256) * 256 + key % 256

/-- An entry put in its place. -/
def insertEntry (e : Nat × Nat × Nat) : List (Nat × Nat × Nat) → List (Nat × Nat × Nat)
  | [] => [e]
  | x :: xs => if restoreRank e.1 < restoreRank x.1 then e :: x :: xs else x :: insertEntry e xs

/-- One entry of an image taken; one that names no RWN object, whose size differs from the object's, or whose value is refused, is counted in SKIPPED. -/
def State.takeEntry (s : State) (e : Nat × Nat × Nat) : State :=
  match rowOf e.1 with
  | some r =>
    if r.acc == .rwn && r.size == e.2.1 && s.valueOk r e.1 e.2.2 [] then s.wr e.1 e.2.2 else s.count 0xE00106
  | none => s.count 0xE00106

/-- The entries of an image taken one by one. -/
def State.takeImage (s : State) (d : Bytes) : State :=
  ((imageEntries d).foldr insertEntry []).foldl (fun a e => a.takeEntry e)
    (s.wrAll [(0xE00105, leAt d 8 4), (0xE00106, 0)])

/-- Restoring the dictionary at BOOT (R615, R619). -/
def State.restoreDict (s : State) : State :=
  let (g, b) := commitOf true s.nv.commit
  let s1 := (s.modNv fun n => { n with commit := matchCopies true n.commit }).wrAll
    [(0xE00103, b), (0xE00104, g)]
  if b = 0xFF then s1.wrBit 0xE00101 2 true
  else
    let own : Fin 2 := if b = 0 then 0 else 1
    let other : Fin 2 := if b = 0 then 1 else 0
    match s1.goodBank own, s1.goodBank other with
    | some d, _ => s1.takeImage d
    | none, some d => ((s1.takeImage d).wrBit 0xE00101 1 true).raise 119
    | none, none => s1.wrBit 0xE00101 2 true

end Sys2Proof.Machine
end

