-- ==== Sys2Proof/Machine/Maint.lean ====
section
/-! DEFINITION. Maintenance activities: claims, the decision on a request, endings (spec/19 R628 to R631). -/

namespace Sys2Proof.Machine

/-- The path that does not hold the Orsolane lease; Y where none holds it (spec/19 R628). -/
def State.standby (s : State) : Nat := if s.holder = 1 then 0 else 1

/-- CLAIMS of an activity with its ARG (spec/19 R628, R629). -/
def State.claimsOf (s : State) (act arg : Nat) : Nat :=
  match act with
  | 1 => 2 ^ s.standby
  | 2 => if arg ≤ 1 then 2 ^ arg else 0
  | 3 => (bitsOf 17 arg).foldl (fun a ch => setBit a (3 + s.rd (kChan ch 1) % 4) true) 0
  | 4 => 2 ^ 7
  | 5 => 2 ^ 8
  | 6 => arg % 64 * 2 ^ 16
  | 7 => 2 ^ 9
  | 8 => 2 ^ s.standby + 4
  | _ => 0

/-- CLAIMS of slot n. -/
def State.slotClaims (s : State) (n : Nat) : Nat := s.rd (0xE02103 + 4 * n)

/-- The running activity that holds one of these resources, the lowest slot first. -/
def State.claimHolder (s : State) (claims : Nat) : Option Nat :=
  ((List.finRange 4).find? fun (n : Fin 4) => s.jobs.slots[n].isSome && s.slotClaims n &&& claims != 0).bind
    fun n => (s.jobs.slots[n]).map (·.act)

/-- Whether a cell uses a claimed converter: CH‹c›, CH‹7 + c›, CH6 (spec/19 R630 code 2). -/
def State.cellUses (s : State) (claims c : Nat) : Bool :=
  [c, 7 + c, 6].any fun ch => bit claims (3 + s.rd (kChan ch 1) % 4)

/-- Whether an activity is accepted in the present state and role (spec/19 R629). -/
def State.maintState (s : State) (act : Nat) : Bool :=
  let d := s.dev
  match act with
  | 6 => d == 2 || d == 6 || d == 7
  | 7 => d != 0 && d != 5
  | 8 => s.manager && (d == 2 || d == 3 || d == 4 || d == 6)
  | _ => d != 0 && d != 1 && d != 5

/-- Whether the preconditions of R629 hold. -/
def State.maintReady (s : State) (act arg : Nat) : Bool :=
  match act with
  | 1 => s.holder != 0xFF
  | 2 => !s.pselLow && s.holder != arg
  | 6 => (bitsOf 6 arg).all fun c => s.cellSt c == 0
  | 8 => !s.pselLow && s.health s.standby == 3
  | _ => true

/-- Whether ARG is accepted: a path, a mask of channels, a mask of cells (spec/19 R629). -/
def maintArgOk (act arg : Nat) : Bool :=
  match act with
  | 2 => arg ≤ 1
  | 3 => arg < 2 ^ 17
  | 4 => arg < 64
  | 5 => arg < 64
  | 6 => arg < 64
  | _ => true

/-- The refusal of a request, by the order of R630, with its HOLDER; none where it is accepted. -/
def State.maintRefusal (s : State) (act arg : Nat) : Option (Nat × Nat) :=
  let claims := s.claimsOf act arg
  match s.claimHolder claims with
  | some a => some (1, a)
  | none =>
    match (List.range 6).find? fun c => s.fitted c && s.cellDrives c && s.cellUses claims c with
    | some c => some (2, 0x10 + c)
    | none =>
      if !s.maintState act then some (3, 0xFF)
      else if act = 3 && s.rd 0x450008 == 1 then some (4, 0xFE)
      else if !s.maintReady act arg then some (5, 0xFF)
      else if !(anyOf s.jobs.slots fun x => x.isNone) then some (6, 0xFF)
      else if !maintArgOk act arg then some (7, 0xFF)
      else none

/-- Default durations in ms (spec/19 R629). -/
def maintDefault (act : Nat) : Nat :=
  match act with
  | 1 => 60000
  | 2 => 10000
  | 4 => 1000
  | 6 => 100
  | 8 => 1000
  | _ => 0

/-- A LEASE frame of the drill on both paths, naming a path (spec/15 R494). -/
def State.drillFrame (s : State) (action path : Nat) : State :=
  forFin 2 s fun q a =>
    a.sendOn 7 q false 0xFF (natLe 1 action ++ natLe 3 path ++ natLe 4 (a.rd 0xB02101))

/-- A request for an activity: refused with LAST_REFUSAL and source 125, or started in the lowest free or ended slot (spec/19 R630, R636). Answers whether it was accepted. -/
def State.maintRequest (s : State) (act arg duration : Nat) : Bool × State :=
  match s.maintRefusal act arg with
  | some (code, holder) => (false, (s.wrAll [(0xE02003, code), (0xE02004, holder)]).raise 125)
  | none =>
    match (List.finRange 4).find? fun (n : Fin 4) => s.jobs.slots[n].isNone with
    | none => (false, s)
    | some n =>
      let d := if duration = 0 then maintDefault act else duration
      let path := if act = 2 then arg else if act = 8 then s.holder % 2 else s.standby
      let j : SlotSt := ⟨act, arg, s.tick + msTicks d, path, s.tick, 0, 0⟩
      let k := 0xE02100 + 4 * n.val
      let s1 := s.wrAll [(k + 1, act), (k + 2, 1), (k + 3, s.claimsOf act arg), (k + 4, 0)]
      let s2 := { s1 with jobs := { s1.jobs with slots := s1.jobs.slots.set n (some j) } }
      (true, if act = 3 then s2.wireStart arg else if act = 8 then s2.drillFrame 1 j.path else s2)

/-- VALUE1 and VALUE2 of an open-wire sweep: the channels found open and those tested. -/
def State.sweepOpen (s : State) : Nat := s.meas.opened
def State.sweepTested (s : State) (arg : Nat) : Nat := s.rd 0x450007 &&& arg

/-- An activity ends early with OUTCOME 2; its resources return to what they were (spec/19 R631). -/
def State.maintAbort (s : State) (n : Fin 4) : State :=
  match s.jobs.slots[n] with
  | none => s
  | some j =>
    if j.act = 3 then
      let opened := s.sweepOpen
      let s1 := s.wireAbort
      s1.slotEnds n 2 opened (s1.sweepTested j.arg) 0
    else if j.act = 8 then (s.drillFrame 2 j.path).slotAborted n
    else s.slotAborted n

/-- Every running activity whose claims meet a mask ends aborted. -/
def State.maintAbortClaims (s : State) (mask : Nat) : State :=
  forFin 4 s fun n a =>
    if a.jobs.slots[n].isSome && a.slotClaims n &&& mask != 0 then a.maintAbort n else a

/-- The slots of a mask end aborted (STOP, ABORT bit MAINT). -/
def State.maintStop (s : State) (mask : Nat) : State :=
  forFin 4 s fun n a => if bit mask n.val then a.maintAbort n else a

/-- Whether the values of a completed activity are a finding (spec/19 R629, R631; log entry 15). -/
def State.finding (s : State) (act v1 v2 v3 : Nat) : Bool :=
  match act with
  | 4 => fmt32.le (s.rd 0x90002D) v2
  | 5 => v2 != 0
  | 6 => v2 != 0 || v3 != 0
  | 7 => v3 != 0
  | 8 => v2 != 0
  | _ => v1 != 0

/-- The workers that a FAILOVER_DRILL was to move: those that X counts (spec/19 R629). -/
def State.drillAll (s : State) : Nat := maskOf 32 fun p => 0 < p && p < s.rd 0xB03004

/-- An activity reaches its end: its duration, or for a sweep its last channel, line or word; the values that the device has counted itself, else those measured (spec/19 R629, R631; log entries 112, 162). -/
def State.maintEnds (s : State) (n : Fin 4) (failed : Bool) (v1 v2 v3 : Nat) : State :=
  match s.jobs.slots[n] with
  | none => s
  | some j =>
    let finish (a : State) (x y z : Nat) : State :=
      let b := a.slotEnds n (if failed then 3 else 1) x y z
      let b := if failed then b else b.raise 123
      if failed || a.finding j.act x y z then b.raise 124 else b
    match j.act with
    | 3 =>
      if s.rd 0x450008 == 1 then s else finish s s.sweepOpen (s.sweepTested j.arg) 0
    | 5 => finish s v1 v2 v3
    | 7 =>
      if s.portTaken 4 then s
      else finish ((s.count 0xE00108 v2).count 0xE00109 v3) v1 v2 v3
    | 1 =>
      let s1 := s.advanceTo j.until_
      finish s1 j.seen (s1.rd (0xB02202 + 8 * j.path)) j.longest
    | 6 => finish (s.advanceTo j.until_) v1 v2 j.seen
    | 8 => finish ((s.advanceTo j.until_).drillFrame 2 j.path) (popCount 32 j.seen) (s.drillAll &&& (s.drillAll ^^^ j.seen)) v3
    | _ => finish (s.advanceTo j.until_) v1 v2 v3

end Sys2Proof.Machine
end

