-- ==== Sys2Proof/Machine/Device.lean ====
section
/-! DEFINITION. Resets, BOOT, the Supervisor, state commands, COCOON and wake, ABORT (spec/04, spec/10 R317, R351). -/

namespace Sys2Proof.Machine

/-! ### Device-wide resets (spec/04 R94 to R98, R120) -/

/-- Every volatile thing at its reset value: the NV store, ROLE, the balls, the test port and the commands waiting are kept; an install under way leaves what R626 says. -/
def State.atReset (s : State) : State :=
  let t := s.tick
  let base : State := { State.reset with
    pending := s.pending
    tick := t
    free := s.free
    pins := s.pins
    tap := s.tap
    nv := s.nv
    lastStatus := s.lastStatus
    lastData := s.lastData
    clock := .init t
    collector := .init t
    lanes := Vector.replicate 4 (.init t)
    paths := Vector.replicate 2 (.init t)
    hatch := .init t
    rails := ⟨if s.extActive then 1#128 <<< 127 else 0, 0⟩
    jobs := { JobSt.init with install := { JobSt.init.install with
      active := s.jobs.install.active, switched := s.jobs.install.switched } } }
  (base.wr kRole (s.rd kRole)).fwReset s.fwPhase

/-- The reset logic changed. -/
def State.modPower (s : State) (f : PowerSt → PowerSt) : State := { s with power := f s.power }

/-- The release of a device-wide reset: BOOT, with its cause (R95, R97). -/
def State.boot (s : State) (cause : Nat) : State := s.atReset.wr kResetCause cause

/-- ROLE sampled (spec/02 R41, R42). -/
def State.sampleRole (s : State) (role : Bool) : State := s.wr kRole (if role then 1 else 0)

/-- A supply below its threshold or PGOOD low; the test port's logic restarts in IDCODE (log entry 129). -/
def State.porAssert (s : State) : State :=
  { s.atReset with tap := State.reset.tap }.modPower fun p => { p with por := true, pinReset := s.power.pinReset }

/-- The power-on reset releases; RESET_N may still hold the device. -/
def State.porRelease (s : State) (role : Bool) : State :=
  if !s.power.por then s
  else
    let pin := s.power.pinReset
    ((s.boot 0).sampleRole role).modPower fun p => { p with pinReset := pin }

/-- RESET_N recognised low. -/
def State.pinAssert (s : State) : State :=
  if s.power.por then s.modPower fun p => { p with pinReset := true }
  else s.atReset.modPower fun p => { p with pinReset := true }

/-- RESET_N high: ROLE sampled; the reset releases unless the power-on reset holds it. -/
def State.pinRelease (s : State) (role : Bool) : State :=
  if !s.power.pinReset then s
  else if s.power.por then (s.sampleRole role).modPower fun p => { p with pinReset := false }
  else (s.boot 1).sampleRole role

/-- Whether a response of this device is still on its way: function 7 on a controller, a DICT frame to the manager (R98). -/
def State.responding (s : State) : Bool :=
  (List.finRange 2).any (fun u => !s.wdp.out[u].isEmpty || isPending (s.msg u 21)) ||
    (!s.manager && s.frames.unacked.any fun x => x.f.typ == 3)

/-- DEVICE_RESET takes effect once it has been accepted and its response is complete, 1 ms after acceptance at the latest; ROLE is kept (R98; log entry 138). -/
def State.commandReset (s : State) : State :=
  match s.power.resetDue with
  | none => s
  | some t => if s.inReset || (s.responding && s.tick < t) then s else s.boot 2

/-! ### BOOT (spec/04 R101 to R103) -/

/-- The Supervisor executes from now: its watchdog counts, and the slip search of lanes in ALIGN starts (R100; spec/13 R420). -/
def State.superStarts (s : State) : State :=
  let s1 := s.modPower fun p => { p with supervisor := true, wdtFrom := some s.tick }
  forFin 4 s1 fun i a => if a.laneState i == 2 then a.modLane i fun l => { l with slipAt := max l.slipAt a.tick } else a

/-- The tick at which the watchdog expires where the firmware last serviced it at a tick: WDT_TIMEOUT, as it stands, after that or after its start (R100; log entry 139). -/
def State.wdtTick (s : State) (start serviced : Nat) : Nat :=
  max start (min serviced s.tick) + msTicks (s.rd 0x100501)

/-- The objects from which PLL p takes its dividers, its spread and its lock windows (spec/03 R64, R67, R68, R87). -/
def State.pllConfig (s : State) (p : Fin 3) : List Nat :=
  (List.range (if p.val = 0 then 4 else 6)).map fun i => s.rd (kPll p + 1 + i)

/-- What the restored dictionary sets up at once: the values in force of carriers, which do not run in BOOT, fitted cells, driver inputs, controllers; a PLL whose configuration it changes acquires afresh with it, as after a write (spec/02 R47, spec/03 R64, R70, spec/05 R153, spec/06 R196, spec/09 R675, spec/16 R514; log entry 171). -/
def State.applyRestored (s old : State) : State :=
  let fitted := s.rd kFitted
  let s := forFin 18 s fun k a => a.restShadows k
  let s1 := (s.wr kFitted 0).setFitted fitted
  let s2 := forFin 3 s1 fun p a => if a.pllConfig p == old.pllConfig p then a else a.acquire p
  (forFin 2 s2 fun u a => a.canBoot u).setCanLease (s2.rd 0xB0210B)

/-- The carriers take their restored shadows and start (spec/05 R163). -/
def State.startCarriers (s : State) : State :=
  let s1 := forFin 18 s fun k a => a.restShadows k
  forFin 6 s1 fun c a => a.syncCarriers c

/-- The lockout records as the NV store holds them; an unarmed record of group 0 makes LOCKOUT pending (spec/11 R371). -/
def State.readLockouts (s : State) : State :=
  let s1 := forFin 7 s fun g a => a.modLockout g fun _ => ⟨a.nv.lockouts[g], false, false⟩
  if s1.unarmed 0 then s1.wrBit kFlags 2 true else s1

/-- Steps 4 to 6 of BOOT, once the reference is present: the firmware bank, the dictionary, the lockout records; with no valid bank the boot loader stays (R101, R102; log entry 140). -/
def State.bootLoad (s : State) : State :=
  if s.dev != 0 || s.inReset || s.power.loaded || s.power.bootLoader || !s.clock.refPresent then s
  else
    let s1 := s.selectBank
    if s1.power.bootLoader then s1.setupSystem
    else (s1.restoreDict.readLockouts.applyRestored s1).modPower fun p => { p with loaded := true }

/-- The inputs of the front end at the end of BOOT: every DSCK restarts, the measurement of telemetry begins, while a low level has counted since the restore (spec/06 R196, R206, spec/09 R675). -/
def State.startInputs (s : State) : State := forFin 18 s.restartClocks fun d a => a.driverBegins d

/-- BOOT is left for HATCH once a firmware bank has passed, the dictionary is restored and PLL_T is locked (R103). -/
def State.bootComplete (s : State) : State :=
  let s1 := s.bootLoad
  if s1.dev != 0 || !s1.power.loaded || !s1.bitAt (kPllStatus 0) 0 then s1
  else (((s1.startCarriers.setupSystem).superStarts.enterHatch false).startInputs).lockoutCells

/-! ### The Supervisor (spec/04 R99, R100, spec/17 R552, spec/19 R626, R631) -/

/-- A Supervisor-only reset with its cause: transactions, maintenance, a STORE and an install end; cells, Edge, Guard, Loop and the lanes go on. -/
def State.supervisorReset (s : State) (cause : Nat) : State :=
  if !s.power.supervisor then s
  else
    let phase := s.fwPhase
    let s1 := (s.tagsReset).maintStop 15
    let s2 := if s1.jobs.store.isSome then s1.storeEnds 3 else s1
    ((s2.fwReset phase).wr kResetCause cause).modPower fun p =>
      { p with supervisor := false, wdtFrom := none, chargeReply := [] }

/-- The watchdog, last serviced at a tick, expires (R100). -/
def State.watchdog (s : State) (serviced : Nat) : State :=
  match s.power.wdtFrom with
  | none => s
  | some t => (((s.advanceTo (s.wdtTick t serviced)).supervisorReset 4).countSat 0x100502).raise 122

/-- The Supervisor executes again, from a bank whose digest passes; with none it stays absent (R99, R102; log entry 137). -/
def State.supervisorBack (s : State) : State :=
  if s.power.supervisor || s.dev == 0 || s.inReset then s
  else
    let (loaded, s1) := s.reloadBank
    if loaded then forFin 2 s1.superStarts fun u a => a.loadOut u else s1

/-! ### The CHARGE check (spec/04 R107, spec/10 R317) -/

/-- The manager's own cells as the check sees them. -/
def State.ownCells (s : State) : List CellInfo :=
  (List.finRange 6).map fun (c : Cell) =>
    let k (i : Nat) : Nat := s.rd (kCarrier c 0 i)
    let e : Engine := ⟨c.val, by omega⟩
    { device := 0, cell := c, fitted := s.fitted c, string := BitVec.ofNat 8 (s.rd (0x800001 + c)),
      stringPos := BitVec.ofNat 8 (s.rd (0x800007 + c)), mode := BitVec.ofNat 8 (k 1),
      phaseRef := BitVec.ofNat 8 (k 3), period := BitVec.ofNat 32 (k 4), fine := BitVec.ofNat 8 (k 5),
      targetsG := (List.range 32).any fun b =>
        s.bType e b == 14 && (s.bSub e b == 2 || s.bSub e b == 3) }

/-- Every fitted cell of the installation: this device's, and the workers' as read over the chain. -/
def State.chainCells (s : State) (cells : List CellInfo) : List CellInfo :=
  (s.ownCells ++ cells.filter fun x => x.device != 0 && x.device.val < s.rd 0xB03004).filter fun x => x.fitted

/-- The cells of string g that offend a condition of R317. -/
def State.offenders (s : State) (all : List CellInfo) (g : Fin 3) : List CellInfo :=
  let mine := all.filter fun x => x.string.toNat == g.val
  let twice (x : CellInfo) : Bool := (mine.filter fun y => y.stringPos == x.stringPos).length ≥ 2
  let short := mine.length < s.rd (unitKey 0x800301 g)
  let odd (x : CellInfo) : Bool := s.rd (unitKey 0x800101 g) == 1 &&
    !(x.phaseRef == 1 && x.mode == 1 && x.period.toNat == s.rd (unitKey 0x800102 g) &&
      x.fine.toNat == s.rd (unitKey 0x800103 g) && !x.targetsG)
  mine.filter fun x => twice x || short || odd x

/-- CHECK_FAIL of every string written afresh; whether no cell offends. -/
def State.checkMap (s : State) (all : List CellInfo) : Bool × State :=
  forFin 3 (true, s) fun g (ok, a) =>
    let bad := a.offenders all g
    (ok && bad.isEmpty, a.wr (unitKey 0x800109 g) (bad.foldl (fun m x => setBit m x.device.val true) 0))

/-- Validation of every fitted cell's program, and of the string engine's where it holds blocks (spec/07 R254). -/
def State.validateAll (s : State) : Bool × State :=
  let r := forFin 6 (true, s) fun c (ok, a) =>
    if a.fitted c then
      let e : Engine := ⟨c.val, by omega⟩
      let b := a.validateProgram e
      (ok && b.rd (unitKey 0x500022 e) == 1, b)
    else (ok, a)
  let s1 := r.2
  let holds := (List.range 32).any fun b => s1.bType 6 b != 0
  if holds then
    let s2 := s1.validateProgram 6
    (r.1, s2.modEngine 6 fun g => { g with inhibited := s2.rd (unitKey 0x500022 6) != 1 })
  else (r.1, s1.modEngine 6 fun g => { g with inhibited := false })

/-- A map cell put in its place, ascending by position. -/
def insertCell (m : MapCell) : List MapCell → List MapCell
  | [] => [m]
  | x :: xs => if m.pos < x.pos then m :: x :: xs else x :: insertCell m xs

/-- The installation map (spec/10 R317). -/
def mapOf (all : List CellInfo) : List MapCell :=
  all.foldl (fun l x =>
    if h : x.string.toNat < 3 then
      insertCell ⟨x.device, x.cell, ⟨x.string.toNat, h⟩, x.stringPos.toNat, false, 0xFF, 0, 0, false⟩ l
    else l) []

/-- CHARGE is entered: every fitted cell that is OFF enters CHARGE (spec/04 R110, spec/07 R228, spec/10 R317, R351). -/
def State.enterCharge (s : State) (all : List CellInfo) : State :=
  let s1 := s.maintAbortClaims 0x3F0078
  let s2 := if s1.manager then
      let m := mapOf all
      let n := forFin 3 s1 fun g a => a.wr (unitKey 0x800106 g) (m.filter fun x => x.str == g).length
      n.modString fun t => { t with map := m, noTrip := Vector.replicate 3 false, settled := 0, stopInCharge := false }
    else s1
  let s3 := (s2.clearEngine 6).enterDev 3
  forFin 6 s3 fun c a => if a.fitted c && a.cellSt c == 0 then a.setCell c 1 else a

/-- CMD CHARGE in READY: the checks in the order of R107, RESULT 2 or 3 where one fails. -/
def State.chargeCheck (s : State) (cells : List CellInfo) : State :=
  let all := s.chainCells cells
  let count := if s.manager then s.rd 0xB03004 == s.rd kExpected
    else s.stringRx.devices == some (s.rd 0xB03004)
  let placed := (List.range 6).all fun c => !s.fitted c || s.rd (0x800001 + c) ≤ 2
  let (valid, s1) := s.validateAll
  let (mapped, s2) := if s1.manager then s1.checkMap all else (true, s1)
  let fast := !s2.manager || !(s2.bitAt 0xB02003 8 && s2.bitAt 0xB02003 9)
  if !(count && placed && valid && mapped && fast) then s2.wr kResult 2
  else if s2.safePresent then s2.wr kResult 3
  else (s2.wr kResult 0).enterCharge all

/-! ### State commands (spec/04 R104, R108, R109) -/

/-- The states in which a command is accepted. -/
def cmdStates (code : Nat) : List Nat :=
  match code with
  | 1 => [2]
  | 2 => [3]
  | 3 => [3, 4]
  | 4 => [1, 2, 3, 4, 5]
  | 5 => [6, 7]
  | 6 => [2, 6]
  | 7 => [5]
  | 8 => [1, 2, 3, 4, 5, 6, 7]
  | 9 => [1, 2, 5, 6, 7]
  | _ => []

/-- RUN: every fitted cell in CHARGE has reported charge complete. -/
def State.cmdRun (s : State) : State :=
  if (List.finRange 6).any fun (c : Cell) => s.fitted c && s.cellSt c == 1 && !s.chargeDone c then s.wr kResult 4
  else
    let s1 := (s.wr kResult 0).enterDev 4
    forFin 6 s1 fun c a => if a.fitted c && a.cellSt c == 1 then a.setCell c 2 else a

/-- STOP: the controlled stop begins (spec/10 R351). -/
def State.cmdStop (s : State) : State :=
  let s1 := (s.wr kResult 0).wr 0x801109 1
  let s2 := s1.modPower fun p => { p with stopAt := some (p.stopAt.getD (s.tick + msTicks (s.rd 0x80100A))) }
  (s2.modString fun t => { t with stopInCharge := s.dev == 3, settled := 0 }).checkStop

/-- RESUME from SAFE and LOCKOUT; a self-fault refuses it before all else (spec/12 R396). -/
def State.cmdResume (s : State) : State :=
  if s.selfFaulted then s.wr kResult 3
  else if s.dev == 7 && s.unarmed 0 then s.wr kResult 5
  else if s.safePresent then s.wr kResult 3
  else (s.wr kResult 0).enterDev 2

/-- COCOON is entered: gates off, engines cleared, front end and capture stopped, maintenance ended, path Y off, path X at G0 (spec/04 R113, R120; spec/13 R436; spec/18 R601; spec/19 R631). The sense cycle of a cell that is not BYPASSED stops with its count cleared, and after the wake goes on at its old phase (log entry 142). -/
def State.enterCocoon (s : State) : State :=
  let s1 := ((s.wr kResult 0).maintStop 15).captureStop
  let s2 := ((s1.enterDev 5).modPower fun p => { p with entering := true, waking := false }).stopStreams.stopTables
  let s3 := forFin 7 s2 fun e a => a.clearEngine e
  let s4 := ((s3.setLane 2 0).setLane 3 0).wrAll
    [(kPll 2 + 7, if s3.bitAt (kPll 2 + 7) 3 then 10 else 2), (kLane 2 3, 0), (kLane 3 3, 0)]
  let s5 := { (s4.deassertSrc 87).acqSource with clock := { s4.clock with pll := upd s4.clock.pll 2 fun x =>
    { x with acqLimit := none, spreadAt := none } } }
  let s6 := s5.restartPath 0 0
  let s7 := forFin 6 s6 fun c a =>
    if a.cellSt c == 4 then a
    else a.modGuard c fun g => { g with sense := if g.sense == .driven then .driven else .ended, count := 0 }
  (forFin 2 s7.applyAll fun u a => a.canHealth u).reschedule.updPsel

/-- CMD COCOON: refused with RESULT 1 while a fitted cell is BYPASSING (R111; log entry 141). -/
def State.cmdCocoon (s : State) : State :=
  if (List.finRange 6).any fun (c : Cell) => s.fitted c && s.cellSt c == 3 then s.wr kResult 1
  else s.enterCocoon

/-- A wake source has been seen: HATCH is due (spec/04 R114). -/
def State.wakeSeen (s : State) (source : Nat) : State :=
  if s.dev == 5 && s.bitAt 0x100401 source then s.modPower fun p => { p with waking := true } else s

/-- A block on XU in COCOON: the fourth WAKE block in a run is a wake source (spec/13 R437). -/
def State.wakeBlock (s : State) (x : LineBlock) : State :=
  if s.dev != 5 || s.manager || !s.laneUp 0 then s
  else
    match s.blockIn 0 x with
    | (some (.control 0x2B _), s1) => s1
    | (some (.control 0x5A _), s1) =>
      let n := s1.lanes[(0 : Lane)].wakes + 1
      let s2 := s1.modLane 0 fun l => { l with wakes := n }
      if n ≥ 4 then s2.wakeSeen 1 else s2
    | (_, s1) => s1.modLane 0 fun l => { l with wakes := 0 }

/-- The wake takes effect: HATCH (spec/04 R114, R120; spec/06 R196). -/
def State.cocoonExit (s : State) : State :=
  if s.dev == 5 && s.power.waking && !s.power.entering then
    let s1 := s.modPower fun p => { p with waking := false }
    ((s1.enterHatch true).applyAll).restartClocks
  else s

/-- COCOON is fully entered; a wake seen meanwhile takes effect (spec/04 R115). -/
def State.cocoonEntered (s : State) : State :=
  if s.power.entering then (s.modPower fun p => { p with entering := false }).cocoonExit else s

/-- Whether a command falls in a decision that has taken the device to SAFE or LOCKOUT in this tick: it was valid in the state that was left (R105; log entry 143). -/
def State.fellNow (s : State) (code : Nat) : Bool :=
  match s.power.fell with
  | some (t, d) => t == s.tick && (cmdStates code).contains d
  | none => false

/-- Whether the collector decision that is due moves the device to SAFE or LOCKOUT: a state command that comes before that decision falls in it (R105; log entry 143). -/
def State.fallsDue (s : State) : Bool :=
  (s.rails.cond ||| s.rails.occ) &&& ~~~s.collector.asserted != 0 && s.dev < 6 && 6 ≤ (s.decide 0 false).dev

/-- A state command from the holder: in the same decision LOCKOUT and SAFE go first, and the command is refused. CHARGE in a manager with workers waits for what the chain says of their cells (R105, R108, R109; log entry 16). -/
def State.command (s : State) (code : Nat) : State :=
  if code = 0 then s
  else if 9 < code then s.wr kResult 6
  else if s.fellNow code then s.wr kResult 3
  else if !(cmdStates code).contains s.dev then s.wr kResult 1
  else if s.fallsDue then s.wr kResult 3
  else
    match code with
    | 1 => if s.manager && 1 < s.rd 0xB03004 then s else s.chargeCheck []
    | 2 => s.cmdRun
    | 3 => s.cmdStop
    | 4 => (s.wr kResult 0).safeCause 4
    | 5 => s.cmdResume
    | 6 => s.cmdCocoon
    | 7 => if s.bitAt 0x100401 0 then (s.wr kResult 0).wakeSeen 0 else s.wr kResult 1
    | 8 => (s.wr kResult 0).supervisorReset 5
    | _ => (s.wr kResult 0).modPower fun p => { p with resetDue := some (s.tick + msTicks 1) }

/-- CMD CHARGE with what the manager has read of the workers' cells. -/
def State.commandCharge (s : State) (cells : List CellInfo) : State :=
  if s.fellNow 1 then s.wr kResult 3
  else if s.dev != 2 then s.wr kResult 1
  else if s.fallsDue then s.wr kResult 3
  else s.chargeCheck cells

/-! ### CELL_CLEAR (spec/04 R110, spec/09 R307, R308) -/

/-- Whether nothing keeps a FAULTED cell from OFF: no sticky bit of class CELL or higher of the cell, no unarmed lockout. -/
def State.cellClean (s : State) (c : Cell) : Bool :=
  !s.unarmed ⟨1 + c.val, by omega⟩ &&
    !(List.range 128).any fun n => s.sticky n && s.classOf n ≥ 2 && s.inScope n c

/-- CELL_CLEAR. -/
def State.cellClear (s : State) (mask : Nat) : State :=
  if s.dev != 2 && s.dev != 6 then s
  else forFin 6 s fun c a =>
    if !bit mask c || !a.fitted c then a
    else if a.cellSt c == 4 then a.openContactor c .cellClear
    else if a.cellSt c == 6 && a.cellClean c then (a.setByp c false).setCell c 0
    else a

/-! ### The NV port (spec/19 R614, R623) -/

/-- A user of the port is done: what waits is written; a block write of IMAGE whose last segment is written ends. -/
def State.portFreed (s : State) : State :=
  let s1 := s.portServe
  match s1.jobs.install.staged with
  | none => s1
  | some head =>
    if s1.jobs.waiting.any NvJob.isFw then s1
    else
      let (st, s2) := ((s1.modInstall fun j => { j with staged := none }).modWdp fun w =>
        { w with blocks := w.blocks.filter fun b => b.tagGen != byteAt head 0 }).fwStaged
      if s2.running (byteAt head 0) then s2.tagDone (byteAt head 0) (withStatus head st) else s2

/-! ### ABORT (spec/04 R116 to R119) -/

/-- One named function stops: its outcome (0 idle after abort, 1 completed before abort, 2 nothing to abort; R118, R119). -/
def State.abortOne (s : State) (b : Nat) : Nat × State :=
  let did (busy : Bool) (a : State) : Nat × State := if busy then (0, a) else (2, s)
  match b with
  | 0 => did (s.capture.armedAt.isSome || s.capture.record.isSome || !s.capture.firings.isEmpty) s.captureStop
  | 1 => did (!s.wdp.blocks.isEmpty) s.abortBlocks
  | 2 => if s.storeCommitting then (1, s) else did s.jobs.store.isSome (s.storeEnds 3).portFreed
  | 3 =>
    if s.jobs.install.switched then (1, s)
    else
    let p := s.fwPhase
    let ended (a : State) : State :=
      match a.wdp.blocks.find? fun x => !x.read && x.index == 0xE010 with
      | some x => a.endBlock x 11
      | none =>
        match a.jobs.install.reply with
        | some tg => if a.running tg then a.tagDone tg (withStatus a.wdp.tags[tagOf tg].resp 11) else a
        | none => a
    did (1 ≤ p && p ≤ 5) ((ended s).fwFail 8)
  | 4 => did (anyOf s.jobs.slots fun x => x.isSome) (s.maintStop 15)
  | 5 =>
    if (anyOf s.string.molt fun x => match x with
      | some m => m.insert || !m.applied
      | none => false) then (0, s.abortMolt)
    else ((if (anyOf s.string.molt fun x => x.isSome) then 1 else 2), s)
  | 6 => did (!s.frames.forwarded.isEmpty) s.abortForwards
  | _ => (2, s)

/-- A write of ABORT: every named function stops at once, but that a re-insertion goes back over the next frames and MOLT is pending until it has ended; the lowest outcome is reported; the time taken, 100 µs at most, is open (R117; log entry 17). -/
def State.abort (s : State) (mask : Nat) : State :=
  let m := mask % 128
  let r := (bitsOf 7 m).foldl (fun (acc : Nat × State) b =>
    let x := acc.2.abortOne b
    (min acc.1 x.1, x.2)) (2, s)
  let (d, s1) := r.2.portFreed.freeVal
  let molt := bit m 5 && anyOf s1.string.molt fun x => match x with
    | some y => y.abort.isSome
    | none => false
  ((s1.wrAll [(0x100301, if molt then 32 else 0), (0x100302, m), (0x100303, r.1),
    (0x100304, if r.1 = 0 then d % 100001 else 0)]).count 0x100305).modPower fun p => { p with abortAt := s.tick }

/-! ### Firmware activation (spec/19 R625) -/

/-- Whether this is a quiet boundary. -/
def State.quiet (s : State) : Bool :=
  s.wdp.blocks.isEmpty && s.jobs.store.isNone && s.frames.swarm.isEmpty && s.frames.forwarded.isEmpty &&
    !(anyOf s.wdp.tags fun e => e.state == 1 &&
      s.jobs.install.reply != some (e.gen * 64 + byteAt e.resp 0 % 64)) &&
    !(anyOf s.thermal.lockouts fun l => l.writing) && !(anyOf s.string.molt fun x => x.isSome) &&
    s.jobs.waiting.isEmpty && !((List.range 4).any fun n => bit (s.slotClaims n) 9)

/-- The response that ACTIVATE waits for. -/
def State.answerActivate (s : State) (status : Nat) : State :=
  match s.jobs.install.reply with
  | none => s
  | some tg =>
    let s1 := s.modInstall fun j => { j with reply := none }
    if s1.running tg then s1.tagDone tg (withStatus s1.wdp.tags[tagOf tg].resp status) else s1

/-- The quiet boundary: select word, MIN_VERSION, response; in the boot loader too, whose access the Supervisor's absence does not stop (spec/17 R572). -/
def State.fwCommit (s : State) : State :=
  if s.fwPhase != 5 || s.jobs.install.switched || !s.quiet || !(s.power.supervisor || s.power.bootLoader) then s
  else (s.fwSwitch).answerActivate 0

/-- Within 1 ms after it: a Supervisor-only reset with cause 3; the boot loader gives way to the new bank, with which BOOT goes on. -/
def State.fwRestart (s : State) : State :=
  if !s.jobs.install.switched then s
  else if s.power.bootLoader then
    let phase := s.fwPhase
    (((s.tagsReset.fwReset phase).wr kResetCause 3).modPower fun p => { p with bootLoader := false }).bootLoad
  else s.supervisorReset 3

/-- An activation: its steps 1 to 3, and its reset, which may follow at once. -/
def State.fwActivation (s : State) (restart : Bool) : State :=
  if restart then s.fwCommit.fwRestart else s.fwCommit

/-- ACTIVATE_WAIT passes without a quiet boundary. -/
def State.fwWaitLate (s : State) : State :=
  match s.jobs.install.waitAt with
  | none => s
  | some t =>
    if s.fwPhase != 5 then s
    else
      let s1 := (s.advanceTo t).modInstall fun j => { j with waitAt := none }
      (s1.fwState 4 9).answerActivate 0

/-! ### The commands -/

def execPowerOnResetAssert (s : State) : Out := .next s.porAssert
def execPowerOnResetRelease (role : Bool) (s : State) : Out := .next (s.porRelease role)
def execResetNAssert (s : State) : Out := .next s.pinAssert
def execResetNRelease (role : Bool) (s : State) : Out := .next (s.pinRelease role)
def execDeviceReset (s : State) : Out := .next s.commandReset
def execBootComplete (s : State) : Out := .next s.bootComplete
def execSupervisorWatchdogExpiry (serviced : BitVec 64) (s : State) : Out := .next (s.watchdog serviced.toNat)
def execSupervisorRestartComplete (s : State) : Out := .next s.supervisorBack
def execCocoonEntryComplete (s : State) : Out := .next s.cocoonEntered

/-- WAKE high for 10 µs (spec/04 R114). -/
def execWakePinHigh (ticks : BitVec 32) (s : State) : Out := .next (if 6250 ≤ ticks.toNat then s.wakeSeen 2 else s)
def execWakeBlockReceive (block : LineBlock) (s : State) : Out := .next (s.wakeBlock block)
def execCocoonExit (s : State) : Out := .next s.cocoonExit
def execStoreComplete (ok : Bool) (s : State) : Out := .next (s.storeDone ok).portFreed
def execLockoutRecordWritten (g : Fin 7) (ok : Bool) (s : State) : Out := .next (s.recordWritten g ok).portFreed

/-- The reference is declared present; in BOOT the firmware, the dictionary and the lockout records are loaded (spec/03 R76, spec/04 R101). -/
def execRefclkPresent (counts : Vector Byte 8) (s : State) : Out := .next (s.refPresent counts).bootLoad
def execFwCheckComplete (s : State) : Out := .next s.fwChecked
def execFwActivation (restart : Bool) (s : State) : Out := .next (s.fwActivation restart)
def execActivateWaitExpiry (s : State) : Out := .next s.fwWaitLate
def execMaintActivityEnd (slot : Fin 4) (outcome : Byte) (v1 v2 v3 : BitVec 32) (s : State) : Out :=
  .next (s.maintEnds slot (outcome == 3) v1.toNat v2.toNat v3.toNat)

end Sys2Proof.Machine
end

