-- ==== Sys2Proof/Machine/Flags.lean ====
section
/-! DEFINITION. What each object reads as: the objects' values, and the flags and values that are computed from the state when they are read (spec/20 R641, R643 and the owning chapters' maps). -/

namespace Sys2Proof.Machine

/-- FLAGS of STATE: DERATE is 1 while a cell's factor, DERATE_LEVEL included, is below 1 (spec/04 R122, spec/12 R387). -/
def State.stateFlags (s : State) : Nat :=
  setBit (s.rd kFlags) 0 ((List.range 6).any fun c => fe.lt (s.cellQuantity c 0) f1)

/-- HELD of a cell: bridges held, and those in row 2 of R289 (spec/09 R314). -/
def State.heldFlags (s : State) (c : Cell) : Nat :=
  maskOf 8 fun i =>
    if i < 3 then s.rd (kHoldCause c i) != 0
    else if 4 ≤ i && i < 7 then s.guardRow c ⟨(i - 4) % 3, by omega⟩ == 2 else false

/-- BROKEN with NTC_VALID (spec/11 R360, R376). -/
def State.brokenFlags (s : State) : Nat := setBit (s.rd 0x900224) 30 s.ntcValid

/-- EXCLUDED (spec/11 R359). -/
def State.excludedFlags (s : State) : Nat :=
  maskOf 28 fun n => s.excluded ⟨n % 28, by omega⟩

/-- A group's lockout record as it reads, and UNARMED (spec/11 R369). -/
def State.lockoutRecord (s : State) (g : Fin 7) : Nat := leNat ((s.thermal.lockouts[g].record).take 16)
def State.unarmedFlags (s : State) : Nat := maskOf 7 fun g => s.unarmed ⟨g % 7, by omega⟩

/-- STATUS of the collector: FLT_IN and SAFE_N are live (spec/12 R409). -/
def State.collectorFlags (s : State) : Nat :=
  setBit (setBit (s.rd 0xA00401) 5 (!s.pins.fltInP || s.pins.fltInN)) 6 (!s.pins.safeN)

/-- Word w of a map of 128 bits. -/
def word128 (m : BitVec 128) (w : Nat) : Nat := m.toNat / 2 ^ (32 * w) % 2 ^ 32

/-- The rails as they stand: a rail fault reads as asserted (spec/12 R379, R408). -/
def State.railsNow (s : State) : BitVec 128 := s.rails.cond ||| s.rails.occ ||| s.collector.railFault

/-- LEASE_REMAINING in ns; 0 where no expiry is armed (spec/15 R506; log entry 18). -/
def State.leaseRemaining (s : State) : Nat :=
  if s.holder = 0xFF then 0
  else
    match s.lease.until_ with
    | some t => (t - s.tick) * 8 / 5
    | none => 0

/-- TIMING_STATUS of a controller: INTEGRATING until 11 recessive bits have passed (spec/16 R541). -/
def State.timingFlags (s : State) (u : Fin 2) : Nat :=
  let v := s.rd (kTiming u 0x0F)
  setBit (setBit (setBit v 4 (s.restricted u)) 0 s.can[u].apply.isSome) 1 (bit v 1 && s.tick < s.integrated u)

/-- Entry t of TAG_STATE (spec/17 R575). -/
def TagSt.byte (e : TagSt) : Nat := e.state + 64 * e.gen

/-- The entries of a cyclic map: those before the first 0 (spec/17 R570). -/
def State.cyclicMap (s : State) (idx : Nat) : List Nat :=
  ((List.range 8).map fun i => s.rd (idx * 256 + 1 + i)).takeWhile fun e => e != 0

/-- Index, subindex and size of a map entry; a map's total. -/
def entryIndex (e : Nat) : Nat := e % 65536
def entrySub (e : Nat) : Nat := e / 65536 % 256
def entrySize (e : Nat) : Nat := e / 2 ^ 24
def mapTotal (m : List Nat) : Nat := (m.map entrySize).sum

/-- STATUS of CAPTURE (spec/18 R603). -/
def State.captureFlags (s : State) : Nat :=
  maskOf 5 fun i =>
    match i with
    | 0 => s.rd 0xD00001 == 1 && s.dev != 0 && s.dev != 5
    | 1 => s.capture.armedAt.isSome
    | 2 => s.capture.record.isSome
    | 3 => s.capture.egress.waiting
    | _ => s.capture.egress.stallAt.isSome

/-- FLAGS of the CEQ (spec/18 R609). -/
def State.ceqFlags (s : State) : Nat :=
  setBit (setBit (s.rd 0xD06002) 0 (s.capture.readable == 0)) 3 (s.capture.packets.any fun p => !p.closed)

/-- CEQ_STATUS/03 to 09 (spec/18 R595). -/
def State.ceqStatus (s : State) (sub : Nat) : Nat :=
  let c := s.capture
  match sub with
  | 3 => c.readable
  | 4 => c.free
  | 5 => c.writePtr
  | 6 => c.readPtr
  | 7 => c.markPtr
  | 8 => c.releasePtr
  | _ => c.openPtr

/-- FW_STATUS/02 to 06 (spec/19 R634). -/
def State.fwStatus (s : State) (sub : Nat) : Nat :=
  match sub with
  | 2 => s.jobs.install.active.val
  | 3 => s.nv.fw[s.jobs.install.active].version
  | 4 => s.nv.fw[s.idleBank].state
  | 5 => if s.nv.fw[s.idleBank].state = 2 then s.nv.fw[s.idleBank].version else 0
  | _ => s.minVersion

/-- Network time as NETWORK_TIME reads it (spec/14 R462). -/
def State.timeStatus (s : State) (sub : Nat) : Nat :=
  match sub with
  | 1 => s.net.sec
  | 2 => s.ns
  | 3 => s.frac
  | _ => s.stamp

/-- The unit of an index as a cell, and as a controller. -/
def cellOfUnit (u : Nat) : Cell := ⟨u % 6, by omega⟩
def canOfUnit (u : Nat) : Fin 2 := ⟨u % 2, by omega⟩

/-- The number that an object of areas 0x0 to 0x9 reads as. -/
def State.valueLow (s : State) (key base sub u : Nat) : Nat :=
  let c := cellOfUnit u
  if key = kFlags then s.stateFlags
  else if 0x3000 ≤ base && base ≤ 0x3002 && sub = 0x0D then
    s.carrierStatus (carrierOf c ⟨base % 3, by omega⟩)
  else if base = 0x3040 && sub = 2 then s.commitPending c
  else if (0x4200 ≤ base && base ≤ 0x4219 || 0x4400 ≤ base && base ≤ 0x4411) && sub = 2 then
    s.rd (key - 1) % 2 ^ 32
  else if 0x6000 ≤ base && base ≤ 0x6003 then
    let e : Engine := ⟨u % 7, by omega⟩
    if sub = 0x0F then (s.settleStep e).profileStatus e (base % 4) else (s.settleStep e).rd key
  else if base = 0x7004 && sub = 1 then s.heldFlags c
  else if base = 0x7004 && sub = 5 then s.tripActive c
  else if key = 0x900224 then s.brokenFlags
  else if key = 0x900225 then s.excludedFlags
  else if base = 0x9003 && 1 ≤ sub && sub ≤ 7 then s.lockoutRecord ⟨(sub - 1) % 7, by omega⟩
  else if key = 0x900308 then s.unarmedFlags
  else s.rd key

/-- The number that an object of areas 0xA to 0xE reads as. -/
def State.valueHigh (s : State) (key base sub u : Nat) : Nat :=
  let w := canOfUnit u
  if key = 0xA00005 then s.stickyMap.toNat
  else if key = 0xA00401 then s.collectorFlags
  else if base = 0xA004 && 2 ≤ sub && sub ≤ 5 then word128 s.railsNow (sub - 2)
  else if base = 0xA004 && 6 ≤ sub && sub ≤ 9 then word128 s.collector.railFault (sub - 6)
  else if key = 0xA0040A && !s.manager then 0
  else if base = 0xB010 then s.timeStatus sub
  else if key = 0xB01308 && s.manager then setBit (s.rd key) 0 true
  else if key = 0xB02004 then s.leaseRemaining
  else if key = 0xB04003 then s.frames.forwarded.length
  else if base = 0xC000 && sub = 0x0F then s.timingFlags w
  else if base = 0xC020 && sub = 2 then s.can[w].stamps.length
  else if key = 0xC04206 then s.wdp.blocks.length
  else if key = 0xC04309 || key = 0xC04409 then mapTotal (s.cyclicMap base)
  else if key = 0xD0000D then s.captureFlags
  else if key = 0xD0000E then s.capture.next
  else if 0xD010 ≤ base && base ≤ 0xD02F && sub = 4 then s.trackWidth (base - 0xD010)
  else if key = 0xD06002 then s.ceqFlags
  else if base = 0xD060 && 3 ≤ sub && sub ≤ 9 then s.ceqStatus sub
  else if key = 0xD06107 then s.capture.lastWord
  else if base = 0xE010 && 2 ≤ sub && sub ≤ 6 then s.fwStatus sub
  else s.rd key

/-- The number an object reads as. -/
def State.value (s : State) (key : Nat) : Nat :=
  let idx := key / 256
  let sub := key % 256
  if sub = 0 && (match familyOf idx with | some f => f.cnt.isSome | none => false) then objDefault key
  else if managerWritten idx sub && key != 0xB02101 && !s.manager then objDefault key
  else if key < 0xA00000 then s.valueLow key (baseOf idx) sub (unitOf idx)
  else s.valueHigh key (baseOf idx) sub (unitOf idx)

end Sys2Proof.Machine
end

