-- ==== Sys2Proof/Machine/Access.lean ====
section
/-! DEFINITION. Host access to the dictionary: reads with their effects, writes with the checks of R557 in their order, and what an accepted write does (spec/17 R557, spec/20 R637 to R649, and the owning chapters). -/

namespace Sys2Proof.Machine

/-! ### What an accepted write does, area by area -/

/-- One of PLL_T, PLL_LX, PLL_LY by its object (spec/03 R87). -/
def pllOf (idx : Nat) : Fin 3 := if idx = 0x2000 then 0 else if idx = 0x2010 then 1 else 2

/-- Areas 0x0 to 0x2 (spec/20 R646, spec/04 R108, R110, R116, spec/03 R70). -/
def State.writeCore (s : State) (key v : Nat) : State :=
  if key = kFitted then (s.setFitted v).reschedule
  else if key = 0x100101 then s.command v
  else if key = 0x100103 then s.cellClear v
  else if key = 0x100200 then s.abort v
  else if key = 0x200008 || key = 0x20100A || key = 0x20200A then
    if v = 1 then s.acquire (pllOf (key / 256)) else s
  else if 0x200000 ≤ key && key < 0x203000 then (s.wr key v).acquire (pllOf (key / 256))
  else s.wr key v

/-- C of every leg of a mask set to 0 (spec/05 R171). -/
def State.carryClear (s : State) (c : Cell) (mask : Nat) : State :=
  forFin 6 s fun n a => if bit mask n then a.setCarry ⟨6 * c.val + n.val, by omega⟩ 0 else a

/-- COMMIT of the bridges of a mask (spec/05 R157). -/
def State.commitMask (s : State) (c : Cell) (mask : Nat) : State :=
  forFin 3 s fun b a => if bit mask b then a.armCommit (carrierOf c b) else a

/-- Area 0x3 (spec/05 R153, R157, R163, R166, R168, R171). -/
def State.writeEdge (s : State) (key base sub v : Nat) (c : Cell) : State :=
  if base = 0x3040 then s.commitMask c v
  else if base = 0x3022 && sub = 0x10 then s.clrBits key v
  else if base = 0x3022 && sub = 0x11 then s.carryClear c v
  else
    let s1 := s.wr key v
    match shadowOf key with
    | some (k, i) => s1.loadShadow k i
    | none =>
      if base ≤ 0x3002 && sub = 7 then s1.loadSlew (carrierOf c ⟨base % 4 % 3, by omega⟩)
      else if base = 0x3022 && 1 ≤ sub && sub ≤ 6 then
        let l : Leg := ⟨6 * c.val + (sub - 1) % 6, by omega⟩
        s1.setCarry l (s1.carry l)
      else if base ≤ 0x3002 && (sub = 1 || sub = 3) then s1.syncCarriers c
      else if base = 0x3050 then
        let n := (sub - 1) % 15
        let y : Fin 5 := ⟨n % 5, by omega⟩
        s1.modCarrier (carrierOf c ⟨n / 5 % 3, by omega⟩) fun x => { x with evRestart := x.evRestart.set y true }
      else s1

/-- DSD_DELAY of a cell is written: edges up to this tick keep the delay before it (spec/06 R196). -/
def State.keepDelay (s : State) (c : Cell) : State :=
  { s with meas := { s.meas with delay := s.meas.delay.set c (s.dsdDelay c, s.tick) } }

/-- DSD_DELAY of every cell (spec/06 R214). -/
def State.delayAll (s : State) (v : Nat) : State :=
  (forFin 6 s fun c a => a.keepDelay c).wrAll [(0x40000C, v), (0x40000D, v), (0x40000E, v), (0x40000F, v), (0x400011, v), (0x400012, v)]

/-- Area 0x4. A write of 1 to ENABLE restarts the filters of a stream that is enabled already, too: DESIGN CHOICE (spec/06 R186, R190, R192, R196, R199, R203, R206, R216; log entry 173). -/
def State.writeMeas (s : State) (key base sub v : Nat) : State :=
  if key = 0x400001 then s.setAdcs v
  else if key = 0x400002 then s.setPairs v
  else if key = 0x400003 then s.request 2 v
  else if key = 0x40000A then s.delayAll v
  else if base = 0x4000 && 4 ≤ sub && sub ≤ 9 then (s.wr key v).restartDsck ⟨(sub - 4) % 6, by omega⟩
  else if base = 0x4000 && 0x0C ≤ sub && sub ≤ 0x12 && sub != 0x10 then
    (s.keepDelay ⟨(if sub < 0x10 then sub - 0x0C else sub - 0x0D) % 6, by omega⟩).wr key v
  else if key = 0x40000B then
    let old := s.rd key
    forFin 6 (s.wr key v) fun c a => if bit old c != bit v c then a.restartDsck c else a
  else if 0x4100 ≤ base && base ≤ 0x4119 then
    if sub = 0x0A then s.clrBits key v
    else if sub = 5 && v = 0 && base ≤ 0x4106 then
      let ch : Fin 7 := ⟨(base - 0x4100) % 7, by omega⟩
      ((s.windowEnds ch true).windowEnds ch false).wr key v
    else if sub = 1 then (s.rehome (base - 0x4100) v).wr key v
    else s.wr key v
  else if 0x4300 ≤ base && base ≤ 0x4311 then
    let n : Fin 18 := ⟨(base - 0x4300) % 18, by omega⟩
    if sub = 1 then ((if v = 0 then s.setFast n false false else s).wr key v).restartStream n
    else if sub = 9 && v = 0 then (s.setFast n false false).wr key v
    else s.wr key v
  else if key = 0x450001 then s.wireStart v
  else if base = 0x4600 && 1 ≤ sub && sub ≤ 0x12 then
    let s1 := s.wr key v
    (if s.rd key = v then s1 else s1.driverMode ⟨(sub - 1) % 18, by omega⟩).reschedule
  else s.wr key v

/-- Counts and durations of the tasks of a mask set to 0 (spec/07 R259). -/
def State.clearLoop (s : State) (e : Engine) (mask : Nat) : State :=
  forFin 3 s fun t a =>
    if bit mask t then
      a.wrAll ([0x03, 0x06, 0x09, 0x0C, 0x0F, 0x12, 0x15].map fun i => (kLoop e (i + t.val), 0))
    else a

/-- The program of an engine counts as not validated (spec/07 R254). -/
def State.unvalidate (s : State) (e : Engine) : State := s.wr (unitKey 0x500022 e) 0

/-- The sixteen parameters of a block (spec/07 R256, R260). -/
def State.setParams (s : State) (e : Engine) (b : Nat) (data : Bytes) : State :=
  s.wrAll ((List.range 16).map fun i => (kBlock e b (5 + i), leAt data (4 * i) 4))

/-- Area 0x5 (spec/07 R254, R256, R259). -/
def State.writeLoop (s : State) (key base sub v : Nat) (data : Bytes) (e : Engine) : State :=
  if base = 0x5000 then
    if sub = 0x21 then if v = 1 then s.validateProgram e else s
    else (s.wr key v).unvalidate e
  else if base = 0x5002 then
    if sub = 1 then s.clrBits key v else s.clearLoop e v
  else if base = 0x5003 && sub ≤ 3 then (s.wr key v).unvalidate e
  else if base = 0x5010 || (0x5010 < base && base ≤ 0x502F) then
    if sub ≤ 4 then (s.wr key v).unvalidate e
    else if sub = 0x15 then s.setParams e (base - 0x5010) data
    else s.wr key v
  else s.wr key v

/-- Area 0x6 (spec/08 R270, R272, R279, R282, R283). -/
def State.writeProfile (s : State) (key base sub v : Nat) (data : Bytes) (u : Nat) : State :=
  let e := engineOfUnit u
  let c := cellOfUnit u
  let s := s.settleStep e
  if base ≤ 0x6003 then
    let n : Fin 4 := ⟨base % 4, by omega⟩
    match sub with
    | 1 => s.onEnable e n v
    | 3 => (s.wr key v).wrBit (kProf e n 0x0F) 5 true
    | 0x0A => s.setLimits e n (leAt data 0 4) (leAt data 4 4) (leAt data 8 4) (leAt data 12 4)
    | 0x0B => if v = 1 then s.markSeed e n .start else s
    | _ => s.wr key v
  else if base = 0x6010 then
    if sub = 1 then s.modeRequest c v else (s.wr key v).updMode c
  else s.wr key v

/-- Area 0x7 (spec/09 R293, R296, R304). -/
def State.writeGuard (s : State) (key base sub v : Nat) (c : Cell) : State :=
  if base = 0x7000 then (s.wr key v).applyCell c
  else if base = 0x7001 && sub = 0x0C then s.guardRelease c v
  else if base = 0x7001 && sub ≤ 8 then
    let s1 := s.wr key v
    forFin 9 s1 fun i a => if a.tripInput c i then a.trip c i else a
  else s.wr key v

/-- Area 0x8: a MOLT request answers STATUS 6 where it is refused (spec/10 R343, R345). -/
def State.writeString (s : State) (key base sub v u : Nat) : Nat × State :=
  if base = 0x8003 && sub = 3 then
    let g : Fin 3 := ⟨u % 3, by omega⟩
    let s1 := s.moltRequest g (v == 2)
    (if s.string.molt[g].isNone && s1.string.molt[g].isSome then 0 else 6, s1)
  else (0, s.wr key v)

/-- Areas 0x9 and 0xA (spec/11 R360, R365, R372; spec/12 R384, R403). -/
def State.writeThermal (s : State) (key base sub v : Nat) : State :=
  if base = 0x9000 then (s.wr key v).reschedule
  else if key = 0x900224 then s.clearBroken v
  else if key = 0x900401 then s.rearmGroups v
  else if base = 0xA000 then s.clearSticky ⟨(sub - 1) % 4, by omega⟩ v
  else if key = 0xA0040A then s.clrBits key v
  else s.wr key v

/-- Area 0xB (spec/14 R463, R473; spec/15 R493, R495, R498). -/
def State.writeNet (s : State) (key base sub v : Nat) (data : Bytes) : State :=
  if key = 0xB01201 then
    (s.hostStep (stepOffset data)).getD s
  else if key = 0xB01307 then (s.wr key v).judgeConverged
  else if 0xB018 ≤ base && base ≤ 0xB01F && sub = 1 then (s.wr key (v % 2 ^ 112)).wr (key + 4) 0
  else if base = 0xB021 then
    match sub with
    | 0x01 => (s.wr key v).offerLease
    | 0x02 => (s.wr key v).updRevert
    | 0x03 => (s.wr key v).updRevert
    | 0x08 => (s.wr key v).updPsel
    | 0x09 => (s.wr key v).updPsel
    | 0x0B => s.setCanLease v
    | 0x0C => (s.wr key v).updRevert
    | _ => s.wr key v
  else s.wr key v

/-- Area 0xC (spec/16 R513, R514, R520, R531, R533, R537). -/
def State.writeCan (s : State) (key base sub v : Nat) (data : Bytes) (u : Fin 2) : State :=
  if base = 0xC000 then
    if sub = 1 then ((s.wr key v).canModeBits u).loadOut u
    else if sub = 0x0B then if v = 1 then s.canApply u else s
    else s.wr key v
  else if base = 0xC010 then s.writeMsg u sub data
  else if base = 0xC020 then
    if v != 1 then s
    else if sub = 3 then s.clearOverflow u
    else s.modCan u fun c => { c with stamps := [] }
  else if base = 0xC030 then
    if v != 1 then s else if sub = 8 then s.canRecover u else s.dupClear u
  else s.wr key v

/-- DEAD_TIME/02 to 06 at their defaults (spec/18 R607). -/
def State.deadTimeClear (s : State) : State :=
  s.wrAll ([0xD05002, 0xD05003, 0xD05004, 0xD05005, 0xD05006].map fun k => (k, objDefault k))

/-- Area 0xD (spec/18 R578, R582, R585, R593, R597, R598, R607). -/
def State.writeCapture (s : State) (key base v : Nat) : State :=
  if key = 0xD00001 then s.captureOn (v == 1)
  else if key = 0xD0000A then s.setEgress v
  else if key = 0xD04051 || key = 0xD06002 then s.clrBits key v
  else if key = 0xD00008 || key = 0xD00009 || key = 0xD04108 || key = 0xD05007 ||
      (base = 0xD061 && key != 0xD06103) then
    if v != 1 then s
    else if key = 0xD00008 then s.captureArm
    else if key = 0xD00009 then s.captureForce
    else if key = 0xD04108 then s.calArm
    else if key = 0xD05007 then s.deadTimeClear
    else if key = 0xD06104 then s.ceqMark
    else if key = 0xD06105 then s.ceqRewind
    else s.ceqRelease
  else s.wr key v

/-- CHECK begins (spec/19 R623). -/
def State.fwCheck (s : State) : State := (s.wr 0xE01102 3).modInstall fun j => { j with checkAt := s.tick }

/-- Area 0xE: a maintenance request answers STATUS 6 where it is refused (spec/19 R616, R620, R623, R630, R633). -/
def State.writeMemory (s : State) (key v : Nat) (data : Bytes) : Nat × State :=
  if key = 0xE02001 then
    let (ok, s1) := s.maintRequest (byteAt data 0) (leAt data 4 4) (leAt data 8 4)
    (if ok then 0 else 6, s1)
  else
    (0,
      if key = 0xE00001 then if v = 1 then s.storeStart else s
      else if key = 0xE00002 then if v = 1 then s.storeDefaults else s
      else if key = 0xE00202 then s.oemWrite data
      else if key = 0xE01101 then if v = 1 then s.fwCheck else s.fwActivate none
      else if key = 0xE02002 then s.maintStop v
      else s.wr key v)

/-- What an accepted write of one object does, with the STATUS its owner answers. -/
def State.applyWrite (s : State) (key v : Nat) (data : Bytes) : Nat × State :=
  let idx := key / 256
  let base := baseOf idx
  let sub := key % 256
  let u := unitOf idx
  match key / 2 ^ 20 with
  | 0x3 => (0, s.writeEdge key base sub v (cellOfUnit u))
  | 0x4 => (0, s.writeMeas key base sub v)
  | 0x5 => (0, s.writeLoop key base sub v data (engineOfUnit u))
  | 0x6 => (0, s.writeProfile key base sub v data u)
  | 0x7 => (0, s.writeGuard key base sub v (cellOfUnit u))
  | 0x8 => s.writeString key base sub v u
  | 0x9 => (0, s.writeThermal key base sub v)
  | 0xA => (0, s.writeThermal key base sub v)
  | 0xB => (0, s.writeNet key base sub v data)
  | 0xC => (0, s.writeCan key base sub v data (canOfUnit u))
  | 0xD => (0, s.writeCapture key base v)
  | 0xE => s.writeMemory key v data
  | _ => (0, s.writeCore key v)

/-! ### Writes (spec/17 R557, spec/20 R639 to R643) -/

/-- The checks of a write of n bytes that come before its value's: 14, 2, 3, 4, 7, 8, 5; 0 where all pass; DUP_CLEAR may come on either channel (spec/16 R533). -/
def State.writePre (s : State) (holder : Bool) (idx sub n : Nat) : Nat :=
  if s.dev == 0 && !bootServed idx then 14
  else
    match rowFor idx sub with
    | (st, none) => st
    | (_, some e) =>
      if !e.writable || (!s.manager && managerWritten idx sub) then 4
      else if !e.lengthOk idx n then 7
      else if !holder && !(baseOf idx == 0xC030 && sub == 0x0B) then 8
      else if !e.wr.allows s.dev then 5
      else 0

/-- The checks of a write in their order: those before its value's, then 6; 0 where all pass. -/
def State.writeStatus (s : State) (holder : Bool) (idx sub : Nat) (data : Bytes) : Nat :=
  let st := s.writePre holder idx sub data.length
  if st != 0 then st
  else
    match rowFor idx sub with
    | (_, some e) =>
      if (accessIndices idx).all fun i => s.valueOk e (i * 256 + sub) (e.taken data) data then 0 else 6
    | _ => 0

/-- An accepted write, at every index that it reaches in ascending cell order. -/
def State.writeAll (s : State) (idx sub : Nat) (data : Bytes) : Nat × State :=
  match rowFor idx sub with
  | (st, none) => (st, s)
  | (_, some e) =>
    (accessIndices idx).foldl (fun a i =>
      let (st, s1) := a.2.applyWrite (i * 256 + sub) (e.taken data) data
      (if a.1 = 0 then st else a.1, s1)) (0, s)

/-- A MOLT request outside RUN: besides its STATUS 5, RESULT takes 1 (spec/10 R343, R345). -/
def State.moltOutside (s : State) (idx sub : Nat) (data : Bytes) : State :=
  if sub == 3 && (byteAt data 0 == 1 || byteAt data 0 == 2) then
    (accessIndices idx).foldl (fun a i => if baseOf i == 0x8003 then a.wr (i * 256 + 8) 1 else a) s
  else s

/-- A write by a host: its STATUS, and the state after it. -/
def State.hostWrite (s : State) (holder : Bool) (idx sub : Nat) (data : Bytes) : Nat × State :=
  let st := s.writeStatus holder idx sub data
  if st = 0 then s.writeAll idx sub data
  else (st, if st = 5 then s.moltOutside idx sub data else s)

/-! ### Reads -/

/-- The bytes of an object: zeros for WO, a DOMAIN of WO none (spec/20 R641). -/
def State.readBytes (s : State) (e : Sub) (key : Nat) : Bytes :=
  let idx := key / 256
  let u := canOfUnit (unitOf idx)
  if e.acc == .wo then if e.kind == .domain then [] else natLe e.size 0
  else if baseOf idx = 0xC010 && key % 256 != 0 then recordBytes (s.msg u (key % 256))
  else if baseOf idx = 0xC020 && key % 256 = 1 then s.can[u].stamps.headD (natLe 12 0)
  else if key = 0xC04207 then s.wdp.tags.toList.map fun t => BitVec.ofNat 8 t.byte
  else if key = 0xD06101 then (s.ceqRead 1).1
  else if key = 0xD06102 then (s.ceqRead (s.rd 0xD06103)).1
  else if key = 0xE00202 then s.oemRead
  else natLe e.size (s.value key)

/-- Whether an object is a result of a channel or a stream (spec/06 R212). -/
def isResult (base sub : Nat) : Bool :=
  (sub == 1 || sub == 2) && ((0x4200 ≤ base && base ≤ 0x4219) || (0x4400 ≤ base && base ≤ 0x4411))

/-- What a read leaves behind, FRESH apart (spec/16 R522, R528, R536; spec/18 R596). -/
def State.readEffect (s : State) (key : Nat) : State :=
  let base := baseOf (key / 256)
  let sub := key % 256
  let u := canOfUnit (unitOf (key / 256))
  if base = 0xC010 && sub != 0 then s.clearNew u sub
  else if base = 0xC020 && sub = 1 then s.modCan u fun c => { c with stamps := c.stamps.drop 1 }
  else if base = 0xC030 && (sub = 4 || sub = 5) then s.wr key 0
  else if key = 0xD06101 then (s.ceqRead 1).2
  else if key = 0xD06102 then (s.ceqRead (s.rd 0xD06103)).2
  else s

/-- What a read by a host leaves behind (spec/06 R212). -/
def State.readDone (s : State) (key : Nat) : State :=
  let base := baseOf (key / 256)
  if isResult base (key % 256) then s.clearFresh ((key / 256) * 256 + 1) else s.readEffect key

/-- The checks of a read in their order; whether a size above 56 bytes is served (spec/17 R557, spec/20 R639, R649; spec/18 R598). -/
def State.readStatus (s : State) (block : Bool) (idx sub : Nat) : Nat :=
  if s.dev == 0 && !bootServed idx then 14
  else
    match rowFor idx sub with
    | (st, none) => st
    | (_, some e) =>
      if broadcast idx then 4
      else if idx == 0xD061 && (sub == 1 || sub == 2) && s.rd 0xD0000A == 1 then 6
      else if !block && ((idx == 0xD061 && sub == 2) || 56 < (s.readBytes e (idx * 256 + sub)).length) then 13
      else 0

/-- A read sees what time has brought: of area 0x5 what runs in progress have recorded so far, of ERROR_COUNTERS how far recovery has come (spec/07 R251, R261, spec/16 R531). -/
def State.watched (s : State) (idx : Nat) : State :=
  if idx / 4096 = 5 then s.noteNumeric
  else if baseOf idx = 0xC030 then forFin 2 s fun u a => a.countRecovery u
  else s

/-- A read by a host: its STATUS, the bytes, and the state after it. -/
def State.hostRead (s : State) (block : Bool) (idx sub : Nat) : Nat × Bytes × State :=
  let s := s.watched idx
  let st := s.readStatus block idx sub
  match rowFor idx sub with
  | (_, some e) =>
    if st = 0 then (0, s.readBytes e (idx * 256 + sub), s.readDone (idx * 256 + sub)) else (st, [], s)
  | _ => (st, [], s)

/-! ### Commands that are one access (spec/17 R557) -/

/-- What an access answers, kept as the model's response to a command given directly. -/
def State.answered (s : State) (status : Nat) (data : Bytes) : State :=
  { s with lastStatus := status, lastData := data }

/-- A write by the holder of the lease. -/
def State.write (s : State) (idx sub : Nat) (data : Bytes) : State :=
  if !s.power.supervisor && s.dev != 0 then s.answered 1 []
  else
    let (st, s1) := s.hostWrite true idx sub data
    s1.answered st []

/-- A write of a number of n bytes. -/
def State.writeNat (s : State) (idx sub n v : Nat) : State := s.write idx sub (natLe n v)

/-- A read. -/
def State.read (s : State) (block : Bool) (idx sub : Nat) : State :=
  if !s.power.supervisor && s.dev != 0 then s.answered 1 []
  else
    let (st, d, s1) := s.hostRead block idx sub
    s1.answered st d

end Sys2Proof.Machine
end

