-- ==== Sys2Proof/Machine/Direct.lean ====
section
/-! DEFINITION. The commands that are one access of the lease holder to the dictionary, each at its object; their STATUS and data stand in lastStatus and lastData. -/

namespace Sys2Proof.Machine

/-! ### State commands (spec/04 R104 to R114, R351) -/

/-- A state command written to CMD. -/
def State.cmd (s : State) (code : Nat) : State := s.writeNat 0x1001 1 1 code

/-- A transaction whose response has this header is answered (spec/17 R562, R566): STATUS and data, with RESULT for a STATE telegram that was served; a SWARM that failed somewhere answers STATUS 19 with the mask of those positions, its own among them. -/
def State.respond (s : State) (head : Bytes) (status : Nat) (fails : Option Nat) : State :=
  let tg := byteAt head 0
  let state := byteAt head 1 == 5
  match fails with
  | none => s.tagDone tg (withData head status (if state && status = 0 then natLe 1 (s.rd kResult) else []))
  | some m =>
    let m := if status = 0 then m else setBit m 0 true
    if m = 0 then s.tagDone tg (withData head 0 (if state then natLe 1 (s.rd kResult) else []))
    else s.tagDone tg (withData head 19 (natLe 4 m))

/-- The transactions that wait for CMD CHARGE are answered in turn; every one after the first is a command of its own (spec/17 R557, R562). -/
def State.answerCharge (s : State) (cells : List CellInfo) : State :=
  let waiting := s.power.chargeReply
  let s1 := s.modPower fun p => { p with chargeReply := [] }
  (waiting.foldl (fun (x : Bool × State) w =>
    let a := if x.1 then x.2 else x.2.commandCharge cells
    (false, if a.running w.1 then a.respond a.wdp.tags[tagOf w.1].resp 0 w.2
      else a)) (true, s1)).2

/-- CMD CHARGE with what the chain says of the workers' cells (log entry 16). -/
def State.cmdCharge (s : State) (cells : List CellInfo) : State :=
  if s.dev == 0 then s.answered 14 []
  else if !s.power.supervisor then s.answered 1 []
  else ((s.commandCharge cells).answered 0 []).answerCharge cells

def execCmdCharge (cells : List CellInfo) (s : State) : Out := .next (s.cmdCharge cells)
def execCmdRun (s : State) : Out := .next (s.cmd 2)
def execCmdStop (s : State) : Out := .next (s.cmd 3)
def execCmdSafe (s : State) : Out := .next (s.cmd 4)
def execCmdResume (s : State) : Out := .next (s.cmd 5)
def execCmdCocoon (s : State) : Out := .next (s.cmd 6)
def execCmdWake (s : State) : Out := .next (s.cmd 7)
def execCmdSupervisorRestart (s : State) : Out := .next (s.cmd 8)
def execCmdDeviceReset (s : State) : Out := .next (s.cmd 9)
def execCellClear (mask : Byte) (s : State) : Out := .next (s.writeNat 0x1001 3 1 mask.toNat)
def execCellFittedWrite (mask : Byte) (s : State) : Out := .next (s.writeNat 0x0011 0 1 mask.toNat)

/-! ### ABORT (spec/04 R116 to R119) -/

def execAbortCapture (s : State) : Out := .next (s.writeNat 0x1002 0 2 0x01)
def execAbortBlock (s : State) : Out := .next (s.writeNat 0x1002 0 2 0x02)
def execAbortStore (s : State) : Out := .next (s.writeNat 0x1002 0 2 0x04)
def execAbortFwInstall (s : State) : Out := .next (s.writeNat 0x1002 0 2 0x08)
def execAbortMaint (s : State) : Out := .next (s.writeNat 0x1002 0 2 0x10)
def execAbortMolt (s : State) : Out := .next (s.writeNat 0x1002 0 2 0x20)
def execAbortForward (s : State) : Out := .next (s.writeNat 0x1002 0 2 0x40)

/-! ### Clocks, Edge, measurement, Loop, profiles, Guard -/

def execPllRestart (p : Fin 3) (v : Byte) (s : State) : Out :=
  .next (if p.val = 0 then s.writeNat 0x2000 8 1 v.toNat else s.writeNat (0x2000 + 0x10 * p.val) 0x0A 1 v.toNat)
def execCommit (c : Cell) (mask : Byte) (s : State) : Out :=
  .next (s.writeNat (0x3040 + 256 * c.val) 1 1 mask.toNat)
def execCarryClear (c : Cell) (mask : Byte) (s : State) : Out :=
  .next (s.writeNat (0x3022 + 256 * c.val) 0x11 1 mask.toNat)
def execOndemand (ch : Byte) (s : State) : Out := .next (s.writeNat 0x4000 3 1 ch.toNat)
def execOpenWireRequest (mask : BitVec 32) (s : State) : Out := .next (s.writeNat 0x4500 1 4 mask.toNat)
def execResultRead (stream : Bool) (n : Byte) (valueOnly : Bool) (s : State) : Out :=
  .next (s.read false ((if stream then 0x4400 else 0x4200) + n.toNat) (if valueOnly then 2 else 1))
def execValidate (e : Engine) (v : Byte) (s : State) : Out :=
  .next (s.writeNat (0x5000 + 256 * e.val) 0x21 1 v.toNat)
def execLoopStatusClear (e : Engine) (mask : Byte) (s : State) : Out :=
  .next (s.writeNat (0x5002 + 256 * e.val) 0x18 1 mask.toNat)
def execProfileRestart (e : Engine) (n : Fin 4) (v : Byte) (s : State) : Out :=
  .next (s.writeNat (0x6000 + n.val + 256 * e.val) 0x0B 1 v.toNat)
def execLimitsSet (e : Engine) (n : Fin 4) (vMax aMax jMax tol : F32) (s : State) : Out :=
  .next (s.write (0x6000 + n.val + 256 * e.val) 0x0A
    (natLe 4 vMax.toNat ++ natLe 4 aMax.toNat ++ natLe 4 jMax.toNat ++ natLe 4 tol.toNat))
def execModeReq (c : Cell) (v : Byte) (s : State) : Out := .next (s.writeNat (0x6010 + 256 * c.val) 1 1 v.toNat)
def execGuardRelease (c : Cell) (mask : Byte) (s : State) : Out :=
  .next (s.writeNat (0x7001 + 256 * c.val) 0x0C 1 mask.toNat)

/-! ### MOLT, thermal supervision, collector -/

def execMoltRemove (g : Fin 3) (s : State) : Out := .next (s.writeNat (0x8003 + 256 * g.val) 3 1 1)
def execMoltInsert (g : Fin 3) (s : State) : Out := .next (s.writeNat (0x8003 + 256 * g.val) 3 1 2)
def execBrokenClear (mask : BitVec 32) (s : State) : Out := .next (s.writeNat 0x9002 0x24 4 mask.toNat)
def execRearm (mask : Byte) (s : State) : Out := .next (s.writeNat 0x9004 1 1 mask.toNat)
def execStickyClear (w : Fin 4) (mask : BitVec 32) (s : State) : Out :=
  .next (s.writeNat 0xA000 (1 + w.val) 4 mask.toNat)

/-! ### Network time, leases, CAN -/

def execTimeIncrementWrite (v : BitVec 64) (s : State) : Out := .next (s.writeNat 0xB011 1 8 v.toNat)
def execTimeStep (data : BitVec 128) (s : State) : Out := .next (s.writeNat 0xB012 1 16 data.toNat)
def execLeaseNsWrite (v : BitVec 32) (s : State) : Out := .next (s.writeNat 0xB021 1 4 v.toNat)
def execCanApply (u : Fin 2) (v : Byte) (s : State) : Out := .next (s.writeNat (0xC000 + 256 * u.val) 0x0B 1 v.toNat)
def execCanObjectConfigure (u : Fin 2) (n : Byte) (data : Bytes) (s : State) : Out :=
  .next (s.write (0xC010 + 256 * u.val) n.toNat data)

/-- A record with PENDING as the request or its cancelling writes it (spec/16 R518, R523, R524). -/
def withPending (data : Bytes) (b : Bool) : Bytes := data.set 11 (BitVec.ofNat 8 (setBit (byteAt data 11) 0 b))

def execCanTransmitRequest (u : Fin 2) (n : Byte) (data : Bytes) (s : State) : Out :=
  .next (s.write (0xC010 + 256 * u.val) n.toNat (withPending data true))
def execCanTransmitCancel (u : Fin 2) (n : Byte) (data : Bytes) (s : State) : Out :=
  .next (s.write (0xC010 + 256 * u.val) n.toNat (withPending data false))
def execCanObjectRead (u : Fin 2) (n : Byte) (s : State) : Out :=
  .next (s.read true (0xC010 + 256 * u.val) n.toNat)
def execCanRecover (u : Fin 2) (v : Byte) (s : State) : Out := .next (s.writeNat (0xC030 + 256 * u.val) 8 1 v.toNat)
def execDupClear (u : Fin 2) (v : Byte) (s : State) : Out := .next (s.writeNat (0xC030 + 256 * u.val) 0x0B 1 v.toNat)
def execLecRead (u : Fin 2) (dlec : Bool) (s : State) : Out :=
  .next (s.read false (0xC030 + 256 * u.val) (if dlec then 5 else 4))
def execTimestampEntryRead (u : Fin 2) (s : State) : Out := .next (s.read false (0xC020 + 256 * u.val) 1)
def execTimestampFlush (u : Fin 2) (v : Byte) (s : State) : Out :=
  .next (s.writeNat (0xC020 + 256 * u.val) 5 1 v.toNat)

/-! ### Capture and the egress queue -/

def execCaptureEnable (v : Byte) (s : State) : Out := .next (s.writeNat 0xD000 1 1 v.toNat)
def execCaptureArm (v : Byte) (s : State) : Out := .next (s.writeNat 0xD000 8 1 v.toNat)
def execCaptureForce (v : Byte) (s : State) : Out := .next (s.writeNat 0xD000 9 1 v.toNat)
def execCalArm (v : Byte) (s : State) : Out := .next (s.writeNat 0xD041 8 1 v.toNat)
def execDeadTimeClear (v : Byte) (s : State) : Out := .next (s.writeNat 0xD050 7 1 v.toNat)
def execCeqWordRead (s : State) : Out := .next (s.read false 0xD061 1)
def execCeqWindowRead (s : State) : Out := .next (s.read true 0xD061 2)
def execCeqMark (v : Byte) (s : State) : Out := .next (s.writeNat 0xD061 4 1 v.toNat)
def execCeqRewind (v : Byte) (s : State) : Out := .next (s.writeNat 0xD061 5 1 v.toNat)
def execCeqRelease (v : Byte) (s : State) : Out := .next (s.writeNat 0xD061 6 1 v.toNat)
def execEgressWrite (v : Byte) (s : State) : Out := .next (s.writeNat 0xD000 0x0A 1 v.toNat)

/-! ### NV store, firmware, maintenance -/

def execStore (v : Byte) (s : State) : Out := .next (s.writeNat 0xE000 1 1 v.toNat)
def execDefaults (v : Byte) (s : State) : Out := .next (s.writeNat 0xE000 2 1 v.toNat)
def execOemAreaWrite (data : Bytes) (s : State) : Out := .next (s.write 0xE002 2 data)

/-- Whether a BLOCK_WRITE of IMAGE of a size is accepted, and its STATUS (spec/19 R623, spec/17 R558). -/
def State.imageStatus (s : State) (holder : Bool) (size : Nat) : Nat :=
  if size < 256 || 131064 < size then 7
  else if !holder then 8
  else if s.fwPhase == 1 || s.fwPhase == 3 || s.fwPhase == 5 then 12
  else 0

/-- BLOCK_WRITE of IMAGE, the idle bank INVALID and STAGING (spec/19 R623). -/
def State.imageWrite (s : State) (size : Nat) : State :=
  if !s.power.supervisor && s.dev != 0 then s.answered 1 []
  else
    let st := s.imageStatus true size
    (if st = 0 then s.fwStage size else s).answered st []

def execFwImageWrite (size : BitVec 32) (s : State) : Out := .next (s.imageWrite size.toNat)
def execFwCheck (s : State) : Out := .next (s.writeNat 0xE011 1 1 1)
def execFwActivate (s : State) : Out := .next (s.writeNat 0xE011 1 1 2)

/-- A request for a maintenance activity (spec/19 R629, R630). -/
def State.maint (s : State) (act : Nat) (arg duration : BitVec 32) : State :=
  s.write 0xE020 1 (natLe 4 act ++ natLe 4 arg.toNat ++ natLe 4 duration.toNat)

def execMaintStandbySoak (arg duration : BitVec 32) (s : State) : Out := .next (s.maint 1 arg duration)
def execMaintLanePrbs (arg duration : BitVec 32) (s : State) : Out := .next (s.maint 2 arg duration)
def execMaintOpenWireSweep (arg duration : BitVec 32) (s : State) : Out := .next (s.maint 3 arg duration)
def execMaintNtcSweep (arg duration : BitVec 32) (s : State) : Out := .next (s.maint 4 arg duration)
def execMaintFineDelaySweep (arg duration : BitVec 32) (s : State) : Out := .next (s.maint 5 arg duration)
def execMaintGateLoopback (arg duration : BitVec 32) (s : State) : Out := .next (s.maint 6 arg duration)
def execMaintNvScrub (arg duration : BitVec 32) (s : State) : Out := .next (s.maint 7 arg duration)
def execMaintFailoverDrill (arg duration : BitVec 32) (s : State) : Out := .next (s.maint 8 arg duration)
def execMaintStop (mask : Byte) (s : State) : Out := .next (s.writeNat 0xE020 2 1 mask.toNat)

/-- An object without a row of its own (spec/17 R557). -/
def execObjectWrite (index : BitVec 16) (sub : Byte) (data : Bytes) (s : State) : Out :=
  .next (s.write index.toNat sub.toNat data)

end Sys2Proof.Machine
end

