-- ==== Sys2Proof/Machine/Wdp.lean ====
section
/-! DEFINITION. The dictionary protocol: transactions by tag and generation, reads and writes, block transfers, state commands, aborts, SWARM and forwarding (spec/17, spec/14 R458 to R461). -/

namespace Sys2Proof.Machine

/-! ### Telegrams (spec/17 R549) -/

/-- The header of a telegram as a response repeats it, and the whole telegram. -/
def headOf (t : Telegram) : Bytes := responseTo t 0 []
def bytesOf (t : Telegram) : Bytes :=
  natLe 1 t.tagGen.toNat ++ natLe 1 t.op.toNat ++ natLe 1 t.status.toNat ++ natLe 1 t.len.toNat ++
    natLe 2 t.index.toNat ++ natLe 1 t.sub.toNat ++ natLe 1 t.seg.toNat ++ t.data

/-- A telegram from a node and its bytes. -/
def readTelegram (node : Nat) (b : Bytes) : Telegram :=
  { node := BitVec.ofNat 7 node, tagGen := b.getD 0 0, op := b.getD 1 0, status := b.getD 2 0, len := b.getD 3 0,
    index := BitVec.ofNat 16 (leAt b 4 2), sub := b.getD 6 0, seg := b.getD 7 0, data := b.drop 8 }

/-- DATA as LEN gives it; whether LEN runs past it. -/
def datOf (t : Telegram) : Bytes := t.data.take t.len.toNat
def cutOf (t : Telegram) : Bool := t.data.length < t.len.toNat

/-- The TAGGEN of a telegram. -/
def tgOf (t : Telegram) : Nat := t.tagGen.toNat

/-- The Supervisor's place is empty: nothing serves a request (spec/17 R572). -/
def State.unserved (s : State) : Bool := !s.power.supervisor && !s.power.bootLoader

/-- The receive object that held a telegram becomes free: the lowest system object with NEW of its function and one of the nodes (spec/16 R522, spec/17 R548). -/
def State.taken (s : State) (o : Origin) (func : Nat) (nodes : List Nat) : State :=
  match o with
  | .can u =>
    let hit (n : Nat) : Bool :=
      let m := s.msg u n
      isValid m && !isTx m && bit m.ostat 1 && m.ident % 2048 / 128 == func && nodes.contains (m.ident % 128)
    match ((List.range 20).map (· + 1)).find? hit with
    | some n => s.clearNew u n
    | none => s
  | .dict _ _ _ => s

/-! ### Writes and state commands of a transaction (spec/17 R557, R562; spec/04 R98) -/

/-- A write of a transaction and its response: a reset command is answered before it acts, CHARGE in a manager with workers and ACTIVATE are answered when they are done. -/
def State.runWrite (s : State) (head : Bytes) (holder : Bool) (idx sub : Nat) (data : Bytes) (fails : Option Nat) :
    State :=
  let tg := byteAt head 0
  let (st, s1) := s.hostWrite holder idx sub data
  let code := byteAt data 0
  if st = 0 && idx = 0x1001 && sub = 1 && code = 8 then
    let r := s1.rd kResult
    (((s.wr kResult r).respond head 0 fails).hostWrite holder idx sub data).2
  else if st = 0 && idx = 0x1001 && sub = 1 && code = 1 && s.dev = 2 && s.manager && 1 < s.rd 0xB03004 then
    s1.modPower fun p => { p with chargeReply := p.chargeReply ++ [(tg, fails)] }
  else if st = 0 && idx = 0xE011 && sub = 1 && code = 2 then s1.modInstall fun j => { j with reply := some tg }
  else s1.respond head st fails

/-- BLOCK_READ or BLOCK_WRITE: its STATUS and the DATA of its response; where it is 0 the block transaction runs (spec/17 R558 to R560). -/
def State.startBlock (s : State) (o : Origin) (holder : Bool) (t : Telegram) : Nat × Bytes × State :=
  let idx := t.index.toNat
  let sub := t.sub.toNat
  let run (a : State) (b : BlockSt) : State := a.modWdp fun w => { w with blocks := w.blocks ++ [b] }
  if t.op = 3 then
    let st := s.readStatus true idx sub
    if st != 0 then (st, [], s)
    else if s.wdp.blocks.length ≥ 2 then (12, [], s)
    else
      let (_, d, s1) := s.hostRead true idx sub
      (0, natLe 4 d.length, run s1 ⟨tgOf t, o, true, idx, sub, d.length, d, 0, s.tick⟩)
  else
    let size := leAt (datOf t) 0 4
    let image := idx = 0xE010 && sub = 1
    let st := if (datOf t).length < 4 then 15
      else if image then s.imageStatus holder size
      else s.writePre holder idx sub size
    if st != 0 then (st, [], s)
    else if s.wdp.blocks.length ≥ 2 then (12, [], s)
    else (0, [], run (if image then s.fwStage size else s) ⟨tgOf t, o, false, idx, sub, size, [], 0, s.tick⟩)

/-- What a new request does in this device: its function, its operation, its data (spec/17 R550, R557, R562). -/
def State.serve (s : State) (o : Origin) (func : Nat) (t : Telegram) : State :=
  let head := headOf t
  let holder := s.fromHolder o
  let idx := t.index.toNat
  let sub := t.sub.toNat
  let op := t.op.toNat
  if cutOf t then s.respond head 15 none
  else if func = 10 then
    if op = 5 then s.runWrite head holder 0x1001 1 (datOf t) none else s.respond head 15 none
  else
    match op with
    | 1 =>
      let (st, d, s1) := s.hostRead false idx sub
      s1.tagDone (tgOf t) (withData head st d)
    | 2 => s.runWrite head holder idx sub (datOf t) none
    | 3 | 4 =>
      let (st, d, s1) := s.startBlock o holder t
      if st = 0 then s1.reply o (tgOf t) (withData head 0 d) else s.respond head st none
    | _ => s.respond head 15 none

/-! ### SWARM in the manager (spec/14 R461, spec/17 R566) -/

/-- The function of a telegram that a SWARM carries. -/
def swarmFunc (t : Telegram) : Nat := if t.op = 5 then 10 else 6

/-- A request of a SWARM as this device acts on it, without a response (spec/14 R461, spec/17 R564, R566). -/
def State.applySwarm (s : State) (o : Origin) (func : Nat) (t : Telegram) : State :=
  if cutOf t then s
  else if func = 10 then (s.hostWrite true 0x1001 1 (datOf t)).2
  else if t.op = 2 then (s.hostWrite true t.index.toNat t.sub.toNat (datOf t)).2
  else if t.op = 3 || t.op = 4 then (s.startBlock o true t).2.2
  else s

/-- A SWARM has reached every worker: the manager applies it and answers once; a block transaction goes on in its own entry; calibration goes on from here (spec/17 R566, spec/18 R593). -/
def State.swarmApply (s : State) (w : SwarmSt) : State :=
  let t := w.telegram
  let o : Origin := .can ⟨w.channel % 2, by omega⟩
  if w.answered then
    if t.op = 3 || t.op = 4 then
      let (st, d, s1) := s.startBlock o true t
      if st != 0 then s.respond (headOf t) st (some w.failed)
      else if w.failed = 0 then s1.reply o (tgOf t) (withData (headOf t) 0 d)
      else s1.reply o (tgOf t) (withData (headOf t) 19 (natLe 4 w.failed))
    else if t.op = 5 then s.runWrite (headOf t) true 0x1001 1 (datOf t) (some w.failed)
    else s.runWrite (headOf t) true t.index.toNat t.sub.toNat (datOf t) (some w.failed)
  else
    let s1 := s.applySwarm o (swarmFunc t) t
    if t.index = 0xD041 && t.op = 2 then
      s1.modCapture fun c => { c with calPhase := if c.calPhase = 2 then 3 else c.calPhase, calFrom := s1.tick }
    else s1

/-- The SWARM in front goes to its next position, in descending order, or ends; the next one then starts. Every turn of the fuel ends one SWARM. -/
def State.swarmGo : Nat → State → State
  | 0, s => s
  | n + 1, s =>
    match s.frames.swarm with
    | [] => s
    | w :: ws =>
      let p := min w.at_ (s.rd 0xB03004)
      if p ≤ 1 then
        State.swarmGo n (({ s with frames := { s.frames with swarm := ws } }).swarmApply w)
      else
        let s1 := { s with frames := { s.frames with swarm := { w with at_ := p - 1 } :: ws } }
        s1.sendReliable 3 (p - 1)
          (dictBytes 3 (swarmFunc w.telegram) w.channel (tgOf w.telegram) (bytesOf w.telegram))

/-- The first SWARM waiting starts where none runs; 32 stands for one that has not started. -/
def State.swarmKick (s : State) : State :=
  match s.frames.swarm with
  | w :: _ => if w.at_ = 32 then s.swarmGo (s.frames.swarm.length + 1) else s
  | [] => s

/-- A SWARM put in the queue. -/
def State.swarmStart (s : State) (channel : Nat) (t : Telegram) (answered : Bool) : State :=
  { s with frames := { s.frames with swarm := s.frames.swarm ++ ([⟨channel, t, 32, 0, answered⟩] : List SwarmSt) } }.swarmKick

/-- The DICT frame of a SWARM to a position has been acknowledged, or has failed (spec/14 R461). -/
def State.swarmNext (s : State) (p : Nat) (ok : Bool) : State :=
  match s.frames.swarm with
  | w :: ws =>
    if w.at_ != p then s
    else
      let w := if ok then w else { w with failed := setBit w.failed p true }
      { s with frames := { s.frames with swarm := w :: ws } }.swarmGo (ws.length + 2)
  | [] => s

/-- A node-0 request that the manager received from CAN (spec/17 R566). -/
def State.serveSwarm (s : State) (o : Origin) (func : Nat) (t : Telegram) : State :=
  let head := headOf t
  let op := t.op.toNat
  if cutOf t || !((func = 6 && (op = 2 || op = 3 || op = 4)) || (func = 10 && op = 5)) then s.respond head 15 none
  else if !s.fromHolder o then s.respond head 8 none
  else
    match o with
    | .can u => s.swarmStart u.val t true
    | .dict _ _ _ => s

/-! ### Tags (spec/17 R553 to R556) -/

/-- A request enters the tag table, or is a duplicate; one of another generation supersedes the old transaction. -/
def State.byTag (s : State) (o : Origin) (t : Telegram) (run : State → State) : State :=
  let e := s.wdp.tags[tagOf (tgOf t)]
  let start (a : State) : State := run ((a.setTag (tgOf t) 1 (headOf t) o).count 0xC04201)
  if e.state = 0 then start s
  else if e.gen = genOf (tgOf t) then
    if e.state = 1 then s.count 0xC04202
    else (s.count 0xC04202).reply o (tgOf t) e.resp
  else
    let old := e.gen * 64 + (tgOf t) % 64
    let (n, s1) := (if e.state = 1 then s.stopWork old else s).suppress old
    start (s1.count 0xC04203 (if e.state = 1 then 1 else n)).swarmKick

/-- The BUSY telegram of a request (spec/17 R572). -/
def State.busy (s : State) (o : Origin) (t : Telegram) : State :=
  match o with
  | .can u => s.queueOut u s.node (tgOf t) (responseTo t 1 [])
  | .dict _ _ ch => s.sendReliable 3 0 (dictBytes 4 7 ch.toNat (tgOf t) (responseTo t 1 []))

/-! ### Forwarding in the manager (spec/14 R458 to R460, spec/17 R567) -/

/-- Whether a held transaction is this request: node, TAGGEN, and whether it is an ABORT. -/
def Forwarded.is (f : Forwarded) (node tg : Nat) (abort : Bool) : Bool :=
  f.node == node && f.tagGen == tg && (byteAt f.head 1 == 6) == abort

/-- The held transactions changed; the ended ones noted. -/
def State.modForwarded (s : State) (f : List Forwarded → List Forwarded) : State :=
  { s with frames := { s.frames with forwarded := f s.frames.forwarded } }
def State.dropForward (s : State) (node tg : Nat) : State :=
  { s with frames := { s.frames with dropped := addDropped s.frames.dropped node tg } }

/-- A function 7 telegram of a worker's node sent on CAN. -/
def State.answerFor (s : State) (node channel tg : Nat) (data : Bytes) : State :=
  s.queueOut ⟨channel % 2, by omega⟩ (s.node + node) tg data

/-- A request of a worker's node: refused with STATUS 8 where it writes and its channel does not hold the lease, discarded as a duplicate, or passed on as a DICT frame (spec/15 R496, spec/17 R567). -/
def State.forward (s : State) (u : Fin 2) (func : Nat) (t : Telegram) : State :=
  let p := t.node.toNat - s.node
  let refuse (st : Nat) : State := s.answerFor p u.val (tgOf t) (responseTo t st [])
  if !s.manager || !s.power.supervisor || s.node = 0 || t.node.toNat ≤ s.node || 31 < p || !s.bitAt 0xB04001 p then s
  else
    let reads := (func = 6 && (t.op = 1 || t.op = 3)) || (func = 8 && t.op = 0x11)
    let abort := func = 9
    if !reads && !s.fromHolder (.can u) then refuse 8
    else if func = 8 then s.sendReliable 3 p (dictBytes 0 8 u.val (tgOf t) (bytesOf t))
    else if s.frames.forwarded.any fun f => f.is p (tgOf t) abort then s
    else
      let stale (f : Forwarded) : Bool := !abort && f.node == p && byteAt f.head 1 != 6 && f.tagGen % 64 == (tgOf t) % 64
      let s1 := (s.frames.forwarded.filter stale).foldl (fun a f =>
        (a.dropForward p f.tagGen).sendReliable 3 p
          (dictBytes 2 9 u.val f.tagGen (telBytes f.tagGen 6 0 0 0 0 []))) s
      let s2 := s1.modForwarded fun l => l.filter fun f => !stale f
      if s2.frames.forwarded.length ≥ 64 then s2.answerFor p u.val (tgOf t) (responseTo t 10 [])
      else
        let held : Forwarded := ⟨p, u.val, (tgOf t), s2.tick + msTicks (s2.rd 0xB04002), headOf t⟩
        let s3 := { s2 with frames := { s2.frames with
          forwarded := s2.frames.forwarded ++ [held]
          dropped := s2.frames.dropped.filter fun d => d != (p, (tgOf t)) } }
        (s3.count 0xB04004).sendReliable 3 p
          (dictBytes (if abort then 2 else 0) func u.val (tgOf t) (bytesOf t))

/-- A transaction ends as unreachable (spec/14 R460). -/
def State.unreachable (s : State) (f : Forwarded) : State :=
  let s1 := (s.modForwarded fun l => l.filter fun x => !x.is f.node f.tagGen (byteAt f.head 1 == 6)).dropForward
    f.node f.tagGen
  s1.answerFor f.node f.channel f.tagGen (withStatus f.head 9)

/-- FORWARD_TIMEOUT of a transaction passes. -/
def State.forwardLate (s : State) (node tg : Nat) : State :=
  match s.frames.forwarded.find? fun f => f.node == node && f.tagGen == tg with
  | none => s
  | some f => ((s.advanceTo f.due).unreachable f).count 0xB04005

/-- A worker's response or BUSY: sent on CAN, or discarded and counted where its transaction has ended; a block transaction has more responses than one (spec/14 R460, spec/17 R559, R560). -/
def State.takeResponse (s : State) (node channel : Nat) (data : Bytes) : State :=
  let tg := byteAt data 0
  let op := byteAt data 1
  let abort := op == 6
  let held := s.frames.forwarded.any fun f => f.is node tg abort
  let stream := op == 3 || op == 4 || op == 0x10 || op == 0x12
  if data.length < 8 then s.count 0xC04204
  else if held || (stream && !s.frames.dropped.contains (node, tg)) then
    (s.modForwarded fun l => l.filter fun f =>
      !(f.is node tg abort || (abort && byteAt data 2 == 11 && f.is node tg false))).answerFor node channel tg data
  else s.count 0xB04006

/-! ### Requests (spec/17 R545, R553, R558, R563, R566, R572) -/

/-- Whether a request is meant for this device: its own node, or a DICT frame. -/
def State.mine (s : State) (o : Origin) (t : Telegram) : Bool :=
  match o with
  | .can _ => s.node != 0 && t.node.toNat == s.node
  | .dict _ _ _ => true

/-- A telegram of function 6, 8, 9 or 10: served here, answered BUSY, taken as a SWARM, forwarded, or ignored. -/
def State.receive (s : State) (o : Origin) (func : Nat) (t : Telegram) (here : State → State) : State :=
  let s := s.taken o func [t.node.toNat]
  if s.mine o t then
    if s.unserved then s.busy o t else here s
  else
    match o with
    | .can u =>
      if s.unserved || s.node = 0 || s.power.bootLoader then s
      else if t.node = 0 then
        if s.manager && (func = 6 || func = 10) then s.byTag o t fun a => a.serveSwarm o func t else s
      else s.forward u func t
    | .dict _ _ _ => s

/-- A request of function 6 or 10. -/
def State.transact (s : State) (o : Origin) (func : Nat) (t : Telegram) : State :=
  s.receive o func t fun a => a.byTag o t fun b => b.serve o func t

/-! ### Blocks (spec/17 R558 to R561) -/

/-- A block transaction changed. -/
def State.modBlock (s : State) (tg : Nat) (f : BlockSt → BlockSt) : State :=
  s.modWdp fun w => { w with blocks := w.blocks.map fun b => if b.tagGen = tg then f b else b }

/-- A function 7 telegram of a block transaction. -/
def State.blockOut (s : State) (b : BlockSt) (op status seg : Nat) (data : Bytes) : State :=
  s.reply b.origin b.tagGen (telBytes b.tagGen op status b.index b.sub seg data)

/-- Bytes that a block write has brought so far. -/
def State.blockLength (s : State) (b : BlockSt) : Nat :=
  if b.index = 0xE010 then s.stagedLength else b.data.length

/-- The last segment of a block write: the total, then the write itself; one of IMAGE runs on while its bytes wait for the NV port (R559; spec/19 R614). -/
def State.blockWritten (s : State) (b : BlockSt) : State :=
  if s.blockLength b != b.size then s.endBlock b 7
  else
    let head := b.response 0 []
    let s1 := s.modWdp fun w => { w with blocks := w.blocks.filter fun x => x.tagGen != b.tagGen }
    if b.index = 0xE010 then
      if s.jobs.waiting.any NvJob.isFw then s.modInstall fun j => { j with staged := some head }
      else
        let (st, s2) := s1.fwStaged
        s2.respond head st none
    else s1.runWrite head (s1.fromHolder b.origin) b.index b.sub b.data none

/-- A segment of a block write, from the channel that may write (R559; spec/15 R496); of an image whose last segment waits for the port none is expected. -/
def State.segment (s : State) (o : Origin) (t : Telegram) : State :=
  match s.wdp.blocks.find? fun b => b.tagGen == (tgOf t) && !b.read with
  | none => s.count 0xC04204
  | some b =>
    if !s.fromHolder o then s.reply o (tgOf t) (responseTo t 8 [])
    else if t.len = 0 || 56 < t.len.toNat then s.reply o (tgOf t) (responseTo t 15 [])
    else
      let whole := b.index = 0xE010 && s.jobs.install.staged.isSome
      let s1 := s.modBlock (tgOf t) fun b => { b with lastAt := s.tick }
      if t.seg.toNat != b.next % 256 || whole then s1.blockOut b 0x12 16 (b.next % 256) []
      else
        let s2 := if b.index = 0xE010 then s1.fwBytes (datOf t) else s1
        let b1 := { b with
          lastAt := s.tick, next := b.next + 1, data := if b.index = 0xE010 then [] else b.data ++ (datOf t) }
        let s3 := s2.modBlock (tgOf t) fun _ => b1
        if bit t.status.toNat 0 then s3.blockWritten b1
        else if b1.next % 8 = 0 then s3.blockOut b1 0x12 0 (b1.next % 256) []
        else s3

/-- A WINDOW of a block read: the segments asked for, or its end; of 256 segments, SEG 0 after the last one has been sent (R558, R560; log entry 101). -/
def State.window (s : State) (o : Origin) (t : Telegram) : State :=
  match s.wdp.blocks.find? fun b => b.tagGen == (tgOf t) && b.read with
  | none => s.count 0xC04204
  | some b =>
    let n := byteAt (datOf t) 0
    let seg := t.seg.toNat
    let total := ceilDiv b.size 56
    if t.len = 0 || n = 0 || 8 < n then s.reply o (tgOf t) (responseTo t 15 [])
    else
      let sent := max b.next (min (seg + n) total)
      let s1 := s.modBlock (tgOf t) fun b => { b with lastAt := s.tick, next := sent }
      if total < seg then s1.reply o (tgOf t) (responseTo t 16 [])
      else if seg = total || (total = 256 && seg = 0 && b.next = 256) then
        (s1.dropBlock b).setTag (tgOf t) 2 (b.response 0 (natLe 4 b.size)) b.origin
      else
        (List.range (min n (total - seg))).foldl (fun a i =>
          a.blockOut b 0x10 (if seg + i + 1 = total then 1 else 0) (seg + i)
            ((b.data.drop (56 * (seg + i))).take 56)) s1

/-- A telegram of function 8: SEGMENT or WINDOW, any other OP is malformed (R549, R550). -/
def State.blockTelegram (s : State) (o : Origin) (t : Telegram) : State :=
  if cutOf t || (t.op != 0x10 && t.op != 0x11) then s.reply o (tgOf t) (responseTo t 15 [])
  else if t.op = 0x10 then s.segment o t
  else s.window o t

/-- BLOCK_TIMEOUT without a telegram (R561). -/
def State.blockLate (s : State) (tg : Nat) : State :=
  match s.blockOf tg with
  | none => s
  | some b => (s.advanceTo (b.lastAt + msTicks (s.rd 0xC04102))).endBlock b 18

/-! ### ABORT (spec/17 R563) -/

/-- An ABORT telegram to this device. -/
def State.abortTag (s : State) (o : Origin) (t : Telegram) : State :=
  let answer (a : State) (st : Nat) : State := a.reply o (tgOf t) (responseTo t st [])
  if cutOf t || t.op != 6 then answer s 15
  else if !s.fromHolder o then answer s 8
  else if s.running (tgOf t) then
    let e := s.wdp.tags[tagOf (tgOf t)]
    let s1 := (s.stopWork (tgOf t)).setTag (tgOf t) 2 (withStatus e.resp 11) e.origin
    (answer s1 11).swarmKick
  else answer s 17

/-! ### The commands -/

/-- A function 6 telegram of READ. -/
def execWdpRead (o : Origin) (t : Telegram) (s : State) : Out := .next (s.transact o 6 t)
/-- A function 6 telegram of WRITE. -/
def execWdpWrite (o : Origin) (t : Telegram) (s : State) : Out := .next (s.transact o 6 t)
/-- A function 6 telegram of BLOCK_READ. -/
def execWdpBlockRead (o : Origin) (t : Telegram) (s : State) : Out := .next (s.transact o 6 t)
/-- A function 6 telegram of BLOCK_WRITE. -/
def execWdpBlockWrite (o : Origin) (t : Telegram) (s : State) : Out := .next (s.transact o 6 t)
def execWdpState (o : Origin) (t : Telegram) (s : State) : Out := .next (s.transact o 10 t)
def execWdpSegment (o : Origin) (t : Telegram) (s : State) : Out :=
  .next (s.receive o 8 t fun a => a.blockTelegram o t)
def execWdpWindow (o : Origin) (t : Telegram) (s : State) : Out :=
  .next (s.receive o 8 t fun a => a.blockTelegram o t)
def execWdpAbort (o : Origin) (t : Telegram) (s : State) : Out :=
  .next (s.receive o 9 t fun a => a.abortTag o t)
def execBlockTimeout (tagGen : Byte) (s : State) : Out := .next (s.blockLate tagGen.toNat)
def execForwardTimeout (node tag : Byte) (s : State) : Out := .next (s.forwardLate node.toNat tag.toNat)

end Sys2Proof.Machine
end

