-- ==== Sys2Proof/Machine/Telegrams.lean ====
section
/-! DEFINITION. The telegrams without a response: SAFE, LEASE, cyclic command and status, events, TIME (spec/17 R564, R565, R568 to R571; spec/12 R401, R403; spec/15 R496, R497). -/

namespace Sys2Proof.Machine

/-- Whether a telegram of functions 0 to 3 reaches this device: node 0, from the end of BOOT and without a position too, or its own (spec/17 R545, R548, R564). -/
def State.reaches (s : State) (node : Nat) : Bool :=
  s.dev != 0 && !s.inReset && (node == 0 || (s.node != 0 && node == s.node))

/-! ### SAFE and LEASE (spec/17 R564, R565) -/

/-- A SAFE telegram: a safe cause with code 6 from the holder, whether or not the Supervisor runs; on node 0 a manager whose Supervisor runs passes CMD SAFE on as a SWARM (log entry 161). -/
def State.safeTelegram (s : State) (u : Fin 2) (t : Telegram) : State :=
  let s := s.taken (.can u) 0 [t.node.toNat]
  if s.power.bootLoader || !s.reaches t.node.toNat then s
  else if !s.fromHolder (.can u) then s.ignored
  else
    let s1 := s.safeCause 6
    if t.node = 0 && s1.manager && !s1.unserved then
      s1.swarmStart u.val { readTelegram 0 (telBytes 0 5 0 0 0 0 (natLe 1 4)) with node := 0 } false
    else s1

/-- A LEASE telegram of an ACTION: byte 0 is ACTION, byte 1 is HOLDER; the lease logic runs without the Supervisor (spec/15 R481, R497). -/
def State.leaseTelegram (s : State) (u : Fin 2) (t : Telegram) (action : Nat) : State :=
  let s := s.taken (.can u) 1 [t.node.toNat]
  if s.power.bootLoader || !s.reaches t.node.toNat || t.tagGen.toNat != action then s
  else if s.pselLow then s.ignored
  else
    let h := s.rd 0xB02002
    let named := t.op.toNat
    let lapsed := s.bitAt 0xB02003 3
    match action with
    | 0 => if h = u.val || lapsed then s.setCanHolder u.val else s.ignored
    | 1 => if named = h then s.canRelease else s
    | _ =>
      if named ≤ 1 && s.rd (0xB02211 + named) = 3 then (if h = named && !lapsed then s else s.setCanHolder named)
      else s.ignored

/-! ### Cyclic command and status (spec/17 R569, R570) -/

/-- Every write of a cyclic command in map order; refused writes are counted. -/
def State.cyclicWrites (s : State) (data : Bytes) : List Nat → State
  | [] => s
  | e :: es =>
    let n := entrySize e
    let (st, s1) := s.hostWrite true (entryIndex e) (entrySub e) (data.take n)
    (if st = 0 then s1 else s1.count 0xC04205).cyclicWrites (data.drop n) es

/-- A cyclic command telegram; one from the other channel counts in IGNORED_COUNT, one of another length in FORMAT_ERROR_COUNT (log entry 21). -/
def State.cyclicCommand (s : State) (u : Fin 2) (data : Bytes) : State :=
  let m := s.cyclicMap 0xC043
  if s.unserved || s.power.bootLoader || s.dev = 0 then s
  else
  let s := s.taken (.can u) 3 [s.node, 0]
  if !s.fromHolder (.can u) then s.ignored
  else if data.length != mapTotal m then s.count 0xC04204
  else s.cyclicWrites data m

/-- The whole multiple of n milliseconds that is due, in units of network time: the one that this very tick has reached, where its telegram has not gone (spec/17 R569, R571). -/
def State.multipleDue (s : State) (n : Nat) (last : Option Nat) : Nat :=
  let p := n * 1000000 * 2 ^ 32
  let m := s.netUnits / p * p
  if s.netUnits < m + s.inc * (if s.netCoarse then 4 else 1) && last != some m then m else m + p

/-- Time passes until network time is that multiple (log entry 2). -/
def State.toMultiple (s : State) (n : Nat) (last : Option Nat) : State := s.advance (s.ticksTo (s.multipleDue n last))

/-- The objects of CYCLIC_STATUS_MAP, read in order. -/
def State.cyclicReads (s : State) : List Nat → Bytes × State
  | [] => ([], s)
  | e :: es =>
    let key := entryIndex e * 256 + entrySub e
    let d := match rowFor (entryIndex e) (entrySub e) with
      | (_, some r) => s.readBytes r key
      | _ => []
    let (ds, s1) := (s.readEffect key).cyclicReads es
    (d ++ ds, s1)

/-- The cyclic status telegram at the next multiple of STATUS_PERIOD. -/
def State.cyclicStatus (s : State) : State :=
  let per := s.rd 0xC04103
  if per = 0 || !s.speaks then s
  else
    let s1 := (s.toMultiple per s.wdp.statusAt).modWdp fun w => { w with statusAt := some (s.multipleDue per w.statusAt) }
    let (d, s2) := s1.cyclicReads (s1.cyclicMap 0xC044)
    s2.loadSystem s2.canHolder 23 (5 * 128 + s2.node) d

/-! ### TIME (spec/17 R571) -/

/-- The TIME telegram at the next multiple of TIME_PERIOD: it gives the network time of the previous one's start of frame, from object 24 of the controller that the previous one was queued in. -/
def State.timeTelegram (s : State) : State :=
  let per := s.rd 0xC04104
  if per = 0 || !s.manager || !s.speaks then s
  else
    let s1 := (s.toMultiple per s.wdp.timeAt).modWdp fun w => { w with timeAt := some (s.multipleDue per w.timeAt) }
    let u := s1.canHolder
    let w := s1.wdp
    let ns := (s1.msg w.timeCan 24).tsNs
    let sec := w.timeQueued.sec + (if ns < w.timeQueued.acc / 2 ^ 32 then 1 else 0)
    let flags := (if w.timeValid then 1 else 0) + (if s1.bitAt kFlags 3 then 2 else 0)
    let d := natLe 1 w.timeSeq ++ natLe 3 flags ++ natLe 4 sec ++ natLe 4 ns ++ natLe 4 0
    let s2 := s1.modWdp fun w =>
      { w with timeSeq := (w.timeSeq + 1) % 256, timeValid := false, timeQueued := s1.net, timeCan := u }
    s2.loadSystem u 24 (2 * 128 + s2.node) d

/-! ### The commands -/

def execWdpSafe (u : Fin 2) (t : Telegram) (s : State) : Out := .next (s.safeTelegram u t)
def execWdpLeaseRenew (u : Fin 2) (t : Telegram) (s : State) : Out := .next (s.leaseTelegram u t 0)
def execWdpLeaseRelease (u : Fin 2) (t : Telegram) (s : State) : Out := .next (s.leaseTelegram u t 1)
def execWdpLeaseRevert (u : Fin 2) (t : Telegram) (s : State) : Out := .next (s.leaseTelegram u t 2)
def execWdpCyclicCommand (u : Fin 2) (data : Bytes) (s : State) : Out := .next (s.cyclicCommand u data)
def execCyclicStatusSend (s : State) : Out := .next s.cyclicStatus
def execTimeTelegramSend (s : State) : Out := .next s.timeTelegram
/-- The next event message goes into object 22 of the holder (spec/12 R401, R403, spec/17 R568). -/
def execWdpEventSend (s : State) : Out := .next (s.loadEvent s.canHolder)

end Sys2Proof.Machine
end

