-- ==== Sys2Proof/Machine/Net.lean ====
section
/-! DEFINITION. Orsolane frames end to end: receipt and its checks, routing, the transmit order, ACK and NAK, DICT frames, and the calibration that the manager drives (spec/14 R445 to R461, R465, R466; spec/15 R483, R486; spec/18 R593). -/

namespace Sys2Proof.Machine

/-! ### Retry at the sender (spec/14 R457, R460, R461; spec/18 R599) -/

/-- An unacknowledged frame of this device by TYPE and destination. -/
def State.unackedTo (s : State) (typ dst : Nat) : Option Unacked :=
  s.frames.unacked.find? fun u => u.f.typ.toNat == typ && u.f.dst.toNat == dst

/-- An ACK frees the frame; a SWARM goes on, the packetiser releases its words. -/
def State.ackFrame (s : State) (f : Frame) : State :=
  match s.unackedTo (byteAt f.payload 0) f.src.toNat with
  | none => s
  | some u =>
    if u.f.seq.toNat != leAt f.payload 2 2 then s
    else
      let s1 := s.nextWaiting u.f
      if u.f.typ = 3 then
        if byteAt u.f.payload 0 = 3 then s1.swarmNext u.f.dst.toNat true else s1
      else s1.egressAck u.f

/-- A frame has failed: a forwarded transaction is unreachable, a SWARM goes on, the packetiser stalls. -/
def State.frameFails (s : State) (u : Unacked) : State :=
  let s1 := (s.nextWaiting u.f).count 0xB00507
  if u.f.typ = 3 then
    let kind := byteAt u.f.payload 0
    let p := u.f.dst.toNat
    if kind = 3 then s1.swarmNext p false
    else
      match s1.frames.forwarded.find? fun x => x.is p (byteAt u.f.payload 3) (kind == 2) with
      | some x => if kind = 0 || kind = 2 then s1.unreachable x else s1
      | none => s1
  else s1.egressFail u.f

/-- A retransmission, or failure after RETRY_LIMIT of them. -/
def State.retry (s : State) (u : Unacked) : State :=
  if u.tries ≥ s.rd 0xB00502 then s.frameFails u else s.resend u

/-- A NAK. -/
def State.nakFrame (s : State) (f : Frame) : State :=
  match s.unackedTo (byteAt f.payload 0) f.src.toNat with
  | none => s
  | some u => s.retry u

/-- RETRY_TIMEOUT without an ACK. -/
def State.retryLate (s : State) (typ dst : Nat) (q : Path) : State :=
  match s.unackedTo typ dst with
  | none => s
  | some u => if u.f.path != q then s else (s.advanceTo u.due).retry u

/-! ### DICT frames (spec/14 R456, R459 to R461; spec/17 R563, R566) -/

/-- What an accepted DICT frame of a kind does. -/
def State.dictTake (s : State) (f : Frame) : State :=
  let b := f.payload
  let func := byteAt b 1
  let d := (b.drop 8).take (leAt b 4 2)
  let o : Origin := .dict f.src f.path (b.getD 2 0)
  let t := readTelegram s.node d
  let src := f.src.toNat
  if s.manager then
    match byteAt b 0 with
    | 1 => s.takeResponse src (byteAt b 2) d
    | 4 =>
      let head := match s.frames.forwarded.find? fun x => x.node == src && x.tagGen == byteAt b 3 with
        | some x => x.head
        | none => d
      s.takeResponse src (byteAt b 2) (if head.length < 8 then [] else withStatus head 1)
    | _ => s
  else if d.length < 8 then s.count 0xC04204
  else
    match byteAt b 0 with
    | 0 =>
      if func = 6 || func = 10 then s.transact o func t
      else if func = 8 then s.receive o 8 t fun a => a.blockTelegram o t
      else s
    | 2 => s.receive o 9 t fun a => a.abortTag o t
    | 3 => { s with frames := { s.frames with swarmIn := s.frames.swarmIn ++ [f] } }
    | _ => s

/-- The frames that the DICT receive buffer still holds: the ticks at which the Supervisor has served them (R456). -/
def State.dictHeld (s : State) : List Nat := s.frames.dictEnds.filter fun t => s.tick < t

/-- An accepted DICT frame takes a place in the receive buffer until the Supervisor, which serves one at a time, has dealt with it: 8 µs typical in the manager, 18 µs for a READ, 24 µs else, a free value within their bounds (spec/03 R59, spec/14 R456, spec/17 R557, R567; log entry 62). -/
def State.dictHold (s : State) (f : Frame) : State :=
  let (d, s) := if s.manager then s.freeIn 4100 8375
    else if byteAt f.payload 9 = 1 then s.freeIn 9225 18812
    else s.freeIn 12300 25062
  let l := s.dictHeld
  { s with frames := { s.frames with dictEnds := l ++ [l.getLastD s.tick + d] } }

/-- A DICT frame addressed to this device: from the path that holds the lease, in sequence; one that finds the receive buffer of 8 frames full is discarded without an answer and counted (R449, R456, R475; spec/15 R506). -/
def State.dictFrame (s : State) (f : Frame) : State :=
  if !s.takesFrom f.path f.src.toNat then s.ignored
  else if 8 ≤ s.dictHeld.length then s.count 0xB00505
  else
    let (ok, s1) := s.acceptSeq f
    if ok then (s1.dictHold f).dictTake f else s1

/-- A DICT frame of one kind. -/
def State.dictKind (s : State) (kind : Nat) (f : Frame) : State :=
  if byteAt f.payload 0 = kind then s.frameRow f fun a => a.dictFrame f else s

/-! ### Receipt (spec/14 R446 to R451, R456) -/

/-- A frame fails its CRC: CRC_DENSITY of them within CRC_WINDOW on the holder's U lane release the lease (spec/15 R486). -/
def State.crcBad (s : State) (i : Lane) : State :=
  let w := usTicks (s.rd 0xB02107)
  let at_ := s.tick :: s.lanes[i].crcAt.filter fun t => s.tick ≤ t + w
  let mine := s.judged (lanePath i) = i
  let s1 := ((if mine then s.noteErrors (lanePath i) 1 else s).count 0xB00503).modLane i fun l => { l with crcAt := at_ }
  if !s1.manager && !isD i && s1.rd 0xB02106 ≤ at_.length then
    ((s1.modLane i fun l => { l with crcAt := [] }).releaseOn (lanePath i) 3).updRevert
  else s1

/-- The frame that bytes spell, CRC apart (R446). -/
def readFrame (b : Bytes) : Frame :=
  let fl := byteAt b 1
  { typ := b.getD 0 0, path := if bit fl 0 then 1 else 0, up := bit fl 1, retry := bit fl 2, lease := bit fl 3,
    coarse := bit fl 4, src := b.getD 2 0, dst := b.getD 3 0, seq := BitVec.ofNat 16 (leAt b 4 2),
    payload := (b.drop 8).take (b.length - 12) }

/-- An ENUM frame by its subtype (spec/13 R429). -/
def State.enumFrame (s : State) (f : Frame) : State :=
  match byteAt f.payload 0 with
  | 0 => s.takeAssign f.path f.payload 0
  | 1 => s.takeEnd f.path f.payload
  | 2 => s.takeRateStep f.path f.payload
  | 3 => s.takeAssign f.path f.payload 3
  | 4 => s.takeDone f.path f.payload
  | 5 => s.takeJoin f.path f.payload
  | 6 => s.roleConflict (some (byteAt f.payload 1))
  | _ => s

/-- The instant at which the first bit of a START block passes the balls of a lane, as its hardware stamps it: within this tick on the grid of 2^-4 tap, off by at most 40 ps at G2, 80 ps at G1, 400 ps at G0 and 3.2 ns in bypass; a free value within these, in units of 2^-32 ns of network time (R465; log entry 109). -/
def State.lineInstant (s : State) (rate : Nat) : Nat × State :=
  let e := if s.bitAt kFlags 3 then 512 else if rate = 0 then 64 else if rate = 1 then 12 else 6
  let (v, s1) := s.freeIn 0 (255 + 2 * e)
  (s.netUnits + v * s.inc / 256 - e * s.inc / 256, s1)

/-- An instant of network time as a 16-byte timestamp (R450, R462). -/
def instantStamp (u : Nat) : Nat :=
  let t := netOf u
  t.sec + t.acc / 2 ^ 32 * 2 ^ 64 + t.acc / 2 ^ 16 % 2 ^ 16 * 2 ^ 96

/-- A frame consumed by its type, with its receive timestamp (R449, R465, R466). -/
def State.consume (s : State) (f : Frame) : State :=
  let s := if 1 ≤ f.typ.toNat && f.typ.toNat ≤ 0x0F then s.received f else s
  let (u, s) := if f.typ = 5 || f.typ = 6 || f.typ = 8 then s.lineInstant (s.laneRate (inLane f)) else (0, s)
  let rx := instantStamp u
  match f.typ.toNat with
  | 0x01 => s.stringFrame f
  | 0x02 => s.takeStatus f
  | 0x03 => s.dictFrame f
  | 0x04 => s.timeSync f (byteAt f.payload 24)
  | 0x05 => s.delayReq f rx
  | 0x06 => s.delayResp f rx
  | 0x07 => s.leaseFrame f (byteAt f.payload 0)
  | 0x08 =>
    match byteAt f.payload 4 with
    | 0 => s.beaconReceive f
    | 1 => s.echoReturn f
    | _ => s.echoReply f rx
  | 0x09 => s.captureFrame f
  | 0x0A => s.triggerFrame f
  | 0x0B => s.enumFrame f
  | 0x0C => s.eventFrame f
  | 0x0D => s.safeFrame f
  | 0x0E => s.ackFrame f
  | 0x0F => s.nakFrame f
  | _ => s

/-- Whether a frame goes one hop only: an ENUM frame for every device (spec/13 R429). -/
def oneHop (f : Frame) : Bool := f.typ == 0x0B && f.dst == 0xFF

/-- Bytes that forwarded frames hold in a lane's buffer (R452). -/
def State.bufferUsed (s : State) (i : Lane) : Nat :=
  ((s.lanes[i].queue.filter fun x => x.fwd).map fun x => 12 + x.f.payload.length).sum

/-- The other lane of a lane's path. -/
def otherLane (i : Lane) : Lane := if isD i then uLane (lanePath i) else dLane (lanePath i)

/-- A frame forwarded on the other lane of its path; discarded and counted where the buffer is full (R451, R452). -/
def State.forwardFrame (s : State) (i : Lane) (f : Frame) (cut : Bool) : State :=
  let j := otherLane i
  if 4608 < s.bufferUsed j + 12 + f.payload.length then s.count 0xB00505
  else
    let (u, s) := if f.typ = 4 || f.typ = 5 || f.typ = 6 then s.lineInstant (s.laneRate i) else (s.netUnits, s)
    s.enqueue j f true u cut

/-- Whether a frame that arrived on a lane goes on: it is addressed beyond this device (R451). -/
def State.goesOn (s : State) (i : Lane) (f : Frame) : Bool :=
  (s.posOn (lanePath i)).isSome && !s.manager && s.posOn (lanePath i) != some f.dst.toNat && !oneHop f

/-- A frame that fails its CRC, or ends in ABORT, goes on with ABORT in place of END (R452). -/
def State.cutFrame (s : State) (i : Lane) (b : Bytes) : State :=
  let f := readFrame b
  if 12 ≤ b.length && b.length ≤ 2060 && s.goesOn i f then s.forwardFrame i f true else s

/-- An intact frame routed by its header (R451). -/
def State.routeFrame (s : State) (i : Lane) (f : Frame) : State :=
  let own := s.posOn (lanePath i) == some f.dst.toNat
  let s1 := if s.goesOn i f then s.forwardFrame i f false else s
  if own || f.dst == 0xFF then s1.consume f else s1

/-- A frame received on a lane, its bytes with the CRC, and whether it ended in END (R448). -/
def State.frameIn (s : State) (i : Lane) (b : Bytes) (ended : Bool) : State :=
  let q := lanePath i
  let n := b.length
  if s.inReset || !s.laneUp i || s.prbsOn q || (s.manager && !isD i) then s
  else if !ended || n < 12 then (s.count 0xB00504).cutFrame i b
  else if leAt b (n - 4) 4 != crc32c (b.take (n - 4)) then (s.crcBad i).cutFrame i b
  else if 2048 < leAt b 6 2 || leAt b 6 2 != n - 12 || bit (byteAt b 1) 0 != (q == 1) then s.count 0xB00504
  else s.routeFrame i (readFrame b)

/-- Whether blocks begin a frame whose end has not come. -/
def frameOpen : List Block → Bool
  | .control 0x70 _ :: rest => rest.all fun b => !b.isControl
  | _ => false

/-- The bytes of a frame whose end has come, and whether it ended in END. -/
def wholeFrame (bs : List Block) : Option (Bytes × Bool) :=
  if frameOpen bs then none else readFrameBlocks (bs.map some)

/-- The blocks that arrive at a rate, those that cannot be read and FILLER left out. -/
def heardBlocks (rate : Nat) (blocks : List LineBlock) : List Block :=
  (blocks.filterMap (readBlock rate)).filter fun b => match b with
    | .control t _ => t != 0x2B
    | .data _ => true

/-- Whether blocks begin with START. -/
def startsFrame : List Block → Bool
  | .control 0x70 _ :: _ => true
  | _ => false

/-- The frame in progress on a lane with the blocks that arrive: a START begins a new one. -/
def State.rxNow (s : State) (i : Lane) (blocks : List LineBlock) : List Block :=
  let new := heardBlocks (s.laneRate i) blocks
  if startsFrame new then new else s.lanes[i].rx ++ new

/-- The frames that the blocks which arrive break off: the one in progress, where a START begins another. -/
def State.brokenOff (s : State) (i : Lane) (blocks : List LineBlock) : Nat :=
  if startsFrame (heardBlocks (s.laneRate i) blocks) && !s.lanes[i].rx.isEmpty then 1 else 0

/-- Blocks arrive on a lane that is UP: their code errors count, they break a run of WAKE blocks, and a frame that they break off is discarded and counted (spec/13 R416, R437, spec/14 R448). -/
def State.lineIn (s : State) (i : Lane) (blocks : List LineBlock) : State :=
  ((s.codeErrorsOn i ((blocks.map (codeErrors (s.laneRate i))).sum)).count 0xB00504 (s.brokenOff i blocks)).modLane i fun l =>
    { l with wakes := if (heardBlocks (s.laneRate i) blocks).isEmpty then l.wakes else 0, rx := [] }

/-- Blocks arrive on a lane: what they spell, with the blocks of a frame in progress before them, is received; a frame without its END is held (spec/13 R425, spec/14 R445, R448). -/
def State.blocksIn (s : State) (i : Lane) (blocks : List LineBlock) : State :=
  if !s.laneUp i then s
  else
    let bs := s.rxNow i blocks
    let s1 := s.lineIn i blocks
    if frameOpen bs then s1.modLane i fun l => { l with rx := bs }
    else
      match wholeFrame bs with
      | some (b, ended) => s1.frameIn i b ended
      | none => s1

/-! ### Transmission (spec/14 R453, R465, R466) -/

/-- The frame that leaves next: the lowest priority number, forwarded before local, older before newer. -/
def nextOut : List QFrame → Option QFrame
  | [] => none
  | x :: xs =>
    let rank (y : QFrame) : Nat := 2 * priority y.f.typ.toNat + if y.fwd then 0 else 1
    match nextOut xs with
    | none => some x
    | some y => if rank y < rank x then some y else some x

/-- A queue without the first entry that is this one. -/
def dropOne (x : QFrame) : List QFrame → List QFrame
  | [] => []
  | y :: ys => if y = x then ys else y :: dropOne x ys

/-- Bytes put in place at an offset; a signed 64-bit field raised by a number. -/
def putAt (b : Bytes) (off : Nat) (d : Bytes) : Bytes := b.take off ++ d ++ b.drop (off + d.length)
def addI64 (b : Bytes) (off : Nat) (n : Int) : Bytes := putAt b off (natLe 8 (ofSigned 64 (i64At b off + n)))

/-- A frame as it leaves: transmit timestamps, and a forwarder's residence, its transmit less its receive timestamp (R465, R466). -/
def State.departs (s : State) (i : Lane) (x : QFrame) : Frame × State :=
  if x.f.typ != 4 && x.f.typ != 5 && x.f.typ != 6 then (x.f, s)
  else
    let (u, s) := s.lineInstant (s.laneRate i)
    let b := x.f.payload
    let at_ := if x.f.typ = 6 then (if x.fwd then 64 else 48) else if x.fwd then 16 else 0
    let load := if x.fwd then addI64 b at_ ((u / 2 ^ 16 : Nat) - (x.rx / 2 ^ 16 : Nat))
      else putAt b at_ (natLe 16 (instantStamp u))
    ({ x.f with payload := load }, s)

/-- The SWARM request that waits for this frame, its ACK, to leave (R461). -/
def State.swarmOf (s : State) (ack : Frame) : Option Frame :=
  s.frames.swarmIn.find? fun f => ack.typ == 0x0E && byteAt ack.payload 0 == 3 &&
    f.src == ack.dst && f.path == ack.path && f.seq.toNat == leAt ack.payload 2 2

/-- The ACK of a SWARM request has left: the worker acts on it (R461; spec/17 R572). -/
def State.swarmAct (s : State) (f : Frame) : State :=
  let s1 := { s with frames := { s.frames with swarmIn := s.frames.swarmIn.erase f } }
  let d := (f.payload.drop 8).take (leAt f.payload 4 2)
  if s1.unserved then s1
  else s1.applySwarm (.dict f.src f.path (f.payload.getD 2 0)) (byteAt f.payload 1) (readTelegram s1.node d)

/-- The blocks of a frame as it leaves; of one that was cut, with a CRC that need not fit, in ABORT (R445, R452). -/
def QFrame.blocks (x : QFrame) (f : Frame) : List Block := frameBlocks (frameBytes f) (!x.cut)

/-- A lane puts a frame on its line once the one in progress has ended: the frame as it leaves, and the state. -/
def State.putFrame (s : State) (i : Lane) (x : QFrame) : Frame × State :=
  let (f, s) := (s.advanceTo s.lanes[i].busyTo).departs i x
  let bs := x.blocks f
  (f, (s.modLane i fun l => { l with
    queue := dropOne x l.queue, sent := some f,
    busyTo := s.tick + bs.length * blockTicks (s.laneRate i) }).putLine i bs)

/-- The transmitter of a lane starts its next frame once the one in progress has ended (R453); a SWARM request acts once its ACK has been sent (R461). -/
def State.transmit (s : State) (i : Lane) : State :=
  if !s.maySend i then s
  else
    match nextOut s.lanes[i].queue with
    | none => s
    | some x =>
      let (f, s1) := s.putFrame i x
      match s1.swarmOf f with
      | none => s1
      | some g => (s1.advanceTo s1.lanes[i].busyTo).swarmAct g

/-! ### The manager's TRIG calibration (spec/18 R593) -/

/-- Whether every enumerated position shows CONVERGED. -/
def State.allConverged (s : State) : Bool :=
  (List.range 32).all fun p => p = 0 || s.rd 0xB03004 ≤ p || s.bitAt 0xB01308 p

/-- The manager drives a TRIG line low for 1 µs at a whole multiple of 10 ms; its own measurement sees that edge (log entry 22). -/
def State.calDrive (s : State) (line : Fin 2) : State :=
  let s1 := s.modCapture fun c => { c with driveEnd := c.driveEnd.set line (some (s.tick + 625)) }
  (s1.wr (0xD04106 + line.val) s1.stamp).calEdge line

/-- The next act of the calibration: CAL_ARM by SWARM once all have converged, TRIG0 5 ms or more after it, TRIG1 10 ms later. -/
def State.calStep (s : State) (line : Fin 2) : State :=
  let ten := 10000000 * 2 ^ 32
  if !s.manager || s.rd 0xD04104 != 1 then s
  else
    match s.capture.calPhase, line.val with
    | 1, 0 =>
      if !s.allConverged || s.unserved then s
      else (s.modCapture fun c => { c with calPhase := 2 }).swarmStart 0
        (readTelegram 0 (telBytes 0 2 0 0xD041 8 0 (natLe 1 1))) false
    | 3, 0 =>
      let s1 := s.advanceTo (s.capture.calFrom + msTicks 5)
      let s2 := s1.advance (s1.ticksTo (ceilDiv s1.netUnits ten * ten))
      (s2.modCapture fun c => { c with calPhase := 4 }).calDrive 0
    | 4, 1 =>
      let s1 := s.advance (s.ticksTo ((s.netUnits / ten + 1) * ten))
      (s1.modCapture fun c => { c with calPhase := 0 }).calDrive 1
    | _, _ => s

/-! ### The commands -/

def execFrameReceive (i : Lane) (blocks : List LineBlock) (s : State) : Out := .next (s.blocksIn i blocks)
def execFrameTransmitSelect (i : Lane) (s : State) : Out := .next (s.transmit i)
def execAckReceive (f : Frame) (s : State) : Out := .next (s.frameRow f fun a => a.ackFrame f)
def execNakReceive (f : Frame) (s : State) : Out := .next (s.frameRow f fun a => a.nakFrame f)
def execRetryTimeout (typ dst : Byte) (path : Path) (s : State) : Out :=
  .next (s.retryLate typ.toNat dst.toNat path)
def execDictRequestReceive (f : Frame) (s : State) : Out := .next (s.dictKind 0 f)
def execDictResponseReceive (f : Frame) (s : State) : Out := .next (s.dictKind 1 f)
def execDictAbortReceive (f : Frame) (s : State) : Out := .next (s.dictKind 2 f)
def execDictSwarmReceive (f : Frame) (s : State) : Out := .next (s.dictKind 3 f)
def execDictBusyReceive (f : Frame) (s : State) : Out := .next (s.dictKind 4 f)
def execTrigCalDrive (line : Fin 2) (s : State) : Out := .next (s.calStep line)

end Sys2Proof.Machine
end

