-- ==== Sys2Proof/Machine/Dispatch.lean ====
section
/-! DEFINITION. The dispatch: one arm per command, each one direct call of its meaning. -/

namespace Sys2Proof.Machine

/-- What a command does to everything but the queue. -/
def exec (i : Instr) (s : State) : Host.Outcome State Fault Refusal :=
  match i with
  | .powerOnResetRelease role => Sys2Proof.Machine.execPowerOnResetRelease role s
  | .resetNRelease role => Sys2Proof.Machine.execResetNRelease role s
  | .cmdCharge cells => Sys2Proof.Machine.execCmdCharge cells s
  | .cellClear mask => Sys2Proof.Machine.execCellClear mask s
  | .cellFittedWrite mask => Sys2Proof.Machine.execCellFittedWrite mask s
  | .wakePinHigh ticks => Sys2Proof.Machine.execWakePinHigh ticks s
  | .supervisorWatchdogExpiry serviced => Sys2Proof.Machine.execSupervisorWatchdogExpiry serviced s
  | .pllRestart p v => Sys2Proof.Machine.execPllRestart p v s
  | .pllLockDeclared p counts => Sys2Proof.Machine.execPllLockDeclared p counts s
  | .pllLockLost p evidence => Sys2Proof.Machine.execPllLockLost p evidence s
  | .pllAcquisitionTimeout p => Sys2Proof.Machine.execPllAcquisitionTimeout p s
  | .refclkLost edges => Sys2Proof.Machine.execRefclkLost edges s
  | .refclkPresent counts => Sys2Proof.Machine.execRefclkPresent counts s
  | .relaxOscOutOfRange cycles => Sys2Proof.Machine.execRelaxOscOutOfRange cycles s
  | .fineCalLineMeasure l plausible elements => Sys2Proof.Machine.execFineCalLineMeasure l plausible elements s
  | .fineCalTableApply l => Sys2Proof.Machine.execFineCalTableApply l s
  | .bypSenseRelease c => Sys2Proof.Machine.execBypSenseRelease c s
  | .bypSenseSample c high => Sys2Proof.Machine.execBypSenseSample c high s
  | .bypSenseCycleStart c => Sys2Proof.Machine.execBypSenseCycleStart c s
  | .jtagExtest scan => Sys2Proof.Machine.execJtagExtest scan s
  | .jtagBypass bits => Sys2Proof.Machine.execJtagBypass bits s
  | .jtagSamplePreload outside shifted => Sys2Proof.Machine.execJtagSamplePreload outside shifted s
  | .jtagIdcode scan => Sys2Proof.Machine.execJtagIdcode scan s
  | .carrierZero k => Sys2Proof.Machine.execCarrierZero k s
  | .carrierApex k => Sys2Proof.Machine.execCarrierApex k s
  | .tcmpEvent k => Sys2Proof.Machine.execTcmpEvent k s
  | .shadowTransfer k apex => Sys2Proof.Machine.execShadowTransfer k apex s
  | .legCommandChange l high at_ => Sys2Proof.Machine.execLegCommandChange l high at_ s
  | .erasedPulseEnd l => Sys2Proof.Machine.execErasedPulseEnd l s
  | .deadtimeTurnOn l => Sys2Proof.Machine.execDeadtimeTurnOn l s
  | .refreshPulseEnd l => Sys2Proof.Machine.execRefreshPulseEnd l s
  | .commit c mask => Sys2Proof.Machine.execCommit c mask s
  | .carryClear c mask => Sys2Proof.Machine.execCarryClear c mask s
  | .sequenceTrigger a => Sys2Proof.Machine.execSequenceTrigger a s
  | .adcHold a => Sys2Proof.Machine.execAdcHold a s
  | .adcResultWritten a code => Sys2Proof.Machine.execAdcResultWritten a code s
  | .ondemand ch => Sys2Proof.Machine.execOndemand ch s
  | .urgentConversionStart a => Sys2Proof.Machine.execUrgentConversionStart a s
  | .windowTrip ch high level => Sys2Proof.Machine.execWindowTrip ch high level s
  | .windowRelease ch high level => Sys2Proof.Machine.execWindowRelease ch high level s
  | .openWireRequest mask => Sys2Proof.Machine.execOpenWireRequest mask s
  | .openWireSettleExpiry a code => Sys2Proof.Machine.execOpenWireSettleExpiry a code s
  | .dsdMainResult x bits start stop => Sys2Proof.Machine.execDsdMainResult x bits start stop s
  | .dsdAlignEvent x => Sys2Proof.Machine.execDsdAlignEvent x s
  | .fastComparatorTrip x bits => Sys2Proof.Machine.execFastComparatorTrip x bits s
  | .streamFault x bits => Sys2Proof.Machine.execStreamFault x bits s
  | .streamFaultClear x bits => Sys2Proof.Machine.execStreamFaultClear x bits s
  | .dfPeriodMeasured d period high => Sys2Proof.Machine.execDfPeriodMeasured d period high s
  | .dfFaultRecognised d low => Sys2Proof.Machine.execDfFaultRecognised d low s
  | .dfFaultEnd d => Sys2Proof.Machine.execDfFaultEnd d s
  | .dfTelemetryInvalid d high => Sys2Proof.Machine.execDfTelemetryInvalid d high s
  | .resultRead stream n valueOnly => Sys2Proof.Machine.execResultRead stream n valueOnly s
  | .loopTaskTrigger e t => Sys2Proof.Machine.execLoopTaskTrigger e t s
  | .loopRunRelease e t => Sys2Proof.Machine.execLoopRunRelease e t s
  | .loopDeadlineMiss e t => Sys2Proof.Machine.execLoopDeadlineMiss e t s
  | .validate e v => Sys2Proof.Machine.execValidate e v s
  | .loopStatusClear e mask => Sys2Proof.Machine.execLoopStatusClear e mask s
  | .profileStep e => Sys2Proof.Machine.execProfileStep e s
  | .profileRestart e n v => Sys2Proof.Machine.execProfileRestart e n v s
  | .limitsSet e n vMax aMax jMax tol => Sys2Proof.Machine.execLimitsSet e n vMax aMax jMax tol s
  | .modeReq c v => Sys2Proof.Machine.execModeReq c v s
  | .externalFaultChange fltP fltN safeN => Sys2Proof.Machine.execExternalFaultChange fltP fltN safeN s
  | .safePatternTurnOn c b => Sys2Proof.Machine.execSafePatternTurnOn c b s
  | .guardRelease c mask => Sys2Proof.Machine.execGuardRelease c mask s
  | .autoRelease c b => Sys2Proof.Machine.execAutoRelease c b s
  | .bypassCommandClose c => Sys2Proof.Machine.execBypassCommandClose c s
  | .bypassTimeout c => Sys2Proof.Machine.execBypassTimeout c s
  | .bypassOpenTimeout c => Sys2Proof.Machine.execBypassOpenTimeout c s
  | .bypMismatchTimeout c => Sys2Proof.Machine.execBypMismatchTimeout c s
  | .stringAssembly => Sys2Proof.Machine.execStringAssembly s
  | .stringFrameIssue => Sys2Proof.Machine.execStringFrameIssue s
  | .stringFrameAccept f => Sys2Proof.Machine.execStringFrameAccept f s
  | .statusFrameReceive f => Sys2Proof.Machine.execStatusFrameReceive f s
  | .moltRemove x => Sys2Proof.Machine.execMoltRemove x s
  | .moltInsert x => Sys2Proof.Machine.execMoltInsert x s
  | .prechargeTimeout x => Sys2Proof.Machine.execPrechargeTimeout x s
  | .stopTimeout => Sys2Proof.Machine.execStopTimeout s
  | .thermalSampleDue n => Sys2Proof.Machine.execThermalSampleDue n s
  | .thermalSampleProcess n => Sys2Proof.Machine.execThermalSampleProcess n s
  | .lockoutRecordWritten g ok => Sys2Proof.Machine.execLockoutRecordWritten g ok s
  | .brokenClear mask => Sys2Proof.Machine.execBrokenClear mask s
  | .rearm mask => Sys2Proof.Machine.execRearm mask s
  | .collectorDecision equalRails parityBad => Sys2Proof.Machine.execCollectorDecision equalRails parityBad s
  | .collectorDecisionTimeout => Sys2Proof.Machine.execCollectorDecisionTimeout s
  | .stickyClear w mask => Sys2Proof.Machine.execStickyClear w mask s
  | .wdpEventSend => Sys2Proof.Machine.execWdpEventSend s
  | .eventFrameSend => Sys2Proof.Machine.execEventFrameSend s
  | .eventFrameReceive f => Sys2Proof.Machine.execEventFrameReceive f s
  | .safeFrameReceive f => Sys2Proof.Machine.execSafeFrameReceive f s
  | .laneLosDeclared x peak ticks => Sys2Proof.Machine.execLaneLosDeclared x peak ticks s
  | .laneLosCleared x least ticks => Sys2Proof.Machine.execLaneLosCleared x least ticks s
  | .laneLolDeclared x why => Sys2Proof.Machine.execLaneLolDeclared x why s
  | .laneCommaAligned x commas => Sys2Proof.Machine.execLaneCommaAligned x commas s
  | .slipPositionTest x headers => Sys2Proof.Machine.execSlipPositionTest x headers s
  | .trainBlockReceive x block => Sys2Proof.Machine.execTrainBlockReceive x block s
  | .fillerBlockReceive x drift block => Sys2Proof.Machine.execFillerBlockReceive x drift block s
  | .fillerInsert x drift => Sys2Proof.Machine.execFillerInsert x drift s
  | .fillerSend x => Sys2Proof.Machine.execFillerSend x s
  | .enumDelayExpiry => Sys2Proof.Machine.execEnumDelayExpiry s
  | .enumAssignReceive q payload => Sys2Proof.Machine.execEnumAssignReceive q payload s
  | .enumEndReceive q payload => Sys2Proof.Machine.execEnumEndReceive q payload s
  | .enumRateStepReceive q payload => Sys2Proof.Machine.execEnumRateStepReceive q payload s
  | .rateStepPllRestart q => Sys2Proof.Machine.execRateStepPllRestart q s
  | .rateStepTimeout q => Sys2Proof.Machine.execRateStepTimeout q s
  | .enumCheckReceive q payload => Sys2Proof.Machine.execEnumCheckReceive q payload s
  | .enumDoneReceive q payload => Sys2Proof.Machine.execEnumDoneReceive q payload s
  | .hatchYWaitExpiry => Sys2Proof.Machine.execHatchYWaitExpiry s
  | .enumConflictReceive q payload => Sys2Proof.Machine.execEnumConflictReceive q payload s
  | .roleConflictDetect ticks => Sys2Proof.Machine.execRoleConflictDetect ticks s
  | .enumJoinReceive q payload => Sys2Proof.Machine.execEnumJoinReceive q payload s
  | .joinDwellExpiry q => Sys2Proof.Machine.execJoinDwellExpiry q s
  | .wakeBlockReceive block => Sys2Proof.Machine.execWakeBlockReceive block s
  | .wakeFrameRepeat => Sys2Proof.Machine.execWakeFrameRepeat s
  | .frameReceive x blocks => Sys2Proof.Machine.execFrameReceive x blocks s
  | .frameTransmitSelect x => Sys2Proof.Machine.execFrameTransmitSelect x s
  | .ackReceive f => Sys2Proof.Machine.execAckReceive f s
  | .nakReceive f => Sys2Proof.Machine.execNakReceive f s
  | .retryTimeout typ dst path => Sys2Proof.Machine.execRetryTimeout typ dst path s
  | .dictRequestReceive f => Sys2Proof.Machine.execDictRequestReceive f s
  | .dictResponseReceive f => Sys2Proof.Machine.execDictResponseReceive f s
  | .dictAbortReceive f => Sys2Proof.Machine.execDictAbortReceive f s
  | .dictSwarmReceive f => Sys2Proof.Machine.execDictSwarmReceive f s
  | .dictBusyReceive f => Sys2Proof.Machine.execDictBusyReceive f s
  | .forwardTimeout node tag => Sys2Proof.Machine.execForwardTimeout node tag s
  | .delayExchangeDue => Sys2Proof.Machine.execDelayExchangeDue s
  | .delayReqReceive f rxTime => Sys2Proof.Machine.execDelayReqReceive f rxTime s
  | .delayRespReceive f rxTime => Sys2Proof.Machine.execDelayRespReceive f rxTime s
  | .timeSyncIncrement f => Sys2Proof.Machine.execTimeSyncIncrement f s
  | .timeSyncSet f => Sys2Proof.Machine.execTimeSyncSet f s
  | .timeSyncStep f => Sys2Proof.Machine.execTimeSyncStep f s
  | .timeIncrementWrite v => Sys2Proof.Machine.execTimeIncrementWrite v s
  | .timeStep data => Sys2Proof.Machine.execTimeStep data s
  | .comparatorFire k => Sys2Proof.Machine.execComparatorFire k s
  | .tsyncPulseStart => Sys2Proof.Machine.execTsyncPulseStart s
  | .tsyncPulseEnd => Sys2Proof.Machine.execTsyncPulseEnd s
  | .tsyncInputEdge => Sys2Proof.Machine.execTsyncInputEdge s
  | .orsolaneDueInstant => Sys2Proof.Machine.execOrsolaneDueInstant s
  | .leaseExpiry => Sys2Proof.Machine.execLeaseExpiry s
  | .leaseFrameRenew f => Sys2Proof.Machine.execLeaseFrameRenew f s
  | .leaseFrameRelease f => Sys2Proof.Machine.execLeaseFrameRelease f s
  | .leaseFrameRevert f => Sys2Proof.Machine.execLeaseFrameRevert f s
  | .revertHoldoffExpiry can => Sys2Proof.Machine.execRevertHoldoffExpiry can s
  | .leaseNsWrite v => Sys2Proof.Machine.execLeaseNsWrite v s
  | .pselNChange low ticks => Sys2Proof.Machine.execPselNChange low ticks s
  | .pselHoldoffExpiry => Sys2Proof.Machine.execPselHoldoffExpiry s
  | .pselStuck => Sys2Proof.Machine.execPselStuck s
  | .fireflyBeaconSend p q => Sys2Proof.Machine.execFireflyBeaconSend p q s
  | .fireflyBeaconReceive f => Sys2Proof.Machine.execFireflyBeaconReceive f s
  | .fireflyEchoSend => Sys2Proof.Machine.execFireflyEchoSend s
  | .fireflyEchoRequestReceive f => Sys2Proof.Machine.execFireflyEchoRequestReceive f s
  | .fireflyEchoReplyReceive f rxTime => Sys2Proof.Machine.execFireflyEchoReplyReceive f rxTime s
  | .healthEvaluation q bits errors others margin => Sys2Proof.Machine.execHealthEvaluation q bits errors others margin s
  | .canLeaseExpiry => Sys2Proof.Machine.execCanLeaseExpiry s
  | .canApply u v => Sys2Proof.Machine.execCanApply u v s
  | .canTimingChange u => Sys2Proof.Machine.execCanTimingChange u s
  | .canFrameReceive u f => Sys2Proof.Machine.execCanFrameReceive u f s
  | .canObjectConfigure u n data => Sys2Proof.Machine.execCanObjectConfigure u n data s
  | .canTransmitRequest u n data => Sys2Proof.Machine.execCanTransmitRequest u n data s
  | .canTransmitCancel u n data => Sys2Proof.Machine.execCanTransmitCancel u n data s
  | .canObjectRead u n => Sys2Proof.Machine.execCanObjectRead u n s
  | .canTransmitStart u => Sys2Proof.Machine.execCanTransmitStart u s
  | .canTransmitComplete u ok => Sys2Proof.Machine.execCanTransmitComplete u ok s
  | .canErrorDetected u code dataPhase transmitter collision place => Sys2Proof.Machine.execCanErrorDetected u code dataPhase transmitter collision place s
  | .canRecoveryComplete u => Sys2Proof.Machine.execCanRecoveryComplete u s
  | .canRecover u v => Sys2Proof.Machine.execCanRecover u v s
  | .dupClear u v => Sys2Proof.Machine.execDupClear u v s
  | .lecRead u dlec => Sys2Proof.Machine.execLecRead u dlec s
  | .timestampEntryRead u => Sys2Proof.Machine.execTimestampEntryRead u s
  | .timestampFlush u v => Sys2Proof.Machine.execTimestampFlush u v s
  | .canBusMonitorEnter u => Sys2Proof.Machine.execCanBusMonitorEnter u s
  | .wdpRead o t => Sys2Proof.Machine.execWdpRead o t s
  | .wdpWrite o t => Sys2Proof.Machine.execWdpWrite o t s
  | .wdpBlockRead o t => Sys2Proof.Machine.execWdpBlockRead o t s
  | .wdpBlockWrite o t => Sys2Proof.Machine.execWdpBlockWrite o t s
  | .wdpSegment o t => Sys2Proof.Machine.execWdpSegment o t s
  | .wdpWindow o t => Sys2Proof.Machine.execWdpWindow o t s
  | .blockTimeout tagGen => Sys2Proof.Machine.execBlockTimeout tagGen s
  | .wdpState o t => Sys2Proof.Machine.execWdpState o t s
  | .wdpAbort o t => Sys2Proof.Machine.execWdpAbort o t s
  | .wdpSafe u t => Sys2Proof.Machine.execWdpSafe u t s
  | .wdpLeaseRenew u t => Sys2Proof.Machine.execWdpLeaseRenew u t s
  | .wdpLeaseRelease u t => Sys2Proof.Machine.execWdpLeaseRelease u t s
  | .wdpLeaseRevert u t => Sys2Proof.Machine.execWdpLeaseRevert u t s
  | .wdpCyclicCommand u data => Sys2Proof.Machine.execWdpCyclicCommand u data s
  | .cyclicStatusSend => Sys2Proof.Machine.execCyclicStatusSend s
  | .timeTelegramSend => Sys2Proof.Machine.execTimeTelegramSend s
  | .captureEnable v => Sys2Proof.Machine.execCaptureEnable v s
  | .captureArm v => Sys2Proof.Machine.execCaptureArm v s
  | .captureForce v => Sys2Proof.Machine.execCaptureForce v s
  | .captureSample => Sys2Proof.Machine.execCaptureSample s
  | .captureDecision cond => Sys2Proof.Machine.execCaptureDecision cond s
  | .captureRecordClose => Sys2Proof.Machine.execCaptureRecordClose s
  | .trigLineFall line => Sys2Proof.Machine.execTrigLineFall line s
  | .trigDriveEnd line => Sys2Proof.Machine.execTrigDriveEnd line s
  | .triggerFrameReceive f => Sys2Proof.Machine.execTriggerFrameReceive f s
  | .calArm v => Sys2Proof.Machine.execCalArm v s
  | .trigCalTimeout line => Sys2Proof.Machine.execTrigCalTimeout line s
  | .trigCalDrive line => Sys2Proof.Machine.execTrigCalDrive line s
  | .deadTimeClear v => Sys2Proof.Machine.execDeadTimeClear v s
  | .ceqWordRead => Sys2Proof.Machine.execCeqWordRead s
  | .ceqWindowRead => Sys2Proof.Machine.execCeqWindowRead s
  | .ceqMark v => Sys2Proof.Machine.execCeqMark v s
  | .ceqRewind v => Sys2Proof.Machine.execCeqRewind v s
  | .ceqRelease v => Sys2Proof.Machine.execCeqRelease v s
  | .egressWrite v => Sys2Proof.Machine.execEgressWrite v s
  | .captureFrameSend => Sys2Proof.Machine.execCaptureFrameSend s
  | .egressHoldoffExpiry => Sys2Proof.Machine.execEgressHoldoffExpiry s
  | .captureFrameReceive f => Sys2Proof.Machine.execCaptureFrameReceive f s
  | .store v => Sys2Proof.Machine.execStore v s
  | .storeComplete ok => Sys2Proof.Machine.execStoreComplete ok s
  | .defaults v => Sys2Proof.Machine.execDefaults v s
  | .oemAreaWrite data => Sys2Proof.Machine.execOemAreaWrite data s
  | .fwImageWrite size => Sys2Proof.Machine.execFwImageWrite size s
  | .fwCheck => Sys2Proof.Machine.execFwCheck s
  | .fwCheckComplete => Sys2Proof.Machine.execFwCheckComplete s
  | .fwActivate => Sys2Proof.Machine.execFwActivate s
  | .fwActivation restart => Sys2Proof.Machine.execFwActivation restart s
  | .activateWaitExpiry => Sys2Proof.Machine.execActivateWaitExpiry s
  | .maintStandbySoak arg duration => Sys2Proof.Machine.execMaintStandbySoak arg duration s
  | .maintLanePrbs arg duration => Sys2Proof.Machine.execMaintLanePrbs arg duration s
  | .maintOpenWireSweep arg duration => Sys2Proof.Machine.execMaintOpenWireSweep arg duration s
  | .maintNtcSweep arg duration => Sys2Proof.Machine.execMaintNtcSweep arg duration s
  | .maintFineDelaySweep arg duration => Sys2Proof.Machine.execMaintFineDelaySweep arg duration s
  | .maintGateLoopback arg duration => Sys2Proof.Machine.execMaintGateLoopback arg duration s
  | .maintNvScrub arg duration => Sys2Proof.Machine.execMaintNvScrub arg duration s
  | .maintFailoverDrill arg duration => Sys2Proof.Machine.execMaintFailoverDrill arg duration s
  | .maintStop mask => Sys2Proof.Machine.execMaintStop mask s
  | .maintActivityEnd slot outcome v1 v2 v3 => Sys2Proof.Machine.execMaintActivityEnd slot outcome v1 v2 v3 s
  | .objectWrite index sub data => Sys2Proof.Machine.execObjectWrite index sub data s
  | .fastComparatorRelease x bits => Sys2Proof.Machine.execFastComparatorRelease x bits s
  | .relaxationOscillatorInRange cycles => Sys2Proof.Machine.execRelaxationOscillatorInRange cycles s
  | .powerOnResetAssert => Sys2Proof.Machine.execPowerOnResetAssert s
  | .resetNAssert => Sys2Proof.Machine.execResetNAssert s
  | .deviceReset => Sys2Proof.Machine.execDeviceReset s
  | .bootComplete => Sys2Proof.Machine.execBootComplete s
  | .supervisorRestartComplete => Sys2Proof.Machine.execSupervisorRestartComplete s
  | .cmdRun => Sys2Proof.Machine.execCmdRun s
  | .cmdStop => Sys2Proof.Machine.execCmdStop s
  | .cmdSafe => Sys2Proof.Machine.execCmdSafe s
  | .cmdResume => Sys2Proof.Machine.execCmdResume s
  | .cmdCocoon => Sys2Proof.Machine.execCmdCocoon s
  | .cocoonEntryComplete => Sys2Proof.Machine.execCocoonEntryComplete s
  | .cmdWake => Sys2Proof.Machine.execCmdWake s
  | .cmdSupervisorRestart => Sys2Proof.Machine.execCmdSupervisorRestart s
  | .cmdDeviceReset => Sys2Proof.Machine.execCmdDeviceReset s
  | .cocoonExit => Sys2Proof.Machine.execCocoonExit s
  | .abortCapture => Sys2Proof.Machine.execAbortCapture s
  | .abortBlock => Sys2Proof.Machine.execAbortBlock s
  | .abortStore => Sys2Proof.Machine.execAbortStore s
  | .abortFwInstall => Sys2Proof.Machine.execAbortFwInstall s
  | .abortMaint => Sys2Proof.Machine.execAbortMaint s
  | .abortMolt => Sys2Proof.Machine.execAbortMolt s
  | .abortForward => Sys2Proof.Machine.execAbortForward s

end Sys2Proof.Machine
end

