-- ==== Sys2Proof/Safety.lean ====
section
/-! DEFINITION. The terms in which claims about the device are made: a command that completes, what it leaves alone, a device-wide reset, and the invariant of every step. -/

namespace Sys2Proof.Machine

/-- The command answers a next state, and P holds of it. -/
def Completes (i : Instr) (s : State) (P : State → Prop) : Prop := ∃ t, exec i s = .next t ∧ P t

/-- Every object but those listed has the value it had. -/
def KeepsObjs (ks : List Nat) (s t : State) : Prop := ∀ k, k ∉ ks → t.rd k = s.rd k

/-- Every object outside the listed areas (key / 2^20, spec/20 R637) has the value it had. -/
def KeepsOtherAreas (areas : List Nat) (s t : State) : Prop := ∀ k, k / 2 ^ 20 ∉ areas → t.rd k = s.rd k

/-- What every device-wide reset leaves: the sensed balls, the NV store but for an install's bank and the commands waiting are kept; every other object but ROLE, the reset cause and the install's phase reads its default; the gates are off, and time, cells, engines, frames, transactions and capture are as after reset (spec/04 R97, R120). -/
def ResetLeaves (s t : State) : Prop :=
  t.pending = s.pending ∧ t.tick = s.tick ∧ t.pins = s.pins ∧
    t.nv = { s.nv with fw := t.nv.fw } ∧ t.gates = Vector.replicate 72 false ∧
    (t.net = State.reset.net ∧ t.carriers = State.reset.carriers ∧ t.legs = State.reset.legs ∧
      t.guard = State.reset.guard ∧ t.engines = State.reset.engines ∧ t.string = State.reset.string ∧
      t.stringRx = State.reset.stringRx ∧ t.lease = State.reset.lease ∧ t.frames = State.reset.frames ∧
      t.time = State.reset.time ∧ t.meas = State.reset.meas ∧ t.thermal = State.reset.thermal ∧
      t.can = State.reset.can ∧ t.wdp = State.reset.wdp ∧ t.capture = State.reset.capture) ∧
    ∀ k, k ∉ [kRole, kResetCause, 0xE01102, 0xE01103] → t.rd k = objDefault k

/-- Behind what waits on a lane, one frame of this device more: its type, direction, destination and payload, from this device's position on the lane's path, with the next SEQ of its triple, RETRY 0 and the LEASE and COARSE bits of now (spec/14 R446, R453 to R455, spec/15 R482). -/
def queued (s t : State) (i : Lane) (typ : Nat) (up : Bool) (dst : Nat) (payload : Bytes) : Bool :=
  let src := (t.posOn (lanePath i)).getD 0xFF
  let seq := (assocGet s.frames.txSeq (triple typ src dst)).getD 0
  t.lanes[i].queue.dropLast == s.lanes[i].queue && t.lanes[i].queue.getLast? == some
    ⟨⟨BitVec.ofNat 8 typ, lanePath i, up, false, t.leaseBit typ (lanePath i) up, t.bitAt kFlags 3,
      BitVec.ofNat 8 src, BitVec.ofNat 8 dst, BitVec.ofNat 16 seq, payload⟩, false, 0, false⟩

/-- One frame sent on a lane where this device may send there, and nothing on the other lanes (spec/13 R411, R425). -/
def sent (s t : State) (i : Lane) (typ : Nat) (up : Bool) (dst : Nat) (payload : Bytes) : Bool :=
  ((List.finRange 4).all fun (j : Lane) => j == i || t.lanes[j] == s.lanes[j]) &&
    if s.maySend i then queued s t i typ up dst payload else t.lanes[i] == s.lanes[i]

/-- The LEASE frames with ACTION 0 that a manager puts on its D lanes, one on each offered path that may send (spec/15 R494, R495). -/
def offers (s t : State) : Bool :=
  (List.finRange 2).all fun (q : Path) => t.lanes[uLane q] == s.lanes[uLane q] &&
    if s.bitAt 0xB02108 q.val && s.maySend (dLane q) then
      queued s t (dLane q) 7 false 0xFF (natLe 1 0 ++ natLe 3 q.val ++ natLe 4 (t.rd 0xB02101))
    else t.lanes[dLane q] == s.lanes[dLane q]

/-- A function 7 telegram with this data goes to a node on a channel: it waits for object 21, or object 21 holds it (spec/17 R548). -/
def answers (t : State) (u : Fin 2) (node : Nat) (data : Bytes) : Bool :=
  (t.wdp.out[u].any fun x => x.node == node && x.data == data) ||
    ((t.msg u 21).ident % 2 ^ 30 == (7 * 128 + node) % 2 ^ 30 && (t.msg u 21).data == pad64 data)

/-- A DICT frame with this payload is on its way to a position, unacknowledged or behind such a frame, where this device serves that position at all (spec/14 R456, R457). -/
def dictSent (s t : State) (dst : Nat) (payload : Bytes) : Bool :=
  (s.pathTo dst).isNone ||
    ((t.frames.unacked.map fun u => u.f) ++ t.frames.waiting).any fun f =>
      f.typ == 3 && f.dst.toNat == dst && f.payload == payload

/-- A response goes back to where its request came from (spec/17 R556, spec/14 R459). -/
def replied (s t : State) (o : Origin) (tg : Nat) (data : Bytes) : Bool :=
  match o with
  | .can u => answers t u s.node data
  | .dict _ _ ch => dictSent s t 0 (dictBytes 1 7 ch.toNat tg data)

/-- The state in which a new request of this device is served: its receive object free, its tag RUNNING, the request counted (spec/17 R548, R553). -/
def State.opened (s : State) (o : Origin) (func : Nat) (g : Telegram) : State :=
  ((s.taken o func [g.node.toNat]).setTag (tgOf g) 1 (headOf g) o).count 0xC04201

/-- A BUSY telegram goes back to where a request came from (spec/17 R572). -/
def busied (s t : State) (o : Origin) (g : Telegram) : Bool :=
  match o with
  | .can u => answers t u s.node (responseTo g 1 [])
  | .dict _ _ ch => dictSent s t 0 (dictBytes 4 7 ch.toNat (tgOf g) (responseTo g 1 []))

/-- No leg has its H and its L gate output on together (spec/05 R140). -/
def GatesExclude (s : State) : Prop := ∀ l : Leg, ¬ (s.gates[lineH l] = true ∧ s.gates[lineL l] = true)

/-- A run's results name blocks of the engine, each once (spec/07 R224, R230). -/
abbrev RunForm (r : RunSt) : Prop := (∀ q ∈ r.res, q.blk < 32) ∧ (r.res.map fun q => q.blk).Nodup

/-- Every run in progress has that form. -/
def RunsFormed (s : State) : Prop := ∀ (e : Engine) (k : Task) (r : RunSt), s.engines[e].tasks[k].run = some r → RunForm r

end Sys2Proof.Machine
end

