-- ==== Sys2Proof/Certificates/Slice0/Obligations.lean ====
section
/-! DEFINITION. The statements for the provers: what every command of the table does, what every step keeps, what reset leaves. In each, hypotheses speak of the state and the operands alone; `Completes` says that the command answers a next state with what follows. -/

open Sys2Proof Sys2Proof.Machine

/-- Every device-wide reset leaves BOOT with the objects at their defaults. The power-on reset and RESET_N hold the device as every device-wide reset leaves it, the power-on reset with the test port restarted; the release of each samples ROLE and, unless the other one still holds the device, leaves BOOT with cause 0 or 1; DEVICE_RESET, once its response is complete or 1 ms has passed, leaves BOOT with cause 2 and ROLE kept. Under hypotheses on the state and the operands alone, exec answers a next state with the command's own effect for: powerOnResetAssert, powerOnResetRelease, resetNAssert, resetNRelease, deviceReset. (spec/04 R94, R95, R96, R97, R98, R120; spec/19 R626.) -/
def Obligations.DeviceWideResetsLeaveBoot : Prop :=
  ∀ s : State,
    (Completes (.powerOnResetAssert) s fun t =>
          ResetLeaves s t ∧ t.power.por = true ∧ t.power.pinReset = s.power.pinReset ∧ t.rd kRole = s.rd kRole ∧ t.tap = State.reset.tap) ∧
    (∀ (role : Bool), s.power.por = true →
      Completes (.powerOnResetRelease role) s fun t =>
          ResetLeaves s t ∧ t.power.por = false ∧ t.power.pinReset = s.power.pinReset ∧ t.dev = 0 ∧ t.rd kResetCause = 0 ∧ t.rd kRole = (if role then 1 else 0) ∧ t.tap = s.tap) ∧
    (Completes (.resetNAssert) s fun t =>
          (s.power.por = false → ResetLeaves s t) ∧ t.power.pinReset = true ∧ t.power.por = s.power.por ∧ t.rd kRole = s.rd kRole ∧ t.tap = s.tap) ∧
    (∀ (role : Bool), s.power.pinReset = true →
      Completes (.resetNRelease role) s fun t =>
          (s.power.por = false → ResetLeaves s t ∧ t.dev = 0 ∧ t.rd kResetCause = 1) ∧ t.power.pinReset = false ∧ t.power.por = s.power.por ∧ t.rd kRole = (if role then 1 else 0) ∧ t.tap = s.tap) ∧
    (∀ (d : Nat), s.power.resetDue = some d → s.inReset = false → (s.responding = false ∨ d ≤ s.tick) →
      Completes (.deviceReset) s fun t =>
          ResetLeaves s t ∧ t.inReset = false ∧ t.dev = 0 ∧ t.rd kResetCause = 2 ∧ t.rd kRole = s.rd kRole ∧ t.power.resetDue = none ∧ t.tap = s.tap)

/-- BOOT ends in HATCH; Supervisor-only resets. With the reference present, PLL_T locked and a valid firmware bank, or with all of it loaded before, BOOT_COMPLETE ends in HATCH with the Supervisor executing; a watchdog expiry, WDT_TIMEOUT after the last service, and SUPERVISOR_RESTART stop the Supervisor alone, with causes 4 and 5: guards and engines stay, and so do the gates, carriers and legs where no GATE_LOOPBACK runs; it comes back, from a valid active bank, with its watchdog counting from the tick of its start. Under hypotheses on the state and the operands alone, exec answers a next state with the command's own effect for: bootComplete, supervisorWatchdogExpiry, cmdSupervisorRestart, supervisorRestartComplete. (spec/04 R99, R100, R101, R102, R103.) -/
def Obligations.BootAndSupervisorRestarts : Prop :=
  ∀ s : State,
    (s.dev = 0 → s.inReset = false → s.power.bootLoader = false → (s.power.loaded = true ∨ s.clock.refPresent = true ∧ (s.nv.fw[(0 : Fin 2)].valid = true ∨ s.nv.fw[(1 : Fin 2)].valid = true)) → s.bitAt (kPllStatus 0) 0 = true →
      Completes (.bootComplete) s fun t =>
          t.dev = 1 ∧ t.power.supervisor = true ∧ t.power.bootLoader = false ∧ t.power.wdtFrom = some s.tick ∧ t.hatch.since = s.tick ∧ t.tick = s.tick ∧
          t = { s with net := t.net, free := t.free, signals := t.signals, objs := t.objs, power := t.power, clock := t.clock, gates := t.gates, carriers := t.carriers, legs := t.legs, guard := t.guard, rails := t.rails, engines := t.engines, charge := t.charge, string := t.string, lanes := t.lanes, paths := t.paths, hatch := t.hatch, lease := t.lease, frames := t.frames, meas := t.meas, thermal := t.thermal, nv := t.nv, jobs := t.jobs, can := t.can, time := t.time }) ∧
    (∀ (serviced : BitVec 64) (d : Nat), s.power.supervisor = true → s.power.wdtFrom = some d →
      Completes (.supervisorWatchdogExpiry serviced) s fun t =>
          t.power.supervisor = false ∧ t.power.wdtFrom = none ∧ t.tick = max s.tick (max d (min serviced.toNat s.tick) + msTicks (s.rd 0x100501)) ∧ t.rd kResetCause = 4 ∧ t.rd 0x100502 = satInc 32 (s.rd 0x100502) ∧
          t.rd kDevState = s.rd kDevState ∧ t.rails.occ.getLsbD 122 = true ∧ t.guard = s.guard ∧ t.engines = s.engines ∧ t.rd kFitted = s.rd kFitted ∧
          ((∀ k : Fin 4, (s.jobs.slots[k].map fun j => j.act) ≠ some 6) → t.gates = s.gates ∧ t.carriers = s.carriers ∧ t.legs = s.legs) ∧
          t = { s with tick := t.tick, net := t.net, clock := t.clock, free := t.free, objs := t.objs, power := t.power, gates := t.gates, carriers := t.carriers, legs := t.legs, rails := t.rails, lanes := t.lanes, frames := t.frames, meas := t.meas, nv := t.nv, jobs := t.jobs, wdp := t.wdp }) ∧
    (s.power.supervisor = true → s.fallsDue = false → s.fellNow 8 = false → s.dev ≠ 0 → s.dev ≤ 7 →
      Completes (.cmdSupervisorRestart) s fun t =>
          t.power.supervisor = false ∧ t.power.wdtFrom = none ∧ t.rd kResetCause = 5 ∧ t.rd kResult = 0 ∧ t.lastStatus = 0 ∧ t.tick = s.tick ∧
          t.rd kDevState = s.rd kDevState ∧ t.guard = s.guard ∧ t.engines = s.engines ∧
          ((∀ k : Fin 4, (s.jobs.slots[k].map fun j => j.act) ≠ some 6) → t.gates = s.gates ∧ t.carriers = s.carriers ∧ t.legs = s.legs) ∧
          t = { s with free := t.free, objs := t.objs, power := t.power, gates := t.gates, carriers := t.carriers, legs := t.legs, rails := t.rails, lanes := t.lanes, frames := t.frames, meas := t.meas, nv := t.nv, jobs := t.jobs, wdp := t.wdp, lastStatus := t.lastStatus, lastData := t.lastData, clock := { s.clock with lines := t.clock.lines } }) ∧
    (s.power.supervisor = false → s.dev ≠ 0 → s.inReset = false → s.nv.fw[s.jobs.install.active].valid = true →
      Completes (.supervisorRestartComplete) s fun t =>
          t.power = { s.power with supervisor := true, wdtFrom := some s.tick } ∧
          t = { s with free := t.free, power := t.power, can := t.can, wdp := t.wdp, collector := { s.collector with relay := t.collector.relay } })

/-- CHARGE, RUN, STOP, SAFE and RESUME. With the Supervisor executing, in the states that accept them and with their conditions met, RESULT and STATUS are 0 and: CHARGE enters CHARGE, and every fitted cell that is OFF enters CHARGE; RUN enters RUN, and every fitted cell in CHARGE enters RUN; STOP starts the stop time-out, or ends in READY where every fitted cell is OFF, BYPASSED or FAULTED; SAFE enters SAFE with cause 4 from READY, CHARGE and RUN with every cell in CHARGE or RUN gone to OFF, and waits in HATCH and COCOON; RESUME enters READY. RUN with a cell in CHARGE that is not charged answers RESULT 4 and changes nothing else. Under hypotheses on the state and the operands alone, exec answers a next state with the command's own effect for: cmdCharge, cmdRun, cmdStop, cmdSafe, cmdResume. (spec/04 R104, R105, R106, R107, R108; spec/10 R317, R318, R351.) -/
def Obligations.StateCommandsMoveTheDevice : Prop :=
  ∀ s : State,
    (∀ (cells : List CellInfo), s.power.supervisor = true → s.fellNow 1 = false → s.dev = 2 → s.fallsDue = false → (s.manager = false → s.stringRx.devices = some (s.rd 0xB03004)) → (s.manager = true → s.rd 0xB03004 = s.rd kExpected ∧ (s.checkMap (s.chainCells cells)).1 = true ∧ ¬ (s.bitAt 0xB02003 8 = true ∧ s.bitAt 0xB02003 9 = true)) → (∀ c : Cell, s.fitted c = true → s.rd (0x800001 + c.val) ≤ 2) → s.validateAll.1 = true → s.safePresent = false →
      Completes (.cmdCharge cells) s fun t =>
          t.dev = 3 ∧ (s.power.chargeReply.length ≤ 1 → t.rd kResult = 0) ∧ t.lastStatus = 0 ∧ t.rd kEntryS = s.net.sec ∧ t.rd kEntryNs = s.ns ∧
          (∀ c : Cell, t.cellSt c = if s.fitted c = true ∧ s.cellSt c = 0 then 1 else s.cellSt c) ∧ t.tick = s.tick ∧
          KeepsOtherAreas [1, 4, 5, 6, 7, 8, 0xB, 0xC, 0xE] s t ∧
          t = { s with free := t.free, objs := t.objs, gates := t.gates, carriers := t.carriers, legs := t.legs, guard := t.guard, rails := t.rails, engines := t.engines, charge := t.charge, string := t.string, lanes := t.lanes, frames := t.frames, meas := t.meas, thermal := t.thermal, jobs := t.jobs, wdp := t.wdp, can := t.can, refs := t.refs, modeDone := t.modeDone, lastStatus := t.lastStatus, lastData := t.lastData, power := t.power, collector := { s.collector with relay := t.collector.relay }, clock := { s.clock with lines := t.clock.lines } }) ∧
    (s.power.supervisor = true → s.fellNow 2 = false → s.dev = 3 → s.fallsDue = false → (∀ c : Cell, s.fitted c = true → s.cellSt c = 1 → s.chargeDone c = true) →
      Completes (.cmdRun) s fun t =>
          t.dev = 4 ∧ t.rd kResult = 0 ∧ t.lastStatus = 0 ∧ t.rd kEntryS = s.net.sec ∧ t.rd kEntryNs = s.ns ∧ (∀ c : Cell, t.cellSt c = if s.fitted c = true ∧ s.cellSt c = 1 then 2 else s.cellSt c) ∧
          KeepsOtherAreas [1, 3, 5, 6, 7] s t ∧
          t = { s with objs := t.objs, rails := t.rails, charge := t.charge, engines := t.engines, guard := t.guard, gates := t.gates, carriers := t.carriers, legs := t.legs, thermal := t.thermal, refs := t.refs, modeDone := t.modeDone, lastStatus := t.lastStatus, lastData := t.lastData, clock := { s.clock with lines := t.clock.lines } }) ∧
    (∀ (c : Cell), s.power.supervisor = true → s.fellNow 2 = false → s.dev = 3 → s.fallsDue = false → s.fitted c = true → s.cellSt c = 1 → s.chargeDone c = false →
      Completes (.cmdRun) s fun t =>
          t.rd kResult = 4 ∧ t.lastStatus = 0 ∧
          KeepsObjs [kResult] s t ∧
          t = { s with objs := t.objs, lastStatus := t.lastStatus, lastData := t.lastData }) ∧
    (s.power.supervisor = true → s.fellNow 3 = false → (s.dev = 3 ∨ s.dev = 4) → s.fallsDue = false → s.stopComplete = false →
      Completes (.cmdStop) s fun t =>
          t.dev = s.dev ∧ t.rd kResult = 0 ∧ t.lastStatus = 0 ∧ t.rd 0x801109 = 1 ∧ t.power.stopAt = some (s.power.stopAt.getD (s.tick + msTicks (s.rd 0x80100A))) ∧
          KeepsObjs [kResult, 0x801109] s t ∧
          t = { s with objs := t.objs, power := t.power, string := t.string, lastStatus := t.lastStatus, lastData := t.lastData }) ∧
    (s.power.supervisor = true → s.fellNow 3 = false → (s.dev = 3 ∨ s.dev = 4) → s.fallsDue = false → s.stopComplete = true →
      Completes (.cmdStop) s fun t =>
          t.dev = 2 ∧ t.rd kResult = 0 ∧ t.lastStatus = 0 ∧ t.power.stopAt = none ∧ t.rd 0x801109 = 0 ∧ (∀ c : Cell, t.cellSt c = s.cellSt c) ∧ t.gates = s.gates ∧ t.tick = s.tick ∧
          KeepsOtherAreas [1, 5, 6, 8] s t ∧
          t = { s with free := t.free, objs := t.objs, power := t.power, string := t.string, engines := t.engines, rails := t.rails, lastStatus := t.lastStatus, lastData := t.lastData }) ∧
    (s.power.supervisor = true → s.fallsDue = false → s.fellNow 4 = false → (s.dev = 2 ∨ s.dev = 3 ∨ s.dev = 4) →
      Completes (.cmdSafe) s fun t =>
          t.dev = 6 ∧ t.rd kSafeCause = 4 ∧ t.rd kResult = 0 ∧ t.lastStatus = 0 ∧ t.rd kEntryS = s.net.sec ∧ t.rd kEntryNs = s.ns ∧ (∀ c : Cell, s.fitted c = true → s.cellSt c = 1 ∨ s.cellSt c = 2 → t.cellSt c = 0) ∧ t.power.stopAt = (if s.dev = 2 then s.power.stopAt else none) ∧ t.tick = s.tick ∧ t.nv = s.nv ∧
          KeepsOtherAreas [1, 3, 5, 6, 7, 8] s t ∧
          t = { s with objs := t.objs, power := t.power, gates := t.gates, carriers := t.carriers, legs := t.legs, guard := t.guard, rails := t.rails, engines := t.engines, charge := t.charge, string := t.string, thermal := t.thermal, lastStatus := t.lastStatus, lastData := t.lastData, clock := { s.clock with lines := t.clock.lines } }) ∧
    (s.power.supervisor = true → s.fallsDue = false → s.fellNow 4 = false → (s.dev = 1 ∨ s.dev = 5) →
      Completes (.cmdSafe) s fun t =>
          t.rd kResult = 0 ∧ t.lastStatus = 0 ∧ t.bitAt kFlags 1 = true ∧ (s.bitAt kFlags 1 = false → t.power.pendingCause = 4) ∧
          KeepsObjs [kResult, kFlags] s t ∧
          t = { s with objs := t.objs, power := t.power, lastStatus := t.lastStatus, lastData := t.lastData }) ∧
    (s.power.supervisor = true → s.fallsDue = false → s.fellNow 5 = false → (s.dev = 6 ∨ s.dev = 7 ∧ s.unarmed 0 = false) → s.safePresent = false →
      Completes (.cmdResume) s fun t =>
          t.dev = 2 ∧ t.rd kResult = 0 ∧ t.lastStatus = 0 ∧ t.rd kEntryS = s.net.sec ∧ t.rd kEntryNs = s.ns ∧
          KeepsObjs [kResult, kDevState, kEntryS, kEntryNs] s t ∧
          t = { s with objs := t.objs, lastStatus := t.lastStatus, lastData := t.lastData })

/-- COCOON, the wake from it, DEVICE_RESET. With no fitted cell in BYPASSING, COCOON is entered from READY and SAFE with RESULT 0: every gate is off, the lanes of path Y are OFF, no stream runs and no sequence table. The end of its entry lets a wake seen meanwhile take effect; WAKE high for 10 µs, the fourth WAKE block in a run and CMD WAKE, each where its source is enabled, make the wake due; the wake enters HATCH. CMD DEVICE_RESET is answered with RESULT 0 and its reset is due in 1 ms at the latest. Under hypotheses on the state and the operands alone, exec answers a next state with the command's own effect for: cmdCocoon, cocoonEntryComplete, wakePinHigh, wakeBlockReceive, cocoonExit, cmdWake, cmdDeviceReset. (spec/04 R98, R108, R113, R114, R115, R121; spec/13 R437.) -/
def Obligations.CocoonWakeAndResetCommands : Prop :=
  ∀ s : State,
    (s.power.supervisor = true → s.fellNow 6 = false → (s.dev = 2 ∨ s.dev = 6) → s.fallsDue = false → (∀ c : Cell, s.fitted c = true → s.cellSt c ≠ 3) →
      Completes (.cmdCocoon) s fun t =>
          t.dev = 5 ∧ t.power.entering = true ∧ t.power.waking = false ∧ t.rd kResult = 0 ∧ t.lastStatus = 0 ∧ (∀ l : Line, t.gates[l] = false) ∧ t.laneState 2 = 0 ∧ t.laneState 3 = 0 ∧
          (∀ n : Fin 18, t.streamRuns n = false) ∧ (∀ a : Fin 4, t.meas.adc[a].run = none) ∧ t.nv = s.nv ∧ t.pins = s.pins ∧ t.tick = s.tick ∧
          KeepsOtherAreas [1, 2, 3, 4, 5, 6, 7, 0xB, 0xC, 0xD, 0xE] s t ∧
          t = { s with free := t.free, objs := t.objs, power := t.power, clock := t.clock, gates := t.gates, carriers := t.carriers, legs := t.legs, guard := t.guard, rails := t.rails, engines := t.engines, lanes := t.lanes, lease := t.lease, paths := t.paths, frames := t.frames, meas := t.meas, thermal := t.thermal, jobs := t.jobs, capture := t.capture, can := t.can, lastStatus := t.lastStatus, lastData := t.lastData }) ∧
    (s.power.entering = true → s.power.waking = false →
      Completes (.cocoonEntryComplete) s fun t =>
          t.power = { s.power with entering := false } ∧
          t = { s with power := t.power }) ∧
    (s.power.entering = true → s.power.waking = true → s.dev = 5 →
      Completes (.cocoonEntryComplete) s fun t =>
          t.power.entering = false ∧ t.power.waking = false ∧ t.dev = 1 ∧ t.hatch.since = s.tick ∧ t.tick = s.tick ∧
          t = { s with free := t.free, objs := t.objs, power := t.power, clock := t.clock, gates := t.gates, carriers := t.carriers, legs := t.legs, rails := t.rails, lanes := t.lanes, paths := t.paths, hatch := t.hatch, lease := t.lease, frames := t.frames, meas := t.meas, thermal := t.thermal, nv := t.nv, can := t.can, time := t.time }) ∧
    (∀ (ticks : BitVec 32), s.dev = 5 → s.bitAt 0x100401 2 = true → 6250 ≤ ticks.toNat →
      Completes (.wakePinHigh ticks) s fun t =>
          t.power = { s.power with waking := true } ∧
          t = { s with power := t.power }) ∧
    (∀ (x : LineBlock) (b : Bytes), s.dev = 5 → s.manager = false → s.laneUp 0 = true → s.bitAt 0x100401 1 = true → (s.blockIn 0 x).1 = some (.control 0x5A b) → 3 ≤ (s.blockIn 0 x).2.lanes[(0 : Lane)].wakes →
      Completes (.wakeBlockReceive x) s fun t =>
          t.power = { s.power with waking := true } ∧
          KeepsOtherAreas [0xB] s t ∧
          t = { s with objs := t.objs, power := t.power, lanes := t.lanes, paths := t.paths, lease := t.lease, rails := t.rails }) ∧
    (s.dev = 5 → s.power.waking = true → s.power.entering = false →
      Completes (.cocoonExit) s fun t =>
          t.dev = 1 ∧ t.power.waking = false ∧ t.hatch.since = s.tick ∧ t.tick = s.tick ∧ t.nv = s.nv ∧
          t = { s with free := t.free, objs := t.objs, power := t.power, clock := t.clock, gates := t.gates, carriers := t.carriers, legs := t.legs, rails := t.rails, lanes := t.lanes, paths := t.paths, hatch := t.hatch, lease := t.lease, frames := t.frames, meas := t.meas, thermal := t.thermal, can := t.can, time := t.time }) ∧
    (s.power.supervisor = true → s.fallsDue = false → s.fellNow 7 = false → s.dev = 5 → s.bitAt 0x100401 0 = true →
      Completes (.cmdWake) s fun t =>
          t.rd kResult = 0 ∧ t.lastStatus = 0 ∧ t.power = { s.power with waking := true } ∧
          KeepsObjs [kResult] s t ∧
          t = { s with objs := t.objs, power := t.power, lastStatus := t.lastStatus, lastData := t.lastData }) ∧
    (s.power.supervisor = true → s.fallsDue = false → s.fellNow 9 = false → (s.dev = 1 ∨ s.dev = 2 ∨ s.dev = 5 ∨ s.dev = 6 ∨ s.dev = 7) →
      Completes (.cmdDeviceReset) s fun t =>
          t.rd kResult = 0 ∧ t.lastStatus = 0 ∧ t.power = { s.power with resetDue := some (s.tick + msTicks 1) } ∧
          KeepsObjs [kResult] s t ∧
          t = { s with objs := t.objs, power := t.power, lastStatus := t.lastStatus, lastData := t.lastData })

/-- CELL_CLEAR, CELL_FITTED, the external fault lines and the release of holds. CELL_CLEAR in READY and SAFE takes a clean FAULTED cell to OFF and opens the contactor of a BYPASSED one, its time-out running; CELL_FITTED takes its value, a newly fitted cell starts its sense cycle and one no longer fitted holds nothing; the fault lines take their levels: an external fault asserts source 127 and holds every bridge of every fitted cell, and its end clears the source; RELEASE clears, on the bridges it names, the cause bits of inputs that are inactive and the interlock bit of a cell that does not drive, and the count of automatic releases; an automatic release ends a hold and counts; the L gates of a ZERO pattern that are due turn on, where their H gate is off. Under hypotheses on the state and the operands alone, exec answers a next state with the command's own effect for: cellClear, cellFittedWrite, externalFaultChange, guardRelease, autoRelease, safePatternTurnOn. (spec/01 R26; spec/04 R108, R110; spec/09 R291, R292, R293, R297, R303, R304, R305, R675; spec/20 R646.) -/
def Obligations.FittingFaultLinesAndReleaseOfHolds : Prop :=
  ∀ s : State,
    (∀ (mask : Byte) (c : Cell), s.power.supervisor = true → (s.dev = 2 ∨ s.dev = 6) → bit mask.toNat c.val = true → s.fitted c = true → s.cellSt c = 6 → s.cellClean c = true →
      Completes (.cellClear mask) s fun t =>
          t.cellSt c = 0 ∧ t.lastStatus = 0 ∧ (∀ d : Cell, bit mask.toNat d.val = false → t.cellSt d = s.cellSt d) ∧ t.dev = s.dev ∧ t.tick = s.tick ∧
          KeepsOtherAreas [3, 5, 6, 7] s t ∧
          t = { s with objs := t.objs, power := t.power, gates := t.gates, carriers := t.carriers, legs := t.legs, guard := t.guard, rails := t.rails, engines := t.engines, charge := t.charge, string := t.string, thermal := t.thermal, refs := t.refs, modeDone := t.modeDone, lastStatus := t.lastStatus, lastData := t.lastData, clock := { s.clock with lines := t.clock.lines } }) ∧
    (∀ (mask : Byte) (c : Cell), s.power.supervisor = true → (s.dev = 2 ∨ s.dev = 6) → bit mask.toNat c.val = true → s.fitted c = true → s.cellSt c = 4 → s.guard[c].opening = .no → s.bypClosed c = true →
      Completes (.cellClear mask) s fun t =>
          t.cellSt c = 4 ∧ t.bypCmd c = false ∧ t.guard[c].opening = .cellClear ∧ t.guard[c].openLimit = some (s.tick + s.bypTicks c) ∧ t.lastStatus = 0 ∧ t.dev = s.dev ∧ t.tick = s.tick ∧
          KeepsOtherAreas [3, 5, 6, 7] s t ∧
          t = { s with objs := t.objs, power := t.power, gates := t.gates, carriers := t.carriers, legs := t.legs, guard := t.guard, rails := t.rails, engines := t.engines, charge := t.charge, string := t.string, thermal := t.thermal, refs := t.refs, modeDone := t.modeDone, lastStatus := t.lastStatus, lastData := t.lastData, clock := { s.clock with lines := t.clock.lines } }) ∧
    (∀ (mask : Byte), s.power.supervisor = true → (s.dev = 2 ∨ s.dev = 6 ∨ s.dev = 7) → (∀ c : Cell, s.fitted c = true → bit mask.toNat c.val = false → s.cellSt c = 0) →
      Completes (.cellFittedWrite mask) s fun t =>
          t.rd kFitted = mask.toNat % 64 ∧ t.lastStatus = 0 ∧ (∀ c : Cell, bit mask.toNat c.val = true → s.fitted c = false → t.guard[c].cycleAt = some s.tick) ∧
          (∀ c : Cell, bit mask.toNat c.val = false → s.fitted c = true → ∀ b : Bridge, t.rd (kHoldCause c b) = 0) ∧ t.dev = s.dev ∧ t.tick = s.tick ∧
          t = { s with objs := t.objs, gates := t.gates, carriers := t.carriers, legs := t.legs, guard := t.guard, rails := t.rails, engines := t.engines, charge := t.charge, thermal := t.thermal, meas := t.meas, winTrip := t.winTrip, lastStatus := t.lastStatus, lastData := t.lastData, clock := { s.clock with lines := t.clock.lines } }) ∧
    (∀ (p : Bool) (n : Bool) (sn : Bool), s.inReset = false →
      Completes (.externalFaultChange p n sn) s fun t =>
          t.pins = { s.pins with fltInP := p, fltInN := n, safeN := sn } ∧ t.extActive = (!p || n || !sn) ∧ (t.extActive = true → t.rails.cond.getLsbD 127 = true) ∧
          (t.extActive = true → ∀ (c : Cell) (b : Bridge), s.fitted c = true → t.bitAt (kHoldCause c b) 8 = true) ∧
          (t.extActive = false → s.extActive = true → t.rails.cond.getLsbD 127 = false) ∧
          KeepsOtherAreas [3, 7] s t ∧
          t = { s with objs := t.objs, pins := t.pins, rails := t.rails, guard := t.guard, gates := t.gates, carriers := t.carriers, legs := t.legs, free := t.free, clock := { s.clock with lines := t.clock.lines } }) ∧
    (∀ (c : Cell) (mask : Byte), s.power.supervisor = true → s.dev ≠ 0 →
      Completes (.guardRelease c mask) s fun t =>
          t.lastStatus = 0 ∧ (∀ b : Bridge, bit mask.toNat b.val = true → (∀ i : Fin 9, t.bitAt (kHoldCause c b) i = (s.bitAt (kHoldCause c b) i && s.tripInput c i)) ∧ t.bitAt (kHoldCause c b) 11 = (s.bitAt (kHoldCause c b) 11 && s.cellDrives c)) ∧
          (∀ b : Bridge, bit mask.toNat b.val = false → t.rd (kHoldCause c b) = s.rd (kHoldCause c b)) ∧ t.rd (unitKey 0x700407 c) = 0 ∧ t.tick = s.tick ∧
          KeepsObjs [unitKey 0x700407 c, kHoldCause c 0, kHoldCause c 1, kHoldCause c 2] s t ∧
          t = { s with objs := t.objs, guard := t.guard, gates := t.gates, carriers := t.carriers, legs := t.legs, lastStatus := t.lastStatus, lastData := t.lastData, clock := { s.clock with lines := t.clock.lines } }) ∧
    (∀ (c : Cell) (b : Bridge) (d : Nat), s.autoDue c b = some d → s.rd (unitKey 0x700407 c) < s.rd (unitKey 0x70010B c) → s.guard[c].lastAuto ≠ some (max d s.tick) →
      Completes (.autoRelease c b) s fun t =>
          t.rd (kHoldCause c b) = 0 ∧ t.tick = max s.tick d ∧ t.rd (unitKey 0x700407 c) = s.rd (unitKey 0x700407 c) + 1 ∧
          KeepsObjs [unitKey 0x700407 c, kHoldCause c b] s t ∧
          t = { s with objs := t.objs, guard := t.guard, gates := t.gates, carriers := t.carriers, legs := t.legs, tick := t.tick, net := t.net, clock := { s.clock with lines := t.clock.lines } }) ∧
    (∀ (c : Cell) (b : Bridge) (j : Fin 2) (d : Nat), s.zeroRow c b = true → s.legs[legOf (carrierOf c b) j].safeOn = some d → (∀ i : Fin 2, d ≤ s.legs[legOf (carrierOf c b) i].safeOn.getD d) → s.gates[lineH (legOf (carrierOf c b) j)] = false →
      Completes (.safePatternTurnOn c b) s fun t =>
          t.gates[lineL (legOf (carrierOf c b) j)] = true ∧ t.legs[legOf (carrierOf c b) j].safeOn = none ∧ t.tick = max s.tick d ∧
          KeepsOtherAreas [3, 7] s t ∧
          t = { s with objs := t.objs, gates := t.gates, legs := t.legs, tick := t.tick, net := t.net, rails := t.rails, guard := t.guard, carriers := t.carriers, clock := { s.clock with lines := t.clock.lines } })

/-- The bypass sequence, its time-outs and the sense cycle of the BYP ball. The contactor is commanded closed at its instant: its time-out starts, or where the feedback already reads closed the cell is BYPASSED at once; a time-out enters FAULTED with TIMEOUT and source 71 + c; an opening that the feedback does not follow is a counted mismatch, of a CELL_CLEAR with the cell left as it is, of a MOLT step with the contactor closed again and the cell BYPASSED; a standing difference is a counted mismatch with source 71 + c. The ball is released 90 µs into the cycle and sampled at 99 µs; the eighth consecutive sample at a new level changes the feedback; the next cycle begins 100 µs after this one, with the ball driven. Under hypotheses on the state and the operands alone, exec answers a next state with the command's own effect for: bypassCommandClose, bypassTimeout, bypassOpenTimeout, bypMismatchTimeout, bypSenseRelease, bypSenseSample, bypSenseCycleStart. (spec/02 R47, R48, R49; spec/09 R306, R307, R308, R309; spec/10 R348.) -/
def Obligations.BypassSequenceAndSenseCycle : Prop :=
  ∀ s : State,
    (∀ (c : Cell) (d : Nat), s.guard[c].closeAt = some d → s.bypClosed c = false →
      Completes (.bypassCommandClose c) s fun t =>
          t.bypCmd c = true ∧ t.guard[c].closeAt = none ∧ t.guard[c].bypLimit = some (max s.tick d + s.bypTicks c) ∧ t.tick = max s.tick d ∧ t.cellSt c = s.cellSt c ∧
          t = { s with tick := t.tick, net := t.net, refs := t.refs, modeDone := t.modeDone, objs := t.objs, power := t.power, gates := t.gates, carriers := t.carriers, legs := t.legs, guard := t.guard, rails := t.rails, engines := t.engines, charge := t.charge, string := t.string, thermal := t.thermal, free := t.free, clock := { s.clock with lines := t.clock.lines } }) ∧
    (∀ (c : Cell) (d : Nat), s.guard[c].closeAt = some d → s.bypClosed c = true → s.fitted c = true →
      Completes (.bypassCommandClose c) s fun t =>
          t.bypCmd c = true ∧ t.guard[c].closeAt = none ∧ t.cellSt c = 4 ∧ t.rd (unitKey 0x700204 c) = 0 ∧ t.tick = max s.tick d ∧
          t = { s with tick := t.tick, net := t.net, refs := t.refs, modeDone := t.modeDone, objs := t.objs, power := t.power, gates := t.gates, carriers := t.carriers, legs := t.legs, guard := t.guard, rails := t.rails, engines := t.engines, charge := t.charge, string := t.string, thermal := t.thermal, free := t.free, clock := { s.clock with lines := t.clock.lines } }) ∧
    (∀ (c : Cell) (d : Nat), s.guard[c].bypLimit = some d → s.fitted c = true → s.cellSt c = 3 →
      Completes (.bypassTimeout c) s fun t =>
          t.cellSt c = 6 ∧ t.bitAt (kByp c) 3 = true ∧ t.bypCmd c = s.bypCmd c ∧ t.tick = max s.tick d ∧ t.rails.occ.getLsbD (71 + c.val) = true ∧
          t = { s with tick := t.tick, net := t.net, refs := t.refs, modeDone := t.modeDone, objs := t.objs, power := t.power, gates := t.gates, carriers := t.carriers, legs := t.legs, guard := t.guard, rails := t.rails, engines := t.engines, charge := t.charge, string := t.string, thermal := t.thermal, free := t.free, clock := { s.clock with lines := t.clock.lines } }) ∧
    (∀ (c : Cell) (d : Nat), s.guard[c].openLimit = some d → s.guard[c].opening ≠ .molt →
      Completes (.bypassOpenTimeout c) s fun t =>
          t.bitAt (kByp c) 4 = true ∧ t.rd (unitKey 0x700205 c) = wrapInc 32 (s.rd (unitKey 0x700205 c)) ∧ t.cellSt c = s.cellSt c ∧ t.guard[c].openLimit = none ∧ t.rails.occ.getLsbD (71 + c.val) = true ∧ t.tick = max s.tick d ∧
          t = { s with tick := t.tick, net := t.net, refs := t.refs, modeDone := t.modeDone, objs := t.objs, power := t.power, gates := t.gates, carriers := t.carriers, legs := t.legs, guard := t.guard, rails := t.rails, engines := t.engines, charge := t.charge, string := t.string, thermal := t.thermal, free := t.free, clock := { s.clock with lines := t.clock.lines } }) ∧
    (∀ (c : Cell) (d : Nat), s.guard[c].openLimit = some d → s.guard[c].opening = .molt → s.fitted c = true →
      Completes (.bypassOpenTimeout c) s fun t =>
          t.bitAt (kByp c) 4 = true ∧ t.rd (unitKey 0x700205 c) = wrapInc 32 (s.rd (unitKey 0x700205 c)) ∧ t.cellSt c = 4 ∧ t.bypCmd c = true ∧ t.guard[c].opening = .no ∧ t.guard[c].openLimit = none ∧ t.tick = max s.tick d ∧
          t = { s with tick := t.tick, net := t.net, refs := t.refs, modeDone := t.modeDone, objs := t.objs, power := t.power, gates := t.gates, carriers := t.carriers, legs := t.legs, guard := t.guard, rails := t.rails, engines := t.engines, charge := t.charge, string := t.string, thermal := t.thermal, free := t.free, clock := { s.clock with lines := t.clock.lines } }) ∧
    (∀ (c : Cell) (d : Nat), s.guard[c].mismatchAt = some d → s.bypCmd c ≠ s.bypClosed c →
      Completes (.bypMismatchTimeout c) s fun t =>
          t.bitAt (kByp c) 4 = true ∧ t.rd (unitKey 0x700205 c) = wrapInc 32 (s.rd (unitKey 0x700205 c)) ∧ t.guard[c].mismatchAt = none ∧ t.rails.occ.getLsbD (71 + c.val) = true ∧ t.tick = max s.tick d ∧
          KeepsObjs [kByp c, unitKey 0x700205 c] s t ∧
          t = { s with objs := t.objs, guard := t.guard, rails := t.rails, tick := t.tick, net := t.net }) ∧
    (∀ (c : Cell) (d : Nat), s.guard[c].cycleAt = some d → s.senses c = true → s.guard[c].sense = .driven →
      Completes (.bypSenseRelease c) s fun t =>
          t.guard[c] = { s.guard[c] with sense := .released } ∧ t.bypBall c = (if s.tap.ir = .extest then some false else none) ∧ t.tick = max s.tick (d + 56250) ∧
          t = { s with guard := t.guard, tick := t.tick, net := t.net }) ∧
    (∀ (c : Cell) (high : Bool) (d : Nat), s.guard[c].cycleAt = some d → s.senses c = true → s.guard[c].sense = .released →
      Completes (.bypSenseSample c high) s fun t =>
          t.guard[c].sense = .sampled ∧ t.tick = max s.tick (d + 61875) ∧ (s.bypClosed c = high → t.bypClosed c = high ∧ t.guard[c].count = 0) ∧
          (s.bypClosed c ≠ high → s.guard[c].count < 7 → t.bypClosed c = s.bypClosed c ∧ t.guard[c].count = s.guard[c].count + 1) ∧ (s.bypClosed c ≠ high → 7 ≤ s.guard[c].count → t.bypClosed c = high ∧ t.guard[c].count = 0) ∧
          t = { s with tick := t.tick, net := t.net, refs := t.refs, modeDone := t.modeDone, objs := t.objs, power := t.power, gates := t.gates, carriers := t.carriers, legs := t.legs, guard := t.guard, rails := t.rails, engines := t.engines, charge := t.charge, string := t.string, thermal := t.thermal, free := t.free, clock := { s.clock with lines := t.clock.lines } }) ∧
    (∀ (c : Cell) (d : Nat), s.guard[c].cycleAt = some d →
      Completes (.bypSenseCycleStart c) s fun t =>
          t.guard[c] = { s.guard[c] with sense := .driven, cycleAt := some (d + 62500 * max 1 ((t.tick - d) / 62500)) } ∧ t.tick = max s.tick (d + 62500) ∧
          t = { s with guard := t.guard, tick := t.tick, net := t.net })

/-- PLLs restart, lock, lose lock, time out. A restart puts the PLL in bypass and acquiring, with SSC_ACTIVE 0 and 10 ms to lock; a restart written as 0 does nothing. While the reference is present a PLL that acquires locks at the end of the first LOCK_COUNT consecutive windows that differ from the expected count by at most LOCK_TOL, 40 µs discarded first, at a REFCLK edge: out of bypass and acquisition, spreading where SSC_MODE says so, ACQ_TIME and the end of its source stored. A window off by more, or 4 consecutive PFD cycles off by more than 800 ps, take a locked PLL back to acquisition, counted, with source 85 + p. 10 ms without lock set ACQ_TIMEOUT and source 91. Under hypotheses on the state and the operands alone, exec answers a next state with the command's own effect for: pllRestart, pllLockDeclared, pllLockLost, pllAcquisitionTimeout. (spec/03 R68, R69, R70, R71, R72, R73, R74, R75, R80, R81.) -/
def Obligations.PllsRestartLockAndLoseLock : Prop :=
  ∀ s : State,
    (∀ (p : Fin 3) (v : Byte), s.power.supervisor = true → (s.dev = 2 ∨ s.dev = 6 ∨ s.dev = 7) → v = 1 →
      Completes (.pllRestart p v) s fun t =>
          t.lastStatus = 0 ∧ t.bitAt (kPllStatus p) 0 = false ∧ t.bitAt (kPllStatus p) 1 = true ∧ t.bitAt (kPllStatus p) 2 = true ∧ t.bitAt (kPllStatus p) 4 = false ∧ t.clock.pll[p].acqLimit = some (t.tick + msTicks 10) ∧ t.clock.pll[p].startAt = t.tick ∧
          t.tick = (if p.val = 0 ∧ s.clock.refPresent = true then ceilDiv s.tick 4 * 4 else s.tick) ∧
          KeepsOtherAreas [1, 2, 0xB] s t ∧
          t = { s with tick := t.tick, net := t.net, objs := t.objs, clock := t.clock, lanes := t.lanes, rails := t.rails, lastStatus := t.lastStatus, lastData := t.lastData }) ∧
    (∀ (p : Fin 3) (v : Byte), s.power.supervisor = true → (s.dev = 2 ∨ s.dev = 6 ∨ s.dev = 7) → v = 0 →
      Completes (.pllRestart p v) s fun t =>
          t.lastStatus = 0 ∧
          t = { s with lastStatus := t.lastStatus, lastData := t.lastData }) ∧
    (∀ (p : Fin 3) (counts : List (BitVec 32)), s.bitAt (kPllStatus p) 2 = true → s.clock.refPresent = true → (endsRun (fun x => decide ((s.expectedCount p - x) + (x - s.expectedCount p) ≤ s.rd (kLock p + 2))) (s.rd (kLock p + 3)) 0 counts = true) →
      Completes (.pllLockDeclared p counts) s fun t =>
          t.bitAt (kPllStatus p) 0 = true ∧ t.bitAt (kPllStatus p) 1 = false ∧ t.bitAt (kPllStatus p) 2 = false ∧ t.bitAt (kPllStatus p) 4 = s.spreads p ∧ t.bitAt (kPllStatus p) 5 = false ∧ t.rd (kPllStatus p + 2) = 6250 + counts.length * s.lockWindow p ∧
          t.rails.cond.getLsbD (85 + p.val) = false ∧ t.clock.pll[p].acqLimit = none ∧ t.clock.pll[p].spreadAt = (if s.spreads p then some t.tick else none) ∧ t.tick = ceilDiv (max s.tick (s.lockTick p counts.length)) 4 * 4 ∧
          KeepsOtherAreas [1, 2, 0xB] s t ∧
          t = { s with objs := t.objs, clock := t.clock, lanes := t.lanes, rails := t.rails, tick := t.tick, net := t.net }) ∧
    (∀ (p : Fin 3) (e : LossEvidence), s.bitAt (kPllStatus p) 0 = true → s.lossShown p e = true →
      Completes (.pllLockLost p e) s fun t =>
          t.bitAt (kPllStatus p) 0 = false ∧ t.bitAt (kPllStatus p) 1 = true ∧ t.bitAt (kPllStatus p) 2 = true ∧ t.bitAt (kPllStatus p) 4 = false ∧ t.rd (kPllStatus p + 1) = satInc 32 (s.rd (kPllStatus p + 1)) ∧
          t.rails.cond.getLsbD (85 + p.val) = true ∧ t.clock.pll[p].acqLimit = some (t.tick + msTicks 10) ∧ t.tick = (if p.val = 0 ∧ s.clock.refPresent = true then ceilDiv (max s.tick (s.lossTick p e)) 4 * 4 else max s.tick (s.lossTick p e)) ∧
          KeepsOtherAreas [1, 2, 0xB] s t ∧
          t = { s with tick := t.tick, net := t.net, objs := t.objs, clock := t.clock, lanes := t.lanes, rails := t.rails }) ∧
    (∀ (p : Fin 3) (d : Nat), s.clock.pll[p].acqLimit = some d →
      Completes (.pllAcquisitionTimeout p) s fun t =>
          t.bitAt (kPllStatus p) 5 = true ∧ t.bitAt (kPllStatus p) 2 = s.bitAt (kPllStatus p) 2 ∧ t.rails.cond.getLsbD 91 = true ∧ t.clock.pll[p].acqLimit = none ∧ t.tick = max s.tick d ∧
          KeepsObjs [kPllStatus p] s t ∧
          t = { s with objs := t.objs, clock := t.clock, rails := t.rails, tick := t.tick, net := t.net })

/-- The reference and the relaxation oscillator. A monitor window outside 80 to 120 edges, or with none while the oscillator is out of range, declares the reference lost: source 88, REF_PRESENT 0 on every PLL, and every locked PLL in bypass and acquiring. Eight consecutive windows within that range declare it present again: source 88 ends and every PLL but a PLL_LY that COCOON has off restarts; in BOOT the firmware bank, the dictionary and the lockout records are loaded then, or the boot loader takes over where no bank is valid. A count of the oscillator outside 9,000 to 11,000 in 100 µs of REFCLK asserts source 90, one inside ends it. Under hypotheses on the state and the operands alone, exec answers a next state with the command's own effect for: refclkLost, refclkPresent, relaxOscOutOfRange, relaxationOscillatorInRange. (spec/03 R76, R77, R78; spec/04 R101, R102.) -/
def Obligations.ReferenceAndOscillatorMonitors : Prop :=
  ∀ s : State,
    (∀ (edges : Byte), ((s.clock.oscBad = false ∧ (edges.toNat < 80 ∨ 120 < edges.toNat)) ∨ edges = 0) →
      Completes (.refclkLost edges) s fun t =>
          t.clock.refPresent = false ∧ t.rails.cond.getLsbD 88 = true ∧ (∀ p : Fin 3, t.bitAt (kPllStatus p) 3 = false ∧ t.bitAt (kPllStatus p) 0 = false ∧ (s.bitAt (kPllStatus p) 0 = true → t.bitAt (kPllStatus p) 1 = true ∧ t.bitAt (kPllStatus p) 2 = true ∧ t.clock.pll[p].acqLimit = some (t.tick + msTicks 10)) ∧ (s.bitAt (kPllStatus p) 0 = false → t.clock.pll[p] = s.clock.pll[p])) ∧ t.tick = (if s.netCoarse = true then ceilDiv s.tick 4 * 4 else s.tick) ∧
          KeepsOtherAreas [1, 2, 0xB] s t ∧
          t = { s with tick := t.tick, net := t.net, objs := t.objs, clock := t.clock, lanes := t.lanes, rails := t.rails, paths := t.paths }) ∧
    (∀ (counts : Vector Byte 8), s.clock.refPresent = false → (∀ i : Fin 8, 80 ≤ counts[i].toNat ∧ counts[i].toNat ≤ 120) → s.dev ≠ 0 →
      Completes (.refclkPresent counts) s fun t =>
          t.clock.refPresent = true ∧ t.rails.cond.getLsbD 88 = false ∧ (∀ p : Fin 3, t.bitAt (kPllStatus p) 3 = true ∧ (p.val ≠ 2 ∨ s.dev ≠ 5 → t.bitAt (kPllStatus p) 0 = false ∧ t.bitAt (kPllStatus p) 1 = true ∧ t.bitAt (kPllStatus p) 2 = true ∧ t.clock.pll[p].acqLimit = some (t.tick + msTicks 10))) ∧ t.tick = ceilDiv s.tick 4 * 4 ∧
          KeepsOtherAreas [1, 2, 0xB, 0xC] s t ∧
          t = { s with tick := t.tick, net := t.net, objs := t.objs, clock := t.clock, lanes := t.lanes, rails := t.rails, can := t.can }) ∧
    (∀ (counts : Vector Byte 8), s.clock.refPresent = false → (∀ i : Fin 8, 80 ≤ counts[i].toNat ∧ counts[i].toNat ≤ 120) → s.dev = 0 → s.inReset = false → s.power.loaded = false → s.power.bootLoader = false →
      Completes (.refclkPresent counts) s fun t =>
          t.clock.refPresent = true ∧ t.tick = ceilDiv s.tick 4 * 4 ∧ t.dev = 0 ∧ (if s.nv.fw[(0 : Fin 2)].valid = true ∨ s.nv.fw[(1 : Fin 2)].valid = true then t.power = { s.power with loaded := true } else t.power = { s.power with bootLoader := true } ∧ t.rails.occ.getLsbD 120 = true)) ∧
    (∀ (cycles : BitVec 32), s.clock.refPresent = true → (cycles.toNat < 9000 ∨ 11000 < cycles.toNat) →
      Completes (.relaxOscOutOfRange cycles) s fun t =>
          t.clock = { s.clock with oscBad := true } ∧ t.rails.cond = s.rails.cond ||| 1#128 <<< 90 ∧ t.rails.occ = s.rails.occ ∧
          t = { s with clock := t.clock, rails := t.rails }) ∧
    (∀ (cycles : BitVec 32), s.clock.refPresent = true → 9000 ≤ cycles.toNat → cycles.toNat ≤ 11000 →
      Completes (.relaxationOscillatorInRange cycles) s fun t =>
          t.clock = { s.clock with oscBad := false } ∧ t.rails.cond = s.rails.cond &&& ~~~(1#128 <<< 90) ∧ t.rails.occ = s.rails.occ ∧
          t = { s with clock := t.clock, rails := t.rails })

/-- Fine-delay calibration and the test port. While calibration runs, the line whose turn it is is measured, a line every 888 ns: where its 64 elements reach 1.5 ns and the measurement is plausible, the element counts nearest to the 16 taps go into its shadow table and the line has not failed; a line that does not reach it has failed; an implausible measurement counts, the third in a row fails the line, and leaves the shadow; the pass goes on to the next line, and the last one ends it. A shadow table takes effect at the first tick without an edge in the line's fine stage. EXTEST is loaded where every fitted cell is OFF and no contactor is commanded closed, with every GT and BYP ball low, and BYPASS otherwise; the other instructions are loaded as they come. A scan under EXTEST and SAMPLE/PRELOAD captures the balls and takes the new values, one under BYPASS is delayed by the one bit of its register, which captures 0, and IDCODE brings out a 1 in bit 0 and the part number 0x2606 in bits 27:12; in reset TDO brings out nothing. Under hypotheses on the state and the operands alone, exec answers a next state with the command's own effect for: fineCalLineMeasure, fineCalTableApply, jtagExtest, jtagBypass, jtagSamplePreload, jtagIdcode. (spec/02 R52, R53, R54; spec/03 R84, R86, R90.) -/
def Obligations.FineCalibrationAndTestPort : Prop :=
  ∀ s : State,
    (∀ (l : Line) (plausible : Bool) (elements : Vector (BitVec 24) 64), s.bitAt 0x203001 0 = true → s.clock.nextLine = l.val →
      Completes (.fineCalLineMeasure l plausible elements) s fun t =>
          t.tick = max s.tick s.clock.lineDue ∧ t.clock.lineDue = s.clock.lineDue + 555 ∧ (1500000 ≤ elementSum elements 64 → plausible = true → t.clock.lines[l] = { s.clock.lines[l] with implausible := 0, shadow := Vector.ofFn fun k => BitVec.ofNat 8 (nearestElements elements k.val), waiting := true } ∧ t.bitAt (0x203002 + l.val / 32) (l.val % 32) = false) ∧
          (elementSum elements 64 < 1500000 → t.bitAt (0x203002 + l.val / 32) (l.val % 32) = true ∧ t.clock.lines[l].shadow = s.clock.lines[l].shadow) ∧ (plausible = false → t.clock.lines[l] = { s.clock.lines[l] with implausible := s.clock.lines[l].implausible + 1 } ∧ (2 ≤ s.clock.lines[l].implausible → t.bitAt (0x203002 + l.val / 32) (l.val % 32) = true)) ∧
          (∀ m : Line, m ≠ l → t.clock.lines[m] = s.clock.lines[m]) ∧ t.clock.nextLine = (if l.val = 71 then 0 else l.val + 1) ∧ (l.val = 71 → t.rd 0x203006 = wrapInc 32 (s.rd 0x203006)) ∧
          KeepsObjs [0x203001, 0x203002, 0x203003, 0x203004, 0x203005, 0x203006] s t ∧
          t = { s with tick := t.tick, net := t.net, objs := t.objs, clock := t.clock, rails := t.rails }) ∧
    (∀ (l : Line), s.bitAt 0x203001 0 = true → s.clock.lines[l].waiting = true →
      Completes (.fineCalTableApply l) s fun t =>
          t.clock = { s.clock with lines := s.clock.lines.set l { s.clock.lines[l] with taps := s.clock.lines[l].shadow, waiting := false } } ∧ t.tick = (match s.clock.lines[l].edgeAt with
            | some e => max s.tick (e / 16 + 1)
            | none => s.tick) ∧
          t = { s with clock := t.clock, tick := t.tick, net := t.net }) ∧
    ((∀ c : Cell, s.fitted c = true → s.cellSt c = 0) → (∀ c : Cell, s.bypCmd c = false) →
      Completes (.jtagExtest none) s fun t =>
          t.tap = { s.tap with ir := .extest, tdo := [] } ∧ (∀ l : Line, t.gates[l] = false) ∧ (s.inReset = false → ∀ i : Fin 78, t.ball i = some false) ∧
          t = { s with tap := t.tap, gates := t.gates, carriers := t.carriers, legs := t.legs, clock := { s.clock with lines := t.clock.lines } }) ∧
    (∀ (outside : BitVec 139) (shifted : BitVec 139), (∀ c : Cell, s.fitted c = true → s.cellSt c = 0) → (∀ c : Cell, s.bypCmd c = false) →
      Completes (.jtagExtest (some (outside, shifted))) s fun t =>
          t.tap = { s.tap with ir := .extest, captured := (s.loadJtag .extest).boundary outside, preload := shifted, tdo := if s.inReset then [] else scanBits 139 t.tap.captured.toNat } ∧ (∀ l : Line, t.gates[l] = false) ∧ (s.inReset = false → ∀ i : Fin 72, t.ball i = some false) ∧
          t = { s with tap := t.tap, gates := t.gates, carriers := t.carriers, legs := t.legs, clock := { s.clock with lines := t.clock.lines } }) ∧
    (∀ (c : Cell), ((s.fitted c = true ∧ s.cellSt c ≠ 0) ∨ s.bypCmd c = true) →
      Completes (.jtagExtest none) s fun t =>
          t.tap = { s.tap with ir := .bypass, tdo := [] } ∧
          t = { s with tap := t.tap, gates := t.gates, carriers := t.carriers, legs := t.legs, clock := { s.clock with lines := t.clock.lines } }) ∧
    (∀ (outside : BitVec 139) (shifted : BitVec 139) (c : Cell), ((s.fitted c = true ∧ s.cellSt c ≠ 0) ∨ s.bypCmd c = true) →
      Completes (.jtagExtest (some (outside, shifted))) s fun t =>
          t.tap = { s.tap with ir := .bypass, bypass := shifted.getLsbD 138, tdo := if s.inReset then [] else false :: scanBits 138 shifted.toNat } ∧
          t = { s with tap := t.tap, gates := t.gates, carriers := t.carriers, legs := t.legs, clock := { s.clock with lines := t.clock.lines } }) ∧
    (∀ (bits : List Bool), Completes (.jtagBypass bits) s fun t =>
          t.tap = { s.tap with ir := .bypass, bypass := bits.getLast?.getD false, tdo := if s.inReset then [] else (false :: bits).take bits.length } ∧
          t = { s with tap := t.tap, gates := t.gates, carriers := t.carriers, legs := t.legs, clock := { s.clock with lines := t.clock.lines } }) ∧
    (∀ (outside : BitVec 139) (shifted : BitVec 139), Completes (.jtagSamplePreload outside shifted) s fun t =>
          t.tap = { s.tap with ir := .samplePreload, captured := t.boundary outside, preload := shifted, tdo := if s.inReset then [] else scanBits 139 t.tap.captured.toNat } ∧
          t = { s with tap := t.tap, gates := t.gates, carriers := t.carriers, legs := t.legs, clock := { s.clock with lines := t.clock.lines } }) ∧
    (∀ (scan : Bool), scan = true → s.inReset = false →
      Completes (.jtagIdcode scan) s fun t =>
          t.tap = { s.tap with ir := .idcode, tdo := scanBits 32 (leNat t.lastData) } ∧ t.lastData.length = 4 ∧ field (leNat t.lastData) 12 16 = 0x2606 ∧ bit (leNat t.lastData) 0 = true ∧
          t = { s with tap := t.tap, gates := t.gates, carriers := t.carriers, legs := t.legs, lastData := t.lastData, clock := { s.clock with lines := t.clock.lines } }) ∧
    (∀ (scan : Bool), (scan = false ∨ s.inReset = true) →
      Completes (.jtagIdcode scan) s fun t =>
          t.tap = { s.tap with ir := .idcode, tdo := [] } ∧
          t = { s with tap := t.tap, gates := t.gates, carriers := t.carriers, legs := t.legs, clock := { s.clock with lines := t.clock.lines } })

/-- ZERO, apex, TCMP, transfer instants, COMMIT and CARRY_CLEAR. A ZERO of a running carrier with a place for it falls at its local instant, counts a period, notes ACTIVE_PERIOD of the one that ends, puts in force MODE and PHASE_REF and, on a carrier that follows none, the latched shadows; a LOCAL carrier's next ZERO comes a period later. The apex and TCMP, each once in a period and before its end, number their events; in TRIANGLE mode the apex puts the latched shadows in force. The transfer instant, 256 taps before its boundary, latches every shadow in RATIO mode and those of an armed bridge that wait in ABSOLUTE mode, and the PHASE of the followers with the leader's ZERO. COMMIT arms the running bridges of its mask that are in ABSOLUTE mode; CARRY_CLEAR clears the carries of its mask. Under hypotheses on the state and the operands alone, exec answers a next state with the command's own effect for: carrierZero, carrierApex, tcmpEvent, shadowTransfer, commit, carryClear. (spec/05 R129, R131, R136, R139, R153, R154, R155, R157, R164, R166, R167, R171.) -/
def Obligations.CarriersReachTheirInstants : Prop :=
  ∀ s : State,
    (∀ (k : Carrier), s.carriers[k].running = true → s.carriers[k].placed = true → s.rd (kCarrier (cellOf k) (bridgeOf k) 1) ≠ 0 → (s.rd (kCarrier (cellOf k) (bridgeOf k) 3) < 2 ∨ s.rd (kCarrier (cellOf k) ((s.rd (kCarrier (cellOf k) (bridgeOf k) 3) - 2) % 3) 1) ≠ 0) →
      Completes (.carrierZero k) s fun t =>
          t.carriers[k].started = true ∧ t.carriers[k].zeroLoc = s.nextZero k ∧ t.carriers[k].mode = s.modeAt k ∧ t.carriers[k].pref = s.rd (kCarrier (cellOf k) (bridgeOf k) 3) ∧ t.carriers[k].apexDone = false ∧ t.carriers[k].tcmpDone = false ∧
          t.rd (kCarrier (cellOf k) (bridgeOf k) 0x0E) = wrapInc 32 (s.rd (kCarrier (cellOf k) (bridgeOf k) 0x0E)) ∧ (s.carriers[k].started = true → t.rd (kCarrier (cellOf k) (bridgeOf k) 0x0F) = (s.carriers[k].nextAt - s.carriers[k].lastZero) / 16 ∧ t.rd (kCarrier (cellOf k) (bridgeOf k) 0x10) = (s.carriers[k].nextAt - s.carriers[k].lastZero) % 16) ∧
          (s.rd (kCarrier (cellOf k) (bridgeOf k) 3) = 0 → t.carriers[k].nextAt = t.carriers[k].lastZero + t.carriers[k].v.period) ∧ (s.carriers[k].staged.isSome = true → s.carriers[k].pref < 2 → s.rd (kCarrier (cellOf k) (bridgeOf k) 3) < 2 → some t.carriers[k].v = s.carriers[k].staged) ∧ t.tick = max s.tick (s.nextZero k / 16) ∧
          KeepsOtherAreas [3] s t ∧
          t = { s with objs := t.objs, tick := t.tick, net := t.net, carriers := t.carriers, legs := t.legs, gates := t.gates, rails := t.rails, signals := t.signals, capture := t.capture, clock := { s.clock with lines := t.clock.lines } }) ∧
    (∀ (k : Carrier), s.carriers[k].running = true → s.carriers[k].started = true → s.carriers[k].apexDone = false → (s.carriers[k].zeroAt + s.carriers[k].span / 2).toNat < s.carriers[k].nextAt →
      Completes (.carrierApex k) s fun t =>
          t.carriers[k].apexDone = true ∧ (s.carriers[k].mode ≠ 1 ∨ s.carriers[k].staged = none → t.carriers[k].evIdx = s.carriers[k].evIdx.set 1 (s.carriers[k].evIdx[(1 : Fin 5)] + 1)) ∧
          (s.carriers[k].mode = 1 → s.carriers[k].pref < 2 → s.carriers[k].staged.isSome = true → some t.carriers[k].v = s.carriers[k].staged) ∧ t.tick = max s.tick (s.localOf k (s.carriers[k].zeroAt + s.carriers[k].span / 2).toNat / 16) ∧
          KeepsOtherAreas [3] s t ∧
          t = { s with objs := t.objs, tick := t.tick, net := t.net, carriers := t.carriers, legs := t.legs, gates := t.gates, rails := t.rails, signals := t.signals, capture := t.capture, clock := { s.clock with lines := t.clock.lines } }) ∧
    (∀ (k : Carrier), s.carriers[k].running = true → s.carriers[k].started = true → s.carriers[k].tcmpDone = false → (s.carriers[k].zeroAt + s.tcmpAt k).toNat < s.carriers[k].nextAt →
      Completes (.tcmpEvent k) s fun t =>
          t.carriers[k].tcmpDone = true ∧ t.carriers[k].evIdx = s.carriers[k].evIdx.set 4 (s.carriers[k].evIdx[(4 : Fin 5)] + 1) ∧ t.tick = max s.tick (s.localOf k (s.carriers[k].zeroAt + s.tcmpAt k).toNat / 16) ∧
          (∀ j : Carrier, j ≠ k → t.carriers[j] = s.carriers[j]) ∧
          t = { s with tick := t.tick, net := t.net, carriers := t.carriers, signals := t.signals, capture := t.capture }) ∧
    (∀ (k : Carrier) (apex : Bool), s.carriers[k].running = true → (apex = true → s.carriers[k].started = true ∧ s.carriers[k].apexDone = false) → s.loadsAt k apex = true → s.carriers[k].staged = none → s.carriers[k].pref < 2 →
      Completes (.shadowTransfer k apex) s fun t =>
          (s.absolute k = false → t.carriers[k].staged = some (s.carriers[k].sh.seen t.tick).vals) ∧ (s.absolute k = true → (s.carriers[k].sh.seen t.tick).armed = true → t.carriers[k].staged = some (mixVals (s.carriers[k].sh.seen t.tick).pend s.carriers[k].v (s.carriers[k].sh.seen t.tick).vals)) ∧
          (s.absolute k = true → (s.carriers[k].sh.seen t.tick).armed = false → t.carriers[k].staged = some s.carriers[k].v) ∧
          (∀ b : Bridge, (apex = false ∧ s.carriers[carrierOf (cellOf k) b].running = true ∧ 2 ≤ s.carriers[carrierOf (cellOf k) b].pref ∧ leaderOf (carrierOf (cellOf k) b) s.carriers[carrierOf (cellOf k) b].pref = k ∧ s.absolute (carrierOf (cellOf k) b) = false) → t.carriers[carrierOf (cellOf k) b].stagedPhase = some (s.carriers[carrierOf (cellOf k) b].sh.seen t.tick).vals.phase) ∧
          t.tick = max s.tick (((if apex then s.localOf k (s.carriers[k].zeroAt + s.carriers[k].span / 2) else s.nextZero k) - 256) / 16) ∧
          t = { s with tick := t.tick, net := t.net, carriers := t.carriers }) ∧
    (∀ (c : Cell) (mask : Byte), s.power.supervisor = true → s.dev ≠ 0 →
      Completes (.commit c mask) s fun t =>
          t.lastStatus = 0 ∧ (∀ b : Bridge, t.carriers[carrierOf c b].sh.now.armed = (s.carriers[carrierOf c b].sh.now.armed || (bit mask.toNat b.val && s.absolute (carrierOf c b) && s.carriers[carrierOf c b].running))) ∧
          (∀ k : Carrier, t.carriers[k] = { s.carriers[k] with sh := t.carriers[k].sh } ∧ t.carriers[k].sh.now.vals = s.carriers[k].sh.now.vals ∧ t.carriers[k].sh.now.pend = s.carriers[k].sh.now.pend) ∧
          t = { s with carriers := t.carriers, lastStatus := t.lastStatus, lastData := t.lastData }) ∧
    (∀ (c : Cell) (mask : Byte), s.power.supervisor = true → (s.dev = 2 ∨ s.dev = 6 ∨ s.dev = 7) →
      Completes (.carryClear c mask) s fun t =>
          t.lastStatus = 0 ∧ (∀ n : Fin 6, t.rd (unitKey 0x302207 c + n.val) = if bit mask.toNat n.val then 0 else s.rd (unitKey 0x302207 c + n.val)) ∧
          KeepsObjs [unitKey 0x302207 c, unitKey 0x302208 c, unitKey 0x302209 c, unitKey 0x30220A c, unitKey 0x30220B c, unitKey 0x30220C c] s t ∧
          t = { s with objs := t.objs, lastStatus := t.lastStatus, lastData := t.lastData })

/-- Leg commands, erased pulses, dead time, refresh. At an instant at which its waveform changes to a level, the command of an undriven leg takes it and signals its CMP event. On a driven leg that owes no carry and follows no pulse still in judgement, with lines that are not coarse, before the coming ZERO, a pulse at least as long as the erase limit turns one switch off at once and the other on after the dead time, with the CMP event; a shorter one is erased and counted, and no gate moves. A refresh due begins at its instant by turning H off. The end of an erased pulse adds its signed width to the carry, clipped to CARRY_LIMIT. The dead time's end turns the switch on while its partner is off, no earlier than 20 ns after the partner's turn-off, and where the partner is on is refused, counted and held. The end of a refresh credits its width and counts. Under hypotheses on the state and the operands alone, exec answers a next state with the command's own effect for: legCommandChange, erasedPulseEnd, deadtimeTurnOn, refreshPulseEnd. (spec/05 R124, R136, R140, R142, R143, R144, R145, R147, R150, R151; spec/09 R299, R300.) -/
def Obligations.LegsSwitchWithDeadTime : Prop :=
  ∀ s : State,
    (∀ (l : Leg) (high : Bool) (a : BitVec 64) (x : Nat), s.carriers[legCarrier l].running = true → s.carriers[legCarrier l].started = true → s.carriers[legCarrier l].driving = false → s.changeAt l high a.toNat = some x → s.legs[l].level = !high →
      Completes (.legCommandChange l high a) s fun t =>
          t.legs[l] = { s.legs[l] with level := high } ∧ t.carriers[legCarrier l].evIdx[(if legNum l = 0 then (2 : Fin 5) else 3)] = s.carriers[legCarrier l].evIdx[(if legNum l = 0 then (2 : Fin 5) else 3)] + 1 ∧ t.tick = max s.tick (a.toNat / 16) ∧
          t = { s with tick := t.tick, net := t.net, carriers := t.carriers, legs := t.legs, signals := t.signals, capture := t.capture }) ∧
    (∀ (l : Leg) (high : Bool) (a : BitVec 64) (x : Nat), s.carriers[legCarrier l].running = true → s.carriers[legCarrier l].started = true → s.carriers[legCarrier l].driving = true → s.changeAt l high a.toNat = some x → s.legs[l].refreshing = none → s.legs[l].canRefresh = false → s.legs[l].erased = none → s.legs[l].pulse = none → s.legs[l].level = !high → s.carry l = 0 → s.legQuantum l = 1 → (s.carriers[legCarrier l].placed = true → s.decidedAt l x < s.nextZero (legCarrier l)) → (∀ w : Nat, s.widthAt l high x = some w → s.eraseLimit l ≤ w) →
      Completes (.legCommandChange l high a) s fun t =>
          t.legs[l].level = high ∧ t.legs[l].turnOn = some (high, a.toNat + s.deadTime l) ∧ t.legs[l].pulse = some ⟨high, x, 0, none⟩ ∧ t.gates[(if high then lineL l else lineH l)] = false ∧ (∀ m : Line, m ≠ (if high then lineL l else lineH l) → t.gates[m] = s.gates[m]) ∧ t.clock.lines[(if high then lineL l else lineH l)].edgeAt = some a.toNat ∧ t.clock.lines[(if high then lineL l else lineH l)].offAt = some a.toNat ∧
          t.carriers[legCarrier l].evIdx[(if legNum l = 0 then (2 : Fin 5) else 3)] = s.carriers[legCarrier l].evIdx[(if legNum l = 0 then (2 : Fin 5) else 3)] + 1 ∧ t.tick = max s.tick (a.toNat / 16) ∧
          KeepsObjs [kCarry l] s t ∧
          t = { s with tick := t.tick, net := t.net, carriers := t.carriers, legs := t.legs, gates := t.gates, objs := t.objs, signals := t.signals, capture := t.capture, clock := { s.clock with lines := t.clock.lines } }) ∧
    (∀ (l : Leg) (high : Bool) (a : BitVec 64) (x : Nat) (w : Nat), s.carriers[legCarrier l].running = true → s.carriers[legCarrier l].started = true → s.carriers[legCarrier l].driving = true → s.changeAt l high a.toNat = some x → s.legs[l].refreshing = none → s.legs[l].canRefresh = false → s.legs[l].erased = none → s.legs[l].pulse = none → s.legs[l].level = !high → s.carry l = 0 → s.legQuantum l = 1 → (s.carriers[legCarrier l].placed = true → s.decidedAt l x < s.nextZero (legCarrier l)) → s.widthAt l high x = some w → w < s.eraseLimit l →
      Completes (.legCommandChange l high a) s fun t =>
          t.legs[l] = { s.legs[l] with erased := some ⟨high, x, 0, none⟩, erasedNow := true } ∧ t.rd (unitKey 0x30220D (l.val / 6)) = wrapInc 32 (s.rd (unitKey 0x30220D (l.val / 6))) ∧ t.tick = max s.tick (a.toNat / 16) ∧
          KeepsObjs [unitKey 0x30220D (l.val / 6)] s t ∧
          t = { s with tick := t.tick, net := t.net, legs := t.legs, objs := t.objs }) ∧
    (∀ (l : Leg) (high : Bool) (a : BitVec 64), s.carriers[legCarrier l].running = true → s.carriers[legCarrier l].started = true → s.carriers[legCarrier l].driving = true → high = false → s.legs[l].canRefresh = true → a.toNat = s.localOf (legCarrier l) (s.refreshStart l) → s.legQuantum l = 1 →
      Completes (.legCommandChange l high a) s fun t =>
          t.legs[l].refreshing = some (s.refreshStart l, s.refreshWidth l) ∧ t.legs[l].refreshDue = false ∧ t.legs[l].level = false ∧ t.gates[lineH l] = false ∧ t.legs[l].turnOn = some (false, a.toNat + s.deadTime l) ∧ (∀ m : Line, m ≠ lineH l → t.gates[m] = s.gates[m]) ∧ t.tick = max s.tick (a.toNat / 16) ∧
          t = { s with tick := t.tick, net := t.net, carriers := t.carriers, legs := t.legs, gates := t.gates, signals := t.signals, capture := t.capture, clock := { s.clock with lines := t.clock.lines } }) ∧
    (∀ (l : Leg) (p : PulseSt) (x : Nat), s.legs[l].erased = some p → s.pulseEnd l p.high p.lead = some x → s.rd (unitKey 0x302201 (l.val / 6) + l.val % 6) < 2 ^ 31 →
      Completes (.erasedPulseEnd l) s fun t =>
          t.legs[l] = { s.legs[l] with erased := none } ∧ t.carry l = clampInt (-(s.rd (unitKey 0x302201 (l.val / 6) + l.val % 6) : Int)) (s.rd (unitKey 0x302201 (l.val / 6) + l.val % 6) : Int) (s.carry l + polarity p.high * (((s.carriers[legCarrier l].zeroAt + x).toNat : Int) - p.lead)) ∧ t.tick = max s.tick (s.localOf (legCarrier l) (s.carriers[legCarrier l].zeroAt + x).toNat / 16) ∧
          KeepsObjs [kCarry l, unitKey 0x30220E (l.val / 6), unitKey 0x302210 (l.val / 6)] s t ∧
          t = { s with tick := t.tick, net := t.net, legs := t.legs, objs := t.objs, rails := t.rails }) ∧
    (∀ (l : Leg) (high : Bool) (d : Nat), s.legs[l].turnOn = some (high, d) → s.guardRow (cellOf (legCarrier l)) (bridgeOf (legCarrier l)) = 5 → (s.gates[(if high then lineL l else lineH l)] = false) →
      Completes (.deadtimeTurnOn l) s fun t =>
          t.gates[(if high then lineH l else lineL l)] = true ∧ (∀ m : Line, m ≠ (if high then lineH l else lineL l) → t.gates[m] = s.gates[m]) ∧ t.legs[l] = { s.legs[l] with turnOn := none } ∧ placeOn (s.quantum (if high then lineH l else lineL l)) d ≤ (t.clock.lines[(if high then lineH l else lineL l)].edgeAt.getD 0) ∧ (s.clock.lines[(if high then lineL l else lineH l)].offAt.all fun e => e + 200 ≤ (t.clock.lines[(if high then lineH l else lineL l)].edgeAt.getD 0)) = true ∧
          ((s.clock.lines[(if high then lineL l else lineH l)].offAt.all fun e => e + 350 ≤ placeOn (s.quantum (if high then lineH l else lineL l)) d) = true → (t.clock.lines[(if high then lineH l else lineL l)].edgeAt.getD 0) = placeOn (s.quantum (if high then lineH l else lineL l)) d) ∧ t.tick = max s.tick ((t.clock.lines[(if high then lineH l else lineL l)].edgeAt.getD 0) / 16) ∧
          t = { s with tick := t.tick, net := t.net, free := t.free, legs := t.legs, gates := t.gates, clock := { s.clock with lines := t.clock.lines } }) ∧
    (∀ (l : Leg) (high : Bool) (d : Nat), s.legs[l].turnOn = some (high, d) → s.guardRow (cellOf (legCarrier l)) (bridgeOf (legCarrier l)) = 5 → (s.gates[(if high then lineL l else lineH l)] = true) →
      Completes (.deadtimeTurnOn l) s fun t =>
          t.rd (unitKey 0x700406 (cellOf (legCarrier l))) = wrapInc 32 (s.rd (unitKey 0x700406 (cellOf (legCarrier l)))) ∧ t.bitAt (kHoldCause (cellOf (legCarrier l)) (bridgeOf (legCarrier l))) 11 = true ∧ t.rails.occ.getLsbD (legCarrier l).val = true ∧ t.gates[lineH l] = false ∧
          KeepsOtherAreas [3, 7] s t ∧
          t = { s with tick := t.tick, net := t.net, free := t.free, objs := t.objs, legs := t.legs, gates := t.gates, carriers := t.carriers, guard := t.guard, rails := t.rails, jobs := t.jobs, clock := { s.clock with lines := t.clock.lines } }) ∧
    (∀ (l : Leg) (st : Nat) (wb : Nat), s.legs[l].refreshing = some (st, wb) → s.rd (unitKey 0x302201 (l.val / 6) + l.val % 6) < 2 ^ 31 →
      Completes (.refreshPulseEnd l) s fun t =>
          t.legs[l].refreshing = none ∧ t.rd (unitKey 0x30300D (l.val / 6)) = wrapInc 32 (s.rd (unitKey 0x30300D (l.val / 6))) ∧ t.carry l = clampInt (-(s.rd (unitKey 0x302201 (l.val / 6) + l.val % 6) : Int)) (s.rd (unitKey 0x302201 (l.val / 6) + l.val % 6) : Int) (s.carry l + wb) ∧ t.tick = max s.tick (s.localOf (legCarrier l) (st + wb : Nat) / 16) ∧
          KeepsOtherAreas [3] s t ∧
          t = { s with tick := t.tick, net := t.net, legs := t.legs, gates := t.gates, objs := t.objs, carriers := t.carriers, rails := t.rails, signals := t.signals, capture := t.capture, clock := { s.clock with lines := t.clock.lines } })

/-- Sequence tables, urgent requests, conversions, open-wire tests. The signalled event that TRIGGER names starts an enabled table that does not run, at its tick: its first entry is due START_DELAY later, or as an urgent conversion and the track phase allow; while it runs, the trigger is an OVERRUN and counts. A hold instant on an idle converter holds the urgent request that is scheduled, else the running table's entry on the converters that hold together, LATE when later than scheduled, else the reference of a test. A conversion ends 40 ticks after its hold and is written 8 to 15 ticks later whole, with FRESH, VALID, LATE, URGENT and the next SEQ; a reference starts SETTLE. A host request waits at the channel's converter once; with eight waiting it is dropped and counted. The head of an idle converter's requests holds 22 ticks after it came there; an entry with more than 4 of its 40 ticks to run is aborted for it. An open-wire request names its channels, and a test settled judges its channel. Under hypotheses on the state and the operands alone, exec answers a next state with the command's own effect for: sequenceTrigger, adcHold, adcResultWritten, ondemand, urgentConversionStart, openWireRequest, openWireSettleExpiry. (spec/06 R178, R179, R182, R184, R186, R187, R192, R194, R209, R210, R211, R213.) -/
def Obligations.ConvertersRunTablesAndRequests : Prop :=
  ∀ s : State,
    (∀ (a : Fin 4) (u : Nat), s.dueAt (s.rd (kTable a 1)) (whoTable a) = some u → s.tableOwner a = a → s.adcEnabled a = true → s.dev ≠ 5 → s.rd (kTable a 3) ≠ 0 → s.meas.adc[a].run = none → (∀ x : Fin 4, x ∈ s.held a → s.meas.adc[x].test = none) →
      Completes (.sequenceTrigger a) s fun t =>
          (t.meas.adc[a].run.map fun r => (r.entry, r.runAt, r.prev)) = some (1, s.firstHold (s.held a) (u + s.rd (kTable a 2)), none) ∧ (∀ x : Fin 4, x ∈ s.held a → t.rd (kTable x 4) = 1) ∧ t.tick = u ∧
          KeepsObjs [kTable a 4, kTable (oddOf a) 4] s t ∧
          t = { s with objs := t.objs, meas := t.meas, tick := t.tick, net := t.net, signals := t.signals }) ∧
    (∀ (a : Fin 4) (u : Nat), s.dueAt (s.rd (kTable a 1)) (whoTable a) = some u → s.tableOwner a = a → s.adcEnabled a = true → s.dev ≠ 5 → s.rd (kTable a 3) ≠ 0 → s.meas.adc[a].run.isSome = true →
      Completes (.sequenceTrigger a) s fun t =>
          t.rd (kTable a 0x15) = wrapInc 32 (s.rd (kTable a 0x15)) ∧ t.bitAt (kTable a 4) 1 = true ∧ t.tick = u ∧
          KeepsObjs [kTable a 4, kTable a 0x15] s t ∧
          t = { s with objs := t.objs, tick := t.tick, net := t.net, signals := t.signals }) ∧
    (∀ (a : Fin 4) (q : UrgentReq) (h : Nat), s.meas.adc[a].conv = none → s.meas.adc[a].urgent = some (q, h) →
      Completes (.adcHold a) s fun t =>
          t.meas.adc[a].conv = some ⟨q.ch, t.tick, t.ns, t.net.sec, .urgent q.thermal⟩ ∧ t.meas.adc[a].urgent = none ∧ t.tick = s.holdTick (max s.tick h) ∧ (∀ x : Fin 4, x ≠ a → t.meas.adc[x] = s.meas.adc[x]) ∧
          t = { s with tick := t.tick, net := t.net, meas := t.meas }) ∧
    (∀ (a : Fin 4) (x : Fin 4) (r : SeqSt), s.meas.adc[a].conv = none → s.meas.adc[a].urgent = none → s.meas.adc[s.tableOwner a].run = some r → (∀ y : Fin 4, y ∈ s.held a → s.meas.adc[y].conv = none ∧ s.meas.adc[y].urgent = none) → x ∈ s.held a → s.adcEnabled x = true → s.rd (kChan (s.rd (kTable x (4 + r.entry))) 1) = x.val →
      Completes (.adcHold a) s fun t =>
          t.meas.adc[x].conv = some ⟨s.rd (kTable x (4 + r.entry)), t.tick, t.ns, t.net.sec, .entry (r.plan < t.tick) (r.entry == s.rd (kTable (s.tableOwner a) 3))⟩ ∧ t.tick = s.holdTick (max s.tick (s.entryHold r)) ∧ (r.plan < t.tick → t.bitAt (kTable x 4) 2 = true) ∧
          KeepsObjs [kTable (evenOf a) 4, kTable (oddOf a) 4] s t ∧
          t = { s with tick := t.tick, net := t.net, meas := t.meas, objs := t.objs }) ∧
    (∀ (a : Fin 4) (w : WireSt), s.meas.adc[a].conv = none → s.meas.adc[a].urgent = none → s.meas.adc[s.tableOwner a].run = none → s.meas.adc[a].test = some w → w.settleAt = none →
      Completes (.adcHold a) s fun t =>
          t.meas.adc[a].conv = some ⟨w.ch, t.tick, t.ns, t.net.sec, .reference⟩ ∧ t.tick = s.holdTick (max s.tick (if s.meas.adc[a].ended = 0 then 0 else s.meas.adc[a].ended + 22)) ∧
          t = { s with tick := t.tick, net := t.net, meas := t.meas }) ∧
    (∀ (a : Fin 4) (code : BitVec 16) (c : ConvSt), s.meas.adc[a].conv = some c → c.kind ≠ .reference →
      Completes (.adcResultWritten a code) s fun t =>
          t.meas.adc[a].conv = none ∧ field (t.rd (kSar c.ch)) 0 32 = s.valueOf c.ch code.toNat % 2 ^ 32 ∧ field (t.rd (kSar c.ch)) 32 32 = rawOf (s.rd (kChan c.ch 2)) code.toNat % 2 ^ 32 ∧ field (t.rd (kSar c.ch)) 64 32 = c.ns % 2 ^ 32 ∧
          field (t.rd (kSar c.ch)) 96 8 = nextSeq (field (s.rd (kSar c.ch)) 96 8) % 256 ∧ t.bitAt (kSar c.ch) 104 = true ∧ t.bitAt (kSar c.ch) 105 = true ∧
          t.bitAt (kSar c.ch) 106 = (match c.kind with | .entry late _ => late | _ => false) ∧ t.bitAt (kSar c.ch) 107 = (match c.kind with | .urgent _ => true | _ => false) ∧ max s.tick (c.hold + 48) ≤ t.tick ∧ t.tick ≤ max s.tick (c.hold + 55) ∧
          KeepsObjs [kSar c.ch, kTable (evenOf a) 4, kTable (oddOf a) 4] s t ∧
          t = { s with tick := t.tick, net := t.net, free := t.free, meas := t.meas, objs := t.objs, thermal := t.thermal, signals := t.signals, capture := t.capture }) ∧
    (∀ (a : Fin 4) (code : BitVec 16) (c : ConvSt) (w : WireSt), s.meas.adc[a].conv = some c → c.kind = .reference → s.meas.adc[a].test = some w →
      Completes (.adcResultWritten a code) s fun t =>
          t.meas.adc[a].conv = none ∧ t.meas.adc[a].test = some { w with n0 := code.toNat, settleAt := some (c.hold + 40 + s.rd 0x450004) } ∧ max s.tick (c.hold + 48) ≤ t.tick ∧ t.tick ≤ max s.tick (c.hold + 55) ∧
          t = { s with tick := t.tick, net := t.net, free := t.free, meas := t.meas }) ∧
    (∀ (ch : Byte) (a : Fin 4), s.power.supervisor = true → s.dev ≠ 0 → ch.toNat < 26 → s.rd (kChan ch.toNat 1) = a.val → s.adcEnabled a = true → s.meas.adc[a].queue.length < 8 → ((s.meas.adc[a].queue.all fun x => x.ch != ch.toNat) = true) →
      Completes (.ondemand ch) s fun t =>
          t.lastStatus = 0 ∧ (⟨2, ch.toNat, false, s.tick⟩ : UrgentReq) ∈ t.meas.adc[a].queue ∧ (s.meas.adc[a].queue.all fun q => t.meas.adc[a].queue.contains q) = true ∧ t.meas.adc[a].queue.length = s.meas.adc[a].queue.length + 1 ∧
          t = { s with meas := t.meas, lastStatus := t.lastStatus, lastData := t.lastData }) ∧
    (∀ (ch : Byte) (a : Fin 4) (q : UrgentReq), s.power.supervisor = true → s.dev ≠ 0 → ch.toNat < 26 → s.rd (kChan ch.toNat 1) = a.val → s.adcEnabled a = true → q ∈ s.meas.adc[a].queue → q.ch = ch.toNat → ((s.meas.adc[a].queue.all fun x => x.ch != ch.toNat || decide (x.rank ≤ 2)) = true) →
      Completes (.ondemand ch) s fun t =>
          t.lastStatus = 0 ∧ t.meas.adc[a].queue.length = s.meas.adc[a].queue.length ∧ t.objs = s.objs ∧
          t = { s with meas := t.meas, lastStatus := t.lastStatus, lastData := t.lastData }) ∧
    (∀ (ch : Byte) (a : Fin 4), s.power.supervisor = true → s.dev ≠ 0 → ch.toNat < 26 → s.rd (kChan ch.toNat 1) = a.val → s.adcEnabled a = true → 8 ≤ s.meas.adc[a].queue.length → ((s.meas.adc[a].queue.all fun x => x.ch != ch.toNat) = true) →
      Completes (.ondemand ch) s fun t =>
          t.lastStatus = 0 ∧ t.rd 0x400010 = wrapInc 32 (s.rd 0x400010) ∧
          KeepsObjs [0x400010] s t ∧
          t = { s with objs := t.objs, lastStatus := t.lastStatus, lastData := t.lastData }) ∧
    (∀ (a : Fin 4) (q : UrgentReq) (qs : List UrgentReq), s.meas.adc[a].urgent = none → s.meas.adc[a].conv = none → s.meas.adc[a].queue = q :: qs →
      Completes (.urgentConversionStart a) s fun t =>
          t.meas.adc[a].urgent = some (q, s.holdTick (max s.tick (max q.since s.meas.adc[a].ended + 22))) ∧ t.meas.adc[a].queue = qs ∧
          t = { s with meas := t.meas }) ∧
    (∀ (a : Fin 4) (q : UrgentReq) (qs : List UrgentReq) (c : ConvSt) (late : Bool) (last : Bool), s.meas.adc[a].urgent = none → s.meas.adc[a].conv = some c → c.kind = .entry late last → s.meas.adc[a].queue = q :: qs → a ∈ s.held a →
      Completes (.urgentConversionStart a) s fun t =>
          (max q.since s.meas.adc[a].ended < c.hold + 36 → t.meas.adc[a].conv = none ∧ t.meas.adc[a].urgent = some (q, s.holdTick (max s.tick (max q.since s.meas.adc[a].ended + 22)))) ∧
          (c.hold + 36 ≤ max q.since s.meas.adc[a].ended → t.meas.adc[a].conv = some c ∧ t.meas.adc[a].urgent = some (q, s.holdTick (max s.tick (max (max q.since s.meas.adc[a].ended) (c.hold + 40) + 22)))) ∧ t.meas.adc[a].queue = qs ∧
          t = { s with meas := t.meas }) ∧
    (∀ (mask : BitVec 32) (ch : Fin 17), s.power.supervisor = true → (s.dev = 2 ∨ s.dev = 6) → s.rd 0x450008 = 0 → bit mask.toNat ch.val = true → s.rd (kChan ch.val 1) < 4 →
      Completes (.openWireRequest mask) s fun t =>
          t.lastStatus = 0 ∧ t.rd 0x450008 = 1 ∧ t.meas.named = mask.toNat % 2 ^ 17 ∧ t.meas.opened = 0 ∧ t.bitAt 0x450006 ch = false ∧ t.bitAt 0x450007 ch = false ∧
          (∀ a : Fin 4, t.meas.adc[a] = { s.meas.adc[a] with test := t.meas.adc[a].test, todo := t.meas.adc[a].todo }) ∧
          KeepsObjs [0x450006, 0x450007, 0x450008] s t ∧
          t = { s with meas := t.meas, objs := t.objs, lastStatus := t.lastStatus, lastData := t.lastData }) ∧
    (∀ (a : Fin 4) (code : BitVec 16) (w : WireSt) (d : Nat), s.meas.adc[a].test = some w → w.settleAt = some d → ¬ (w.up = true ∧ s.rd 0x450003 = 2) →
      Completes (.openWireSettleExpiry a code) s fun t =>
          t.meas.opened = (if w.found = true ∨ (if w.up then (code.toNat : Int) - w.n0 else w.n0 - code.toNat) ≥ s.rd 0x450005 then setBit s.meas.opened w.ch true else s.meas.opened) ∧ t.tick = s.holdTick (max s.tick d) + 40 ∧
          KeepsOtherAreas [4] s t ∧
          t = { s with tick := t.tick, net := t.net, meas := t.meas, objs := t.objs, rails := t.rails }) ∧
    (∀ (a : Fin 4) (code : BitVec 16) (w : WireSt) (d : Nat), s.meas.adc[a].test = some w → w.settleAt = some d → w.up = true → s.rd 0x450003 = 2 →
      Completes (.openWireSettleExpiry a code) s fun t =>
          t.meas.adc[a].test = some { w with up := false, found := w.found || decide ((code.toNat : Int) - w.n0 ≥ s.rd 0x450005), settleAt := some (t.tick + s.rd 0x450004) } ∧ t.tick = s.holdTick (max s.tick d) + 40 ∧
          t = { s with tick := t.tick, net := t.net, meas := t.meas })

/-- Window comparators, isolated bitstreams, fast comparators, stream faults. An input above the level of WIN_HI, or below that of WIN_LO, trips an enabled comparator of CH6 or of a fitted cell: CAUSE, its source, the bridges its input acts on held; of a cell not fitted it trips without effect. An input back inside by WIN_HYST releases it and, with the other one released, ends the source. The last 3M − 2 bits of a running stream without fault give a result where a window ends: the sinc filter's value, RAW, FRESH, VALID, SETTLED and the next SEQ, 16 to 31 ticks after the last bit. A signalled alignment event is taken by an aligned stream, or sets ALIGN_SKIP within 8 bit periods of the one before. The fast comparator trips and releases as the last 2F − 1 bits stand to FAST_HI and FAST_LO, with its source. 64 equal bits, or 4 code violations in 64, fault a stream: its status, its result's flag and its source; 256 bits in a row without clear it, and its filter fills afresh. Under hypotheses on the state and the operands alone, exec answers a next state with the command's own effect for: windowTrip, windowRelease, dsdMainResult, dsdAlignEvent, fastComparatorTrip, fastComparatorRelease, streamFault, streamFaultClear. (spec/02 R56; spec/06 R190, R191, R198, R199, R200, R201, R202, R203, R204, R213.) -/
def Obligations.ComparatorsAndBitstreams : Prop :=
  ∀ s : State,
    (∀ (ch : Fin 7) (high : Bool) (level : BitVec 32), s.rd (kChan ch 5) = 1 → s.winTrip[winIndex ch high] = false → s.winTrips ch high level.toNat = true → (ch.val = 6 ∨ s.fitted ch.val = true) →
      Completes (.windowTrip ch high level) s fun t =>
          t.winTrip[winIndex ch high] = true ∧ t.bitAt (kChan ch 0x0A) (if high then 0 else 1) = true ∧ t.rails.cond.getLsbD (36 + ch.val) = true ∧ t.tick = s.tick ∧
          (∀ (c : Cell) (b : Bridge), c.val = ch.val → bit (s.actsOn c 3) b.val = true → t.bitAt (kHoldCause c b) 3 = true) ∧ (ch.val = 6 → ∀ (c : Cell) (b : Bridge), s.fitted c = true → bit (s.actsOn c 4) b.val = true → t.bitAt (kHoldCause c b) 4 = true) ∧
          KeepsOtherAreas [3, 4, 7] s t ∧
          t = { s with objs := t.objs, winTrip := t.winTrip, rails := t.rails, meas := t.meas, guard := t.guard, gates := t.gates, carriers := t.carriers, legs := t.legs, free := t.free, clock := { s.clock with lines := t.clock.lines } }) ∧
    (∀ (ch : Fin 7) (high : Bool) (level : BitVec 32), s.rd (kChan ch 5) = 1 → s.winTrip[winIndex ch high] = false → s.winTrips ch high level.toNat = true → ch.val < 6 → s.fitted ch.val = false →
      Completes (.windowTrip ch high level) s fun t =>
          t.winTrip = s.winTrip.set (winIndex ch high) true ∧
          t = { s with winTrip := t.winTrip }) ∧
    (∀ (ch : Fin 7) (high : Bool) (level : BitVec 32), (if high then level.toNat ≤ dacLevel (s.rd (kChan ch 6)) else dacLevel (s.rd (kChan ch 7)) ≤ level.toNat) →
      Completes (.windowTrip ch high level) s fun t =>
          t = s) ∧
    (∀ (ch : Fin 7) (high : Bool) (level : BitVec 32), s.winReleases ch high level.toNat = true → s.winTrip[winIndex ch high] = true → (ch.val = 6 ∨ s.fitted ch.val = true) →
      Completes (.windowRelease ch high level) s fun t =>
          t.winTrip[winIndex ch high] = false ∧ (s.winTrip[winIndex ch (!high)] = false → t.rails.cond.getLsbD (36 + ch.val) = false) ∧ (s.winTrip[winIndex ch (!high)] = true → s.rd (kChan ch 5) = 1 → t.rails.cond.getLsbD (36 + ch.val) = true) ∧
          (∀ j : Fin 14, j ≠ winIndex ch high → t.winTrip[j] = s.winTrip[j]) ∧
          t = { s with winTrip := t.winTrip, rails := t.rails, guard := t.guard }) ∧
    (∀ (ch : Fin 7) (high : Bool) (level : BitVec 32), (if high then dacLevel (s.rd (kChan ch 6) - s.rd (kChan ch 8)) ≤ level.toNat else level.toNat ≤ dacLevel (s.rd (kChan ch 7) + s.rd (kChan ch 8))) →
      Completes (.windowRelease ch high level) s fun t =>
          t = s) ∧
    (∀ (n : Fin 18) (bits : List Bool) (start : BitVec 64) (stop : BitVec 64) (m : Nat) (last : Nat) (centre : Nat), m = s.rd (kStream n 2) → s.streamRuns n = true → s.bitAt (kStream n 0x0C) 0 = false → bits.length + 2 = 3 * m → s.windowOf n start.toNat stop.toNat = some (last, centre) →
      Completes (.dsdMainResult n bits start stop) s fun t =>
          field (t.rd (kMain n)) 0 32 = fmt32.add (fmt32.mul (s.rd (kStream n 7)) (fmt32.div (fmt32.ofInt (filterSum (sinc3 m) bits)) (fmt32.ofInt (m ^ 3)))) (s.rd (kStream n 8)) % 2 ^ 32 ∧
          field (t.rd (kMain n)) 32 32 = ofSigned 32 (clampInt (-(2 ^ 31)) (2 ^ 31 - 1) (rneDiv (filterSum (sinc3 m) bits * 2 ^ 31) (m ^ 3))) % 2 ^ 32 ∧ field (t.rd (kMain n)) 96 8 = nextSeq (field (s.rd (kMain n)) 96 8) % 256 ∧ t.bitAt (kMain n) 104 = true ∧ t.bitAt (kMain n) 105 = true ∧ t.bitAt (kStream n 0x0C) 3 = true ∧ t.bitAt (kStream n 0x0C) 4 = false ∧
          max s.tick (last / 16 + 16) ≤ t.tick ∧ t.tick ≤ max s.tick (last / 16 + 31) ∧
          KeepsObjs [kMain n, kStream n 0x0C] s t ∧
          t = { s with tick := t.tick, net := t.net, free := t.free, meas := t.meas, objs := t.objs, charge := t.charge, signals := t.signals, capture := t.capture }) ∧
    (∀ (n : Fin 18) (u : Nat), (s.dueAt (s.rd (kStream n 5)) (whoAlign n)).or (s.dueAt (s.rd (kStream n 6)) (whoAlign n)) = some u → s.streamRuns n = true → s.rd (kStream n 4) ≠ 0 → s.bitAt (kStream n 0x0C) 0 = false →
      Completes (.dsdAlignEvent n) s fun t =>
          t.tick = u ∧ (if (s.meas.stream[n].aligned.any fun x => (u - x) * 2 < s.dsckDiv n) = true then t.bitAt (kStream n 0x0C) 4 = true ∧ t.meas = s.meas
          else t.meas.stream[n].aligned = some u ∧ t.meas.stream[n].due = s.meas.stream[n].due ++ [if s.rd (kStream n 4) = 2 then u + ceilDiv (s.halfWindow n) 32 else u] ∧ t.objs = s.objs) ∧
          KeepsObjs [kStream n 0x0C] s t ∧
          t = { s with meas := t.meas, objs := t.objs, tick := t.tick, net := t.net, signals := t.signals }) ∧
    (∀ (n : Fin 18) (bits : List Bool), s.fastRuns n bits = true → ((s.fastLevels n bits).1 = true ∨ (s.fastLevels n bits).2 = true) →
      Completes (.fastComparatorTrip n bits) s fun t =>
          t.bitAt (kStream n 0x0C) 1 = (s.fastLevels n bits).1 ∧ t.bitAt (kStream n 0x0C) 2 = (s.fastLevels n bits).2 ∧ t.rails.cond.getLsbD (18 + n.val) = true ∧ t.tick = s.tick ∧
          (∀ (c : Cell) (b : Bridge), c.val = n.val / 3 → bit (s.actsOn c (5 + n.val % 3)) b.val = true → t.bitAt (kHoldCause c b) (5 + n.val % 3) = true) ∧
          KeepsOtherAreas [3, 4, 7] s t ∧
          t = { s with objs := t.objs, rails := t.rails, guard := t.guard, gates := t.gates, carriers := t.carriers, legs := t.legs, free := t.free, clock := { s.clock with lines := t.clock.lines } }) ∧
    (∀ (n : Fin 18) (bits : List Bool), s.fastRuns n bits = true → s.fastActive n = true → (s.fastLevels n bits).1 = false → (s.fastLevels n bits).2 = false →
      Completes (.fastComparatorRelease n bits) s fun t =>
          t.bitAt (kStream n 0x0C) 1 = false ∧ t.bitAt (kStream n 0x0C) 2 = false ∧ t.rails.cond.getLsbD (18 + n.val) = s.bitAt (kStream n 0x0C) 0 ∧
          KeepsObjs [kStream n 0x0C] s t ∧
          t = { s with objs := t.objs, rails := t.rails, guard := t.guard }) ∧
    (∀ (n : Fin 18) (bits : List (Option Bool)), s.streamRuns n = true → s.bitAt (kStream n 0x0C) 0 = false → faultyBits (s.manchester (n.val / 3)) bits = true →
      Completes (.streamFault n bits) s fun t =>
          t.bitAt (kStream n 0x0C) 0 = true ∧ t.bitAt (kMain n) 109 = (s.bitAt (kMain n) 105 || s.bitAt (kMain n) 109) ∧ t.rails.cond.getLsbD (18 + n.val) = true ∧ t.meas.stream[n].due = [] ∧
          KeepsObjs [kStream n 0x0C, kMain n] s t ∧
          t = { s with objs := t.objs, rails := t.rails, meas := t.meas }) ∧
    (∀ (n : Fin 18) (bits : List (Option Bool)), s.streamRuns n = true → s.bitAt (kStream n 0x0C) 0 = true → bits.length = 319 → (((List.range 256).all fun i => !faultyBits (s.manchester (n.val / 3)) ((bits.drop i).take 64)) = true) →
      Completes (.streamFaultClear n bits) s fun t =>
          t.bitAt (kStream n 0x0C) 0 = false ∧ t.bitAt (kMain n) 109 = (!s.bitAt (kMain n) 105 && s.bitAt (kMain n) 109) ∧ t.bitAt (kStream n 0x0C) 3 = false ∧ t.meas.stream[n] = { s.meas.stream[n] with due := [], restart := s.tick, first := s.nextBit n } ∧ t.rails.cond.getLsbD (18 + n.val) = s.fastActive n ∧
          KeepsObjs [kStream n 0x0C, kMain n] s t ∧
          t = { s with objs := t.objs, rails := t.rails, meas := t.meas })

/-- Driver telemetry and faults; reads of results. A period that began after the input entered TELEMETRY mode, of 29,762 to 657,895 ticks with 8 % to 92 % high, enters the mean of the latest four temperatures and makes telemetry valid. A low of 8 ns in STATIC mode, or of 0.9 of the last period and 2 µs in TELEMETRY mode, sets the fault bit of a fitted cell's driver, asserts its source and holds the bridges its input acts on; a STATIC low up to 3 ns, a shorter telemetry low or one of a cell not fitted does not; a high ends the fault. Telemetry is invalid without a valid period for 4 ms and after 657,895 ticks high. A read of a result answers its bytes and clears FRESH. Under hypotheses on the state and the operands alone, exec answers a next state with the command's own effect for: dfPeriodMeasured, dfFaultRecognised, dfFaultEnd, dfTelemetryInvalid, resultRead. (spec/02 R56; spec/06 R205, R206, R207, R208, R212.) -/
def Obligations.DriverInputsAndResultReads : Prop :=
  ∀ s : State,
    (∀ (d : Fin 18) (period : BitVec 32) (high : BitVec 32), s.telemetry d = true → s.meas.driver[d].since + period.toNat < s.tick → 29762 ≤ period.toNat → period.toNat ≤ 657895 → 8 * period.toNat ≤ 100 * high.toNat → 100 * high.toNat ≤ 92 * period.toNat →
      Completes (.dfPeriodMeasured d period high) s fun t =>
          t.meas.driver[d].temps = (s.driverTemp d period.toNat high.toNat :: s.meas.driver[d].temps).take 4 ∧ t.meas.driver[d].period = period.toNat ∧ t.meas.driver[d].everValid = true ∧ t.meas.driver[d].validAt = s.tick ∧
          t.rd (0x460037 + d.val) = meanOf t.meas.driver[d].temps.reverse ∧ t.bitAt 0x460049 d = false ∧ (∀ e : Fin 18, e ≠ d → t.meas.driver[e] = s.meas.driver[e]) ∧
          KeepsObjs [0x460037 + d.val, 0x460049] s t ∧
          t = { s with objs := t.objs, meas := t.meas, thermal := t.thermal }) ∧
    (∀ (d : Fin 18) (low : BitVec 32) (c : Cell) (i : Bridge) (b : Bridge), d.val = 3 * c.val + i.val → s.fitted c = true → s.inReset = false → bit (s.actsOn c i) b.val = true → s.rd (0x460001 + d.val) ≠ 1 → 80 ≤ low.toNat →
      Completes (.dfFaultRecognised d low) s fun t =>
          t.bitAt 0x46004A d = true ∧ t.rails.cond.getLsbD d.val = true ∧ t.bitAt (kHoldCause c b) i = true ∧ t.pins.dfLow[d] = true ∧ t.tick = s.tick ∧
          KeepsOtherAreas [3, 4, 7] s t ∧
          t = { s with objs := t.objs, rails := t.rails, guard := t.guard, gates := t.gates, carriers := t.carriers, legs := t.legs, pins := t.pins, free := t.free, clock := { s.clock with lines := t.clock.lines } }) ∧
    (∀ (d : Fin 18) (low : BitVec 32) (c : Cell) (i : Bridge) (b : Bridge), d.val = 3 * c.val + i.val → s.fitted c = true → s.inReset = false → bit (s.actsOn c i) b.val = true → s.rd (0x460001 + d.val) = 1 → 16 * (9 * s.meas.driver[d].period + 12500) ≤ 10 * min low.toNat ((s.tick - s.meas.driver[d].since) * 16) →
      Completes (.dfFaultRecognised d low) s fun t =>
          t.bitAt 0x46004A d = true ∧ t.rails.cond.getLsbD d.val = true ∧ t.bitAt (kHoldCause c b) i = true ∧ t.pins.dfLow[d] = true ∧ t.tick = s.tick ∧
          KeepsOtherAreas [3, 4, 7] s t ∧
          t = { s with objs := t.objs, rails := t.rails, guard := t.guard, gates := t.gates, carriers := t.carriers, legs := t.legs, pins := t.pins, free := t.free, clock := { s.clock with lines := t.clock.lines } }) ∧
    (∀ (d : Fin 18) (low : BitVec 32), (s.fitted (d.val / 3) = false ∨ s.inReset = true ∨ (s.rd (0x460001 + d.val) ≠ 1 ∧ low.toNat ≤ 30) ∨ (s.rd (0x460001 + d.val) = 1 ∧ 10 * low.toNat < 16 * (9 * s.meas.driver[d].period + 12500))) →
      Completes (.dfFaultRecognised d low) s fun t =>
          t.pins = { s.pins with dfLow := s.pins.dfLow.set d true } ∧
          t = { s with pins := t.pins }) ∧
    (∀ (d : Fin 18) (c : Cell) (i : Bridge), d.val = 3 * c.val + i.val → s.bitAt 0x46004A d = true →
      Completes (.dfFaultEnd d) s fun t =>
          t.bitAt 0x46004A d = false ∧ t.rails.cond.getLsbD d.val = false ∧ t.guard[c].quiet[i.val] = s.tick ∧ t.pins.dfLow[d] = false ∧
          KeepsObjs [0x46004A] s t ∧
          t = { s with objs := t.objs, rails := t.rails, guard := t.guard, pins := t.pins }) ∧
    (∀ (d : Fin 18), s.bitAt 0x46004A d = false →
      Completes (.dfFaultEnd d) s fun t =>
          t.pins = { s.pins with dfLow := s.pins.dfLow.set d false } ∧
          t = { s with pins := t.pins }) ∧
    (∀ (d : Fin 18) (high : BitVec 32), s.telemetry d = true → ((657895 ≤ high.toNat ∧ s.meas.driver[d].since + 657895 ≤ s.tick) ∨ s.meas.driver[d].validAt + msTicks 4 ≤ s.tick) →
      Completes (.dfTelemetryInvalid d high) s fun t =>
          t.bitAt 0x460049 d = true ∧
          KeepsObjs [0x460049] s t ∧
          t = { s with objs := t.objs }) ∧
    (∀ (stream : Bool) (n : Byte) (valueOnly : Bool) (k : Nat), s.power.supervisor = true → s.dev ≠ 0 → (n.toNat < (if stream then 18 else 26)) → (k = if stream then kMain n.toNat else kSar n.toNat) →
      Completes (.resultRead stream n valueOnly) s fun t =>
          t.lastStatus = 0 ∧ t.lastData = (if valueOnly then natLe 4 (s.rd k) else natLe 16 (s.rd k)) ∧ t.rd k = setBit (s.rd k) 104 false ∧
          KeepsObjs [k] s t ∧
          t = { s with objs := t.objs, lastStatus := t.lastStatus, lastData := t.lastData })

/-- Loop engines: trigger, release, deadline, validation, clears. The signalled event that TRIGGER names starts a run of its task at the event's tick, of a self-timed kind at once, without committing an output, with a deadline no later than BUDGET after it; it computes at once unless a higher task runs, once the block in progress of a lower one has ended, and the lower ones are suspended; one while the task runs, or within 2,500 ticks of its last trigger, is an OVERRUN miss and starts nothing. A run that has computed its blocks is released by its deadline: it commits every output, counts, clears the consecutive misses and signals its commit. The tick after the deadline ends an unreleased run and counts a LATE miss; a run that 1.67 times its typical time leaves no later than its deadline has been released by then. VALIDATE written as 1 puts ERROR and VALID; a clear sets the counts and durations of the tasks of its mask to 0. Under hypotheses on the state and the operands alone, exec answers a next state with the command's own effect for: loopTaskTrigger, loopRunRelease, loopDeadlineMiss, validate, loopStatusClear. (spec/07 R224, R225, R226, R227, R230, R246, R247, R248, R249, R250, R254, R259.) -/
def Obligations.EnginesRunMissAndCommit : Prop :=
  ∀ s : State,
    (∀ (e : Engine) (k : Task) (g : Nat), s.dueAt (routed e (s.rd (unitKey 0x500301 e + k))) (whoTask e k) = some g → s.accepts e = true → s.engines[e].tasks[k].run = none → within s.engines[e].tasks[k].lastTrig g 2500 = false →
      Completes (.loopTaskTrigger e k) s fun t =>
          (t.engines[e].tasks[k].run.map fun r => (r.trig, r.begun)) = some (g, decide (∀ u : Task, u < k → s.engines[e].tasks[u].run = none)) ∧ (t.engines[e].tasks[k].run.all fun r => decide (r.deadline ≤ g + s.rd (unitKey 0x500101 e + k) * 5 / 8)) = true ∧
          t.engines[e].tasks[k].lastTrig = some g ∧ (∀ u : Task, k < u → (t.engines[e].tasks[u].run.all fun r => r.since.isNone) = true) ∧ (∀ b : Fin 32, t.signal e b = s.signal e b) ∧ (if selfTimed (routed e (s.rd (unitKey 0x500301 e + k))) = true then s.tick else g) ≤ t.tick ∧ ((∀ u : Task, k < u → (s.engines[e].tasks[u].run.all fun r => r.since.isNone) = true) → t.tick = (if selfTimed (routed e (s.rd (unitKey 0x500301 e + k))) = true then s.tick else g)) ∧
          KeepsOtherAreas [5, 6] s t ∧
          t = { s with tick := t.tick, net := t.net, free := t.free, objs := t.objs, rails := t.rails, engines := t.engines, signals := t.signals }) ∧
    (∀ (e : Engine) (k : Task) (g : Nat), s.dueAt (routed e (s.rd (unitKey 0x500301 e + k))) (whoTask e k) = some g → s.accepts e = true → (s.engines[e].tasks[k].run.isSome = true ∨ within s.engines[e].tasks[k].lastTrig g 2500 = true) →
      Completes (.loopTaskTrigger e k) s fun t =>
          t.engines[e].tasks[k].run = s.engines[e].tasks[k].run ∧ t.rd (kLoop e (9 + k)) = wrapInc 32 (s.rd (kLoop e (9 + k))) ∧ t.rd (kLoop e (0x0C + k)) = satInc 16 (s.rd (kLoop e (0x0C + k))) ∧ t.bitAt (kLoop e 1) 1 = true ∧ t.tick = (if selfTimed (routed e (s.rd (unitKey 0x500301 e + k))) = true then s.tick else g) ∧
          KeepsOtherAreas [5, 6] s t ∧
          t = { s with tick := t.tick, net := t.net, free := t.free, objs := t.objs, rails := t.rails, engines := t.engines, signals := t.signals }) ∧
    (∀ (e : Engine) (k : Task) (r : RunSt), s.engines[e].tasks[k].run = some r → s.tick ≤ r.deadline → r.mayEnd s.tick = true → RunForm r →
      Completes (.loopRunRelease e k) s fun t =>
          t.engines[e].tasks[k].run = none ∧ t.engines[e].tasks[k].missRaised = false ∧ (∀ q ∈ r.res, t.signal e q.blk = q.out) ∧ t.rd (kLoop e (3 + k)) = wrapInc 32 (s.rd (kLoop e (3 + k))) ∧ t.rd (kLoop e (0x0C + k)) = 0 ∧
          t.rd (kLoop e (0x0F + k)) = (s.tick - r.trig) * 8 / 5 ∧ (⟨routed e (0x500 + k), s.tick, []⟩ : Signal) ∈ t.signals ∧
          t = { s with objs := t.objs, rails := t.rails, engines := t.engines, carriers := t.carriers, modeDone := t.modeDone, signals := t.signals, capture := t.capture }) ∧
    (∀ (e : Engine) (k : Task) (r : RunSt), s.engines[e].tasks[k].run = some r → r.sure = false →
      Completes (.loopDeadlineMiss e k) s fun t =>
          t.engines[e].tasks[k].run = none ∧ t.tick = max s.tick (r.deadline + 1) ∧ t.rd (kLoop e (6 + k)) = wrapInc 32 (s.rd (kLoop e (6 + k))) ∧
          t.rd (kLoop e (0x0C + k)) = satInc 16 (s.rd (kLoop e (0x0C + k))) ∧ t.bitAt (kLoop e 1) 0 = true ∧ (∀ b : Fin 32, t.signal e b = s.signal e b) ∧
          KeepsOtherAreas [5, 6] s t ∧
          t = { s with objs := t.objs, rails := t.rails, engines := t.engines, tick := t.tick, net := t.net, free := t.free, signals := t.signals }) ∧
    (∀ (e : Engine) (k : Task) (r : RunSt) (d : Nat), s.engines[e].tasks[k].run = some r → r.lastTick = some d → d ≤ r.deadline → RunForm r →
      Completes (.loopDeadlineMiss e k) s fun t =>
          t.engines[e].tasks[k].run = none ∧ t.tick = max s.tick d ∧ (∀ q ∈ r.res, t.signal e q.blk = q.out) ∧ t.rd (kLoop e (3 + k)) = wrapInc 32 (s.rd (kLoop e (3 + k))) ∧ t.rd (kLoop e (0x0C + k)) = 0 ∧ t.bitAt (kLoop e 1) 0 = s.bitAt (kLoop e 1) 0 ∧
          t = { s with objs := t.objs, rails := t.rails, engines := t.engines, carriers := t.carriers, modeDone := t.modeDone, signals := t.signals, capture := t.capture, tick := t.tick, net := t.net, free := t.free }) ∧
    (∀ (e : Engine) (v : Byte), s.power.supervisor = true → (s.dev = 2 ∨ s.dev = 6) → v = 1 →
      Completes (.validate e v) s fun t =>
          t.lastStatus = 0 ∧ t.rd (unitKey 0x500023 e) = s.programError e ∧ t.rd (unitKey 0x500022 e) = (if s.programError e = 0 then 1 else 0) ∧
          KeepsObjs [unitKey 0x500022 e, unitKey 0x500023 e] s t ∧
          t = { s with objs := t.objs, lastStatus := t.lastStatus, lastData := t.lastData }) ∧
    (∀ (e : Engine) (mask : Byte), s.power.supervisor = true → s.dev ≠ 0 →
      Completes (.loopStatusClear e mask) s fun t =>
          t.lastStatus = 0 ∧ (∀ (k : Task) (j : Fin 7), t.rd (kLoop e (3 * j.val + 3 + k)) = if bit mask.toNat k then 0 else s.rd (kLoop e (3 * j.val + 3 + k))) ∧
          KeepsOtherAreas [5] s t ∧
          t = { s with objs := t.objs, lastStatus := t.lastStatus, lastData := t.lastData })

/-- Profile channels and cell modes. The signalled event that STEP_TRIGGER names begins a step of the group: it counts and keeps every output until the step ends, where an enabled channel that steps on its own TARGET shows the motion from its position, velocity and acceleration, and a disabled one none; within 2,500 ticks of the last one it is an overrun, counted. RESTART marks a seed; LIMITS_SET takes its four limits together; MODE_REQ takes its value: at once where no block carries it, else the block's selection at once and the mode with the next commit. Under hypotheses on the state and the operands alone, exec answers a next state with the command's own effect for: profileStep, profileRestart, limitsSet, modeReq. (spec/08 R266, R267, R268, R270, R272, R274, R279, R282, R283.) -/
def Obligations.ProfilesStepAndModesChange : Prop :=
  ∀ s : State,
    (∀ (e : Engine) (g : Nat), s.dueAt (routed e (s.rd (unitKey 0x600401 e))) (whoSteps e) = some g → s.accepts e = true → s.engines[e].step = none → within s.engines[e].lastStep g 2500 = false →
      Completes (.profileStep e) s fun t =>
          t.engines[e].stepping = true ∧ t.engines[e].lastStep = some g ∧ t.tick = g ∧ t.rd (unitKey 0x600403 e) = wrapInc 32 (s.rd (unitKey 0x600403 e)) ∧
          (∀ n : Fin 4, t.rd (kProf e n 0x0C) = s.rd (kProf e n 0x0C) ∧ t.rd (kProf e n 0x0D) = s.rd (kProf e n 0x0D) ∧ t.rd (kProf e n 0x0E) = s.rd (kProf e n 0x0E)) ∧
          (t.engines[e].step.map (·.trig)) = some g ∧ (∀ n : Fin 4, s.rd (kProf e n 1) ≠ 1 → (t.engines[e].step.all fun x => x.outs.all fun o => o.1 != n) = true) ∧
          (∀ n : Fin 4, s.rd (kProf e n 1) = 1 → s.engines[e].stepping = true → s.engines[e].seed[n] = .no → s.rd (kProf e n 2) < 4096 → fe.finite (s.rd (kProf e n 3)) = true →
            (t.engines[e].step.bind fun x => (x.outs.find? fun o => o.1 == n).map fun o => (o.2[0], o.2[1], o.2[2])) =
              some ((moveStep (s.limits e n) (s.rd (kProf e n 3)) (s.rd (kProf e n 0x0C)) (s.rd (kProf e n 0x0D)) (s.rd (kProf e n 0x0E))).1, (moveStep (s.limits e n) (s.rd (kProf e n 3)) (s.rd (kProf e n 0x0C)) (s.rd (kProf e n 0x0D)) (s.rd (kProf e n 0x0E))).2.1, (moveStep (s.limits e n) (s.rd (kProf e n 3)) (s.rd (kProf e n 0x0C)) (s.rd (kProf e n 0x0D)) (s.rd (kProf e n 0x0E))).2.2.1)) ∧
          KeepsOtherAreas [6] s t ∧
          t = { s with tick := t.tick, net := t.net, free := t.free, objs := t.objs, rails := t.rails, engines := t.engines, signals := t.signals }) ∧
    (∀ (e : Engine) (g : Nat), s.dueAt (routed e (s.rd (unitKey 0x600401 e))) (whoSteps e) = some g → s.accepts e = true → s.engines[e].step = none → within s.engines[e].lastStep g 2500 = true →
      Completes (.profileStep e) s fun t =>
          t.rd (unitKey 0x600404 e) = wrapInc 32 (s.rd (unitKey 0x600404 e)) ∧ t.tick = g ∧
          KeepsObjs [unitKey 0x600404 e] s t ∧
          t = { s with tick := t.tick, net := t.net, objs := t.objs, signals := t.signals }) ∧
    (∀ (e : Engine) (n : Fin 4) (v : Byte), s.power.supervisor = true → s.dev ≠ 0 → v = 1 →
      Completes (.profileRestart e n v) s fun t =>
          t.lastStatus = 0 ∧ t.engines[e].seed[n] = .start ∧ (∀ m : Fin 4, m ≠ n → t.engines[e].seed[m] = s.engines[e].seed[m]) ∧ (s.engines[e].step = none → t.objs = s.objs) ∧
          KeepsOtherAreas [6] s t ∧
          t = { s with objs := t.objs, engines := t.engines, lastStatus := t.lastStatus, lastData := t.lastData }) ∧
    (∀ (e : Engine) (n : Fin 4) (vMax : F32) (aMax : F32) (jMax : F32) (tol : F32), s.power.supervisor = true → s.dev ≠ 0 → limitOk vMax.toNat = true → limitOk aMax.toNat = true → limitOk jMax.toNat = true → tolOk tol.toNat = true →
      Completes (.limitsSet e n vMax aMax jMax tol) s fun t =>
          t.lastStatus = 0 ∧ t.rd (kProf e n 5) = vMax.toNat ∧ t.rd (kProf e n 6) = aMax.toNat ∧ t.rd (kProf e n 7) = jMax.toNat ∧ t.rd (kProf e n 8) = tol.toNat ∧ (∀ m : Fin 4, m ≠ n → t.rd (kProf e m 5) = s.rd (kProf e m 5) ∧ t.rd (kProf e m 6) = s.rd (kProf e m 6) ∧ t.rd (kProf e m 7) = s.rd (kProf e m 7) ∧ t.rd (kProf e m 8) = s.rd (kProf e m 8)) ∧
          KeepsOtherAreas [6] s t ∧
          t = { s with objs := t.objs, engines := t.engines, lastStatus := t.lastStatus, lastData := t.lastData }) ∧
    (∀ (c : Cell) (v : Byte), s.power.supervisor = true → s.dev ≠ 0 → 2 ≤ v.toNat → v.toNat ≤ 3 →
      Completes (.modeReq c v) s fun t =>
          t.lastStatus = 0 ∧ t.rd (unitKey 0x601001 c) = v.toNat ∧ (32 ≤ s.rd (unitKey 0x601002 c) → s.rd (unitKey 0x601001 c) ≠ v.toNat → t.modeDone[c] = some v.toNat ∧ t.rd (unitKey 0x601006 c) = 1) ∧
          KeepsOtherAreas [5, 6] s t ∧
          t = { s with objs := t.objs, engines := t.engines, modeDone := t.modeDone, lastStatus := t.lastStatus, lastData := t.lastData }) ∧
    (∀ (c : Cell) (v : Byte) (b : Fin 32) (e : Engine), s.power.supervisor = true → s.dev ≠ 0 → 2 ≤ v.toNat → v.toNat ≤ 3 → e.val = c.val → s.rd (unitKey 0x601002 c) = b.val → s.bType e b = 1 → s.rd (unitKey 0x601001 c) ≠ v.toNat →
      Completes (.modeReq c v) s fun t =>
          t.lastStatus = 0 ∧ t.rd (unitKey 0x601001 c) = v.toNat ∧ t.rd (kBlock e b 5) = fe.ofInt v.toNat ∧ t.modeDone[c] = some (s.committedMode c) ∧ t.rd (unitKey 0x601006 c) = 2 ∧ (∀ k : Task, (t.engines[e].tasks[k].run.all fun r => !r.sawReq) = true) ∧
          KeepsOtherAreas [5, 6] s t ∧
          t = { s with objs := t.objs, engines := t.engines, modeDone := t.modeDone, lastStatus := t.lastStatus, lastData := t.lastData })

/-- STRING frames and STATUS contributions. An assembly falls 64 ticks before the next issue instant; outside CHARGE and RUN it leaves a payload of 16 bytes and 56 per device, in them also unless a string trips or both paths are SLOW. The issue sends it on XD with the next SEQ at its instant, and the manager's own cells accept it; in BOOT, HATCH and COCOON it is dropped. A worker accepts a frame of its holder's path whose SEQ is new, or with LEASE of the first path that brings one where it holds none: SEQ, count, time, the references of its block, and the end of the missed-reference state; a second copy changes nothing but counts, nor does a frame on a lane that is not UP. The manager keeps a worker's contribution and no longer counts it absent. Under hypotheses on the state and the operands alone, exec answers a next state with the command's own effect for: stringAssembly, stringFrameIssue, stringFrameAccept, statusFrameReceive. (spec/10 R321, R322, R323, R325, R326, R327, R328; spec/15 R484, R488, R490.) -/
def Obligations.StringFramesAreAssembledIssuedAndAccepted : Prop :=
  ∀ s : State,
    (s.manager = true → s.dev ≠ 0 → s.dev ≠ 1 → s.dev ≠ 5 → s.string.assembled = none →
      Completes (.stringAssembly) s fun t =>
          t.string.lastIssue = s.nextAssembly ∧ t.tick = s.tick + (s.ticksTo (s.issueUnits s.nextAssembly) - 64) ∧
          (t.string.assembled.map List.length = some (16 + 56 * min 32 (s.rd kExpected)) ∨ ((s.dev = 3 ∨ s.dev = 4) ∧ (t.rails.occ.getLsbD 117 = true ∨ (t.bitAt 0xB02003 8 = true ∧ t.bitAt 0xB02003 9 = true)))) ∧
          KeepsOtherAreas [8, 0xB] s t ∧
          t = { s with objs := t.objs, string := t.string, refs := t.refs, rails := t.rails, tick := t.tick, net := t.net, free := t.free, lanes := t.lanes }) ∧
    (∀ (b : Bytes), s.manager = true → s.dev ≠ 0 → s.dev ≠ 1 → s.dev ≠ 5 → s.string.assembled = some b →
      Completes (.stringFrameIssue) s fun t =>
          t.string.assembled = none ∧ t.rd 0x80100D = wrapInc 32 (s.rd 0x80100D) ∧ t.stringRx.seq = some (s.rd 0x80100D % 65536) ∧ t.stringRx.devices = some (byteAt b 1) ∧ t.rd 0x801101 = wrapInc 32 (s.rd 0x801101) ∧ t.tick = s.tick + s.ticksTo (s.issueUnits s.string.lastIssue) ∧
          (s.maySend (dLane 0) = true → (t.lanes[dLane 0].queue.any fun x => x.f.typ == 1 && x.f.payload == b) = true) ∧
          t = { s with tick := t.tick, net := t.net, free := t.free, objs := t.objs, power := t.power, gates := t.gates, carriers := t.carriers, legs := t.legs, guard := t.guard, rails := t.rails, engines := t.engines, refs := t.refs, charge := t.charge, string := t.string, stringRx := t.stringRx, lanes := t.lanes, lease := t.lease, frames := t.frames, thermal := t.thermal, signals := t.signals, capture := t.capture, modeDone := t.modeDone, clock := { s.clock with lines := t.clock.lines } }) ∧
    ((s.manager = false ∨ s.dev = 0 ∨ s.dev = 1 ∨ s.dev = 5) →
      Completes (.stringFrameIssue) s fun t =>
          t.string = { s.string with assembled := none } ∧
          t = { s with string := t.string }) ∧
    (∀ (f : Frame), s.laneUp (inLane f) = true → s.manager = false → s.stringRx.seq ≠ some f.seq.toNat → s.holder = f.path.val →
      Completes (.stringFrameAccept f) s fun t =>
          t.rd 0xB00509 = wrapInc 32 (s.rd 0xB00509) ∧ t.stringRx.seq = some f.seq.toNat ∧ t.stringRx.devices = some (byteAt f.payload 1) ∧ t.stringRx.acceptAt = some s.tick ∧ t.stringRx.dues = 0 ∧ t.rd 0x801101 = wrapInc 32 (s.rd 0x801101) ∧ t.rd 0x801102 = s.ns ∧
          t.rails.cond.getLsbD 106 = false ∧ ((s.posOn f.path).getD 0xFF < byteAt f.payload 1 → ∀ c : Cell, t.refs.modRef[c] = leAt f.payload ((16 + 56 * (s.posOn f.path).getD 0xFF) + 8 + 8 * c.val) 2 ∧ t.refs.steer[c] = leAt f.payload ((16 + 56 * (s.posOn f.path).getD 0xFF) + 8 + 8 * c.val + 2) 2) ∧ t.tick = s.tick ∧
          t = { s with tick := t.tick, net := t.net, free := t.free, objs := t.objs, power := t.power, gates := t.gates, carriers := t.carriers, legs := t.legs, guard := t.guard, rails := t.rails, engines := t.engines, refs := t.refs, charge := t.charge, string := t.string, stringRx := t.stringRx, lanes := t.lanes, lease := t.lease, frames := t.frames, thermal := t.thermal, signals := t.signals, capture := t.capture, modeDone := t.modeDone, clock := { s.clock with lines := t.clock.lines } }) ∧
    (∀ (f : Frame), s.laneUp (inLane f) = true → s.manager = false → s.stringRx.seq ≠ some f.seq.toNat → s.holder = 0xFF → f.lease = true → s.pselLow = false → s.laneUp (uLane f.path) = true →
      Completes (.stringFrameAccept f) s fun t =>
          t.rd 0xB00509 = wrapInc 32 (s.rd 0xB00509) ∧ t.holder = f.path.val ∧ t.stringRx.seq = some f.seq.toNat ∧ t.stringRx.devices = some (byteAt f.payload 1) ∧ t.stringRx.acceptAt = some s.tick ∧ t.stringRx.dues = 0 ∧ t.rd 0x801101 = wrapInc 32 (s.rd 0x801101) ∧ t.rd 0x801102 = s.ns ∧
          t.rails.cond.getLsbD 106 = false ∧ ((s.posOn f.path).getD 0xFF < byteAt f.payload 1 → ∀ c : Cell, t.refs.modRef[c] = leAt f.payload ((16 + 56 * (s.posOn f.path).getD 0xFF) + 8 + 8 * c.val) 2 ∧ t.refs.steer[c] = leAt f.payload ((16 + 56 * (s.posOn f.path).getD 0xFF) + 8 + 8 * c.val + 2) 2) ∧ t.tick = s.tick ∧
          t = { s with tick := t.tick, net := t.net, free := t.free, objs := t.objs, power := t.power, gates := t.gates, carriers := t.carriers, legs := t.legs, guard := t.guard, rails := t.rails, engines := t.engines, refs := t.refs, charge := t.charge, string := t.string, stringRx := t.stringRx, lanes := t.lanes, lease := t.lease, frames := t.frames, thermal := t.thermal, signals := t.signals, capture := t.capture, modeDone := t.modeDone, clock := { s.clock with lines := t.clock.lines } }) ∧
    (∀ (f : Frame), s.laneUp (inLane f) = true → s.manager = false → s.stringRx.seq = some f.seq.toNat → s.lease.takenAt ≠ some s.tick →
      Completes (.stringFrameAccept f) s fun t =>
          t.rd 0xB00509 = wrapInc 32 (s.rd 0xB00509) ∧ t.rd 0xB0200B = (if s.holder = f.path.val then s.rd 0xB0200B else wrapInc 32 (s.rd 0xB0200B)) ∧
          KeepsObjs [0xB0200B, 0xB00509] s t ∧
          t = { s with objs := t.objs }) ∧
    (∀ (f : Frame), s.laneUp (inLane f) = false →
      Completes (.stringFrameAccept f) s fun t =>
          t = s) ∧
    (∀ (f : Frame) (p : Fin 32), s.laneUp (inLane f) = true → s.manager = true → f.src.toNat = p.val →
      Completes (.statusFrameReceive f) s fun t =>
          t.rd 0xB00509 = wrapInc 32 (s.rd 0xB00509) ∧ t.string.contrib[p] = some (readContrib f.payload) ∧ t.bitAt 0x80100E p = false ∧ (∀ q : Fin 32, q ≠ p → t.string.contrib[q] = s.string.contrib[q]) ∧
          KeepsObjs [0x80100E, 0xB0200A, 0xB00509] s t ∧
          t = { s with objs := t.objs, string := t.string, jobs := t.jobs })

/-- MOLT and the stop time-out. In RUN the manager accepts a removal of an active RUN cell that the string can spare and a re-insertion of a BYPASSED cell of a device in RUN, and notes the step. A request outside RUN is refused with RESULT 1, at no cell of the string with 5, while a step is pending with 4, for a cell in another state with 2, for a removal that the string cannot spare with 3: STATUS 6, outside RUN 5, and nothing else changed. The pre-charge time-out aborts a re-insertion with 9; the stop time-out in CHARGE or RUN enters SAFE with cause 7. Under hypotheses on the state and the operands alone, exec answers a next state with the command's own effect for: moltRemove, moltInsert, prechargeTimeout, stopTimeout. (spec/10 R343, R344, R345, R349, R351.) -/
def Obligations.MoltStepsAndTheStopTimeout : Prop :=
  ∀ s : State,
    (∀ (g : Fin 3) (m : MapCell), s.power.supervisor = true → s.manager = true → s.dev = 4 → (((s.cellsOf g).find? fun x => x.pos == s.rd (unitKey 0x800302 g)) = some m) → m.active = true → (s.repOf m).state = 2 → s.string.molt[g] = none → s.rd (unitKey 0x800301 g) + 1 ≤ (s.activeOf g).length →
      Completes (.moltRemove g) s fun t =>
          t.lastStatus = 0 ∧ (t.string.molt[g].map fun x => (x.dev, x.cell, x.insert, x.since, x.applied)) = some (m.dev, m.cell, false, s.tick, false) ∧ t.rd (unitKey 0x800307 g) = 1 ∧
          KeepsObjs [unitKey 0x800307 g] s t ∧
          t = { s with objs := t.objs, string := t.string, lastStatus := t.lastStatus, lastData := t.lastData }) ∧
    (∀ (g : Fin 3) (m : MapCell), s.power.supervisor = true → s.manager = true → s.dev = 4 → (((s.cellsOf g).find? fun x => x.pos == s.rd (unitKey 0x800302 g)) = some m) → (s.contribOf m.dev).dev = 4 → (s.repOf m).state = 4 → s.string.molt[g] = none →
      Completes (.moltInsert g) s fun t =>
          t.lastStatus = 0 ∧ (t.string.molt[g].map fun x => (x.dev, x.cell, x.insert, x.since, x.applied)) = some (m.dev, m.cell, true, s.tick, false) ∧ t.rd (unitKey 0x800307 g) = 3 ∧
          KeepsObjs [unitKey 0x800307 g] s t ∧
          t = { s with objs := t.objs, string := t.string, lastStatus := t.lastStatus, lastData := t.lastData }) ∧
    (∀ (g : Fin 3) (n : Nat), s.power.supervisor = true → s.manager = true → s.dev ≠ 0 → ((if s.dev ≠ 4 then some 1 else match ((s.cellsOf g).find? fun x => x.pos == s.rd (unitKey 0x800302 g)) with
        | none => some 5
        | some m => if s.string.molt[g].isSome then some 4 else if ¬ (m.active = true ∧ (s.repOf m).state = 2) then some 2 else if (s.activeOf g).length < 1 + s.rd (unitKey 0x800301 g) then some 3 else none) = some n) →
      Completes (.moltRemove g) s fun t =>
          t.lastStatus = (if s.dev = 4 then 6 else 5) ∧ t.rd (unitKey 0x800308 g) = n ∧
          KeepsObjs [unitKey 0x800308 g] s t ∧
          t = { s with objs := t.objs, lastStatus := t.lastStatus, lastData := t.lastData }) ∧
    (∀ (g : Fin 3) (n : Nat), s.power.supervisor = true → s.manager = true → s.dev ≠ 0 → ((if s.dev ≠ 4 then some 1 else match ((s.cellsOf g).find? fun x => x.pos == s.rd (unitKey 0x800302 g)) with
        | none => some 5
        | some m => if (s.contribOf m.dev).dev ≠ 4 then some 1 else if s.string.molt[g].isSome then some 4 else if (s.repOf m).state ≠ 4 then some 2 else none) = some n) →
      Completes (.moltInsert g) s fun t =>
          t.lastStatus = (if s.dev = 4 then 6 else 5) ∧ t.rd (unitKey 0x800308 g) = n ∧
          KeepsObjs [unitKey 0x800308 g] s t ∧
          t = { s with objs := t.objs, lastStatus := t.lastStatus, lastData := t.lastData }) ∧
    (∀ (g : Fin 3) (x : MoltSt) (d : Nat), s.string.molt[g] = some x → x.limit = some d →
      Completes (.prechargeTimeout g) s fun t =>
          t.string.molt[g] = some { x with limit := none, abort := some 9 } ∧ t.tick = max s.tick d ∧
          t = { s with tick := t.tick, net := t.net, string := t.string }) ∧
    (∀ (d : Nat), s.power.stopAt = some d → (s.dev = 3 ∨ s.dev = 4) →
      Completes (.stopTimeout) s fun t =>
          t.dev = 6 ∧ t.rd kSafeCause = 7 ∧ t.power.stopAt = none ∧ t.rd 0x801109 = 0 ∧ t.tick = max s.tick d ∧ (∀ l : Line, s.gates[l] = false → t.gates[l] = false) ∧
          t = { s with tick := t.tick, net := t.net, objs := t.objs, power := t.power, gates := t.gates, carriers := t.carriers, legs := t.legs, guard := t.guard, rails := t.rails, engines := t.engines, charge := t.charge, string := t.string, thermal := t.thermal, lanes := t.lanes, frames := t.frames, free := t.free, modeDone := t.modeDone, clock := { s.clock with lines := t.clock.lines } })

/-- Thermal samples, lockout records, clears. At its scheduled tick a module sensor takes its driver's temperature, another asks its channel's converter, or misses its sample where the request is dropped: counted, with source 84; so does one whose conversion will not come; a sensor that takes no part loses its schedule. A sample is processed 103 to 208 ticks after its value came: one that is valid and agrees with its neighbours becomes TEMP, below T_TRIP without a trip, and schedules the next; an invalid one declares the sensor broken with source 81; the third in a row at T_TRIP or above begins its group's lockout record, with source 79 and LOCKOUT for a die sensor, else 78. A record written is in the NV store; a failed write sets WRITE_FAIL with source 82, and after a re-arming result 3. BROKEN and REARM: written 1s clear broken sensors; a cool unarmed group begins the write of its re-armed record, a hot one is refused with 1 and source 83, one not unarmed with 2. Under hypotheses on the state and the operands alone, exec answers a next state with the command's own effect for: thermalSampleDue, thermalSampleProcess, lockoutRecordWritten, brokenClear, rearm. (spec/11 R359, R361, R362, R363, R365, R368, R369, R370, R372, R376, R674.) -/
def Obligations.ThermalSamplesTripsAndRearming : Prop :=
  ∀ s : State,
    (∀ (n : Fin 28) (d : Nat), sensorKind n = 1 → s.thermal.sensor[n].due = some d → s.samples n = true →
      Completes (.thermalSampleDue n) s fun t =>
          t.thermal.sensor[n].due = none ∧ t.thermal.sensor[n].last = d ∧ t.thermal.sensor[n].waiting = true ∧ t.thermal.sensor[n].value = some (s.rd (0x460037 + (n.val - 4))) ∧ t.thermal.sensor[n].gotAt = t.tick ∧ t.tick = max s.tick d ∧ (∀ m : Fin 28, m ≠ n → t.thermal.sensor[m] = s.thermal.sensor[m]) ∧
          t = { s with tick := t.tick, net := t.net, thermal := t.thermal }) ∧
    (∀ (n : Fin 28) (d : Nat) (a : Fin 4), sensorKind n ≠ 1 → s.thermal.sensor[n].due = some d → s.samples n = true → s.rd (kChan (sensorChannel n) 1) = a.val → s.adcEnabled a = true → s.meas.adc[a].queue.length < 8 →
      Completes (.thermalSampleDue n) s fun t =>
          t.thermal.sensor[n].due = none ∧ t.thermal.sensor[n].last = d ∧ t.thermal.sensor[n].waiting = true ∧ (t.meas.adc[a].queue.any fun x => x.ch == sensorChannel n && x.thermal) = true ∧ t.tick = max s.tick d ∧
          t = { s with tick := t.tick, net := t.net, thermal := t.thermal, meas := t.meas }) ∧
    (∀ (n : Fin 28) (d : Nat) (a : Fin 4), sensorKind n ≠ 1 → s.thermal.sensor[n].due = some d → s.samples n = true → s.rd (kChan (sensorChannel n) 1) = a.val → (s.adcEnabled a = false ∨ (8 ≤ s.meas.adc[a].queue.length ∧ (s.meas.adc[a].queue.all fun x => x.ch != sensorChannel n) = true)) →
      Completes (.thermalSampleDue n) s fun t =>
          t.rd 0x90022C = wrapInc 32 (s.rd 0x90022C) ∧ t.rails.occ.getLsbD 84 = true ∧ t.thermal.sensor[n].waiting = false ∧ t.rd (kTemp n) = s.rd (kTemp n) ∧ t.thermal.sensor[n].due = some (d + s.interval n (s.rd (kTemp n))) ∧ t.tick = max s.tick d ∧
          KeepsObjs [0x90022C, 0x400010] s t ∧
          t = { s with tick := t.tick, net := t.net, objs := t.objs, rails := t.rails, thermal := t.thermal, meas := t.meas }) ∧
    (∀ (n : Fin 28) (d : Nat), s.thermal.sensor[n].due = some d → s.samples n = false →
      Completes (.thermalSampleDue n) s fun t =>
          t.thermal.sensor[n] = { s.thermal.sensor[n] with due := none } ∧
          t = { s with thermal := t.thermal }) ∧
    (∀ (n : Fin 28) (v : Nat) (e : Nat), s.thermal.sensor[n].value = some v → s.measured n v = some e → (s.crossCheck n e).broken n = false → fmt32.le (s.tTrip n) e = false →
      Completes (.thermalSampleProcess n) s fun t =>
          t.rd (kTemp n) = e ∧ t.thermal.sensor[n].sampled = true ∧ t.thermal.sensor[n].waiting = false ∧ t.thermal.sensor[n].trips = 0 ∧ t.thermal.sensor[n].due = some (s.thermal.sensor[n].last + s.interval n e) ∧ t.broken n = false ∧ max s.tick (s.thermal.sensor[n].gotAt + 103) ≤ t.tick ∧ t.tick ≤ max s.tick (s.thermal.sensor[n].gotAt + 208) ∧
          KeepsOtherAreas [9] s t ∧
          t = { s with tick := t.tick, net := t.net, free := t.free, objs := t.objs, thermal := t.thermal, rails := t.rails }) ∧
    (∀ (n : Fin 28) (v : Nat), s.thermal.sensor[n].value = some v → s.measured n v = none → s.broken n = false →
      Completes (.thermalSampleProcess n) s fun t =>
          t.bitAt 0x900224 n = true ∧ field (t.rd 0x900224) 28 2 = 1 ∧ t.rails.occ.getLsbD 81 = true ∧ t.thermal.sensor[n].sampled = true ∧ t.thermal.sensor[n].waiting = false ∧ max s.tick (s.thermal.sensor[n].gotAt + 103) ≤ t.tick ∧ t.tick ≤ max s.tick (s.thermal.sensor[n].gotAt + 208) ∧
          KeepsOtherAreas [0, 3, 5, 6, 7, 8, 9] s t ∧
          t = { s with tick := t.tick, net := t.net, free := t.free, objs := t.objs, thermal := t.thermal, rails := t.rails, guard := t.guard, gates := t.gates, carriers := t.carriers, legs := t.legs, power := t.power, engines := t.engines, charge := t.charge, string := t.string, modeDone := t.modeDone, clock := { s.clock with lines := t.clock.lines } }) ∧
    (∀ (n : Fin 28) (v : Nat) (e : Nat), s.thermal.sensor[n].value = some v → s.measured n v = some e → (s.crossCheck n e).broken n = false → fmt32.le (s.tTrip n) e = true → 2 ≤ s.thermal.sensor[n].trips →
      Completes (.thermalSampleProcess n) s fun t =>
          t.rd (kTemp n) = e ∧ t.thermal.sensor[n].trips = 0 ∧ t.thermal.lockouts[sensorGroup n].writing = true ∧ t.unarmed (sensorGroup n) = true ∧ byteAt t.thermal.lockouts[sensorGroup n].record 12 = n.val ∧ leAt t.thermal.lockouts[sensorGroup n].record 0 8 = s.thermal.sensor[n].sec % 2 ^ 64 ∧
          (n.val < 4 → t.rails.occ.getLsbD 79 = true ∧ (s.dev = 2 ∨ s.dev = 3 ∨ s.dev = 4 ∨ s.dev = 6 → t.dev = 7) ∧ (s.dev = 0 ∨ s.dev = 1 ∨ s.dev = 5 → t.bitAt kFlags 2 = true)) ∧ (4 ≤ n.val → t.rails.occ.getLsbD 78 = true) ∧ max s.tick (s.thermal.sensor[n].gotAt + 103) ≤ t.tick ∧ t.tick ≤ max s.tick (s.thermal.sensor[n].gotAt + 208) ∧
          KeepsOtherAreas [0, 3, 5, 6, 7, 8, 9] s t ∧
          t = { s with tick := t.tick, net := t.net, free := t.free, objs := t.objs, thermal := t.thermal, rails := t.rails, guard := t.guard, gates := t.gates, carriers := t.carriers, legs := t.legs, power := t.power, engines := t.engines, charge := t.charge, string := t.string, modeDone := t.modeDone, clock := { s.clock with lines := t.clock.lines } }) ∧
    (∀ (n : Fin 28), s.thermal.sensor[n].value = none → s.thermal.sensor[n].waiting = true → s.samplePending n = false →
      Completes (.thermalSampleProcess n) s fun t =>
          t.rd 0x90022C = wrapInc 32 (s.rd 0x90022C) ∧ t.rails.occ.getLsbD 84 = true ∧ t.thermal.sensor[n].waiting = false ∧ t.rd (kTemp n) = s.rd (kTemp n) ∧
          KeepsObjs [0x90022C] s t ∧
          t = { s with objs := t.objs, rails := t.rails, thermal := t.thermal }) ∧
    (∀ (g : Fin 7) (ok : Bool), s.thermal.lockouts[g].writing = true →
      Completes (.lockoutRecordWritten g ok) s fun t =>
          t.thermal.lockouts[g] = { s.thermal.lockouts[g] with writing := false, rearm := false } ∧ t.nv.lockouts[g] = (if ok then s.thermal.lockouts[g].record else s.nv.lockouts[g]) ∧
          (ok = false → t.bitAt 0x900309 g = true ∧ t.rails.occ.getLsbD 82 = true ∧ (s.thermal.lockouts[g].rearm = true → t.rd 0x900402 = 3)) ∧
          KeepsObjs [0x900309, 0x900402, 0xE01104] s t ∧
          t = { s with objs := t.objs, thermal := t.thermal, rails := t.rails, nv := t.nv, jobs := t.jobs }) ∧
    (∀ (mask : BitVec 32), s.power.supervisor = true → s.dev ≠ 0 →
      Completes (.brokenClear mask) s fun t =>
          t.lastStatus = 0 ∧ (∀ n : Fin 28, bit mask.toNat n.val = true → t.broken n = false ∧ t.thermal.sensor[n].departed = 0) ∧ (∀ n : Fin 28, bit mask.toNat n.val = false → t.broken n = s.broken n) ∧
          KeepsObjs [0x900224] s t ∧
          t = { s with objs := t.objs, thermal := t.thermal, lastStatus := t.lastStatus, lastData := t.lastData }) ∧
    (∀ (mask : Byte) (g : Fin 7), s.power.supervisor = true → s.dev ≠ 0 → mask.toNat = 2 ^ g.val → s.unarmed g = true → s.groupHot g = false →
      Completes (.rearm mask) s fun t =>
          t.lastStatus = 0 ∧ t.thermal.lockouts[g].writing = true ∧ t.thermal.lockouts[g].rearm = true ∧ t.unarmed g = false ∧ t.bitAt 0x900403 g = false ∧ t.rd 0x900402 = 0 ∧
          KeepsObjs [0x900402, 0x900403] s t ∧
          t = { s with objs := t.objs, thermal := t.thermal, lastStatus := t.lastStatus, lastData := t.lastData }) ∧
    (∀ (mask : Byte) (g : Fin 7), s.power.supervisor = true → s.dev ≠ 0 → mask.toNat = 2 ^ g.val → (s.unarmed g = false ∨ s.groupHot g = true) →
      Completes (.rearm mask) s fun t =>
          t.lastStatus = 0 ∧ t.rd 0x900402 = (if s.unarmed g then 1 else 2) ∧ (s.unarmed g = true → t.bitAt 0x900403 g = true ∧ t.rails.occ.getLsbD 83 = true) ∧ (∀ h : Fin 7, t.thermal.lockouts[h] = { s.thermal.lockouts[h] with rearm := false }) ∧
          KeepsObjs [0x900402, 0x900403] s t ∧
          t = { s with objs := t.objs, thermal := t.thermal, rails := t.rails, lastStatus := t.lastStatus, lastData := t.lastData })

/-- Collector decisions, the decision time-out, clears. A decision of a sound collector, in which the substitutions that the runs in progress have made so far are seen, reads every asserted condition and every occurrence since the last one, a source whose rails read equal as it was and, the second time, as asserted; it adds them to the sticky words, marks the rises for WDP and EVENT frames, and brings FLT_OUT and EVT_N up to date; a rise of class CRITICAL enters SAFE from READY, CHARGE and RUN with cause 2. A parity fault, or a decision that does not come 1,088 ticks after the last, is a self-fault with cause bit 1 or 2, and there a safe cause with cause 3; in a self-fault a decision clears no sticky bit. In reset there is no decision. A write of 1s clears sticky bits of its word, bit 126 excepted. Under hypotheses on the state and the operands alone, exec answers a next state with the command's own effect for: collectorDecision, collectorDecisionTimeout, stickyClear. (spec/12 R379, R380, R381, R383, R384, R389, R391, R394, R396, R397, R401, R402.) -/
def Obligations.CollectorDecidesAndClears : Prop :=
  ∀ s : State,
    (∀ (equal : BitVec 128) (bad : Bool), s.inReset = false → s.selfFaulted = false → bad = false →
      Completes (.collectorDecision equal bad) s fun t =>
          t.stickyMap = s.stickyMap ||| (((s.noteNumeric.rails.cond ||| s.noteNumeric.rails.occ) &&& ~~~equal) ||| (equal &&& ~~~s.collector.equal &&& s.collector.asserted) ||| (equal &&& s.collector.equal)) ∧ t.collector.asserted = (((s.noteNumeric.rails.cond ||| s.noteNumeric.rails.occ) &&& ~~~equal) ||| (equal &&& ~~~s.collector.equal &&& s.collector.asserted) ||| (equal &&& s.collector.equal)) ∧ t.collector.equal = equal ∧ t.collector.railFault = (equal &&& s.collector.equal) ∧ t.collector.lastAt = s.tick ∧
          t.collector.wdpMarks = s.collector.wdpMarks ||| ((((s.noteNumeric.rails.cond ||| s.noteNumeric.rails.occ) &&& ~~~equal) ||| (equal &&& ~~~s.collector.equal &&& s.collector.asserted) ||| (equal &&& s.collector.equal)) &&& ~~~s.stickyMap &&& ~~~s.map128 0xA00201 &&& s.map128 0xA00305) ∧ (s.manager = false → t.collector.risen = s.collector.risen ||| ((((s.noteNumeric.rails.cond ||| s.noteNumeric.rails.occ) &&& ~~~equal) ||| (equal &&& ~~~s.collector.equal &&& s.collector.asserted) ||| (equal &&& s.collector.equal)) &&& ~~~s.stickyMap &&& ~~~s.map128 0xA00201 &&& s.map128 0xA00309)) ∧
          t.bitAt 0xA00401 3 = t.fltOut ∧ t.bitAt 0xA00401 4 = t.evtN ∧ (∀ n : Fin 128, ((((s.noteNumeric.rails.cond ||| s.noteNumeric.rails.occ) &&& ~~~equal) ||| (equal &&& ~~~s.collector.equal &&& s.collector.asserted) ||| (equal &&& s.collector.equal)) &&& ~~~s.stickyMap).getLsbD n.val = true → s.classOf n = 4 → s.dev = 2 ∨ s.dev = 3 ∨ s.dev = 4 → t.dev = 6 ∧ t.rd kSafeCause = 2) ∧
          t = { s with free := t.free, objs := t.objs, power := t.power, gates := t.gates, carriers := t.carriers, legs := t.legs, guard := t.guard, rails := t.rails, engines := t.engines, charge := t.charge, string := t.string, thermal := t.thermal, collector := t.collector, lanes := t.lanes, frames := t.frames, capture := t.capture, modeDone := t.modeDone, clock := { s.clock with lines := t.clock.lines } }) ∧
    (∀ (equal : BitVec 128) (bad : Bool), s.inReset = false → s.selfFaulted = false → bad = true → (s.dev = 2 ∨ s.dev = 3 ∨ s.dev = 4) →
      Completes (.collectorDecision equal bad) s fun t =>
          t.selfFaulted = true ∧ t.bitAt 0xA00401 1 = true ∧ t.sticky 126 = true ∧ t.dev = 6 ∧ t.rd kSafeCause = 3 ∧ (∀ l : Line, s.gates[l] = false → t.gates[l] = false) ∧
          t = { s with free := t.free, objs := t.objs, power := t.power, gates := t.gates, carriers := t.carriers, legs := t.legs, guard := t.guard, rails := t.rails, engines := t.engines, charge := t.charge, string := t.string, thermal := t.thermal, collector := t.collector, lanes := t.lanes, frames := t.frames, capture := t.capture, modeDone := t.modeDone, clock := { s.clock with lines := t.clock.lines } }) ∧
    (∀ (equal : BitVec 128) (bad : Bool), s.inReset = false → s.selfFaulted = true →
      Completes (.collectorDecision equal bad) s fun t =>
          s.stickyMap &&& ~~~t.stickyMap = 0 ∧ t.selfFaulted = true ∧ (bad = true → t.bitAt 0xA00401 1 = true) ∧ t.collector.lastAt = s.tick ∧ t.dev = s.dev ∧
          KeepsOtherAreas [5, 9, 0xA] s t ∧
          t = { s with free := t.free, objs := t.objs, rails := t.rails, collector := t.collector, capture := t.capture, engines := t.engines }) ∧
    (∀ (equal : BitVec 128) (bad : Bool), s.inReset = true →
      Completes (.collectorDecision equal bad) s fun t =>
          t = s) ∧
    (s.inReset = false → s.selfFaulted = false → (s.dev = 2 ∨ s.dev = 3 ∨ s.dev = 4) →
      Completes (.collectorDecisionTimeout) s fun t =>
          t.selfFaulted = true ∧ t.bitAt 0xA00401 2 = true ∧ t.sticky 126 = true ∧ t.dev = 6 ∧ t.rd kSafeCause = 3 ∧ (∀ l : Line, s.gates[l] = false → t.gates[l] = false) ∧ t.tick = max s.tick (s.collector.lastAt + 1088) ∧
          t = { s with tick := t.tick, net := t.net, free := t.free, objs := t.objs, power := t.power, gates := t.gates, carriers := t.carriers, legs := t.legs, guard := t.guard, rails := t.rails, engines := t.engines, charge := t.charge, string := t.string, thermal := t.thermal, collector := t.collector, lanes := t.lanes, frames := t.frames, capture := t.capture, modeDone := t.modeDone, clock := { s.clock with lines := t.clock.lines } }) ∧
    (∀ (w : Fin 4) (mask : BitVec 32), s.power.supervisor = true → s.dev ≠ 0 →
      Completes (.stickyClear w mask) s fun t =>
          t.lastStatus = 0 ∧ t.stickyMap = s.stickyMap &&& ~~~(BitVec.ofNat 128 (mask.toNat * 2 ^ (32 * w.val)) &&& ~~~(1#128 <<< 126)) ∧
          KeepsObjs [0xA00001, 0xA00002, 0xA00003, 0xA00004, 0x90030A] s t ∧
          t = { s with objs := t.objs, lastStatus := t.lastStatus, lastData := t.lastData })

/-- Event messages, EVENT and SAFE frames. While the device is served, has a node and is not in COCOON, object 22 of the CAN holder, where it is valid and not pending, takes the event message of the lowest marked source whose message does not stand in the other controller: source, CLASS, POSITION, RELAYED 0 and the sticky words, under function 4 and the own node, pending where FD_EN is set; with none marked it takes the oldest relayed source with its worker's position and words and RELAYED 1; with nothing to send nothing changes, and no mark clears before its message is sent. A worker with a position sends its risen sources and its sticky words in one EVENT frame to position 0 on its serving path, once; the manager sends none. The manager notes the worker of an EVENT frame that arrives on its serving path and keeps its sources to be relayed; on another path it is ignored and counted. A SAFE frame of the serving path enters SAFE with cause 5 from READY, CHARGE and RUN, with every cell in CHARGE or RUN gone to OFF and no gate turned on, and waits as SAFE_PENDING in BOOT, HATCH and COCOON; in SAFE and LOCKOUT it changes nothing; one of another path is ignored and counted. Each frame received counts in FRAME_RX_COUNT. Under hypotheses on the state and the operands alone, exec answers a next state with the command's own effect for: wdpEventSend, eventFrameSend, eventFrameReceive, safeFrameReceive. (spec/04 R106; spec/12 R390, R401, R402, R403; spec/14 R475; spec/15 R483, R506; spec/17 R568.) -/
def Obligations.EventsAndSafeFramesTravel : Prop :=
  ∀ s : State,
    (∀ (u : Fin 2) (n : Nat), s.speaks = true → s.canHolder = u → isPending (s.msg u 22) = false → isValid (s.msg u 22) = true → s.wdp.events[u].find? relayed = none → ((bitsOf 128 s.collector.wdpMarks.toNat).find? (fun n => ownEvent s.wdp.events[otherCan u] != some n) = some n) →
      Completes (.wdpEventSend) s fun t =>
          t.wdp.events[u] = [natLe 1 n ++ natLe 1 (s.classOf n) ++ natLe 1 (s.rd kPosition) ++ natLe 1 0 ++ natLe 4 0 ++ natLe 16 s.stickyMap.toNat] ∧ t.msg u 22 = { s.msg u 22 with ident := 4 * 128 + s.node + 2 ^ 30 + (if s.rd 0xC04101 = 1 then 2 ^ 31 else 0), dlc := 12, data := pad64 (natLe 1 n ++ natLe 1 (s.classOf n) ++ natLe 1 (s.rd kPosition) ++ natLe 1 0 ++ natLe 4 0 ++ natLe 16 s.stickyMap.toNat), ostat := (t.msg u 22).ostat, readyAt := (t.msg u 22).readyAt } ∧
          (isTx (s.msg u 22) = true → s.canMode u 1 = true → isPending (t.msg u 22) = true) ∧ t.can[otherCan u] = s.can[otherCan u] ∧ (∀ m : Fin 100, m ≠ objIx 22 → t.can[u].msg[m] = s.can[u].msg[m]) ∧ t.wdp.events[otherCan u] = s.wdp.events[otherCan u] ∧
          t = { s with free := t.free, can := t.can, wdp := { s.wdp with events := t.wdp.events } }) ∧
    (∀ (u : Fin 2) (x : Nat × Nat × Nat) (xs : List (Nat × Nat × Nat)), s.speaks = true → s.canHolder = u → isPending (s.msg u 22) = false → isValid (s.msg u 22) = true → s.wdp.events[u].find? relayed = none → ((bitsOf 128 s.collector.wdpMarks.toNat).find? (fun n => ownEvent s.wdp.events[otherCan u] != some n) = none) → s.collector.relay = x :: xs →
      Completes (.wdpEventSend) s fun t =>
          t.collector.relay = xs ∧ t.wdp.events[u] = [natLe 1 x.2.1 ++ natLe 1 (s.classOf x.2.1) ++ natLe 1 x.1 ++ natLe 1 1 ++ natLe 4 0 ++ natLe 16 x.2.2] ∧ t.msg u 22 = { s.msg u 22 with ident := 4 * 128 + s.node + 2 ^ 30 + (if s.rd 0xC04101 = 1 then 2 ^ 31 else 0), dlc := 12, data := pad64 (natLe 1 x.2.1 ++ natLe 1 (s.classOf x.2.1) ++ natLe 1 x.1 ++ natLe 1 1 ++ natLe 4 0 ++ natLe 16 x.2.2), ostat := (t.msg u 22).ostat, readyAt := (t.msg u 22).readyAt } ∧
          (isTx (s.msg u 22) = true → s.canMode u 1 = true → isPending (t.msg u 22) = true) ∧ t.can[otherCan u] = s.can[otherCan u] ∧ (∀ m : Fin 100, m ≠ objIx 22 → t.can[u].msg[m] = s.can[u].msg[m]) ∧ t.wdp.events[otherCan u] = s.wdp.events[otherCan u] ∧
          t = { s with free := t.free, can := t.can, wdp := { s.wdp with events := t.wdp.events }, collector := { s.collector with relay := t.collector.relay } }) ∧
    (∀ (u : Fin 2), s.canHolder = u → (s.speaks = false ∨ isPending (s.msg u 22) = true ∨ isValid (s.msg u 22) = false ∨ (s.wdp.events[u].find? relayed = none ∧ s.collector.wdpMarks = 0 ∧ s.collector.relay = [])) →
      Completes (.wdpEventSend) s fun t =>
          t = s) ∧
    (∀ (q : Path), s.manager = false → s.collector.risen ≠ 0 → s.pathTo 0 = some q → s.posOn q ≠ none → s.maySend (uLane q) = true →
      Completes (.eventFrameSend) s fun t =>
          t.collector.risen = 0 ∧ queued s t (uLane q) 0x0C true 0 (natLe 16 s.collector.risen.toNat ++ (natLe 4 (s.rd 0xA00001) ++ natLe 4 (s.rd 0xA00002) ++ natLe 4 (s.rd 0xA00003) ++ natLe 4 (s.rd 0xA00004))) = true ∧ (∀ i : Lane, i ≠ uLane q → t.lanes[i] = s.lanes[i]) ∧
          KeepsObjs [0xB00508] s t ∧
          t = { s with objs := t.objs, lanes := t.lanes, collector := { s.collector with risen := t.collector.risen }, frames := { s.frames with txSeq := t.frames.txSeq } }) ∧
    ((s.manager = true ∨ s.collector.risen = 0 ∨ s.pathTo 0 = none) →
      Completes (.eventFrameSend) s fun t =>
          t = s) ∧
    (∀ (f : Frame), s.laneUp (inLane f) = true → s.manager = true → f.src.toNat < 32 → (s.heard f).takesFrom f.path f.src.toNat = true →
      Completes (.eventFrameReceive f) s fun t =>
          t.rd 0xB00509 = wrapInc 32 (s.rd 0xB00509) ∧ t.bitAt 0xA0040A f.src.toNat = true ∧ t.collector.relay = s.collector.relay ++ (bitsOf 128 (leAt f.payload 0 16)).map (fun n => (f.src.toNat, n, leAt f.payload 16 16)) ∧ (s.manager = true → f.up = true → f.lease = true → f.src.toNat < 32 → t.bitAt 0xB0200A f.src.toNat = (f.path == 1)) ∧
          KeepsObjs [0xA0040A, 0xB0200A, 0xB00509] s t ∧
          t = { s with objs := t.objs, jobs := t.jobs, collector := { s.collector with relay := t.collector.relay } }) ∧
    (∀ (f : Frame), s.laneUp (inLane f) = true → s.manager = true → (s.heard f).takesFrom f.path f.src.toNat = false →
      Completes (.eventFrameReceive f) s fun t =>
          t.rd 0xB00509 = wrapInc 32 (s.rd 0xB00509) ∧ t.rd 0xB0200B = wrapInc 32 (s.rd 0xB0200B) ∧ (s.manager = true → f.up = true → f.lease = true → f.src.toNat < 32 → t.bitAt 0xB0200A f.src.toNat = (f.path == 1)) ∧
          KeepsObjs [0xB0200A, 0xB0200B, 0xB00509] s t ∧
          t = { s with objs := t.objs, jobs := t.jobs }) ∧
    (∀ (f : Frame), s.laneUp (inLane f) = true → (s.heard f).takesFrom f.path f.src.toNat = true → (s.dev = 2 ∨ s.dev = 3 ∨ s.dev = 4) →
      Completes (.safeFrameReceive f) s fun t =>
          t.rd 0xB00509 = wrapInc 32 (s.rd 0xB00509) ∧ t.dev = 6 ∧ t.rd kSafeCause = 5 ∧ t.rd kEntryS = s.net.sec ∧ t.rd kEntryNs = s.ns ∧ (∀ c : Cell, s.fitted c = true → s.cellSt c = 1 ∨ s.cellSt c = 2 → t.cellSt c = 0) ∧ (∀ l : Line, s.gates[l] = false → t.gates[l] = false) ∧ t.tick = s.tick ∧ (s.manager = true → f.up = true → f.lease = true → f.src.toNat < 32 → t.bitAt 0xB0200A f.src.toNat = (f.path == 1)) ∧
          t = { s with objs := t.objs, power := t.power, gates := t.gates, carriers := t.carriers, legs := t.legs, guard := t.guard, rails := t.rails, engines := t.engines, charge := t.charge, string := t.string, thermal := t.thermal, free := t.free, modeDone := t.modeDone, jobs := t.jobs, clock := { s.clock with lines := t.clock.lines } }) ∧
    (∀ (f : Frame), s.laneUp (inLane f) = true → (s.heard f).takesFrom f.path f.src.toNat = true → (s.dev = 0 ∨ s.dev = 1 ∨ s.dev = 5) →
      Completes (.safeFrameReceive f) s fun t =>
          t.rd 0xB00509 = wrapInc 32 (s.rd 0xB00509) ∧ t.bitAt kFlags 1 = true ∧ t.power = { s.power with pendingCause := (if s.bitAt kFlags 1 then s.power.pendingCause else 5) } ∧ (s.manager = true → f.up = true → f.lease = true → f.src.toNat < 32 → t.bitAt 0xB0200A f.src.toNat = (f.path == 1)) ∧
          KeepsObjs [kFlags, 0xB0200A, 0xB00509] s t ∧
          t = { s with objs := t.objs, power := t.power, jobs := t.jobs }) ∧
    (∀ (f : Frame), s.laneUp (inLane f) = true → (s.heard f).takesFrom f.path f.src.toNat = true → (s.dev = 6 ∨ s.dev = 7) →
      Completes (.safeFrameReceive f) s fun t =>
          t.rd 0xB00509 = wrapInc 32 (s.rd 0xB00509) ∧ (s.manager = true → f.up = true → f.lease = true → f.src.toNat < 32 → t.bitAt 0xB0200A f.src.toNat = (f.path == 1)) ∧
          KeepsObjs [0xB0200A, 0xB00509] s t ∧
          t = { s with objs := t.objs, jobs := t.jobs }) ∧
    (∀ (f : Frame), s.laneUp (inLane f) = true → (s.heard f).takesFrom f.path f.src.toNat = false →
      Completes (.safeFrameReceive f) s fun t =>
          t.rd 0xB00509 = wrapInc 32 (s.rd 0xB00509) ∧ t.rd 0xB0200B = wrapInc 32 (s.rd 0xB0200B) ∧ (s.manager = true → f.up = true → f.lease = true → f.src.toNat < 32 → t.bitAt 0xB0200A f.src.toNat = (f.path == 1)) ∧
          KeepsObjs [0xB0200A, 0xB0200B, 0xB00509] s t ∧
          t = { s with objs := t.objs, jobs := t.jobs })

/-- The Orsolane lease: due instants, expiry, LEASE frames, LEASE_NS. A due instant without a frame extrapolates the references up to EXTRAP_PERIODS, then begins the missed-reference state with source 106, and the zero pattern where HOLD_PATTERN asks for it; at the second one without a renewal the lease goes too. Expiry, that release and a LEASE frame's give the lease to the other path where it is GOOD, fresh, counted and with source 101, else to none with source 103, with causes 6, 4 and 5; a release of the other path is ignored, counted and noted. A renewal on the holder's path sets LEASE_NS and, with LEASE, renews; REVERT moves the lease to a GOOD path, fresh. While PSEL_N is low, and where the frame names another path or one that is not GOOD, LEASE frames are ignored and counted; the manager only counts them as received. LEASE_NS takes an accepted value in the manager, which tells it in a LEASE frame on each offered path. Under hypotheses on the state and the operands alone, exec answers a next state with the command's own effect for: orsolaneDueInstant, leaseExpiry, leaseFrameRenew, leaseFrameRelease, leaseFrameRevert, leaseNsWrite. (spec/15 R481, R485, R486, R487, R490, R491, R494, R495, R506.) -/
def Obligations.OrsolaneLeaseMoves : Prop :=
  ∀ s : State,
    (∀ (d : Nat), s.nextDue = some d → (s.stringRx.dues = 1 → s.manager = true ∨ s.renewedSince = true) →
      Completes (.orsolaneDueInstant) s fun t =>
          t.stringRx = { s.stringRx with dues := s.stringRx.dues + 1 } ∧ t.tick = max s.tick d ∧
          (s.stringRx.dues + 1 ≤ s.rd 0xB02105 → t.bitAt 0xB02003 4 = true ∧ (∀ c : Cell, t.refs.modRef[c] = extrapolate s.stringRx.ma[c] s.stringRx.mb[c] (s.stringRx.dues + 1)) ∧ t.refs.steer = s.refs.steer) ∧
          (s.rd 0xB02105 < s.stringRx.dues + 1 → t.bitAt 0xB02003 4 = false ∧ t.bitAt 0xB02003 5 = true ∧ t.rails.cond.getLsbD 106 = true ∧ (if s.rd 0xB02104 = 1 then ∀ c : Cell, t.refs.modRef[c] = 0 ∧ t.refs.steer[c] = 0 else t.refs = s.refs)) ∧
          KeepsObjs [0xB02003] s t ∧
          t = { s with objs := t.objs, rails := t.rails, tick := t.tick, net := t.net, stringRx := t.stringRx, refs := t.refs, lease := t.lease }) ∧
    (∀ (d : Nat), s.manager = false → s.nextDue = some d → s.stringRx.dues = 1 → s.renewedSince = false → s.pselLow = false → s.holder ≤ 1 →
      Completes (.orsolaneDueInstant) s fun t =>
          t.holder = (if s.health (1 - s.holder) = 3 then (1 - s.holder) else 0xFF) ∧ t.rd 0xB02008 = 4 ∧ (s.health (1 - s.holder) = 3 → t.rails.occ.getLsbD 101 = true ∧ t.rd 0xB02005 = wrapInc 32 (s.rd 0xB02005) ∧ t.lease.failAt = some t.tick ∧ t.lease.until_ = some (t.tick + nsTicks (s.rd 0xB02101))) ∧
          (s.health (1 - s.holder) ≠ 3 → t.rd 0xB02005 = s.rd 0xB02005 ∧ t.lease.until_ = none ∧ t.rails.cond.getLsbD 103 = true) ∧ t.stringRx = { s.stringRx with dues := 2 } ∧ t.tick = max s.tick d ∧
          KeepsOtherAreas [0xB, 0xE] s t ∧
          t = { s with tick := t.tick, net := t.net, stringRx := t.stringRx, refs := t.refs, objs := t.objs, rails := t.rails, lease := t.lease, free := t.free, jobs := t.jobs, lanes := t.lanes, gates := t.gates, carriers := t.carriers, legs := t.legs, clock := { s.clock with lines := t.clock.lines } }) ∧
    (s.nextDue = none →
      Completes (.orsolaneDueInstant) s fun t =>
          t = s) ∧
    (∀ (d : Nat), s.lease.until_ = some d → s.manager = false → s.pselLow = false → s.holder ≤ 1 →
      Completes (.leaseExpiry) s fun t =>
          t.holder = (if s.health (1 - s.holder) = 3 then (1 - s.holder) else 0xFF) ∧ t.rd 0xB02008 = 6 ∧ (s.health (1 - s.holder) = 3 → t.rails.occ.getLsbD 101 = true ∧ t.rd 0xB02005 = wrapInc 32 (s.rd 0xB02005) ∧ t.lease.failAt = some t.tick ∧ t.lease.until_ = some (t.tick + nsTicks (s.rd 0xB02101))) ∧
          (s.health (1 - s.holder) ≠ 3 → t.rd 0xB02005 = s.rd 0xB02005 ∧ t.lease.until_ = none ∧ t.rails.cond.getLsbD 103 = true) ∧ t.tick = max s.tick d ∧
          KeepsOtherAreas [0xB, 0xE] s t ∧
          t = { s with tick := t.tick, net := t.net, objs := t.objs, rails := t.rails, lease := t.lease, free := t.free, jobs := t.jobs, lanes := t.lanes, gates := t.gates, carriers := t.carriers, legs := t.legs, clock := { s.clock with lines := t.clock.lines } }) ∧
    (s.lease.until_ = none →
      Completes (.leaseExpiry) s fun t =>
          t = s) ∧
    (∀ (f : Frame), s.laneUp (inLane f) = true → s.manager = false → byteAt f.payload 0 = 0 → s.pselLow = false → s.holder = f.path.val →
      Completes (.leaseFrameRenew f) s fun t =>
          t.rd 0xB00509 = wrapInc 32 (s.rd 0xB00509) ∧ t.rd 0xB02101 = leAt f.payload 4 4 ∧ t.lease = (if f.lease then { s.lease with renewedAt := some s.tick, until_ := some (s.tick + nsTicks (leAt f.payload 4 4)) } else s.lease) ∧
          KeepsObjs [0xB02101, 0xB00509] s t ∧
          t = { s with objs := t.objs, lease := t.lease }) ∧
    (∀ (f : Frame), s.laneUp (inLane f) = true → s.manager = false → byteAt f.payload 0 = 0 → (s.pselLow = true ∨ s.holder ≠ f.path.val) →
      Completes (.leaseFrameRenew f) s fun t =>
          t.rd 0xB00509 = wrapInc 32 (s.rd 0xB00509) ∧ t.rd 0xB0200B = wrapInc 32 (s.rd 0xB0200B) ∧
          KeepsObjs [0xB0200B, 0xB00509] s t ∧
          t = { s with objs := t.objs }) ∧
    (∀ (f : Frame), s.laneUp (inLane f) = true → s.manager = false → byteAt f.payload 0 = 1 → s.pselLow = false → s.holder = f.path.val → byteAt f.payload 1 = f.path.val →
      Completes (.leaseFrameRelease f) s fun t =>
          t.rd 0xB00509 = wrapInc 32 (s.rd 0xB00509) ∧ t.holder = (if s.health (1 - s.holder) = 3 then (1 - s.holder) else 0xFF) ∧ t.rd 0xB02008 = 5 ∧ (s.health (1 - s.holder) = 3 → t.rails.occ.getLsbD 101 = true ∧ t.rd 0xB02005 = wrapInc 32 (s.rd 0xB02005) ∧ t.lease.failAt = some t.tick ∧ t.lease.until_ = some (t.tick + nsTicks (s.rd 0xB02101))) ∧
          (s.health (1 - s.holder) ≠ 3 → t.rd 0xB02005 = s.rd 0xB02005 ∧ t.lease.until_ = none ∧ t.rails.cond.getLsbD 103 = true) ∧ t.lease.released[f.path] = some s.tick ∧ t.tick = s.tick ∧
          KeepsOtherAreas [0xB, 0xE] s t ∧
          t = { s with objs := t.objs, rails := t.rails, lease := t.lease, free := t.free, jobs := t.jobs, lanes := t.lanes, gates := t.gates, carriers := t.carriers, legs := t.legs, clock := { s.clock with lines := t.clock.lines } }) ∧
    (∀ (f : Frame), s.laneUp (inLane f) = true → s.manager = false → byteAt f.payload 0 = 1 → (s.pselLow = true ∨ byteAt f.payload 1 ≠ f.path.val) →
      Completes (.leaseFrameRelease f) s fun t =>
          t.rd 0xB00509 = wrapInc 32 (s.rd 0xB00509) ∧ t.rd 0xB0200B = wrapInc 32 (s.rd 0xB0200B) ∧
          KeepsObjs [0xB0200B, 0xB00509] s t ∧
          t = { s with objs := t.objs }) ∧
    (∀ (f : Frame), s.laneUp (inLane f) = true → s.manager = false → byteAt f.payload 0 = 1 → s.pselLow = false → s.holder ≠ f.path.val → byteAt f.payload 1 = f.path.val →
      Completes (.leaseFrameRelease f) s fun t =>
          t.rd 0xB00509 = wrapInc 32 (s.rd 0xB00509) ∧ t.rd 0xB0200B = wrapInc 32 (s.rd 0xB0200B) ∧ t.lease.released = s.lease.released.set f.path (some s.tick) ∧ t.holder = s.holder ∧
          KeepsObjs [0xB0200B, 0xB02003, 0xB00509] s t ∧
          t = { s with objs := t.objs, lease := t.lease }) ∧
    (∀ (f : Frame), s.laneUp (inLane f) = true → s.manager = false → byteAt f.payload 0 = 2 → s.pselLow = false → byteAt f.payload 1 ≤ 1 → s.health (byteAt f.payload 1) = 3 →
      Completes (.leaseFrameRevert f) s fun t =>
          t.rd 0xB00509 = wrapInc 32 (s.rd 0xB00509) ∧ t.holder = byteAt f.payload 1 ∧ (s.holder ≠ byteAt f.payload 1 → t.lease.until_ = some (s.tick + nsTicks (s.rd 0xB02101)) ∧ t.lease.renewedAt = none) ∧ (s.holder = byteAt f.payload 1 → t.lease = s.lease ∧ t.rails = s.rails) ∧
          KeepsObjs [0xB02001, 0xB02003, 0xB00509] s t ∧
          t = { s with objs := t.objs, rails := t.rails, lease := t.lease }) ∧
    (∀ (f : Frame), s.laneUp (inLane f) = true → s.manager = false → byteAt f.payload 0 = 2 → (s.pselLow = true ∨ 1 < byteAt f.payload 1 ∨ s.health (byteAt f.payload 1) ≠ 3) →
      Completes (.leaseFrameRevert f) s fun t =>
          t.rd 0xB00509 = wrapInc 32 (s.rd 0xB00509) ∧ t.rd 0xB0200B = wrapInc 32 (s.rd 0xB0200B) ∧
          KeepsObjs [0xB0200B, 0xB00509] s t ∧
          t = { s with objs := t.objs }) ∧
    (∀ (f : Frame), s.laneUp (inLane f) = true → s.manager = true → f.up = false →
      Completes (.leaseFrameRenew f) s fun t =>
          t.rd 0xB00509 = wrapInc 32 (s.rd 0xB00509) ∧
          KeepsObjs [0xB00509] s t ∧
          t = { s with objs := t.objs }) ∧
    (∀ (f : Frame), s.laneUp (inLane f) = true → s.manager = true → f.up = false →
      Completes (.leaseFrameRelease f) s fun t =>
          t.rd 0xB00509 = wrapInc 32 (s.rd 0xB00509) ∧
          KeepsObjs [0xB00509] s t ∧
          t = { s with objs := t.objs }) ∧
    (∀ (f : Frame), s.laneUp (inLane f) = true → s.manager = true → f.up = false →
      Completes (.leaseFrameRevert f) s fun t =>
          t.rd 0xB00509 = wrapInc 32 (s.rd 0xB00509) ∧
          KeepsObjs [0xB00509] s t ∧
          t = { s with objs := t.objs }) ∧
    (∀ (v : BitVec 32), s.power.supervisor = true → s.manager = true → s.dev ≠ 0 → 8000 ≤ v.toNat → v.toNat ≤ 10000000 → 16 * s.rd 0x801001 ≤ 5 * v.toNat →
      Completes (.leaseNsWrite v) s fun t =>
          t.lastStatus = 0 ∧ t.rd 0xB02101 = v.toNat ∧ offers s t = true ∧
          KeepsObjs [0xB02101, 0xB00508] s t ∧
          t = { s with objs := t.objs, lanes := t.lanes, lastStatus := t.lastStatus, lastData := t.lastData, frames := { s.frames with txSeq := t.frames.txSeq } })

/-- The CAN lease, reversion, PSEL_N. The CAN lease that expires moves to the other channel, with a fresh CAN_LEASE_MS, a fail-over counted and source 104, where that is GOOD, else lapses with source 103. A reversion hold-off that passes makes the Orsolane lease's reversion due, and moves the CAN lease to its preferred channel, counted and with source 104. A level of PSEL_N stable for 64 ticks is sensed: both leases are on X and CANA, without expiry while it is low and fresh when it is high, and what is stuck ends with the high level; a shorter one, and the level already sensed, change nothing. The hold-off after HATCH ends: the manager drives PSEL_N as its state asks, and where it releases the line it tells its lease in a LEASE frame on each offered path. PSEL_N low for 1 ms that the manager does not drive, or that a worker out of HATCH whose holder was path Y sees, is stuck and makes path Y BAD with cause 9 and source 105. Under hypotheses on the state and the operands alone, exec answers a next state with the command's own effect for: canLeaseExpiry, revertHoldoffExpiry, pselNChange, pselHoldoffExpiry, pselStuck. (spec/15 R487, R493, R495, R497, R498, R499, R500, R501, R504.) -/
def Obligations.CanLeaseReversionAndPselN : Prop :=
  ∀ s : State,
    (∀ (d : Nat), s.lease.canUntil = some d → s.pselLow = false → s.rd 0xB02002 ≤ 1 →
      Completes (.canLeaseExpiry) s fun t =>
          (s.rd (0xB02211 + (1 - s.rd 0xB02002)) = 3 → t.rd 0xB02002 = (1 - s.rd 0xB02002) ∧ t.bitAt 0xB02003 3 = false ∧ t.rails.occ.getLsbD 104 = true ∧ t.rd 0xB02009 = wrapInc 32 (s.rd 0xB02009) ∧ t.lease.canUntil = (if s.rd 0xB0210B = 0 ∨ s.pselLow = true then none else some (t.tick + msTicks (s.rd 0xB0210B)))) ∧
          (s.rd (0xB02211 + (1 - s.rd 0xB02002)) ≠ 3 → t.rd 0xB02002 = s.rd 0xB02002 ∧ t.bitAt 0xB02003 3 = true ∧ t.rails.cond.getLsbD 103 = true ∧ t.lease.canUntil = none ∧ t.rd 0xB02009 = s.rd 0xB02009) ∧ t.tick = max s.tick d ∧
          KeepsObjs [0xB02002, 0xB02003, 0xB02009] s t ∧
          t = { s with objs := t.objs, rails := t.rails, tick := t.tick, net := t.net, lease := t.lease }) ∧
    (s.lease.canUntil = none →
      Completes (.canLeaseExpiry) s fun t =>
          t = s) ∧
    (∀ (can : Bool) (d : Nat), ((if can then s.lease.canRevertFrom else s.lease.revertFrom) = some d) →
      Completes (.revertHoldoffExpiry can) s fun t =>
          t.tick = max s.tick (d + msTicks (s.rd 0xB02103)) ∧ (can = false → t.lease = { s.lease with revertDue := true } ∧ t.objs = s.objs ∧ t.rails = s.rails) ∧ (can = true → t.rd 0xB02002 = s.rd 0xB0210C ∧ t.bitAt 0xB02003 3 = false ∧ t.rails.occ.getLsbD 104 = true ∧ t.rd 0xB02009 = wrapInc 32 (s.rd 0xB02009) ∧ t.lease.canUntil = (if s.rd 0xB0210B = 0 ∨ s.pselLow = true then none else some (t.tick + msTicks (s.rd 0xB0210B)))) ∧
          KeepsObjs [0xB02002, 0xB02003, 0xB02009] s t ∧
          t = { s with objs := t.objs, rails := t.rails, tick := t.tick, net := t.net, lease := t.lease }) ∧
    (∀ (can : Bool), ((if can then s.lease.canRevertFrom else s.lease.revertFrom) = none) →
      Completes (.revertHoldoffExpiry can) s fun t =>
          t = s) ∧
    (∀ (low : Bool) (ticks : BitVec 32), (s.pselLow = low ∨ ticks.toNat < 64) →
      Completes (.pselNChange low ticks) s fun t =>
          t = s) ∧
    (∀ (low : Bool) (ticks : BitVec 32), s.pselLow = !low → 64 ≤ ticks.toNat →
      Completes (.pselNChange low ticks) s fun t =>
          t.pins = { s.pins with pselN := !low } ∧ t.pselLow = low ∧ t.holder = 0 ∧ t.rd 0xB02002 = 0 ∧ t.bitAt 0xB02003 3 = false ∧ t.lease.lowAt = (if low then some s.tick else none) ∧
          t.lease.risen = (s.lease.risen || !low) ∧ t.lease.until_ = (if low = true ∨ s.manager = true then none else some (s.tick + nsTicks (s.rd 0xB02101))) ∧ t.lease.canUntil = (if low = true ∨ s.rd 0xB0210B = 0 then none else some (s.tick + msTicks (s.rd 0xB0210B))) ∧
          (low = false → t.bitAt 0xB02003 2 = false ∧ t.lease.stuck = false ∧ t.paths = upd s.paths 1 fun p => { p with stuck := false }) ∧ (low = true → t.bitAt 0xB02003 2 = s.bitAt 0xB02003 2 ∧ t.lease.stuck = s.lease.stuck ∧ t.paths = s.paths) ∧
          KeepsObjs [0xB02001, 0xB02002, 0xB02003] s t ∧
          t = { s with objs := t.objs, pins := t.pins, rails := t.rails, lease := t.lease, paths := t.paths }) ∧
    (∀ (d : Nat), s.lease.holdoffAt = some d →
      Completes (.pselHoldoffExpiry) s fun t =>
          t.lease.holdoffAt = none ∧ t.tick = max s.tick d ∧ t.bitAt 0xB02003 1 = (s.manager && !s.inReset && s.dev != 0 && !s.bitAt 0xB03003 4 && (s.dev == 1 || s.dev == 5 || s.rd 0xB02109 == 1)) ∧
          (s.bitAt 0xB02003 1 = true → t.bitAt 0xB02003 1 = false → offers s t = true) ∧ (s.bitAt 0xB02003 1 = false ∨ t.bitAt 0xB02003 1 = true → t.lanes = s.lanes ∧ t.frames = s.frames) ∧
          KeepsObjs [0xB02003, 0xB00508] s t ∧
          t = { s with objs := t.objs, tick := t.tick, net := t.net, lease := t.lease, lanes := t.lanes, frames := { s.frames with txSeq := t.frames.txSeq } }) ∧
    (∀ (d : Nat), s.lease.lowAt = some d → s.lease.stuck = false → ((s.manager = true ∧ s.bitAt 0xB02003 1 = false) ∨ (s.manager = false ∧ s.dev ≠ 1 ∧ s.lease.wasY = true)) →
      Completes (.pselStuck) s fun t =>
          t.lease.stuck = true ∧ t.bitAt 0xB02003 2 = s.manager ∧ t.paths = (upd s.paths 1 fun p => { p with stuck := true }) ∧ t.health 1 = 1 ∧ (s.health 1 ≠ 1 → t.rd 0xB0220E = 9 ∧ t.rd 0xB0220F = t.net.sec) ∧ t.rails.cond.getLsbD 105 = true ∧ t.tick = max s.tick (d + msTicks 1) ∧
          KeepsObjs [0xB02003, 0xB02209, 0xB0220E, 0xB0220F] s t ∧
          t = { s with objs := t.objs, rails := t.rails, tick := t.tick, net := t.net, lease := t.lease, paths := t.paths }) ∧
    ((s.lease.lowAt = none ∨ s.lease.stuck = true ∨ (s.manager = true ∧ s.bitAt 0xB02003 1 = true) ∨ (s.manager = false ∧ (s.dev = 1 ∨ s.lease.wasY = false))) →
      Completes (.pselStuck) s fun t =>
          t = s)

/-- FIREFLY beacons and echoes; the health evaluation. The manager numbers its beacons per worker and path, one per FIREFLY_PERIOD to each and all of them spread evenly over it; a worker checks a beacon addressed to it, notes its number and instant, and counts no loss where the numbers follow each other. A worker sends the numbered echo requests that are due, an ECHO_PERIOD after the last, on each path it has a position on; the manager's lane returns them, and the reply gives the round-trip time. A health evaluation, a millisecond after the last, stores what it measured, adds the code errors of both lanes, and gives BER_EST from the errors of the last second; a lane that is not UP makes its path BAD. Under hypotheses on the state and the operands alone, exec answers a next state with the command's own effect for: fireflyBeaconSend, fireflyBeaconReceive, fireflyEchoSend, fireflyEchoRequestReceive, fireflyEchoReplyReceive, healthEvaluation. (spec/15 R502, R503, R504.) -/
def Obligations.FireflyAndHealth : Prop :=
  ∀ s : State,
    (∀ (p : Fin 32) (q : Path), s.manager = true → 2 ≤ s.dev → 0 < p.val → p.val < s.rd (0xB03004 + q.val) → s.maySend (dLane q) = true →
      Completes (.fireflyBeaconSend p q) s fun t =>
          t.paths[q].beaconTx[p] = wrapInc 32 s.paths[q].beaconTx[p] ∧ t.paths[q].beaconTo[p] = some t.tick ∧ t.lease = { s.lease with beaconAt := some t.tick } ∧ queued s t (dLane q) 8 false p (t.firefly s.paths[q].beaconTx[p] 0 (prbsBytes s.paths[q].prbsTx[p]).1) = true ∧
          t.tick = max s.tick (max ((s.paths[q].beaconTo[p].map fun x => x + usTicks (s.rd 0xB0210D) / (if s.soaks q then 10 else 1)).getD 0) ((s.lease.beaconAt.map fun x => x + usTicks (s.rd 0xB0210D) / (if s.soaks q then 10 else 1) / (s.rd 0xB03004 - 1 + (s.rd 0xB03005 - 1))).getD 0)) ∧
          KeepsObjs [0xB00508] s t ∧
          t = { s with objs := t.objs, paths := t.paths, lanes := t.lanes, lease := t.lease, tick := t.tick, net := t.net, frames := { s.frames with txSeq := t.frames.txSeq } }) ∧
    (∀ (f : Frame), s.laneUp (inLane f) = true → s.manager = false → byteAt f.payload 4 = 0 → s.posOn f.path = some f.dst.toNat →
      Completes (.fireflyBeaconReceive f) s fun t =>
          t.rd 0xB00509 = wrapInc 32 (s.rd 0xB00509) ∧ t.paths[f.path].beaconRx = some (leAt f.payload 0 4) ∧ t.paths[f.path].beaconAt = s.tick ∧ (s.paths[f.path].beaconRx = some ((leAt f.payload 0 4 + 2 ^ 32 - 1) % 2 ^ 32) → t.objs = s.objs) ∧
          KeepsObjs [0xB02208 + 8 * f.path.val, 0xB00509] s t ∧
          t = { s with objs := t.objs, paths := t.paths, jobs := t.jobs }) ∧
    (s.manager = false → 2 ≤ s.dev →
      Completes (.fireflyEchoSend) s fun t =>
          t.tick = max s.tick (min (s.echoDue 0) (s.echoDue 1)) ∧ (∀ q : Path, s.posOn q ≠ none → s.maySend (uLane q) = true → s.echoDue q ≤ t.tick → t.paths[q].echoTx = wrapInc 32 s.paths[q].echoTx ∧ t.paths[q].echoSent = some t.tick ∧ (t.lanes[uLane q].queue.any fun x => x.f.typ == 8 && x.f.dst == 0 && x.f.payload == t.firefly s.paths[q].echoTx 1 (prbsBytes s.paths[q].echoPrbs).1) = true) ∧
          (∀ q : Path, (s.posOn q = none ∨ s.maySend (uLane q) = false ∨ t.tick < s.echoDue q) → t.paths[q] = s.paths[q]) ∧
          KeepsObjs [0xB00508] s t ∧
          t = { s with objs := t.objs, paths := t.paths, lanes := t.lanes, tick := t.tick, net := t.net, frames := { s.frames with txSeq := t.frames.txSeq } }) ∧
    (∀ (f : Frame), s.laneUp (inLane f) = true → s.manager = true → byteAt f.payload 4 = 1 → s.maySend (dLane f.path) = true →
      Completes (.fireflyEchoRequestReceive f) s fun t =>
          t.rd 0xB00509 = wrapInc 32 (s.rd 0xB00509) ∧ queued s t (dLane f.path) 8 false f.src.toNat (f.payload.take 4 ++ natLe 4 2 ++ f.payload.drop 8) = true ∧
          KeepsObjs [0xB00508, 0xB0200A, 0xB00509] s t ∧
          t = { s with objs := t.objs, lanes := t.lanes, jobs := t.jobs, frames := { s.frames with txSeq := t.frames.txSeq } }) ∧
    (∀ (f : Frame) (rx : BitVec 128), s.laneUp (inLane f) = true → s.manager = false → byteAt f.payload 4 = 2 → s.posOn f.path = some f.dst.toNat →
      Completes (.fireflyEchoReplyReceive f rx) s fun t =>
          t.rd 0xB00509 = wrapInc 32 (s.rd 0xB00509) ∧ t.paths[f.path].echoAt = s.tick ∧ t.rd (0xB02204 + 8 * f.path.val) = fmt32.div (fmt32.ofInt (stampUnits rx.toNat - stampAt f.payload 8) (-16)) (fmt32.ofInt 1000000000) ∧
          KeepsObjs [0xB02204 + 8 * f.path.val, 0xB00509] s t ∧
          t = { s with objs := t.objs, paths := t.paths, jobs := t.jobs }) ∧
    (∀ (q : Path) (bits : BitVec 64) (errors : BitVec 32) (others : BitVec 32) (margin : F32), Completes (.healthEvaluation q bits errors others margin) s fun t =>
          t.rd (0xB02203 + 8 * q.val) = bits.toNat ∧ t.rd (0xB02205 + 8 * q.val) = margin.toNat ∧ (∀ i : Lane, t.rd (kLane i 0x0A) = if i = s.judged q then wrapInc 32 (s.rd (kLane i 0x0A)) errors.toNat else if lanePath i = q then wrapInc 32 (s.rd (kLane i 0x0A)) others.toNat else s.rd (kLane i 0x0A)) ∧
          (bits.toNat ≠ 0 → t.rd (0xB02202 + 8 * q.val) = fmt32.div (fmt32.ofInt ((t.paths[q].errs.map fun e => e.2).sum : Nat)) (fmt32.ofInt bits.toNat)) ∧ (t.paths[q].errs.all fun e => decide (t.tick < e.1 + 625000000)) = true ∧
          (s.laneUp (s.judged q) = false → t.health q = 1) ∧ t.paths[q].evalAt = t.tick ∧ t.tick = max s.tick (s.paths[q].evalAt + msTicks 1) ∧
          KeepsOtherAreas [0xB] s t ∧
          t = { s with tick := t.tick, net := t.net, free := t.free, objs := t.objs, paths := t.paths, rails := t.rails, lease := t.lease })

/-- TIME_SYNC, TIME_INCREMENT, TIME_STEP. A worker takes a TIME_SYNC of its serving path: the increment alone, a set of network time, or a step; one of another path it ignores and counts, and the manager, which receives no TIME_SYNC, only counts the frame. The increment written by the host takes effect where it is accepted; a step is added at the next tick, counted, gives way to a set in that tick, and is refused with STATUS 6 where time would become negative. Under hypotheses on the state and the operands alone, exec answers a next state with the command's own effect for: timeSyncIncrement, timeSyncSet, timeSyncStep, timeIncrementWrite, timeStep. (spec/14 R462, R463, R464, R467.) -/
def Obligations.NetworkTimeIsSetAndStepped : Prop :=
  ∀ s : State,
    (∀ (f : Frame), s.laneUp (inLane f) = true → s.manager = false → s.takesFrom f.path 0 = true → byteAt f.payload 24 = 0 →
      Completes (.timeSyncIncrement f) s fun t =>
          t.rd 0xB00509 = wrapInc 32 (s.rd 0xB00509) ∧ t.rd 0xB01101 = leAt f.payload 32 8 ∧
          KeepsObjs [0xB01101, 0xB00509] s t ∧
          t = { s with objs := t.objs }) ∧
    (∀ (f : Frame), s.laneUp (inLane f) = true → s.manager = false → s.takesFrom f.path 0 = true → byteAt f.payload 24 = 1 →
      Completes (.timeSyncSet f) s fun t =>
          t.rd 0xB00509 = wrapInc 32 (s.rd 0xB00509) ∧ t.rd 0xB01101 = leAt f.payload 32 8 ∧ t.net = netOf ((stampAt f.payload 0 + i64At f.payload 16 + i64At f.payload 40) * 65536).toNat ∧ t.rd 0xB01202 = wrapInc 32 (s.rd 0xB01202) ∧ t.time = { s.time with setAt := some s.tick } ∧
          KeepsObjs [0xB01101, 0xB01202, 0xB00509] s t ∧
          t = { s with objs := t.objs, net := t.net, carriers := t.carriers, legs := t.legs, time := t.time }) ∧
    (∀ (f : Frame), s.laneUp (inLane f) = true → s.manager = false → s.takesFrom f.path 0 = true → byteAt f.payload 24 = 2 → 0 ≤ (s.netUnits : Int) + i64At f.payload 40 * 65536 →
      Completes (.timeSyncStep f) s fun t =>
          t.rd 0xB00509 = wrapInc 32 (s.rd 0xB00509) ∧ t.rd 0xB01101 = leAt f.payload 32 8 ∧ t.net = netOf ((s.netUnits : Int) + i64At f.payload 40 * 65536).toNat ∧ t.rd 0xB01202 = wrapInc 32 (s.rd 0xB01202) ∧
          KeepsObjs [0xB01101, 0xB01202, 0xB00509] s t ∧
          t = { s with objs := t.objs, net := t.net, carriers := t.carriers, legs := t.legs }) ∧
    (∀ (f : Frame), s.laneUp (inLane f) = true → s.manager = false → byteAt f.payload 24 = 0 → s.takesFrom f.path 0 = false →
      Completes (.timeSyncIncrement f) s fun t =>
          t.rd 0xB00509 = wrapInc 32 (s.rd 0xB00509) ∧ t.rd 0xB0200B = wrapInc 32 (s.rd 0xB0200B) ∧
          KeepsObjs [0xB0200B, 0xB00509] s t ∧
          t = { s with objs := t.objs }) ∧
    (∀ (f : Frame), s.laneUp (inLane f) = true → s.manager = true → f.up = false →
      Completes (.timeSyncIncrement f) s fun t =>
          t.rd 0xB00509 = wrapInc 32 (s.rd 0xB00509) ∧
          KeepsObjs [0xB00509] s t ∧
          t = { s with objs := t.objs }) ∧
    (∀ (f : Frame), s.laneUp (inLane f) = true → s.manager = false → byteAt f.payload 24 = 1 → s.takesFrom f.path 0 = false →
      Completes (.timeSyncSet f) s fun t =>
          t.rd 0xB00509 = wrapInc 32 (s.rd 0xB00509) ∧ t.rd 0xB0200B = wrapInc 32 (s.rd 0xB0200B) ∧
          KeepsObjs [0xB0200B, 0xB00509] s t ∧
          t = { s with objs := t.objs }) ∧
    (∀ (f : Frame), s.laneUp (inLane f) = true → s.manager = true → f.up = false →
      Completes (.timeSyncSet f) s fun t =>
          t.rd 0xB00509 = wrapInc 32 (s.rd 0xB00509) ∧
          KeepsObjs [0xB00509] s t ∧
          t = { s with objs := t.objs }) ∧
    (∀ (f : Frame), s.laneUp (inLane f) = true → s.manager = false → byteAt f.payload 24 = 2 → s.takesFrom f.path 0 = false →
      Completes (.timeSyncStep f) s fun t =>
          t.rd 0xB00509 = wrapInc 32 (s.rd 0xB00509) ∧ t.rd 0xB0200B = wrapInc 32 (s.rd 0xB0200B) ∧
          KeepsObjs [0xB0200B, 0xB00509] s t ∧
          t = { s with objs := t.objs }) ∧
    (∀ (f : Frame), s.laneUp (inLane f) = true → s.manager = true → f.up = false →
      Completes (.timeSyncStep f) s fun t =>
          t.rd 0xB00509 = wrapInc 32 (s.rd 0xB00509) ∧
          KeepsObjs [0xB00509] s t ∧
          t = { s with objs := t.objs }) ∧
    (∀ (v : BitVec 64), s.power.supervisor = true → s.dev ≠ 0 → incrementOk v.toNat = true →
      Completes (.timeIncrementWrite v) s fun t =>
          t.lastStatus = 0 ∧ t.rd 0xB01101 = v.toNat ∧
          KeepsObjs [0xB01101] s t ∧
          t = { s with objs := t.objs, lastStatus := t.lastStatus, lastData := t.lastData }) ∧
    (∀ (data : BitVec 128), s.power.supervisor = true → s.dev ≠ 0 → 0 ≤ ((s.advance 1).netUnits : Int) + stepOffset (natLe 16 data.toNat) * 65536 → s.time.setAt ≠ some (s.tick + 1) →
      Completes (.timeStep data) s fun t =>
          t.lastStatus = 0 ∧ t.tick = s.tick + 1 ∧ t.net = netOf (((s.advance 1).netUnits : Int) + stepOffset (natLe 16 data.toNat) * 65536).toNat ∧ t.rd 0xB01202 = wrapInc 32 (s.rd 0xB01202) ∧
          KeepsObjs [0xB01202] s t ∧
          t = { s with objs := t.objs, tick := t.tick, net := t.net, carriers := t.carriers, legs := t.legs, lastStatus := t.lastStatus, lastData := t.lastData }) ∧
    (∀ (data : BitVec 128), s.power.supervisor = true → s.dev ≠ 0 → 0 ≤ ((s.advance 1).netUnits : Int) + stepOffset (natLe 16 data.toNat) * 65536 → s.time.setAt = some (s.tick + 1) →
      Completes (.timeStep data) s fun t =>
          t.lastStatus = 0 ∧ t.tick = s.tick + 1 ∧ t.net = (s.advance 1).net ∧ t.rd 0xB01202 = wrapInc 32 (s.rd 0xB01202) ∧
          KeepsObjs [0xB01202] s t ∧
          t = { s with objs := t.objs, tick := t.tick, net := t.net, lastStatus := t.lastStatus, lastData := t.lastData }) ∧
    (∀ (data : BitVec 128), s.power.supervisor = true → s.dev ≠ 0 → ((s.advance 1).netUnits : Int) + stepOffset (natLe 16 data.toNat) * 65536 < 0 →
      Completes (.timeStep data) s fun t =>
          t.lastStatus = 6 ∧ t.net = s.net ∧
          t = { s with lastStatus := t.lastStatus, lastData := t.lastData })

/-- Delay exchanges, comparators, TSYNC. The manager numbers its exchanges and spreads those of one SYNC_INTERVAL evenly; a worker's lane answers a DELAY_REQ; the manager turns a DELAY_RESP that serves into offset and delay; an armed comparator fires at its TARGET, signals its event and counts, and with PERIOD 0 disarms; the TSYNC ball rises at the second in MODE 1 alone, falls WIDTH ticks later, and in MODE 2 stamps its input edges. Under hypotheses on the state and the operands alone, exec answers a next state with the command's own effect for: delayExchangeDue, delayReqReceive, delayRespReceive, comparatorFire, tsyncPulseStart, tsyncPulseEnd, tsyncInputEdge. (spec/14 R466, R467, R468, R469, R473, R474.) -/
def Obligations.DelayExchangesComparatorsAndTsync : Prop :=
  ∀ s : State,
    (∀ (p : Nat) (q : Path), s.manager = true → 2 ≤ s.dev → s.exchangeOf s.time.next = some (p, q) →
      Completes (.delayExchangeDue) s fun t =>
          t.time = { s.time with exchange := (s.time.exchange + 1) % 65536, next := s.time.next + 1, exchAt := t.tick } ∧ sent s t (dLane q) 5 false p (natLe 24 0 ++ natLe 2 s.time.exchange ++ natLe 6 0) = true ∧
          t.tick = max s.tick (s.time.exchAt + usTicks (s.rd 0xB01301) / (s.rd 0xB03004 - 1 + (s.rd 0xB03005 - 1))) ∧
          KeepsObjs [0xB00508] s t ∧
          t = { s with objs := t.objs, time := t.time, lanes := t.lanes, tick := t.tick, net := t.net, frames := { s.frames with txSeq := t.frames.txSeq } }) ∧
    ((s.manager = false ∨ s.dev < 2 ∨ s.exchangeOf s.time.next = none) →
      Completes (.delayExchangeDue) s fun t =>
          t = s) ∧
    (∀ (f : Frame) (rx : BitVec 128), s.laneUp (inLane f) = true → s.manager = false → s.posOn f.path = some f.dst.toNat → s.maySend (uLane f.path) = true →
      Completes (.delayReqReceive f rx) s fun t =>
          t.rd 0xB00509 = wrapInc 32 (s.rd 0xB00509) ∧ (t.lanes[uLane f.path].queue.any fun x => x.f.typ == 6 && x.f.up && x.f.dst == 0 && x.f.seq == f.seq && x.f.payload == f.payload.take 26 ++ natLe 6 (if s.bitAt kFlags 3 then 1 else 0) ++ natLe 16 (rx.toNat % 2 ^ 112) ++ natLe 24 0) = true ∧
          KeepsObjs [0xB00508, 0xB00509] s t ∧
          t = { s with objs := t.objs, lanes := t.lanes }) ∧
    (∀ (f : Frame) (rx : BitVec 128) (p : Fin 32), s.laneUp (inLane f) = true → s.manager = true → f.src.toNat = p.val → f.coarse = false → s.bitAt kFlags 3 = false → bit (byteAt f.payload 26) 0 = false → stampUnits rx.toNat - stampAt f.payload 0 ≤ 65536000000 → (s.heard f).pathTo p = some f.path →
      Completes (.delayRespReceive f rx) s fun t =>
          t.rd 0xB00509 = wrapInc 32 (s.rd 0xB00509) ∧ t.rd (0xB01421 + p.val) = fmt64.conv fmt32 (fmt64.div (halfNs ((stampAt f.payload 32 - stampAt f.payload 0 - i64At f.payload 16) + (stampUnits rx.toNat - stampAt f.payload 48 - i64At f.payload 64))) (fmt64.ofInt 1000000000)) ∧
          t.rd (0xB01401 + p.val) = fmt64.conv fmt32 (fmt64.div (halfNs ((stampAt f.payload 32 - stampAt f.payload 0 - i64At f.payload 16) - (stampUnits rx.toNat - stampAt f.payload 48 - i64At f.payload 64))) (fmt64.ofInt 1000000000)) ∧
          KeepsObjs [0xB01401 + p.val, 0xB01421 + p.val, 0xB01308, 0xB00508, 0xB0200A, 0xB00509] s t ∧
          t = { s with objs := t.objs, time := t.time, lanes := t.lanes, frames := t.frames, jobs := t.jobs }) ∧
    (∀ (k : Fin 8), s.bitAt (kComp k 4) 0 = true →
      Completes (.comparatorFire k) s fun t =>
          t.bitAt (kComp k 5) 0 = true ∧ (⟨0x100 + k.val, t.tick, []⟩ : Signal) ∈ t.signals ∧ t.rd (kComp k 6) = wrapInc 32 (s.rd (kComp k 6)) ∧ (s.rd (kComp k 2) = 0 → t.bitAt (kComp k 4) 0 = false) ∧ t.tick = s.tick + s.ticksTo (targetUnits (s.rd (kComp k 1))) ∧
          KeepsOtherAreas [0xB, 0xD] s t ∧
          t = { s with objs := t.objs, tick := t.tick, net := t.net, carriers := t.carriers, time := t.time, capture := t.capture, signals := t.signals }) ∧
    (s.rd 0xB01601 = 1 →
      Completes (.tsyncPulseStart) s fun t =>
          t.time.tsync = true ∧ t.time.tsyncEnd = some (t.tick + s.rd 0xB01602) ∧ t.tick = s.tick + s.ticksTo ((s.net.sec + 1) * secUnits) ∧
          t = { s with tick := t.tick, net := t.net, time := t.time }) ∧
    (s.rd 0xB01601 ≠ 1 →
      Completes (.tsyncPulseStart) s fun t =>
          t = s) ∧
    (∀ (d : Nat), s.time.tsyncEnd = some d →
      Completes (.tsyncPulseEnd) s fun t =>
          t.time = { s.time with tsync := false, tsyncEnd := none } ∧ t.tick = max s.tick d ∧
          t = { s with tick := t.tick, net := t.net, time := t.time }) ∧
    (s.rd 0xB01601 = 2 →
      Completes (.tsyncInputEdge) s fun t =>
          t.rd 0xB01603 = s.stamp ∧ t.rd 0xB01604 = wrapInc 32 (s.rd 0xB01604) ∧
          KeepsObjs [0xB01603, 0xB01604] s t ∧
          t = { s with objs := t.objs })

/-- Loss, alignment and training of lanes. An amplitude below 80 mV for 256 ns declares LOS on a lane in use, counted; above 150 mV for 10 µs it ends, and a DARK lane aligns; LOL is declared on the CDR out of lock, and on an aligned lane on code violations, invalid headers or a full or empty buffer, counted with its code errors; outside HATCH they take the lane to DARK and to ALIGN; less declares nothing. At G0 three commas in 24 characters align a lane without LOS, at G1 and G2 64 valid headers of a slip position, any other slips once. In TRAIN a record of the right path and face is noted, and the eighth in a row with ACK brings the lane UP; a record of the wrong path or face, and a block that is neither TRAIN nor FILLER, breaks the run. Under hypotheses on the state and the operands alone, exec answers a next state with the command's own effect for: laneLosDeclared, laneLosCleared, laneLolDeclared, laneCommaAligned, slipPositionTest, trainBlockReceive. (spec/13 R415, R417, R418, R419, R420, R421, R423, R424, R425, R426, R427, R441.) -/
def Obligations.LanesAlignTrainAndFail : Prop :=
  ∀ s : State,
    (∀ (i : Lane) (peak : BitVec 16) (ticks : BitVec 32), s.laneOn i = true → s.bitAt (kLane i 2) 0 = false → peak.toNat < 80 → 160 ≤ ticks.toNat →
      Completes (.laneLosDeclared i peak ticks) s fun t =>
          t.bitAt (kLane i 2) 0 = true ∧ t.rd (kLane i 8) = wrapInc 32 (s.rd (kLane i 8)) ∧ ((s.dev ≠ 1 ∨ s.laneUp i = false) → s.laneState i ≠ 5 → t.laneState i = 1) ∧ t.tick = s.tick ∧
          KeepsOtherAreas [1, 2, 0xB, 0xE] s t ∧
          t = { s with objs := t.objs, rails := t.rails, lanes := t.lanes, paths := t.paths, lease := t.lease, clock := t.clock, jobs := t.jobs, free := t.free }) ∧
    (∀ (i : Lane) (peak : BitVec 16) (ticks : BitVec 32), (s.laneOn i = false ∨ s.bitAt (kLane i 2) 0 = true ∨ 80 ≤ peak.toNat ∨ ticks.toNat < 160) →
      Completes (.laneLosDeclared i peak ticks) s fun t =>
          t = s) ∧
    (∀ (i : Lane) (least : BitVec 16) (ticks : BitVec 32), s.laneOn i = true → s.bitAt (kLane i 2) 0 = true → 150 < least.toNat → 6250 ≤ ticks.toNat →
      Completes (.laneLosCleared i least ticks) s fun t =>
          t.bitAt (kLane i 2) 0 = false ∧ t.laneState i = (if s.laneState i = 1 then 2 else s.laneState i) ∧
          KeepsObjs [kLane i 1, kLane i 2, 0xB00504] s t ∧
          t = { s with objs := t.objs, rails := t.rails, lanes := t.lanes }) ∧
    (∀ (i : Lane) (least : BitVec 16) (ticks : BitVec 32), (s.laneOn i = false ∨ s.bitAt (kLane i 2) 0 = false ∨ least.toNat ≤ 150 ∨ ticks.toNat < 6250) →
      Completes (.laneLosCleared i least ticks) s fun t =>
          t = s) ∧
    (∀ (i : Lane) (why : LolEvidence), s.laneOn i = true → s.bitAt (kLane i 2) 0 = false → s.isLol i why = true →
      Completes (.laneLolDeclared i why) s fun t =>
          t.bitAt (kLane i 2) 1 = true ∧ (why = .cdr → t.bitAt (kLane i 2) 2 = false) ∧ (match why with | .elastic _ => t.bitAt (kLane i 2) 7 | _ => true) = true ∧ t.rd (kLane i 9) = wrapInc 32 (s.rd (kLane i 9)) ∧
          (match why with | .violations w => t.rd (kLane i 0x0A) == wrapInc 32 (s.rd (kLane i 0x0A)) (popCount 16 w.toNat) | .headers w => t.rd (kLane i 0x0A) == wrapInc 32 (s.rd (kLane i 0x0A)) (badHeaders w) | _ => true) = true ∧ ((s.dev ≠ 1 ∨ s.laneUp i = false) → s.laneState i ≠ 5 → t.laneState i = 2) ∧ t.tick = s.tick ∧
          KeepsOtherAreas [1, 2, 0xB, 0xE] s t ∧
          t = { s with objs := t.objs, rails := t.rails, lanes := t.lanes, paths := t.paths, lease := t.lease, clock := t.clock, jobs := t.jobs, free := t.free }) ∧
    (∀ (i : Lane) (why : LolEvidence), (s.laneOn i = false ∨ s.bitAt (kLane i 2) 0 = true ∨ s.isLol i why = false) →
      Completes (.laneLolDeclared i why) s fun t =>
          t = s) ∧
    (∀ (i : Lane) (commas : BitVec 24), s.laneRate i = 0 → s.laneState i = 2 → s.bitAt (kLane i 2) 0 = false → 3 ≤ popCount 24 commas.toNat →
      Completes (.laneCommaAligned i commas) s fun t =>
          t.laneState i = 3 ∧ t.bitAt (kLane i 2) 1 = false ∧ t.bitAt (kLane i 2) 2 = true ∧ t.bitAt (kLane i 2) 3 = true ∧ t.lanes[i].trainOk = 0 ∧ t.lanes[i].trainAck = 0 ∧ 13 ≤ t.lanes[i].fill ∧ t.lanes[i].fill ≤ 31 ∧ (∀ j : Lane, j ≠ i → t.lanes[j] = s.lanes[j]) ∧ t.tick = s.tick ∧
          KeepsObjs [kLane i 1, kLane i 2, 0xB00504] s t ∧
          t = { s with objs := t.objs, rails := t.rails, lanes := t.lanes, free := t.free }) ∧
    (∀ (i : Lane) (commas : BitVec 24), (s.laneRate i ≠ 0 ∨ s.laneState i ≠ 2 ∨ s.bitAt (kLane i 2) 0 = true) →
      Completes (.laneCommaAligned i commas) s fun t =>
          t = s) ∧
    (∀ (i : Lane) (commas : BitVec 24), s.laneRate i = 0 → s.laneState i = 2 → s.bitAt (kLane i 2) 0 = false → popCount 24 commas.toNat < 3 →
      Completes (.laneCommaAligned i commas) s fun t =>
          t.laneState i = 2 ∧ t.rd (kLane i 2) = setBit (s.rd (kLane i 2)) 2 true ∧
          KeepsObjs [kLane i 2] s t ∧
          t = { s with objs := t.objs }) ∧
    (∀ (i : Lane) (headers : BitVec 128), s.laneRate i ≠ 0 → s.laneState i = 2 → s.power.supervisor = true → s.bitAt (kLane i 2) 0 = false →
      Completes (.slipPositionTest i headers) s fun t =>
          (badHeaders headers = 0 → t.laneState i = 3 ∧ t.rd (kLane i 4) = s.rd (kLane i 4)) ∧ (badHeaders headers ≠ 0 → t.laneState i = 2 ∧ t.bitAt (kLane i 2) 2 = true ∧ t.bitAt (kLane i 2) 1 = s.bitAt (kLane i 2) 1 ∧ t.rd (kLane i 4) = (s.rd (kLane i 4) + 1) % 66) ∧ t.lanes[i].slipAt = t.tick ∧
          max s.tick (s.lanes[i].slipAt + 64 * blockTicks (s.laneRate i) + 1538) ≤ t.tick ∧ t.tick ≤ max s.tick (s.lanes[i].slipAt + 64 * blockTicks (s.laneRate i) + 3125) ∧
          KeepsObjs [kLane i 1, kLane i 2, kLane i 4, 0xB00504] s t ∧
          t = { s with objs := t.objs, rails := t.rails, lanes := t.lanes, tick := t.tick, net := t.net, free := t.free }) ∧
    (∀ (i : Lane) (block : LineBlock) (b : Bytes), s.laneState i = 3 → readBlock (s.laneRate i) block = some (.control 0x4D b) → bit (byteAt b 0) 5 = (i.val / 2 == 1) → bit (byteAt b 0) 6 = !isD i →
      Completes (.trainBlockReceive i block) s fun t =>
          t.rd (kLane i 5) = byteAt b 0 % 128 ∧ t.rd (kLane i 6) = byteAt b 1 ∧ t.rd (kLane i 7) = leAt b 2 4 ∧
          (bit (byteAt b 0) 4 = true → 7 ≤ s.lanes[i].trainAck → s.bitAt (kLane i 2) 5 = false → t.laneState i = 4 ∧ t.bitAt (kLane i 2) 4 = true) ∧
          (s.lanes[i].trainAck < 7 → t.laneState i = 3 ∧ t.lanes[i].trainOk = s.lanes[i].trainOk + 1) ∧
          (s.lanes[i].trainAck < 7 → t.lanes[i].trainAck = (if bit (byteAt b 0) 4 then s.lanes[i].trainAck + 1 else 0)) ∧ t.tick = s.tick ∧
          KeepsOtherAreas [0xB] s t ∧
          t = { s with objs := t.objs, rails := t.rails, lanes := t.lanes, paths := t.paths, frames := t.frames, lease := t.lease }) ∧
    (∀ (i : Lane) (block : LineBlock) (b : Bytes), s.laneState i = 3 → readBlock (s.laneRate i) block = some (.control 0x4D b) → (bit (byteAt b 0) 5 ≠ (i.val / 2 == 1) ∨ bit (byteAt b 0) 6 = isD i) →
      Completes (.trainBlockReceive i block) s fun t =>
          t.lanes[i] = { s.lanes[i] with trainOk := 0, trainAck := 0, trainBad := s.lanes[i].trainBad + 1 } ∧ t.laneState i = 3 ∧ (7 ≤ s.lanes[i].trainBad → t.bitAt (kLane i 2) 5 = true) ∧
          KeepsObjs [kLane i 2, kLane i 0x0A] s t ∧
          t = { s with objs := t.objs, lanes := t.lanes, paths := t.paths }) ∧
    (∀ (i : Lane) (block : LineBlock), s.laneState i = 3 → (match readBlock (s.laneRate i) block with | some (.control 0x4D _) => false | some (.control 0x2B _) => false | _ => true) = true →
      Completes (.trainBlockReceive i block) s fun t =>
          t.lanes[i] = { s.lanes[i] with trainOk := 0, trainAck := 0, trainBad := 0 } ∧ t.rd (kLane i 0x0A) = wrapInc 32 (s.rd (kLane i 0x0A)) (codeErrors (s.laneRate i) block) ∧
          KeepsObjs [kLane i 0x0A] s t ∧
          t = { s with objs := t.objs, lanes := t.lanes, paths := t.paths })

/-- FILLER blocks, wake runs, the scan of a joiner. An aligned lane's elastic buffer holds its fill of before moved by the drift of its clocks, between 0 and 32 blocks: a FILLER block that it receives below a fill of 16 is kept, at 16 or more dropped and counted, which leaves one block fewer; another block in its place counts its code errors. At a fill of 12 one FILLER is inserted and counted, which leaves 13; at another fill nothing. In every state in which a lane transmits its next FILLER falls at its cadence; the wake run of four WAKE blocks is sent on XD, while it is UP, again each microsecond until its end. What a lane puts on the line reads back as what was sent. A dwell that passes with the lane not UP takes the scan to its next rate; with the lane UP, or out of HATCH, the scan ends. Under hypotheses on the state and the operands alone, exec answers a next state with the command's own effect for: fillerBlockReceive, fillerInsert, fillerSend, wakeFrameRepeat, joinDwellExpiry. (spec/13 R411, R415, R416, R421, R422, R437, R438, R442.) -/
def Obligations.FillersWakeRunsAndScans : Prop :=
  ∀ s : State,
    (∀ (i : Lane) (drift : Byte) (block : LineBlock) (b : Bytes) (n : Nat), s.reads i = true → readBlock (s.laneRate i) block = some (.control 0x2B b) → (n : Int) = clampInt 0 32 (s.lanes[i].fill + toSigned 8 drift.toNat) →
      Completes (.fillerBlockReceive i drift block) s fun t =>
          (n < 16 → t.lanes[i] = { s.lanes[i] with fill := n } ∧ t.rd (kLane i 0x0C) = s.rd (kLane i 0x0C)) ∧
          (16 ≤ n → t.lanes[i] = { s.lanes[i] with fill := n - 1 } ∧ t.rd (kLane i 0x0C) = wrapInc 32 (s.rd (kLane i 0x0C))) ∧ (∀ j : Lane, j ≠ i → t.lanes[j] = s.lanes[j]) ∧ t.rd (kLane i 0x0A) = wrapInc 32 (s.rd (kLane i 0x0A)) (codeErrors (s.laneRate i) block) ∧
          KeepsObjs [kLane i 0x0A, kLane i 0x0C] s t ∧
          t = { s with objs := t.objs, lanes := t.lanes, paths := t.paths }) ∧
    (∀ (i : Lane) (drift : Byte) (block : LineBlock), s.reads i = true → (match readBlock (s.laneRate i) block with | some (.control 0x2B _) => false | _ => true) = true →
      Completes (.fillerBlockReceive i drift block) s fun t =>
          t.rd (kLane i 0x0A) = wrapInc 32 (s.rd (kLane i 0x0A)) (codeErrors (s.laneRate i) block) ∧ t.lanes = (upd s.lanes i fun l => { l with fill := (clampInt 0 32 (s.lanes[i].fill + toSigned 8 drift.toNat)).toNat }) ∧
          KeepsObjs [kLane i 0x0A] s t ∧
          t = { s with objs := t.objs, paths := t.paths, lanes := t.lanes }) ∧
    (∀ (i : Lane) (drift : Byte) (block : LineBlock), s.reads i = false →
      Completes (.fillerBlockReceive i drift block) s fun t =>
          t = s) ∧
    (∀ (i : Lane) (drift : Byte), s.reads i = true → (s.lanes[i].fill : Int) + toSigned 8 drift.toNat = 12 →
      Completes (.fillerInsert i drift) s fun t =>
          t.lanes = (upd s.lanes i fun l => { l with fill := 13 }) ∧ t.rd (kLane i 0x0B) = wrapInc 32 (s.rd (kLane i 0x0B)) ∧
          KeepsObjs [kLane i 0x0B] s t ∧
          t = { s with objs := t.objs, lanes := t.lanes }) ∧
    (∀ (i : Lane) (drift : Byte), (s.reads i = false ∨ (s.lanes[i].fill : Int) + toSigned 8 drift.toNat ≠ 12) →
      Completes (.fillerInsert i drift) s fun t =>
          t = s) ∧
    (∀ (i : Lane), (s.manager = false ∨ isD i = true) → (s.laneState i = 1 ∨ s.laneState i = 2 ∨ s.laneState i = 3 ∨ s.laneState i = 4) →
      Completes (.fillerSend i) s fun t =>
          t.tick = max s.tick (s.lanes[i].fillerAt + (s.cadence i + 1) * blockTicks (s.laneRate i)) ∧ t.lanes[i].fillerAt = t.tick ∧ t.lanes[i].line.map (readBlock (s.laneRate i)) = [some (plainBlock 0x2B)] ∧ (∀ j : Lane, j ≠ i → t.lanes[j] = s.lanes[j]) ∧
          t = { s with lanes := t.lanes, tick := t.tick, net := t.net, free := t.free }) ∧
    (∀ (i : Lane), ((s.manager = true ∧ isD i = false) ∨ s.laneState i = 0 ∨ s.laneState i = 5) →
      Completes (.fillerSend i) s fun t =>
          t = s) ∧
    (∀ (a : Nat) (u : Nat), s.hatch.wakeAt = some a → s.hatch.wakeUntil = some u →
      Completes (.wakeFrameRepeat) s fun t =>
          (a + 625 ≤ u → s.laneUp 1 = true → t.hatch = { s.hatch with wakeAt := some (a + 625) } ∧ t.tick = max s.tick (a + 625) ∧ t.lanes[(1 : Lane)].line.map (readBlock (s.laneRate 1)) = List.replicate 4 (some (plainBlock 0x5A))) ∧ (a + 625 ≤ u → s.laneUp 1 = false → t.hatch = { s.hatch with wakeAt := some (a + 625) } ∧ t.tick = max s.tick (a + 625) ∧ t.lanes = s.lanes) ∧ (u < a + 625 → t.hatch = { s.hatch with wakeAt := none, wakeUntil := none } ∧ t.tick = max s.tick u ∧ t.lanes = s.lanes) ∧
          t = { s with hatch := t.hatch, tick := t.tick, net := t.net, lanes := t.lanes, free := t.free }) ∧
    (∀ (q : Path) (n : Nat) (d : Nat), s.paths[q].scan = some n → s.paths[q].dwell = some d → s.dev = 1 → s.laneUp (uLane q) = false →
      Completes (.joinDwellExpiry q) s fun t =>
          t.paths[q].scan = some ((n + 1) % 3) ∧ t.tick = max s.tick d ∧ t.rd (kPll (q.val + 1) + 1) = (if (n + 1) % 3 = 0 then 0 else if (n + 1) % 3 = 1 then 2 else 1) ∧ t.laneRate (uLane q) = t.rd (kPll (q.val + 1) + 1) ∧
          KeepsOtherAreas [2, 0xB] s t ∧
          t = { s with objs := t.objs, rails := t.rails, lanes := t.lanes, paths := t.paths, clock := t.clock, tick := t.tick, net := t.net }) ∧
    (∀ (q : Path) (n : Nat) (d : Nat), s.paths[q].scan = some n → s.paths[q].dwell = some d → (s.dev ≠ 1 ∨ s.laneUp (uLane q) = true) →
      Completes (.joinDwellExpiry q) s fun t =>
          t.paths[q] = { s.paths[q] with scan := none, dwell := none } ∧ t.tick = max s.tick d ∧
          t = { s with paths := t.paths, tick := t.tick, net := t.net, rails := t.rails })

/-- Enumeration and rate steps. ENUM_DELAY after HATCH began the manager, without a role conflict, sends ASSIGN with COUNT 1, its RATE_MAX and its SSC bit down on each path. A worker in HATCH at G0 whose partner does not run yet, and one out of HATCH, takes the position of an ASSIGN and sends it on with the next count, the least rate and any SSC bit, or answers END where no device follows, or CONFLICT where another manager does; one over a lane at a higher rate, or whose partner runs, joins: it takes position and rate and answers JOIN; a COUNT of 32 is the overflow, answered END with no position taken. The manager takes END: count, SSC bit and overflow, and, above G0 and before the check of the path, the least rate, which it sends down in RATE_STEP and steps to itself 32 blocks later. A worker in HATCH passes RATE_STEP on and steps 32 blocks later; out of HATCH it takes none. The path PLL restarts at the new rate in HATCH, its lanes to be UP within STEP_TIMEOUT; a step that times out falls back to G0, one that is complete does not. What arrives on a lane that is not UP changes nothing. Under hypotheses on the state and the operands alone, exec answers a next state with the command's own effect for: enumDelayExpiry, enumAssignReceive, enumEndReceive, enumRateStepReceive, rateStepPllRestart, rateStepTimeout. (spec/13 R413, R425, R429, R430, R431, R432, R433, R439; spec/14 R475.) -/
def Obligations.EnumerationAndRateSteps : Prop :=
  ∀ s : State,
    (∀ (d : Nat), s.hatch.enumAt = some d → s.dev = 1 → s.bitAt 0xB03003 4 = false →
      Completes (.enumDelayExpiry) s fun t =>
          t.hatch = { s.hatch with enumAt := none } ∧ t.tick = max s.tick d ∧ (∀ q : Path, (s.maySend (dLane q) = true → queued s t (dLane q) 0x0B false 0xFF (s.enumBytes q ⟨0, 1, s.rateMax, s.ownSsc q, false, 0⟩) = true) ∧ (s.maySend (dLane q) = false → t.lanes[dLane q] = s.lanes[dLane q]) ∧ t.lanes[uLane q] = s.lanes[uLane q]) ∧
          KeepsObjs [0xB00508] s t ∧
          t = { s with objs := t.objs, hatch := t.hatch, lanes := t.lanes, tick := t.tick, net := t.net, frames := { s.frames with txSeq := t.frames.txSeq } }) ∧
    (∀ (d : Nat), s.hatch.enumAt = some d → (s.dev ≠ 1 ∨ s.bitAt 0xB03003 4 = true) →
      Completes (.enumDelayExpiry) s fun t =>
          t.hatch = { s.hatch with enumAt := none } ∧ t.tick = max s.tick d ∧
          t = { s with hatch := t.hatch, tick := t.tick, net := t.net }) ∧
    (∀ (q : Path) (b : Bytes), s.laneUp (uLane q) = true → s.manager = false → byteAt b 1 < 32 → (s.dev ≠ 1 ∨ (s.laneRate (uLane q) = 0 ∧ (s.paths[q].assigned = true ∨ s.paths[q].kept = true ∨ s.rd (kLane (uLane q) 6) = 0xFF ∨ (s.rd (kLane (uLane q) 6) = 0 ∧ byteAt b 2 ≠ 0)))) →
      Completes (.enumAssignReceive q b) s fun t =>
          t.rd (0xB03001 + q.val) = byteAt b 1 ∧ t.paths = (upd s.paths q fun p => { p with assigned := true, scan := none, dwell := none }) ∧ t.hatch = { s.hatch with wakeUntil := none, wakeAt := none } ∧ t.tick = s.tick ∧ t.rd 0xB00509 = wrapInc 32 (s.rd 0xB00509) ∧
          (s.bitAt (kLane (dLane q) 2) 6 = true → sent s t (uLane q) 0x0B true 0 (s.enumBytes q ⟨6, byteAt b 1 + 1, (min (byteAt b 2) s.rateMax), (bit (byteAt b 3) 0 || s.ownSsc q), false, 0⟩) = true) ∧
          (s.bitAt (kLane (dLane q) 2) 6 = false → s.laneUp (dLane q) = true → sent s t (dLane q) 0x0B false 0xFF (s.enumBytes q ⟨0, byteAt b 1 + 1, (min (byteAt b 2) s.rateMax), (bit (byteAt b 3) 0 || s.ownSsc q), false, 0⟩) = true) ∧
          (s.bitAt (kLane (dLane q) 2) 6 = false → s.laneUp (dLane q) = false → sent s t (uLane q) 0x0B true 0 (s.enumBytes q ⟨1, byteAt b 1 + 1, (min (byteAt b 2) s.rateMax), (bit (byteAt b 3) 0 || s.ownSsc q), false, 0⟩) = true) ∧
          KeepsObjs [0xB03001 + q.val, 0xB00508, 0xB00509] s t ∧
          t = { s with objs := t.objs, rails := t.rails, lanes := t.lanes, paths := t.paths, hatch := { s.hatch with wakeUntil := t.hatch.wakeUntil, wakeAt := t.hatch.wakeAt }, frames := { s.frames with txSeq := t.frames.txSeq } }) ∧
    (∀ (q : Path) (b : Bytes), s.laneUp (uLane q) = true → s.manager = false → byteAt b 1 < 32 → s.dev = 1 → (s.laneRate (uLane q) ≠ 0 ∨ (s.paths[q].assigned = false ∧ s.paths[q].kept = false ∧ s.rd (kLane (uLane q) 6) ≠ 0 ∧ s.rd (kLane (uLane q) 6) ≠ 0xFF)) →
      Completes (.enumAssignReceive q b) s fun t =>
          t.rd (0xB03001 + q.val) = byteAt b 1 ∧ t.rd (kPathRate q) = byteAt b 2 ∧ t.paths = (upd s.paths q fun p => { p with assigned := true, joining := true, scan := none, dwell := none }) ∧ t.hatch = { s.hatch with wakeUntil := none, wakeAt := none } ∧ t.tick = s.tick ∧ t.rd 0xB00509 = wrapInc 32 (s.rd 0xB00509) ∧
          sent s t (uLane q) 0x0B true 0 (s.enumBytes q ⟨5, byteAt b 1, byteAt b 2, (bit (byteAt b 3) 0 || s.ownSsc q), false, 0⟩) = true ∧
          KeepsObjs [0xB03001 + q.val, 0xB00508, 0xB00509, kPathRate q] s t ∧
          t = { s with objs := t.objs, rails := t.rails, lanes := t.lanes, paths := t.paths, hatch := { s.hatch with wakeUntil := t.hatch.wakeUntil, wakeAt := t.hatch.wakeAt }, frames := { s.frames with txSeq := t.frames.txSeq } }) ∧
    (∀ (q : Path) (b : Bytes), s.laneUp (uLane q) = true → s.manager = false → 32 ≤ byteAt b 1 → s.posOn q = none →
      Completes (.enumAssignReceive q b) s fun t =>
          t.bitAt 0xB03003 5 = true ∧ t.rd (0xB03001 + q.val) = s.rd (0xB03001 + q.val) ∧ t.tick = s.tick ∧ t.rd 0xB00509 = wrapInc 32 (s.rd 0xB00509) ∧ sent s t (uLane q) 0x0B true 0 (s.enumBytes q ⟨1, 32, (min (byteAt b 2) s.rateMax), (bit (byteAt b 3) 0 || s.ownSsc q), true, 0⟩) = true ∧
          KeepsObjs [0xB03001 + q.val, 0xB00508, 0xB00509, 0xB03003] s t ∧
          t = { s with free := t.free, objs := t.objs, rails := t.rails, lanes := t.lanes, paths := t.paths, hatch := { s.hatch with wakeUntil := t.hatch.wakeUntil, wakeAt := t.hatch.wakeAt }, frames := { s.frames with txSeq := t.frames.txSeq } }) ∧
    (∀ (q : Path) (b : Bytes), s.laneUp (dLane q) = true → s.manager = true → s.dev = 1 → s.bitAt 0xB03003 4 = false → s.paths[q].checking = false → (min (min (byteAt b 2) s.rateMax) s.paths[q].cap) ≠ 0 →
      Completes (.enumEndReceive q b) s fun t =>
          t.rd (0xB03004 + q.val) = byteAt b 1 ∧ t.rd (kPathRate q) = (min (min (byteAt b 2) s.rateMax) s.paths[q].cap) ∧ t.bitAt 0xB03003 (8 + q.val) = bit (byteAt b 3) 0 ∧ t.paths[q].changing = true ∧ t.paths[q].rateFixed = true ∧ t.paths[q].stepDue = some (s.tick + 32 * blockTicks 0, (min (min (byteAt b 2) s.rateMax) s.paths[q].cap)) ∧ t.tick = s.tick ∧ (bit (byteAt b 3) 2 = true → t.bitAt 0xB03003 5 = true) ∧ (bit (byteAt b 3) 2 = false → t.bitAt 0xB03003 5 = s.bitAt 0xB03003 5) ∧ t.rd 0xB00509 = wrapInc 32 (s.rd 0xB00509) ∧
          sent s t (dLane q) 0x0B false 0xFF (s.enumBytes q ⟨2, 0, (min (min (byteAt b 2) s.rateMax) s.paths[q].cap), bit (byteAt b 3) 0, false, 0⟩) = true ∧
          KeepsObjs [0xB03004 + q.val, 0xB03003, kPathRate q, 0xB00508, 0xB00509] s t ∧
          t = { s with objs := t.objs, rails := t.rails, lanes := t.lanes, paths := t.paths, frames := { s.frames with txSeq := t.frames.txSeq } }) ∧
    (∀ (q : Path) (b : Bytes), s.laneUp (dLane q) = true → s.manager = true → s.dev = 1 → s.bitAt 0xB03003 4 = false → (s.paths[q].checking = true ∨ (min (min (byteAt b 2) s.rateMax) s.paths[q].cap) = 0) → s.bitAt 0xB03003 (1 - q.val) = false →
      Completes (.enumEndReceive q b) s fun t =>
          t.rd (0xB03004 + q.val) = byteAt b 1 ∧ t.bitAt 0xB03003 (8 + q.val) = bit (byteAt b 3) 0 ∧ t.bitAt 0xB03003 q.val = true ∧ t.paths[q].checking = false ∧ (s.paths[q].checking = false → t.rd (kPathRate q) = 0) ∧ (s.paths[q].checking = true → t.rd (kPathRate q) = s.rd (kPathRate q)) ∧ t.dev = 1 ∧ t.tick = s.tick ∧ t.rd 0xB00509 = wrapInc 32 (s.rd 0xB00509) ∧
          t.hatch = { s.hatch with yWaitAt := if q = 0 then some (s.hatch.yWaitAt.getD (s.tick + msTicks s.hatch.cfg[(3 : Fin 6)])) else s.hatch.yWaitAt } ∧
          KeepsObjs [0xB03004 + q.val, 0xB03003, kPathRate q, 0xB00509] s t ∧
          t = { s with objs := t.objs, paths := t.paths, hatch := t.hatch }) ∧
    (∀ (q : Path) (b : Bytes), s.laneUp (dLane q) = true → s.manager = true → s.dev = 1 → s.bitAt 0xB03003 4 = false → (s.paths[q].checking = true ∨ (min (min (byteAt b 2) s.rateMax) s.paths[q].cap) = 0) → s.bitAt 0xB03003 (1 - q.val) = true → s.bitAt kFlags 1 = false → s.bitAt kFlags 2 = false →
      Completes (.enumEndReceive q b) s fun t =>
          t.dev = 2 ∧ t.rd kPosition = 0 ∧ t.rd (0xB03004 + q.val) = byteAt b 1 ∧ t.bitAt 0xB03003 2 = true ∧ t.tick = s.tick ∧ t.rd 0xB00509 = wrapInc 32 (s.rd 0xB00509) ∧
          (∀ p : Path, s.maySend (dLane p) = true → queued s t (dLane p) 0x0B false 0xFF (s.enumBytes p ⟨4, t.rd 0xB03004, t.rd (kPathRate p), t.bitAt 0xB03003 (8 + p.val), false, t.rd 0xB03005⟩) = true) ∧
          t = { s with objs := t.objs, rails := t.rails, lanes := t.lanes, paths := t.paths, hatch := t.hatch, lease := t.lease, frames := t.frames, time := t.time, nv := t.nv, can := t.can, capture := t.capture, stringRx := t.stringRx, free := t.free }) ∧
    (∀ (q : Path) (b : Bytes), s.laneUp (uLane q) = true → s.manager = false → s.dev = 1 →
      Completes (.enumRateStepReceive q b) s fun t =>
          t.rd (kPathRate q) = byteAt b 2 ∧ t.bitAt 0xB03003 (8 + q.val) = bit (byteAt b 3) 0 ∧ t.paths[q].changing = true ∧ t.paths[q].rateFixed = true ∧ t.paths[q].stepDue = some (s.tick + 32 * blockTicks (s.laneRate (uLane q)), byteAt b 2) ∧ t.tick = s.tick ∧ t.rd 0xB00509 = wrapInc 32 (s.rd 0xB00509) ∧ sent s t (dLane q) 0x0B false 0xFF (s.enumBytes q ⟨2, 0, byteAt b 2, bit (byteAt b 3) 0, false, 0⟩) = true ∧
          KeepsObjs [kPathRate q, 0xB03003, 0xB00508, 0xB00509] s t ∧
          t = { s with objs := t.objs, lanes := t.lanes, paths := t.paths, rails := t.rails, frames := { s.frames with txSeq := t.frames.txSeq } }) ∧
    (∀ (q : Path) (b : Bytes), s.laneUp (uLane q) = true → (s.manager = true ∨ s.dev ≠ 1) →
      Completes (.enumRateStepReceive q b) s fun t =>
          t.rd 0xB00509 = wrapInc 32 (s.rd 0xB00509) ∧
          KeepsObjs [0xB00509] s t ∧
          t = { s with objs := t.objs }) ∧
    (∀ (q : Path) (b : Bytes), s.laneUp (uLane q) = false →
      Completes (.enumAssignReceive q b) s fun t =>
          t = s) ∧
    (∀ (q : Path) (b : Bytes), s.laneUp (dLane q) = false →
      Completes (.enumEndReceive q b) s fun t =>
          t = s) ∧
    (∀ (q : Path) (b : Bytes), s.laneUp (uLane q) = false →
      Completes (.enumRateStepReceive q b) s fun t =>
          t = s) ∧
    (∀ (q : Path) (d : Nat) (r : Nat), s.paths[q].stepDue = some (d, r) → s.dev = 1 →
      Completes (.rateStepPllRestart q) s fun t =>
          t.paths[q].stepDue = none ∧ t.paths[q].stepLimit = some (max s.tick d + msTicks s.hatch.cfg[(4 : Fin 6)]) ∧ bit t.paths[q].stepUp 0 = s.laneUp (uLane q) ∧ bit t.paths[q].stepUp 1 = s.laneUp (dLane q) ∧ t.rd (kPll (q.val + 1) + 1) = r ∧ t.laneRate (uLane q) = r ∧ t.laneRate (dLane q) = r ∧
          t.bitAt (kPllStatus (q.val + 1)) 0 = false ∧ t.bitAt (kPllStatus (q.val + 1)) 2 = true ∧ t.laneState (uLane q) = (if s.laneState (uLane q) = 0 then 0 else 5) ∧ t.laneState (dLane q) = (if s.laneState (dLane q) = 0 then 0 else 5) ∧ t.tick = max s.tick d ∧
          KeepsOtherAreas [2, 0xB] s t ∧
          t = { s with objs := t.objs, rails := t.rails, lanes := t.lanes, paths := t.paths, clock := t.clock, tick := t.tick, net := t.net }) ∧
    (∀ (q : Path), (s.paths[q].stepDue = none ∨ s.dev ≠ 1) →
      Completes (.rateStepPllRestart q) s fun t =>
          t.paths = (upd s.paths q fun p => { p with stepDue := none }) ∧
          t = { s with paths := t.paths }) ∧
    (∀ (q : Path) (d : Nat), s.paths[q].stepLimit = some d → s.stepUpDone q = false → s.dev = 1 → s.rd (kPll (q.val + 1) + 1) ≠ 0 →
      Completes (.rateStepTimeout q) s fun t =>
          t.paths[q].stepLimit = none ∧ t.rd (kPathRate q) = 0 ∧ t.rd (kPll (q.val + 1) + 1) = 0 ∧ t.laneRate (uLane q) = 0 ∧ t.laneRate (dLane q) = 0 ∧ t.paths[q].failed = (if s.manager then some (s.rd (kPathRate q)) else none) ∧ t.paths[q].rateFixed = false ∧ t.paths[q].checking = false ∧ (s.manager = true → t.bitAt 0xB03003 q.val = false) ∧ t.tick = max s.tick d ∧
          KeepsOtherAreas [2, 0xB] s t ∧
          t = { s with objs := t.objs, rails := t.rails, lanes := t.lanes, paths := t.paths, clock := t.clock, tick := t.tick, net := t.net }) ∧
    (∀ (q : Path) (d : Nat), s.paths[q].stepLimit = some d → (s.stepUpDone q = true ∨ s.dev ≠ 1 ∨ s.rd (kPll (q.val + 1) + 1) = 0) →
      Completes (.rateStepTimeout q) s fun t =>
          t.paths = (upd s.paths q fun p => { p with stepLimit := none }) ∧ t.tick = max s.tick d ∧
          t = { s with paths := t.paths, tick := t.tick, net := t.net })

/-- CHECK, DONE, the wait for path Y, conflicts, JOIN. A worker takes its position from a CHECK and sends it on, or answers END or CONFLICT, as it does with an ASSIGN. DONE gives it the counts, the rate and the SSC bit and goes on down unless it answers a JOIN; on path X it ends HATCH in a worker with a position there: READY, POSITION, the time taken, and, where its position on Y differs, the mismatch flag and source 105. When the wait for path Y passes, the manager that has enumerated X sends DONE on both paths and ends HATCH in READY; a running one sends DONE to the joiner whose wait ends first, and else nothing changes but the time. A role conflict, by CONFLICT or by a signal on its U lane for 1 ms within HATCH, keeps the manager in HATCH, and PSEL_N is released. JOIN raises the count of its path to hold the joiner, counts, clears the servo's integral of that position, and is answered with DONE on both paths once the joiner has joined both, or else waits for that, HATCH_Y_WAIT from the join on X. What arrives on a lane that is not UP changes nothing. Under hypotheses on the state and the operands alone, exec answers a next state with the command's own effect for: enumCheckReceive, enumDoneReceive, hatchYWaitExpiry, enumConflictReceive, roleConflictDetect, enumJoinReceive. (spec/04 R104; spec/13 R425, R429, R430, R433, R434, R435, R439; spec/14 R475; spec/15 R498.) -/
def Obligations.HatchEndsConflictsAndJoins : Prop :=
  ∀ s : State,
    (∀ (q : Path) (b : Bytes), s.laneUp (uLane q) = true → s.manager = false → byteAt b 1 < 32 →
      Completes (.enumCheckReceive q b) s fun t =>
          t.rd (0xB03001 + q.val) = byteAt b 1 ∧ t.paths = (upd s.paths q fun p => { p with assigned := true, scan := none, dwell := none }) ∧ t.hatch = { s.hatch with wakeUntil := none, wakeAt := none } ∧ t.tick = s.tick ∧ t.rd 0xB00509 = wrapInc 32 (s.rd 0xB00509) ∧
          (s.bitAt (kLane (dLane q) 2) 6 = true → sent s t (uLane q) 0x0B true 0 (s.enumBytes q ⟨6, byteAt b 1 + 1, (min (byteAt b 2) s.rateMax), (bit (byteAt b 3) 0 || s.ownSsc q), false, 0⟩) = true) ∧
          (s.bitAt (kLane (dLane q) 2) 6 = false → s.laneUp (dLane q) = true → sent s t (dLane q) 0x0B false 0xFF (s.enumBytes q ⟨3, byteAt b 1 + 1, (min (byteAt b 2) s.rateMax), (bit (byteAt b 3) 0 || s.ownSsc q), false, 0⟩) = true) ∧
          (s.bitAt (kLane (dLane q) 2) 6 = false → s.laneUp (dLane q) = false → sent s t (uLane q) 0x0B true 0 (s.enumBytes q ⟨1, byteAt b 1 + 1, (min (byteAt b 2) s.rateMax), (bit (byteAt b 3) 0 || s.ownSsc q), false, 0⟩) = true) ∧
          KeepsObjs [0xB03001 + q.val, 0xB00508, 0xB00509] s t ∧
          t = { s with objs := t.objs, rails := t.rails, lanes := t.lanes, paths := t.paths, hatch := { s.hatch with wakeUntil := t.hatch.wakeUntil, wakeAt := t.hatch.wakeAt }, frames := { s.frames with txSeq := t.frames.txSeq } }) ∧
    (∀ (q : Path) (b : Bytes), s.laneUp (uLane q) = true → s.manager = false → 32 ≤ byteAt b 1 →
      Completes (.enumCheckReceive q b) s fun t =>
          t.bitAt 0xB03003 5 = true ∧ t.rd (0xB03001 + q.val) = s.rd (0xB03001 + q.val) ∧ t.tick = s.tick ∧ t.rd 0xB00509 = wrapInc 32 (s.rd 0xB00509) ∧ sent s t (uLane q) 0x0B true 0 (s.enumBytes q ⟨1, 32, (min (byteAt b 2) s.rateMax), (bit (byteAt b 3) 0 || s.ownSsc q), true, 0⟩) = true ∧
          KeepsObjs [0xB03001 + q.val, 0xB00508, 0xB00509, 0xB03003] s t ∧
          t = { s with objs := t.objs, rails := t.rails, lanes := t.lanes, paths := t.paths, hatch := { s.hatch with wakeUntil := t.hatch.wakeUntil, wakeAt := t.hatch.wakeAt }, frames := { s.frames with txSeq := t.frames.txSeq } }) ∧
    (∀ (q : Path) (b : Bytes), s.laneUp (uLane q) = true → s.manager = false →
      Completes (.enumDoneReceive q b) s fun t =>
          t.rd 0xB03004 = byteAt b 1 ∧ t.rd 0xB03005 = byteAt b 4 ∧ t.rd (kPathRate q) = byteAt b 2 ∧ t.bitAt 0xB03003 (8 + q.val) = bit (byteAt b 3) 0 ∧ t.paths[q].rateFixed = true ∧ t.paths[q].joining = false ∧ t.tick = s.tick ∧ t.rd 0xB00509 = wrapInc 32 (s.rd 0xB00509) ∧
          (s.paths[q].joining = false → s.maySend (dLane q) = true → queued s t (dLane q) 0x0B false 0xFF (s.enumBytes q ⟨4, byteAt b 1, byteAt b 2, bit (byteAt b 3) 0, false, byteAt b 4⟩) = true) ∧ (s.paths[q].joining = true ∨ s.maySend (dLane q) = false → t.lanes[dLane q].queue = s.lanes[dLane q].queue) ∧ (∀ j : Lane, j ≠ dLane q → t.lanes[j].queue = s.lanes[j].queue) ∧
          (q = 0 → s.dev = 1 → s.rd 0xB03001 ≠ 0xFF → t.rd kPosition = s.rd 0xB03001 ∧ t.rd 0xB0300A = (s.tick - s.hatch.since) / 625 ∧ t.bitAt 0xB03003 2 = true ∧ (s.rd 0xB03002 ≠ s.rd 0xB03001 → t.bitAt 0xB03003 3 = true ∧ t.rails.occ.getLsbD 105 = true) ∧ (s.bitAt kFlags 1 = false → s.bitAt kFlags 2 = false → t.dev = 2)) ∧
          (q ≠ 0 ∨ s.dev ≠ 1 ∨ s.rd 0xB03001 = 0xFF → t.dev = s.dev ∧ t.rd kPosition = s.rd kPosition) ∧
          t = { s with objs := t.objs, rails := t.rails, lanes := t.lanes, paths := t.paths, hatch := t.hatch, lease := t.lease, frames := t.frames, time := t.time, nv := t.nv, can := t.can, capture := t.capture, stringRx := t.stringRx, free := t.free }) ∧
    (∀ (d : Nat), s.hatch.yWaitAt = some d → s.manager = true → s.dev = 1 → s.bitAt 0xB03003 0 = true → s.bitAt 0xB03003 4 = false → s.bitAt kFlags 1 = false → s.bitAt kFlags 2 = false →
      Completes (.hatchYWaitExpiry) s fun t =>
          t.dev = 2 ∧ t.tick = max s.tick d ∧ t.rd kPosition = 0 ∧ t.hatch.yWaitAt = none ∧ t.bitAt 0xB03003 2 = true ∧ (∀ p : Path, t.paths[p].rateFixed = true ∧ (s.maySend (dLane p) = true → queued s t (dLane p) 0x0B false 0xFF (s.enumBytes p ⟨4, t.rd 0xB03004, t.rd (kPathRate p), t.bitAt 0xB03003 (8 + p.val), false, if s.bitAt 0xB03003 1 then t.rd 0xB03005 else 0⟩) = true)) ∧
          t = { s with tick := t.tick, net := t.net, objs := t.objs, rails := t.rails, lanes := t.lanes, paths := t.paths, hatch := t.hatch, lease := t.lease, frames := t.frames, time := t.time, nv := t.nv, can := t.can, capture := t.capture, stringRx := t.stringRx, free := t.free }) ∧
    (∀ (d : Nat), s.hatch.yWaitAt = some d → (s.dev ≠ 1 ∨ s.bitAt 0xB03003 0 = false ∨ s.bitAt 0xB03003 4 = true) →
      Completes (.hatchYWaitExpiry) s fun t =>
          t.hatch = { s.hatch with yWaitAt := none } ∧ t.tick = max s.tick d ∧
          t = { s with tick := t.tick, net := t.net, hatch := t.hatch }) ∧
    (∀ (x : JoinSt) (d : Nat), s.hatch.yWaitAt = none → s.hatch.joins = [x] → x.due = some d →
      Completes (.hatchYWaitExpiry) s fun t =>
          t.hatch = { s.hatch with joins := [] } ∧ t.tick = max s.tick d ∧ (∀ p : Path, (s.maySend (dLane p) = true → queued s t (dLane p) 0x0B false (x.pos) (s.enumBytes p ⟨4, t.rd 0xB03004, t.rd (kPathRate p), t.bitAt 0xB03003 (8 + p.val), false, if s.bitAt 0xB03003 1 then t.rd 0xB03005 else 0⟩) = true) ∧ (s.maySend (dLane p) = false → t.lanes[dLane p] = s.lanes[dLane p]) ∧ t.lanes[uLane p] = s.lanes[uLane p]) ∧
          KeepsObjs [0xB00508] s t ∧
          t = { s with objs := t.objs, tick := t.tick, net := t.net, hatch := t.hatch, lanes := t.lanes, frames := { s.frames with txSeq := t.frames.txSeq } }) ∧
    (s.hatch.yWaitAt = none → ((s.hatch.joins.all fun j => j.due.isNone) = true) →
      Completes (.hatchYWaitExpiry) s fun t =>
          t = s) ∧
    (∀ (q : Path) (b : Bytes), s.laneUp (dLane q) = true → s.manager = true → s.dev = 1 →
      Completes (.enumConflictReceive q b) s fun t =>
          t.rd 0xB03008 = byteAt b 1 ∧ t.rd 0xB00509 = wrapInc 32 (s.rd 0xB00509) ∧ t.bitAt 0xB03003 4 = true ∧ t.hatch = { s.hatch with enumAt := none, yWaitAt := none } ∧ t.dev = 1 ∧ t.bitAt 0xB02003 1 = false ∧ (s.bitAt 0xB02003 1 = true → offers s t = true) ∧ (s.bitAt 0xB02003 1 = false → t.lanes = s.lanes ∧ t.frames = s.frames) ∧ t.tick = s.tick ∧
          KeepsObjs [0xB03003, 0xB03008, 0xB02003, 0xB00508, 0xB00509] s t ∧
          t = { s with objs := t.objs, hatch := t.hatch, lease := t.lease, lanes := t.lanes, frames := { s.frames with txSeq := t.frames.txSeq } }) ∧
    (∀ (ticks : BitVec 32), s.manager = true → s.dev = 1 → msTicks 1 ≤ ticks.toNat → s.hatch.since + msTicks 1 ≤ s.tick →
      Completes (.roleConflictDetect ticks) s fun t =>
          t.bitAt 0xB03003 4 = true ∧ t.hatch = { s.hatch with enumAt := none, yWaitAt := none } ∧ t.dev = 1 ∧ t.bitAt 0xB02003 1 = false ∧ (s.bitAt 0xB02003 1 = true → offers s t = true) ∧ (s.bitAt 0xB02003 1 = false → t.lanes = s.lanes ∧ t.frames = s.frames) ∧ t.tick = s.tick ∧
          KeepsObjs [0xB03003, 0xB02003, 0xB00508] s t ∧
          t = { s with objs := t.objs, hatch := t.hatch, lease := t.lease, lanes := t.lanes, frames := { s.frames with txSeq := t.frames.txSeq } }) ∧
    (∀ (ticks : BitVec 32), (s.manager = false ∨ s.dev ≠ 1 ∨ ticks.toNat < msTicks 1 ∨ s.tick < s.hatch.since + msTicks 1) →
      Completes (.roleConflictDetect ticks) s fun t =>
          t = s) ∧
    (∀ (q : Path) (b : Bytes) (old : JoinSt), s.laneUp (dLane q) = true → s.manager = true → s.dev ≠ 0 → s.dev ≠ 1 → ((s.hatch.joins.find? fun j => j.pos == byteAt b 1).getD ⟨byteAt b 1, false, false, none⟩ = old) →
      Completes (.enumJoinReceive q b) s fun t =>
          t.rd (0xB03004 + q.val) = max (s.rd (0xB03004 + q.val)) (byteAt b 1 + 1) ∧ t.rd 0xB03009 = wrapInc 32 (s.rd 0xB03009) ∧ t.rd 0xB00509 = wrapInc 32 (s.rd 0xB00509) ∧ t.tick = s.tick ∧ (∀ p : Fin 32, t.time.integral[p] = if p.val = byteAt b 1 then 0 else s.time.integral[p]) ∧
          ((old.x || q == 0) = true → (old.y || q == 1) = true → t.hatch = { s.hatch with joins := s.hatch.joins.filter fun j => j.pos != byteAt b 1 } ∧ (∀ p : Path, (s.maySend (dLane p) = true → queued s t (dLane p) 0x0B false (byteAt b 1) (s.enumBytes p ⟨4, t.rd 0xB03004, t.rd (kPathRate p), t.bitAt 0xB03003 (8 + p.val), false, if s.bitAt 0xB03003 1 then t.rd 0xB03005 else 0⟩) = true) ∧ (s.maySend (dLane p) = false → t.lanes[dLane p] = s.lanes[dLane p]) ∧ t.lanes[uLane p] = s.lanes[uLane p])) ∧
          ((old.x || q == 0) = false ∨ (old.y || q == 1) = false → t.hatch = { s.hatch with joins := (s.hatch.joins.filter fun j => j.pos != byteAt b 1) ++ [⟨byteAt b 1, old.x || q == 0, old.y || q == 1, if old.x || q == 0 then some (old.due.getD (s.tick + msTicks s.hatch.cfg[(3 : Fin 6)])) else none⟩] } ∧ t.lanes = s.lanes ∧ t.frames = s.frames) ∧
          KeepsObjs [0xB03004 + q.val, 0xB03009, 0xB00508, 0xB00509] s t ∧
          t = { s with objs := t.objs, hatch := t.hatch, lanes := t.lanes, time := { s.time with integral := t.time.integral }, frames := { s.frames with txSeq := t.frames.txSeq } }) ∧
    (∀ (q : Path) (b : Bytes), s.laneUp (uLane q) = false →
      Completes (.enumCheckReceive q b) s fun t =>
          t = s) ∧
    (∀ (q : Path) (b : Bytes), s.laneUp (uLane q) = false →
      Completes (.enumDoneReceive q b) s fun t =>
          t = s) ∧
    (∀ (q : Path) (b : Bytes), s.laneUp (dLane q) = false →
      Completes (.enumConflictReceive q b) s fun t =>
          t = s) ∧
    (∀ (q : Path) (b : Bytes), s.laneUp (dLane q) = false →
      Completes (.enumJoinReceive q b) s fun t =>
          t = s)

/-- Receipt, routing and transmission of frames. Blocks on an UP lane count their code errors, break a run of WAKE blocks, and spell, with those of the frame in progress before them, a frame; without its end it is held, and one that a new START breaks off counts in the counter of cut frames. One shorter than 12 bytes, one not ended by END, one too long, of another length than it says or with the PATH bit of another path counts there too, one with a bad CRC in the CRC counter; the CRC_DENSITYth bad CRC within CRC_WINDOW on the holder's U lane takes a worker's lease with cause 3. An intact frame of a worker for another position goes into the other lane's queue as forwarded, a cut one or one with a bad CRC too, to end in ABORT; without room in the buffer it is discarded and counted. An intact frame for this device is consumed by its TYPE. A lane that may send sends a frame of the lowest priority number that waits, once the one before it has ended, and the line reads back as its bytes; a SWARM request is carried out once its ACK has been sent; a lane that may not, or has none waiting, sends none. Under hypotheses on the state and the operands alone, exec answers a next state with the command's own effect for: frameReceive, frameTransmitSelect. (spec/13 R416, R425; spec/14 R445, R446, R447, R448, R449, R451, R452, R453, R461; spec/15 R486.) -/
def Obligations.FramesAreCheckedRoutedAndSent : Prop :=
  ∀ s : State,
    (∀ (i : Lane) (blocks : List LineBlock) (b : Bytes) (e : Bool), s.inReset = false → s.laneUp i = true → s.prbsOn (lanePath i) = false → (s.manager && !isD i) = false → wholeFrame (s.rxNow i blocks) = some (b, e) → b.length < 12 →
      Completes (.frameReceive i blocks) s fun t =>
          t.rd 0xB00504 = wrapInc 32 (s.rd 0xB00504) (s.brokenOff i blocks + 1) ∧ t.rd (kLane i 0x0A) = wrapInc 32 (s.rd (kLane i 0x0A)) ((blocks.map (codeErrors (s.laneRate i))).sum) ∧ t.lanes[i] = { s.lanes[i] with rx := [], wakes := if (heardBlocks (s.laneRate i) blocks).isEmpty then s.lanes[i].wakes else 0 } ∧ (∀ j : Lane, j ≠ i → t.lanes[j] = s.lanes[j]) ∧
          KeepsObjs [0xB00504, kLane i 0x0A] s t ∧
          t = { s with objs := t.objs, paths := t.paths, lanes := t.lanes }) ∧
    (∀ (i : Lane) (blocks : List LineBlock) (b : Bytes), s.inReset = false → s.laneUp i = true → s.prbsOn (lanePath i) = false → (s.manager && !isD i) = false → wholeFrame (s.rxNow i blocks) = some (b, false) → 12 ≤ b.length → (2060 < b.length ∨ s.goesOn i (readFrame b) = false) →
      Completes (.frameReceive i blocks) s fun t =>
          t.rd 0xB00504 = wrapInc 32 (s.rd 0xB00504) (s.brokenOff i blocks + 1) ∧ t.rd (kLane i 0x0A) = wrapInc 32 (s.rd (kLane i 0x0A)) ((blocks.map (codeErrors (s.laneRate i))).sum) ∧ t.lanes[i] = { s.lanes[i] with rx := [], wakes := if (heardBlocks (s.laneRate i) blocks).isEmpty then s.lanes[i].wakes else 0 } ∧ (∀ j : Lane, j ≠ i → t.lanes[j] = s.lanes[j]) ∧
          KeepsObjs [0xB00504, kLane i 0x0A] s t ∧
          t = { s with objs := t.objs, paths := t.paths, lanes := t.lanes }) ∧
    (∀ (i : Lane) (blocks : List LineBlock) (b : Bytes) (p : Nat), s.inReset = false → s.laneUp i = true → s.prbsOn (lanePath i) = false → (s.manager && !isD i) = false → wholeFrame (s.rxNow i blocks) = some (b, false) → 12 ≤ b.length → b.length ≤ 2060 → (readFrame b).payload.length + 12 = b.length → s.manager = false → s.posOn (lanePath i) = some p → p ≠ byteAt b 3 → oneHop (readFrame b) = false → s.maySend (otherLane i) = true → s.bufferUsed (otherLane i) + b.length ≤ 4608 →
      Completes (.frameReceive i blocks) s fun t =>
          t.lanes[otherLane i].queue.dropLast = s.lanes[otherLane i].queue ∧ (t.lanes[otherLane i].queue.getLast?.map fun x => (x.f, x.fwd, x.cut)) = some (readFrame b, true, true) ∧ (byteAt b 0 < 4 ∨ 6 < byteAt b 0 → (t.lanes[otherLane i].queue.getLast?.map fun x => x.rx) = some s.netUnits) ∧ t.lanes[i] = { s.lanes[i] with rx := [], wakes := if (heardBlocks (s.laneRate i) blocks).isEmpty then s.lanes[i].wakes else 0 } ∧ (∀ j : Lane, j ≠ i → t.lanes[j] = { s.lanes[j] with queue := t.lanes[j].queue }) ∧ (∀ j : Lane, j ≠ otherLane i → t.lanes[j].queue = s.lanes[j].queue) ∧ t.rd (kLane i 0x0A) = wrapInc 32 (s.rd (kLane i 0x0A)) ((blocks.map (codeErrors (s.laneRate i))).sum) ∧ t.rd 0xB00504 = wrapInc 32 (s.rd 0xB00504) (s.brokenOff i blocks + 1) ∧
          KeepsObjs [0xB00504, kLane i 0x0A, 0xB00508] s t ∧
          t = { s with lanes := t.lanes, objs := t.objs, paths := t.paths, free := t.free }) ∧
    (∀ (i : Lane) (blocks : List LineBlock) (b : Bytes), s.inReset = false → s.laneUp i = true → s.prbsOn (lanePath i) = false → (s.manager && !isD i) = false → wholeFrame (s.rxNow i blocks) = some (b, true) → 12 ≤ b.length → leAt b (b.length - 4) 4 ≠ crc32c (b.take (b.length - 4)) →
      Completes (.frameReceive i blocks) s fun t =>
          t.rd 0xB00503 = wrapInc 32 (s.rd 0xB00503) ∧ t.tick = s.tick ∧ t.frames = s.frames ∧ t.rd (kLane i 0x0A) = wrapInc 32 (s.rd (kLane i 0x0A)) ((blocks.map (codeErrors (s.laneRate i))).sum) ∧
          KeepsOtherAreas [0xB, 0xE] s t ∧
          t = { s with objs := t.objs, rails := t.rails, lanes := t.lanes, paths := t.paths, lease := t.lease, jobs := t.jobs, free := t.free }) ∧
    (∀ (i : Lane) (blocks : List LineBlock) (b : Bytes) (p : Nat), s.inReset = false → s.laneUp i = true → s.prbsOn (lanePath i) = false → (s.manager && !isD i) = false → wholeFrame (s.rxNow i blocks) = some (b, true) → 12 ≤ b.length → b.length ≤ 2060 → leAt b (b.length - 4) 4 ≠ crc32c (b.take (b.length - 4)) → s.manager = false → s.posOn (lanePath i) = some p → p ≠ byteAt b 3 → oneHop (readFrame b) = false → isD i = true → s.maySend (otherLane i) = true → s.bufferUsed (otherLane i) + b.length ≤ 4608 →
      Completes (.frameReceive i blocks) s fun t =>
          t.lanes[otherLane i].queue.dropLast = s.lanes[otherLane i].queue ∧ (t.lanes[otherLane i].queue.getLast?.map fun x => (x.f, x.fwd, x.cut)) = some (readFrame b, true, true) ∧ (byteAt b 0 < 4 ∨ 6 < byteAt b 0 → (t.lanes[otherLane i].queue.getLast?.map fun x => x.rx) = some s.netUnits) ∧
          KeepsObjs [0xB00504, kLane i 0x0A, 0xB00503, 0xB00508] s t ∧
          t = { s with lanes := t.lanes, objs := t.objs, paths := t.paths, free := t.free }) ∧
    (∀ (i : Lane) (blocks : List LineBlock) (b : Bytes), s.inReset = false → s.laneUp i = true → s.prbsOn (lanePath i) = false → (s.manager && !isD i) = false → wholeFrame (s.rxNow i blocks) = some (b, true) → 12 ≤ b.length → leAt b (b.length - 4) 4 ≠ crc32c (b.take (b.length - 4)) → s.manager = false → isD i = false → s.pselLow = false → s.holder = i.val / 2 → (s.rd 0xB02106 ≤ (s.lanes[i].crcAt.filter fun t => s.tick ≤ t + usTicks (s.rd 0xB02107)).length + 1) →
      Completes (.frameReceive i blocks) s fun t =>
          t.rd 0xB02008 = 3 ∧ t.holder = (if s.health (1 - s.holder) = 3 then 1 - s.holder else 0xFF) ∧
          KeepsOtherAreas [0xB, 0xE] s t ∧
          t = { s with objs := t.objs, rails := t.rails, lanes := t.lanes, paths := t.paths, lease := t.lease, jobs := t.jobs, free := t.free }) ∧
    (∀ (i : Lane) (blocks : List LineBlock) (b : Bytes), s.inReset = false → s.laneUp i = true → s.prbsOn (lanePath i) = false → (s.manager && !isD i) = false → wholeFrame (s.rxNow i blocks) = some (b, true) → 12 ≤ b.length → leAt b (b.length - 4) 4 = crc32c (b.take (b.length - 4)) → (2048 < leAt b 6 2 ∨ leAt b 6 2 ≠ b.length - 12 ∨ bit (byteAt b 1) 0 ≠ (lanePath i == 1)) →
      Completes (.frameReceive i blocks) s fun t =>
          t.rd 0xB00504 = wrapInc 32 (s.rd 0xB00504) (s.brokenOff i blocks + 1) ∧ t.rd (kLane i 0x0A) = wrapInc 32 (s.rd (kLane i 0x0A)) ((blocks.map (codeErrors (s.laneRate i))).sum) ∧ t.lanes[i] = { s.lanes[i] with rx := [], wakes := if (heardBlocks (s.laneRate i) blocks).isEmpty then s.lanes[i].wakes else 0 } ∧ (∀ j : Lane, j ≠ i → t.lanes[j] = s.lanes[j]) ∧
          KeepsObjs [0xB00504, kLane i 0x0A] s t ∧
          t = { s with objs := t.objs, paths := t.paths, lanes := t.lanes }) ∧
    (∀ (i : Lane) (blocks : List LineBlock) (b : Bytes) (p : Nat), s.inReset = false → s.laneUp i = true → s.prbsOn (lanePath i) = false → (s.manager && !isD i) = false → wholeFrame (s.rxNow i blocks) = some (b, true) → 12 ≤ b.length → leAt b (b.length - 4) 4 = crc32c (b.take (b.length - 4)) → leAt b 6 2 ≤ 2048 → leAt b 6 2 = b.length - 12 → bit (byteAt b 1) 0 = (lanePath i == 1) → s.manager = false → s.posOn (lanePath i) = some p → p ≠ byteAt b 3 → byteAt b 3 ≠ 0xFF → s.maySend (otherLane i) = true → s.bufferUsed (otherLane i) + b.length ≤ 4608 →
      Completes (.frameReceive i blocks) s fun t =>
          t.lanes[otherLane i].queue.dropLast = s.lanes[otherLane i].queue ∧ (t.lanes[otherLane i].queue.getLast?.map fun x => (x.f, x.fwd, x.cut)) = some (readFrame b, true, false) ∧ (byteAt b 0 < 4 ∨ 6 < byteAt b 0 → (t.lanes[otherLane i].queue.getLast?.map fun x => x.rx) = some s.netUnits) ∧ t.lanes[i] = { s.lanes[i] with rx := [], wakes := if (heardBlocks (s.laneRate i) blocks).isEmpty then s.lanes[i].wakes else 0 } ∧ (∀ j : Lane, j ≠ i → t.lanes[j] = { s.lanes[j] with queue := t.lanes[j].queue }) ∧ (∀ j : Lane, j ≠ otherLane i → t.lanes[j].queue = s.lanes[j].queue) ∧ t.rd (kLane i 0x0A) = wrapInc 32 (s.rd (kLane i 0x0A)) ((blocks.map (codeErrors (s.laneRate i))).sum) ∧ t.rd 0xB00504 = wrapInc 32 (s.rd 0xB00504) (s.brokenOff i blocks) ∧
          KeepsObjs [0xB00504, kLane i 0x0A, 0xB00508] s t ∧
          t = { s with lanes := t.lanes, objs := t.objs, paths := t.paths, free := t.free }) ∧
    (∀ (i : Lane) (blocks : List LineBlock) (b : Bytes) (p : Nat), s.inReset = false → s.laneUp i = true → s.prbsOn (lanePath i) = false → (s.manager && !isD i) = false → wholeFrame (s.rxNow i blocks) = some (b, true) → 12 ≤ b.length → leAt b (b.length - 4) 4 = crc32c (b.take (b.length - 4)) → leAt b 6 2 ≤ 2048 → leAt b 6 2 = b.length - 12 → bit (byteAt b 1) 0 = (lanePath i == 1) → s.manager = false → s.posOn (lanePath i) = some p → p ≠ byteAt b 3 → byteAt b 3 ≠ 0xFF → 4608 < s.bufferUsed (otherLane i) + b.length →
      Completes (.frameReceive i blocks) s fun t =>
          t.rd 0xB00505 = wrapInc 32 (s.rd 0xB00505) ∧ t.rd (kLane i 0x0A) = wrapInc 32 (s.rd (kLane i 0x0A)) ((blocks.map (codeErrors (s.laneRate i))).sum) ∧ t.rd 0xB00504 = wrapInc 32 (s.rd 0xB00504) (s.brokenOff i blocks) ∧ t.lanes[i] = { s.lanes[i] with rx := [], wakes := if (heardBlocks (s.laneRate i) blocks).isEmpty then s.lanes[i].wakes else 0 } ∧ (∀ j : Lane, j ≠ i → t.lanes[j] = s.lanes[j]) ∧
          KeepsObjs [0xB00504, kLane i 0x0A, 0xB00505] s t ∧
          t = { s with objs := t.objs, paths := t.paths, lanes := t.lanes }) ∧
    (∀ (i : Lane) (blocks : List LineBlock) (b : Bytes) (p : Nat), s.inReset = false → s.laneUp i = true → s.prbsOn (lanePath i) = false → (s.manager && !isD i) = false → wholeFrame (s.rxNow i blocks) = some (b, true) → 12 ≤ b.length → leAt b (b.length - 4) 4 = crc32c (b.take (b.length - 4)) → leAt b 6 2 ≤ 2048 → leAt b 6 2 = b.length - 12 → bit (byteAt b 1) 0 = (lanePath i == 1) → s.posOn (lanePath i) = some p → p = byteAt b 3 → p ≠ 0xFF → inLane (readFrame b) = i →
      Completes (.frameReceive i blocks) s fun t =>
          (byteAt b 0 = 1 → exec (.stringFrameAccept (readFrame b)) (s.lineIn i blocks) = .next t) ∧ (byteAt b 0 = 2 → exec (.statusFrameReceive (readFrame b)) (s.lineIn i blocks) = .next t) ∧ (byteAt b 0 = 3 → byteAt b 8 = 0 → exec (.dictRequestReceive (readFrame b)) (s.lineIn i blocks) = .next t) ∧ (byteAt b 0 = 3 → byteAt b 8 = 1 → exec (.dictResponseReceive (readFrame b)) (s.lineIn i blocks) = .next t) ∧ (byteAt b 0 = 4 → byteAt b 32 = 1 → exec (.timeSyncSet (readFrame b)) (s.lineIn i blocks) = .next t) ∧ (byteAt b 0 = 7 → byteAt b 8 = 0 → exec (.leaseFrameRenew (readFrame b)) (s.lineIn i blocks) = .next t) ∧ (byteAt b 0 = 9 → exec (.captureFrameReceive (readFrame b)) (s.lineIn i blocks) = .next t) ∧ (byteAt b 0 = 0x0A → exec (.triggerFrameReceive (readFrame b)) (s.lineIn i blocks) = .next t) ∧ (byteAt b 0 = 0x0C → exec (.eventFrameReceive (readFrame b)) (s.lineIn i blocks) = .next t) ∧ (byteAt b 0 = 0x0D → exec (.safeFrameReceive (readFrame b)) (s.lineIn i blocks) = .next t) ∧ (byteAt b 0 = 0x0E → exec (.ackReceive (readFrame b)) (s.lineIn i blocks) = .next t) ∧ (byteAt b 0 = 0x0F → exec (.nakReceive (readFrame b)) (s.lineIn i blocks) = .next t)) ∧
    (∀ (i : Lane) (blocks : List LineBlock), s.laneUp i = true → frameOpen (s.rxNow i blocks) = false → (s.inReset = true ∨ s.prbsOn (lanePath i) = true ∨ (s.manager && !isD i) = true ∨ (wholeFrame (s.rxNow i blocks)).isNone = true) →
      Completes (.frameReceive i blocks) s fun t =>
          t.rd (kLane i 0x0A) = wrapInc 32 (s.rd (kLane i 0x0A)) ((blocks.map (codeErrors (s.laneRate i))).sum) ∧ t.rd 0xB00504 = wrapInc 32 (s.rd 0xB00504) (s.brokenOff i blocks) ∧ t.lanes[i] = { s.lanes[i] with rx := [], wakes := if (heardBlocks (s.laneRate i) blocks).isEmpty then s.lanes[i].wakes else 0 } ∧ (∀ j : Lane, j ≠ i → t.lanes[j] = s.lanes[j]) ∧
          KeepsObjs [0xB00504, kLane i 0x0A] s t ∧
          t = { s with objs := t.objs, paths := t.paths, lanes := t.lanes }) ∧
    (∀ (i : Lane) (blocks : List LineBlock), s.laneUp i = true → frameOpen (s.rxNow i blocks) = true →
      Completes (.frameReceive i blocks) s fun t =>
          t.rd (kLane i 0x0A) = wrapInc 32 (s.rd (kLane i 0x0A)) ((blocks.map (codeErrors (s.laneRate i))).sum) ∧ t.rd 0xB00504 = wrapInc 32 (s.rd 0xB00504) (s.brokenOff i blocks) ∧ t.lanes[i].rx = s.rxNow i blocks ∧ t.lanes[i].queue = s.lanes[i].queue ∧ (∀ j : Lane, j ≠ i → t.lanes[j] = s.lanes[j]) ∧
          KeepsObjs [0xB00504, kLane i 0x0A] s t ∧
          t = { s with objs := t.objs, paths := t.paths, lanes := t.lanes }) ∧
    (∀ (i : Lane) (blocks : List LineBlock), s.laneUp i = false →
      Completes (.frameReceive i blocks) s fun t =>
          t = s) ∧
    (∀ (i : Lane) (x : QFrame), s.maySend i = true → nextOut s.lanes[i].queue = some x → s.swarmOf x.f = none →
      Completes (.frameTransmitSelect i) s fun t =>
          t.tick = max s.tick s.lanes[i].busyTo ∧ t.lanes[i].queue = dropOne x s.lanes[i].queue ∧ t.lanes[i].sent = some ((s.advanceTo s.lanes[i].busyTo).departs i x).1 ∧ (s.lanes[i].queue.all fun y => priority x.f.typ.toNat ≤ priority y.f.typ.toNat) = true ∧
          (x.cut = false → readFrameBlocks (t.lanes[i].line.map (readBlock (s.laneRate i))) = some (frameBytes ((s.advanceTo s.lanes[i].busyTo).departs i x).1, true)) ∧ t.lanes[i].busyTo = t.tick + t.lanes[i].line.length * blockTicks (s.laneRate i) ∧ (∀ j : Lane, j ≠ i → t.lanes[j] = s.lanes[j]) ∧
          t = { s with lanes := t.lanes, tick := t.tick, net := t.net, free := t.free }) ∧
    (∀ (i : Lane) (x : QFrame) (w : Frame) (g : Telegram), s.maySend i = true → nextOut s.lanes[i].queue = some x → s.swarmOf x.f = some w → s.unserved = false → byteAt w.payload 1 = 6 → g = readTelegram s.node ((w.payload.drop 8).take (leAt w.payload 4 2)) → g.op = 2 → cutOf g = false → g.index.toNat / 4096 ≠ 1 → g.index.toNat / 4096 ≠ 0xB →
      Completes (.frameTransmitSelect i) s fun t =>
          (s.putFrame i x).1 = x.f ∧ t.frames.swarmIn = s.frames.swarmIn.erase w ∧ KeepsOtherAreas [0xB] (((s.putFrame i x).2.advanceTo (s.putFrame i x).2.lanes[i].busyTo).hostWrite true g.index.toNat g.sub.toNat (datOf g)).2 t) ∧
    (∀ (i : Lane), (s.maySend i = false ∨ s.lanes[i].queue = []) →
      Completes (.frameTransmitSelect i) s fun t =>
          t = s)

/-- ACK, NAK, retry time-out, forward time-out. An ACK with the frame's SEQ frees it, and one with another SEQ changes no frame; a NAK or the retry time-out sends the frame again with RETRY set and a new time-out, until RETRY_LIMIT is reached: then it has failed and counts; a frame that waited behind it goes next, a SWARM goes on to the next position, with the failed one marked, and the packetiser rewinds and stalls; FORWARD_TIMEOUT ends a forwarded transaction with STATUS 9. Under hypotheses on the state and the operands alone, exec answers a next state with the command's own effect for: ackReceive, nakReceive, retryTimeout, forwardTimeout. (spec/14 R456, R457, R460, R461; spec/15 R489; spec/18 R599.) -/
def Obligations.AcksFreeAndNaksRepeatFrames : Prop :=
  ∀ s : State,
    (∀ (f : Frame) (u : Unacked), s.laneUp (inLane f) = true → s.unackedTo (byteAt f.payload 0) f.src.toNat = some u → u.f.seq.toNat = leAt f.payload 2 2 → u.f.typ = 3 → byteAt u.f.payload 0 ≠ 3 → ((s.frames.waiting.any fun w => sameTriple w u.f) = false) →
      Completes (.ackReceive f) s fun t =>
          t.rd 0xB00509 = wrapInc 32 (s.rd 0xB00509) ∧ t.frames = { s.frames with unacked := s.frames.unacked.filter fun x => !sameTriple x.f u.f } ∧
          KeepsObjs [0xB0200A, 0xB00509] s t ∧
          t = { s with frames := t.frames, objs := t.objs, jobs := t.jobs }) ∧
    (∀ (f : Frame) (u : Unacked) (w : Frame), s.laneUp (inLane f) = true → s.unackedTo (byteAt f.payload 0) f.src.toNat = some u → u.f.seq.toNat = leAt f.payload 2 2 → u.f.typ = 3 → byteAt u.f.payload 0 ≠ 3 → ((s.frames.waiting.find? fun x => sameTriple x u.f) = some w) →
      Completes (.ackReceive f) s fun t =>
          t.rd 0xB00509 = wrapInc 32 (s.rd 0xB00509) ∧ t.frames.unacked = (s.frames.unacked.filter fun x => !sameTriple x.f u.f) ++ ([⟨s.onPath w, 0, s.tick + usTicks (s.rd 0xB00501)⟩] : List Unacked) ∧ (s.onPath w).seq = w.seq ∧ (t.frames.waiting.any fun x => sameTriple x w && x.seq == w.seq) = false ∧ (s.maySend (if w.up then uLane (s.onPath w).path else dLane (s.onPath w).path) = true → (t.lanes[(if w.up then uLane (s.onPath w).path else dLane (s.onPath w).path)].queue.any fun x => x.f.typ == w.typ && x.f.seq == w.seq && x.f.payload == w.payload) = true) ∧
          KeepsObjs [0xB0200A, 0xB00508, 0xB00509] s t ∧
          t = { s with frames := t.frames, lanes := t.lanes, objs := t.objs, jobs := t.jobs }) ∧
    (∀ (f : Frame) (u : Unacked) (w : SwarmSt) (ws : List SwarmSt) (p : Nat), s.laneUp (inLane f) = true → s.unackedTo (byteAt f.payload 0) f.src.toNat = some u → u.f.seq.toNat = leAt f.payload 2 2 → u.f.typ = 3 → byteAt u.f.payload 0 = 3 → s.frames.swarm = w :: ws → w.at_ = u.f.dst.toNat → min w.at_ (s.rd 0xB03004) = p + 1 → 1 ≤ p →
      Completes (.ackReceive f) s fun t =>
          t.rd 0xB00509 = wrapInc 32 (s.rd 0xB00509) ∧ t.frames.swarm = { w with at_ := p } :: ws ∧ (((t.frames.unacked.map fun x => x.f) ++ t.frames.waiting).any fun x => x.typ == 3 && x.dst == BitVec.ofNat 8 p && byteAt x.payload 0 == 3 && x.payload.drop 8 == bytesOf w.telegram) = true ∧
          KeepsObjs [0xB0200A, 0xB00508, 0xB00509] s t ∧
          t = { s with frames := t.frames, lanes := t.lanes, objs := t.objs, jobs := t.jobs }) ∧
    (∀ (f : Frame) (u : Unacked), s.laneUp (inLane f) = true → s.unackedTo (byteAt f.payload 0) f.src.toNat = some u → u.f.seq.toNat ≠ leAt f.payload 2 2 →
      Completes (.ackReceive f) s fun t =>
          t.rd 0xB00509 = wrapInc 32 (s.rd 0xB00509) ∧ t.tick = s.tick ∧
          KeepsObjs [0xB0200A, 0xB00509] s t ∧
          t = { s with objs := t.objs, jobs := t.jobs }) ∧
    (∀ (f : Frame), s.laneUp (inLane f) = true → (s.unackedTo (byteAt f.payload 0) f.src.toNat).isNone = true →
      Completes (.ackReceive f) s fun t =>
          t.rd 0xB00509 = wrapInc 32 (s.rd 0xB00509) ∧ t.frames = s.frames ∧
          KeepsObjs [0xB0200A, 0xB00509] s t ∧
          t = { s with objs := t.objs, jobs := t.jobs }) ∧
    (∀ (f : Frame), s.laneUp (inLane f) = true → (s.unackedTo (byteAt f.payload 0) f.src.toNat).isNone = true →
      Completes (.nakReceive f) s fun t =>
          t.rd 0xB00509 = wrapInc 32 (s.rd 0xB00509) ∧ t.frames = s.frames ∧
          KeepsObjs [0xB0200A, 0xB00509] s t ∧
          t = { s with objs := t.objs, jobs := t.jobs }) ∧
    (∀ (f : Frame) (u : Unacked), s.laneUp (inLane f) = true → s.unackedTo (byteAt f.payload 0) f.src.toNat = some u → u.tries < s.rd 0xB00502 →
      Completes (.nakReceive f) s fun t =>
          t.rd 0xB00509 = wrapInc 32 (s.rd 0xB00509) ∧ t.rd 0xB00506 = wrapInc 32 (s.rd 0xB00506) ∧ (t.frames.unacked.any fun x => sameTriple x.f u.f && x.f.retry && x.f.seq == u.f.seq && x.f.payload == u.f.payload && x.tries == u.tries + 1 && x.due == s.tick + usTicks (s.rd 0xB00501)) = true ∧
          KeepsObjs [0xB0200A, 0xB00506, 0xB00508, 0xB00509] s t ∧
          t = { s with frames := t.frames, lanes := t.lanes, objs := t.objs, jobs := t.jobs }) ∧
    (∀ (f : Frame) (u : Unacked), s.laneUp (inLane f) = true → s.unackedTo (byteAt f.payload 0) f.src.toNat = some u → s.rd 0xB00502 ≤ u.tries → u.f.typ = 3 → byteAt u.f.payload 0 = 1 → ((s.frames.waiting.any fun w => sameTriple w u.f) = false) →
      Completes (.nakReceive f) s fun t =>
          t.rd 0xB00509 = wrapInc 32 (s.rd 0xB00509) ∧ t.rd 0xB00507 = wrapInc 32 (s.rd 0xB00507) ∧ t.frames = { s.frames with unacked := s.frames.unacked.filter fun x => !sameTriple x.f u.f } ∧
          KeepsObjs [0xB0200A, 0xB00507, 0xB00509] s t ∧
          t = { s with frames := t.frames, lanes := t.lanes, objs := t.objs, jobs := t.jobs }) ∧
    (∀ (typ : Byte) (dst : Byte) (q : Path) (u : Unacked), s.unackedTo typ.toNat dst.toNat = some u → u.f.path = q → u.tries < s.rd 0xB00502 →
      Completes (.retryTimeout typ dst q) s fun t =>
          t.tick = max s.tick u.due ∧ t.rd 0xB00506 = wrapInc 32 (s.rd 0xB00506) ∧ (t.frames.unacked.any fun x => sameTriple x.f u.f && x.f.retry && x.f.seq == u.f.seq && x.f.payload == u.f.payload && x.tries == u.tries + 1 && x.due == t.tick + usTicks (s.rd 0xB00501)) = true ∧ (s.maySend (if u.f.up then uLane ((s.pathTo u.f.dst.toNat).getD u.f.path) else dLane ((s.pathTo u.f.dst.toNat).getD u.f.path)) = true → (t.lanes[(if u.f.up then uLane ((s.pathTo u.f.dst.toNat).getD u.f.path) else dLane ((s.pathTo u.f.dst.toNat).getD u.f.path))].queue.any fun x => sameTriple x.f u.f && x.f.retry && x.f.seq == u.f.seq && x.f.payload == u.f.payload) = true) ∧
          KeepsObjs [0xB00506, 0xB00508] s t ∧
          t = { s with frames := t.frames, lanes := t.lanes, objs := t.objs, tick := t.tick, net := t.net }) ∧
    (∀ (typ : Byte) (dst : Byte) (q : Path) (u : Unacked) (x : Forwarded), s.unackedTo typ.toNat dst.toNat = some u → u.f.path = q → s.rd 0xB00502 ≤ u.tries → u.f.typ = 3 → byteAt u.f.payload 0 = 0 → ((s.frames.waiting.any fun w => sameTriple w u.f) = false) → ((s.frames.forwarded.find? fun y => y.is dst.toNat (byteAt u.f.payload 3) false) = some x) →
      Completes (.retryTimeout typ dst q) s fun t =>
          t.tick = max s.tick u.due ∧ t.rd 0xB00507 = wrapInc 32 (s.rd 0xB00507) ∧ (t.frames.unacked.any fun y => sameTriple y.f u.f) = false ∧ (t.frames.forwarded.any fun y => y.is x.node x.tagGen false) = false ∧ answers t ⟨x.channel % 2, by omega⟩ (s.node + x.node) (withStatus x.head 9) = true ∧
          KeepsObjs [0xB00507] s t ∧
          t = { s with frames := t.frames, can := t.can, wdp := t.wdp, tick := t.tick, net := t.net, objs := t.objs, free := t.free, collector := { s.collector with relay := t.collector.relay } }) ∧
    (∀ (typ : Byte) (dst : Byte) (q : Path) (u : Unacked) (w : SwarmSt) (ws : List SwarmSt) (p : Nat), s.unackedTo typ.toNat dst.toNat = some u → u.f.path = q → s.rd 0xB00502 ≤ u.tries → u.f.typ = 3 → byteAt u.f.payload 0 = 3 → s.frames.swarm = w :: ws → w.at_ = u.f.dst.toNat → min w.at_ (s.rd 0xB03004) = p + 1 → 1 ≤ p →
      Completes (.retryTimeout typ dst q) s fun t =>
          t.tick = max s.tick u.due ∧ t.rd 0xB00507 = wrapInc 32 (s.rd 0xB00507) ∧ t.frames.swarm = { w with at_ := p, failed := setBit w.failed u.f.dst.toNat true } :: ws ∧ (((t.frames.unacked.map fun x => x.f) ++ t.frames.waiting).any fun x => x.typ == 3 && x.dst == BitVec.ofNat 8 p && byteAt x.payload 0 == 3 && x.payload.drop 8 == bytesOf w.telegram) = true ∧
          KeepsObjs [0xB00507, 0xB00508] s t ∧
          t = { s with frames := t.frames, lanes := t.lanes, objs := t.objs, tick := t.tick, net := t.net }) ∧
    (∀ (typ : Byte) (dst : Byte) (q : Path) (u : Unacked), s.unackedTo typ.toNat dst.toNat = some u → u.f.path = q → s.rd 0xB00502 ≤ u.tries → u.f.typ ≠ 3 → s.egressIs u.f = true → ((s.frames.waiting.any fun w => sameTriple w u.f) = false) →
      Completes (.retryTimeout typ dst q) s fun t =>
          t.tick = max s.tick u.due ∧ t.rd 0xB00507 = wrapInc 32 (s.rd 0xB00507) ∧ t.rd 0xD0600F = wrapInc 32 (s.rd 0xD0600F) ∧ t.capture = { s.capture with readAhead := s.capture.markAhead, egress := { s.capture.egress with waiting := false, stallAt := some (t.tick + msTicks (s.rd 0xD0000C)), failed := some u.f } } ∧ t.frames = { s.frames with unacked := s.frames.unacked.filter fun x => !sameTriple x.f u.f } ∧
          KeepsObjs [0xB00507, 0xD0600F] s t ∧
          t = { s with frames := t.frames, objs := t.objs, capture := t.capture, tick := t.tick, net := t.net }) ∧
    (∀ (typ : Byte) (dst : Byte) (q : Path), (match s.unackedTo typ.toNat dst.toNat with | some u => u.f.path != q | none => true) = true →
      Completes (.retryTimeout typ dst q) s fun t =>
          t = s) ∧
    (∀ (node : Byte) (tag : Byte), ((s.frames.forwarded.find? fun x => x.node == node.toNat && x.tagGen == tag.toNat) = none) →
      Completes (.forwardTimeout node tag) s fun t =>
          t = s) ∧
    (∀ (node : Byte) (tag : Byte) (f : Forwarded), ((s.frames.forwarded.find? fun x => x.node == node.toNat && x.tagGen == tag.toNat) = some f) →
      Completes (.forwardTimeout node tag) s fun t =>
          t.tick = max s.tick f.due ∧ t.rd 0xB04005 = wrapInc 32 (s.rd 0xB04005) ∧ (t.frames.forwarded.any fun x => x.is f.node f.tagGen (byteAt f.head 1 == 6)) = false ∧ t.frames.dropped.contains (f.node, f.tagGen) = true ∧ answers t ⟨f.channel % 2, by omega⟩ (s.node + f.node) (withStatus f.head 9) = true ∧
          KeepsObjs [0xB04005] s t ∧
          t = { s with frames := t.frames, can := t.can, wdp := t.wdp, tick := t.tick, net := t.net, objs := t.objs, free := t.free, collector := { s.collector with relay := t.collector.relay } })

/-- DICT frames. A worker serves the request that an accepted DICT frame carries; the manager takes a worker's response to the host that asked, or counts it where its transaction has ended; a BUSY answers STATUS 1; an ABORT of a transaction that runs answers STATUS 11 and ends it; a SWARM waits for its ACK to leave; the frame's SEQ is consumed. One that finds the receive buffer of 8 frames full is discarded, unanswered, and counted; one from another path than serves is ignored and counted. A device that is no manager, has no node or no Supervisor, and the boot loader, ignore a request on CAN for another node. A manager passes a request for an enumerated worker's node on as a DICT frame and holds it; a segment or window telegram is passed on and not held; a write from the other channel is answered STATUS 8, a duplicate of a held one ignored, one beyond 64 held answered STATUS 10. A write, a block transaction or a state command for node 0 starts a SWARM at the last position, a READ for node 0 is answered 15, one from the other channel 8. Under hypotheses on the state and the operands alone, exec answers a next state with the command's own effect for: dictRequestReceive, dictResponseReceive, dictBusyReceive, dictAbortReceive, dictSwarmReceive, wdpRead, wdpWrite, wdpBlockRead, wdpBlockWrite, wdpState, wdpSegment, wdpWindow, wdpAbort. (spec/14 R456, R458, R459, R460, R461; spec/17 R545, R563, R566, R567, R572.) -/
def Obligations.DictFramesServeForwardAndAnswer : Prop :=
  ∀ s : State,
    (∀ (f : Frame), s.laneUp (inLane f) = true → (s.heard f).takesFrom f.path f.src.toNat = true → s.dictHeld.length < 8 → f.seq.toNat = s.expected f → s.manager = false → byteAt f.payload 0 = 0 → byteAt f.payload 1 = 6 → 8 ≤ ((f.payload.drop 8).take (leAt f.payload 4 2)).length → s.unserved = false → s.wdp.tags[tagOf (byteAt f.payload 8)].state = 0 → byteAt f.payload 9 = 0 →
      Completes (.dictRequestReceive f) s fun t =>
          t.rd 0xB00509 = wrapInc 32 (s.rd 0xB00509) ∧ t.wdp.tags[tagOf (byteAt f.payload 8)].state = 2 ∧ byteAt t.wdp.tags[tagOf (byteAt f.payload 8)].resp 2 = 15 ∧ t.rd 0xC04201 = wrapInc 32 (s.rd 0xC04201) ∧ t.frames.dictEnds.dropLast = s.dictHeld ∧ t.frames.rxSeq = assocSet s.frames.rxSeq (triple f.typ.toNat f.src.toNat f.dst.toNat) ((s.expected f + 1) % 65536) ∧ ((s.heard f).maySend (if f.up then dLane f.path else uLane f.path) = true → (t.lanes[(if f.up then dLane f.path else uLane f.path)].queue.any fun x => x.f.typ.toNat == 0x0E && x.f.dst == f.src && x.f.payload == natLe 2 f.typ.toNat ++ natLe 2 f.seq.toNat) = true) ∧
          KeepsObjs [0xB00508, 0xC04201, 0xB00509] s t ∧
          t = { s with free := t.free, objs := t.objs, lanes := t.lanes, frames := t.frames, wdp := t.wdp }) ∧
    (∀ (f : Frame), s.laneUp (inLane f) = true → (s.heard f).takesFrom f.path f.src.toNat = true → s.dictHeld.length < 8 → f.seq.toNat = s.expected f → s.manager = true → byteAt f.payload 0 = 1 → 8 ≤ ((f.payload.drop 8).take (leAt f.payload 4 2)).length → ((s.frames.forwarded.any fun x => x.is f.src.toNat (byteAt f.payload 8) false) = true) → byteAt f.payload 9 ≠ 6 →
      Completes (.dictResponseReceive f) s fun t =>
          t.rd 0xB00509 = wrapInc 32 (s.rd 0xB00509) ∧ answers t ⟨byteAt f.payload 2 % 2, by omega⟩ (s.node + f.src.toNat) ((f.payload.drop 8).take (leAt f.payload 4 2)) = true ∧ (t.frames.forwarded.any fun x => x.is f.src.toNat (byteAt f.payload 8) false) = false ∧ t.frames.dictEnds.dropLast = s.dictHeld ∧ t.frames.rxSeq = assocSet s.frames.rxSeq (triple f.typ.toNat f.src.toNat f.dst.toNat) ((s.expected f + 1) % 65536) ∧ ((s.heard f).maySend (if f.up then dLane f.path else uLane f.path) = true → (t.lanes[(if f.up then dLane f.path else uLane f.path)].queue.any fun x => x.f.typ.toNat == 0x0E && x.f.dst == f.src && x.f.payload == natLe 2 f.typ.toNat ++ natLe 2 f.seq.toNat) = true) ∧
          KeepsObjs [0xB0200A, 0xB00508, 0xB00509] s t ∧
          t = { s with free := t.free, objs := t.objs, lanes := t.lanes, frames := t.frames, wdp := t.wdp, can := t.can, jobs := t.jobs, collector := { s.collector with relay := t.collector.relay } }) ∧
    (∀ (f : Frame), s.laneUp (inLane f) = true → (s.heard f).takesFrom f.path f.src.toNat = true → s.dictHeld.length < 8 → f.seq.toNat = s.expected f → s.manager = true → byteAt f.payload 0 = 1 → 8 ≤ ((f.payload.drop 8).take (leAt f.payload 4 2)).length → ((s.frames.forwarded.any fun x => x.is f.src.toNat (byteAt f.payload 8) false) = false) → (byteAt f.payload 9 = 1 ∨ byteAt f.payload 9 = 2) →
      Completes (.dictResponseReceive f) s fun t =>
          t.rd 0xB00509 = wrapInc 32 (s.rd 0xB00509) ∧ t.rd 0xB04006 = wrapInc 32 (s.rd 0xB04006) ∧ t.frames.dictEnds.dropLast = s.dictHeld ∧ t.frames.rxSeq = assocSet s.frames.rxSeq (triple f.typ.toNat f.src.toNat f.dst.toNat) ((s.expected f + 1) % 65536) ∧ ((s.heard f).maySend (if f.up then dLane f.path else uLane f.path) = true → (t.lanes[(if f.up then dLane f.path else uLane f.path)].queue.any fun x => x.f.typ.toNat == 0x0E && x.f.dst == f.src && x.f.payload == natLe 2 f.typ.toNat ++ natLe 2 f.seq.toNat) = true) ∧
          KeepsObjs [0xB0200A, 0xB00508, 0xB04006, 0xB00509] s t ∧
          t = { s with free := t.free, objs := t.objs, lanes := t.lanes, frames := t.frames, jobs := t.jobs }) ∧
    (∀ (f : Frame) (x : Forwarded), s.laneUp (inLane f) = true → (s.heard f).takesFrom f.path f.src.toNat = true → s.dictHeld.length < 8 → f.seq.toNat = s.expected f → s.manager = true → byteAt f.payload 0 = 4 → ((s.frames.forwarded.find? fun y => y.node == f.src.toNat && y.tagGen == byteAt f.payload 3) = some x) → 8 ≤ x.head.length → x.tagGen = byteAt x.head 0 → byteAt x.head 1 ≠ 6 →
      Completes (.dictBusyReceive f) s fun t =>
          t.rd 0xB00509 = wrapInc 32 (s.rd 0xB00509) ∧ answers t ⟨byteAt f.payload 2 % 2, by omega⟩ (s.node + f.src.toNat) (withStatus x.head 1) = true ∧ (t.frames.forwarded.any fun y => y.is f.src.toNat x.tagGen false) = false ∧ t.frames.dictEnds.dropLast = s.dictHeld ∧ t.frames.rxSeq = assocSet s.frames.rxSeq (triple f.typ.toNat f.src.toNat f.dst.toNat) ((s.expected f + 1) % 65536) ∧ ((s.heard f).maySend (if f.up then dLane f.path else uLane f.path) = true → (t.lanes[(if f.up then dLane f.path else uLane f.path)].queue.any fun x => x.f.typ.toNat == 0x0E && x.f.dst == f.src && x.f.payload == natLe 2 f.typ.toNat ++ natLe 2 f.seq.toNat) = true) ∧
          KeepsObjs [0xB0200A, 0xB00508, 0xB00509] s t ∧
          t = { s with free := t.free, objs := t.objs, lanes := t.lanes, frames := t.frames, wdp := t.wdp, can := t.can, jobs := t.jobs, collector := { s.collector with relay := t.collector.relay } }) ∧
    (∀ (f : Frame), s.laneUp (inLane f) = true → (s.heard f).takesFrom f.path f.src.toNat = true → s.dictHeld.length < 8 → f.seq.toNat = s.expected f → s.manager = false → byteAt f.payload 0 = 2 → leAt f.payload 4 2 = 8 → f.payload.length = 16 → byteAt f.payload 9 = 6 → byteAt f.payload 11 = 0 → s.unserved = false → s.running (byteAt f.payload 8) = true →
      Completes (.dictAbortReceive f) s fun t =>
          t.rd 0xB00509 = wrapInc 32 (s.rd 0xB00509) ∧ t.wdp.tags[tagOf (byteAt f.payload 8)].state = 2 ∧ byteAt t.wdp.tags[tagOf (byteAt f.payload 8)].resp 2 = (if s.wdp.tags[tagOf (byteAt f.payload 8)].resp.length < 3 then byteAt t.wdp.tags[tagOf (byteAt f.payload 8)].resp 2 else 11) ∧ t.frames.dictEnds.dropLast = s.dictHeld ∧ t.frames.rxSeq = assocSet s.frames.rxSeq (triple f.typ.toNat f.src.toNat f.dst.toNat) ((s.expected f + 1) % 65536) ∧
          t = { s with net := t.net, free := t.free, signals := t.signals, objs := t.objs, power := t.power, clock := t.clock, gates := t.gates, carriers := t.carriers, legs := t.legs, guard := t.guard, rails := t.rails, winTrip := t.winTrip, engines := t.engines, modeDone := t.modeDone, charge := t.charge, string := t.string, lanes := t.lanes, lease := t.lease, frames := t.frames, meas := t.meas, thermal := t.thermal, nv := t.nv, jobs := t.jobs, can := t.can, wdp := t.wdp, capture := t.capture, collector := { s.collector with relay := t.collector.relay } }) ∧
    (∀ (f : Frame), s.laneUp (inLane f) = true → (s.heard f).takesFrom f.path f.src.toNat = true → s.dictHeld.length < 8 → f.seq.toNat = s.expected f → s.manager = false → byteAt f.payload 0 = 3 → 8 ≤ ((f.payload.drop 8).take (leAt f.payload 4 2)).length →
      Completes (.dictSwarmReceive f) s fun t =>
          t.rd 0xB00509 = wrapInc 32 (s.rd 0xB00509) ∧ t.frames.swarmIn = s.frames.swarmIn ++ [f] ∧ t.frames.dictEnds.dropLast = s.dictHeld ∧ t.frames.rxSeq = assocSet s.frames.rxSeq (triple f.typ.toNat f.src.toNat f.dst.toNat) ((s.expected f + 1) % 65536) ∧ ((s.heard f).maySend (if f.up then dLane f.path else uLane f.path) = true → (t.lanes[(if f.up then dLane f.path else uLane f.path)].queue.any fun x => x.f.typ.toNat == 0x0E && x.f.dst == f.src && x.f.payload == natLe 2 f.typ.toNat ++ natLe 2 f.seq.toNat) = true) ∧
          KeepsObjs [0xB00508, 0xB00509] s t ∧
          t = { s with free := t.free, objs := t.objs, lanes := t.lanes, frames := t.frames }) ∧
    (∀ (f : Frame), s.laneUp (inLane f) = true → byteAt f.payload 0 = 0 → (s.heard f).takesFrom f.path f.src.toNat = true → s.dictHeld.length < 8 → f.seq.toNat ≠ s.expected f →
      Completes (.dictRequestReceive f) s fun t =>
          t.rd 0xB00509 = wrapInc 32 (s.rd 0xB00509) ∧ t.frames.rxSeq = s.frames.rxSeq ∧ t.frames.forwarded = s.frames.forwarded ∧ ((s.heard f).maySend (if f.up then dLane f.path else uLane f.path) = true → (t.lanes[(if f.up then dLane f.path else uLane f.path)].queue.any fun x => x.f.typ.toNat == (if (s.expected f + 65536 - f.seq.toNat) % 65536 < 32768 then 0x0E else 0x0F) && x.f.dst == f.src && x.f.payload == natLe 2 f.typ.toNat ++ natLe 2 (if (s.expected f + 65536 - f.seq.toNat) % 65536 < 32768 then f.seq.toNat else s.expected f)) = true) ∧
          KeepsObjs [0xB0200A, 0xB00508, 0xB00509] s t ∧
          t = { s with objs := t.objs, lanes := t.lanes, frames := t.frames, jobs := t.jobs }) ∧
    (∀ (f : Frame), s.laneUp (inLane f) = true → byteAt f.payload 0 = 1 → (s.heard f).takesFrom f.path f.src.toNat = true → s.dictHeld.length < 8 → f.seq.toNat ≠ s.expected f →
      Completes (.dictResponseReceive f) s fun t =>
          t.rd 0xB00509 = wrapInc 32 (s.rd 0xB00509) ∧ t.frames.rxSeq = s.frames.rxSeq ∧ t.frames.forwarded = s.frames.forwarded ∧ ((s.heard f).maySend (if f.up then dLane f.path else uLane f.path) = true → (t.lanes[(if f.up then dLane f.path else uLane f.path)].queue.any fun x => x.f.typ.toNat == (if (s.expected f + 65536 - f.seq.toNat) % 65536 < 32768 then 0x0E else 0x0F) && x.f.dst == f.src && x.f.payload == natLe 2 f.typ.toNat ++ natLe 2 (if (s.expected f + 65536 - f.seq.toNat) % 65536 < 32768 then f.seq.toNat else s.expected f)) = true) ∧
          KeepsObjs [0xB0200A, 0xB00508, 0xB00509] s t ∧
          t = { s with objs := t.objs, lanes := t.lanes, frames := t.frames, jobs := t.jobs }) ∧
    (∀ (f : Frame), s.laneUp (inLane f) = true → byteAt f.payload 0 = 2 → (s.heard f).takesFrom f.path f.src.toNat = true → s.dictHeld.length < 8 → f.seq.toNat ≠ s.expected f →
      Completes (.dictAbortReceive f) s fun t =>
          t.rd 0xB00509 = wrapInc 32 (s.rd 0xB00509) ∧ t.frames.rxSeq = s.frames.rxSeq ∧ t.frames.forwarded = s.frames.forwarded ∧ ((s.heard f).maySend (if f.up then dLane f.path else uLane f.path) = true → (t.lanes[(if f.up then dLane f.path else uLane f.path)].queue.any fun x => x.f.typ.toNat == (if (s.expected f + 65536 - f.seq.toNat) % 65536 < 32768 then 0x0E else 0x0F) && x.f.dst == f.src && x.f.payload == natLe 2 f.typ.toNat ++ natLe 2 (if (s.expected f + 65536 - f.seq.toNat) % 65536 < 32768 then f.seq.toNat else s.expected f)) = true) ∧
          KeepsObjs [0xB0200A, 0xB00508, 0xB00509] s t ∧
          t = { s with objs := t.objs, lanes := t.lanes, frames := t.frames, jobs := t.jobs }) ∧
    (∀ (f : Frame), s.laneUp (inLane f) = true → byteAt f.payload 0 = 3 → (s.heard f).takesFrom f.path f.src.toNat = true → s.dictHeld.length < 8 → f.seq.toNat ≠ s.expected f →
      Completes (.dictSwarmReceive f) s fun t =>
          t.rd 0xB00509 = wrapInc 32 (s.rd 0xB00509) ∧ t.frames.rxSeq = s.frames.rxSeq ∧ t.frames.forwarded = s.frames.forwarded ∧ ((s.heard f).maySend (if f.up then dLane f.path else uLane f.path) = true → (t.lanes[(if f.up then dLane f.path else uLane f.path)].queue.any fun x => x.f.typ.toNat == (if (s.expected f + 65536 - f.seq.toNat) % 65536 < 32768 then 0x0E else 0x0F) && x.f.dst == f.src && x.f.payload == natLe 2 f.typ.toNat ++ natLe 2 (if (s.expected f + 65536 - f.seq.toNat) % 65536 < 32768 then f.seq.toNat else s.expected f)) = true) ∧
          KeepsObjs [0xB0200A, 0xB00508, 0xB00509] s t ∧
          t = { s with objs := t.objs, lanes := t.lanes, frames := t.frames, jobs := t.jobs }) ∧
    (∀ (f : Frame), s.laneUp (inLane f) = true → byteAt f.payload 0 = 4 → (s.heard f).takesFrom f.path f.src.toNat = true → s.dictHeld.length < 8 → f.seq.toNat ≠ s.expected f →
      Completes (.dictBusyReceive f) s fun t =>
          t.rd 0xB00509 = wrapInc 32 (s.rd 0xB00509) ∧ t.frames.rxSeq = s.frames.rxSeq ∧ t.frames.forwarded = s.frames.forwarded ∧ ((s.heard f).maySend (if f.up then dLane f.path else uLane f.path) = true → (t.lanes[(if f.up then dLane f.path else uLane f.path)].queue.any fun x => x.f.typ.toNat == (if (s.expected f + 65536 - f.seq.toNat) % 65536 < 32768 then 0x0E else 0x0F) && x.f.dst == f.src && x.f.payload == natLe 2 f.typ.toNat ++ natLe 2 (if (s.expected f + 65536 - f.seq.toNat) % 65536 < 32768 then f.seq.toNat else s.expected f)) = true) ∧
          KeepsObjs [0xB0200A, 0xB00508, 0xB00509] s t ∧
          t = { s with objs := t.objs, lanes := t.lanes, frames := t.frames, jobs := t.jobs }) ∧
    (∀ (f : Frame), s.laneUp (inLane f) = true → byteAt f.payload 0 = 0 → (s.heard f).takesFrom f.path f.src.toNat = true → 8 ≤ s.dictHeld.length →
      Completes (.dictRequestReceive f) s fun t =>
          t.rd 0xB00509 = wrapInc 32 (s.rd 0xB00509) ∧ t.rd 0xB00505 = wrapInc 32 (s.rd 0xB00505) ∧
          KeepsObjs [0xB0200A, 0xB00505, 0xB00509] s t ∧
          t = { s with objs := t.objs, jobs := t.jobs }) ∧
    (∀ (f : Frame), s.laneUp (inLane f) = true → byteAt f.payload 0 = 1 → (s.heard f).takesFrom f.path f.src.toNat = true → 8 ≤ s.dictHeld.length →
      Completes (.dictResponseReceive f) s fun t =>
          t.rd 0xB00509 = wrapInc 32 (s.rd 0xB00509) ∧ t.rd 0xB00505 = wrapInc 32 (s.rd 0xB00505) ∧
          KeepsObjs [0xB0200A, 0xB00505, 0xB00509] s t ∧
          t = { s with objs := t.objs, jobs := t.jobs }) ∧
    (∀ (f : Frame), s.laneUp (inLane f) = true → byteAt f.payload 0 = 2 → (s.heard f).takesFrom f.path f.src.toNat = true → 8 ≤ s.dictHeld.length →
      Completes (.dictAbortReceive f) s fun t =>
          t.rd 0xB00509 = wrapInc 32 (s.rd 0xB00509) ∧ t.rd 0xB00505 = wrapInc 32 (s.rd 0xB00505) ∧
          KeepsObjs [0xB0200A, 0xB00505, 0xB00509] s t ∧
          t = { s with objs := t.objs, jobs := t.jobs }) ∧
    (∀ (f : Frame), s.laneUp (inLane f) = true → byteAt f.payload 0 = 3 → (s.heard f).takesFrom f.path f.src.toNat = true → 8 ≤ s.dictHeld.length →
      Completes (.dictSwarmReceive f) s fun t =>
          t.rd 0xB00509 = wrapInc 32 (s.rd 0xB00509) ∧ t.rd 0xB00505 = wrapInc 32 (s.rd 0xB00505) ∧
          KeepsObjs [0xB0200A, 0xB00505, 0xB00509] s t ∧
          t = { s with objs := t.objs, jobs := t.jobs }) ∧
    (∀ (f : Frame), s.laneUp (inLane f) = true → byteAt f.payload 0 = 4 → (s.heard f).takesFrom f.path f.src.toNat = true → 8 ≤ s.dictHeld.length →
      Completes (.dictBusyReceive f) s fun t =>
          t.rd 0xB00509 = wrapInc 32 (s.rd 0xB00509) ∧ t.rd 0xB00505 = wrapInc 32 (s.rd 0xB00505) ∧
          KeepsObjs [0xB0200A, 0xB00505, 0xB00509] s t ∧
          t = { s with objs := t.objs, jobs := t.jobs }) ∧
    (∀ (f : Frame), s.laneUp (inLane f) = true → byteAt f.payload 0 = 0 → (s.heard f).takesFrom f.path f.src.toNat = false →
      Completes (.dictRequestReceive f) s fun t =>
          t.rd 0xB00509 = wrapInc 32 (s.rd 0xB00509) ∧ t.rd 0xB0200B = wrapInc 32 (s.rd 0xB0200B) ∧
          KeepsObjs [0xB0200A, 0xB0200B, 0xB00509] s t ∧
          t = { s with objs := t.objs, jobs := t.jobs }) ∧
    (∀ (f : Frame), s.laneUp (inLane f) = true → byteAt f.payload 0 = 1 → (s.heard f).takesFrom f.path f.src.toNat = false →
      Completes (.dictResponseReceive f) s fun t =>
          t.rd 0xB00509 = wrapInc 32 (s.rd 0xB00509) ∧ t.rd 0xB0200B = wrapInc 32 (s.rd 0xB0200B) ∧
          KeepsObjs [0xB0200A, 0xB0200B, 0xB00509] s t ∧
          t = { s with objs := t.objs, jobs := t.jobs }) ∧
    (∀ (f : Frame), s.laneUp (inLane f) = true → byteAt f.payload 0 = 2 → (s.heard f).takesFrom f.path f.src.toNat = false →
      Completes (.dictAbortReceive f) s fun t =>
          t.rd 0xB00509 = wrapInc 32 (s.rd 0xB00509) ∧ t.rd 0xB0200B = wrapInc 32 (s.rd 0xB0200B) ∧
          KeepsObjs [0xB0200A, 0xB0200B, 0xB00509] s t ∧
          t = { s with objs := t.objs, jobs := t.jobs }) ∧
    (∀ (f : Frame), s.laneUp (inLane f) = true → byteAt f.payload 0 = 3 → (s.heard f).takesFrom f.path f.src.toNat = false →
      Completes (.dictSwarmReceive f) s fun t =>
          t.rd 0xB00509 = wrapInc 32 (s.rd 0xB00509) ∧ t.rd 0xB0200B = wrapInc 32 (s.rd 0xB0200B) ∧
          KeepsObjs [0xB0200A, 0xB0200B, 0xB00509] s t ∧
          t = { s with objs := t.objs, jobs := t.jobs }) ∧
    (∀ (f : Frame), s.laneUp (inLane f) = true → byteAt f.payload 0 = 4 → (s.heard f).takesFrom f.path f.src.toNat = false →
      Completes (.dictBusyReceive f) s fun t =>
          t.rd 0xB00509 = wrapInc 32 (s.rd 0xB00509) ∧ t.rd 0xB0200B = wrapInc 32 (s.rd 0xB0200B) ∧
          KeepsObjs [0xB0200A, 0xB0200B, 0xB00509] s t ∧
          t = { s with objs := t.objs, jobs := t.jobs }) ∧
    (∀ (f : Frame), byteAt f.payload 0 ≠ 0 →
      Completes (.dictRequestReceive f) s fun t =>
          t = s) ∧
    (∀ (f : Frame), byteAt f.payload 0 ≠ 1 →
      Completes (.dictResponseReceive f) s fun t =>
          t = s) ∧
    (∀ (f : Frame), byteAt f.payload 0 ≠ 2 →
      Completes (.dictAbortReceive f) s fun t =>
          t = s) ∧
    (∀ (f : Frame), byteAt f.payload 0 ≠ 3 →
      Completes (.dictSwarmReceive f) s fun t =>
          t = s) ∧
    (∀ (f : Frame), byteAt f.payload 0 ≠ 4 →
      Completes (.dictBusyReceive f) s fun t =>
          t = s) ∧
    (∀ (u : Fin 2) (g : Telegram), s.mine (.can u) g = false → (s.unserved = true ∨ s.node = 0 ∨ s.power.bootLoader = true ∨ (g.node ≠ 0 ∧ (s.manager = false ∨ s.power.supervisor = false)) ∨ (g.node = 0 ∧ s.manager = false)) →
      Completes (.wdpRead (.can u) g) s fun t =>
          t = s.taken (.can u) 6 [g.node.toNat]) ∧
    (∀ (u : Fin 2) (g : Telegram), s.mine (.can u) g = false → (s.unserved = true ∨ s.node = 0 ∨ s.power.bootLoader = true ∨ (g.node ≠ 0 ∧ (s.manager = false ∨ s.power.supervisor = false)) ∨ (g.node = 0 ∧ s.manager = false)) →
      Completes (.wdpWrite (.can u) g) s fun t =>
          t = s.taken (.can u) 6 [g.node.toNat]) ∧
    (∀ (u : Fin 2) (g : Telegram), s.mine (.can u) g = false → (s.unserved = true ∨ s.node = 0 ∨ s.power.bootLoader = true ∨ (g.node ≠ 0 ∧ (s.manager = false ∨ s.power.supervisor = false)) ∨ (g.node = 0 ∧ s.manager = false)) →
      Completes (.wdpBlockRead (.can u) g) s fun t =>
          t = s.taken (.can u) 6 [g.node.toNat]) ∧
    (∀ (u : Fin 2) (g : Telegram), s.mine (.can u) g = false → (s.unserved = true ∨ s.node = 0 ∨ s.power.bootLoader = true ∨ (g.node ≠ 0 ∧ (s.manager = false ∨ s.power.supervisor = false)) ∨ (g.node = 0 ∧ s.manager = false)) →
      Completes (.wdpBlockWrite (.can u) g) s fun t =>
          t = s.taken (.can u) 6 [g.node.toNat]) ∧
    (∀ (u : Fin 2) (g : Telegram), s.mine (.can u) g = false → (s.unserved = true ∨ s.node = 0 ∨ s.power.bootLoader = true ∨ (g.node ≠ 0 ∧ (s.manager = false ∨ s.power.supervisor = false)) ∨ (g.node = 0 ∧ s.manager = false)) →
      Completes (.wdpState (.can u) g) s fun t =>
          t = s.taken (.can u) 10 [g.node.toNat]) ∧
    (∀ (u : Fin 2) (g : Telegram), s.mine (.can u) g = false → (s.unserved = true ∨ s.node = 0 ∨ s.power.bootLoader = true ∨ (g.node ≠ 0 ∧ (s.manager = false ∨ s.power.supervisor = false)) ∨ (g.node = 0 ∧ s.manager = false)) →
      Completes (.wdpSegment (.can u) g) s fun t =>
          t = s.taken (.can u) 8 [g.node.toNat]) ∧
    (∀ (u : Fin 2) (g : Telegram), s.mine (.can u) g = false → (s.unserved = true ∨ s.node = 0 ∨ s.power.bootLoader = true ∨ (g.node ≠ 0 ∧ (s.manager = false ∨ s.power.supervisor = false)) ∨ (g.node = 0 ∧ s.manager = false)) →
      Completes (.wdpWindow (.can u) g) s fun t =>
          t = s.taken (.can u) 8 [g.node.toNat]) ∧
    (∀ (u : Fin 2) (g : Telegram), s.mine (.can u) g = false → (s.unserved = true ∨ s.node = 0 ∨ s.power.bootLoader = true ∨ (g.node ≠ 0 ∧ (s.manager = false ∨ s.power.supervisor = false)) ∨ (g.node = 0 ∧ s.manager = false)) →
      Completes (.wdpAbort (.can u) g) s fun t =>
          t = s.taken (.can u) 9 [g.node.toNat]) ∧
    (∀ (u : Fin 2) (g : Telegram) (p : Nat), s.mine (.can u) g = false → s.manager = true → s.power.supervisor = true → s.power.bootLoader = false → s.node ≠ 0 → g.node.toNat = s.node + p → 1 ≤ p → p ≤ 31 → s.bitAt 0xB04001 p = true → g.op = 1 → ((s.frames.forwarded.any fun f => f.is p (tgOf g) false) = false) → ((s.frames.forwarded.any fun f => f.node == p && f.tagGen % 64 == tgOf g % 64) = false) → s.frames.forwarded.length < 64 →
      Completes (.wdpRead (.can u) g) s fun t =>
          t.frames.forwarded = s.frames.forwarded ++ ([⟨p, u.val, tgOf g, s.tick + msTicks (s.rd 0xB04002), headOf g⟩] : List Forwarded) ∧ t.rd 0xB04004 = wrapInc 32 (s.rd 0xB04004) ∧ dictSent s t p (dictBytes 0 6 u.val (tgOf g) (bytesOf g)) = true ∧
          KeepsObjs [0xB04004, 0xB00508] s t ∧
          t = { s with frames := t.frames, lanes := t.lanes, can := t.can, objs := t.objs, free := t.free }) ∧
    (∀ (u : Fin 2) (g : Telegram) (p : Nat), s.mine (.can u) g = false → s.manager = true → s.power.supervisor = true → s.power.bootLoader = false → s.node ≠ 0 → g.node.toNat = s.node + p → 1 ≤ p → p ≤ 31 → s.bitAt 0xB04001 p = true → g.op = 2 → s.fromHolder (.can u) = true → ((s.frames.forwarded.any fun f => f.is p (tgOf g) false) = false) → ((s.frames.forwarded.any fun f => f.node == p && f.tagGen % 64 == tgOf g % 64) = false) → s.frames.forwarded.length < 64 →
      Completes (.wdpWrite (.can u) g) s fun t =>
          t.frames.forwarded = s.frames.forwarded ++ ([⟨p, u.val, tgOf g, s.tick + msTicks (s.rd 0xB04002), headOf g⟩] : List Forwarded) ∧ t.rd 0xB04004 = wrapInc 32 (s.rd 0xB04004) ∧ dictSent s t p (dictBytes 0 6 u.val (tgOf g) (bytesOf g)) = true ∧
          KeepsObjs [0xB04004, 0xB00508] s t ∧
          t = { s with frames := t.frames, lanes := t.lanes, can := t.can, objs := t.objs, free := t.free }) ∧
    (∀ (u : Fin 2) (g : Telegram) (p : Nat), s.mine (.can u) g = false → s.manager = true → s.power.supervisor = true → s.power.bootLoader = false → s.node ≠ 0 → g.node.toNat = s.node + p → 1 ≤ p → p ≤ 31 → s.bitAt 0xB04001 p = true → g.op = 3 → ((s.frames.forwarded.any fun f => f.is p (tgOf g) false) = false) → ((s.frames.forwarded.any fun f => f.node == p && f.tagGen % 64 == tgOf g % 64) = false) → s.frames.forwarded.length < 64 →
      Completes (.wdpBlockRead (.can u) g) s fun t =>
          t.frames.forwarded = s.frames.forwarded ++ ([⟨p, u.val, tgOf g, s.tick + msTicks (s.rd 0xB04002), headOf g⟩] : List Forwarded) ∧ t.rd 0xB04004 = wrapInc 32 (s.rd 0xB04004) ∧ dictSent s t p (dictBytes 0 6 u.val (tgOf g) (bytesOf g)) = true ∧
          KeepsObjs [0xB04004, 0xB00508] s t ∧
          t = { s with frames := t.frames, lanes := t.lanes, can := t.can, objs := t.objs, free := t.free }) ∧
    (∀ (u : Fin 2) (g : Telegram) (p : Nat), s.mine (.can u) g = false → s.manager = true → s.power.supervisor = true → s.power.bootLoader = false → s.node ≠ 0 → g.node.toNat = s.node + p → 1 ≤ p → p ≤ 31 → s.bitAt 0xB04001 p = true → g.op = 4 → s.fromHolder (.can u) = true → ((s.frames.forwarded.any fun f => f.is p (tgOf g) false) = false) → ((s.frames.forwarded.any fun f => f.node == p && f.tagGen % 64 == tgOf g % 64) = false) → s.frames.forwarded.length < 64 →
      Completes (.wdpBlockWrite (.can u) g) s fun t =>
          t.frames.forwarded = s.frames.forwarded ++ ([⟨p, u.val, tgOf g, s.tick + msTicks (s.rd 0xB04002), headOf g⟩] : List Forwarded) ∧ t.rd 0xB04004 = wrapInc 32 (s.rd 0xB04004) ∧ dictSent s t p (dictBytes 0 6 u.val (tgOf g) (bytesOf g)) = true ∧
          KeepsObjs [0xB04004, 0xB00508] s t ∧
          t = { s with frames := t.frames, lanes := t.lanes, can := t.can, objs := t.objs, free := t.free }) ∧
    (∀ (u : Fin 2) (g : Telegram) (p : Nat), s.mine (.can u) g = false → s.manager = true → s.power.supervisor = true → s.power.bootLoader = false → s.node ≠ 0 → g.node.toNat = s.node + p → 1 ≤ p → p ≤ 31 → s.bitAt 0xB04001 p = true → s.fromHolder (.can u) = true → ((s.frames.forwarded.any fun f => f.is p (tgOf g) false) = false) → ((s.frames.forwarded.any fun f => f.node == p && f.tagGen % 64 == tgOf g % 64) = false) → s.frames.forwarded.length < 64 →
      Completes (.wdpState (.can u) g) s fun t =>
          t.frames.forwarded = s.frames.forwarded ++ ([⟨p, u.val, tgOf g, s.tick + msTicks (s.rd 0xB04002), headOf g⟩] : List Forwarded) ∧ t.rd 0xB04004 = wrapInc 32 (s.rd 0xB04004) ∧ dictSent s t p (dictBytes 0 10 u.val (tgOf g) (bytesOf g)) = true ∧
          KeepsObjs [0xB04004, 0xB00508] s t ∧
          t = { s with frames := t.frames, lanes := t.lanes, can := t.can, objs := t.objs, free := t.free }) ∧
    (∀ (u : Fin 2) (g : Telegram) (p : Nat), s.mine (.can u) g = false → s.manager = true → s.power.supervisor = true → s.power.bootLoader = false → s.node ≠ 0 → g.node.toNat = s.node + p → 1 ≤ p → p ≤ 31 → s.bitAt 0xB04001 p = true → s.fromHolder (.can u) = true → ((s.frames.forwarded.any fun f => f.is p (tgOf g) true) = false) → s.frames.forwarded.length < 64 →
      Completes (.wdpAbort (.can u) g) s fun t =>
          t.frames.forwarded = s.frames.forwarded ++ ([⟨p, u.val, tgOf g, s.tick + msTicks (s.rd 0xB04002), headOf g⟩] : List Forwarded) ∧ t.rd 0xB04004 = wrapInc 32 (s.rd 0xB04004) ∧ dictSent s t p (dictBytes 2 9 u.val (tgOf g) (bytesOf g)) = true ∧
          KeepsObjs [0xB04004, 0xB00508] s t ∧
          t = { s with frames := t.frames, lanes := t.lanes, can := t.can, objs := t.objs, free := t.free }) ∧
    (∀ (u : Fin 2) (g : Telegram) (p : Nat), s.mine (.can u) g = false → s.manager = true → s.power.supervisor = true → s.power.bootLoader = false → s.node ≠ 0 → g.node.toNat = s.node + p → 1 ≤ p → p ≤ 31 → s.bitAt 0xB04001 p = true → g.op = 16 → s.fromHolder (.can u) = true →
      Completes (.wdpSegment (.can u) g) s fun t =>
          dictSent s t p (dictBytes 0 8 u.val (tgOf g) (bytesOf g)) = true ∧
          KeepsObjs [0xB00508] s t ∧
          t = { s with frames := t.frames, lanes := t.lanes, can := t.can, objs := t.objs, free := t.free }) ∧
    (∀ (u : Fin 2) (g : Telegram) (p : Nat), s.mine (.can u) g = false → s.manager = true → s.power.supervisor = true → s.power.bootLoader = false → s.node ≠ 0 → g.node.toNat = s.node + p → 1 ≤ p → p ≤ 31 → s.bitAt 0xB04001 p = true → g.op = 17 →
      Completes (.wdpWindow (.can u) g) s fun t =>
          dictSent s t p (dictBytes 0 8 u.val (tgOf g) (bytesOf g)) = true ∧
          KeepsObjs [0xB00508] s t ∧
          t = { s with frames := t.frames, lanes := t.lanes, can := t.can, objs := t.objs, free := t.free }) ∧
    (∀ (u : Fin 2) (g : Telegram) (p : Nat), s.mine (.can u) g = false → s.manager = true → s.power.supervisor = true → s.power.bootLoader = false → s.node ≠ 0 → g.node.toNat = s.node + p → 1 ≤ p → p ≤ 31 → s.bitAt 0xB04001 p = true → g.op = 2 → s.fromHolder (.can u) = false →
      Completes (.wdpWrite (.can u) g) s fun t =>
          answers t u (s.node + p) (responseTo g 8 []) = true ∧
          t = { s with wdp := t.wdp, can := t.can, free := t.free, collector := { s.collector with relay := t.collector.relay } }) ∧
    (∀ (u : Fin 2) (g : Telegram) (p : Nat), s.mine (.can u) g = false → s.manager = true → s.power.supervisor = true → s.power.bootLoader = false → s.node ≠ 0 → g.node.toNat = s.node + p → 1 ≤ p → p ≤ 31 → s.bitAt 0xB04001 p = true → g.op = 4 → s.fromHolder (.can u) = false →
      Completes (.wdpBlockWrite (.can u) g) s fun t =>
          answers t u (s.node + p) (responseTo g 8 []) = true ∧
          t = { s with wdp := t.wdp, can := t.can, free := t.free, collector := { s.collector with relay := t.collector.relay } }) ∧
    (∀ (u : Fin 2) (g : Telegram) (p : Nat), s.mine (.can u) g = false → s.manager = true → s.power.supervisor = true → s.power.bootLoader = false → s.node ≠ 0 → g.node.toNat = s.node + p → 1 ≤ p → p ≤ 31 → s.bitAt 0xB04001 p = true → g.op = 5 → s.fromHolder (.can u) = false →
      Completes (.wdpState (.can u) g) s fun t =>
          answers t u (s.node + p) (responseTo g 8 []) = true ∧
          t = { s with wdp := t.wdp, can := t.can, free := t.free, collector := { s.collector with relay := t.collector.relay } }) ∧
    (∀ (u : Fin 2) (g : Telegram) (p : Nat), s.mine (.can u) g = false → s.manager = true → s.power.supervisor = true → s.power.bootLoader = false → s.node ≠ 0 → g.node.toNat = s.node + p → 1 ≤ p → p ≤ 31 → s.bitAt 0xB04001 p = true → g.op = 6 → s.fromHolder (.can u) = false →
      Completes (.wdpAbort (.can u) g) s fun t =>
          answers t u (s.node + p) (responseTo g 8 []) = true ∧
          t = { s with wdp := t.wdp, can := t.can, free := t.free, collector := { s.collector with relay := t.collector.relay } }) ∧
    (∀ (u : Fin 2) (g : Telegram) (p : Nat), s.mine (.can u) g = false → s.manager = true → s.power.supervisor = true → s.power.bootLoader = false → s.node ≠ 0 → g.node.toNat = s.node + p → 1 ≤ p → p ≤ 31 → s.bitAt 0xB04001 p = true → g.op = 16 → s.fromHolder (.can u) = false →
      Completes (.wdpSegment (.can u) g) s fun t =>
          answers t u (s.node + p) (responseTo g 8 []) = true ∧
          t = { s with wdp := t.wdp, can := t.can, free := t.free, collector := { s.collector with relay := t.collector.relay } }) ∧
    (∀ (u : Fin 2) (g : Telegram) (p : Nat), s.mine (.can u) g = false → s.manager = true → s.power.supervisor = true → s.power.bootLoader = false → s.node ≠ 0 → g.node.toNat = s.node + p → 1 ≤ p → p ≤ 31 → s.bitAt 0xB04001 p = true → g.op = 1 → ((s.frames.forwarded.any fun f => f.is p (tgOf g) false) = true) →
      Completes (.wdpRead (.can u) g) s fun t =>
          t = s.taken (.can u) 6 [g.node.toNat]) ∧
    (∀ (u : Fin 2) (g : Telegram) (p : Nat), s.mine (.can u) g = false → s.manager = true → s.power.supervisor = true → s.power.bootLoader = false → s.node ≠ 0 → g.node.toNat = s.node + p → 1 ≤ p → p ≤ 31 → s.bitAt 0xB04001 p = true → g.op = 2 → s.fromHolder (.can u) = true → ((s.frames.forwarded.any fun f => f.is p (tgOf g) false) = true) →
      Completes (.wdpWrite (.can u) g) s fun t =>
          t = s.taken (.can u) 6 [g.node.toNat]) ∧
    (∀ (u : Fin 2) (g : Telegram) (p : Nat), s.mine (.can u) g = false → s.manager = true → s.power.supervisor = true → s.power.bootLoader = false → s.node ≠ 0 → g.node.toNat = s.node + p → 1 ≤ p → p ≤ 31 → s.bitAt 0xB04001 p = true → g.op = 3 → ((s.frames.forwarded.any fun f => f.is p (tgOf g) false) = true) →
      Completes (.wdpBlockRead (.can u) g) s fun t =>
          t = s.taken (.can u) 6 [g.node.toNat]) ∧
    (∀ (u : Fin 2) (g : Telegram) (p : Nat), s.mine (.can u) g = false → s.manager = true → s.power.supervisor = true → s.power.bootLoader = false → s.node ≠ 0 → g.node.toNat = s.node + p → 1 ≤ p → p ≤ 31 → s.bitAt 0xB04001 p = true → g.op = 4 → s.fromHolder (.can u) = true → ((s.frames.forwarded.any fun f => f.is p (tgOf g) false) = true) →
      Completes (.wdpBlockWrite (.can u) g) s fun t =>
          t = s.taken (.can u) 6 [g.node.toNat]) ∧
    (∀ (u : Fin 2) (g : Telegram) (p : Nat), s.mine (.can u) g = false → s.manager = true → s.power.supervisor = true → s.power.bootLoader = false → s.node ≠ 0 → g.node.toNat = s.node + p → 1 ≤ p → p ≤ 31 → s.bitAt 0xB04001 p = true → s.fromHolder (.can u) = true → ((s.frames.forwarded.any fun f => f.is p (tgOf g) false) = true) →
      Completes (.wdpState (.can u) g) s fun t =>
          t = s.taken (.can u) 10 [g.node.toNat]) ∧
    (∀ (u : Fin 2) (g : Telegram) (p : Nat), s.mine (.can u) g = false → s.manager = true → s.power.supervisor = true → s.power.bootLoader = false → s.node ≠ 0 → g.node.toNat = s.node + p → 1 ≤ p → p ≤ 31 → s.bitAt 0xB04001 p = true → s.fromHolder (.can u) = true → ((s.frames.forwarded.any fun f => f.is p (tgOf g) true) = true) →
      Completes (.wdpAbort (.can u) g) s fun t =>
          t = s.taken (.can u) 9 [g.node.toNat]) ∧
    (∀ (u : Fin 2) (g : Telegram) (p : Nat), s.mine (.can u) g = false → s.manager = true → s.power.supervisor = true → s.power.bootLoader = false → s.node ≠ 0 → g.node.toNat = s.node + p → 1 ≤ p → p ≤ 31 → s.bitAt 0xB04001 p = true → g.op = 1 → ((s.frames.forwarded.any fun f => f.is p (tgOf g) false) = false) → ((s.frames.forwarded.any fun f => f.node == p && f.tagGen % 64 == tgOf g % 64) = false) → 64 ≤ s.frames.forwarded.length →
      Completes (.wdpRead (.can u) g) s fun t =>
          t.frames.forwarded = s.frames.forwarded ∧ answers t u (s.node + p) (responseTo g 10 []) = true ∧
          t = { s with wdp := t.wdp, can := t.can, free := t.free, collector := { s.collector with relay := t.collector.relay } }) ∧
    (∀ (u : Fin 2) (g : Telegram) (p : Nat), s.mine (.can u) g = false → s.manager = true → s.power.supervisor = true → s.power.bootLoader = false → s.node ≠ 0 → g.node.toNat = s.node + p → 1 ≤ p → p ≤ 31 → s.bitAt 0xB04001 p = true → g.op = 2 → s.fromHolder (.can u) = true → ((s.frames.forwarded.any fun f => f.is p (tgOf g) false) = false) → ((s.frames.forwarded.any fun f => f.node == p && f.tagGen % 64 == tgOf g % 64) = false) → 64 ≤ s.frames.forwarded.length →
      Completes (.wdpWrite (.can u) g) s fun t =>
          t.frames.forwarded = s.frames.forwarded ∧ answers t u (s.node + p) (responseTo g 10 []) = true ∧
          t = { s with wdp := t.wdp, can := t.can, free := t.free, collector := { s.collector with relay := t.collector.relay } }) ∧
    (∀ (u : Fin 2) (g : Telegram) (p : Nat), s.mine (.can u) g = false → s.manager = true → s.power.supervisor = true → s.power.bootLoader = false → s.node ≠ 0 → g.node.toNat = s.node + p → 1 ≤ p → p ≤ 31 → s.bitAt 0xB04001 p = true → g.op = 3 → ((s.frames.forwarded.any fun f => f.is p (tgOf g) false) = false) → ((s.frames.forwarded.any fun f => f.node == p && f.tagGen % 64 == tgOf g % 64) = false) → 64 ≤ s.frames.forwarded.length →
      Completes (.wdpBlockRead (.can u) g) s fun t =>
          t.frames.forwarded = s.frames.forwarded ∧ answers t u (s.node + p) (responseTo g 10 []) = true ∧
          t = { s with wdp := t.wdp, can := t.can, free := t.free, collector := { s.collector with relay := t.collector.relay } }) ∧
    (∀ (u : Fin 2) (g : Telegram) (p : Nat), s.mine (.can u) g = false → s.manager = true → s.power.supervisor = true → s.power.bootLoader = false → s.node ≠ 0 → g.node.toNat = s.node + p → 1 ≤ p → p ≤ 31 → s.bitAt 0xB04001 p = true → g.op = 4 → s.fromHolder (.can u) = true → ((s.frames.forwarded.any fun f => f.is p (tgOf g) false) = false) → ((s.frames.forwarded.any fun f => f.node == p && f.tagGen % 64 == tgOf g % 64) = false) → 64 ≤ s.frames.forwarded.length →
      Completes (.wdpBlockWrite (.can u) g) s fun t =>
          t.frames.forwarded = s.frames.forwarded ∧ answers t u (s.node + p) (responseTo g 10 []) = true ∧
          t = { s with wdp := t.wdp, can := t.can, free := t.free, collector := { s.collector with relay := t.collector.relay } }) ∧
    (∀ (u : Fin 2) (g : Telegram) (p : Nat), s.mine (.can u) g = false → s.manager = true → s.power.supervisor = true → s.power.bootLoader = false → s.node ≠ 0 → g.node.toNat = s.node + p → 1 ≤ p → p ≤ 31 → s.bitAt 0xB04001 p = true → g.op = 5 → s.fromHolder (.can u) = true → ((s.frames.forwarded.any fun f => f.is p (tgOf g) false) = false) → ((s.frames.forwarded.any fun f => f.node == p && f.tagGen % 64 == tgOf g % 64) = false) → 64 ≤ s.frames.forwarded.length →
      Completes (.wdpState (.can u) g) s fun t =>
          t.frames.forwarded = s.frames.forwarded ∧ answers t u (s.node + p) (responseTo g 10 []) = true ∧
          t = { s with wdp := t.wdp, can := t.can, free := t.free, collector := { s.collector with relay := t.collector.relay } }) ∧
    (∀ (u : Fin 2) (g : Telegram) (p : Nat), s.mine (.can u) g = false → g.node = 0 → s.node ≠ 0 → s.unserved = false → s.power.bootLoader = false → s.manager = true → s.wdp.tags[tagOf (tgOf g)].state = 0 → cutOf g = false → g.op = 2 → s.fromHolder (.can u) = true → s.frames.swarm = [] → min 32 (s.rd 0xB03004) = p + 1 → 1 ≤ p →
      Completes (.wdpWrite (.can u) g) s fun t =>
          t.frames.swarm = ([⟨u.val, g, p, 0, true⟩] : List SwarmSt) ∧ t.wdp.tags[tagOf (tgOf g)].state = 1 ∧ t.rd 0xC04201 = wrapInc 32 (s.rd 0xC04201) ∧ dictSent s t p (dictBytes 3 6 u.val (tgOf g) (bytesOf g)) = true ∧
          KeepsObjs [0xC04201, 0xB00508] s t ∧
          t = { s with frames := t.frames, lanes := t.lanes, can := t.can, objs := t.objs, free := t.free, wdp := t.wdp, collector := { s.collector with relay := t.collector.relay } }) ∧
    (∀ (u : Fin 2) (g : Telegram) (p : Nat), s.mine (.can u) g = false → g.node = 0 → s.node ≠ 0 → s.unserved = false → s.power.bootLoader = false → s.manager = true → s.wdp.tags[tagOf (tgOf g)].state = 0 → cutOf g = false → g.op = 3 → s.fromHolder (.can u) = true → s.frames.swarm = [] → min 32 (s.rd 0xB03004) = p + 1 → 1 ≤ p →
      Completes (.wdpBlockRead (.can u) g) s fun t =>
          t.frames.swarm = ([⟨u.val, g, p, 0, true⟩] : List SwarmSt) ∧ t.wdp.tags[tagOf (tgOf g)].state = 1 ∧ t.rd 0xC04201 = wrapInc 32 (s.rd 0xC04201) ∧ dictSent s t p (dictBytes 3 6 u.val (tgOf g) (bytesOf g)) = true ∧
          KeepsObjs [0xC04201, 0xB00508] s t ∧
          t = { s with frames := t.frames, lanes := t.lanes, can := t.can, objs := t.objs, free := t.free, wdp := t.wdp, collector := { s.collector with relay := t.collector.relay } }) ∧
    (∀ (u : Fin 2) (g : Telegram) (p : Nat), s.mine (.can u) g = false → g.node = 0 → s.node ≠ 0 → s.unserved = false → s.power.bootLoader = false → s.manager = true → s.wdp.tags[tagOf (tgOf g)].state = 0 → cutOf g = false → g.op = 4 → s.fromHolder (.can u) = true → s.frames.swarm = [] → min 32 (s.rd 0xB03004) = p + 1 → 1 ≤ p →
      Completes (.wdpBlockWrite (.can u) g) s fun t =>
          t.frames.swarm = ([⟨u.val, g, p, 0, true⟩] : List SwarmSt) ∧ t.wdp.tags[tagOf (tgOf g)].state = 1 ∧ t.rd 0xC04201 = wrapInc 32 (s.rd 0xC04201) ∧ dictSent s t p (dictBytes 3 6 u.val (tgOf g) (bytesOf g)) = true ∧
          KeepsObjs [0xC04201, 0xB00508] s t ∧
          t = { s with frames := t.frames, lanes := t.lanes, can := t.can, objs := t.objs, free := t.free, wdp := t.wdp, collector := { s.collector with relay := t.collector.relay } }) ∧
    (∀ (u : Fin 2) (g : Telegram) (p : Nat), s.mine (.can u) g = false → g.node = 0 → s.node ≠ 0 → s.unserved = false → s.power.bootLoader = false → s.manager = true → s.wdp.tags[tagOf (tgOf g)].state = 0 → cutOf g = false → g.op = 5 → s.fromHolder (.can u) = true → s.frames.swarm = [] → min 32 (s.rd 0xB03004) = p + 1 → 1 ≤ p →
      Completes (.wdpState (.can u) g) s fun t =>
          t.frames.swarm = ([⟨u.val, g, p, 0, true⟩] : List SwarmSt) ∧ t.wdp.tags[tagOf (tgOf g)].state = 1 ∧ t.rd 0xC04201 = wrapInc 32 (s.rd 0xC04201) ∧ dictSent s t p (dictBytes 3 10 u.val (tgOf g) (bytesOf g)) = true ∧
          KeepsObjs [0xC04201, 0xB00508] s t ∧
          t = { s with frames := t.frames, lanes := t.lanes, can := t.can, objs := t.objs, free := t.free, wdp := t.wdp, collector := { s.collector with relay := t.collector.relay } }) ∧
    (∀ (u : Fin 2) (g : Telegram), s.mine (.can u) g = false → g.node = 0 → s.node ≠ 0 → s.unserved = false → s.power.bootLoader = false → s.manager = true → s.wdp.tags[tagOf (tgOf g)].state = 0 → (cutOf g = true ∨ (g.op ≠ 2 ∧ g.op ≠ 3 ∧ g.op ≠ 4) ∨ s.fromHolder (.can u) = false) →
      Completes (.wdpRead (.can u) g) s fun t =>
          t.wdp.tags[tagOf (tgOf g)].state = 2 ∧ t.wdp.tags[tagOf (tgOf g)].resp = withData (headOf g) (if cutOf g = true ∨ (g.op ≠ 2 ∧ g.op ≠ 3 ∧ g.op ≠ 4) then 15 else 8) [] ∧ t.rd 0xC04201 = wrapInc 32 (s.rd 0xC04201) ∧
          KeepsObjs [0xC04201] s t ∧
          t = { s with objs := t.objs, wdp := t.wdp, can := t.can, free := t.free, collector := { s.collector with relay := t.collector.relay } }) ∧
    (∀ (u : Fin 2) (g : Telegram), s.mine (.can u) g = false → g.node = 0 → s.node ≠ 0 → s.unserved = false → s.power.bootLoader = false → s.manager = true → s.wdp.tags[tagOf (tgOf g)].state = 0 → (cutOf g = true ∨ (g.op ≠ 2 ∧ g.op ≠ 3 ∧ g.op ≠ 4) ∨ s.fromHolder (.can u) = false) →
      Completes (.wdpWrite (.can u) g) s fun t =>
          t.wdp.tags[tagOf (tgOf g)].state = 2 ∧ t.wdp.tags[tagOf (tgOf g)].resp = withData (headOf g) (if cutOf g = true ∨ (g.op ≠ 2 ∧ g.op ≠ 3 ∧ g.op ≠ 4) then 15 else 8) [] ∧ t.rd 0xC04201 = wrapInc 32 (s.rd 0xC04201) ∧
          KeepsObjs [0xC04201] s t ∧
          t = { s with objs := t.objs, wdp := t.wdp, can := t.can, free := t.free, collector := { s.collector with relay := t.collector.relay } }) ∧
    (∀ (u : Fin 2) (g : Telegram), s.mine (.can u) g = false → g.node = 0 → s.node ≠ 0 → s.unserved = false → s.power.bootLoader = false → s.manager = true → s.wdp.tags[tagOf (tgOf g)].state = 0 → (cutOf g = true ∨ (g.op ≠ 2 ∧ g.op ≠ 3 ∧ g.op ≠ 4) ∨ s.fromHolder (.can u) = false) →
      Completes (.wdpBlockRead (.can u) g) s fun t =>
          t.wdp.tags[tagOf (tgOf g)].state = 2 ∧ t.wdp.tags[tagOf (tgOf g)].resp = withData (headOf g) (if cutOf g = true ∨ (g.op ≠ 2 ∧ g.op ≠ 3 ∧ g.op ≠ 4) then 15 else 8) [] ∧ t.rd 0xC04201 = wrapInc 32 (s.rd 0xC04201) ∧
          KeepsObjs [0xC04201] s t ∧
          t = { s with objs := t.objs, wdp := t.wdp, can := t.can, free := t.free, collector := { s.collector with relay := t.collector.relay } }) ∧
    (∀ (u : Fin 2) (g : Telegram), s.mine (.can u) g = false → g.node = 0 → s.node ≠ 0 → s.unserved = false → s.power.bootLoader = false → s.manager = true → s.wdp.tags[tagOf (tgOf g)].state = 0 → (cutOf g = true ∨ (g.op ≠ 2 ∧ g.op ≠ 3 ∧ g.op ≠ 4) ∨ s.fromHolder (.can u) = false) →
      Completes (.wdpBlockWrite (.can u) g) s fun t =>
          t.wdp.tags[tagOf (tgOf g)].state = 2 ∧ t.wdp.tags[tagOf (tgOf g)].resp = withData (headOf g) (if cutOf g = true ∨ (g.op ≠ 2 ∧ g.op ≠ 3 ∧ g.op ≠ 4) then 15 else 8) [] ∧ t.rd 0xC04201 = wrapInc 32 (s.rd 0xC04201) ∧
          KeepsObjs [0xC04201] s t ∧
          t = { s with objs := t.objs, wdp := t.wdp, can := t.can, free := t.free, collector := { s.collector with relay := t.collector.relay } }) ∧
    (∀ (u : Fin 2) (g : Telegram), s.mine (.can u) g = false → g.node = 0 → s.node ≠ 0 → s.unserved = false → s.power.bootLoader = false → s.manager = true → s.wdp.tags[tagOf (tgOf g)].state = 0 → (cutOf g = true ∨ g.op ≠ 5 ∨ s.fromHolder (.can u) = false) →
      Completes (.wdpState (.can u) g) s fun t =>
          t.wdp.tags[tagOf (tgOf g)].state = 2 ∧ t.wdp.tags[tagOf (tgOf g)].resp = withData (headOf g) (if cutOf g = true ∨ g.op ≠ 5 then 15 else 8) [] ∧ t.rd 0xC04201 = wrapInc 32 (s.rd 0xC04201) ∧
          KeepsObjs [0xC04201] s t ∧
          t = { s with objs := t.objs, wdp := t.wdp, can := t.can, free := t.free, collector := { s.collector with relay := t.collector.relay } }) ∧
    (∀ (u : Fin 2) (g : Telegram), s.mine (.can u) g = false → g.node = 0 →
      Completes (.wdpSegment (.can u) g) s fun t =>
          t = s.taken (.can u) 8 [0]) ∧
    (∀ (u : Fin 2) (g : Telegram), s.mine (.can u) g = false → g.node = 0 →
      Completes (.wdpWindow (.can u) g) s fun t =>
          t = s.taken (.can u) 8 [0]) ∧
    (∀ (u : Fin 2) (g : Telegram), s.mine (.can u) g = false → g.node = 0 →
      Completes (.wdpAbort (.can u) g) s fun t =>
          t = s.taken (.can u) 9 [0])

/-- CAN bit timing, errors, bus-off, duplicate nodes. An APPLY of a timing set that passes its checks waits 10 ms and comes into force when no frame is on the bus, and the controller integrates; one that fails them is refused with STATUS 6 and changes nothing. A detected error sets LEC or DLEC and counts, code 7 as a form error without PEX, and raises TEC by 8 in a transmitter, REC by 1 or 8 in a receiver; a TEC above 255 is bus-off. RECOVER starts recovery of a controller in bus-off with AUTO_RECOVER 0 and is ignored otherwise; 1,408 nominal bits later at the earliest recovery ends with counts 0. DUP_CLEAR ends the silence of a duplicate. After the loss of the reference a controller goes into bus monitoring at the end of its frame. Under hypotheses on the state and the operands alone, exec answers a next state with the command's own effect for: canApply, canTimingChange, canErrorDetected, canRecover, canRecoveryComplete, dupClear, canBusMonitorEnter. (spec/16 R510, R513, R517, R526, R527, R528, R531, R533.) -/
def Obligations.CanTimingErrorsAndRecovery : Prop :=
  ∀ s : State,
    (∀ (u : Fin 2) (v : Byte), s.power.supervisor = true → (s.dev = 2 ∨ s.dev = 6 ∨ s.dev = 7) → v = 1 → timingOk (s.storedTiming u) = true →
      Completes (.canApply u v) s fun t =>
          t.lastStatus = 0 ∧ t.can[u] = { s.can[u] with apply := some (s.tick, s.storedTiming u) } ∧ t.can[otherCan u] = s.can[otherCan u] ∧ t.bitAt (kTiming u 0x0F) 0 = true ∧
          KeepsObjs [kTiming u 0x0F] s t ∧
          t = { s with objs := t.objs, can := t.can, lastStatus := t.lastStatus, lastData := t.lastData }) ∧
    (∀ (u : Fin 2) (v : Byte), s.power.supervisor = true → (s.dev = 2 ∨ s.dev = 6 ∨ s.dev = 7) → v = 1 → timingOk (s.storedTiming u) = false →
      Completes (.canApply u v) s fun t =>
          t.lastStatus = 6 ∧
          t = { s with lastStatus := t.lastStatus, lastData := t.lastData }) ∧
    (∀ (u : Fin 2) (a : Nat) (x : CanTiming), s.can[u].apply = some (a, x) → s.can[u].tx = none →
      Completes (.canTimingChange u) s fun t =>
          t.tick = max s.tick (a + msTicks 10) ∧ t.can[u].apply = none ∧ (∀ i : Fin 10, i ≠ 0 → t.can[u].timing[i] = x[i]) ∧ t.can[u].integAt = t.tick ∧ t.bitAt (kTiming u 0x0F) 0 = false ∧ t.bitAt (kTiming u 0x0F) 1 = true ∧ t.can[u] = { s.can[u] with apply := none, timing := t.can[u].timing, integAt := t.tick } ∧ t.can[otherCan u] = s.can[otherCan u] ∧
          KeepsObjs [kTiming u 0x0C, kTiming u 0x0D, kTiming u 0x0F] s t ∧
          t = { s with objs := t.objs, can := t.can, tick := t.tick, net := t.net }) ∧
    (∀ (u : Fin 2), (s.can[u].apply.isNone = true ∨ s.can[u].tx.isSome = true) →
      Completes (.canTimingChange u) s fun t =>
          t = s) ∧
    (∀ (u : Fin 2) (code : Byte) (dp : Bool) (tr : Bool) (col : Bool) (pl : CanPlace) (n : Nat), s.inReset = false → s.canMode u 0 = true → s.busOff u = false → 1 ≤ code.toNat → code.toNat ≤ 7 → (n = (if code.toNat = 7 ∧ s.canMode u 4 = false then 2 else code.toNat)) →
      Completes (.canErrorDetected u code dp tr col pl) s fun t =>
          t.rd (kErr u (if dp then 5 else 4)) = n ∧ (n ≠ 7 → t.rd (kErr u 0x0E) = wrapInc 32 (s.rd (kErr u 0x0E))) ∧ (n = 7 → t.rd (kErr u 0x10) = wrapInc 32 (s.rd (kErr u 0x10))) ∧ (255 < t.rd (kErr u 1) → t.rd (kErr u 3) = 2 ∧ t.can[u].tx = none ∧ t.rd (kErr u 6) = wrapInc 32 (s.rd (kErr u 6))) ∧ t.tick = s.tick ∧
          KeepsOtherAreas [0xB, 0xC] s t ∧
          t = { s with objs := t.objs, can := t.can, rails := t.rails, lease := t.lease, wdp := t.wdp, free := t.free, collector := { s.collector with relay := t.collector.relay } }) ∧
    (∀ (u : Fin 2) (code : Byte) (dp : Bool) (tr : Bool) (col : Bool) (pl : CanPlace) (n : Nat), s.inReset = false → s.canMode u 0 = true → s.busOff u = false → 1 ≤ code.toNat → code.toNat ≤ 7 → (n = (if code.toNat = 7 ∧ s.canMode u 4 = false then 2 else code.toNat)) → n ≠ 7 → s.restricted u = false → s.monitoring u = false →
      Completes (.canErrorDetected u code dp tr col pl) s fun t =>
          (tr = true → s.can[u].tx.isSome = true → ¬ (n = 3 ∧ s.rd (kErr u 3) = 1) → ¬ (n = 1 ∧ pl = .arbitrationStuff) → t.rd (kErr u 1) = s.rd (kErr u 1) + 8 ∧ t.rd (kErr u 2) = s.rd (kErr u 2)) ∧ (tr = true → s.can[u].tx.isSome = true → (n = 3 ∧ s.rd (kErr u 3) = 1) ∨ (n = 1 ∧ pl = .arbitrationStuff) → t.rd (kErr u 1) = s.rd (kErr u 1) ∧ t.rd (kErr u 2) = s.rd (kErr u 2)) ∧ (tr = false ∨ s.can[u].tx.isNone = true → t.rd (kErr u 2) = min (s.rd (kErr u 2) + if pl = .ownFlag then 8 else 1) 65535 ∧ t.rd (kErr u 1) = s.rd (kErr u 1)) ∧
          KeepsOtherAreas [0xB, 0xC] s t ∧
          t = { s with objs := t.objs, can := t.can, rails := t.rails, lease := t.lease, wdp := t.wdp, free := t.free, collector := { s.collector with relay := t.collector.relay } }) ∧
    (∀ (u : Fin 2) (code : Byte) (dp : Bool) (tr : Bool) (col : Bool) (pl : CanPlace), (s.inReset = true ∨ s.canMode u 0 = false ∨ s.busOff u = true ∨ code = 0 ∨ 7 < code.toNat) →
      Completes (.canErrorDetected u code dp tr col pl) s fun t =>
          t = s) ∧
    (∀ (u : Fin 2) (v : Byte), s.power.supervisor = true → s.dev ≠ 0 → v = 1 → s.busOff u = true → s.canMode u 6 = false → s.can[u].recovering = none →
      Completes (.canRecover u v) s fun t =>
          t.lastStatus = 0 ∧ t.rd (kErr u 7) = 128 ∧ t.can[u] = { s.can[u] with recovering := some s.tick } ∧ t.can[otherCan u] = s.can[otherCan u] ∧
          KeepsObjs [kErr u 7] s t ∧
          t = { s with objs := t.objs, can := t.can, lastStatus := t.lastStatus, lastData := t.lastData }) ∧
    (∀ (u : Fin 2) (v : Byte), s.power.supervisor = true → s.dev ≠ 0 → (v = 0 ∨ v = 1) → (v = 0 ∨ s.busOff u = false ∨ s.canMode u 6 = true ∨ s.can[u].recovering.isSome = true) →
      Completes (.canRecover u v) s fun t =>
          t.lastStatus = 0 ∧
          t = { s with lastStatus := t.lastStatus, lastData := t.lastData }) ∧
    (∀ (u : Fin 2) (a : Nat), s.can[u].recovering = some a →
      Completes (.canRecoveryComplete u) s fun t =>
          t.tick = max s.tick (a + bitTicks s.can[u].timing 1408) ∧ t.rd (kErr u 1) = 0 ∧ t.rd (kErr u 2) = 0 ∧ t.rd (kErr u 3) = 0 ∧ t.rd (kErr u 7) = 0 ∧ t.can[u] = { s.can[u] with recovering := none } ∧ t.can[otherCan u] = s.can[otherCan u] ∧
          KeepsOtherAreas [0xB, 0xC] s t ∧
          t = { s with objs := t.objs, can := t.can, rails := t.rails, lease := t.lease, tick := t.tick, net := t.net }) ∧
    (∀ (u : Fin 2), s.can[u].recovering = none →
      Completes (.canRecoveryComplete u) s fun t =>
          t = s) ∧
    (∀ (u : Fin 2) (v : Byte), s.power.supervisor = true → s.dev ≠ 0 → v = 1 →
      Completes (.dupClear u v) s fun t =>
          t.lastStatus = 0 ∧ t.silenced u = false ∧ t.can[u] = { s.can[u] with collisions := [] } ∧ t.can[otherCan u] = s.can[otherCan u] ∧
          KeepsOtherAreas [0xB, 0xC] s t ∧
          t = { s with objs := t.objs, can := t.can, rails := t.rails, lease := t.lease, lastStatus := t.lastStatus, lastData := t.lastData }) ∧
    (∀ (u : Fin 2), s.clock.refPresent = false → s.can[u].tx = none →
      Completes (.canBusMonitorEnter u) s fun t =>
          t.monitoring u = true ∧
          KeepsObjs [kTiming u 0x0F] s t ∧
          t = { s with objs := t.objs }) ∧
    (∀ (u : Fin 2), (s.clock.refPresent = true ∨ s.can[u].tx.isSome = true) →
      Completes (.canBusMonitorEnter u) s fun t =>
          t = s)

/-- CAN message objects, reception and transmission. A write of 16 or 80 bytes sets an object's record, and is refused for a system object or with another length; with PENDING 1 a valid transmit object requests transmission and is ready 96 to 192 ns later, of FD format without FD_EN it fails; with PENDING 0 the request is cancelled. A read clears NEW and MSGLOST. A received frame counts, and goes into the lowest free matching object with its time; remote frames and frames that match none are only counted; the functions' objects take FD base frames alone, those of requests none of fewer than 8 bytes. A controller starts its highest-ranked ready object, or the copy in its re-queue buffer, once it has integrated. A success clears PENDING, FAILED and FIRST, writes TS_NS of the object it came from and, with TS_EN, appends a timestamp entry or, of 16, sets OVERFLOW; a failure leaves the object pending, of a single shot it sets FAILED; a failed copy goes back to its buffer. Where the controller is off, bus-off, or integrates, nothing is received; where it also sends or monitors, nothing starts. Under hypotheses on the state and the operands alone, exec answers a next state with the command's own effect for: canObjectConfigure, canTransmitRequest, canTransmitCancel, canObjectRead, canFrameReceive, canTransmitStart, canTransmitComplete. (spec/16 R518, R519, R520, R521, R522, R523, R524, R530, R534.) -/
def Obligations.CanObjectsTakeAndSendFrames : Prop :=
  ∀ s : State,
    (∀ (u : Fin 2) (n : Byte) (d : Bytes), s.power.supervisor = true → s.dev ≠ 0 → 25 ≤ n.toNat → n.toNat ≤ 100 → (d.length = 16 ∨ d.length = 80) → byteAt d 11 = 0 →
      Completes (.canObjectConfigure u n d) s fun t =>
          (t.msg u n.toNat).ident = leAt d 0 4 ∧ (t.msg u n.toNat).octrl = byteAt d 8 % 16 ∧ (t.msg u n.toNat).dlc = byteAt d 9 % 16 ∧ (t.msg u n.toNat).tag = byteAt d 10 ∧ t.lastStatus = 0 ∧ (t.msg u n.toNat).data = (if d.length = 80 then d.drop 16 else (s.msg u n.toNat).data) ∧ isPending (t.msg u n.toNat) = false ∧ (∀ k : Fin 100, k ≠ objIx n.toNat → t.can[u].msg[k] = s.can[u].msg[k]) ∧
          t = { s with can := t.can, lastStatus := t.lastStatus, lastData := t.lastData }) ∧
    (∀ (u : Fin 2) (n : Byte) (d : Bytes), s.power.supervisor = true → s.dev ≠ 0 → 25 ≤ n.toNat → n.toNat ≤ 100 → (d.length = 16 ∨ d.length = 80) → bit (byteAt d 8) 0 = true → bit (byteAt d 8) 1 = true → (bit (leAt d 0 4) 30 = true → s.canMode u 1 = true) →
      Completes (.canTransmitRequest u n d) s fun t =>
          (t.msg u n.toNat).ident = leAt d 0 4 ∧ (t.msg u n.toNat).octrl = byteAt d 8 % 16 ∧ (t.msg u n.toNat).dlc = byteAt d 9 % 16 ∧ (t.msg u n.toNat).tag = byteAt d 10 ∧ t.lastStatus = 0 ∧ (t.msg u n.toNat).data = (if d.length = 80 then d.drop 16 else (s.msg u n.toNat).data) ∧ isPending (t.msg u n.toNat) = true ∧ s.tick + 60 ≤ (t.msg u n.toNat).readyAt ∧ (t.msg u n.toNat).readyAt ≤ s.tick + 120 ∧ (∀ k : Fin 100, k ≠ objIx n.toNat → t.can[u].msg[k] = s.can[u].msg[k]) ∧
          t = { s with can := t.can, lastStatus := t.lastStatus, lastData := t.lastData, free := t.free }) ∧
    (∀ (u : Fin 2) (n : Byte) (d : Bytes), s.power.supervisor = true → s.dev ≠ 0 → 25 ≤ n.toNat → n.toNat ≤ 100 → (d.length = 16 ∨ d.length = 80) → bit (byteAt d 8) 0 = true → bit (byteAt d 8) 1 = true → bit (leAt d 0 4) 30 = true → s.canMode u 1 = false →
      Completes (.canTransmitRequest u n d) s fun t =>
          (t.msg u n.toNat).ident = leAt d 0 4 ∧ (t.msg u n.toNat).octrl = byteAt d 8 % 16 ∧ (t.msg u n.toNat).dlc = byteAt d 9 % 16 ∧ (t.msg u n.toNat).tag = byteAt d 10 ∧ t.lastStatus = 0 ∧ (t.msg u n.toNat).data = (if d.length = 80 then d.drop 16 else (s.msg u n.toNat).data) ∧ isPending (t.msg u n.toNat) = false ∧ bit (t.msg u n.toNat).ostat 4 = true ∧ (∀ k : Fin 100, k ≠ objIx n.toNat → t.can[u].msg[k] = s.can[u].msg[k]) ∧
          t = { s with can := t.can, lastStatus := t.lastStatus, lastData := t.lastData }) ∧
    (∀ (u : Fin 2) (n : Byte) (d : Bytes), s.power.supervisor = true → s.dev ≠ 0 → 25 ≤ n.toNat → n.toNat ≤ 100 → (d.length = 16 ∨ d.length = 80) → (bit (byteAt d 8) 0 = false ∨ bit (byteAt d 8) 1 = false) →
      Completes (.canTransmitRequest u n d) s fun t =>
          (t.msg u n.toNat).ident = leAt d 0 4 ∧ (t.msg u n.toNat).octrl = byteAt d 8 % 16 ∧ (t.msg u n.toNat).dlc = byteAt d 9 % 16 ∧ (t.msg u n.toNat).tag = byteAt d 10 ∧ t.lastStatus = 0 ∧ (t.msg u n.toNat).data = (if d.length = 80 then d.drop 16 else (s.msg u n.toNat).data) ∧ isPending (t.msg u n.toNat) = false ∧ (bit (byteAt d 8) 1 = false → (t.msg u n.toNat).ostat = clearMask (s.msg u n.toNat).ostat 0x27) ∧ (∀ k : Fin 100, k ≠ objIx n.toNat → t.can[u].msg[k] = s.can[u].msg[k]) ∧
          t = { s with can := t.can, lastStatus := t.lastStatus, lastData := t.lastData }) ∧
    (∀ (u : Fin 2) (n : Byte) (d : Bytes), s.power.supervisor = true → s.dev ≠ 0 → 25 ≤ n.toNat → n.toNat ≤ 100 → (d.length = 16 ∨ d.length = 80) →
      Completes (.canTransmitCancel u n d) s fun t =>
          (t.msg u n.toNat).ident = leAt d 0 4 ∧ (t.msg u n.toNat).octrl = byteAt d 8 % 16 ∧ (t.msg u n.toNat).dlc = byteAt d 9 % 16 ∧ (t.msg u n.toNat).tag = byteAt d 10 ∧ t.lastStatus = 0 ∧ (t.msg u n.toNat).data = (if d.length = 80 then d.drop 16 else (s.msg u n.toNat).data) ∧ isPending (t.msg u n.toNat) = false ∧ (∀ k : Fin 100, k ≠ objIx n.toNat → t.can[u].msg[k] = s.can[u].msg[k]) ∧
          t = { s with can := t.can, lastStatus := t.lastStatus, lastData := t.lastData }) ∧
    (∀ (u : Fin 2) (n : Byte) (d : Bytes), s.power.supervisor = true → s.dev ≠ 0 → 1 ≤ n.toNat → n.toNat ≤ 100 → (n.toNat ≤ 24 ∨ (d.length ≠ 16 ∧ d.length ≠ 80)) →
      Completes (.canObjectConfigure u n d) s fun t =>
          t.lastStatus = (if n.toNat ≤ 24 then 4 else 7) ∧
          t = { s with lastStatus := t.lastStatus, lastData := t.lastData }) ∧
    (∀ (u : Fin 2) (n : Byte) (d : Bytes), s.power.supervisor = true → s.dev ≠ 0 → 1 ≤ n.toNat → n.toNat ≤ 100 → (n.toNat ≤ 24 ∨ (d.length ≠ 16 ∧ d.length ≠ 80)) →
      Completes (.canTransmitRequest u n d) s fun t =>
          t.lastStatus = (if n.toNat ≤ 24 then 4 else 7) ∧
          t = { s with lastStatus := t.lastStatus, lastData := t.lastData }) ∧
    (∀ (u : Fin 2) (n : Byte) (d : Bytes), s.power.supervisor = true → s.dev ≠ 0 → 1 ≤ n.toNat → n.toNat ≤ 100 → (n.toNat ≤ 24 ∨ (d.length ≠ 16 ∧ d.length ≠ 80)) →
      Completes (.canTransmitCancel u n d) s fun t =>
          t.lastStatus = (if n.toNat ≤ 24 then 4 else 7) ∧
          t = { s with lastStatus := t.lastStatus, lastData := t.lastData }) ∧
    (∀ (u : Fin 2) (n : Byte), s.power.supervisor = true → s.dev ≠ 0 → 1 ≤ n.toNat → n.toNat ≤ 100 →
      Completes (.canObjectRead u n) s fun t =>
          t.lastStatus = 0 ∧ t.lastData = recordBytes (s.msg u n.toNat) ∧ t.msg u n.toNat = { s.msg u n.toNat with ostat := clearMask (s.msg u n.toNat).ostat 6 } ∧ (∀ k : Fin 100, k ≠ objIx n.toNat → t.can[u].msg[k] = s.can[u].msg[k]) ∧
          t = { s with can := t.can, lastStatus := t.lastStatus, lastData := t.lastData }) ∧
    (∀ (u : Fin 2) (f : CanFrame) (n : Nat), s.inReset = false → s.canMode u 0 = true → s.busOff u = false → (f.fd = false ∨ s.canMode u 1 = true) → s.integrated u ≤ s.tick → f.rtr = false → s.storesAt u f = some n → (20 < n ∨ (f.fd = true ∧ f.ext = false ∧ (n < 7 ∨ 8 ≤ f.data.length))) →
      Completes (.canFrameReceive u f) s fun t =>
          t.rd (kErr u 0x0D) = wrapInc 32 (s.rd (kErr u 0x0D)) ∧ (t.msg u n).data = pad64 f.data ∧ (t.msg u n).dlc = f.dlc.toNat ∧ (t.msg u n).tsNs = s.ns ∧
          (t.msg u n).ident = f.id.toNat + (if f.ext then 2 ^ 29 else 0) + (if f.fd then 2 ^ 30 else 0) + (if f.brs then 2 ^ 31 else 0) ∧ bit (t.msg u n).ostat 1 = true ∧ bit (t.msg u n).ostat 6 = f.esi ∧ bit (t.msg u n).ostat 2 = (bit (s.msg u n).ostat 1 || bit (s.msg u n).ostat 2) ∧ (∀ k : Fin 100, k ≠ objIx n → t.can[u].msg[k] = s.can[u].msg[k]) ∧ t.can[otherCan u] = s.can[otherCan u] ∧ t.tick = s.tick ∧
          KeepsOtherAreas [0xB, 0xC] s t ∧
          t = { s with objs := t.objs, can := t.can, rails := t.rails, lease := t.lease, free := t.free }) ∧
    (∀ (u : Fin 2) (f : CanFrame) (n : Nat), s.inReset = false → s.canMode u 0 = true → s.busOff u = false → (f.fd = false ∨ s.canMode u 1 = true) → s.integrated u ≤ s.tick → f.rtr = false → s.storesAt u f = some n → n ≤ 20 → (f.fd = false ∨ f.ext = true ∨ (7 ≤ n ∧ f.data.length < 8)) →
      Completes (.canFrameReceive u f) s fun t =>
          t.rd (kErr u 0x0D) = wrapInc 32 (s.rd (kErr u 0x0D)) ∧ t.rd 0xC04204 = wrapInc 32 (s.rd 0xC04204) ∧ bit (t.msg u n).ostat 1 = false ∧ (∀ k : Fin 100, k ≠ objIx n → t.can[u].msg[k] = s.can[u].msg[k]) ∧ t.can[otherCan u] = s.can[otherCan u] ∧
          KeepsOtherAreas [0xB, 0xC] s t ∧
          t = { s with objs := t.objs, can := t.can, rails := t.rails, lease := t.lease, free := t.free }) ∧
    (∀ (u : Fin 2) (f : CanFrame), s.inReset = false → s.canMode u 0 = true → s.busOff u = false → (f.fd = false ∨ s.canMode u 1 = true) → s.integrated u ≤ s.tick → (f.rtr = true ∨ s.storesAt u f = none) →
      Completes (.canFrameReceive u f) s fun t =>
          t.rd (kErr u 0x0D) = wrapInc 32 (s.rd (kErr u 0x0D)) ∧ t.can[u].msg = s.can[u].msg ∧
          KeepsOtherAreas [0xB, 0xC] s t ∧
          t = { s with objs := t.objs, rails := t.rails, lease := t.lease, free := t.free }) ∧
    (∀ (u : Fin 2) (f : CanFrame), (s.inReset = true ∨ s.canMode u 0 = false ∨ s.busOff u = true ∨ (f.fd = true ∧ s.canMode u 1 = false) ∨ s.tick < s.integrated u) →
      Completes (.canFrameReceive u f) s fun t =>
          t = s) ∧
    (∀ (u : Fin 2) (n : Nat), s.inReset = false → s.can[u].tx = none → s.canMode u 0 = true → s.busOff u = false → s.monitoring u = false → s.clock.refPresent = true → s.canMode u 1 = true → ((((s.advanceTo (s.integrated u)).loadOut u).topMsg u fun k => ((s.advanceTo (s.integrated u)).loadOut u).maySendObj u k && ((s.advanceTo (s.integrated u)).loadOut u).ready u k) = some n) → n ≠ 0 →
      Completes (.canTransmitStart u) s fun t =>
          t.can[u] = { ((s.advanceTo (s.integrated u)).loadOut u).can[u] with tx := some ⟨n, false, ((s.advanceTo (s.integrated u)).loadOut u).msg u n, false, false, t.net, s.bitAt kFlags 3, s.sentFrame u (((s.advanceTo (s.integrated u)).loadOut u).msg u n)⟩ } ∧ t.tick = max s.tick (s.integrated u) ∧ t.bitAt (kTiming u 0x0F) 1 = false ∧ t.can[otherCan u] = s.can[otherCan u] ∧
          KeepsObjs [kTiming u 0x0F, kTiming u 0x0E] s t ∧
          t = { s with objs := t.objs, can := t.can, free := t.free, tick := t.tick, net := t.net, wdp := t.wdp, collector := { s.collector with relay := t.collector.relay } }) ∧
    (∀ (u : Fin 2) (q : CanTx), s.inReset = false → s.can[u].tx = none → s.canMode u 0 = true → s.busOff u = false → s.monitoring u = false → s.clock.refPresent = true → s.canMode u 1 = true → ((((s.advanceTo (s.integrated u)).loadOut u).topMsg u fun k => ((s.advanceTo (s.integrated u)).loadOut u).maySendObj u k && ((s.advanceTo (s.integrated u)).loadOut u).ready u k) = some 0) → s.can[u].requeue = some q →
      Completes (.canTransmitStart u) s fun t =>
          t.can[u] = { ((s.advanceTo (s.integrated u)).loadOut u).can[u] with tx := some { q with sof := t.net, coarse := s.bitAt kFlags 3, frame := s.sentFrame u q.m }, requeue := none } ∧ t.tick = max s.tick (s.integrated u) ∧ t.bitAt (kTiming u 0x0F) 1 = false ∧ t.can[otherCan u] = s.can[otherCan u] ∧
          KeepsObjs [kTiming u 0x0F, kTiming u 0x0E] s t ∧
          t = { s with objs := t.objs, can := t.can, free := t.free, tick := t.tick, net := t.net, wdp := t.wdp, collector := { s.collector with relay := t.collector.relay } }) ∧
    (∀ (u : Fin 2) (k : Fin 100), s.inReset = false → s.can[u].tx = none → s.canMode u 0 = true → s.busOff u = false → s.monitoring u = false → s.clock.refPresent = true → s.canMode u 1 = false → isPending s.can[u].msg[k] = true → isValid s.can[u].msg[k] = true → isTx s.can[u].msg[k] = true → bit s.can[u].msg[k].ident 30 = true →
      Completes (.canTransmitStart u) s fun t =>
          isPending t.can[u].msg[k] = false ∧ bit t.can[u].msg[k].ostat 4 = true ∧ t.tick = max s.tick (s.integrated u) ∧
          KeepsObjs [kTiming u 0x0F, kTiming u 0x0E] s t ∧
          t = { s with objs := t.objs, can := t.can, free := t.free, tick := t.tick, net := t.net, wdp := t.wdp, collector := { s.collector with relay := t.collector.relay } }) ∧
    (∀ (u : Fin 2), s.inReset = false → s.can[u].tx = none → s.canMode u 0 = true → s.busOff u = false → s.monitoring u = false → s.clock.refPresent = true → s.canMode u 1 = true → ((((s.advanceTo (s.integrated u)).loadOut u).topMsg u fun k => ((s.advanceTo (s.integrated u)).loadOut u).maySendObj u k && ((s.advanceTo (s.integrated u)).loadOut u).ready u k) = none) →
      Completes (.canTransmitStart u) s fun t =>
          t.tick = max s.tick (s.integrated u) ∧ t.can = ((s.advanceTo (s.integrated u)).loadOut u).can ∧
          t = { s with tick := t.tick, net := t.net, free := t.free, can := t.can, wdp := t.wdp, collector := { s.collector with relay := t.collector.relay } }) ∧
    (∀ (u : Fin 2), (s.inReset = true ∨ s.can[u].tx.isSome = true ∨ s.canMode u 0 = false ∨ s.busOff u = true ∨ s.monitoring u = true ∨ s.clock.refPresent = false) →
      Completes (.canTransmitStart u) s fun t =>
          t = s) ∧
    (∀ (u : Fin 2) (ok : Bool) (x : CanTx), s.can[u].tx = some x → ok = true → s.canMode u 0 = true → s.bitAt (kTiming u 1) 0 = true → 24 < x.obj → x.obj ≤ 100 →
      Completes (.canTransmitComplete u ok) s fun t =>
          t.can[u].tx = none ∧ t.rd (kErr u 0x0C) = wrapInc 32 (s.rd (kErr u 0x0C)) ∧ (x.requeued = false → isPending (t.msg u x.obj) = x.again ∧ bit (t.msg u x.obj).ostat 4 = false ∧ bit (t.msg u x.obj).ostat 5 = false) ∧ (t.msg (txHome u x) x.obj).tsNs = x.sof.acc / 2 ^ 32 ∧ t.tick = s.tick ∧ t.wdp.tags = s.wdp.tags ∧
          KeepsOtherAreas [0xB, 0xC] s t ∧
          t = { s with objs := t.objs, can := t.can, rails := t.rails, lease := t.lease, wdp := t.wdp, free := t.free, collector := t.collector }) ∧
    (∀ (u : Fin 2) (ok : Bool) (x : CanTx), s.can[u].tx = some x → ok = true → bit x.m.octrl 3 = true →
      Completes (.canTransmitComplete u ok) s fun t =>
          t.can[u].tx = none ∧ t.rd (kErr u 0x0C) = wrapInc 32 (s.rd (kErr u 0x0C)) ∧ (s.can[u].stamps.length < 16 → t.can[u].stamps = s.can[u].stamps ++ ([natLe 1 x.obj ++ natLe 1 x.m.tag ++ natLe 1 ((if x.requeued then 1 else 0) + (if x.coarse then 2 else 0)) ++ natLe 1 0 ++ natLe 4 x.sof.sec ++ natLe 4 (x.sof.acc / 2 ^ 32)] : List Bytes)) ∧ (16 ≤ s.can[u].stamps.length → t.can[u].stamps = s.can[u].stamps ∧ t.rd (kStamps u 3) = 1) ∧
          KeepsOtherAreas [0xB, 0xC] s t ∧
          t = { s with objs := t.objs, can := t.can, rails := t.rails, lease := t.lease, wdp := t.wdp, free := t.free, collector := t.collector }) ∧
    (∀ (u : Fin 2) (ok : Bool) (x : CanTx), s.can[u].tx = some x → ok = false → s.canMode u 0 = true → s.bitAt (kTiming u 1) 0 = true → 24 < x.obj → x.obj ≤ 100 → x.requeued = false →
      Completes (.canTransmitComplete u ok) s fun t =>
          t.can[u].tx = none ∧ (bit x.m.octrl 2 = false ∨ x.again = true → t.msg u x.obj = s.msg u x.obj) ∧ (bit x.m.octrl 2 = true → x.again = false → isPending (t.msg u x.obj) = false ∧ bit (t.msg u x.obj).ostat 4 = true) ∧ t.tick = s.tick ∧ t.wdp.tags = s.wdp.tags ∧
          t = { s with can := t.can, wdp := t.wdp, free := t.free, collector := { s.collector with relay := t.collector.relay } }) ∧
    (∀ (u : Fin 2) (ok : Bool) (x : CanTx), s.can[u].tx = some x → ok = false → s.canMode u 0 = true → s.bitAt (kTiming u 1) 0 = true → 24 < x.obj → x.obj ≤ 100 → x.requeued = true →
      Completes (.canTransmitComplete u ok) s fun t =>
          t.can[u].tx = none ∧ (bit x.m.octrl 2 = false → x.cancelled = false → t.can[u].requeue = some x) ∧ (bit x.m.octrl 2 = true → bit (t.msg (otherCan u) x.obj).ostat 4 = true ∧ t.can[u].requeue = s.can[u].requeue) ∧
          t = { s with can := t.can, wdp := t.wdp, free := t.free, collector := { s.collector with relay := t.collector.relay } }) ∧
    (∀ (u : Fin 2) (ok : Bool), s.can[u].tx.isNone = true →
      Completes (.canTransmitComplete u ok) s fun t =>
          t = s)

/-- LEC, DLEC and the transmit timestamps. A read of LEC or DLEC answers and clears it; a read of ENTRY takes the oldest timestamp entry; FLUSH empties the queue. Under hypotheses on the state and the operands alone, exec answers a next state with the command's own effect for: lecRead, timestampEntryRead, timestampFlush. (spec/16 R528, R535, R536, R537.) -/
def Obligations.CanErrorCodesAndTimestampsAreRead : Prop :=
  ∀ s : State,
    (∀ (u : Fin 2) (dl : Bool), s.power.supervisor = true → s.dev ≠ 0 →
      Completes (.lecRead u dl) s fun t =>
          t.lastStatus = 0 ∧ t.lastData = natLe 1 (s.rd (kErr u (if dl then 5 else 4))) ∧ t.rd (kErr u (if dl then 5 else 4)) = 0 ∧
          KeepsObjs [kErr u (if dl then 5 else 4)] s t ∧
          t = { s with objs := t.objs, lastStatus := t.lastStatus, lastData := t.lastData }) ∧
    (∀ (u : Fin 2), s.power.supervisor = true → s.dev ≠ 0 →
      Completes (.timestampEntryRead u) s fun t =>
          t.lastStatus = 0 ∧ t.lastData = s.can[u].stamps.headD (natLe 12 0) ∧ t.can[u] = { s.can[u] with stamps := s.can[u].stamps.drop 1 } ∧ t.can[otherCan u] = s.can[otherCan u] ∧
          t = { s with can := t.can, lastStatus := t.lastStatus, lastData := t.lastData }) ∧
    (∀ (u : Fin 2) (v : Byte), s.power.supervisor = true → s.dev ≠ 0 → v = 1 →
      Completes (.timestampFlush u v) s fun t =>
          t.lastStatus = 0 ∧ t.can[u] = { s.can[u] with stamps := [] } ∧ t.can[otherCan u] = s.can[otherCan u] ∧
          t = { s with can := t.can, lastStatus := t.lastStatus, lastData := t.lastData })

/-- READ, WRITE and STATE transactions. A READ of a new tag answers the object and becomes DONE; a WRITE has the effect and the STATUS of the write made directly; a STATE telegram has those of a write of CMD and answers RESULT. CMD DEVICE_RESET is answered before it acts, CHARGE in a manager with workers and ACTIVATE leave the request RUNNING. A LEN beyond the data answers STATUS 15. A duplicate of a DONE request is answered again from the stored response and does nothing else, one of a RUNNING request is counted alone; a request of another generation supersedes the old one. Without a Supervisor every request is answered BUSY. Under hypotheses on the state and the operands alone, exec answers a next state with the command's own effect for: wdpRead, wdpWrite, wdpState, wdpBlockRead, wdpBlockWrite, wdpSegment, wdpWindow, wdpAbort. (spec/17 R548, R549, R550, R551, R552, R553, R554, R555, R556, R557, R562, R572.) -/
def Obligations.ReadsWritesAndStateCommandsAreAnswered : Prop :=
  ∀ s : State,
    (∀ (o : Origin) (g : Telegram), s.mine o g = true → s.unserved = false → cutOf g = false → s.wdp.tags[tagOf (tgOf g)].state = 0 → g.op = 1 →
      Completes (.wdpRead o g) s fun t =>
          t.wdp.tags[tagOf (tgOf g)] = ⟨genOf (tgOf g), 2, withData (headOf g) ((s.opened o 6 g).hostRead false g.index.toNat g.sub.toNat).1 ((s.opened o 6 g).hostRead false g.index.toNat g.sub.toNat).2.1, o⟩ ∧ (∀ k : Fin 64, k ≠ tagOf (tgOf g) → t.wdp.tags[k] = s.wdp.tags[k]) ∧ replied s t o (tgOf g) (withData (headOf g) ((s.opened o 6 g).hostRead false g.index.toNat g.sub.toNat).1 ((s.opened o 6 g).hostRead false g.index.toNat g.sub.toNat).2.1) = true ∧ KeepsObjs [0xB00508] ((s.opened o 6 g).hostRead false g.index.toNat g.sub.toNat).2.2 t ∧ t = { ((s.opened o 6 g).hostRead false g.index.toNat g.sub.toNat).2.2 with objs := t.objs, lanes := t.lanes, frames := t.frames, wdp := t.wdp, can := t.can, free := t.free, collector := { (((s.opened o 6 g).hostRead false g.index.toNat g.sub.toNat).2.2).collector with relay := t.collector.relay } }) ∧
    (∀ (o : Origin) (g : Telegram), s.mine o g = true → s.unserved = false → cutOf g = false → s.wdp.tags[tagOf (tgOf g)].state = 0 → g.op = 2 → (g.index ≠ 0x1001 ∨ g.sub ≠ 1 ∨ (byteAt (datOf g) 0 ≠ 8 ∧ (byteAt (datOf g) 0 ≠ 1 ∨ s.manager = false))) → (g.index ≠ 0xE011 ∨ g.sub ≠ 1 ∨ byteAt (datOf g) 0 ≠ 2) →
      Completes (.wdpWrite o g) s fun t =>
          t.wdp.tags[tagOf (tgOf g)] = ⟨genOf (tgOf g), 2, withData (headOf g) ((s.opened o 6 g).hostWrite (s.fromHolder o) g.index.toNat g.sub.toNat (datOf g)).1 [], o⟩ ∧ (∀ k : Fin 64, k ≠ tagOf (tgOf g) → t.wdp.tags[k] = ((s.opened o 6 g).hostWrite (s.fromHolder o) g.index.toNat g.sub.toNat (datOf g)).2.wdp.tags[k]) ∧ replied s t o (tgOf g) (withData (headOf g) ((s.opened o 6 g).hostWrite (s.fromHolder o) g.index.toNat g.sub.toNat (datOf g)).1 []) = true ∧ KeepsObjs [0xB00508] ((s.opened o 6 g).hostWrite (s.fromHolder o) g.index.toNat g.sub.toNat (datOf g)).2 t ∧ t = { ((s.opened o 6 g).hostWrite (s.fromHolder o) g.index.toNat g.sub.toNat (datOf g)).2 with objs := t.objs, lanes := t.lanes, frames := t.frames, wdp := t.wdp, can := t.can, free := t.free, collector := { (((s.opened o 6 g).hostWrite (s.fromHolder o) g.index.toNat g.sub.toNat (datOf g)).2).collector with relay := t.collector.relay } }) ∧
    (∀ (o : Origin) (g : Telegram), s.mine o g = true → s.unserved = false → cutOf g = false → s.wdp.tags[tagOf (tgOf g)].state = 0 → g.op = 2 → s.writeStatus (s.fromHolder o) g.index.toNat g.sub.toNat (datOf g) ≠ 0 → g.index.toNat / 4096 ≠ 0xC → s.writeStatus (s.fromHolder o) g.index.toNat g.sub.toNat (datOf g) ≠ 5 →
      Completes (.wdpWrite o g) s fun t =>
          t.wdp.tags[tagOf (tgOf g)] = ⟨genOf (tgOf g), 2, withData (headOf g) (s.writeStatus (s.fromHolder o) g.index.toNat g.sub.toNat (datOf g)) [], o⟩ ∧ (∀ k : Fin 64, k ≠ tagOf (tgOf g) → t.wdp.tags[k] = s.wdp.tags[k]) ∧ t.rd 0xC04201 = wrapInc 32 (s.rd 0xC04201) ∧
          KeepsObjs [0xC04201, 0xB00508] s t ∧
          t = { s with objs := t.objs, lanes := t.lanes, frames := t.frames, wdp := t.wdp, can := t.can, free := t.free, collector := { s.collector with relay := t.collector.relay } }) ∧
    (∀ (o : Origin) (g : Telegram), s.mine o g = true → s.unserved = false → cutOf g = false → s.wdp.tags[tagOf (tgOf g)].state = 0 → g.op = 2 → g.index = 0xE011 → g.sub = 1 → byteAt (datOf g) 0 = 2 → ((s.opened o 6 g).hostWrite (s.fromHolder o) g.index.toNat g.sub.toNat (datOf g)).1 = 0 →
      Completes (.wdpWrite o g) s fun t =>
          t.wdp.tags[tagOf (tgOf g)] = ⟨genOf (tgOf g), 1, headOf g, o⟩ ∧ t.jobs.install.reply = some (tgOf g) ∧ t = { ((s.opened o 6 g).hostWrite (s.fromHolder o) g.index.toNat g.sub.toNat (datOf g)).2 with jobs := t.jobs }) ∧
    (∀ (o : Origin) (g : Telegram), s.mine o g = true → s.unserved = false → cutOf g = false → s.wdp.tags[tagOf (tgOf g)].state = 0 → g.op = 5 → byteAt (datOf g) 0 ≠ 8 → (byteAt (datOf g) 0 ≠ 1 ∨ s.manager = false) →
      Completes (.wdpState o g) s fun t =>
          t.wdp.tags[tagOf (tgOf g)] = ⟨genOf (tgOf g), 2, withData (headOf g) ((s.opened o 10 g).hostWrite (s.fromHolder o) 0x1001 1 (datOf g)).1 (if ((s.opened o 10 g).hostWrite (s.fromHolder o) 0x1001 1 (datOf g)).1 = 0 then natLe 1 (((s.opened o 10 g).hostWrite (s.fromHolder o) 0x1001 1 (datOf g)).2.rd kResult) else []), o⟩ ∧ (∀ k : Fin 64, k ≠ tagOf (tgOf g) → t.wdp.tags[k] = ((s.opened o 10 g).hostWrite (s.fromHolder o) 0x1001 1 (datOf g)).2.wdp.tags[k]) ∧ KeepsObjs [0xB00508] ((s.opened o 10 g).hostWrite (s.fromHolder o) 0x1001 1 (datOf g)).2 t ∧ t = { ((s.opened o 10 g).hostWrite (s.fromHolder o) 0x1001 1 (datOf g)).2 with objs := t.objs, lanes := t.lanes, frames := t.frames, wdp := t.wdp, can := t.can, free := t.free, collector := { (((s.opened o 10 g).hostWrite (s.fromHolder o) 0x1001 1 (datOf g)).2).collector with relay := t.collector.relay } }) ∧
    (∀ (o : Origin) (g : Telegram), s.mine o g = true → s.unserved = false → cutOf g = false → s.wdp.tags[tagOf (tgOf g)].state = 0 → g.op = 5 → byteAt (datOf g) 0 = 1 → s.dev = 2 → s.manager = true → 1 < s.rd 0xB03004 → ((s.opened o 10 g).hostWrite (s.fromHolder o) 0x1001 1 (datOf g)).1 = 0 →
      Completes (.wdpState o g) s fun t =>
          t.wdp.tags[tagOf (tgOf g)] = ⟨genOf (tgOf g), 1, headOf g, o⟩ ∧ t.power.chargeReply = s.power.chargeReply ++ ([(tgOf g, none)] : List (Nat × Option Nat)) ∧ t = { ((s.opened o 10 g).hostWrite (s.fromHolder o) 0x1001 1 (datOf g)).2 with power := t.power }) ∧
    (∀ (o : Origin) (g : Telegram), s.mine o g = true → s.unserved = false → cutOf g = false → s.wdp.tags[tagOf (tgOf g)].state = 0 → g.op = 5 → byteAt (datOf g) 0 = 8 → ((s.opened o 10 g).hostWrite (s.fromHolder o) 0x1001 1 (datOf g)).1 = 0 →
      Completes (.wdpState o g) s fun t =>
          t.wdp.tags[tagOf (tgOf g)] = ⟨genOf (tgOf g), 2, withData (headOf g) 0 (natLe 1 (((s.opened o 10 g).hostWrite (s.fromHolder o) 0x1001 1 (datOf g)).2.rd kResult)), o⟩ ∧ (∀ k : Fin 64, k ≠ tagOf (tgOf g) → t.wdp.tags[k] = s.wdp.tags[k]) ∧ t.rd 0xC04201 = wrapInc 32 (s.rd 0xC04201) ∧ t.power = ((s.opened o 10 g).hostWrite (s.fromHolder o) 0x1001 1 (datOf g)).2.power ∧ t.dev = ((s.opened o 10 g).hostWrite (s.fromHolder o) 0x1001 1 (datOf g)).2.dev ∧ t.tick = s.tick) ∧
    (∀ (o : Origin) (g : Telegram), s.mine o g = true → s.unserved = false → cutOf g = true → s.wdp.tags[tagOf (tgOf g)].state = 0 →
      Completes (.wdpRead o g) s fun t =>
          t.wdp.tags[tagOf (tgOf g)] = ⟨genOf (tgOf g), 2, withData (headOf g) 15 [], o⟩ ∧ (∀ k : Fin 64, k ≠ tagOf (tgOf g) → t.wdp.tags[k] = s.wdp.tags[k]) ∧ replied s t o (tgOf g) (withData (headOf g) 15 []) = true ∧ t.rd 0xC04201 = wrapInc 32 (s.rd 0xC04201) ∧
          KeepsObjs [0xC04201, 0xB00508] s t ∧
          t = { s with objs := t.objs, lanes := t.lanes, frames := t.frames, wdp := t.wdp, can := t.can, free := t.free, collector := { s.collector with relay := t.collector.relay } }) ∧
    (∀ (o : Origin) (g : Telegram), s.mine o g = true → s.unserved = false → cutOf g = true → s.wdp.tags[tagOf (tgOf g)].state = 0 →
      Completes (.wdpWrite o g) s fun t =>
          t.wdp.tags[tagOf (tgOf g)] = ⟨genOf (tgOf g), 2, withData (headOf g) 15 [], o⟩ ∧ (∀ k : Fin 64, k ≠ tagOf (tgOf g) → t.wdp.tags[k] = s.wdp.tags[k]) ∧ replied s t o (tgOf g) (withData (headOf g) 15 []) = true ∧ t.rd 0xC04201 = wrapInc 32 (s.rd 0xC04201) ∧
          KeepsObjs [0xC04201, 0xB00508] s t ∧
          t = { s with objs := t.objs, lanes := t.lanes, frames := t.frames, wdp := t.wdp, can := t.can, free := t.free, collector := { s.collector with relay := t.collector.relay } }) ∧
    (∀ (o : Origin) (g : Telegram), s.mine o g = true → s.unserved = false → cutOf g = true → s.wdp.tags[tagOf (tgOf g)].state = 0 →
      Completes (.wdpBlockRead o g) s fun t =>
          t.wdp.tags[tagOf (tgOf g)] = ⟨genOf (tgOf g), 2, withData (headOf g) 15 [], o⟩ ∧ (∀ k : Fin 64, k ≠ tagOf (tgOf g) → t.wdp.tags[k] = s.wdp.tags[k]) ∧ replied s t o (tgOf g) (withData (headOf g) 15 []) = true ∧ t.rd 0xC04201 = wrapInc 32 (s.rd 0xC04201) ∧
          KeepsObjs [0xC04201, 0xB00508] s t ∧
          t = { s with objs := t.objs, lanes := t.lanes, frames := t.frames, wdp := t.wdp, can := t.can, free := t.free, collector := { s.collector with relay := t.collector.relay } }) ∧
    (∀ (o : Origin) (g : Telegram), s.mine o g = true → s.unserved = false → cutOf g = true → s.wdp.tags[tagOf (tgOf g)].state = 0 →
      Completes (.wdpBlockWrite o g) s fun t =>
          t.wdp.tags[tagOf (tgOf g)] = ⟨genOf (tgOf g), 2, withData (headOf g) 15 [], o⟩ ∧ (∀ k : Fin 64, k ≠ tagOf (tgOf g) → t.wdp.tags[k] = s.wdp.tags[k]) ∧ replied s t o (tgOf g) (withData (headOf g) 15 []) = true ∧ t.rd 0xC04201 = wrapInc 32 (s.rd 0xC04201) ∧
          KeepsObjs [0xC04201, 0xB00508] s t ∧
          t = { s with objs := t.objs, lanes := t.lanes, frames := t.frames, wdp := t.wdp, can := t.can, free := t.free, collector := { s.collector with relay := t.collector.relay } }) ∧
    (∀ (o : Origin) (g : Telegram), s.mine o g = true → s.unserved = false → cutOf g = true → s.wdp.tags[tagOf (tgOf g)].state = 0 →
      Completes (.wdpState o g) s fun t =>
          t.wdp.tags[tagOf (tgOf g)] = ⟨genOf (tgOf g), 2, withData (headOf g) 15 [], o⟩ ∧ (∀ k : Fin 64, k ≠ tagOf (tgOf g) → t.wdp.tags[k] = s.wdp.tags[k]) ∧ replied s t o (tgOf g) (withData (headOf g) 15 []) = true ∧ t.rd 0xC04201 = wrapInc 32 (s.rd 0xC04201) ∧
          KeepsObjs [0xC04201, 0xB00508] s t ∧
          t = { s with objs := t.objs, lanes := t.lanes, frames := t.frames, wdp := t.wdp, can := t.can, free := t.free, collector := { s.collector with relay := t.collector.relay } }) ∧
    (∀ (o : Origin) (g : Telegram), s.mine o g = true → s.unserved = false → s.wdp.tags[tagOf (tgOf g)].state = 2 → s.wdp.tags[tagOf (tgOf g)].gen = genOf (tgOf g) →
      Completes (.wdpRead o g) s fun t =>
          t.wdp.tags = s.wdp.tags ∧ replied s t o (tgOf g) (s.wdp.tags[tagOf (tgOf g)].resp) = true ∧ t.rd 0xC04202 = wrapInc 32 (s.rd 0xC04202) ∧
          KeepsObjs [0xC04202, 0xB00508] s t ∧
          t = { s with objs := t.objs, lanes := t.lanes, frames := t.frames, wdp := t.wdp, can := t.can, free := t.free, collector := { s.collector with relay := t.collector.relay } }) ∧
    (∀ (o : Origin) (g : Telegram), s.mine o g = true → s.unserved = false → s.wdp.tags[tagOf (tgOf g)].state = 2 → s.wdp.tags[tagOf (tgOf g)].gen = genOf (tgOf g) →
      Completes (.wdpWrite o g) s fun t =>
          t.wdp.tags = s.wdp.tags ∧ replied s t o (tgOf g) (s.wdp.tags[tagOf (tgOf g)].resp) = true ∧ t.rd 0xC04202 = wrapInc 32 (s.rd 0xC04202) ∧
          KeepsObjs [0xC04202, 0xB00508] s t ∧
          t = { s with objs := t.objs, lanes := t.lanes, frames := t.frames, wdp := t.wdp, can := t.can, free := t.free, collector := { s.collector with relay := t.collector.relay } }) ∧
    (∀ (o : Origin) (g : Telegram), s.mine o g = true → s.unserved = false → s.wdp.tags[tagOf (tgOf g)].state = 2 → s.wdp.tags[tagOf (tgOf g)].gen = genOf (tgOf g) →
      Completes (.wdpBlockRead o g) s fun t =>
          t.wdp.tags = s.wdp.tags ∧ replied s t o (tgOf g) (s.wdp.tags[tagOf (tgOf g)].resp) = true ∧ t.rd 0xC04202 = wrapInc 32 (s.rd 0xC04202) ∧
          KeepsObjs [0xC04202, 0xB00508] s t ∧
          t = { s with objs := t.objs, lanes := t.lanes, frames := t.frames, wdp := t.wdp, can := t.can, free := t.free, collector := { s.collector with relay := t.collector.relay } }) ∧
    (∀ (o : Origin) (g : Telegram), s.mine o g = true → s.unserved = false → s.wdp.tags[tagOf (tgOf g)].state = 2 → s.wdp.tags[tagOf (tgOf g)].gen = genOf (tgOf g) →
      Completes (.wdpBlockWrite o g) s fun t =>
          t.wdp.tags = s.wdp.tags ∧ replied s t o (tgOf g) (s.wdp.tags[tagOf (tgOf g)].resp) = true ∧ t.rd 0xC04202 = wrapInc 32 (s.rd 0xC04202) ∧
          KeepsObjs [0xC04202, 0xB00508] s t ∧
          t = { s with objs := t.objs, lanes := t.lanes, frames := t.frames, wdp := t.wdp, can := t.can, free := t.free, collector := { s.collector with relay := t.collector.relay } }) ∧
    (∀ (o : Origin) (g : Telegram), s.mine o g = true → s.unserved = false → s.wdp.tags[tagOf (tgOf g)].state = 2 → s.wdp.tags[tagOf (tgOf g)].gen = genOf (tgOf g) →
      Completes (.wdpState o g) s fun t =>
          t.wdp.tags = s.wdp.tags ∧ replied s t o (tgOf g) (s.wdp.tags[tagOf (tgOf g)].resp) = true ∧ t.rd 0xC04202 = wrapInc 32 (s.rd 0xC04202) ∧
          KeepsObjs [0xC04202, 0xB00508] s t ∧
          t = { s with objs := t.objs, lanes := t.lanes, frames := t.frames, wdp := t.wdp, can := t.can, free := t.free, collector := { s.collector with relay := t.collector.relay } }) ∧
    (∀ (o : Origin) (g : Telegram), s.mine o g = true → s.unserved = false → s.wdp.tags[tagOf (tgOf g)].state = 1 → s.wdp.tags[tagOf (tgOf g)].gen = genOf (tgOf g) →
      Completes (.wdpRead o g) s fun t =>
          t.rd 0xC04202 = wrapInc 32 (s.rd 0xC04202) ∧
          KeepsObjs [0xC04202] s t ∧
          t = { s with objs := t.objs, can := t.can }) ∧
    (∀ (o : Origin) (g : Telegram), s.mine o g = true → s.unserved = false → s.wdp.tags[tagOf (tgOf g)].state = 1 → s.wdp.tags[tagOf (tgOf g)].gen = genOf (tgOf g) →
      Completes (.wdpWrite o g) s fun t =>
          t.rd 0xC04202 = wrapInc 32 (s.rd 0xC04202) ∧
          KeepsObjs [0xC04202] s t ∧
          t = { s with objs := t.objs, can := t.can }) ∧
    (∀ (o : Origin) (g : Telegram), s.mine o g = true → s.unserved = false → s.wdp.tags[tagOf (tgOf g)].state = 1 → s.wdp.tags[tagOf (tgOf g)].gen = genOf (tgOf g) →
      Completes (.wdpBlockRead o g) s fun t =>
          t.rd 0xC04202 = wrapInc 32 (s.rd 0xC04202) ∧
          KeepsObjs [0xC04202] s t ∧
          t = { s with objs := t.objs, can := t.can }) ∧
    (∀ (o : Origin) (g : Telegram), s.mine o g = true → s.unserved = false → s.wdp.tags[tagOf (tgOf g)].state = 1 → s.wdp.tags[tagOf (tgOf g)].gen = genOf (tgOf g) →
      Completes (.wdpBlockWrite o g) s fun t =>
          t.rd 0xC04202 = wrapInc 32 (s.rd 0xC04202) ∧
          KeepsObjs [0xC04202] s t ∧
          t = { s with objs := t.objs, can := t.can }) ∧
    (∀ (o : Origin) (g : Telegram), s.mine o g = true → s.unserved = false → s.wdp.tags[tagOf (tgOf g)].state = 1 → s.wdp.tags[tagOf (tgOf g)].gen = genOf (tgOf g) →
      Completes (.wdpState o g) s fun t =>
          t.rd 0xC04202 = wrapInc 32 (s.rd 0xC04202) ∧
          KeepsObjs [0xC04202] s t ∧
          t = { s with objs := t.objs, can := t.can }) ∧
    (∀ (o : Origin) (g : Telegram), s.mine o g = true → s.unserved = false → cutOf g = false → g.op = 1 → s.wdp.tags[tagOf (tgOf g)].state = 1 → s.wdp.tags[tagOf (tgOf g)].gen ≠ genOf (tgOf g) → s.frames.swarm = [] → g.index.toNat / 4096 ≠ 0xC →
      Completes (.wdpRead o g) s fun t =>
          t.wdp.tags[tagOf (tgOf g)].gen = genOf (tgOf g) ∧ t.wdp.tags[tagOf (tgOf g)].state = 2 ∧ t.rd 0xC04203 = wrapInc 32 (s.rd 0xC04203) ∧ t.rd 0xC04201 = wrapInc 32 (s.rd 0xC04201) ∧ (t.wdp.blocks.any fun b => b.tagGen == s.wdp.tags[tagOf (tgOf g)].gen * 64 + tgOf g % 64) = false ∧
          t = { s with net := t.net, free := t.free, signals := t.signals, objs := t.objs, power := t.power, clock := t.clock, gates := t.gates, carriers := t.carriers, legs := t.legs, guard := t.guard, rails := t.rails, winTrip := t.winTrip, engines := t.engines, modeDone := t.modeDone, charge := t.charge, string := t.string, lanes := t.lanes, lease := t.lease, frames := t.frames, meas := t.meas, thermal := t.thermal, nv := t.nv, jobs := t.jobs, can := t.can, wdp := t.wdp, capture := t.capture, collector := { s.collector with relay := t.collector.relay } }) ∧
    (∀ (o : Origin) (g : Telegram), s.mine o g = true → s.unserved = true →
      Completes (.wdpRead o g) s fun t =>
          busied s t o g = true ∧
          KeepsObjs [0xB00508] s t ∧
          t = { s with objs := t.objs, lanes := t.lanes, frames := t.frames, wdp := t.wdp, can := t.can, free := t.free, collector := { s.collector with relay := t.collector.relay } }) ∧
    (∀ (o : Origin) (g : Telegram), s.mine o g = true → s.unserved = true →
      Completes (.wdpWrite o g) s fun t =>
          busied s t o g = true ∧
          KeepsObjs [0xB00508] s t ∧
          t = { s with objs := t.objs, lanes := t.lanes, frames := t.frames, wdp := t.wdp, can := t.can, free := t.free, collector := { s.collector with relay := t.collector.relay } }) ∧
    (∀ (o : Origin) (g : Telegram), s.mine o g = true → s.unserved = true →
      Completes (.wdpBlockRead o g) s fun t =>
          busied s t o g = true ∧
          KeepsObjs [0xB00508] s t ∧
          t = { s with objs := t.objs, lanes := t.lanes, frames := t.frames, wdp := t.wdp, can := t.can, free := t.free, collector := { s.collector with relay := t.collector.relay } }) ∧
    (∀ (o : Origin) (g : Telegram), s.mine o g = true → s.unserved = true →
      Completes (.wdpBlockWrite o g) s fun t =>
          busied s t o g = true ∧
          KeepsObjs [0xB00508] s t ∧
          t = { s with objs := t.objs, lanes := t.lanes, frames := t.frames, wdp := t.wdp, can := t.can, free := t.free, collector := { s.collector with relay := t.collector.relay } }) ∧
    (∀ (o : Origin) (g : Telegram), s.mine o g = true → s.unserved = true →
      Completes (.wdpState o g) s fun t =>
          busied s t o g = true ∧
          KeepsObjs [0xB00508] s t ∧
          t = { s with objs := t.objs, lanes := t.lanes, frames := t.frames, wdp := t.wdp, can := t.can, free := t.free, collector := { s.collector with relay := t.collector.relay } }) ∧
    (∀ (o : Origin) (g : Telegram), s.mine o g = true → s.unserved = true →
      Completes (.wdpSegment o g) s fun t =>
          busied s t o g = true ∧
          KeepsObjs [0xB00508] s t ∧
          t = { s with objs := t.objs, lanes := t.lanes, frames := t.frames, wdp := t.wdp, can := t.can, free := t.free, collector := { s.collector with relay := t.collector.relay } }) ∧
    (∀ (o : Origin) (g : Telegram), s.mine o g = true → s.unserved = true →
      Completes (.wdpWindow o g) s fun t =>
          busied s t o g = true ∧
          KeepsObjs [0xB00508] s t ∧
          t = { s with objs := t.objs, lanes := t.lanes, frames := t.frames, wdp := t.wdp, can := t.can, free := t.free, collector := { s.collector with relay := t.collector.relay } }) ∧
    (∀ (o : Origin) (g : Telegram), s.mine o g = true → s.unserved = true →
      Completes (.wdpAbort o g) s fun t =>
          busied s t o g = true ∧
          KeepsObjs [0xB00508] s t ∧
          t = { s with objs := t.objs, lanes := t.lanes, frames := t.frames, wdp := t.wdp, can := t.can, free := t.free, collector := { s.collector with relay := t.collector.relay } })

/-- Block transfers, BLOCK_TIMEOUT, ABORT of a transaction. BLOCK_READ answers the size and BLOCK_WRITE with a size that the write's checks accept opens the transaction; the third one at a time answers STATUS 12, a size that is refused its STATUS. The expected segment is appended, every eighth acknowledged, any other answers STATUS 16 with the expected number; the last segment of the announced total makes the write, of another total it answers STATUS 7. A WINDOW gives the segments it asks for (several at once where object 21 sends FD frames); one past the last ends the read, one further answers STATUS 16. A malformed segment or window, or one of another OP, answers 15, a segment from the other channel 8, one without its transaction is counted. BLOCK_TIMEOUT answers STATUS 18; an ABORT of a running transaction by the holder answers 11, of any other 17, by another 8, a malformed one 15. Under hypotheses on the state and the operands alone, exec answers a next state with the command's own effect for: wdpBlockRead, wdpBlockWrite, wdpSegment, wdpWindow, blockTimeout, wdpAbort. (spec/17 R549, R558, R559, R560, R561, R563.) -/
def Obligations.BlocksAreTransferredAndEnd : Prop :=
  ∀ s : State,
    (∀ (o : Origin) (g : Telegram), s.mine o g = true → s.unserved = false → cutOf g = false → s.wdp.tags[tagOf (tgOf g)].state = 0 → g.op = 3 → (s.opened o 6 g).readStatus true g.index.toNat g.sub.toNat = 0 → s.wdp.blocks.length < 2 →
      Completes (.wdpBlockRead o g) s fun t =>
          t.wdp.blocks = s.wdp.blocks ++ ([⟨tgOf g, o, true, g.index.toNat, g.sub.toNat, ((s.opened o 6 g).hostRead true g.index.toNat g.sub.toNat).2.1.length, ((s.opened o 6 g).hostRead true g.index.toNat g.sub.toNat).2.1, 0, s.tick⟩] : List BlockSt) ∧ t.wdp.tags[tagOf (tgOf g)] = ⟨genOf (tgOf g), 1, headOf g, o⟩ ∧ (∀ k : Fin 64, k ≠ tagOf (tgOf g) → t.wdp.tags[k] = s.wdp.tags[k]) ∧ replied s t o (tgOf g) (withData (headOf g) 0 (natLe 4 ((s.opened o 6 g).hostRead true g.index.toNat g.sub.toNat).2.1.length)) = true ∧ KeepsObjs [0xB00508] ((s.opened o 6 g).hostRead true g.index.toNat g.sub.toNat).2.2 t ∧ t = { ((s.opened o 6 g).hostRead true g.index.toNat g.sub.toNat).2.2 with objs := t.objs, lanes := t.lanes, frames := t.frames, wdp := t.wdp, can := t.can, free := t.free, collector := { (((s.opened o 6 g).hostRead true g.index.toNat g.sub.toNat).2.2).collector with relay := t.collector.relay } }) ∧
    (∀ (o : Origin) (g : Telegram), s.mine o g = true → s.unserved = false → cutOf g = false → s.wdp.tags[tagOf (tgOf g)].state = 0 → g.op = 3 → ((s.opened o 6 g).readStatus true g.index.toNat g.sub.toNat ≠ 0 ∨ 2 ≤ s.wdp.blocks.length) →
      Completes (.wdpBlockRead o g) s fun t =>
          t.wdp.tags[tagOf (tgOf g)].state = 2 ∧ t.wdp.tags[tagOf (tgOf g)].resp = withData (headOf g) (if (s.opened o 6 g).readStatus true g.index.toNat g.sub.toNat = 0 then 12 else (s.opened o 6 g).readStatus true g.index.toNat g.sub.toNat) [] ∧ replied s t o (tgOf g) (withData (headOf g) (if (s.opened o 6 g).readStatus true g.index.toNat g.sub.toNat = 0 then 12 else (s.opened o 6 g).readStatus true g.index.toNat g.sub.toNat) []) = true ∧ t.rd 0xC04201 = wrapInc 32 (s.rd 0xC04201) ∧ t.wdp.blocks = s.wdp.blocks ∧
          KeepsObjs [0xC04201, 0xB00508] s t ∧
          t = { s with objs := t.objs, lanes := t.lanes, frames := t.frames, wdp := t.wdp, can := t.can, free := t.free, collector := { s.collector with relay := t.collector.relay } }) ∧
    (∀ (o : Origin) (g : Telegram), s.mine o g = true → s.unserved = false → cutOf g = false → s.wdp.tags[tagOf (tgOf g)].state = 0 → g.op = 4 → (g.index ≠ 0xE010 ∨ g.sub ≠ 1) → 4 ≤ (datOf g).length → s.writePre (s.fromHolder o) g.index.toNat g.sub.toNat (leAt (datOf g) 0 4) = 0 → s.wdp.blocks.length < 2 →
      Completes (.wdpBlockWrite o g) s fun t =>
          t.wdp.blocks = s.wdp.blocks ++ ([⟨tgOf g, o, false, g.index.toNat, g.sub.toNat, leAt (datOf g) 0 4, [], 0, s.tick⟩] : List BlockSt) ∧ t.wdp.tags[tagOf (tgOf g)] = ⟨genOf (tgOf g), 1, headOf g, o⟩ ∧ (∀ k : Fin 64, k ≠ tagOf (tgOf g) → t.wdp.tags[k] = s.wdp.tags[k]) ∧ t.rd 0xC04201 = wrapInc 32 (s.rd 0xC04201) ∧ replied s t o (tgOf g) (withData (headOf g) 0 []) = true ∧
          KeepsObjs [0xC04201, 0xB00508] s t ∧
          t = { s with objs := t.objs, lanes := t.lanes, frames := t.frames, wdp := t.wdp, can := t.can, free := t.free, collector := { s.collector with relay := t.collector.relay } }) ∧
    (∀ (o : Origin) (g : Telegram), s.mine o g = true → s.unserved = false → cutOf g = false → s.wdp.tags[tagOf (tgOf g)].state = 0 → g.op = 4 → (g.index ≠ 0xE010 ∨ g.sub ≠ 1) → ((datOf g).length < 4 ∨ s.writePre (s.fromHolder o) g.index.toNat g.sub.toNat (leAt (datOf g) 0 4) ≠ 0 ∨ 2 ≤ s.wdp.blocks.length) →
      Completes (.wdpBlockWrite o g) s fun t =>
          t.wdp.tags[tagOf (tgOf g)].state = 2 ∧ t.wdp.tags[tagOf (tgOf g)].resp = withData (headOf g) (if (datOf g).length < 4 then 15 else if s.writePre (s.fromHolder o) g.index.toNat g.sub.toNat (leAt (datOf g) 0 4) = 0 then 12 else s.writePre (s.fromHolder o) g.index.toNat g.sub.toNat (leAt (datOf g) 0 4)) [] ∧ replied s t o (tgOf g) (withData (headOf g) (if (datOf g).length < 4 then 15 else if s.writePre (s.fromHolder o) g.index.toNat g.sub.toNat (leAt (datOf g) 0 4) = 0 then 12 else s.writePre (s.fromHolder o) g.index.toNat g.sub.toNat (leAt (datOf g) 0 4)) []) = true ∧ t.rd 0xC04201 = wrapInc 32 (s.rd 0xC04201) ∧ t.wdp.blocks = s.wdp.blocks ∧
          KeepsObjs [0xC04201, 0xB00508] s t ∧
          t = { s with objs := t.objs, lanes := t.lanes, frames := t.frames, wdp := t.wdp, can := t.can, free := t.free, collector := { s.collector with relay := t.collector.relay } }) ∧
    (∀ (o : Origin) (g : Telegram) (b : BlockSt), s.mine o g = true → s.unserved = false → cutOf g = false → g.op = 0x10 → s.fromHolder o = true → 1 ≤ g.len.toNat → g.len.toNat ≤ 56 → ((s.wdp.blocks.find? fun x => x.tagGen == tgOf g && !x.read) = some b) → b.index ≠ 0xE010 → g.seg.toNat = b.next % 256 → bit g.status.toNat 0 = false →
      Completes (.wdpSegment o g) s fun t =>
          (t.wdp.blocks.all fun x => x.tagGen != tgOf g || x == { b with lastAt := s.tick, next := b.next + 1, data := b.data ++ datOf g }) = true ∧ t.wdp.tags = s.wdp.tags ∧ ((b.next + 1) % 8 = 0 → replied s t b.origin b.tagGen (telBytes b.tagGen 0x12 0 b.index b.sub ((b.next + 1) % 256) []) = true) ∧
          KeepsObjs [0xB00508] s t ∧
          t = { s with objs := t.objs, lanes := t.lanes, frames := t.frames, wdp := t.wdp, can := t.can, free := t.free, collector := { s.collector with relay := t.collector.relay } }) ∧
    (∀ (o : Origin) (g : Telegram) (b : BlockSt), s.mine o g = true → s.unserved = false → cutOf g = false → g.op = 0x10 → s.fromHolder o = true → 1 ≤ g.len.toNat → g.len.toNat ≤ 56 → ((s.wdp.blocks.find? fun x => x.tagGen == tgOf g && !x.read) = some b) → g.seg.toNat ≠ b.next % 256 →
      Completes (.wdpSegment o g) s fun t =>
          t.wdp.blocks = s.wdp.blocks.map (fun x => if x.tagGen = tgOf g then { x with lastAt := s.tick } else x) ∧ t.wdp.tags = s.wdp.tags ∧ replied s t b.origin b.tagGen (telBytes b.tagGen 0x12 16 b.index b.sub (b.next % 256) []) = true ∧
          KeepsObjs [0xB00508] s t ∧
          t = { s with objs := t.objs, lanes := t.lanes, frames := t.frames, wdp := t.wdp, can := t.can, free := t.free, collector := { s.collector with relay := t.collector.relay } }) ∧
    (∀ (o : Origin) (g : Telegram) (b : BlockSt), s.mine o g = true → s.unserved = false → cutOf g = false → g.op = 0x10 → s.fromHolder o = true → 1 ≤ g.len.toNat → g.len.toNat ≤ 56 → ((s.wdp.blocks.find? fun x => x.tagGen == tgOf g && !x.read) = some b) → b.index ≠ 0xE010 → g.seg.toNat = b.next % 256 → bit g.status.toNat 0 = true → (b.data.length + (datOf g).length) ≠ b.size →
      Completes (.wdpSegment o g) s fun t =>
          t.wdp.blocks = s.wdp.blocks.filter (fun x => x.tagGen != b.tagGen) ∧ t.wdp.tags[tagOf b.tagGen].state = 2 ∧ t.wdp.tags[tagOf b.tagGen].resp = b.response 7 [] ∧
          KeepsObjs [0xB00508] s t ∧
          t = { s with objs := t.objs, lanes := t.lanes, frames := t.frames, wdp := t.wdp, can := t.can, free := t.free, collector := { s.collector with relay := t.collector.relay } }) ∧
    (∀ (o : Origin) (g : Telegram) (b : BlockSt), s.mine o g = true → s.unserved = false → cutOf g = false → g.op = 0x10 → s.fromHolder o = true → 1 ≤ g.len.toNat → g.len.toNat ≤ 56 → ((s.wdp.blocks.find? fun x => x.tagGen == tgOf g && !x.read) = some b) → b.index ≠ 0xE010 → g.seg.toNat = b.next % 256 → bit g.status.toNat 0 = true → (b.data.length + (datOf g).length) = b.size → b.index ≠ 0x1001 → b.index ≠ 0xE011 →
      Completes (.wdpSegment o g) s fun t =>
          t.wdp.blocks = s.wdp.blocks.filter (fun x => x.tagGen != b.tagGen) ∧ t.wdp.tags[tagOf b.tagGen].state = 2 ∧ t.wdp.tags[tagOf b.tagGen].resp = withData (b.response 0 []) (((s.taken o 8 [g.node.toNat]).modWdp fun w => { w with blocks := s.wdp.blocks.filter fun x => x.tagGen != b.tagGen }).hostWrite (s.fromHolder b.origin) b.index b.sub (b.data ++ datOf g)).1 [] ∧ KeepsObjs [0xB00508] (((s.taken o 8 [g.node.toNat]).modWdp fun w => { w with blocks := s.wdp.blocks.filter fun x => x.tagGen != b.tagGen }).hostWrite (s.fromHolder b.origin) b.index b.sub (b.data ++ datOf g)).2 t ∧ t = { (((s.taken o 8 [g.node.toNat]).modWdp fun w => { w with blocks := s.wdp.blocks.filter fun x => x.tagGen != b.tagGen }).hostWrite (s.fromHolder b.origin) b.index b.sub (b.data ++ datOf g)).2 with objs := t.objs, lanes := t.lanes, frames := t.frames, wdp := t.wdp, can := t.can, free := t.free, collector := { ((((s.taken o 8 [g.node.toNat]).modWdp fun w => { w with blocks := s.wdp.blocks.filter fun x => x.tagGen != b.tagGen }).hostWrite (s.fromHolder b.origin) b.index b.sub (b.data ++ datOf g)).2).collector with relay := t.collector.relay } }) ∧
    (∀ (o : Origin) (g : Telegram), s.mine o g = true → s.unserved = false → (cutOf g = true ∨ (g.op ≠ 0x10 ∧ g.op ≠ 0x11)) →
      Completes (.wdpSegment o g) s fun t =>
          replied s t o (tgOf g) (responseTo g 15 []) = true ∧ t.wdp.blocks = s.wdp.blocks ∧ t.wdp.tags = s.wdp.tags ∧
          KeepsObjs [0xB00508] s t ∧
          t = { s with objs := t.objs, lanes := t.lanes, frames := t.frames, wdp := t.wdp, can := t.can, free := t.free, collector := { s.collector with relay := t.collector.relay } }) ∧
    (∀ (o : Origin) (g : Telegram), s.mine o g = true → s.unserved = false → cutOf g = false → g.op = 0x10 → s.fromHolder o = true → ((s.wdp.blocks.find? fun x => x.tagGen == tgOf g && !x.read).isSome = true) → (g.len = 0 ∨ 56 < g.len.toNat) →
      Completes (.wdpSegment o g) s fun t =>
          replied s t o (tgOf g) (responseTo g 15 []) = true ∧ t.wdp.blocks = s.wdp.blocks ∧ t.wdp.tags = s.wdp.tags ∧
          KeepsObjs [0xB00508] s t ∧
          t = { s with objs := t.objs, lanes := t.lanes, frames := t.frames, wdp := t.wdp, can := t.can, free := t.free, collector := { s.collector with relay := t.collector.relay } }) ∧
    (∀ (o : Origin) (g : Telegram), s.mine o g = true → s.unserved = false → cutOf g = false → g.op = 0x10 → s.fromHolder o = false → ((s.wdp.blocks.find? fun x => x.tagGen == tgOf g && !x.read).isSome = true) →
      Completes (.wdpSegment o g) s fun t =>
          replied s t o (tgOf g) (responseTo g 8 []) = true ∧ t.wdp.blocks = s.wdp.blocks ∧ t.wdp.tags = s.wdp.tags ∧
          KeepsObjs [0xB00508] s t ∧
          t = { s with objs := t.objs, lanes := t.lanes, frames := t.frames, wdp := t.wdp, can := t.can, free := t.free, collector := { s.collector with relay := t.collector.relay } }) ∧
    (∀ (o : Origin) (g : Telegram), s.mine o g = true → s.unserved = false → cutOf g = false → g.op = 0x10 → ((s.wdp.blocks.find? fun x => x.tagGen == tgOf g && !x.read) = none) →
      Completes (.wdpSegment o g) s fun t =>
          t.rd 0xC04204 = wrapInc 32 (s.rd 0xC04204) ∧
          KeepsObjs [0xC04204] s t ∧
          t = { s with objs := t.objs, can := t.can }) ∧
    (∀ (o : Origin) (g : Telegram) (b : BlockSt), s.mine o g = true → s.unserved = false → cutOf g = false → g.op = 0x11 → 1 ≤ g.len.toNat → 1 ≤ byteAt (datOf g) 0 → byteAt (datOf g) 0 ≤ 8 → ((s.wdp.blocks.find? fun x => x.tagGen == tgOf g && x.read) = some b) → (g.seg.toNat < (ceilDiv b.size 56) ∧ ¬((ceilDiv b.size 56) = 256 ∧ g.seg = 0 ∧ b.next = 256)) → b.tagGen = tgOf g →
      Completes (.wdpWindow o g) s fun t =>
          t.wdp.blocks = s.wdp.blocks.map (fun x => if x.tagGen = tgOf g then { x with lastAt := s.tick, next := max b.next (min (g.seg.toNat + byteAt (datOf g) 0) (ceilDiv b.size 56)) } else x) ∧ t.wdp.tags = s.wdp.tags ∧
          (byteAt (datOf g) 0 = 1 ∨ (match b.origin with | .can u => s.canMode u 1 && isValid (s.msg u 21) && isTx (s.msg u 21) | .dict _ _ _ => true) = true → ((List.range (min (byteAt (datOf g) 0) ((ceilDiv b.size 56) - g.seg.toNat))).all fun i => replied s t b.origin b.tagGen (telBytes b.tagGen 0x10 (if g.seg.toNat + i + 1 = (ceilDiv b.size 56) then 1 else 0) b.index b.sub (g.seg.toNat + i) ((b.data.drop (56 * (g.seg.toNat + i))).take 56))) = true) ∧
          KeepsObjs [0xB00508] s t ∧
          t = { s with objs := t.objs, lanes := t.lanes, frames := t.frames, wdp := t.wdp, can := t.can, free := t.free, collector := { s.collector with relay := t.collector.relay } }) ∧
    (∀ (o : Origin) (g : Telegram) (b : BlockSt), s.mine o g = true → s.unserved = false → cutOf g = false → g.op = 0x11 → 1 ≤ g.len.toNat → 1 ≤ byteAt (datOf g) 0 → byteAt (datOf g) 0 ≤ 8 → ((s.wdp.blocks.find? fun x => x.tagGen == tgOf g && x.read) = some b) → (g.seg.toNat = (ceilDiv b.size 56) ∨ ((ceilDiv b.size 56) = 256 ∧ g.seg = 0 ∧ b.next = 256)) →
      Completes (.wdpWindow o g) s fun t =>
          t.wdp.blocks = s.wdp.blocks.filter (fun x => x.tagGen != b.tagGen) ∧ t.wdp.tags[tagOf (tgOf g)].state = 2 ∧ t.wdp.tags[tagOf (tgOf g)].resp = b.response 0 (natLe 4 b.size) ∧
          t = { s with can := t.can, wdp := t.wdp, free := t.free, collector := { s.collector with relay := t.collector.relay } }) ∧
    (∀ (o : Origin) (g : Telegram) (b : BlockSt), s.mine o g = true → s.unserved = false → cutOf g = false → g.op = 0x11 → 1 ≤ g.len.toNat → 1 ≤ byteAt (datOf g) 0 → byteAt (datOf g) 0 ≤ 8 → ((s.wdp.blocks.find? fun x => x.tagGen == tgOf g && x.read) = some b) → (ceilDiv b.size 56) < g.seg.toNat →
      Completes (.wdpWindow o g) s fun t =>
          replied s t o (tgOf g) (responseTo g 16 []) = true ∧ t.wdp.tags = s.wdp.tags ∧
          KeepsObjs [0xB00508] s t ∧
          t = { s with objs := t.objs, lanes := t.lanes, frames := t.frames, wdp := t.wdp, can := t.can, free := t.free, collector := { s.collector with relay := t.collector.relay } }) ∧
    (∀ (o : Origin) (g : Telegram), s.mine o g = true → s.unserved = false → (cutOf g = true ∨ (g.op ≠ 0x10 ∧ g.op ≠ 0x11)) →
      Completes (.wdpWindow o g) s fun t =>
          replied s t o (tgOf g) (responseTo g 15 []) = true ∧ t.wdp.blocks = s.wdp.blocks ∧ t.wdp.tags = s.wdp.tags ∧
          KeepsObjs [0xB00508] s t ∧
          t = { s with objs := t.objs, lanes := t.lanes, frames := t.frames, wdp := t.wdp, can := t.can, free := t.free, collector := { s.collector with relay := t.collector.relay } }) ∧
    (∀ (o : Origin) (g : Telegram), s.mine o g = true → s.unserved = false → cutOf g = false → g.op = 0x11 → ((s.wdp.blocks.find? fun x => x.tagGen == tgOf g && x.read).isSome = true) → (g.len = 0 ∨ byteAt (datOf g) 0 = 0 ∨ 8 < byteAt (datOf g) 0) →
      Completes (.wdpWindow o g) s fun t =>
          replied s t o (tgOf g) (responseTo g 15 []) = true ∧ t.wdp.blocks = s.wdp.blocks ∧ t.wdp.tags = s.wdp.tags ∧
          KeepsObjs [0xB00508] s t ∧
          t = { s with objs := t.objs, lanes := t.lanes, frames := t.frames, wdp := t.wdp, can := t.can, free := t.free, collector := { s.collector with relay := t.collector.relay } }) ∧
    (∀ (o : Origin) (g : Telegram), s.mine o g = true → s.unserved = false → cutOf g = false → g.op = 0x11 → ((s.wdp.blocks.find? fun x => x.tagGen == tgOf g && x.read) = none) →
      Completes (.wdpWindow o g) s fun t =>
          t.rd 0xC04204 = wrapInc 32 (s.rd 0xC04204) ∧
          KeepsObjs [0xC04204] s t ∧
          t = { s with objs := t.objs, can := t.can }) ∧
    (∀ (g : Byte) (b : BlockSt), s.blockOf g.toNat = some b → b.index ≠ 0xE010 →
      Completes (.blockTimeout g) s fun t =>
          t.tick = max s.tick (b.lastAt + msTicks (s.rd 0xC04102)) ∧ t.wdp.blocks = s.wdp.blocks.filter (fun x => x.tagGen != b.tagGen) ∧ t.wdp.tags[tagOf b.tagGen].state = 2 ∧ t.wdp.tags[tagOf b.tagGen].resp = b.response 18 [] ∧
          KeepsObjs [0xB00508] s t ∧
          t = { s with objs := t.objs, lanes := t.lanes, frames := t.frames, wdp := t.wdp, can := t.can, free := t.free, tick := t.tick, net := t.net, collector := { s.collector with relay := t.collector.relay } }) ∧
    (∀ (g : Byte) (b : BlockSt), s.blockOf g.toNat = some b → b.index = 0xE010 → s.jobs.waiting = [] →
      Completes (.blockTimeout g) s fun t =>
          t.tick = max s.tick (b.lastAt + msTicks (s.rd 0xC04102)) ∧ t.wdp.blocks = s.wdp.blocks.filter (fun x => x.tagGen != b.tagGen) ∧ t.wdp.tags[tagOf b.tagGen].state = 2 ∧ t.wdp.tags[tagOf b.tagGen].resp = b.response 18 [] ∧ (b.read = false → s.rd 0xE01102 = 1 → t.rd 0xE01102 = 6) ∧
          t = { s with net := t.net, free := t.free, signals := t.signals, objs := t.objs, power := t.power, clock := t.clock, gates := t.gates, carriers := t.carriers, legs := t.legs, guard := t.guard, rails := t.rails, winTrip := t.winTrip, engines := t.engines, modeDone := t.modeDone, charge := t.charge, string := t.string, lanes := t.lanes, lease := t.lease, frames := t.frames, meas := t.meas, thermal := t.thermal, nv := t.nv, jobs := t.jobs, can := t.can, wdp := t.wdp, capture := t.capture, tick := t.tick, collector := { s.collector with relay := t.collector.relay } }) ∧
    (∀ (g : Byte), s.blockOf g.toNat = none →
      Completes (.blockTimeout g) s fun t =>
          t = s) ∧
    (∀ (o : Origin) (g : Telegram), s.mine o g = true → s.unserved = false → cutOf g = false → g.op = 6 → s.fromHolder o = true → s.running (tgOf g) = true → s.frames.swarm = [] →
      Completes (.wdpAbort o g) s fun t =>
          t.wdp.tags[tagOf (tgOf g)].state = 2 ∧ t.wdp.tags[tagOf (tgOf g)].resp = withStatus s.wdp.tags[tagOf (tgOf g)].resp 11 ∧ replied s t o (tgOf g) (responseTo g 11 []) = true ∧ (t.wdp.blocks.any fun b => b.tagGen == tgOf g) = false ∧ (t.power.chargeReply.any fun w => w.1 == tgOf g) = false ∧ t.tick = s.tick ∧
          t = { s with objs := t.objs, lanes := t.lanes, frames := t.frames, wdp := t.wdp, can := t.can, free := t.free, nv := t.nv, jobs := t.jobs, power := t.power, rails := t.rails, capture := t.capture, collector := { s.collector with relay := t.collector.relay } }) ∧
    (∀ (o : Origin) (g : Telegram), s.mine o g = true → s.unserved = false → (cutOf g = true ∨ g.op ≠ 6 ∨ s.fromHolder o = false ∨ s.running (tgOf g) = false) →
      Completes (.wdpAbort o g) s fun t =>
          t.wdp.tags = s.wdp.tags ∧ replied s t o (tgOf g) (responseTo g (if cutOf g = true ∨ g.op ≠ 6 then 15 else if s.fromHolder o = false then 8 else 17) []) = true ∧
          KeepsObjs [0xB00508] s t ∧
          t = { s with objs := t.objs, lanes := t.lanes, frames := t.frames, wdp := t.wdp, can := t.can, free := t.free, collector := { s.collector with relay := t.collector.relay } })

/-- SAFE and LEASE telegrams. A SAFE telegram of the CAN holder puts a device that operates into SAFE with cause 6, in BOOT, HATCH and COCOON it makes the cause pending, in SAFE and LOCKOUT it does nothing; a manager with a Supervisor passes one for node 0 on as a SWARM of CMD SAFE; one from the other channel is ignored and counted. RENEW by the holder, or of a lapsed lease, starts the lease anew; RELEASE hands it to the other channel where that is GOOD and lets it lapse otherwise; REVERT hands it to a GOOD channel; what they do not name or must not have is ignored and counted, and so is all while PSEL_N is low. A telegram for another node or of another ACTION does nothing. Under hypotheses on the state and the operands alone, exec answers a next state with the command's own effect for: wdpSafe, wdpLeaseRenew, wdpLeaseRelease, wdpLeaseRevert. (spec/04 R106; spec/15 R496, R497, R500; spec/17 R545, R564, R565.) -/
def Obligations.SafeAndLeaseTelegramsAct : Prop :=
  ∀ s : State,
    (∀ (u : Fin 2) (g : Telegram), s.power.bootLoader = false → s.reaches g.node.toNat = true → s.fromHolder (.can u) = true → (s.manager = false ∨ g.node ≠ 0 ∨ s.unserved = true) → (s.dev = 2 ∨ s.dev = 3 ∨ s.dev = 4) →
      Completes (.wdpSafe u g) s fun t =>
          t.dev = 6 ∧ t.rd kSafeCause = 6 ∧ t.tick = s.tick ∧
          t = { s with objs := t.objs, power := t.power, gates := t.gates, carriers := t.carriers, legs := t.legs, guard := t.guard, rails := t.rails, engines := t.engines, charge := t.charge, string := t.string, thermal := t.thermal, can := t.can, free := t.free, modeDone := t.modeDone, clock := { s.clock with lines := t.clock.lines } }) ∧
    (∀ (u : Fin 2) (g : Telegram), s.power.bootLoader = false → s.reaches g.node.toNat = true → s.fromHolder (.can u) = true → (s.manager = false ∨ g.node ≠ 0 ∨ s.unserved = true) → (s.dev = 0 ∨ s.dev = 1 ∨ s.dev = 5) →
      Completes (.wdpSafe u g) s fun t =>
          t.bitAt kFlags 1 = true ∧ (s.bitAt kFlags 1 = false → t.power.pendingCause = 6) ∧ (s.bitAt kFlags 1 = true → t.power = s.power) ∧
          KeepsObjs [kFlags] s t ∧
          t = { s with objs := t.objs, power := t.power, can := t.can }) ∧
    (∀ (u : Fin 2) (g : Telegram), s.power.bootLoader = false → s.reaches g.node.toNat = true → s.fromHolder (.can u) = true → (s.manager = false ∨ g.node ≠ 0 ∨ s.unserved = true) → (s.dev = 6 ∨ s.dev = 7) →
      Completes (.wdpSafe u g) s fun t =>
          t = s.taken (.can u) 0 [g.node.toNat]) ∧
    (∀ (u : Fin 2) (g : Telegram) (p : Nat), s.power.bootLoader = false → s.reaches g.node.toNat = true → s.fromHolder (.can u) = true → s.manager = true → g.node = 0 → s.unserved = false → (s.dev = 2 ∨ s.dev = 3 ∨ s.dev = 4) → s.frames.swarm = [] → min 32 (s.rd 0xB03004) = p + 1 → 1 ≤ p →
      Completes (.wdpSafe u g) s fun t =>
          t.dev = 6 ∧ t.rd kSafeCause = 6 ∧ (t.frames.swarm.map fun w => (w.at_, w.answered, w.telegram.op, w.telegram.data)) = ([(p, false, 5#8, [4#8])] : List (Nat × Bool × Byte × Bytes)) ∧
          t = { s with objs := t.objs, power := t.power, gates := t.gates, carriers := t.carriers, legs := t.legs, guard := t.guard, rails := t.rails, engines := t.engines, charge := t.charge, string := t.string, thermal := t.thermal, can := t.can, free := t.free, modeDone := t.modeDone, frames := t.frames, lanes := t.lanes, clock := { s.clock with lines := t.clock.lines } }) ∧
    (∀ (u : Fin 2) (g : Telegram), s.power.bootLoader = false → s.reaches g.node.toNat = true → s.fromHolder (.can u) = false →
      Completes (.wdpSafe u g) s fun t =>
          t.rd 0xB0200B = wrapInc 32 (s.rd 0xB0200B) ∧
          KeepsObjs [0xB0200B] s t ∧
          t = { s with objs := t.objs, can := t.can }) ∧
    (∀ (u : Fin 2) (g : Telegram), (s.power.bootLoader = true ∨ s.reaches g.node.toNat = false) →
      Completes (.wdpSafe u g) s fun t =>
          t = s.taken (.can u) 0 [g.node.toNat]) ∧
    (∀ (u : Fin 2) (g : Telegram), s.power.bootLoader = false → s.reaches g.node.toNat = true → g.tagGen = 0 → s.pselLow = false → (s.rd 0xB02002 = u.val ∨ s.bitAt 0xB02003 3 = true) →
      Completes (.wdpLeaseRenew u g) s fun t =>
          t.rd 0xB02002 = u.val ∧ t.bitAt 0xB02003 3 = false ∧ t.lease.canUntil = (if s.rd 0xB0210B = 0 then none else some (s.tick + msTicks (s.rd 0xB0210B))) ∧
          KeepsObjs [0xB02002, 0xB02003] s t ∧
          KeepsOtherAreas [0xB, 0xA] s t ∧
          t = { s with objs := t.objs, rails := t.rails, lease := t.lease, can := t.can }) ∧
    (∀ (u : Fin 2) (g : Telegram), s.power.bootLoader = false → s.reaches g.node.toNat = true → g.tagGen = 0 → (s.pselLow = true ∨ (s.rd 0xB02002 ≠ u.val ∧ s.bitAt 0xB02003 3 = false)) →
      Completes (.wdpLeaseRenew u g) s fun t =>
          t.rd 0xB0200B = wrapInc 32 (s.rd 0xB0200B) ∧
          KeepsObjs [0xB0200B] s t ∧
          t = { s with objs := t.objs, can := t.can }) ∧
    (∀ (u : Fin 2) (g : Telegram), s.power.bootLoader = false → s.reaches g.node.toNat = true → g.tagGen = 1 → s.pselLow = false → s.rd 0xB02002 = g.op.toNat → g.op.toNat ≤ 1 →
      Completes (.wdpLeaseRelease u g) s fun t =>
          (s.rd (0xB02211 + (1 - g.op.toNat)) = 3 → t.rd 0xB02002 = 1 - g.op.toNat ∧ t.bitAt 0xB02003 3 = false ∧ t.rd 0xB02009 = wrapInc 32 (s.rd 0xB02009)) ∧ (s.rd (0xB02211 + (1 - g.op.toNat)) ≠ 3 → t.bitAt 0xB02003 3 = true ∧ t.rd 0xB02002 = s.rd 0xB02002 ∧ t.lease.canUntil = none) ∧
          KeepsObjs [0xB02002, 0xB02003, 0xB02009] s t ∧
          t = { s with objs := t.objs, rails := t.rails, lease := t.lease, can := t.can }) ∧
    (∀ (u : Fin 2) (g : Telegram), s.power.bootLoader = false → s.reaches g.node.toNat = true → g.tagGen = 1 → s.pselLow = false → s.rd 0xB02002 ≠ g.op.toNat →
      Completes (.wdpLeaseRelease u g) s fun t =>
          t = s.taken (.can u) 1 [g.node.toNat]) ∧
    (∀ (u : Fin 2) (g : Telegram), s.power.bootLoader = false → s.reaches g.node.toNat = true → g.tagGen = 2 → s.pselLow = false → g.op.toNat ≤ 1 → s.rd (0xB02211 + g.op.toNat) = 3 →
      Completes (.wdpLeaseRevert u g) s fun t =>
          t.rd 0xB02002 = g.op.toNat ∧ t.bitAt 0xB02003 3 = false ∧
          KeepsObjs [0xB02002, 0xB02003] s t ∧
          t = { s with objs := t.objs, rails := t.rails, lease := t.lease, can := t.can }) ∧
    (∀ (u : Fin 2) (g : Telegram), s.power.bootLoader = false → s.reaches g.node.toNat = true → g.tagGen = 1 → s.pselLow = true →
      Completes (.wdpLeaseRelease u g) s fun t =>
          t.rd 0xB0200B = wrapInc 32 (s.rd 0xB0200B) ∧
          KeepsObjs [0xB0200B] s t ∧
          t = { s with objs := t.objs, can := t.can }) ∧
    (∀ (u : Fin 2) (g : Telegram), s.power.bootLoader = false → s.reaches g.node.toNat = true → g.tagGen = 2 → (s.pselLow = true ∨ 1 < g.op.toNat ∨ s.rd (0xB02211 + g.op.toNat) ≠ 3) →
      Completes (.wdpLeaseRevert u g) s fun t =>
          t.rd 0xB0200B = wrapInc 32 (s.rd 0xB0200B) ∧
          KeepsObjs [0xB0200B] s t ∧
          t = { s with objs := t.objs, can := t.can }) ∧
    (∀ (u : Fin 2) (g : Telegram), (s.power.bootLoader = true ∨ s.reaches g.node.toNat = false ∨ g.tagGen ≠ 0) →
      Completes (.wdpLeaseRenew u g) s fun t =>
          t = s.taken (.can u) 1 [g.node.toNat]) ∧
    (∀ (u : Fin 2) (g : Telegram), (s.power.bootLoader = true ∨ s.reaches g.node.toNat = false ∨ g.tagGen ≠ 1) →
      Completes (.wdpLeaseRelease u g) s fun t =>
          t = s.taken (.can u) 1 [g.node.toNat]) ∧
    (∀ (u : Fin 2) (g : Telegram), (s.power.bootLoader = true ∨ s.reaches g.node.toNat = false ∨ g.tagGen ≠ 2) →
      Completes (.wdpLeaseRevert u g) s fun t =>
          t = s.taken (.can u) 1 [g.node.toNat])

/-- Cyclic command, cyclic status, TIME. A cyclic command of the holder and of the map's length writes the objects of the map in order and counts the writes refused; one of another length or from the other channel writes nothing and counts; without a Supervisor and in BOOT it does nothing. At every multiple of STATUS_PERIOD, once, the status telegram carries the mapped objects in object 23 of the holding controller; at every multiple of TIME_PERIOD a TIME telegram carries its SEQ, validity and the network time of the previous one; neither is sent with period 0 or by a device that does not speak. Under hypotheses on the state and the operands alone, exec answers a next state with the command's own effect for: wdpCyclicCommand, cyclicStatusSend, timeTelegramSend. (spec/15 R496; spec/16 R526; spec/17 R569, R570, R571.) -/
def Obligations.CyclicAndTimeTelegrams : Prop :=
  ∀ s : State,
    (∀ (u : Fin 2) (d : Bytes), s.unserved = false → s.power.bootLoader = false → s.dev ≠ 0 → s.fromHolder (.can u) = true → d.length = mapTotal (s.cyclicMap 0xC043) →
      Completes (.wdpCyclicCommand u d) s fun t =>
          t = ((s.cyclicMap 0xC043).foldl (fun (x : State × Bytes) e => (let r := x.1.hostWrite true (entryIndex e) (entrySub e) (x.2.take (entrySize e)); if r.1 = 0 then r.2 else r.2.count 0xC04205, x.2.drop (entrySize e))) ((s.taken (.can u) 3 [s.node, 0]), d)).1) ∧
    (∀ (u : Fin 2) (d : Bytes), s.unserved = false → s.power.bootLoader = false → s.dev ≠ 0 → s.fromHolder (.can u) = true → d.length ≠ mapTotal (s.cyclicMap 0xC043) →
      Completes (.wdpCyclicCommand u d) s fun t =>
          t.rd 0xC04204 = wrapInc 32 (s.rd 0xC04204) ∧
          KeepsObjs [0xC04204] s t ∧
          t = { s with objs := t.objs, can := t.can }) ∧
    (∀ (u : Fin 2) (d : Bytes), s.unserved = false → s.power.bootLoader = false → s.dev ≠ 0 → s.fromHolder (.can u) = false →
      Completes (.wdpCyclicCommand u d) s fun t =>
          t.rd 0xB0200B = wrapInc 32 (s.rd 0xB0200B) ∧
          KeepsObjs [0xB0200B] s t ∧
          t = { s with objs := t.objs, can := t.can }) ∧
    (∀ (u : Fin 2) (d : Bytes), (s.unserved = true ∨ s.power.bootLoader = true ∨ s.dev = 0) →
      Completes (.wdpCyclicCommand u d) s fun t =>
          t = s) ∧
    (∀ (e : Nat), s.rd 0xC04103 ≠ 0 → s.speaks = true → s.cyclicMap 0xC044 = [e] → entryIndex e = 0x1000 → entrySub e = 2 →
      Completes (.cyclicStatusSend) s fun t =>
          (t.msg s.canHolder 23).ident % 2048 = (5 * 128 + s.node) % 2048 ∧ (t.msg s.canHolder 23).data = pad64 (natLe 1 (s.value 0x100002)) ∧ (0 < s.inc → s.netUnits + s.rd 0xC04103 * 1000000 * 2 ^ 32 + s.inc < 2 ^ 64 * secUnits → t.netUnits % (s.rd 0xC04103 * 1000000 * 2 ^ 32) < s.inc * (if s.netCoarse then 4 else 1)) ∧ s.tick ≤ t.tick ∧ t.wdp = { s.wdp with statusAt := some (s.multipleDue (s.rd 0xC04103) s.wdp.statusAt) } ∧
          t = { s with can := t.can, tick := t.tick, net := t.net, free := t.free, wdp := t.wdp, collector := { s.collector with relay := t.collector.relay } }) ∧
    (s.rd 0xC04103 ≠ 0 → s.speaks = true →
      Completes (.cyclicStatusSend) s fun t =>
          (t.msg (s.toMultiple (s.rd 0xC04103) s.wdp.statusAt).canHolder 23).ident % 2048 = (5 * 128 + s.node) % 2048 ∧ (t.msg (s.toMultiple (s.rd 0xC04103) s.wdp.statusAt).canHolder 23).data = pad64 ((s.toMultiple (s.rd 0xC04103) s.wdp.statusAt).cyclicReads (s.cyclicMap 0xC044)).1 ∧ t.tick = (s.toMultiple (s.rd 0xC04103) s.wdp.statusAt).tick ∧ t.net = (s.toMultiple (s.rd 0xC04103) s.wdp.statusAt).net ∧ t.wdp.statusAt = some (s.multipleDue (s.rd 0xC04103) s.wdp.statusAt) ∧
          t = { s with objs := t.objs, can := t.can, tick := t.tick, net := t.net, free := t.free, capture := t.capture, rails := t.rails, wdp := t.wdp, collector := { s.collector with relay := t.collector.relay } }) ∧
    ((s.rd 0xC04103 = 0 ∨ s.speaks = false) →
      Completes (.cyclicStatusSend) s fun t =>
          t = s) ∧
    (s.rd 0xC04104 ≠ 0 → s.manager = true → s.speaks = true →
      Completes (.timeTelegramSend) s fun t =>
          t.tick = (s.toMultiple (s.rd 0xC04104) s.wdp.timeAt).tick ∧ (t.msg s.canHolder 24).ident % 2048 = (2 * 128 + s.node) % 2048 ∧ byteAt (t.msg s.canHolder 24).data 0 = s.wdp.timeSeq % 256 ∧ byteAt (t.msg s.canHolder 24).data 1 = (if s.wdp.timeValid then 1 else 0) + (if s.bitAt kFlags 3 then 2 else 0) ∧ leAt (t.msg s.canHolder 24).data 8 4 = (s.msg s.wdp.timeCan 24).tsNs % 2 ^ 32 ∧
          leAt (t.msg s.canHolder 24).data 4 4 = (s.wdp.timeQueued.sec + (if (s.msg s.wdp.timeCan 24).tsNs < s.wdp.timeQueued.acc / 2 ^ 32 then 1 else 0)) % 2 ^ 32 ∧ t.wdp = { s.wdp with timeSeq := (s.wdp.timeSeq + 1) % 256, timeValid := false, timeQueued := t.net, timeCan := s.canHolder, timeAt := some (s.multipleDue (s.rd 0xC04104) s.wdp.timeAt) } ∧
          t = { s with can := t.can, tick := t.tick, net := t.net, wdp := t.wdp, free := t.free, collector := { s.collector with relay := t.collector.relay } }) ∧
    ((s.rd 0xC04104 = 0 ∨ s.manager = false ∨ s.speaks = false) →
      Completes (.timeTelegramSend) s fun t =>
          t = s)

/-- Capture: ENABLE, ARM, FORCE, samples. ENABLE 1 starts the sample numbers at 0 with an empty ring, and changes nothing while it is 1; ENABLE 0 disarms and empties it; ARM arms from now where nothing is armed or open, and else changes nothing; ENABLE 1 and ARM 1 are refused with STATUS 6 where the ring or a record would not fit. FORCE sets condition 16 sticky, and fires it now while ENABLE is 1. A sample due takes the next number with the network time, or the exact instant of its event, gives every track its output, and goes into the ring; one within 80 ticks of the last is dropped and counted; one with ENABLE 0, in BOOT, COCOON or reset is not taken. A write of 1 clears DEAD_TIME's counts. Under hypotheses on the state and the operands alone, exec answers a next state with the command's own effect for: captureEnable, captureArm, captureForce, captureSample, deadTimeClear. (spec/18 R577, R578, R580, R581, R582, R583, R585, R601, R607.) -/
def Obligations.CaptureIsEnabledArmedAndForced : Prop :=
  ∀ s : State,
    (∀ (v : Byte), s.power.supervisor = true → s.dev ≠ 0 → v = 1 → s.rd 0xD00001 ≠ 1 → s.captureFits = true →
      Completes (.captureEnable v) s fun t =>
          t.lastStatus = 0 ∧ t.rd 0xD00001 = 1 ∧ t.capture = { s.capture with next := 0, due := [], lastTick := none, ring := [], tracks := Vector.replicate 32 ⟨none, 0, none⟩ } ∧
          KeepsObjs [0xD00001] s t ∧
          t = { s with objs := t.objs, capture := t.capture, lastStatus := t.lastStatus, lastData := t.lastData }) ∧
    (∀ (v : Byte), s.power.supervisor = true → s.dev ≠ 0 → v = 1 → s.rd 0xD00001 = 1 → s.captureFits = true →
      Completes (.captureEnable v) s fun t =>
          t.lastStatus = 0 ∧
          t = { s with lastStatus := t.lastStatus, lastData := t.lastData }) ∧
    (∀ (v : Byte), s.power.supervisor = true → s.dev ≠ 0 → v = 1 → s.captureFits = false →
      Completes (.captureEnable v) s fun t =>
          t.lastStatus = 6 ∧
          t = { s with lastStatus := t.lastStatus, lastData := t.lastData }) ∧
    (∀ (v : Byte), s.power.supervisor = true → s.dev ≠ 0 → v = 0 →
      Completes (.captureEnable v) s fun t =>
          t.lastStatus = 0 ∧ t.rd 0xD00001 = 0 ∧ t.capture.ring = [] ∧ t.capture.due = [] ∧ t.capture.armedAt = none ∧ t.capture.firings = [] ∧ t.capture.record = none ∧ t.capture.used = s.capture.used ∧
          KeepsOtherAreas [0xD] s t ∧
          t = { s with objs := t.objs, capture := t.capture, lastStatus := t.lastStatus, lastData := t.lastData, rails := t.rails }) ∧
    (∀ (v : Byte), s.power.supervisor = true → s.dev ≠ 0 → v = 1 → s.captureFits = true → s.capture.armedAt = none → s.capture.record = none →
      Completes (.captureArm v) s fun t =>
          t.lastStatus = 0 ∧ t.capture = { s.capture with armedAt := some s.tick, fresh := Vector.replicate 16 true } ∧
          t = { s with capture := t.capture, lastStatus := t.lastStatus, lastData := t.lastData }) ∧
    (∀ (v : Byte), s.power.supervisor = true → s.dev ≠ 0 → (v = 0 ∨ (v = 1 ∧ s.captureFits = true)) → (v = 0 ∨ s.capture.armedAt.isSome = true ∨ s.capture.record.isSome = true) →
      Completes (.captureArm v) s fun t =>
          t.lastStatus = 0 ∧
          t = { s with lastStatus := t.lastStatus, lastData := t.lastData }) ∧
    (∀ (v : Byte), s.power.supervisor = true → s.dev ≠ 0 → v = 1 → s.captureFits = false →
      Completes (.captureArm v) s fun t =>
          t.lastStatus = 6 ∧
          t = { s with lastStatus := t.lastStatus, lastData := t.lastData }) ∧
    (∀ (v : Byte), s.power.supervisor = true → s.dev ≠ 0 → v = 1 →
      Completes (.captureForce v) s fun t =>
          t.lastStatus = 0 ∧ t.bitAt 0xD04051 16 = true ∧ t.capture = (if s.rd 0xD00001 = 1 then { s.capture with firings := s.capture.firings ++ [⟨16, s.netUnits, s.tick⟩] } else s.capture) ∧
          KeepsObjs [0xD04051] s t ∧
          t = { s with objs := t.objs, capture := t.capture, lastStatus := t.lastStatus, lastData := t.lastData }) ∧
    (∀ (v : Byte), s.power.supervisor = true → s.dev ≠ 0 → v = 0 →
      Completes (.captureForce v) s fun t =>
          t.lastStatus = 0 ∧
          t = { s with lastStatus := t.lastStatus, lastData := t.lastData }) ∧
    (∀ (a : Nat) (ex : Option Nat) (rest : List (Nat × Option Nat)), s.capture.due = (a, ex) :: rest → s.rd 0xD00001 = 1 → s.dev ≠ 0 → s.dev ≠ 5 → s.inReset = false → within s.capture.lastTick (max s.tick a) 80 = false →
      Completes (.captureSample) s fun t =>
          t.tick = max s.tick a ∧ t.capture.due = rest ∧ t.capture.next = (s.capture.next + 1) % 2 ^ 64 ∧ t.capture.lastTick = some t.tick ∧ (t.capture.ring.head?.map fun x => (x.num, x.instant, x.tick, x.coarse)) = some (s.capture.next, ex.getD t.netUnits, t.tick, s.bitAt kFlags 3) ∧ t.capture.ring.length ≤ s.ringDepth + 1 ∧ t.capture.used = s.capture.used ∧ t.capture.mem = s.capture.mem ∧
          KeepsOtherAreas [0xD] s t ∧
          t = { s with objs := t.objs, capture := t.capture, tick := t.tick, net := t.net }) ∧
    (∀ (a : Nat) (ex : Option Nat) (rest : List (Nat × Option Nat)) (j : Fin 32) (x : TrackSt) (out : Nat) (cmp : Nat), s.capture.due = (a, ex) :: rest → s.rd 0xD00001 = 1 → s.dev ≠ 0 → s.dev ≠ 5 → s.inReset = false → within s.capture.lastTick (max s.tick a) 80 = false → s.trackOn j = true → (s.advanceTo a).trackStep j s.capture.next = (some (out, cmp), x) →
      Completes (.captureSample) s fun t =>
          t.rd (kTrack j 5) = cmp ∧ t.capture.tracks[j] = { x with prev := some cmp } ∧ t.tick = max s.tick a ∧
          KeepsOtherAreas [0xD] s t ∧
          t = { s with objs := t.objs, capture := t.capture, tick := t.tick, net := t.net }) ∧
    (∀ (a : Nat) (ex : Option Nat) (rest : List (Nat × Option Nat)), s.capture.due = (a, ex) :: rest → s.rd 0xD00001 = 1 → s.dev ≠ 0 → s.dev ≠ 5 → s.inReset = false → within s.capture.lastTick (max s.tick a) 80 = true →
      Completes (.captureSample) s fun t =>
          t.tick = max s.tick a ∧ t.rd 0xD00010 = wrapInc 32 (s.rd 0xD00010) ∧ t.capture = { s.capture with due := rest } ∧
          KeepsObjs [0xD00010] s t ∧
          t = { s with objs := t.objs, capture := t.capture, tick := t.tick, net := t.net }) ∧
    (∀ (a : Nat) (ex : Option Nat) (rest : List (Nat × Option Nat)), s.capture.due = (a, ex) :: rest → (s.rd 0xD00001 ≠ 1 ∨ s.dev = 0 ∨ s.dev = 5 ∨ s.inReset = true) →
      Completes (.captureSample) s fun t =>
          t.tick = max s.tick a ∧ t.capture = { s.capture with due := rest } ∧
          t = { s with capture := t.capture, tick := t.tick, net := t.net }) ∧
    (s.capture.due = [] →
      Completes (.captureSample) s fun t =>
          t = s) ∧
    (∀ (v : Byte), s.power.supervisor = true → s.dev ≠ 0 → v = 1 →
      Completes (.deadTimeClear v) s fun t =>
          t.lastStatus = 0 ∧ t.rd 0xD05002 = 0 ∧ t.rd 0xD05003 = 0xFFFFFFFF ∧ t.rd 0xD05004 = 0 ∧ t.rd 0xD05005 = 0 ∧ t.rd 0xD05006 = 0 ∧
          KeepsObjs [0xD05002, 0xD05003, 0xD05004, 0xD05005, 0xD05006] s t ∧
          t = { s with objs := t.objs, lastStatus := t.lastStatus, lastData := t.lastData }) ∧
    (∀ (v : Byte), s.power.supervisor = true → s.dev ≠ 0 → v = 0 →
      Completes (.deadTimeClear v) s fun t =>
          t.lastStatus = 0 ∧
          t = { s with lastStatus := t.lastStatus, lastData := t.lastData })

/-- Capture: decisions and the closing of a record. A firing whose anchor is known, with capture armed since no later than the anchor and room in the queue, opens a record: its words are reserved, capture is disarmed, and the options of its condition drive a TRIG line for WIDTH or send a TRIGGER frame; without room it counts as dropped and capture stays armed. Otherwise a firing at the open record's trigger sample joins its mask, one after it counts as missed in it, one before it, or before the arming, counts as late, and one with nothing armed or open is ignored; without its anchor a firing waits. The decision completes 60 to 100.2 ns after the anchor is known. A record complete closes 220 to 367.4 ns after its last sample: its packet is written and closed, RECORD_COUNT, PACKET_COUNT and the dead times follow, and capture arms again where MODE is 1. Under hypotheses on the state and the operands alone, exec answers a next state with the command's own effect for: captureDecision, captureRecordClose. (spec/18 R583, R584, R585, R586, R587, R588, R589, R590, R591, R592, R595.) -/
def Obligations.RecordsAreDecidedAndClosed : Prop :=
  ∀ s : State,
    (∀ (k : Fin 17) (f : FiringSt) (x : SampleSt) (late : Bool) (a : Nat), ((s.capture.firings.find? fun y => y.cond == k.val) = some f) → s.anchor f.instant = some (x, late) → s.capture.armedAt = some a → a ≤ x.tick → ((8 + ceilDiv (s.dataHalves (x.num - (min s.preDepth ((s.capture.ring.take s.ringDepth).filter fun y => y.num < x.num).length)) ((min s.preDepth ((s.capture.ring.take s.ringDepth).filter fun y => y.num < x.num).length) + s.postDepth)) 4) ≤ s.capture.free) →
      Completes (.captureDecision k) s fun t =>
          t.capture.armedAt = none ∧ (t.capture.record.any fun r => r.trig == x && r.number == s.rd 0xD0000F && r.late == late && r.missed == 0 && r.start == s.capture.writePtr && r.pre == (min s.preDepth ((s.capture.ring.take s.ringDepth).filter fun y => y.num < x.num).length) && r.post == s.postDepth && bit r.mask k.val) = true ∧ t.capture.used = s.capture.used + (8 + ceilDiv (s.dataHalves (x.num - (min s.preDepth ((s.capture.ring.take s.ringDepth).filter fun y => y.num < x.num).length)) ((min s.preDepth ((s.capture.ring.take s.ringDepth).filter fun y => y.num < x.num).length) + s.postDepth)) 4) ∧ max s.tick (s.anchorKnown f + 31) ≤ t.tick ∧ t.tick ≤ max s.tick (s.anchorKnown f + 62) ∧ f ∉ t.capture.firings ∧
          (∀ l : Fin 2, k.val < 16 → bit (s.rd (kCond 4 k.val)) (4 + l.val) = true → t.capture.driveEnd[l] = some (t.tick + s.rd 0xD04103)) ∧ (∀ i : Lane, k.val < 16 → bit (s.rd (kCond 4 k.val)) 6 = true → s.maySend i = true → (t.lanes[i].queue.any fun y => y.f.typ == 0x0A) = true) ∧
          KeepsObjs [0xB00508] s t ∧
          t = { s with objs := t.objs, lanes := t.lanes, frames := t.frames, capture := t.capture, tick := t.tick, net := t.net, free := t.free }) ∧
    (∀ (k : Fin 17) (f : FiringSt) (x : SampleSt) (late : Bool) (a : Nat), ((s.capture.firings.find? fun y => y.cond == k.val) = some f) → s.anchor f.instant = some (x, late) → s.capture.armedAt = some a → a ≤ x.tick → (s.capture.free < (8 + ceilDiv (s.dataHalves (x.num - (min s.preDepth ((s.capture.ring.take s.ringDepth).filter fun y => y.num < x.num).length)) ((min s.preDepth ((s.capture.ring.take s.ringDepth).filter fun y => y.num < x.num).length) + s.postDepth)) 4)) →
      Completes (.captureDecision k) s fun t =>
          t.rd 0xD05006 = wrapInc 32 (s.rd 0xD05006) ∧ t.bitAt 0xD06002 2 = true ∧ t.rails.occ.getLsbD 115 = true ∧ t.capture = { s.capture with firings := t.capture.firings } ∧ max s.tick (s.anchorKnown f + 31) ≤ t.tick ∧ t.tick ≤ max s.tick (s.anchorKnown f + 62) ∧ f ∉ t.capture.firings ∧
          KeepsObjs [0xD05006, 0xD06002] s t ∧
          t = { s with objs := t.objs, capture := t.capture, rails := t.rails, tick := t.tick, net := t.net, free := t.free }) ∧
    (∀ (k : Fin 17) (f : FiringSt) (x : SampleSt) (late : Bool) (r : RecordSt), ((s.capture.firings.find? fun y => y.cond == k.val) = some f) → s.anchor f.instant = some (x, late) → (match s.capture.armedAt with | some a => decide (x.tick < a) | none => true) = true → s.capture.record = some r → r.trig.num = x.num →
      Completes (.captureDecision k) s fun t =>
          t.capture = { s.capture with firings := t.capture.firings, record := some { r with mask := r.mask ||| 2 ^ k.val } } ∧ f ∉ t.capture.firings ∧
          t = { s with capture := t.capture, tick := t.tick, net := t.net, free := t.free }) ∧
    (∀ (k : Fin 17) (f : FiringSt) (x : SampleSt) (late : Bool) (r : RecordSt), ((s.capture.firings.find? fun y => y.cond == k.val) = some f) → s.anchor f.instant = some (x, late) → (match s.capture.armedAt with | some a => decide (x.tick < a) | none => true) = true → s.capture.record = some r → r.trig.num < x.num →
      Completes (.captureDecision k) s fun t =>
          t.capture = { s.capture with firings := t.capture.firings, record := some { r with missed := min (r.missed + 1) 65535 } } ∧ t.rd 0xD05004 = (if r.missed < 65535 then wrapInc 32 (s.rd 0xD05004) else s.rd 0xD05004) ∧ t.rails.occ.getLsbD 114 = true ∧ f ∉ t.capture.firings ∧
          KeepsObjs [0xD05004] s t ∧
          t = { s with objs := t.objs, rails := t.rails, capture := t.capture, tick := t.tick, net := t.net, free := t.free }) ∧
    (∀ (k : Fin 17) (f : FiringSt) (x : SampleSt) (late : Bool), ((s.capture.firings.find? fun y => y.cond == k.val) = some f) → s.anchor f.instant = some (x, late) → (match s.capture.armedAt with | some a => decide (x.tick < a) | none => true) = true → (match s.capture.record with | some r => decide (x.num < r.trig.num) | none => s.capture.armedAt.isSome) = true →
      Completes (.captureDecision k) s fun t =>
          t.rd 0xD05005 = wrapInc 32 (s.rd 0xD05005) ∧ t.rails.occ.getLsbD 114 = true ∧ t.capture = { s.capture with firings := t.capture.firings } ∧ max s.tick (s.anchorKnown f + 31) ≤ t.tick ∧ t.tick ≤ max s.tick (s.anchorKnown f + 62) ∧ f ∉ t.capture.firings ∧
          KeepsObjs [0xD05005] s t ∧
          t = { s with objs := t.objs, rails := t.rails, capture := t.capture, tick := t.tick, net := t.net, free := t.free }) ∧
    (∀ (k : Fin 17) (f : FiringSt) (x : SampleSt) (late : Bool), ((s.capture.firings.find? fun y => y.cond == k.val) = some f) → s.anchor f.instant = some (x, late) → s.capture.armedAt = none → s.capture.record = none →
      Completes (.captureDecision k) s fun t =>
          t.capture = { s.capture with firings := t.capture.firings } ∧ max s.tick (s.anchorKnown f + 31) ≤ t.tick ∧ t.tick ≤ max s.tick (s.anchorKnown f + 62) ∧ f ∉ t.capture.firings ∧
          t = { s with capture := t.capture, tick := t.tick, net := t.net, free := t.free }) ∧
    (∀ (k : Fin 17), ((match s.capture.firings.find? fun y => y.cond == k.val with | some f => (s.anchor f.instant).isNone | none => true) = true) →
      Completes (.captureDecision k) s fun t =>
          t = s) ∧
    (∀ (r : RecordSt), s.capture.record = some r → r.pre + r.post ≤ r.samples.length →
      Completes (.captureRecordClose) s fun t =>
          t.capture.record = none ∧ max s.tick (((r.samples.getLast?.map fun x => x.tick).getD s.tick) + 113) ≤ t.tick ∧ t.tick ≤ max s.tick (((r.samples.getLast?.map fun x => x.tick).getD s.tick) + 229) ∧ t.rd 0xD0000F = wrapInc 32 (s.rd 0xD0000F) ∧ t.rd 0xD0600A = wrapInc 32 (s.rd 0xD0600A) ∧ t.rd 0xD05001 = min (t.tick - r.trig.tick) (2 ^ 32 - 1) ∧ t.rd 0xD05002 = max (t.rd 0xD05001) (s.rd 0xD05002) ∧ t.rd 0xD05003 = min (t.rd 0xD05001) (s.rd 0xD05003) ∧ t.capture.armedAt = (if s.rd 0xD00007 = 1 then some t.tick else s.capture.armedAt) ∧ t.rails.occ.getLsbD 113 = true ∧ (t.capture.packets.all fun p => p.start != r.start || p.closed) = true ∧
          (1 ≤ r.words → r.words ≤ ceqWords → t.capture.word (r.start % ceqWords) = lengthWord r.words (if s.dataHalves (r.trig.num - r.pre) (r.pre + r.post) % 4 = 0 then 8 else 2 * (s.dataHalves (r.trig.num - r.pre) (r.pre + r.post) % 4)) 1 r.number) ∧
          KeepsObjs [0xD0000F, 0xD0600A, 0xD05001, 0xD05002, 0xD05003] s t ∧
          t = { s with objs := t.objs, capture := t.capture, rails := t.rails, tick := t.tick, net := t.net, free := t.free }) ∧
    ((match s.capture.record with | some r => decide (r.samples.length < r.pre + r.post) | none => true) = true →
      Completes (.captureRecordClose) s fun t =>
          t = s)

/-- TRIG lines, TRIGGER frames, calibration. A falling edge that the device does not drive is stamped, and fires the conditions of its line at the instant less the line's delay; one that it drives does nothing; while calibration waits for the line, its distance from the nearest multiple of 10 ms becomes the line's delay where it is at most 1 µs, and else the line has failed. A drive ends WIDTH after it began. A TRIGGER frame of another position on the path that serves it fires the conditions that name its sender and condition at the instant it carries, one from another path is ignored and counted, one of this device's own position fires none. CAL_ARM arms TRIG0 for 40 ms; without an edge the line counts as failed and the other follows. The manager's calibration arms by SWARM once all have converged, drives TRIG0 at a multiple of 10 ms, and TRIG1 at the next. Under hypotheses on the state and the operands alone, exec answers a next state with the command's own effect for: trigLineFall, trigDriveEnd, triggerFrameReceive, calArm, trigCalTimeout, trigCalDrive. (spec/18 R582, R583, R591, R592, R593, R606.) -/
def Obligations.TriggersAndCalibrationReachTheLines : Prop :=
  ∀ s : State,
    (∀ (l : Fin 2) (k : Fin 16), s.capture.driveEnd[l] = none → s.capture.calUntil = none → s.rd 0xD00001 = 1 → s.rd (kCond 0 k) = 6 → s.rd (kCond 1 k) = l.val →
      Completes (.trigLineFall l) s fun t =>
          t.rd (0xD04106 + l.val) = s.stamp ∧ t.bitAt 0xD04051 k.val = true ∧ (t.capture.firings.any fun f => f.cond == k.val && f.instant == ((s.netUnits : Int) - psUnits (toSigned 32 (s.rd (0xD04101 + l.val)))).toNat) = true ∧ t.capture = { s.capture with firings := t.capture.firings } ∧
          KeepsObjs [0xD04106 + l.val, 0xD04051] s t ∧
          t = { s with objs := t.objs, capture := t.capture }) ∧
    (∀ (l : Fin 2) (u : Nat), s.capture.driveEnd[l] = none → s.capture.calUntil = some u → s.capture.calLine = l.val → s.tick ≤ u →
      Completes (.trigLineFall l) s fun t =>
          t.rd (0xD04106 + l.val) = s.stamp ∧ ((rneDiv (((s.netUnits : Int) - ((roundDiv s.netUnits (10000000 * 2 ^ 32) * (10000000 * 2 ^ 32) : Nat) : Int)) * 1000) (2 ^ 32)).natAbs ≤ 1000000 → t.bitAt 0xD04105 l.val = true ∧ toSigned 32 (t.rd (0xD04101 + l.val)) = (rneDiv (((s.netUnits : Int) - ((roundDiv s.netUnits (10000000 * 2 ^ 32) * (10000000 * 2 ^ 32) : Nat) : Int)) * 1000) (2 ^ 32))) ∧ (1000000 < (rneDiv (((s.netUnits : Int) - ((roundDiv s.netUnits (10000000 * 2 ^ 32) * (10000000 * 2 ^ 32) : Nat) : Int)) * 1000) (2 ^ 32)).natAbs → t.bitAt 0xD04105 (2 + l.val) = true ∧ t.rd (0xD04101 + l.val) = s.rd (0xD04101 + l.val)) ∧ t.capture = { s.capture with calUntil := (if l = 0 then some (s.tick + msTicks 40) else none), calLine := 1, firings := t.capture.firings } ∧
          KeepsObjs [0xD04106 + l.val, 0xD04051, 0xD04105, 0xD04101 + l.val] s t ∧
          t = { s with objs := t.objs, capture := t.capture }) ∧
    (∀ (l : Fin 2), s.capture.driveEnd[l].isSome = true →
      Completes (.trigLineFall l) s fun t =>
          t = s) ∧
    (∀ (l : Fin 2) (d : Nat), s.capture.driveEnd[l] = some d →
      Completes (.trigDriveEnd l) s fun t =>
          t.tick = max s.tick d ∧ t.capture = { s.capture with driveEnd := s.capture.driveEnd.set l none } ∧
          t = { s with tick := t.tick, net := t.net, capture := t.capture }) ∧
    (∀ (l : Fin 2), s.capture.driveEnd[l] = none →
      Completes (.trigDriveEnd l) s fun t =>
          t = s) ∧
    (∀ (f : Frame) (k : Fin 16), s.laneUp (inLane f) = true → (s.heard f).takesFrom f.path f.src.toNat = true → s.posOn f.path ≠ some f.src.toNat → s.rd 0xD00001 = 1 → s.rd (kCond 0 k) = 7 → (s.rd (kCond 1 k) % 256 = 0xFF ∨ s.rd (kCond 1 k) % 256 = f.src.toNat) → (s.rd (kCond 1 k) / 256 = 0xFF ∨ s.rd (kCond 1 k) / 256 = byteAt f.payload 16) →
      Completes (.triggerFrameReceive f) s fun t =>
          t.rd 0xB00509 = wrapInc 32 (s.rd 0xB00509) ∧ t.bitAt 0xD04051 k.val = true ∧ (t.capture.firings.any fun g => g.cond == k.val && g.instant == leAt f.payload 0 8 * secUnits + leAt f.payload 8 4 * 2 ^ 32 + leAt f.payload 12 2 * 2 ^ 16) = true ∧ t.capture = { s.capture with firings := t.capture.firings } ∧
          KeepsObjs [0xD04051, 0xB0200A, 0xB00509] s t ∧
          t = { s with objs := t.objs, capture := t.capture, jobs := t.jobs }) ∧
    (∀ (f : Frame), s.laneUp (inLane f) = true → (s.heard f).takesFrom f.path f.src.toNat = false → s.posOn f.path ≠ some f.src.toNat →
      Completes (.triggerFrameReceive f) s fun t =>
          t.rd 0xB00509 = wrapInc 32 (s.rd 0xB00509) ∧ t.rd 0xB0200B = wrapInc 32 (s.rd 0xB0200B) ∧
          KeepsObjs [0xB0200A, 0xB0200B, 0xB00509] s t ∧
          t = { s with objs := t.objs, jobs := t.jobs }) ∧
    (∀ (f : Frame), s.laneUp (inLane f) = true → s.posOn f.path = some f.src.toNat →
      Completes (.triggerFrameReceive f) s fun t =>
          t.rd 0xB00509 = wrapInc 32 (s.rd 0xB00509) ∧
          KeepsObjs [0xB0200A, 0xB00509] s t ∧
          t = { s with objs := t.objs, jobs := t.jobs }) ∧
    (∀ (v : Byte), s.power.supervisor = true → s.dev ≠ 0 → v = 1 →
      Completes (.calArm v) s fun t =>
          t.lastStatus = 0 ∧ t.capture = { s.capture with calUntil := some (s.tick + msTicks 40), calLine := 0 } ∧ t.rd 0xD04105 = 0 ∧
          KeepsObjs [0xD04105] s t ∧
          t = { s with objs := t.objs, capture := t.capture, lastStatus := t.lastStatus, lastData := t.lastData }) ∧
    (∀ (v : Byte), s.power.supervisor = true → s.dev ≠ 0 → v = 0 →
      Completes (.calArm v) s fun t =>
          t.lastStatus = 0 ∧
          t = { s with lastStatus := t.lastStatus, lastData := t.lastData }) ∧
    (∀ (l : Fin 2) (d : Nat), s.capture.calUntil = some d → s.capture.calLine = l.val →
      Completes (.trigCalTimeout l) s fun t =>
          t.tick = max s.tick d ∧ t.bitAt 0xD04105 (2 + l.val) = true ∧ t.capture = { s.capture with calUntil := (if l = 0 then some (t.tick + msTicks 40) else none), calLine := 1 } ∧
          KeepsObjs [0xD04105] s t ∧
          t = { s with objs := t.objs, tick := t.tick, net := t.net, capture := t.capture }) ∧
    (∀ (l : Fin 2), (s.capture.calUntil = none ∨ s.capture.calLine ≠ l.val) →
      Completes (.trigCalTimeout l) s fun t =>
          t = s) ∧
    (∀ (l : Fin 2), s.manager = true → s.rd 0xD04104 = 1 → s.capture.calPhase = 4 → l = 1 → s.capture.calUntil = none →
      Completes (.trigCalDrive l) s fun t =>
          t.capture = { s.capture with calPhase := 0, driveEnd := s.capture.driveEnd.set 1 (some (t.tick + 625)) } ∧ t.rd 0xD04107 = t.stamp ∧ t.tick = (s.advance (s.ticksTo ((s.netUnits / (10000000 * 2 ^ 32) + 1) * (10000000 * 2 ^ 32)))).tick ∧
          KeepsObjs [0xD04107] s t ∧
          t = { s with objs := t.objs, capture := t.capture, tick := t.tick, net := t.net }) ∧
    (∀ (l : Fin 2), s.manager = true → s.rd 0xD04104 = 1 → s.capture.calPhase = 3 → l = 0 → s.capture.calUntil = none →
      Completes (.trigCalDrive l) s fun t =>
          t.capture = { s.capture with calPhase := 4, driveEnd := s.capture.driveEnd.set 0 (some (t.tick + 625)) } ∧ t.rd 0xD04106 = t.stamp ∧ s.capture.calFrom + msTicks 5 ≤ t.tick ∧ s.tick ≤ t.tick ∧
          KeepsObjs [0xD04106] s t ∧
          t = { s with objs := t.objs, capture := t.capture, tick := t.tick, net := t.net }) ∧
    (∀ (l : Fin 2), s.manager = true → s.rd 0xD04104 = 1 → s.capture.calPhase = 1 → l = 0 → s.dev ≠ 0 → s.allConverged = true → s.unserved = false → s.rd 0xB03004 ≤ 1 → s.frames.swarm = [] →
      Completes (.trigCalDrive l) s fun t =>
          t.capture.calPhase = 3 ∧ t.capture.calFrom = s.tick ∧ t.capture.calUntil = some (s.tick + msTicks 40) ∧ t.capture.calLine = 0 ∧ t.rd 0xD04105 = 0 ∧
          KeepsObjs [0xD04105] s t ∧
          t = { s with objs := t.objs, capture := t.capture }) ∧
    (∀ (l : Fin 2) (p : Nat), s.manager = true → s.rd 0xD04104 = 1 → s.capture.calPhase = 1 → l = 0 → s.allConverged = true → s.unserved = false → min 32 (s.rd 0xB03004) = p + 1 → 1 ≤ p → s.frames.swarm = [] →
      Completes (.trigCalDrive l) s fun t =>
          t.capture = { s.capture with calPhase := 2 } ∧ (t.frames.swarm.map fun w => w.at_) = [p] ∧ (t.frames.swarm.all fun w => !w.answered && w.telegram.op == 2 && w.telegram.index == 0xD041 && w.telegram.sub == 8 && w.telegram.data == [1#8]) = true ∧
          KeepsObjs [0xB00508] s t ∧
          t = { s with objs := t.objs, lanes := t.lanes, frames := t.frames, capture := t.capture }) ∧
    (∀ (l : Fin 2), (s.manager = false ∨ s.rd 0xD04104 ≠ 1 ∨ (l = 0 ∧ s.capture.calPhase ≠ 1 ∧ s.capture.calPhase ≠ 3) ∨ (l = 1 ∧ s.capture.calPhase ≠ 4) ∨ (s.capture.calPhase = 1 ∧ (s.allConverged = false ∨ s.unserved = true))) →
      Completes (.trigCalDrive l) s fun t =>
          t = s)

/-- The capture egress queue, lane egress, the relay. A read of WORD, and of a WINDOW of words, takes the words at READ_PTR where they are readable, else it answers LAST and counts an underrun; MARK, REWIND and RELEASE move their pointers; under lane egress all of them are refused with STATUS 6. A write that changes EGRESS rewinds first; lane egress is refused in a manager and to the device itself. The packetiser takes up to 255 words of one packet into a CAPTURE frame and waits; its ACK releases them; a stall that ends sends the same words again, or ends alone where EGRESS has changed. An accepted CAPTURE frame becomes a closed packet, one that finds no room is counted and not acknowledged, one out of sequence or from a path that does not serve its sender makes none. Under hypotheses on the state and the operands alone, exec answers a next state with the command's own effect for: ceqWordRead, ceqWindowRead, ceqMark, ceqRewind, ceqRelease, egressWrite, captureFrameSend, ackReceive, egressHoldoffExpiry, captureFrameReceive. (spec/14 R456; spec/18 R595, R596, R597, R598, R599, R600.) -/
def Obligations.TheEgressQueueIsReadAndSent : Prop :=
  ∀ s : State,
    (s.power.supervisor = true → s.dev ≠ 0 → s.rd 0xD0000A ≠ 1 → 0 < s.capture.readable →
      Completes (.ceqWordRead) s fun t =>
          t.lastStatus = 0 ∧ t.lastData = natLe 8 (s.capture.word (s.capture.readPtr % ceqWords)) ∧ t.capture = { s.capture with readAhead := s.capture.readAhead + 1, lastWord := s.capture.word (s.capture.readPtr % ceqWords) } ∧
          t = { s with capture := t.capture, lastStatus := t.lastStatus, lastData := t.lastData }) ∧
    (s.power.supervisor = true → s.dev ≠ 0 → s.rd 0xD0000A ≠ 1 → s.capture.readable = 0 →
      Completes (.ceqWordRead) s fun t =>
          t.lastStatus = 0 ∧ t.lastData = natLe 8 s.capture.lastWord ∧ t.bitAt 0xD06002 1 = true ∧ t.rd 0xD0600D = wrapInc 32 (s.rd 0xD0600D) ∧ (s.bitAt 0xD06002 1 = false → t.rails.occ.getLsbD 115 = true) ∧
          KeepsObjs [0xD06002, 0xD0600D] s t ∧
          t = { s with objs := t.objs, rails := t.rails, lastStatus := t.lastStatus, lastData := t.lastData }) ∧
    (∀ (n : Nat), s.power.supervisor = true → s.dev ≠ 0 → s.rd 0xD0000A ≠ 1 → n = min (s.rd 0xD06103) s.capture.readable → 0 < n →
      Completes (.ceqWindowRead) s fun t =>
          t.lastStatus = 0 ∧ t.lastData = ((List.range n).flatMap fun i => natLe 8 (s.capture.word ((s.capture.readPtr + i) % ceqWords))) ∧ t.capture = { s.capture with readAhead := s.capture.readAhead + n, lastWord := s.capture.word ((s.capture.readPtr + (n - 1)) % ceqWords) } ∧
          t = { s with capture := t.capture, lastStatus := t.lastStatus, lastData := t.lastData }) ∧
    (s.power.supervisor = true → s.dev ≠ 0 → s.rd 0xD0000A ≠ 1 → min (s.rd 0xD06103) s.capture.readable = 0 →
      Completes (.ceqWindowRead) s fun t =>
          t.lastStatus = 0 ∧ t.lastData = natLe 8 s.capture.lastWord ∧ t.bitAt 0xD06002 1 = true ∧ t.rd 0xD0600D = wrapInc 32 (s.rd 0xD0600D) ∧
          KeepsObjs [0xD06002, 0xD0600D] s t ∧
          t = { s with objs := t.objs, rails := t.rails, lastStatus := t.lastStatus, lastData := t.lastData }) ∧
    (s.power.supervisor = true → s.dev ≠ 0 → s.rd 0xD0000A = 1 →
      Completes (.ceqWordRead) s fun t =>
          t.lastStatus = 6 ∧ t.lastData = [] ∧
          t = { s with lastStatus := t.lastStatus, lastData := t.lastData }) ∧
    (s.power.supervisor = true → s.dev ≠ 0 → s.rd 0xD0000A = 1 →
      Completes (.ceqWindowRead) s fun t =>
          t.lastStatus = 6 ∧ t.lastData = [] ∧
          t = { s with lastStatus := t.lastStatus, lastData := t.lastData }) ∧
    (∀ (v : Byte), s.power.supervisor = true → s.dev ≠ 0 → s.rd 0xD0000A ≠ 1 → v = 1 →
      Completes (.ceqMark v) s fun t =>
          t.lastStatus = 0 ∧ t.capture = { s.capture with markAhead := s.capture.readAhead } ∧
          t = { s with capture := t.capture, lastStatus := t.lastStatus, lastData := t.lastData }) ∧
    (∀ (v : Byte), s.power.supervisor = true → s.dev ≠ 0 → s.rd 0xD0000A ≠ 1 → v = 1 →
      Completes (.ceqRewind v) s fun t =>
          t.lastStatus = 0 ∧ t.capture = { s.capture with readAhead := s.capture.markAhead } ∧
          t = { s with capture := t.capture, lastStatus := t.lastStatus, lastData := t.lastData }) ∧
    (∀ (v : Byte), s.power.supervisor = true → s.dev ≠ 0 → s.rd 0xD0000A ≠ 1 → v = 1 →
      Completes (.ceqRelease v) s fun t =>
          t.lastStatus = 0 ∧ t.capture.releasePtr = (s.capture.releasePtr + s.capture.readAhead) % ceqWords ∧ t.capture.used = s.capture.used - s.capture.readAhead ∧ t.capture = { s.capture with releasePtr := t.capture.releasePtr, used := t.capture.used, readAhead := 0, markAhead := 0, packets := t.capture.packets } ∧
          t = { s with capture := t.capture, lastStatus := t.lastStatus, lastData := t.lastData }) ∧
    (∀ (v : Byte), s.power.supervisor = true → s.dev ≠ 0 → s.rd 0xD0000A ≠ 1 → v = 0 →
      Completes (.ceqMark v) s fun t =>
          t.lastStatus = 0 ∧
          t = { s with lastStatus := t.lastStatus, lastData := t.lastData }) ∧
    (∀ (v : Byte), s.power.supervisor = true → s.dev ≠ 0 → s.rd 0xD0000A ≠ 1 → v = 0 →
      Completes (.ceqRewind v) s fun t =>
          t.lastStatus = 0 ∧
          t = { s with lastStatus := t.lastStatus, lastData := t.lastData }) ∧
    (∀ (v : Byte), s.power.supervisor = true → s.dev ≠ 0 → s.rd 0xD0000A ≠ 1 → v = 0 →
      Completes (.ceqRelease v) s fun t =>
          t.lastStatus = 0 ∧
          t = { s with lastStatus := t.lastStatus, lastData := t.lastData }) ∧
    (∀ (v : Byte), s.power.supervisor = true → s.dev ≠ 0 → s.rd 0xD0000A = 1 → (v = 0 ∨ v = 1) →
      Completes (.ceqMark v) s fun t =>
          t.lastStatus = 6 ∧
          t = { s with lastStatus := t.lastStatus, lastData := t.lastData }) ∧
    (∀ (v : Byte), s.power.supervisor = true → s.dev ≠ 0 → s.rd 0xD0000A = 1 → (v = 0 ∨ v = 1) →
      Completes (.ceqRewind v) s fun t =>
          t.lastStatus = 6 ∧
          t = { s with lastStatus := t.lastStatus, lastData := t.lastData }) ∧
    (∀ (v : Byte), s.power.supervisor = true → s.dev ≠ 0 → s.rd 0xD0000A = 1 → (v = 0 ∨ v = 1) →
      Completes (.ceqRelease v) s fun t =>
          t.lastStatus = 6 ∧
          t = { s with lastStatus := t.lastStatus, lastData := t.lastData }) ∧
    (∀ (v : Byte), s.power.supervisor = true → (s.dev = 2 ∨ s.dev = 6 ∨ s.dev = 7) → (v = 0 ∨ (v = 1 ∧ s.manager = false ∧ s.rd 0xD0000B ≠ s.rd kPosition)) → s.rd 0xD0000A ≠ v.toNat →
      Completes (.egressWrite v) s fun t =>
          t.lastStatus = 0 ∧ t.rd 0xD0000A = v.toNat ∧ t.capture = { s.capture with readAhead := s.capture.markAhead, egress := { s.capture.egress with waiting := false, payload := [], stallAt := none, failed := none } } ∧
          KeepsObjs [0xD0000A] s t ∧
          t = { s with objs := t.objs, capture := t.capture, lastStatus := t.lastStatus, lastData := t.lastData }) ∧
    (∀ (v : Byte), s.power.supervisor = true → (s.dev = 2 ∨ s.dev = 6 ∨ s.dev = 7) → (v = 0 ∨ (v = 1 ∧ s.manager = false ∧ s.rd 0xD0000B ≠ s.rd kPosition)) → s.rd 0xD0000A = v.toNat →
      Completes (.egressWrite v) s fun t =>
          t.lastStatus = 0 ∧
          t = { s with lastStatus := t.lastStatus, lastData := t.lastData }) ∧
    (∀ (v : Byte), s.power.supervisor = true → (s.dev = 2 ∨ s.dev = 6 ∨ s.dev = 7) → v = 1 → (s.manager = true ∨ s.rd 0xD0000B = s.rd kPosition) →
      Completes (.egressWrite v) s fun t =>
          t.lastStatus = 6 ∧
          t = { s with lastStatus := t.lastStatus, lastData := t.lastData }) ∧
    (∀ (p : PacketSt) (n : Nat) (off : Nat), s.rd 0xD0000A = 1 → s.capture.egress.waiting = false → s.capture.egress.stallAt = none → 0 < s.capture.readable → s.pathTo (s.rd 0xD0000B) ≠ none → ((s.capture.packets.find? fun y => (s.capture.readPtr + ceqWords - y.start) % ceqWords < y.words) = some p) → off = (s.capture.readPtr + ceqWords - p.start) % ceqWords → n = min (min 255 (p.words - off)) s.capture.readable →
      Completes (.captureFrameSend) s fun t =>
          t.capture = { s.capture with markAhead := s.capture.readAhead, readAhead := s.capture.readAhead + n, egress := ⟨n, if off = 0 then 0 else s.capture.egress.chunk, natLe 2 p.record ++ natLe 2 (if off = 0 then 0 else s.capture.egress.chunk) ++ natLe 4 ((if off = 0 then 1 else 0) + (if off + n = p.words then 2 else 0)) ++ ((List.range n).flatMap fun i => natLe 8 (s.capture.word ((s.capture.readPtr + i) % ceqWords))), true, none, none⟩ } ∧ (((t.frames.unacked.map fun u => u.f) ++ t.frames.waiting).any fun f => f.typ == 9 && f.dst == BitVec.ofNat 8 (s.rd 0xD0000B) && f.payload == t.capture.egress.payload) = true ∧
          KeepsObjs [0xB00508] s t ∧
          t = { s with objs := t.objs, lanes := t.lanes, frames := t.frames, capture := t.capture }) ∧
    ((s.rd 0xD0000A ≠ 1 ∨ s.capture.egress.waiting = true ∨ s.capture.egress.stallAt.isSome = true ∨ s.capture.readable = 0 ∨ s.pathTo (s.rd 0xD0000B) = none ∨ (s.capture.packets.find? fun y => (s.capture.readPtr + ceqWords - y.start) % ceqWords < y.words) = none) →
      Completes (.captureFrameSend) s fun t =>
          t = s) ∧
    (∀ (f : Frame) (u : Unacked), s.laneUp (inLane f) = true → s.unackedTo (byteAt f.payload 0) f.src.toNat = some u → u.f.seq.toNat = leAt f.payload 2 2 → u.f.typ ≠ 3 → ((s.frames.waiting.any fun w => sameTriple w u.f) = false) → s.egressIs u.f = true →
      Completes (.ackReceive f) s fun t =>
          t.rd 0xB00509 = wrapInc 32 (s.rd 0xB00509) ∧ t.capture.egress = { s.capture.egress with waiting := false, chunk := s.capture.egress.chunk + 1, payload := [] } ∧ t.capture.used = s.capture.used - s.capture.readAhead ∧ t.capture.releasePtr = (s.capture.releasePtr + s.capture.readAhead) % ceqWords ∧ t.rd 0xD0600E = wrapInc 32 (s.rd 0xD0600E) ∧
          KeepsObjs [0xB0200A, 0xD0600E, 0xB00509] s t ∧
          t = { s with frames := t.frames, objs := t.objs, jobs := t.jobs, capture := t.capture }) ∧
    (∀ (d : Nat) (f : Frame), s.capture.egress.stallAt = some d → s.capture.egress.failed = some f → s.rd 0xD0000A = 1 →
      Completes (.egressHoldoffExpiry) s fun t =>
          t.tick = max s.tick d ∧ t.capture = { s.capture with readAhead := s.capture.readAhead + s.capture.egress.words, egress := { s.capture.egress with waiting := true, stallAt := none, failed := none } } ∧ (t.frames.unacked.any fun u => u.f.typ == f.typ && u.f.seq == f.seq && u.f.payload == f.payload && u.f.retry) = true ∧
          KeepsObjs [0xB00506, 0xB00508] s t ∧
          t = { s with objs := t.objs, lanes := t.lanes, frames := t.frames, capture := t.capture, tick := t.tick, net := t.net }) ∧
    (∀ (d : Nat) (f : Frame), s.capture.egress.stallAt = some d → s.capture.egress.failed = some f → s.rd 0xD0000A ≠ 1 →
      Completes (.egressHoldoffExpiry) s fun t =>
          t.tick = max s.tick d ∧ t.capture = { s.capture with egress := { s.capture.egress with stallAt := none, failed := none } } ∧
          t = { s with capture := t.capture, tick := t.tick, net := t.net }) ∧
    ((s.capture.egress.stallAt = none ∨ s.capture.egress.failed = none) →
      Completes (.egressHoldoffExpiry) s fun t =>
          t = s) ∧
    (∀ (f : Frame) (n : Nat), s.laneUp (inLane f) = true → (s.heard f).takesFrom f.path f.src.toNat = true → f.seq.toNat = s.expected f → n = (f.payload.length - 8) / 8 → n + 2 ≤ s.capture.free →
      Completes (.captureFrameReceive f) s fun t =>
          t.rd 0xB00509 = wrapInc 32 (s.rd 0xB00509) ∧ t.capture.used = s.capture.used + (n + 2) ∧ t.capture.packets = s.capture.packets ++ [⟨s.capture.writePtr, n + 2, leAt f.payload 0 2, true⟩] ∧ t.capture.word s.capture.writePtr = lengthWord (n + 2) 8 2 (leAt f.payload 0 2) ∧ t.rd 0xD0600A = wrapInc 32 (s.rd 0xD0600A) ∧ t.rd 0xD0600B = wrapInc 32 (s.rd 0xD0600B) ∧ t.capture = { s.capture with used := t.capture.used, packets := t.capture.packets, mem := t.capture.mem } ∧
          KeepsObjs [0xB0200A, 0xB00508, 0xD0600A, 0xD0600B, 0xB00509] s t ∧
          t = { s with objs := t.objs, lanes := t.lanes, frames := t.frames, capture := t.capture, jobs := t.jobs }) ∧
    (∀ (f : Frame), s.laneUp (inLane f) = true → (s.heard f).takesFrom f.path f.src.toNat = true → s.capture.free < (f.payload.length - 8) / 8 + 2 →
      Completes (.captureFrameReceive f) s fun t =>
          t.rd 0xB00509 = wrapInc 32 (s.rd 0xB00509) ∧ t.rd 0xD0600C = wrapInc 32 (s.rd 0xD0600C) ∧ t.bitAt 0xD06002 4 = true ∧ t.rails.occ.getLsbD 115 = true ∧ t.frames = s.frames ∧
          KeepsObjs [0xB0200A, 0xD0600C, 0xD06002, 0xB00509] s t ∧
          t = { s with objs := t.objs, rails := t.rails, jobs := t.jobs }) ∧
    (∀ (f : Frame), s.laneUp (inLane f) = true → (s.heard f).takesFrom f.path f.src.toNat = true → f.seq.toNat ≠ s.expected f → (f.payload.length - 8) / 8 + 2 ≤ s.capture.free →
      Completes (.captureFrameReceive f) s fun t =>
          t.rd 0xB00509 = wrapInc 32 (s.rd 0xB00509) ∧ t.frames.rxSeq = s.frames.rxSeq ∧
          KeepsObjs [0xB0200A, 0xB00508, 0xB00509] s t ∧
          t = { s with objs := t.objs, lanes := t.lanes, frames := t.frames, jobs := t.jobs }) ∧
    (∀ (f : Frame), s.laneUp (inLane f) = true → (s.heard f).takesFrom f.path f.src.toNat = false →
      Completes (.captureFrameReceive f) s fun t =>
          t.rd 0xB00509 = wrapInc 32 (s.rd 0xB00509) ∧ t.rd 0xB0200B = wrapInc 32 (s.rd 0xB0200B) ∧
          KeepsObjs [0xB0200A, 0xB0200B, 0xB00509] s t ∧
          t = { s with objs := t.objs, jobs := t.jobs })

/-- STORE, DEFAULTS, the OEM area. STORE takes the image of the dictionary's RWN objects for the bank that the commit word does not name and is busy until it ends; one under way refuses another. A STORE that verifies, no earlier than its steps take between 0.82 and 1.67 times their typical time, writes its image and commits its bank with the next generation; one that does not ends with RESULT 2 and source 119 and leaves the commit word; while a lockout record is written its end waits. DEFAULTS names no bank. A write of whole words of DATA writes its bytes at OFFSET, or waits for the port; one that is no whole words or passes the end is refused. Under hypotheses on the state and the operands alone, exec answers a next state with the command's own effect for: store, storeComplete, defaults, oemAreaWrite. (spec/19 R612, R614, R615, R616, R617, R618, R620, R633.) -/
def Obligations.TheDictionaryIsStoredAndTheOemAreaWritten : Prop :=
  ∀ s : State,
    (∀ (v : Byte), s.power.supervisor = true → s.dev ≠ 0 → v = 1 → s.jobs.store = none →
      Completes (.store v) s fun t =>
          t.lastStatus = 0 ∧ t.bitAt 0xE00101 0 = true ∧ t.jobs = { s.jobs with store := some ⟨s.imageOf ((commitOf true s.nv.commit).1 + 1), (if (commitOf true s.nv.commit).2 = 0 then 1 else 0), s.tick⟩, copyB := none } ∧ t.nv = { s.nv with dict := t.nv.dict } ∧ t.nv.dict[((1 : Fin 2) - (if (commitOf true s.nv.commit).2 = 0 then 1 else 0) : Fin 2)] = s.nv.dict[((1 : Fin 2) - (if (commitOf true s.nv.commit).2 = 0 then 1 else 0) : Fin 2)] ∧
          KeepsObjs [0xE00101] s t ∧
          t = { s with objs := t.objs, nv := t.nv, jobs := t.jobs, lastStatus := t.lastStatus, lastData := t.lastData }) ∧
    (∀ (v : Byte), s.power.supervisor = true → s.dev ≠ 0 → v = 1 → s.jobs.store.isSome = true →
      Completes (.store v) s fun t =>
          t.lastStatus = 6 ∧
          t = { s with lastStatus := t.lastStatus, lastData := t.lastData }) ∧
    (∀ (v : Byte), s.power.supervisor = true → s.dev ≠ 0 → v = 0 →
      Completes (.store v) s fun t =>
          t.lastStatus = 0 ∧
          t = { s with lastStatus := t.lastStatus, lastData := t.lastData }) ∧
    (∀ (ok : Bool) (j : StoreSt), s.jobs.store = some j → s.portTaken 1 = false → ok = true →
      Completes (.storeComplete ok) s fun t =>
          t.jobs.store = none ∧ t.bitAt 0xE00101 0 = false ∧ t.rd 0xE00102 = 1 ∧ max s.tick (j.since + ceilDiv (82 * (9000 + ceilDiv (ceilDiv j.image.length 8 * 3125) 2)) 100) ≤ t.tick ∧ t.tick ≤ max s.tick (j.since + 167 * (9000 + ceilDiv (ceilDiv j.image.length 8 * 3125) 2) / 100) ∧
          t.nv.commit = Vector.replicate 2 (commitWord (((commitOf true s.nv.commit).1 + 1) % 2 ^ 24) j.bank.val) ∧ t.rd 0xE00103 = j.bank.val ∧ t.rd 0xE00104 = (((commitOf true s.nv.commit).1 + 1) % 2 ^ 24) ∧ t.rd 0xE00105 = j.image.length ∧ t.rd 0xE00107 = (t.tick - j.since) / 625 ∧ t.nv.dict = s.nv.dict.set j.bank j.image ∧ t.jobs.copyB = some (t.tick + 3500) ∧ t.rails = s.rails ∧
          KeepsOtherAreas [0xB, 0xE] s t ∧
          t = { s with objs := t.objs, nv := t.nv, jobs := t.jobs, lanes := t.lanes, frames := t.frames, wdp := t.wdp, can := t.can, free := t.free, tick := t.tick, net := t.net, collector := { s.collector with relay := t.collector.relay } }) ∧
    (∀ (ok : Bool) (j : StoreSt), s.jobs.store = some j → s.portTaken 1 = false → ok = false →
      Completes (.storeComplete ok) s fun t =>
          t.jobs.store = none ∧ t.bitAt 0xE00101 0 = false ∧ t.rd 0xE00102 = 2 ∧ t.nv.commit = s.nv.commit ∧ t.nv.dict = s.nv.dict ∧ t.rails.occ.getLsbD 119 = true ∧ t.tick = s.tick ∧
          KeepsOtherAreas [0xB, 0xE] s t ∧
          t = { s with objs := t.objs, nv := t.nv, jobs := t.jobs, lanes := t.lanes, frames := t.frames, wdp := t.wdp, can := t.can, free := t.free, rails := t.rails, collector := { s.collector with relay := t.collector.relay } }) ∧
    (∀ (ok : Bool), (s.portTaken 1 = true ∨ (s.jobs.store = none ∧ s.jobs.waiting = [])) → s.jobs.install.staged = none →
      Completes (.storeComplete ok) s fun t =>
          t = s) ∧
    (∀ (v : Byte), s.power.supervisor = true → (s.dev = 2 ∨ s.dev = 6 ∨ s.dev = 7) → v = 1 →
      Completes (.defaults v) s fun t =>
          t.lastStatus = 0 ∧ t.nv = { s.nv with commit := Vector.replicate 2 (commitWord (((commitOf true s.nv.commit).1 + 1) % 2 ^ 24) 0xFF) } ∧ t.rd 0xE00103 = 0xFF ∧ t.rd 0xE00104 = (((commitOf true s.nv.commit).1 + 1) % 2 ^ 24) ∧
          KeepsObjs [0xE00103, 0xE00104] s t ∧
          t = { s with objs := t.objs, nv := t.nv, lastStatus := t.lastStatus, lastData := t.lastData }) ∧
    (∀ (v : Byte), s.power.supervisor = true → (s.dev = 2 ∨ s.dev = 6 ∨ s.dev = 7) → v = 0 →
      Completes (.defaults v) s fun t =>
          t.lastStatus = 0 ∧
          t = { s with lastStatus := t.lastStatus, lastData := t.lastData }) ∧
    (∀ (d : Bytes) (a : Nat), s.power.supervisor = true → s.dev ≠ 0 → 8 ≤ d.length → d.length ≤ 4096 → d.length % 8 = 0 → s.rd 0xE00201 + d.length ≤ 65536 → s.portTaken 3 = false → s.jobs.waiting = [] →
      Completes (.oemAreaWrite d) s fun t =>
          t.lastStatus = 0 ∧ (a < s.rd 0xE00201 ∨ s.rd 0xE00201 + d.length ≤ a → memRead t.nv.oem a = memRead s.nv.oem a) ∧ (a < d.length → memRead t.nv.oem (s.rd 0xE00201 + a) = d.getD a 0) ∧ t.nv = { s.nv with oem := t.nv.oem } ∧
          t = { s with nv := t.nv, lastStatus := t.lastStatus, lastData := t.lastData }) ∧
    (∀ (d : Bytes), s.power.supervisor = true → s.dev ≠ 0 → 8 ≤ d.length → d.length ≤ 4096 → d.length % 8 = 0 → s.rd 0xE00201 + d.length ≤ 65536 → s.portTaken 3 = true →
      Completes (.oemAreaWrite d) s fun t =>
          t.lastStatus = 0 ∧ t.jobs = { s.jobs with waiting := s.jobs.waiting ++ [.oem (s.rd 0xE00201) d] } ∧
          t = { s with jobs := t.jobs, lastStatus := t.lastStatus, lastData := t.lastData }) ∧
    (∀ (d : Bytes), s.power.supervisor = true → s.dev ≠ 0 → (d.length < 8 ∨ 4096 < d.length ∨ d.length % 8 ≠ 0 ∨ 65536 < s.rd 0xE00201 + d.length) →
      Completes (.oemAreaWrite d) s fun t =>
          t.lastStatus = (if d.length < 8 ∨ 4096 < d.length then 7 else 6) ∧
          t = { s with lastStatus := t.lastStatus, lastData := t.lastData })

/-- Firmware install. A write of IMAGE of an allowed size makes the idle bank INVALID and stages, or waits for the port; of another size it is refused with STATUS 7, while an install runs with 12. Its segments are written to the idle bank, the last one of the announced total makes it STAGED, or, where the words do not verify, FAILED with RESULT 10 and STATUS 11. CMD 1 in STAGED starts the checks, CMD 2 in VERIFIED waits for a quiet boundary for ACTIVATE_WAIT, in other phases they are refused. The checks end in VERIFIED with RESULT 1 and the bank VALID, or in FAILED with the first failing check, the bank INVALID and source 121, after 0.82 to 1.67 times their typical time. At a quiet boundary the select word names the bank, MIN_VERSION rises and ACTIVATE is answered, and the reset with cause 3 may follow at once or later, after which that bank is the active one; before a quiet boundary nothing happens; the boot loader activates too; the wait that passes falls back to VERIFIED with RESULT 9. Under hypotheses on the state and the operands alone, exec answers a next state with the command's own effect for: fwImageWrite, wdpBlockWrite, wdpSegment, fwCheck, fwCheckComplete, fwActivate, fwActivation, activateWaitExpiry. (spec/17 R558, R559; spec/19 R613, R614, R615, R622, R623, R624, R625.) -/
def Obligations.FirmwareIsStagedCheckedAndActivated : Prop :=
  ∀ s : State,
    (∀ (n : BitVec 32), s.power.supervisor = true → s.dev ≠ 0 → 256 ≤ n.toNat → n.toNat ≤ 131064 → s.fwPhase ≠ 1 → s.fwPhase ≠ 3 → s.fwPhase ≠ 5 → s.portTaken 2 = false → s.jobs.waiting = [] →
      Completes (.fwImageWrite n) s fun t =>
          t.lastStatus = 0 ∧ t.fwPhase = 1 ∧ t.rd 0xE01104 = 0 ∧ t.nv = { s.nv with fw := s.nv.fw.set s.idleBank ⟨1, []⟩ } ∧ t.jobs = { s.jobs with waiting := s.jobs.waiting.filter fun j => !j.isFw, install := { s.jobs.install with size := n.toNat, waitAt := none, reply := none, staged := none } } ∧
          KeepsObjs [0xE01102, 0xE01104] s t ∧
          t = { s with objs := t.objs, nv := t.nv, jobs := t.jobs, lastStatus := t.lastStatus, lastData := t.lastData }) ∧
    (∀ (n : BitVec 32), s.power.supervisor = true → s.dev ≠ 0 → 256 ≤ n.toNat → n.toNat ≤ 131064 → s.fwPhase ≠ 1 → s.fwPhase ≠ 3 → s.fwPhase ≠ 5 → (s.portTaken 1 = true ∨ s.jobs.store.isSome = true) →
      Completes (.fwImageWrite n) s fun t =>
          t.lastStatus = 0 ∧ t.fwPhase = 1 ∧ t.rd 0xE01104 = 0 ∧ t.jobs = { { s.jobs with waiting := s.jobs.waiting.filter fun j => !j.isFw, install := { s.jobs.install with size := n.toNat, waitAt := none, reply := none, staged := none } } with waiting := (s.jobs.waiting.filter fun j => !j.isFw) ++ [.invalidate] } ∧
          KeepsObjs [0xE01102, 0xE01104] s t ∧
          t = { s with objs := t.objs, jobs := t.jobs, lastStatus := t.lastStatus, lastData := t.lastData }) ∧
    (∀ (n : BitVec 32), s.power.supervisor = true → s.dev ≠ 0 → (n.toNat < 256 ∨ 131064 < n.toNat ∨ s.fwPhase = 1 ∨ s.fwPhase = 3 ∨ s.fwPhase = 5) →
      Completes (.fwImageWrite n) s fun t =>
          t.lastStatus = (if n.toNat < 256 ∨ 131064 < n.toNat then 7 else 12) ∧
          t = { s with lastStatus := t.lastStatus, lastData := t.lastData }) ∧
    (∀ (o : Origin) (g : Telegram) (n : BitVec 32), s.mine o g = true → s.unserved = false → cutOf g = false → (s.wdp.tags[tagOf (tgOf g)]).state = 0 → g.op = 4 → g.index = 0xE010 → g.sub = 1 → 4 ≤ (datOf g).length → leAt (datOf g) 0 4 = n.toNat → s.fromHolder o = true → s.wdp.blocks.length < 2 → 256 ≤ n.toNat → n.toNat ≤ 131064 → s.fwPhase ≠ 1 → s.fwPhase ≠ 3 → s.fwPhase ≠ 5 → s.portTaken 2 = false → s.jobs.waiting = [] →
      Completes (.wdpBlockWrite o g) s fun t =>
          t.wdp.blocks = s.wdp.blocks ++ ([⟨tgOf g, o, false, 0xE010, 1, n.toNat, [], 0, s.tick⟩] : List BlockSt) ∧ replied s t o (tgOf g) (withData (headOf g) 0 []) = true ∧ t.fwPhase = 1 ∧ t.rd 0xE01104 = 0 ∧ t.nv = { s.nv with fw := s.nv.fw.set s.idleBank ⟨1, []⟩ } ∧ t.jobs = { s.jobs with waiting := s.jobs.waiting.filter fun j => !j.isFw, install := { s.jobs.install with size := n.toNat, waitAt := none, reply := none, staged := none } } ∧
          KeepsObjs [0xE01102, 0xE01104, 0xC04201, 0xB00508] s t ∧
          t = { s with objs := t.objs, nv := t.nv, jobs := t.jobs, lanes := t.lanes, frames := t.frames, wdp := t.wdp, can := t.can, free := t.free, collector := { s.collector with relay := t.collector.relay } }) ∧
    (∀ (o : Origin) (g : Telegram) (b : BlockSt), s.mine o g = true → s.unserved = false → cutOf g = false → g.op = 0x10 → 1 ≤ g.len.toNat → g.len.toNat ≤ 56 → ((s.wdp.blocks.find? fun x => x.tagGen == tgOf g && !x.read) = some b) → b.index = 0xE010 → s.fromHolder o = true → s.jobs.install.staged = none → g.seg.toNat = b.next % 256 → bit g.status.toNat 0 = false → s.portTaken 2 = false → s.jobs.waiting = [] →
      Completes (.wdpSegment o g) s fun t =>
          t.nv = { s.nv with fw := upd s.nv.fw s.idleBank fun x => { x with image := x.image ++ datOf g } } ∧ t.rd 0xE01104 = (s.nv.fw[s.idleBank].image ++ datOf g).length ∧ (t.wdp.blocks.all fun x => x.tagGen != tgOf g || x == { b with lastAt := s.tick, next := b.next + 1, data := [] }) = true ∧
          KeepsObjs [0xE01104, 0xB00508] s t ∧
          t = { s with objs := t.objs, nv := t.nv, lanes := t.lanes, frames := t.frames, wdp := t.wdp, can := t.can, free := t.free, collector := { s.collector with relay := t.collector.relay } }) ∧
    (∀ (o : Origin) (g : Telegram) (b : BlockSt), s.mine o g = true → s.unserved = false → cutOf g = false → g.op = 0x10 → 1 ≤ g.len.toNat → g.len.toNat ≤ 56 → ((s.wdp.blocks.find? fun x => x.tagGen == tgOf g && !x.read) = some b) → b.index = 0xE010 → s.fromHolder o = true → s.jobs.install.staged = none → g.seg.toNat = b.next % 256 → bit g.status.toNat 0 = true → s.nv.fw[s.idleBank].image.length + (datOf g).length = b.size → s.fwPhase = 1 → s.portTaken 2 = false → s.jobs.waiting = [] →
      Completes (.wdpSegment o g) s fun t =>
          (t.fwPhase = 2 ∧ t.wdp.tags[tagOf b.tagGen].resp = withData (b.response 0 []) 0 [] ∨ t.fwPhase = 6 ∧ t.rd 0xE01103 = 10 ∧ t.wdp.tags[tagOf b.tagGen].resp = withData (b.response 0 []) 11 []) ∧ t.nv.fw[s.idleBank].image = s.nv.fw[s.idleBank].image ++ datOf g ∧ t.wdp.blocks = s.wdp.blocks.filter (fun x => x.tagGen != b.tagGen) ∧ t.wdp.tags[tagOf b.tagGen].state = 2 ∧
          KeepsObjs [0xE01102, 0xE01103, 0xE01104, 0xB00508] s t ∧
          t = { s with objs := t.objs, nv := t.nv, jobs := t.jobs, lanes := t.lanes, frames := t.frames, wdp := t.wdp, can := t.can, free := t.free, collector := { s.collector with relay := t.collector.relay } }) ∧
    (s.power.supervisor = true → s.dev ≠ 0 → s.fwPhase = 2 →
      Completes (.fwCheck) s fun t =>
          t.lastStatus = 0 ∧ t.fwPhase = 3 ∧ t.jobs = { s.jobs with install := { s.jobs.install with checkAt := s.tick } } ∧
          KeepsObjs [0xE01102] s t ∧
          t = { s with objs := t.objs, jobs := t.jobs, lastStatus := t.lastStatus, lastData := t.lastData }) ∧
    (s.power.supervisor = true → s.dev ≠ 0 → s.fwPhase ≠ 2 →
      Completes (.fwCheck) s fun t =>
          t.lastStatus = 6 ∧
          t = { s with lastStatus := t.lastStatus, lastData := t.lastData }) ∧
    (s.fwPhase = 3 →
      Completes (.fwCheckComplete) s fun t =>
          (s.fwTest = 1 → t.fwPhase = 4 ∧ t.rd 0xE01103 = 1 ∧ t.nv.fw[s.idleBank].state = 2 ∧ t.rails = s.rails) ∧ (s.fwTest ≠ 1 → t.fwPhase = 6 ∧ t.rd 0xE01103 = s.fwTest ∧ t.nv.fw[s.idleBank].state = 1 ∧ t.rails.occ.getLsbD 121 = true) ∧ t.nv.fw[s.jobs.install.active] = s.nv.fw[s.jobs.install.active] ∧
          max s.tick (s.jobs.install.checkAt + ceilDiv (82 * (s.checkTicks s.fwTest)) 100) ≤ t.tick ∧ t.tick ≤ max s.tick (s.jobs.install.checkAt + 167 * (s.checkTicks s.fwTest) / 100) ∧
          KeepsObjs [0xE01102, 0xE01103] s t ∧
          t = { s with objs := t.objs, nv := t.nv, jobs := t.jobs, rails := t.rails, tick := t.tick, net := t.net, free := t.free }) ∧
    (s.fwPhase ≠ 3 →
      Completes (.fwCheckComplete) s fun t =>
          t = s) ∧
    (s.power.supervisor = true → s.dev ≠ 0 → s.fwPhase = 4 →
      Completes (.fwActivate) s fun t =>
          t.lastStatus = 0 ∧ t.fwPhase = 5 ∧ t.jobs = { s.jobs with install := { s.jobs.install with waitAt := some (s.tick + msTicks (s.rd 0xE01105)), reply := none } } ∧
          KeepsObjs [0xE01102] s t ∧
          t = { s with objs := t.objs, jobs := t.jobs, lastStatus := t.lastStatus, lastData := t.lastData }) ∧
    (s.power.supervisor = true → s.dev ≠ 0 → s.fwPhase ≠ 4 →
      Completes (.fwActivate) s fun t =>
          t.lastStatus = 6 ∧
          t = { s with lastStatus := t.lastStatus, lastData := t.lastData }) ∧
    (∀ (r : Bool), s.power.supervisor = true → s.fwPhase = 5 → s.quiet = true → s.jobs.install.switched = false → r = true → s.power.bootLoader = false →
      Completes (.fwActivation r) s fun t =>
          t.fwPhase = 0 ∧ t.rd 0xE01103 = 2 ∧ t.power.supervisor = false ∧ t.rd kResetCause = 3 ∧ t.jobs.install.active = s.idleBank ∧ t.jobs.install.switched = false ∧ (commitOf false t.nv.select).2 = s.idleBank.val ∧ t.nv.fw = s.nv.fw ∧ s.minVersion ≤ t.minVersion ∧ leAt s.nv.fw[s.idleBank].image 12 4 ≤ t.minVersion ∧ t.dev = s.dev ∧ t.gates = s.gates ∧ t.tick = s.tick ∧
          t = { s with free := t.free, objs := t.objs, power := t.power, rails := t.rails, lanes := t.lanes, frames := t.frames, meas := t.meas, nv := t.nv, jobs := t.jobs, can := t.can, wdp := t.wdp, hatch := t.hatch, collector := { s.collector with relay := t.collector.relay } }) ∧
    (∀ (r : Bool), (s.power.supervisor = true ∨ s.power.bootLoader = true) → s.fwPhase = 5 → s.quiet = true → s.jobs.install.switched = false → r = false →
      Completes (.fwActivation r) s fun t =>
          (commitOf false t.nv.select).2 = s.idleBank.val ∧ t.nv.fw = s.nv.fw ∧ s.minVersion ≤ t.minVersion ∧ leAt s.nv.fw[s.idleBank].image 12 4 ≤ t.minVersion ∧ t.jobs = { s.jobs with install := { s.jobs.install with waitAt := none, switched := true, reply := none } } ∧ (∀ tg : Byte, s.jobs.install.reply = some tg.toNat → s.running tg.toNat = true → t.wdp.tags[tagOf tg.toNat].state = 2 ∧ t.wdp.tags[tagOf tg.toNat].resp = withStatus s.wdp.tags[tagOf tg.toNat].resp 0) ∧
          KeepsObjs [0xB00508] s t ∧
          t = { s with free := t.free, objs := t.objs, lanes := t.lanes, frames := t.frames, nv := t.nv, jobs := t.jobs, can := t.can, wdp := t.wdp, collector := { s.collector with relay := t.collector.relay } }) ∧
    (∀ (r : Bool), s.jobs.install.switched = true → r = true → s.power.supervisor = true → s.power.bootLoader = false →
      Completes (.fwActivation r) s fun t =>
          t.fwPhase = 0 ∧ t.rd 0xE01103 = 2 ∧ t.power.supervisor = false ∧ t.rd kResetCause = 3 ∧ t.jobs.install.active = s.idleBank ∧ t.jobs.install.switched = false ∧ t.nv.select = s.nv.select ∧ t.dev = s.dev ∧ t.gates = s.gates ∧ t.tick = s.tick ∧
          t = { s with free := t.free, objs := t.objs, power := t.power, rails := t.rails, lanes := t.lanes, frames := t.frames, meas := t.meas, nv := t.nv, jobs := t.jobs, can := t.can, wdp := t.wdp, hatch := t.hatch, collector := { s.collector with relay := t.collector.relay } }) ∧
    (∀ (r : Bool), s.power.bootLoader = true → s.fwPhase = 5 → s.quiet = true → s.jobs.install.switched = false → r = true →
      Completes (.fwActivation r) s fun t =>
          t.rd kResetCause = 3 ∧ t.fwPhase = 0 ∧ t.rd 0xE01103 = 2 ∧ (commitOf false t.nv.select).2 = s.idleBank.val ∧ t.tick = s.tick) ∧
    (∀ (r : Bool), ((s.power.supervisor = false ∧ s.power.bootLoader = false) ∨ s.fwPhase ≠ 5 ∨ s.quiet = false) → s.jobs.install.switched = false →
      Completes (.fwActivation r) s fun t =>
          t = s) ∧
    (∀ (r : Bool), s.jobs.install.switched = true → r = false →
      Completes (.fwActivation r) s fun t =>
          t = s) ∧
    (∀ (d : Nat), s.jobs.install.waitAt = some d → s.fwPhase = 5 →
      Completes (.activateWaitExpiry) s fun t =>
          t.tick = max s.tick d ∧ t.fwPhase = 4 ∧ t.rd 0xE01103 = 9 ∧ t.jobs.install.waitAt = none ∧ (∀ tg : Byte, s.jobs.install.reply = some tg.toNat → s.running tg.toNat = true → t.wdp.tags[tagOf tg.toNat].state = 2 ∧ t.wdp.tags[tagOf tg.toNat].resp = withStatus s.wdp.tags[tagOf tg.toNat].resp 0) ∧
          KeepsObjs [0xE01102, 0xE01103, 0xB00508] s t ∧
          t = { s with objs := t.objs, lanes := t.lanes, frames := t.frames, wdp := t.wdp, can := t.can, tick := t.tick, net := t.net, jobs := t.jobs, free := t.free, collector := { s.collector with relay := t.collector.relay } }) ∧
    ((s.jobs.install.waitAt = none ∨ s.fwPhase ≠ 5) →
      Completes (.activateWaitExpiry) s fun t =>
          t = s)

/-- Maintenance activities. A request that no check refuses starts in the lowest slot that is not running, with its claims and its duration; a refused one answers STATUS 6 with the refusal, its holder and source 125. STOP ends the slots it names with OUTCOME 2 and leaves the others. An activity that reaches its end is completed or failed, its values are those that the device has counted or those measured, its claims are released, with source 123 where it completed and 124 where it failed or found something; a slot that runs none, an open-wire sweep that still tests and a scrub without the port do not end. Under hypotheses on the state and the operands alone, exec answers a next state with the command's own effect for: maintStandbySoak, maintLanePrbs, maintOpenWireSweep, maintNtcSweep, maintFineDelaySweep, maintGateLoopback, maintNvScrub, maintFailoverDrill, maintStop, maintActivityEnd. (spec/19 R614, R628, R629, R630, R631, R636.) -/
def Obligations.MaintenanceActivitiesRunAndStop : Prop :=
  ∀ s : State,
    (∀ (x : BitVec 32) (y : BitVec 32) (n : Fin 4), s.power.supervisor = true → s.dev ≠ 0 → s.maintRefusal 1 x.toNat = none → (((List.finRange 4).find? fun (k : Fin 4) => s.jobs.slots[k].isNone) = some n) →
      Completes (.maintStandbySoak x y) s fun t =>
          t.lastStatus = 0 ∧ t.jobs = { s.jobs with slots := s.jobs.slots.set n (some ⟨1, x.toNat, s.tick + msTicks (if y = 0 then maintDefault 1 else y.toNat), s.standby, s.tick, 0, 0⟩) } ∧ t.rd (0xE02101 + 4 * n.val) = 1 ∧ t.rd (0xE02102 + 4 * n.val) = 1 ∧ t.slotClaims n = s.claimsOf 1 x.toNat ∧
          KeepsObjs [0xE02101 + 4 * n.val, 0xE02102 + 4 * n.val, 0xE02103 + 4 * n.val, 0xE02104 + 4 * n.val] s t ∧
          t = { s with objs := t.objs, jobs := t.jobs, lastStatus := t.lastStatus, lastData := t.lastData }) ∧
    (∀ (x : BitVec 32) (y : BitVec 32) (n : Fin 4), s.power.supervisor = true → s.dev ≠ 0 → s.maintRefusal 2 x.toNat = none → (((List.finRange 4).find? fun (k : Fin 4) => s.jobs.slots[k].isNone) = some n) →
      Completes (.maintLanePrbs x y) s fun t =>
          t.lastStatus = 0 ∧ t.jobs = { s.jobs with slots := s.jobs.slots.set n (some ⟨2, x.toNat, s.tick + msTicks (if y = 0 then maintDefault 2 else y.toNat), x.toNat, s.tick, 0, 0⟩) } ∧ t.rd (0xE02101 + 4 * n.val) = 2 ∧ t.rd (0xE02102 + 4 * n.val) = 1 ∧ t.slotClaims n = s.claimsOf 2 x.toNat ∧
          KeepsObjs [0xE02101 + 4 * n.val, 0xE02102 + 4 * n.val, 0xE02103 + 4 * n.val, 0xE02104 + 4 * n.val] s t ∧
          t = { s with objs := t.objs, jobs := t.jobs, lastStatus := t.lastStatus, lastData := t.lastData }) ∧
    (∀ (x : BitVec 32) (y : BitVec 32) (n : Fin 4), s.power.supervisor = true → s.dev ≠ 0 → s.maintRefusal 3 x.toNat = none → (((List.finRange 4).find? fun (k : Fin 4) => s.jobs.slots[k].isNone) = some n) →
      Completes (.maintOpenWireSweep x y) s fun t =>
          t.lastStatus = 0 ∧ t.jobs = { s.jobs with slots := s.jobs.slots.set n (some ⟨3, x.toNat, s.tick + msTicks (if y = 0 then maintDefault 3 else y.toNat), s.standby, s.tick, 0, 0⟩) } ∧ t.rd (0xE02101 + 4 * n.val) = 3 ∧ t.rd (0xE02102 + 4 * n.val) = 1 ∧ t.slotClaims n = s.claimsOf 3 x.toNat ∧
          KeepsOtherAreas [4, 0xE] s t ∧
          t = { s with objs := t.objs, jobs := t.jobs, lastStatus := t.lastStatus, lastData := t.lastData, meas := t.meas, tick := t.tick, net := t.net, free := t.free, rails := t.rails }) ∧
    (∀ (x : BitVec 32) (y : BitVec 32) (n : Fin 4), s.power.supervisor = true → s.dev ≠ 0 → s.maintRefusal 4 x.toNat = none → (((List.finRange 4).find? fun (k : Fin 4) => s.jobs.slots[k].isNone) = some n) →
      Completes (.maintNtcSweep x y) s fun t =>
          t.lastStatus = 0 ∧ t.jobs = { s.jobs with slots := s.jobs.slots.set n (some ⟨4, x.toNat, s.tick + msTicks (if y = 0 then maintDefault 4 else y.toNat), s.standby, s.tick, 0, 0⟩) } ∧ t.rd (0xE02101 + 4 * n.val) = 4 ∧ t.rd (0xE02102 + 4 * n.val) = 1 ∧ t.slotClaims n = s.claimsOf 4 x.toNat ∧
          KeepsObjs [0xE02101 + 4 * n.val, 0xE02102 + 4 * n.val, 0xE02103 + 4 * n.val, 0xE02104 + 4 * n.val] s t ∧
          t = { s with objs := t.objs, jobs := t.jobs, lastStatus := t.lastStatus, lastData := t.lastData }) ∧
    (∀ (x : BitVec 32) (y : BitVec 32) (n : Fin 4), s.power.supervisor = true → s.dev ≠ 0 → s.maintRefusal 5 x.toNat = none → (((List.finRange 4).find? fun (k : Fin 4) => s.jobs.slots[k].isNone) = some n) →
      Completes (.maintFineDelaySweep x y) s fun t =>
          t.lastStatus = 0 ∧ t.jobs = { s.jobs with slots := s.jobs.slots.set n (some ⟨5, x.toNat, s.tick + msTicks (if y = 0 then maintDefault 5 else y.toNat), s.standby, s.tick, 0, 0⟩) } ∧ t.rd (0xE02101 + 4 * n.val) = 5 ∧ t.rd (0xE02102 + 4 * n.val) = 1 ∧ t.slotClaims n = s.claimsOf 5 x.toNat ∧
          KeepsObjs [0xE02101 + 4 * n.val, 0xE02102 + 4 * n.val, 0xE02103 + 4 * n.val, 0xE02104 + 4 * n.val] s t ∧
          t = { s with objs := t.objs, jobs := t.jobs, lastStatus := t.lastStatus, lastData := t.lastData }) ∧
    (∀ (x : BitVec 32) (y : BitVec 32) (n : Fin 4), s.power.supervisor = true → s.dev ≠ 0 → s.maintRefusal 6 x.toNat = none → (((List.finRange 4).find? fun (k : Fin 4) => s.jobs.slots[k].isNone) = some n) →
      Completes (.maintGateLoopback x y) s fun t =>
          t.lastStatus = 0 ∧ t.jobs = { s.jobs with slots := s.jobs.slots.set n (some ⟨6, x.toNat, s.tick + msTicks (if y = 0 then maintDefault 6 else y.toNat), s.standby, s.tick, 0, 0⟩) } ∧ t.rd (0xE02101 + 4 * n.val) = 6 ∧ t.rd (0xE02102 + 4 * n.val) = 1 ∧ t.slotClaims n = s.claimsOf 6 x.toNat ∧
          KeepsObjs [0xE02101 + 4 * n.val, 0xE02102 + 4 * n.val, 0xE02103 + 4 * n.val, 0xE02104 + 4 * n.val] s t ∧
          t = { s with objs := t.objs, jobs := t.jobs, lastStatus := t.lastStatus, lastData := t.lastData }) ∧
    (∀ (x : BitVec 32) (y : BitVec 32) (n : Fin 4), s.power.supervisor = true → s.dev ≠ 0 → s.maintRefusal 7 x.toNat = none → (((List.finRange 4).find? fun (k : Fin 4) => s.jobs.slots[k].isNone) = some n) →
      Completes (.maintNvScrub x y) s fun t =>
          t.lastStatus = 0 ∧ t.jobs = { s.jobs with slots := s.jobs.slots.set n (some ⟨7, x.toNat, s.tick + msTicks (if y = 0 then maintDefault 7 else y.toNat), s.standby, s.tick, 0, 0⟩) } ∧ t.rd (0xE02101 + 4 * n.val) = 7 ∧ t.rd (0xE02102 + 4 * n.val) = 1 ∧ t.slotClaims n = s.claimsOf 7 x.toNat ∧
          KeepsObjs [0xE02101 + 4 * n.val, 0xE02102 + 4 * n.val, 0xE02103 + 4 * n.val, 0xE02104 + 4 * n.val] s t ∧
          t = { s with objs := t.objs, jobs := t.jobs, lastStatus := t.lastStatus, lastData := t.lastData }) ∧
    (∀ (x : BitVec 32) (y : BitVec 32) (n : Fin 4), s.power.supervisor = true → s.dev ≠ 0 → s.maintRefusal 8 x.toNat = none → (((List.finRange 4).find? fun (k : Fin 4) => s.jobs.slots[k].isNone) = some n) →
      Completes (.maintFailoverDrill x y) s fun t =>
          t.lastStatus = 0 ∧ t.jobs = { s.jobs with slots := s.jobs.slots.set n (some ⟨8, x.toNat, s.tick + msTicks (if y = 0 then maintDefault 8 else y.toNat), s.holder % 2, s.tick, 0, 0⟩) } ∧ t.rd (0xE02101 + 4 * n.val) = 8 ∧ t.rd (0xE02102 + 4 * n.val) = 1 ∧ t.slotClaims n = s.claimsOf 8 x.toNat ∧
          KeepsObjs [0xE02101 + 4 * n.val, 0xE02102 + 4 * n.val, 0xE02103 + 4 * n.val, 0xE02104 + 4 * n.val, 0xB00508] s t ∧
          t = { s with objs := t.objs, jobs := t.jobs, lastStatus := t.lastStatus, lastData := t.lastData, lanes := t.lanes, frames := t.frames }) ∧
    (∀ (x : BitVec 32) (y : BitVec 32) (c : Nat) (h : Nat), s.power.supervisor = true → s.dev ≠ 0 → s.maintRefusal 1 x.toNat = some (c, h) →
      Completes (.maintStandbySoak x y) s fun t =>
          t.lastStatus = 6 ∧ t.rd 0xE02003 = c ∧ t.rd 0xE02004 = h ∧ t.rails.occ.getLsbD 125 = true ∧
          KeepsObjs [0xE02003, 0xE02004] s t ∧
          t = { s with objs := t.objs, rails := t.rails, lastStatus := t.lastStatus, lastData := t.lastData }) ∧
    (∀ (x : BitVec 32) (y : BitVec 32) (c : Nat) (h : Nat), s.power.supervisor = true → s.dev ≠ 0 → s.maintRefusal 2 x.toNat = some (c, h) →
      Completes (.maintLanePrbs x y) s fun t =>
          t.lastStatus = 6 ∧ t.rd 0xE02003 = c ∧ t.rd 0xE02004 = h ∧ t.rails.occ.getLsbD 125 = true ∧
          KeepsObjs [0xE02003, 0xE02004] s t ∧
          t = { s with objs := t.objs, rails := t.rails, lastStatus := t.lastStatus, lastData := t.lastData }) ∧
    (∀ (x : BitVec 32) (y : BitVec 32) (c : Nat) (h : Nat), s.power.supervisor = true → s.dev ≠ 0 → s.maintRefusal 3 x.toNat = some (c, h) →
      Completes (.maintOpenWireSweep x y) s fun t =>
          t.lastStatus = 6 ∧ t.rd 0xE02003 = c ∧ t.rd 0xE02004 = h ∧ t.rails.occ.getLsbD 125 = true ∧
          KeepsObjs [0xE02003, 0xE02004] s t ∧
          t = { s with objs := t.objs, rails := t.rails, lastStatus := t.lastStatus, lastData := t.lastData }) ∧
    (∀ (x : BitVec 32) (y : BitVec 32) (c : Nat) (h : Nat), s.power.supervisor = true → s.dev ≠ 0 → s.maintRefusal 4 x.toNat = some (c, h) →
      Completes (.maintNtcSweep x y) s fun t =>
          t.lastStatus = 6 ∧ t.rd 0xE02003 = c ∧ t.rd 0xE02004 = h ∧ t.rails.occ.getLsbD 125 = true ∧
          KeepsObjs [0xE02003, 0xE02004] s t ∧
          t = { s with objs := t.objs, rails := t.rails, lastStatus := t.lastStatus, lastData := t.lastData }) ∧
    (∀ (x : BitVec 32) (y : BitVec 32) (c : Nat) (h : Nat), s.power.supervisor = true → s.dev ≠ 0 → s.maintRefusal 5 x.toNat = some (c, h) →
      Completes (.maintFineDelaySweep x y) s fun t =>
          t.lastStatus = 6 ∧ t.rd 0xE02003 = c ∧ t.rd 0xE02004 = h ∧ t.rails.occ.getLsbD 125 = true ∧
          KeepsObjs [0xE02003, 0xE02004] s t ∧
          t = { s with objs := t.objs, rails := t.rails, lastStatus := t.lastStatus, lastData := t.lastData }) ∧
    (∀ (x : BitVec 32) (y : BitVec 32) (c : Nat) (h : Nat), s.power.supervisor = true → s.dev ≠ 0 → s.maintRefusal 6 x.toNat = some (c, h) →
      Completes (.maintGateLoopback x y) s fun t =>
          t.lastStatus = 6 ∧ t.rd 0xE02003 = c ∧ t.rd 0xE02004 = h ∧ t.rails.occ.getLsbD 125 = true ∧
          KeepsObjs [0xE02003, 0xE02004] s t ∧
          t = { s with objs := t.objs, rails := t.rails, lastStatus := t.lastStatus, lastData := t.lastData }) ∧
    (∀ (x : BitVec 32) (y : BitVec 32) (c : Nat) (h : Nat), s.power.supervisor = true → s.dev ≠ 0 → s.maintRefusal 7 x.toNat = some (c, h) →
      Completes (.maintNvScrub x y) s fun t =>
          t.lastStatus = 6 ∧ t.rd 0xE02003 = c ∧ t.rd 0xE02004 = h ∧ t.rails.occ.getLsbD 125 = true ∧
          KeepsObjs [0xE02003, 0xE02004] s t ∧
          t = { s with objs := t.objs, rails := t.rails, lastStatus := t.lastStatus, lastData := t.lastData }) ∧
    (∀ (x : BitVec 32) (y : BitVec 32) (c : Nat) (h : Nat), s.power.supervisor = true → s.dev ≠ 0 → s.maintRefusal 8 x.toNat = some (c, h) →
      Completes (.maintFailoverDrill x y) s fun t =>
          t.lastStatus = 6 ∧ t.rd 0xE02003 = c ∧ t.rd 0xE02004 = h ∧ t.rails.occ.getLsbD 125 = true ∧
          KeepsObjs [0xE02003, 0xE02004] s t ∧
          t = { s with objs := t.objs, rails := t.rails, lastStatus := t.lastStatus, lastData := t.lastData }) ∧
    (∀ (m : Byte), s.power.supervisor = true → s.dev ≠ 0 →
      Completes (.maintStop m) s fun t =>
          t.lastStatus = 0 ∧ (∀ n : Fin 4, bit (m.toNat % 16) n.val = true → t.jobs.slots[n] = none ∧ (s.jobs.slots[n].isSome = true → t.rd (0xE02102 + 4 * n.val) = 2 ∧ byteAt (natLe 16 (t.rd (0xE02104 + 4 * n.val))) 0 = 2 ∧ t.slotClaims n = 0)) ∧ (∀ n : Fin 4, bit (m.toNat % 16) n.val = false → t.jobs.slots[n] = s.jobs.slots[n]) ∧ t.tick = s.tick ∧
          t = { s with net := t.net, free := t.free, signals := t.signals, objs := t.objs, power := t.power, clock := t.clock, gates := t.gates, carriers := t.carriers, legs := t.legs, guard := t.guard, rails := t.rails, winTrip := t.winTrip, engines := t.engines, modeDone := t.modeDone, charge := t.charge, string := t.string, lanes := t.lanes, lease := t.lease, frames := t.frames, meas := t.meas, thermal := t.thermal, nv := t.nv, jobs := t.jobs, can := t.can, wdp := t.wdp, capture := t.capture, lastStatus := t.lastStatus, lastData := t.lastData, collector := { s.collector with relay := t.collector.relay } }) ∧
    (∀ (n : Fin 4) (o : Byte) (a : BitVec 32) (b : BitVec 32) (c : BitVec 32) (j : SlotSt), s.jobs.slots[n] = some j → j.act = 1 →
      Completes (.maintActivityEnd n o a b c) s fun t =>
          t.jobs.slots[n] = none ∧ (∀ k : Fin 4, k ≠ n → t.jobs.slots[k] = s.jobs.slots[k]) ∧ t.rd (0xE02102 + 4 * n.val) = 2 ∧ t.slotClaims n = 0 ∧ t.rd (0xE02104 + 4 * n.val) = (if o = 3 then 3 else 1) + j.seen % 2 ^ 32 * 2 ^ 32 + (s.advanceTo j.until_).rd (0xB02202 + 8 * j.path) % 2 ^ 32 * 2 ^ 64 + j.longest % 2 ^ 32 * 2 ^ 96 ∧ (o ≠ 3 → t.rails.occ.getLsbD 123 = true) ∧ (o = 3 ∨ s.finding j.act (j.seen) ((s.advanceTo j.until_).rd (0xB02202 + 8 * j.path)) (j.longest) = true → t.rails.occ.getLsbD 124 = true) ∧ t.tick = max s.tick j.until_ ∧
          KeepsOtherAreas [0xB, 0xE] s t ∧
          t = { s with objs := t.objs, jobs := t.jobs, rails := t.rails, lanes := t.lanes, tick := t.tick, net := t.net }) ∧
    (∀ (n : Fin 4) (o : Byte) (a : BitVec 32) (b : BitVec 32) (c : BitVec 32) (j : SlotSt), s.jobs.slots[n] = some j → (j.act = 2 ∨ j.act = 4) →
      Completes (.maintActivityEnd n o a b c) s fun t =>
          t.jobs.slots[n] = none ∧ (∀ k : Fin 4, k ≠ n → t.jobs.slots[k] = s.jobs.slots[k]) ∧ t.rd (0xE02102 + 4 * n.val) = 2 ∧ t.slotClaims n = 0 ∧ t.rd (0xE02104 + 4 * n.val) = (if o = 3 then 3 else 1) + a.toNat % 2 ^ 32 * 2 ^ 32 + b.toNat % 2 ^ 32 * 2 ^ 64 + c.toNat % 2 ^ 32 * 2 ^ 96 ∧ (o ≠ 3 → t.rails.occ.getLsbD 123 = true) ∧ (o = 3 ∨ s.finding j.act (a.toNat) (b.toNat) (c.toNat) = true → t.rails.occ.getLsbD 124 = true) ∧ t.tick = max s.tick j.until_ ∧
          KeepsOtherAreas [0xB, 0xE] s t ∧
          t = { s with objs := t.objs, jobs := t.jobs, rails := t.rails, lanes := t.lanes, tick := t.tick, net := t.net }) ∧
    (∀ (n : Fin 4) (o : Byte) (a : BitVec 32) (b : BitVec 32) (c : BitVec 32) (j : SlotSt), s.jobs.slots[n] = some j → j.act = 3 → s.rd 0x450008 ≠ 1 →
      Completes (.maintActivityEnd n o a b c) s fun t =>
          t.jobs.slots[n] = none ∧ (∀ k : Fin 4, k ≠ n → t.jobs.slots[k] = s.jobs.slots[k]) ∧ t.rd (0xE02102 + 4 * n.val) = 2 ∧ t.slotClaims n = 0 ∧ t.rd (0xE02104 + 4 * n.val) = (if o = 3 then 3 else 1) + s.sweepOpen % 2 ^ 32 * 2 ^ 32 + s.sweepTested j.arg % 2 ^ 32 * 2 ^ 64 + 0 % 2 ^ 32 * 2 ^ 96 ∧ (o ≠ 3 → t.rails.occ.getLsbD 123 = true) ∧ (o = 3 ∨ s.finding j.act (s.sweepOpen) (s.sweepTested j.arg) (0) = true → t.rails.occ.getLsbD 124 = true) ∧ t.tick = s.tick ∧
          KeepsOtherAreas [0xE] s t ∧
          t = { s with objs := t.objs, jobs := t.jobs, rails := t.rails, lanes := t.lanes, tick := t.tick, net := t.net }) ∧
    (∀ (n : Fin 4) (o : Byte) (a : BitVec 32) (b : BitVec 32) (c : BitVec 32) (j : SlotSt), s.jobs.slots[n] = some j → j.act = 5 →
      Completes (.maintActivityEnd n o a b c) s fun t =>
          t.jobs.slots[n] = none ∧ (∀ k : Fin 4, k ≠ n → t.jobs.slots[k] = s.jobs.slots[k]) ∧ t.rd (0xE02102 + 4 * n.val) = 2 ∧ t.slotClaims n = 0 ∧ t.rd (0xE02104 + 4 * n.val) = (if o = 3 then 3 else 1) + a.toNat % 2 ^ 32 * 2 ^ 32 + b.toNat % 2 ^ 32 * 2 ^ 64 + c.toNat % 2 ^ 32 * 2 ^ 96 ∧ (o ≠ 3 → t.rails.occ.getLsbD 123 = true) ∧ (o = 3 ∨ s.finding j.act (a.toNat) (b.toNat) (c.toNat) = true → t.rails.occ.getLsbD 124 = true) ∧ t.tick = s.tick ∧
          KeepsOtherAreas [0xE] s t ∧
          t = { s with objs := t.objs, jobs := t.jobs, rails := t.rails, lanes := t.lanes, tick := t.tick, net := t.net }) ∧
    (∀ (n : Fin 4) (o : Byte) (a : BitVec 32) (b : BitVec 32) (c : BitVec 32) (j : SlotSt), s.jobs.slots[n] = some j → j.act = 6 →
      Completes (.maintActivityEnd n o a b c) s fun t =>
          t.jobs.slots[n] = none ∧ (∀ k : Fin 4, k ≠ n → t.jobs.slots[k] = s.jobs.slots[k]) ∧ t.rd (0xE02102 + 4 * n.val) = 2 ∧ t.slotClaims n = 0 ∧ t.rd (0xE02104 + 4 * n.val) = (if o = 3 then 3 else 1) + a.toNat % 2 ^ 32 * 2 ^ 32 + b.toNat % 2 ^ 32 * 2 ^ 64 + j.seen % 2 ^ 32 * 2 ^ 96 ∧ (o ≠ 3 → t.rails.occ.getLsbD 123 = true) ∧ (o = 3 ∨ s.finding j.act (a.toNat) (b.toNat) (j.seen) = true → t.rails.occ.getLsbD 124 = true) ∧ t.tick = max s.tick j.until_ ∧
          KeepsOtherAreas [3, 7, 8, 0xA, 0xB, 0xE] s t ∧
          t = { s with net := t.net, free := t.free, signals := t.signals, objs := t.objs, power := t.power, clock := t.clock, gates := t.gates, carriers := t.carriers, legs := t.legs, guard := t.guard, rails := t.rails, winTrip := t.winTrip, engines := t.engines, modeDone := t.modeDone, charge := t.charge, string := t.string, lanes := t.lanes, lease := t.lease, frames := t.frames, meas := t.meas, thermal := t.thermal, nv := t.nv, jobs := t.jobs, can := t.can, wdp := t.wdp, capture := t.capture, tick := t.tick, collector := { s.collector with relay := t.collector.relay } }) ∧
    (∀ (n : Fin 4) (o : Byte) (a : BitVec 32) (b : BitVec 32) (c : BitVec 32) (j : SlotSt), s.jobs.slots[n] = some j → j.act = 7 → s.portTaken 4 = false →
      Completes (.maintActivityEnd n o a b c) s fun t =>
          t.jobs.slots[n] = none ∧ (∀ k : Fin 4, k ≠ n → t.jobs.slots[k] = s.jobs.slots[k]) ∧ t.rd (0xE02102 + 4 * n.val) = 2 ∧ t.slotClaims n = 0 ∧ t.rd (0xE02104 + 4 * n.val) = (if o = 3 then 3 else 1) + a.toNat % 2 ^ 32 * 2 ^ 32 + b.toNat % 2 ^ 32 * 2 ^ 64 + c.toNat % 2 ^ 32 * 2 ^ 96 ∧ (o ≠ 3 → t.rails.occ.getLsbD 123 = true) ∧ (o = 3 ∨ s.finding j.act (a.toNat) (b.toNat) (c.toNat) = true → t.rails.occ.getLsbD 124 = true) ∧ t.tick = s.tick ∧
          KeepsOtherAreas [0xE] s t ∧
          t = { s with objs := t.objs, jobs := t.jobs, rails := t.rails, lanes := t.lanes, tick := t.tick, net := t.net }) ∧
    (∀ (n : Fin 4) (o : Byte) (a : BitVec 32) (b : BitVec 32) (c : BitVec 32) (j : SlotSt), s.jobs.slots[n] = some j → j.act = 8 →
      Completes (.maintActivityEnd n o a b c) s fun t =>
          t.jobs.slots[n] = none ∧ (∀ k : Fin 4, k ≠ n → t.jobs.slots[k] = s.jobs.slots[k]) ∧ t.rd (0xE02102 + 4 * n.val) = 2 ∧ t.slotClaims n = 0 ∧ t.rd (0xE02104 + 4 * n.val) = (if o = 3 then 3 else 1) + popCount 32 j.seen % 2 ^ 32 * 2 ^ 32 + (s.drillAll &&& (s.drillAll ^^^ j.seen)) % 2 ^ 32 * 2 ^ 64 + c.toNat % 2 ^ 32 * 2 ^ 96 ∧ (o ≠ 3 → t.rails.occ.getLsbD 123 = true) ∧ (o = 3 ∨ s.finding j.act (popCount 32 j.seen) ((s.drillAll &&& (s.drillAll ^^^ j.seen))) (c.toNat) = true → t.rails.occ.getLsbD 124 = true) ∧ t.tick = max s.tick j.until_ ∧
          KeepsOtherAreas [0xB, 0xE] s t ∧
          t = { s with objs := t.objs, jobs := t.jobs, rails := t.rails, lanes := t.lanes, tick := t.tick, net := t.net, frames := t.frames }) ∧
    (∀ (n : Fin 4) (o : Byte) (a : BitVec 32) (b : BitVec 32) (c : BitVec 32), (match s.jobs.slots[n] with | some j => (j.act == 3 && s.rd 0x450008 == 1) || (j.act == 7 && s.portTaken 4) | none => true) = true →
      Completes (.maintActivityEnd n o a b c) s fun t =>
          t = s)

/-- ABORT. A write of ABORT with one bit stops that function: capture disarms, block transfers end with STATUS 11, a STORE ends without a commit, a firmware install fails with RESULT 8, maintenance activities end, a removal not yet applied ends with RESULT 11 and a re-insertion goes back and is pending until it has ended, forwarded transactions are dropped; LAST_MASK names it, LAST_OUTCOME is 0 where there was something to stop, 1 where a STORE was committing, an activation had passed its step 1 or a removal had been issued, and 2 where there was nothing; the count rises. Under hypotheses on the state and the operands alone, exec answers a next state with the command's own effect for: abortCapture, abortBlock, abortStore, abortFwInstall, abortMaint, abortMolt, abortForward. (spec/04 R116, R117, R118, R119; spec/10 R349; spec/14 R460; spec/17 R561; spec/18 R601; spec/19 R631.) -/
def Obligations.AbortStopsTheNamedFunction : Prop :=
  ∀ s : State,
    (s.power.supervisor = true → s.dev ≠ 0 → (s.jobs.waiting = [] ∨ s.portTaken 2 = true) → (s.jobs.install.staged = none ∨ s.jobs.waiting.any NvJob.isFw = true) → (s.capture.armedAt ≠ none ∨ s.capture.record ≠ none ∨ s.capture.firings ≠ []) →
      Completes (.abortCapture) s fun t =>
          t.lastStatus = 0 ∧ t.rd 0x100301 = 0 ∧ t.rd 0x100302 = 1 ∧ t.rd 0x100304 ≤ 100000 ∧ t.rd 0x100305 = wrapInc 32 (s.rd 0x100305) ∧ t.power.abortAt = s.tick ∧ t.rd 0x100303 = 0 ∧ t.capture.armedAt = none ∧ t.capture.record = none ∧ t.capture.firings = [] ∧ t.capture.ring = s.capture.ring ∧
          KeepsOtherAreas [1, 0xD] s t ∧
          t = { s with objs := t.objs, free := t.free, power := t.power, lastStatus := t.lastStatus, lastData := t.lastData, rails := t.rails, capture := t.capture }) ∧
    (s.power.supervisor = true → s.dev ≠ 0 → (s.jobs.waiting = [] ∨ s.portTaken 2 = true) → (s.jobs.install.staged = none ∨ s.jobs.waiting.any NvJob.isFw = true) → s.capture.armedAt = none → s.capture.record = none → s.capture.firings = [] →
      Completes (.abortCapture) s fun t =>
          t.lastStatus = 0 ∧ t.rd 0x100301 = 0 ∧ t.rd 0x100302 = 1 ∧ t.rd 0x100304 ≤ 100000 ∧ t.rd 0x100305 = wrapInc 32 (s.rd 0x100305) ∧ t.power.abortAt = s.tick ∧ t.rd 0x100303 = 2 ∧ t.rd 0x100304 = 0 ∧
          KeepsObjs [0x100301, 0x100302, 0x100303, 0x100304, 0x100305] s t ∧
          t = { s with objs := t.objs, free := t.free, power := t.power, lastStatus := t.lastStatus, lastData := t.lastData }) ∧
    (s.power.supervisor = true → s.dev ≠ 0 → (s.jobs.waiting = [] ∨ s.portTaken 2 = true) → (s.jobs.install.staged = none ∨ s.jobs.waiting.any NvJob.isFw = true) → s.wdp.blocks ≠ [] →
      Completes (.abortBlock) s fun t =>
          t.lastStatus = 0 ∧ t.rd 0x100301 = 0 ∧ t.rd 0x100302 = 2 ∧ t.rd 0x100304 ≤ 100000 ∧ t.rd 0x100305 = wrapInc 32 (s.rd 0x100305) ∧ t.power.abortAt = s.tick ∧ t.rd 0x100303 = 0 ∧ t.wdp.blocks = [] ∧ (s.wdp.blocks.all fun b => t.wdp.tags[tagOf b.tagGen].state == 2 && byteAt t.wdp.tags[tagOf b.tagGen].resp 2 == 11) = true ∧ t.tick = s.tick ∧
          KeepsOtherAreas [1, 0xB, 0xE] s t ∧
          t = { s with objs := t.objs, free := t.free, power := t.power, lastStatus := t.lastStatus, lastData := t.lastData, lanes := t.lanes, frames := t.frames, wdp := t.wdp, can := t.can, nv := t.nv, jobs := t.jobs, rails := t.rails, collector := { s.collector with relay := t.collector.relay } }) ∧
    (s.power.supervisor = true → s.dev ≠ 0 → (s.jobs.waiting = [] ∨ s.portTaken 2 = true) → (s.jobs.install.staged = none ∨ s.jobs.waiting.any NvJob.isFw = true) → s.wdp.blocks = [] →
      Completes (.abortBlock) s fun t =>
          t.lastStatus = 0 ∧ t.rd 0x100301 = 0 ∧ t.rd 0x100302 = 2 ∧ t.rd 0x100304 ≤ 100000 ∧ t.rd 0x100305 = wrapInc 32 (s.rd 0x100305) ∧ t.power.abortAt = s.tick ∧ t.rd 0x100303 = 2 ∧ t.rd 0x100304 = 0 ∧
          KeepsObjs [0x100301, 0x100302, 0x100303, 0x100304, 0x100305] s t ∧
          t = { s with objs := t.objs, free := t.free, power := t.power, lastStatus := t.lastStatus, lastData := t.lastData }) ∧
    (s.power.supervisor = true → s.dev ≠ 0 → s.storeCommitting = false → s.jobs.store.isSome = true →
      Completes (.abortStore) s fun t =>
          t.lastStatus = 0 ∧ t.rd 0x100301 = 0 ∧ t.rd 0x100302 = 4 ∧ t.rd 0x100304 ≤ 100000 ∧ t.rd 0x100305 = wrapInc 32 (s.rd 0x100305) ∧ t.power.abortAt = s.tick ∧ t.jobs.store = none ∧ t.rd 0x100303 = 0 ∧ t.bitAt 0xE00101 0 = false ∧ t.rd 0xE00102 = 3 ∧ t.nv.commit = s.nv.commit ∧ t.nv.dict = s.nv.dict ∧
          KeepsOtherAreas [1, 0xB, 0xE] s t ∧
          t = { s with objs := t.objs, free := t.free, power := t.power, lastStatus := t.lastStatus, lastData := t.lastData, jobs := t.jobs, nv := t.nv, lanes := t.lanes, frames := t.frames, wdp := t.wdp, can := t.can, collector := { s.collector with relay := t.collector.relay } }) ∧
    (s.power.supervisor = true → s.dev ≠ 0 → (s.jobs.waiting = [] ∨ s.portTaken 2 = true) → (s.jobs.install.staged = none ∨ s.jobs.waiting.any NvJob.isFw = true) → (s.storeCommitting = true ∨ s.jobs.store = none) →
      Completes (.abortStore) s fun t =>
          t.lastStatus = 0 ∧ t.rd 0x100301 = 0 ∧ t.rd 0x100302 = 4 ∧ t.rd 0x100304 ≤ 100000 ∧ t.rd 0x100305 = wrapInc 32 (s.rd 0x100305) ∧ t.power.abortAt = s.tick ∧ t.rd 0x100303 = (if s.storeCommitting then 1 else 2) ∧ t.rd 0x100304 = 0 ∧
          KeepsObjs [0x100301, 0x100302, 0x100303, 0x100304, 0x100305] s t ∧
          t = { s with objs := t.objs, free := t.free, power := t.power, lastStatus := t.lastStatus, lastData := t.lastData }) ∧
    (s.power.supervisor = true → s.dev ≠ 0 → 1 ≤ s.fwPhase → s.fwPhase ≤ 5 → s.jobs.install.switched = false →
      Completes (.abortFwInstall) s fun t =>
          t.lastStatus = 0 ∧ t.rd 0x100301 = 0 ∧ t.rd 0x100302 = 8 ∧ t.rd 0x100304 ≤ 100000 ∧ t.rd 0x100305 = wrapInc 32 (s.rd 0x100305) ∧ t.power.abortAt = s.tick ∧ t.rd 0x100303 = 0 ∧ t.fwPhase = 6 ∧ t.rd 0xE01103 = 8 ∧ t.nv.fw[s.idleBank].state = 1 ∧ t.nv.fw[s.jobs.install.active] = s.nv.fw[s.jobs.install.active] ∧ t.tick = s.tick ∧
          KeepsOtherAreas [1, 0xB, 0xE] s t ∧
          t = { s with objs := t.objs, free := t.free, power := t.power, lastStatus := t.lastStatus, lastData := t.lastData, jobs := t.jobs, nv := t.nv, lanes := t.lanes, frames := t.frames, wdp := t.wdp, can := t.can, rails := t.rails, collector := { s.collector with relay := t.collector.relay } }) ∧
    (s.power.supervisor = true → s.dev ≠ 0 → (s.jobs.waiting = [] ∨ s.portTaken 2 = true) → (s.jobs.install.staged = none ∨ s.jobs.waiting.any NvJob.isFw = true) → (s.fwPhase = 0 ∨ s.fwPhase = 6 ∨ s.jobs.install.switched = true) →
      Completes (.abortFwInstall) s fun t =>
          t.lastStatus = 0 ∧ t.rd 0x100301 = 0 ∧ t.rd 0x100302 = 8 ∧ t.rd 0x100304 ≤ 100000 ∧ t.rd 0x100305 = wrapInc 32 (s.rd 0x100305) ∧ t.power.abortAt = s.tick ∧ t.rd 0x100303 = (if s.jobs.install.switched then 1 else 2) ∧ t.rd 0x100304 = 0 ∧
          KeepsObjs [0x100301, 0x100302, 0x100303, 0x100304, 0x100305] s t ∧
          t = { s with objs := t.objs, free := t.free, power := t.power, lastStatus := t.lastStatus, lastData := t.lastData }) ∧
    (s.power.supervisor = true → s.dev ≠ 0 → (s.jobs.waiting = [] ∨ s.portTaken 2 = true) → (s.jobs.install.staged = none ∨ s.jobs.waiting.any NvJob.isFw = true) → (∃ n : Fin 4, s.jobs.slots[n].isSome = true) →
      Completes (.abortMaint) s fun t =>
          t.lastStatus = 0 ∧ t.rd 0x100301 = 0 ∧ t.rd 0x100302 = 16 ∧ t.rd 0x100304 ≤ 100000 ∧ t.rd 0x100305 = wrapInc 32 (s.rd 0x100305) ∧ t.power.abortAt = s.tick ∧ t.rd 0x100303 = 0 ∧ t.jobs.slots = Vector.replicate 4 none ∧ t.tick = s.tick ∧
          t = { s with net := t.net, free := t.free, signals := t.signals, objs := t.objs, power := t.power, clock := t.clock, gates := t.gates, carriers := t.carriers, legs := t.legs, guard := t.guard, rails := t.rails, winTrip := t.winTrip, engines := t.engines, modeDone := t.modeDone, charge := t.charge, string := t.string, lanes := t.lanes, lease := t.lease, frames := t.frames, meas := t.meas, thermal := t.thermal, nv := t.nv, jobs := t.jobs, can := t.can, wdp := t.wdp, capture := t.capture, lastStatus := t.lastStatus, lastData := t.lastData, collector := { s.collector with relay := t.collector.relay } }) ∧
    (s.power.supervisor = true → s.dev ≠ 0 → (s.jobs.waiting = [] ∨ s.portTaken 2 = true) → (s.jobs.install.staged = none ∨ s.jobs.waiting.any NvJob.isFw = true) → (∀ n : Fin 4, s.jobs.slots[n] = none) →
      Completes (.abortMaint) s fun t =>
          t.lastStatus = 0 ∧ t.rd 0x100301 = 0 ∧ t.rd 0x100302 = 16 ∧ t.rd 0x100304 ≤ 100000 ∧ t.rd 0x100305 = wrapInc 32 (s.rd 0x100305) ∧ t.power.abortAt = s.tick ∧ t.rd 0x100303 = 2 ∧ t.rd 0x100304 = 0 ∧
          KeepsObjs [0x100301, 0x100302, 0x100303, 0x100304, 0x100305] s t ∧
          t = { s with objs := t.objs, free := t.free, power := t.power, lastStatus := t.lastStatus, lastData := t.lastData }) ∧
    (s.power.supervisor = true → s.dev ≠ 0 → (s.jobs.waiting = [] ∨ s.portTaken 2 = true) → (s.jobs.install.staged = none ∨ s.jobs.waiting.any NvJob.isFw = true) → (∀ (g : Fin 3) (x : MoltSt), s.string.molt[g] = some x → x.insert = false ∧ x.applied = true ∧ x.abort = none) →
      Completes (.abortMolt) s fun t =>
          t.lastStatus = 0 ∧ t.rd 0x100301 = 0 ∧ t.rd 0x100302 = 32 ∧ t.rd 0x100304 ≤ 100000 ∧ t.rd 0x100305 = wrapInc 32 (s.rd 0x100305) ∧ t.power.abortAt = s.tick ∧ t.rd 0x100303 = (if (∃ g : Fin 3, s.string.molt[g].isSome = true) then 1 else 2) ∧ t.rd 0x100304 = 0 ∧
          KeepsObjs [0x100301, 0x100302, 0x100303, 0x100304, 0x100305] s t ∧
          t = { s with objs := t.objs, free := t.free, power := t.power, lastStatus := t.lastStatus, lastData := t.lastData }) ∧
    (∀ (g : Fin 3) (x : MoltSt), s.power.supervisor = true → s.dev ≠ 0 → (s.jobs.waiting = [] ∨ s.portTaken 2 = true) → (s.jobs.install.staged = none ∨ s.jobs.waiting.any NvJob.isFw = true) → s.string.molt[g] = some x → x.insert = true →
      Completes (.abortMolt) s fun t =>
          t.lastStatus = 0 ∧ t.rd 0x100301 = 32 ∧ t.rd 0x100302 = 32 ∧ t.rd 0x100304 ≤ 100000 ∧ t.rd 0x100305 = wrapInc 32 (s.rd 0x100305) ∧ t.power.abortAt = s.tick ∧ t.rd 0x100303 = 0 ∧ t.string.molt[g] = some { x with limit := none, abort := some 11 } ∧
          KeepsOtherAreas [1, 8] s t ∧
          t = { s with objs := t.objs, free := t.free, power := t.power, lastStatus := t.lastStatus, lastData := t.lastData, rails := t.rails, string := t.string }) ∧
    (∀ (g : Fin 3) (x : MoltSt), s.power.supervisor = true → s.dev ≠ 0 → (s.jobs.waiting = [] ∨ s.portTaken 2 = true) → (s.jobs.install.staged = none ∨ s.jobs.waiting.any NvJob.isFw = true) → s.string.molt[g] = some x → x.insert = false → x.applied = false →
      Completes (.abortMolt) s fun t =>
          t.lastStatus = 0 ∧ t.rd 0x100303 = 0 ∧ t.string.molt[g] = none ∧ t.rd (unitKey 0x800308 g) = 11 ∧
          KeepsOtherAreas [1, 8] s t ∧
          t = { s with objs := t.objs, free := t.free, power := t.power, lastStatus := t.lastStatus, lastData := t.lastData, rails := t.rails, string := t.string }) ∧
    (s.power.supervisor = true → s.dev ≠ 0 → (s.jobs.waiting = [] ∨ s.portTaken 2 = true) → (s.jobs.install.staged = none ∨ s.jobs.waiting.any NvJob.isFw = true) → s.frames.forwarded ≠ [] →
      Completes (.abortForward) s fun t =>
          t.lastStatus = 0 ∧ t.rd 0x100301 = 0 ∧ t.rd 0x100302 = 64 ∧ t.rd 0x100304 ≤ 100000 ∧ t.rd 0x100305 = wrapInc 32 (s.rd 0x100305) ∧ t.power.abortAt = s.tick ∧ t.rd 0x100303 = 0 ∧ t.frames.forwarded = [] ∧ (s.frames.forwarded.all fun f => t.frames.dropped.contains (f.node, f.tagGen)) = true ∧ t.frames = { s.frames with forwarded := [], dropped := t.frames.dropped } ∧
          KeepsObjs [0x100301, 0x100302, 0x100303, 0x100304, 0x100305] s t ∧
          t = { s with objs := t.objs, free := t.free, power := t.power, lastStatus := t.lastStatus, lastData := t.lastData, frames := t.frames }) ∧
    (s.power.supervisor = true → s.dev ≠ 0 → (s.jobs.waiting = [] ∨ s.portTaken 2 = true) → (s.jobs.install.staged = none ∨ s.jobs.waiting.any NvJob.isFw = true) → s.frames.forwarded = [] →
      Completes (.abortForward) s fun t =>
          t.lastStatus = 0 ∧ t.rd 0x100301 = 0 ∧ t.rd 0x100302 = 64 ∧ t.rd 0x100304 ≤ 100000 ∧ t.rd 0x100305 = wrapInc 32 (s.rd 0x100305) ∧ t.power.abortAt = s.tick ∧ t.rd 0x100303 = 2 ∧ t.rd 0x100304 = 0 ∧
          KeepsObjs [0x100301, 0x100302, 0x100303, 0x100304, 0x100305] s t ∧
          t = { s with objs := t.objs, free := t.free, power := t.power, lastStatus := t.lastStatus, lastData := t.lastData })

/-- A write of any object. A write that a check refuses answers the STATUS of that check, and changes nothing; an accepted write does what its objects do with it, and one of a plain object sets its value and nothing else; without a Supervisor it answers STATUS 1. Under hypotheses on the state and the operands alone, exec answers a next state with the command's own effect for: objectWrite. (spec/17 R557; spec/20 R637, R640, R641, R642.) -/
def Obligations.ObjectsWithoutARowAreWritten : Prop :=
  ∀ s : State,
    (∀ (i : BitVec 16) (j : Byte) (d : Bytes), s.power.supervisor = true → s.dev ≠ 0 → s.writeStatus true i.toNat j.toNat d ≠ 0 → (s.writeStatus true i.toNat j.toNat d ≠ 5 ∨ i.toNat / 4096 ≠ 8) →
      Completes (.objectWrite i j d) s fun t =>
          t.lastStatus = s.writeStatus true i.toNat j.toNat d ∧ t.lastData = [] ∧
          t = { s with lastStatus := t.lastStatus, lastData := t.lastData }) ∧
    (∀ (i : BitVec 16) (j : Byte) (d : Bytes), s.power.supervisor = true → s.dev ≠ 0 → (i = 0xD00B ∨ i = 0xD000 ∧ 3 ≤ j.toNat ∧ j.toNat ≤ 7 ∨ i = 0xC041 ∨ i = 0xE002 ∧ j = 1 ∨ i = 0xB020) → s.writeStatus true i.toNat j.toNat d = 0 →
      Completes (.objectWrite i j d) s fun t =>
          t.lastStatus = 0 ∧ t.lastData = [] ∧ ((rowFor i.toNat j.toNat).2.all fun r => t.rd (i.toNat * 256 + j.toNat) == r.taken d) = true ∧
          KeepsObjs [i.toNat * 256 + j.toNat] s t ∧
          t = { s with objs := t.objs, lastStatus := t.lastStatus, lastData := t.lastData }) ∧
    (∀ (i : BitVec 16) (j : Byte) (d : Bytes), s.power.supervisor = true → s.dev ≠ 0 → s.writeStatus true i.toNat j.toNat d = 0 →
      Completes (.objectWrite i j d) s fun t =>
          t = { (s.writeAll i.toNat j.toNat d).2 with lastStatus := (s.writeAll i.toNat j.toNat d).1, lastData := [] }) ∧
    (∀ (i : BitVec 16) (j : Byte) (d : Bytes), s.power.supervisor = false → s.dev ≠ 0 →
      Completes (.objectWrite i j d) s fun t =>
          t.lastStatus = 1 ∧ t.lastData = [] ∧
          t = { s with lastStatus := t.lastStatus, lastData := t.lastData })

/-- A step runs the command at the front of the queue. A step takes the command at the front of the queue and runs it on the state with the rest of the queue; on an empty queue it answers a next state in which only the clock runs on (the model's choice, log entry 1). (spec/00 R4; spec/14 R462.) -/
def Obligations.StepRunsTheFrontCommand : Prop :=
  (∀ (s : State) (c : Instr) (cs : List Instr), s.pending = c :: cs → step s = exec c { s with pending := cs }) ∧
    (∀ s : State, s.pending = [] → ∃ t : State, step s = .next t ∧ s.tick ≤ t.tick ∧
      t = { s with tick := t.tick, net := t.net, clock := t.clock })

/-- Every command completes in every state. In every state, every command of the table answers a next state; it leaves the queue as it is, and no tick is taken back. (spec/00 R4; spec/01 R22.) -/
def Obligations.EveryCommandCompletesAndTimeNeverRunsBack : Prop :=
  ∀ (c : Instr) (s : State), ∃ t : State, exec c s = .next t ∧ t.pending = s.pending ∧ s.tick ≤ t.tick

/-- The shoot-through interlock holds at every step. From every state in which no leg has its H and its L gate output on together, every step leads to such a state, whatever the command. (spec/05 R125; spec/09 R289.) -/
def Obligations.NoLegEverHasBothGatesOn : Prop :=
  ∀ s t : State, GatesExclude s → step s = .next t → GatesExclude t

/-- The accumulator of network time stays below one second. From every state whose network time has its accumulator below 10^9 × 2^32, every step leads to such a state: NS is always below one second. (spec/14 R462, R463.) -/
def Obligations.NetworkTimeStaysBelowOneSecond : Prop :=
  ∀ s t : State, s.net.acc < secUnits → step s = .next t → t.net.acc < secUnits

/-- The dictionary, the OEM area and the queue memory keep their form. From every state whose dictionary is in the canonical form, every step leads to such a state, and so it is with the OEM area and with the memory of the capture queue: keys and addresses rise strictly and no entry reads as an unlisted one does. (spec/18 R595; spec/19 R633; spec/20 R648.) -/
def Obligations.TheDictionaryAndTheMemoriesStayCanonical : Prop :=
  (∀ s t : State, storeWf s.objs = true → step s = .next t → storeWf t.objs = true) ∧
    (∀ s t : State, memWf s.nv.oem = true → step s = .next t → memWf t.nv.oem = true) ∧
    (∀ s t : State, memWf s.capture.mem = true → step s = .next t → memWf t.capture.mem = true)

/-- The results of a run name blocks of the engine, each once. From every state in which every run in progress names blocks below 32, each once, every step leads to such a state. (spec/07 R224, R230.) -/
def Obligations.RunsNameEachBlockOnce : Prop :=
  ∀ s t : State, RunsFormed s → step s = .next t → RunsFormed t

/-- A cell that is not fitted stays in OFF. From every state in which every cell whose bit in CELL_FITTED is 0 is in OFF, every step leads to such a state, whatever the command. (spec/04 R112.) -/
def Obligations.UnfittedCellsStayOff : Prop :=
  ∀ s t : State, (∀ c : Cell, s.fitted c = false → s.cellSt c = 0) → step s = .next t →
    ∀ c : Cell, t.fitted c = false → t.cellSt c = 0

/-- A self-fault and bit 126 clear only by a device-wide reset. No command but those of a device-wide reset clears a self-fault or bit 126 of the sticky word, a write of 1 to bit 126 among them; CMD RESUME with the self-fault present leaves the state as it is, with RESULT 3. (spec/12 R396.) -/
def Obligations.TheSelfFaultClearsOnlyByADeviceReset : Prop :=
  (∀ (c : Instr) (s t : State), exec c s = .next t → (∀ r : Bool, c ≠ .powerOnResetAssert ∧ c ≠ .powerOnResetRelease r ∧ c ≠ .resetNAssert ∧ c ≠ .resetNRelease r ∧ c ≠ .deviceReset) →
      (s.selfFaulted = true → t.selfFaulted = true) ∧ (s.sticky 126 = true → t.sticky 126 = true)) ∧
    (∀ (s : State) (mask : BitVec 32), s.power.supervisor = true → s.dev ≠ 0 →
      Completes (.stickyClear 3 mask) s fun t => t.lastStatus = 0 ∧ t.sticky 126 = s.sticky 126) ∧
    (∀ s : State, s.power.supervisor = true → s.dev = 6 ∨ s.dev = 7 → s.selfFaulted = true →
      Completes .cmdResume s fun t => t.lastStatus = 0 ∧ t.rd kResult = 3 ∧ t.dev = s.dev)

/-- The line number of a gate output. The gate output of cell c, bridge b, leg j + 1 has line c × 12 + b × 4 + j × 2 for H and one more for L; every line from 0 to 71 is one of them. (spec/03 R83.) -/
def Obligations.GateLinesAreNumberedByCellBridgeAndLeg : Prop :=
  (∀ (c : Cell) (b : Bridge) (j : Fin 2),
      (lineH (legOf (carrierOf c b) j)).val = c.val * 12 + b.val * 4 + j.val * 2 + 0 ∧
        (lineL (legOf (carrierOf c b) j)).val = c.val * 12 + b.val * 4 + j.val * 2 + 1) ∧
    (∀ n : Line, ∃ (c : Cell) (b : Bridge) (j : Fin 2),
      n = lineH (legOf (carrierOf c b) j) ∨ n = lineL (legOf (carrierOf c b) j))

/-- What the machine holds right after reset. Reset leaves the device in BOOT as if by a power-on reset, every cell in OFF, network time 0, every gate off, no sticky bit, no run, no frame, no transaction and nothing captured; every object reads the default of its row, of which a few of every area are named. (spec/00 R13; spec/04 R94, R97, R120; spec/06 R213; spec/14 R462; spec/20 R648.) -/
def Obligations.ResetLeavesTheStatedValues : Prop :=
  State.reset.dev = 0 ∧ State.reset.rd kResetCause = 0 ∧ (∀ c : Cell, State.reset.cellSt c = 0) ∧
    State.reset.net = ⟨0, 0⟩ ∧ (∀ l : Line, State.reset.gates[l] = false) ∧ State.reset.stickyMap = 0 ∧
    State.reset.selfFaulted = false ∧ State.reset.pending = [] ∧ State.reset.capture.record = none ∧
    State.reset.capture.used = 0 ∧ State.reset.frames.unacked = [] ∧ State.reset.wdp.blocks = [] ∧
    (∀ i : Fin 64, State.reset.wdp.tags[i].state = 0) ∧ State.reset.jobs.store = none ∧
    (∀ (e : Engine) (k : Task), State.reset.engines[e].tasks[k].run = none) ∧
    (∀ k : Nat, State.reset.rd k = objDefault k) ∧
    State.reset.rd 0x100501 = 50 ∧ State.reset.rd 0x30220F = 16 ∧ State.reset.rd 0x400011 = 12 ∧
    State.reset.rd 0x430007 = 0x3F800000 ∧ State.reset.rd 0x600005 = 0x3F800000 ∧
    State.reset.rd 0x70010A = 625000 ∧ State.reset.rd 0x80100C = 8 ∧ State.reset.rd 0x900106 = 0x42C80000 ∧
    State.reset.rd 0xB01602 = 62500 ∧ State.reset.rd 0xB02106 = 4 ∧ State.reset.rd 0xC00008 = 10 ∧
    State.reset.rd 0xD06103 = 1024 ∧ State.reset.rd 0xE01105 = 1000

/-- The state after reset meets every invariant. The invariants that every step keeps hold of the state after reset. (spec/04 R97, R112; spec/05 R125; spec/14 R462.) -/
def Obligations.ResetMeetsTheInvariants : Prop :=
  GatesExclude State.reset ∧ State.reset.net.acc < secUnits ∧ storeWf State.reset.objs = true ∧
    memWf State.reset.nv.oem = true ∧ memWf State.reset.capture.mem = true ∧ RunsFormed State.reset ∧
    (∀ c : Cell, State.reset.fitted c = false → State.reset.cellSt c = 0)
end

