-- ==== Sys2Proof/Laws/Store.lean ====
section
/-! SUPPORT. What the operations on the dictionary's values and on the byte memories do, and that they keep the canonical forms. -/

namespace Sys2Proof.Machine

/-! ### The dictionary's values -/

theorem storeFind_erase_same (k : Nat) (st : Store) : storeFind k (storeErase k st) = none := by
  induction st with
  | nil => rfl
  | cons e st ih =>
    obtain ⟨a, w⟩ := e
    by_cases h : a = k
    · simpa [storeErase, h] using ih
    · simpa [storeErase, storeFind, h] using ih

theorem storeFind_erase_ne {k j : Nat} (h : j ≠ k) (st : Store) :
    storeFind j (storeErase k st) = storeFind j st := by
  induction st with
  | nil => rfl
  | cons e st ih =>
    obtain ⟨a, w⟩ := e
    have ih' : storeFind j (List.filter (fun e => e.1 != k) st) = storeFind j st := ih
    by_cases hk : a = k
    · subst hk
      simp [storeErase, storeFind, Ne.symm h, ih']
    · simp [storeErase, storeFind, hk, ih']

theorem storeFind_insert_same (k v : Nat) (st : Store) : storeFind k (storeInsert k v st) = some v := by
  induction st with
  | nil => simp [storeInsert, storeFind]
  | cons e st ih =>
    obtain ⟨a, w⟩ := e
    unfold storeInsert
    split
    · simp [storeFind]
    · split
      · simp [storeFind]
      · rename_i h
        simp [storeFind, h, ih]

theorem storeFind_insert_ne {k j : Nat} (v : Nat) (h : j ≠ k) (st : Store) :
    storeFind j (storeInsert k v st) = storeFind j st := by
  induction st with
  | nil => simp [storeInsert, storeFind, Ne.symm h]
  | cons e st ih =>
    obtain ⟨a, w⟩ := e
    unfold storeInsert
    split
    · simp [storeFind, Ne.symm h]
    · split
      · rename_i hk
        simp [storeFind, hk, Ne.symm h]
      · simp [storeFind, ih]

/-- A key that was written reads what was written. -/
@[simp] theorem storeGet_set_same (st : Store) (k v : Nat) : storeGet (storeSet st k v) k = v := by
  unfold storeGet storeSet
  split
  · rename_i h
    simp [storeFind_erase_same, h]
  · simp [storeFind_insert_same]

/-- Every other key reads as before. -/
theorem storeGet_set_ne {k j : Nat} (h : j ≠ k) (st : Store) (v : Nat) :
    storeGet (storeSet st k v) j = storeGet st j := by
  unfold storeGet storeSet
  split
  · rw [storeFind_erase_ne h]
  · rw [storeFind_insert_ne v h]

/-- Both in one. -/
theorem storeGet_set (st : Store) (k v j : Nat) :
    storeGet (storeSet st k v) j = if j = k then v else storeGet st j := by
  split
  · rename_i h; subst h; simp
  · rename_i h; exact storeGet_set_ne h st v

/-! ### The canonical form -/

/-- The canonical form as a property of the whole list. -/
theorem storeWf_iff (st : Store) :
    storeWf st = true ↔ st.Pairwise (fun a b => a.1 < b.1) ∧ ∀ e ∈ st, e.2 ≠ objDefault e.1 := by
  induction st with
  | nil => simp [storeWf]
  | cons e st ih =>
    obtain ⟨a, v⟩ := e
    cases st with
    | nil => simp [storeWf]
    | cons f st =>
      obtain ⟨b, w⟩ := f
      rw [storeWf]
      simp only [Bool.and_eq_true, bne_iff_ne, decide_eq_true_eq, ih, List.pairwise_cons, List.mem_cons,
        forall_eq_or_imp]
      constructor
      · rintro ⟨⟨h1, h2⟩, ⟨h3, h4⟩, h5, h6⟩
        exact ⟨⟨⟨h2, fun e he => lt_trans h2 (h3 e he)⟩, h3, h4⟩, h1, h5, h6⟩
      · rintro ⟨⟨⟨h2, _⟩, h3, h4⟩, h1, h5, h6⟩
        exact ⟨⟨h1, h2⟩, ⟨h3, h4⟩, h5, h6⟩

theorem mem_storeInsert {k v : Nat} {st : Store} {e : Nat × Nat} (h : e ∈ storeInsert k v st) :
    e = (k, v) ∨ e ∈ st := by
  induction st with
  | nil => simpa [storeInsert] using h
  | cons f st ih =>
    obtain ⟨a, w⟩ := f
    unfold storeInsert at h
    split at h
    · simpa using h
    · split at h
      · rcases List.mem_cons.mp h with h | h
        · exact .inl h
        · exact .inr (List.mem_cons_of_mem _ h)
      · rcases List.mem_cons.mp h with h | h
        · exact .inr (h ▸ List.mem_cons_self)
        · rcases ih h with h | h
          · exact .inl h
          · exact .inr (List.mem_cons_of_mem _ h)

theorem storeInsert_pairwise (k v : Nat) (st : Store) (h : st.Pairwise fun a b => a.1 < b.1) :
    (storeInsert k v st).Pairwise fun a b => a.1 < b.1 := by
  induction st with
  | nil => simp [storeInsert]
  | cons f st ih =>
    obtain ⟨a, w⟩ := f
    obtain ⟨h1, h2⟩ := List.pairwise_cons.mp h
    unfold storeInsert
    split
    · rename_i hk
      refine List.pairwise_cons.mpr ⟨?_, h⟩
      intro e he
      rcases List.mem_cons.mp he with rfl | he
      · exact hk
      · exact lt_trans hk (h1 e he)
    · split
      · rename_i hk
        exact List.pairwise_cons.mpr ⟨fun e he => hk ▸ h1 e he, h2⟩
      · rename_i hk hne
        refine List.pairwise_cons.mpr ⟨fun e he => ?_, ih h2⟩
        rcases mem_storeInsert he with rfl | he
        · simp only; omega
        · exact h1 e he

/-- A write keeps the canonical form. -/
theorem storeSet_wf (st : Store) (k v : Nat) (h : storeWf st = true) : storeWf (storeSet st k v) = true := by
  obtain ⟨h1, h2⟩ := (storeWf_iff st).mp h
  unfold storeSet
  split
  · exact (storeWf_iff _).mpr ⟨h1.filter _, fun e he => h2 e (List.mem_of_mem_filter he)⟩
  · rename_i hv
    refine (storeWf_iff _).mpr ⟨storeInsert_pairwise k v st h1, fun e he => ?_⟩
    rcases mem_storeInsert he with rfl | he
    · exact hv
    · exact h2 e he

/-! ### Byte memories -/

theorem memRead_filter_same (k : Nat) (m : Mem) : memRead (m.filter fun e => e.1 != k) k = 0 := by
  induction m with
  | nil => rfl
  | cons e m ih =>
    obtain ⟨a, c⟩ := e
    by_cases h : a = k
    · simpa [h] using ih
    · simpa [memRead, h] using ih

theorem memRead_filter_ne {k j : Nat} (h : j ≠ k) (m : Mem) :
    memRead (m.filter fun e => e.1 != k) j = memRead m j := by
  induction m with
  | nil => rfl
  | cons e m ih =>
    obtain ⟨a, c⟩ := e
    by_cases hk : a = k
    · subst hk
      simp [memRead, Ne.symm h, ih]
    · simp [memRead, hk, ih]

theorem memRead_insert (k j : Nat) (b : Byte) (m : Mem) :
    memRead (memInsert k b m) j = if j = k then b else memRead m j := by
  induction m with
  | nil => simp [memInsert, memRead, eq_comm]
  | cons e m ih =>
    obtain ⟨a, c⟩ := e
    unfold memInsert
    split
    · simp [memRead, eq_comm]
    · split
      · rename_i hk
        subst hk
        by_cases hj : j = a
        · simp [memRead, hj]
        · simp [memRead, hj, Ne.symm hj]
      · rename_i hk
        by_cases ha : a = j
        · subst ha
          simp [memRead, hk]
        · simp [memRead, ha, ih]

/-- A byte that was written reads what was written, every other byte as before. -/
theorem memRead_write (k j : Nat) (b : Byte) (m : Mem) :
    memRead (memWrite k b m) j = if j = k then b else memRead m j := by
  unfold memWrite
  split
  · rename_i hb
    split
    · rename_i hj
      rw [hj, memRead_filter_same, hb]
    · rename_i hj
      exact memRead_filter_ne hj m
  · exact memRead_insert k j b m

theorem memWf_iff (m : Mem) :
    memWf m = true ↔ m.Pairwise (fun a b => a.1 < b.1) ∧ ∀ e ∈ m, e.2 ≠ 0 := by
  induction m with
  | nil => simp [memWf]
  | cons e m ih =>
    obtain ⟨a, v⟩ := e
    cases m with
    | nil => simp [memWf]
    | cons f m =>
      obtain ⟨b, w⟩ := f
      rw [memWf]
      simp only [Bool.and_eq_true, bne_iff_ne, decide_eq_true_eq, ih, List.pairwise_cons, List.mem_cons,
        forall_eq_or_imp]
      constructor
      · rintro ⟨⟨h1, h2⟩, ⟨h3, h4⟩, h5, h6⟩
        exact ⟨⟨⟨h2, fun e he => lt_trans h2 (h3 e he)⟩, h3, h4⟩, h1, h5, h6⟩
      · rintro ⟨⟨⟨h2, _⟩, h3, h4⟩, h1, h5, h6⟩
        exact ⟨⟨h1, h2⟩, ⟨h3, h4⟩, h5, h6⟩

theorem mem_memInsert {k : Nat} {b : Byte} {m : Mem} {e : Host.Cell} (h : e ∈ memInsert k b m) :
    e = (k, b) ∨ e ∈ m := by
  induction m with
  | nil => simpa [memInsert] using h
  | cons f m ih =>
    obtain ⟨a, w⟩ := f
    unfold memInsert at h
    split at h
    · simpa using h
    · split at h
      · rcases List.mem_cons.mp h with h | h
        · exact .inl h
        · exact .inr (List.mem_cons_of_mem _ h)
      · rcases List.mem_cons.mp h with h | h
        · exact .inr (h ▸ List.mem_cons_self)
        · rcases ih h with h | h
          · exact .inl h
          · exact .inr (List.mem_cons_of_mem _ h)

theorem memInsert_pairwise (k : Nat) (b : Byte) (m : Mem) (h : m.Pairwise fun x y => x.1 < y.1) :
    (memInsert k b m).Pairwise fun x y => x.1 < y.1 := by
  induction m with
  | nil => simp [memInsert]
  | cons f m ih =>
    obtain ⟨a, w⟩ := f
    obtain ⟨h1, h2⟩ := List.pairwise_cons.mp h
    unfold memInsert
    split
    · rename_i hk
      refine List.pairwise_cons.mpr ⟨?_, h⟩
      intro e he
      rcases List.mem_cons.mp he with rfl | he
      · exact hk
      · exact lt_trans hk (h1 e he)
    · split
      · rename_i hk
        exact List.pairwise_cons.mpr ⟨fun e he => hk ▸ h1 e he, h2⟩
      · rename_i hk hne
        refine List.pairwise_cons.mpr ⟨fun e he => ?_, ih h2⟩
        rcases mem_memInsert he with rfl | he
        · simp only; omega
        · exact h1 e he

/-- A write keeps the canonical form. -/
theorem memWrite_wf (k : Nat) (b : Byte) (m : Mem) (h : memWf m = true) : memWf (memWrite k b m) = true := by
  obtain ⟨h1, h2⟩ := (memWf_iff m).mp h
  unfold memWrite
  split
  · exact (memWf_iff _).mpr ⟨h1.filter _, fun e he => h2 e (List.mem_of_mem_filter he)⟩
  · rename_i hb
    refine (memWf_iff _).mpr ⟨memInsert_pairwise k b m h1, fun e he => ?_⟩
    rcases mem_memInsert he with rfl | he
    · exact hb
    · exact h2 e he

/-- So does writing a byte string. -/
theorem memWriteBytes_wf (bs : Bytes) (k : Nat) (m : Mem) (h : memWf m = true) :
    memWf (memWriteBytes k bs m) = true := by
  induction bs generalizing k m with
  | nil => exact h
  | cons b bs ih => exact ih (k + 1) _ (memWrite_wf k b m h)

end Sys2Proof.Machine
end

