-- ==== Sys2Proof/Laws/State.lean ====
section
/-! SUPPORT. The small lemmas of the state: what each named update does to each field, and what it does to the value of an object. -/

namespace Sys2Proof.Machine

variable (s : State)

/-! ### wr -/

@[simp] theorem State.wr_pending (k v : Nat) : (s.wr k v).pending = s.pending := rfl
@[simp] theorem State.wr_tick (k v : Nat) : (s.wr k v).tick = s.tick := rfl
@[simp] theorem State.wr_net (k v : Nat) : (s.wr k v).net = s.net := rfl
@[simp] theorem State.wr_free (k v : Nat) : (s.wr k v).free = s.free := rfl
@[simp] theorem State.wr_objs (k v : Nat) : (s.wr k v).objs = storeSet s.objs k v := rfl
@[simp] theorem State.wr_lastStatus (k v : Nat) : (s.wr k v).lastStatus = s.lastStatus := rfl
@[simp] theorem State.wr_lastData (k v : Nat) : (s.wr k v).lastData = s.lastData := rfl
@[simp] theorem State.wr_power (k v : Nat) : (s.wr k v).power = s.power := rfl
@[simp] theorem State.wr_pins (k v : Nat) : (s.wr k v).pins = s.pins := rfl
@[simp] theorem State.wr_tap (k v : Nat) : (s.wr k v).tap = s.tap := rfl
@[simp] theorem State.wr_clock (k v : Nat) : (s.wr k v).clock = s.clock := rfl
@[simp] theorem State.wr_gates (k v : Nat) : (s.wr k v).gates = s.gates := rfl
@[simp] theorem State.wr_carriers (k v : Nat) : (s.wr k v).carriers = s.carriers := rfl
@[simp] theorem State.wr_legs (k v : Nat) : (s.wr k v).legs = s.legs := rfl
@[simp] theorem State.wr_guard (k v : Nat) : (s.wr k v).guard = s.guard := rfl
@[simp] theorem State.wr_rails (k v : Nat) : (s.wr k v).rails = s.rails := rfl
@[simp] theorem State.wr_signals (k v : Nat) : (s.wr k v).signals = s.signals := rfl
@[simp] theorem State.wr_winTrip (k v : Nat) : (s.wr k v).winTrip = s.winTrip := rfl
@[simp] theorem State.wr_engines (k v : Nat) : (s.wr k v).engines = s.engines := rfl
@[simp] theorem State.wr_modeDone (k v : Nat) : (s.wr k v).modeDone = s.modeDone := rfl
@[simp] theorem State.wr_refs (k v : Nat) : (s.wr k v).refs = s.refs := rfl
@[simp] theorem State.wr_charge (k v : Nat) : (s.wr k v).charge = s.charge := rfl
@[simp] theorem State.wr_string (k v : Nat) : (s.wr k v).string = s.string := rfl
@[simp] theorem State.wr_stringRx (k v : Nat) : (s.wr k v).stringRx = s.stringRx := rfl
@[simp] theorem State.wr_collector (k v : Nat) : (s.wr k v).collector = s.collector := rfl
@[simp] theorem State.wr_lanes (k v : Nat) : (s.wr k v).lanes = s.lanes := rfl
@[simp] theorem State.wr_paths (k v : Nat) : (s.wr k v).paths = s.paths := rfl
@[simp] theorem State.wr_hatch (k v : Nat) : (s.wr k v).hatch = s.hatch := rfl
@[simp] theorem State.wr_lease (k v : Nat) : (s.wr k v).lease = s.lease := rfl
@[simp] theorem State.wr_frames (k v : Nat) : (s.wr k v).frames = s.frames := rfl
@[simp] theorem State.wr_time (k v : Nat) : (s.wr k v).time = s.time := rfl
@[simp] theorem State.wr_meas (k v : Nat) : (s.wr k v).meas = s.meas := rfl
@[simp] theorem State.wr_thermal (k v : Nat) : (s.wr k v).thermal = s.thermal := rfl
@[simp] theorem State.wr_nv (k v : Nat) : (s.wr k v).nv = s.nv := rfl
@[simp] theorem State.wr_jobs (k v : Nat) : (s.wr k v).jobs = s.jobs := rfl
@[simp] theorem State.wr_can (k v : Nat) : (s.wr k v).can = s.can := rfl
@[simp] theorem State.wr_wdp (k v : Nat) : (s.wr k v).wdp = s.wdp := rfl
@[simp] theorem State.wr_capture (k v : Nat) : (s.wr k v).capture = s.capture := rfl

/-! ### wrBit -/

@[simp] theorem State.wrBit_pending (k i : Nat) (b : Bool) : (s.wrBit k i b).pending = s.pending := rfl
@[simp] theorem State.wrBit_tick (k i : Nat) (b : Bool) : (s.wrBit k i b).tick = s.tick := rfl
@[simp] theorem State.wrBit_net (k i : Nat) (b : Bool) : (s.wrBit k i b).net = s.net := rfl
@[simp] theorem State.wrBit_free (k i : Nat) (b : Bool) : (s.wrBit k i b).free = s.free := rfl
@[simp] theorem State.wrBit_objs (k i : Nat) (b : Bool) : (s.wrBit k i b).objs = storeSet s.objs k (setBit (s.rd k) i b) := rfl
@[simp] theorem State.wrBit_lastStatus (k i : Nat) (b : Bool) : (s.wrBit k i b).lastStatus = s.lastStatus := rfl
@[simp] theorem State.wrBit_lastData (k i : Nat) (b : Bool) : (s.wrBit k i b).lastData = s.lastData := rfl
@[simp] theorem State.wrBit_power (k i : Nat) (b : Bool) : (s.wrBit k i b).power = s.power := rfl
@[simp] theorem State.wrBit_pins (k i : Nat) (b : Bool) : (s.wrBit k i b).pins = s.pins := rfl
@[simp] theorem State.wrBit_tap (k i : Nat) (b : Bool) : (s.wrBit k i b).tap = s.tap := rfl
@[simp] theorem State.wrBit_clock (k i : Nat) (b : Bool) : (s.wrBit k i b).clock = s.clock := rfl
@[simp] theorem State.wrBit_gates (k i : Nat) (b : Bool) : (s.wrBit k i b).gates = s.gates := rfl
@[simp] theorem State.wrBit_carriers (k i : Nat) (b : Bool) : (s.wrBit k i b).carriers = s.carriers := rfl
@[simp] theorem State.wrBit_legs (k i : Nat) (b : Bool) : (s.wrBit k i b).legs = s.legs := rfl
@[simp] theorem State.wrBit_guard (k i : Nat) (b : Bool) : (s.wrBit k i b).guard = s.guard := rfl
@[simp] theorem State.wrBit_rails (k i : Nat) (b : Bool) : (s.wrBit k i b).rails = s.rails := rfl
@[simp] theorem State.wrBit_signals (k i : Nat) (b : Bool) : (s.wrBit k i b).signals = s.signals := rfl
@[simp] theorem State.wrBit_winTrip (k i : Nat) (b : Bool) : (s.wrBit k i b).winTrip = s.winTrip := rfl
@[simp] theorem State.wrBit_engines (k i : Nat) (b : Bool) : (s.wrBit k i b).engines = s.engines := rfl
@[simp] theorem State.wrBit_modeDone (k i : Nat) (b : Bool) : (s.wrBit k i b).modeDone = s.modeDone := rfl
@[simp] theorem State.wrBit_refs (k i : Nat) (b : Bool) : (s.wrBit k i b).refs = s.refs := rfl
@[simp] theorem State.wrBit_charge (k i : Nat) (b : Bool) : (s.wrBit k i b).charge = s.charge := rfl
@[simp] theorem State.wrBit_string (k i : Nat) (b : Bool) : (s.wrBit k i b).string = s.string := rfl
@[simp] theorem State.wrBit_stringRx (k i : Nat) (b : Bool) : (s.wrBit k i b).stringRx = s.stringRx := rfl
@[simp] theorem State.wrBit_collector (k i : Nat) (b : Bool) : (s.wrBit k i b).collector = s.collector := rfl
@[simp] theorem State.wrBit_lanes (k i : Nat) (b : Bool) : (s.wrBit k i b).lanes = s.lanes := rfl
@[simp] theorem State.wrBit_paths (k i : Nat) (b : Bool) : (s.wrBit k i b).paths = s.paths := rfl
@[simp] theorem State.wrBit_hatch (k i : Nat) (b : Bool) : (s.wrBit k i b).hatch = s.hatch := rfl
@[simp] theorem State.wrBit_lease (k i : Nat) (b : Bool) : (s.wrBit k i b).lease = s.lease := rfl
@[simp] theorem State.wrBit_frames (k i : Nat) (b : Bool) : (s.wrBit k i b).frames = s.frames := rfl
@[simp] theorem State.wrBit_time (k i : Nat) (b : Bool) : (s.wrBit k i b).time = s.time := rfl
@[simp] theorem State.wrBit_meas (k i : Nat) (b : Bool) : (s.wrBit k i b).meas = s.meas := rfl
@[simp] theorem State.wrBit_thermal (k i : Nat) (b : Bool) : (s.wrBit k i b).thermal = s.thermal := rfl
@[simp] theorem State.wrBit_nv (k i : Nat) (b : Bool) : (s.wrBit k i b).nv = s.nv := rfl
@[simp] theorem State.wrBit_jobs (k i : Nat) (b : Bool) : (s.wrBit k i b).jobs = s.jobs := rfl
@[simp] theorem State.wrBit_can (k i : Nat) (b : Bool) : (s.wrBit k i b).can = s.can := rfl
@[simp] theorem State.wrBit_wdp (k i : Nat) (b : Bool) : (s.wrBit k i b).wdp = s.wdp := rfl
@[simp] theorem State.wrBit_capture (k i : Nat) (b : Bool) : (s.wrBit k i b).capture = s.capture := rfl

/-! ### orBits -/

@[simp] theorem State.orBits_pending (k m : Nat) : (s.orBits k m).pending = s.pending := rfl
@[simp] theorem State.orBits_tick (k m : Nat) : (s.orBits k m).tick = s.tick := rfl
@[simp] theorem State.orBits_net (k m : Nat) : (s.orBits k m).net = s.net := rfl
@[simp] theorem State.orBits_free (k m : Nat) : (s.orBits k m).free = s.free := rfl
@[simp] theorem State.orBits_objs (k m : Nat) : (s.orBits k m).objs = storeSet s.objs k (s.rd k ||| m) := rfl
@[simp] theorem State.orBits_lastStatus (k m : Nat) : (s.orBits k m).lastStatus = s.lastStatus := rfl
@[simp] theorem State.orBits_lastData (k m : Nat) : (s.orBits k m).lastData = s.lastData := rfl
@[simp] theorem State.orBits_power (k m : Nat) : (s.orBits k m).power = s.power := rfl
@[simp] theorem State.orBits_pins (k m : Nat) : (s.orBits k m).pins = s.pins := rfl
@[simp] theorem State.orBits_tap (k m : Nat) : (s.orBits k m).tap = s.tap := rfl
@[simp] theorem State.orBits_clock (k m : Nat) : (s.orBits k m).clock = s.clock := rfl
@[simp] theorem State.orBits_gates (k m : Nat) : (s.orBits k m).gates = s.gates := rfl
@[simp] theorem State.orBits_carriers (k m : Nat) : (s.orBits k m).carriers = s.carriers := rfl
@[simp] theorem State.orBits_legs (k m : Nat) : (s.orBits k m).legs = s.legs := rfl
@[simp] theorem State.orBits_guard (k m : Nat) : (s.orBits k m).guard = s.guard := rfl
@[simp] theorem State.orBits_rails (k m : Nat) : (s.orBits k m).rails = s.rails := rfl
@[simp] theorem State.orBits_signals (k m : Nat) : (s.orBits k m).signals = s.signals := rfl
@[simp] theorem State.orBits_winTrip (k m : Nat) : (s.orBits k m).winTrip = s.winTrip := rfl
@[simp] theorem State.orBits_engines (k m : Nat) : (s.orBits k m).engines = s.engines := rfl
@[simp] theorem State.orBits_modeDone (k m : Nat) : (s.orBits k m).modeDone = s.modeDone := rfl
@[simp] theorem State.orBits_refs (k m : Nat) : (s.orBits k m).refs = s.refs := rfl
@[simp] theorem State.orBits_charge (k m : Nat) : (s.orBits k m).charge = s.charge := rfl
@[simp] theorem State.orBits_string (k m : Nat) : (s.orBits k m).string = s.string := rfl
@[simp] theorem State.orBits_stringRx (k m : Nat) : (s.orBits k m).stringRx = s.stringRx := rfl
@[simp] theorem State.orBits_collector (k m : Nat) : (s.orBits k m).collector = s.collector := rfl
@[simp] theorem State.orBits_lanes (k m : Nat) : (s.orBits k m).lanes = s.lanes := rfl
@[simp] theorem State.orBits_paths (k m : Nat) : (s.orBits k m).paths = s.paths := rfl
@[simp] theorem State.orBits_hatch (k m : Nat) : (s.orBits k m).hatch = s.hatch := rfl
@[simp] theorem State.orBits_lease (k m : Nat) : (s.orBits k m).lease = s.lease := rfl
@[simp] theorem State.orBits_frames (k m : Nat) : (s.orBits k m).frames = s.frames := rfl
@[simp] theorem State.orBits_time (k m : Nat) : (s.orBits k m).time = s.time := rfl
@[simp] theorem State.orBits_meas (k m : Nat) : (s.orBits k m).meas = s.meas := rfl
@[simp] theorem State.orBits_thermal (k m : Nat) : (s.orBits k m).thermal = s.thermal := rfl
@[simp] theorem State.orBits_nv (k m : Nat) : (s.orBits k m).nv = s.nv := rfl
@[simp] theorem State.orBits_jobs (k m : Nat) : (s.orBits k m).jobs = s.jobs := rfl
@[simp] theorem State.orBits_can (k m : Nat) : (s.orBits k m).can = s.can := rfl
@[simp] theorem State.orBits_wdp (k m : Nat) : (s.orBits k m).wdp = s.wdp := rfl
@[simp] theorem State.orBits_capture (k m : Nat) : (s.orBits k m).capture = s.capture := rfl

/-! ### clrBits -/

@[simp] theorem State.clrBits_pending (k m : Nat) : (s.clrBits k m).pending = s.pending := rfl
@[simp] theorem State.clrBits_tick (k m : Nat) : (s.clrBits k m).tick = s.tick := rfl
@[simp] theorem State.clrBits_net (k m : Nat) : (s.clrBits k m).net = s.net := rfl
@[simp] theorem State.clrBits_free (k m : Nat) : (s.clrBits k m).free = s.free := rfl
@[simp] theorem State.clrBits_objs (k m : Nat) : (s.clrBits k m).objs = storeSet s.objs k (clearMask (s.rd k) m) := rfl
@[simp] theorem State.clrBits_lastStatus (k m : Nat) : (s.clrBits k m).lastStatus = s.lastStatus := rfl
@[simp] theorem State.clrBits_lastData (k m : Nat) : (s.clrBits k m).lastData = s.lastData := rfl
@[simp] theorem State.clrBits_power (k m : Nat) : (s.clrBits k m).power = s.power := rfl
@[simp] theorem State.clrBits_pins (k m : Nat) : (s.clrBits k m).pins = s.pins := rfl
@[simp] theorem State.clrBits_tap (k m : Nat) : (s.clrBits k m).tap = s.tap := rfl
@[simp] theorem State.clrBits_clock (k m : Nat) : (s.clrBits k m).clock = s.clock := rfl
@[simp] theorem State.clrBits_gates (k m : Nat) : (s.clrBits k m).gates = s.gates := rfl
@[simp] theorem State.clrBits_carriers (k m : Nat) : (s.clrBits k m).carriers = s.carriers := rfl
@[simp] theorem State.clrBits_legs (k m : Nat) : (s.clrBits k m).legs = s.legs := rfl
@[simp] theorem State.clrBits_guard (k m : Nat) : (s.clrBits k m).guard = s.guard := rfl
@[simp] theorem State.clrBits_rails (k m : Nat) : (s.clrBits k m).rails = s.rails := rfl
@[simp] theorem State.clrBits_signals (k m : Nat) : (s.clrBits k m).signals = s.signals := rfl
@[simp] theorem State.clrBits_winTrip (k m : Nat) : (s.clrBits k m).winTrip = s.winTrip := rfl
@[simp] theorem State.clrBits_engines (k m : Nat) : (s.clrBits k m).engines = s.engines := rfl
@[simp] theorem State.clrBits_modeDone (k m : Nat) : (s.clrBits k m).modeDone = s.modeDone := rfl
@[simp] theorem State.clrBits_refs (k m : Nat) : (s.clrBits k m).refs = s.refs := rfl
@[simp] theorem State.clrBits_charge (k m : Nat) : (s.clrBits k m).charge = s.charge := rfl
@[simp] theorem State.clrBits_string (k m : Nat) : (s.clrBits k m).string = s.string := rfl
@[simp] theorem State.clrBits_stringRx (k m : Nat) : (s.clrBits k m).stringRx = s.stringRx := rfl
@[simp] theorem State.clrBits_collector (k m : Nat) : (s.clrBits k m).collector = s.collector := rfl
@[simp] theorem State.clrBits_lanes (k m : Nat) : (s.clrBits k m).lanes = s.lanes := rfl
@[simp] theorem State.clrBits_paths (k m : Nat) : (s.clrBits k m).paths = s.paths := rfl
@[simp] theorem State.clrBits_hatch (k m : Nat) : (s.clrBits k m).hatch = s.hatch := rfl
@[simp] theorem State.clrBits_lease (k m : Nat) : (s.clrBits k m).lease = s.lease := rfl
@[simp] theorem State.clrBits_frames (k m : Nat) : (s.clrBits k m).frames = s.frames := rfl
@[simp] theorem State.clrBits_time (k m : Nat) : (s.clrBits k m).time = s.time := rfl
@[simp] theorem State.clrBits_meas (k m : Nat) : (s.clrBits k m).meas = s.meas := rfl
@[simp] theorem State.clrBits_thermal (k m : Nat) : (s.clrBits k m).thermal = s.thermal := rfl
@[simp] theorem State.clrBits_nv (k m : Nat) : (s.clrBits k m).nv = s.nv := rfl
@[simp] theorem State.clrBits_jobs (k m : Nat) : (s.clrBits k m).jobs = s.jobs := rfl
@[simp] theorem State.clrBits_can (k m : Nat) : (s.clrBits k m).can = s.can := rfl
@[simp] theorem State.clrBits_wdp (k m : Nat) : (s.clrBits k m).wdp = s.wdp := rfl
@[simp] theorem State.clrBits_capture (k m : Nat) : (s.clrBits k m).capture = s.capture := rfl

/-! ### count -/

@[simp] theorem State.count_pending (k n : Nat) : (s.count k n).pending = s.pending := rfl
@[simp] theorem State.count_tick (k n : Nat) : (s.count k n).tick = s.tick := rfl
@[simp] theorem State.count_net (k n : Nat) : (s.count k n).net = s.net := rfl
@[simp] theorem State.count_free (k n : Nat) : (s.count k n).free = s.free := rfl
@[simp] theorem State.count_objs (k n : Nat) : (s.count k n).objs = storeSet s.objs k (wrapInc 32 (s.rd k) n) := rfl
@[simp] theorem State.count_lastStatus (k n : Nat) : (s.count k n).lastStatus = s.lastStatus := rfl
@[simp] theorem State.count_lastData (k n : Nat) : (s.count k n).lastData = s.lastData := rfl
@[simp] theorem State.count_power (k n : Nat) : (s.count k n).power = s.power := rfl
@[simp] theorem State.count_pins (k n : Nat) : (s.count k n).pins = s.pins := rfl
@[simp] theorem State.count_tap (k n : Nat) : (s.count k n).tap = s.tap := rfl
@[simp] theorem State.count_clock (k n : Nat) : (s.count k n).clock = s.clock := rfl
@[simp] theorem State.count_gates (k n : Nat) : (s.count k n).gates = s.gates := rfl
@[simp] theorem State.count_carriers (k n : Nat) : (s.count k n).carriers = s.carriers := rfl
@[simp] theorem State.count_legs (k n : Nat) : (s.count k n).legs = s.legs := rfl
@[simp] theorem State.count_guard (k n : Nat) : (s.count k n).guard = s.guard := rfl
@[simp] theorem State.count_rails (k n : Nat) : (s.count k n).rails = s.rails := rfl
@[simp] theorem State.count_signals (k n : Nat) : (s.count k n).signals = s.signals := rfl
@[simp] theorem State.count_winTrip (k n : Nat) : (s.count k n).winTrip = s.winTrip := rfl
@[simp] theorem State.count_engines (k n : Nat) : (s.count k n).engines = s.engines := rfl
@[simp] theorem State.count_modeDone (k n : Nat) : (s.count k n).modeDone = s.modeDone := rfl
@[simp] theorem State.count_refs (k n : Nat) : (s.count k n).refs = s.refs := rfl
@[simp] theorem State.count_charge (k n : Nat) : (s.count k n).charge = s.charge := rfl
@[simp] theorem State.count_string (k n : Nat) : (s.count k n).string = s.string := rfl
@[simp] theorem State.count_stringRx (k n : Nat) : (s.count k n).stringRx = s.stringRx := rfl
@[simp] theorem State.count_collector (k n : Nat) : (s.count k n).collector = s.collector := rfl
@[simp] theorem State.count_lanes (k n : Nat) : (s.count k n).lanes = s.lanes := rfl
@[simp] theorem State.count_paths (k n : Nat) : (s.count k n).paths = s.paths := rfl
@[simp] theorem State.count_hatch (k n : Nat) : (s.count k n).hatch = s.hatch := rfl
@[simp] theorem State.count_lease (k n : Nat) : (s.count k n).lease = s.lease := rfl
@[simp] theorem State.count_frames (k n : Nat) : (s.count k n).frames = s.frames := rfl
@[simp] theorem State.count_time (k n : Nat) : (s.count k n).time = s.time := rfl
@[simp] theorem State.count_meas (k n : Nat) : (s.count k n).meas = s.meas := rfl
@[simp] theorem State.count_thermal (k n : Nat) : (s.count k n).thermal = s.thermal := rfl
@[simp] theorem State.count_nv (k n : Nat) : (s.count k n).nv = s.nv := rfl
@[simp] theorem State.count_jobs (k n : Nat) : (s.count k n).jobs = s.jobs := rfl
@[simp] theorem State.count_can (k n : Nat) : (s.count k n).can = s.can := rfl
@[simp] theorem State.count_wdp (k n : Nat) : (s.count k n).wdp = s.wdp := rfl
@[simp] theorem State.count_capture (k n : Nat) : (s.count k n).capture = s.capture := rfl

/-! ### countSat -/

@[simp] theorem State.countSat_pending (k : Nat) : (s.countSat k).pending = s.pending := rfl
@[simp] theorem State.countSat_tick (k : Nat) : (s.countSat k).tick = s.tick := rfl
@[simp] theorem State.countSat_net (k : Nat) : (s.countSat k).net = s.net := rfl
@[simp] theorem State.countSat_free (k : Nat) : (s.countSat k).free = s.free := rfl
@[simp] theorem State.countSat_objs (k : Nat) : (s.countSat k).objs = storeSet s.objs k (satInc 32 (s.rd k)) := rfl
@[simp] theorem State.countSat_lastStatus (k : Nat) : (s.countSat k).lastStatus = s.lastStatus := rfl
@[simp] theorem State.countSat_lastData (k : Nat) : (s.countSat k).lastData = s.lastData := rfl
@[simp] theorem State.countSat_power (k : Nat) : (s.countSat k).power = s.power := rfl
@[simp] theorem State.countSat_pins (k : Nat) : (s.countSat k).pins = s.pins := rfl
@[simp] theorem State.countSat_tap (k : Nat) : (s.countSat k).tap = s.tap := rfl
@[simp] theorem State.countSat_clock (k : Nat) : (s.countSat k).clock = s.clock := rfl
@[simp] theorem State.countSat_gates (k : Nat) : (s.countSat k).gates = s.gates := rfl
@[simp] theorem State.countSat_carriers (k : Nat) : (s.countSat k).carriers = s.carriers := rfl
@[simp] theorem State.countSat_legs (k : Nat) : (s.countSat k).legs = s.legs := rfl
@[simp] theorem State.countSat_guard (k : Nat) : (s.countSat k).guard = s.guard := rfl
@[simp] theorem State.countSat_rails (k : Nat) : (s.countSat k).rails = s.rails := rfl
@[simp] theorem State.countSat_signals (k : Nat) : (s.countSat k).signals = s.signals := rfl
@[simp] theorem State.countSat_winTrip (k : Nat) : (s.countSat k).winTrip = s.winTrip := rfl
@[simp] theorem State.countSat_engines (k : Nat) : (s.countSat k).engines = s.engines := rfl
@[simp] theorem State.countSat_modeDone (k : Nat) : (s.countSat k).modeDone = s.modeDone := rfl
@[simp] theorem State.countSat_refs (k : Nat) : (s.countSat k).refs = s.refs := rfl
@[simp] theorem State.countSat_charge (k : Nat) : (s.countSat k).charge = s.charge := rfl
@[simp] theorem State.countSat_string (k : Nat) : (s.countSat k).string = s.string := rfl
@[simp] theorem State.countSat_stringRx (k : Nat) : (s.countSat k).stringRx = s.stringRx := rfl
@[simp] theorem State.countSat_collector (k : Nat) : (s.countSat k).collector = s.collector := rfl
@[simp] theorem State.countSat_lanes (k : Nat) : (s.countSat k).lanes = s.lanes := rfl
@[simp] theorem State.countSat_paths (k : Nat) : (s.countSat k).paths = s.paths := rfl
@[simp] theorem State.countSat_hatch (k : Nat) : (s.countSat k).hatch = s.hatch := rfl
@[simp] theorem State.countSat_lease (k : Nat) : (s.countSat k).lease = s.lease := rfl
@[simp] theorem State.countSat_frames (k : Nat) : (s.countSat k).frames = s.frames := rfl
@[simp] theorem State.countSat_time (k : Nat) : (s.countSat k).time = s.time := rfl
@[simp] theorem State.countSat_meas (k : Nat) : (s.countSat k).meas = s.meas := rfl
@[simp] theorem State.countSat_thermal (k : Nat) : (s.countSat k).thermal = s.thermal := rfl
@[simp] theorem State.countSat_nv (k : Nat) : (s.countSat k).nv = s.nv := rfl
@[simp] theorem State.countSat_jobs (k : Nat) : (s.countSat k).jobs = s.jobs := rfl
@[simp] theorem State.countSat_can (k : Nat) : (s.countSat k).can = s.can := rfl
@[simp] theorem State.countSat_wdp (k : Nat) : (s.countSat k).wdp = s.wdp := rfl
@[simp] theorem State.countSat_capture (k : Nat) : (s.countSat k).capture = s.capture := rfl

/-! ### advance -/

@[simp] theorem State.advance_pending (n : Nat) : (s.advance n).pending = s.pending := rfl
@[simp] theorem State.advance_tick (n : Nat) : (s.advance n).tick = s.tick + n := rfl
@[simp] theorem State.advance_net (n : Nat) : (s.advance n).net = netOf (s.netUnits + s.netTicks n * s.inc) := rfl
@[simp] theorem State.advance_free (n : Nat) : (s.advance n).free = s.free := rfl
@[simp] theorem State.advance_objs (n : Nat) : (s.advance n).objs = s.objs := rfl
@[simp] theorem State.advance_lastStatus (n : Nat) : (s.advance n).lastStatus = s.lastStatus := rfl
@[simp] theorem State.advance_lastData (n : Nat) : (s.advance n).lastData = s.lastData := rfl
@[simp] theorem State.advance_power (n : Nat) : (s.advance n).power = s.power := rfl
@[simp] theorem State.advance_pins (n : Nat) : (s.advance n).pins = s.pins := rfl
@[simp] theorem State.advance_tap (n : Nat) : (s.advance n).tap = s.tap := rfl
@[simp] theorem State.advance_clock (n : Nat) : (s.advance n).clock = s.clock := rfl
@[simp] theorem State.advance_gates (n : Nat) : (s.advance n).gates = s.gates := rfl
@[simp] theorem State.advance_carriers (n : Nat) : (s.advance n).carriers = s.carriers := rfl
@[simp] theorem State.advance_legs (n : Nat) : (s.advance n).legs = s.legs := rfl
@[simp] theorem State.advance_guard (n : Nat) : (s.advance n).guard = s.guard := rfl
@[simp] theorem State.advance_rails (n : Nat) : (s.advance n).rails = s.rails := rfl
@[simp] theorem State.advance_signals (n : Nat) : (s.advance n).signals = s.signals := rfl
@[simp] theorem State.advance_winTrip (n : Nat) : (s.advance n).winTrip = s.winTrip := rfl
@[simp] theorem State.advance_engines (n : Nat) : (s.advance n).engines = s.engines := rfl
@[simp] theorem State.advance_modeDone (n : Nat) : (s.advance n).modeDone = s.modeDone := rfl
@[simp] theorem State.advance_refs (n : Nat) : (s.advance n).refs = s.refs := rfl
@[simp] theorem State.advance_charge (n : Nat) : (s.advance n).charge = s.charge := rfl
@[simp] theorem State.advance_string (n : Nat) : (s.advance n).string = s.string := rfl
@[simp] theorem State.advance_stringRx (n : Nat) : (s.advance n).stringRx = s.stringRx := rfl
@[simp] theorem State.advance_collector (n : Nat) : (s.advance n).collector = s.collector := rfl
@[simp] theorem State.advance_lanes (n : Nat) : (s.advance n).lanes = s.lanes := rfl
@[simp] theorem State.advance_paths (n : Nat) : (s.advance n).paths = s.paths := rfl
@[simp] theorem State.advance_hatch (n : Nat) : (s.advance n).hatch = s.hatch := rfl
@[simp] theorem State.advance_lease (n : Nat) : (s.advance n).lease = s.lease := rfl
@[simp] theorem State.advance_frames (n : Nat) : (s.advance n).frames = s.frames := rfl
@[simp] theorem State.advance_time (n : Nat) : (s.advance n).time = s.time := rfl
@[simp] theorem State.advance_meas (n : Nat) : (s.advance n).meas = s.meas := rfl
@[simp] theorem State.advance_thermal (n : Nat) : (s.advance n).thermal = s.thermal := rfl
@[simp] theorem State.advance_nv (n : Nat) : (s.advance n).nv = s.nv := rfl
@[simp] theorem State.advance_jobs (n : Nat) : (s.advance n).jobs = s.jobs := rfl
@[simp] theorem State.advance_can (n : Nat) : (s.advance n).can = s.can := rfl
@[simp] theorem State.advance_wdp (n : Nat) : (s.advance n).wdp = s.wdp := rfl
@[simp] theorem State.advance_capture (n : Nat) : (s.advance n).capture = s.capture := rfl
@[simp] theorem State.rd_advance (n : Nat) (j : Nat) : (s.advance n).rd j = s.rd j := rfl

/-! ### advanceTo -/

@[simp] theorem State.advanceTo_pending (n : Nat) : (s.advanceTo n).pending = s.pending := rfl
@[simp] theorem State.advanceTo_tick (n : Nat) : (s.advanceTo n).tick = s.tick + (n - s.tick) := rfl
@[simp] theorem State.advanceTo_net (n : Nat) : (s.advanceTo n).net = netOf (s.netUnits + s.netTicks (n - s.tick) * s.inc) := rfl
@[simp] theorem State.advanceTo_free (n : Nat) : (s.advanceTo n).free = s.free := rfl
@[simp] theorem State.advanceTo_objs (n : Nat) : (s.advanceTo n).objs = s.objs := rfl
@[simp] theorem State.advanceTo_lastStatus (n : Nat) : (s.advanceTo n).lastStatus = s.lastStatus := rfl
@[simp] theorem State.advanceTo_lastData (n : Nat) : (s.advanceTo n).lastData = s.lastData := rfl
@[simp] theorem State.advanceTo_power (n : Nat) : (s.advanceTo n).power = s.power := rfl
@[simp] theorem State.advanceTo_pins (n : Nat) : (s.advanceTo n).pins = s.pins := rfl
@[simp] theorem State.advanceTo_tap (n : Nat) : (s.advanceTo n).tap = s.tap := rfl
@[simp] theorem State.advanceTo_clock (n : Nat) : (s.advanceTo n).clock = s.clock := rfl
@[simp] theorem State.advanceTo_gates (n : Nat) : (s.advanceTo n).gates = s.gates := rfl
@[simp] theorem State.advanceTo_carriers (n : Nat) : (s.advanceTo n).carriers = s.carriers := rfl
@[simp] theorem State.advanceTo_legs (n : Nat) : (s.advanceTo n).legs = s.legs := rfl
@[simp] theorem State.advanceTo_guard (n : Nat) : (s.advanceTo n).guard = s.guard := rfl
@[simp] theorem State.advanceTo_rails (n : Nat) : (s.advanceTo n).rails = s.rails := rfl
@[simp] theorem State.advanceTo_signals (n : Nat) : (s.advanceTo n).signals = s.signals := rfl
@[simp] theorem State.advanceTo_winTrip (n : Nat) : (s.advanceTo n).winTrip = s.winTrip := rfl
@[simp] theorem State.advanceTo_engines (n : Nat) : (s.advanceTo n).engines = s.engines := rfl
@[simp] theorem State.advanceTo_modeDone (n : Nat) : (s.advanceTo n).modeDone = s.modeDone := rfl
@[simp] theorem State.advanceTo_refs (n : Nat) : (s.advanceTo n).refs = s.refs := rfl
@[simp] theorem State.advanceTo_charge (n : Nat) : (s.advanceTo n).charge = s.charge := rfl
@[simp] theorem State.advanceTo_string (n : Nat) : (s.advanceTo n).string = s.string := rfl
@[simp] theorem State.advanceTo_stringRx (n : Nat) : (s.advanceTo n).stringRx = s.stringRx := rfl
@[simp] theorem State.advanceTo_collector (n : Nat) : (s.advanceTo n).collector = s.collector := rfl
@[simp] theorem State.advanceTo_lanes (n : Nat) : (s.advanceTo n).lanes = s.lanes := rfl
@[simp] theorem State.advanceTo_paths (n : Nat) : (s.advanceTo n).paths = s.paths := rfl
@[simp] theorem State.advanceTo_hatch (n : Nat) : (s.advanceTo n).hatch = s.hatch := rfl
@[simp] theorem State.advanceTo_lease (n : Nat) : (s.advanceTo n).lease = s.lease := rfl
@[simp] theorem State.advanceTo_frames (n : Nat) : (s.advanceTo n).frames = s.frames := rfl
@[simp] theorem State.advanceTo_time (n : Nat) : (s.advanceTo n).time = s.time := rfl
@[simp] theorem State.advanceTo_meas (n : Nat) : (s.advanceTo n).meas = s.meas := rfl
@[simp] theorem State.advanceTo_thermal (n : Nat) : (s.advanceTo n).thermal = s.thermal := rfl
@[simp] theorem State.advanceTo_nv (n : Nat) : (s.advanceTo n).nv = s.nv := rfl
@[simp] theorem State.advanceTo_jobs (n : Nat) : (s.advanceTo n).jobs = s.jobs := rfl
@[simp] theorem State.advanceTo_can (n : Nat) : (s.advanceTo n).can = s.can := rfl
@[simp] theorem State.advanceTo_wdp (n : Nat) : (s.advanceTo n).wdp = s.wdp := rfl
@[simp] theorem State.advanceTo_capture (n : Nat) : (s.advanceTo n).capture = s.capture := rfl
@[simp] theorem State.rd_advanceTo (n : Nat) (j : Nat) : (s.advanceTo n).rd j = s.rd j := rfl

/-! ### raise -/

@[simp] theorem State.raise_pending (n : Nat) : (s.raise n).pending = s.pending := rfl
@[simp] theorem State.raise_tick (n : Nat) : (s.raise n).tick = s.tick := rfl
@[simp] theorem State.raise_net (n : Nat) : (s.raise n).net = s.net := rfl
@[simp] theorem State.raise_free (n : Nat) : (s.raise n).free = s.free := rfl
@[simp] theorem State.raise_objs (n : Nat) : (s.raise n).objs = s.objs := rfl
@[simp] theorem State.raise_lastStatus (n : Nat) : (s.raise n).lastStatus = s.lastStatus := rfl
@[simp] theorem State.raise_lastData (n : Nat) : (s.raise n).lastData = s.lastData := rfl
@[simp] theorem State.raise_power (n : Nat) : (s.raise n).power = s.power := rfl
@[simp] theorem State.raise_pins (n : Nat) : (s.raise n).pins = s.pins := rfl
@[simp] theorem State.raise_tap (n : Nat) : (s.raise n).tap = s.tap := rfl
@[simp] theorem State.raise_clock (n : Nat) : (s.raise n).clock = s.clock := rfl
@[simp] theorem State.raise_gates (n : Nat) : (s.raise n).gates = s.gates := rfl
@[simp] theorem State.raise_carriers (n : Nat) : (s.raise n).carriers = s.carriers := rfl
@[simp] theorem State.raise_legs (n : Nat) : (s.raise n).legs = s.legs := rfl
@[simp] theorem State.raise_guard (n : Nat) : (s.raise n).guard = s.guard := rfl
@[simp] theorem State.raise_rails (n : Nat) : (s.raise n).rails = { s.rails with occ := s.rails.occ ||| (1#128 <<< n) } := rfl
@[simp] theorem State.raise_signals (n : Nat) : (s.raise n).signals = s.signals := rfl
@[simp] theorem State.raise_winTrip (n : Nat) : (s.raise n).winTrip = s.winTrip := rfl
@[simp] theorem State.raise_engines (n : Nat) : (s.raise n).engines = s.engines := rfl
@[simp] theorem State.raise_modeDone (n : Nat) : (s.raise n).modeDone = s.modeDone := rfl
@[simp] theorem State.raise_refs (n : Nat) : (s.raise n).refs = s.refs := rfl
@[simp] theorem State.raise_charge (n : Nat) : (s.raise n).charge = s.charge := rfl
@[simp] theorem State.raise_string (n : Nat) : (s.raise n).string = s.string := rfl
@[simp] theorem State.raise_stringRx (n : Nat) : (s.raise n).stringRx = s.stringRx := rfl
@[simp] theorem State.raise_collector (n : Nat) : (s.raise n).collector = s.collector := rfl
@[simp] theorem State.raise_lanes (n : Nat) : (s.raise n).lanes = s.lanes := rfl
@[simp] theorem State.raise_paths (n : Nat) : (s.raise n).paths = s.paths := rfl
@[simp] theorem State.raise_hatch (n : Nat) : (s.raise n).hatch = s.hatch := rfl
@[simp] theorem State.raise_lease (n : Nat) : (s.raise n).lease = s.lease := rfl
@[simp] theorem State.raise_frames (n : Nat) : (s.raise n).frames = s.frames := rfl
@[simp] theorem State.raise_time (n : Nat) : (s.raise n).time = s.time := rfl
@[simp] theorem State.raise_meas (n : Nat) : (s.raise n).meas = s.meas := rfl
@[simp] theorem State.raise_thermal (n : Nat) : (s.raise n).thermal = s.thermal := rfl
@[simp] theorem State.raise_nv (n : Nat) : (s.raise n).nv = s.nv := rfl
@[simp] theorem State.raise_jobs (n : Nat) : (s.raise n).jobs = s.jobs := rfl
@[simp] theorem State.raise_can (n : Nat) : (s.raise n).can = s.can := rfl
@[simp] theorem State.raise_wdp (n : Nat) : (s.raise n).wdp = s.wdp := rfl
@[simp] theorem State.raise_capture (n : Nat) : (s.raise n).capture = s.capture := rfl
@[simp] theorem State.rd_raise (n : Nat) (j : Nat) : (s.raise n).rd j = s.rd j := rfl

/-! ### assertSrc -/

@[simp] theorem State.assertSrc_pending (n : Nat) : (s.assertSrc n).pending = s.pending := rfl
@[simp] theorem State.assertSrc_tick (n : Nat) : (s.assertSrc n).tick = s.tick := rfl
@[simp] theorem State.assertSrc_net (n : Nat) : (s.assertSrc n).net = s.net := rfl
@[simp] theorem State.assertSrc_free (n : Nat) : (s.assertSrc n).free = s.free := rfl
@[simp] theorem State.assertSrc_objs (n : Nat) : (s.assertSrc n).objs = s.objs := rfl
@[simp] theorem State.assertSrc_lastStatus (n : Nat) : (s.assertSrc n).lastStatus = s.lastStatus := rfl
@[simp] theorem State.assertSrc_lastData (n : Nat) : (s.assertSrc n).lastData = s.lastData := rfl
@[simp] theorem State.assertSrc_power (n : Nat) : (s.assertSrc n).power = s.power := rfl
@[simp] theorem State.assertSrc_pins (n : Nat) : (s.assertSrc n).pins = s.pins := rfl
@[simp] theorem State.assertSrc_tap (n : Nat) : (s.assertSrc n).tap = s.tap := rfl
@[simp] theorem State.assertSrc_clock (n : Nat) : (s.assertSrc n).clock = s.clock := rfl
@[simp] theorem State.assertSrc_gates (n : Nat) : (s.assertSrc n).gates = s.gates := rfl
@[simp] theorem State.assertSrc_carriers (n : Nat) : (s.assertSrc n).carriers = s.carriers := rfl
@[simp] theorem State.assertSrc_legs (n : Nat) : (s.assertSrc n).legs = s.legs := rfl
@[simp] theorem State.assertSrc_guard (n : Nat) : (s.assertSrc n).guard = s.guard := rfl
@[simp] theorem State.assertSrc_rails (n : Nat) : (s.assertSrc n).rails = { s.rails with cond := s.rails.cond ||| (1#128 <<< n) } := rfl
@[simp] theorem State.assertSrc_signals (n : Nat) : (s.assertSrc n).signals = s.signals := rfl
@[simp] theorem State.assertSrc_winTrip (n : Nat) : (s.assertSrc n).winTrip = s.winTrip := rfl
@[simp] theorem State.assertSrc_engines (n : Nat) : (s.assertSrc n).engines = s.engines := rfl
@[simp] theorem State.assertSrc_modeDone (n : Nat) : (s.assertSrc n).modeDone = s.modeDone := rfl
@[simp] theorem State.assertSrc_refs (n : Nat) : (s.assertSrc n).refs = s.refs := rfl
@[simp] theorem State.assertSrc_charge (n : Nat) : (s.assertSrc n).charge = s.charge := rfl
@[simp] theorem State.assertSrc_string (n : Nat) : (s.assertSrc n).string = s.string := rfl
@[simp] theorem State.assertSrc_stringRx (n : Nat) : (s.assertSrc n).stringRx = s.stringRx := rfl
@[simp] theorem State.assertSrc_collector (n : Nat) : (s.assertSrc n).collector = s.collector := rfl
@[simp] theorem State.assertSrc_lanes (n : Nat) : (s.assertSrc n).lanes = s.lanes := rfl
@[simp] theorem State.assertSrc_paths (n : Nat) : (s.assertSrc n).paths = s.paths := rfl
@[simp] theorem State.assertSrc_hatch (n : Nat) : (s.assertSrc n).hatch = s.hatch := rfl
@[simp] theorem State.assertSrc_lease (n : Nat) : (s.assertSrc n).lease = s.lease := rfl
@[simp] theorem State.assertSrc_frames (n : Nat) : (s.assertSrc n).frames = s.frames := rfl
@[simp] theorem State.assertSrc_time (n : Nat) : (s.assertSrc n).time = s.time := rfl
@[simp] theorem State.assertSrc_meas (n : Nat) : (s.assertSrc n).meas = s.meas := rfl
@[simp] theorem State.assertSrc_thermal (n : Nat) : (s.assertSrc n).thermal = s.thermal := rfl
@[simp] theorem State.assertSrc_nv (n : Nat) : (s.assertSrc n).nv = s.nv := rfl
@[simp] theorem State.assertSrc_jobs (n : Nat) : (s.assertSrc n).jobs = s.jobs := rfl
@[simp] theorem State.assertSrc_can (n : Nat) : (s.assertSrc n).can = s.can := rfl
@[simp] theorem State.assertSrc_wdp (n : Nat) : (s.assertSrc n).wdp = s.wdp := rfl
@[simp] theorem State.assertSrc_capture (n : Nat) : (s.assertSrc n).capture = s.capture := rfl
@[simp] theorem State.rd_assertSrc (n : Nat) (j : Nat) : (s.assertSrc n).rd j = s.rd j := rfl

/-! ### deassertSrc -/

@[simp] theorem State.deassertSrc_pending (n : Nat) : (s.deassertSrc n).pending = s.pending := rfl
@[simp] theorem State.deassertSrc_tick (n : Nat) : (s.deassertSrc n).tick = s.tick := rfl
@[simp] theorem State.deassertSrc_net (n : Nat) : (s.deassertSrc n).net = s.net := rfl
@[simp] theorem State.deassertSrc_free (n : Nat) : (s.deassertSrc n).free = s.free := rfl
@[simp] theorem State.deassertSrc_objs (n : Nat) : (s.deassertSrc n).objs = s.objs := rfl
@[simp] theorem State.deassertSrc_lastStatus (n : Nat) : (s.deassertSrc n).lastStatus = s.lastStatus := rfl
@[simp] theorem State.deassertSrc_lastData (n : Nat) : (s.deassertSrc n).lastData = s.lastData := rfl
@[simp] theorem State.deassertSrc_power (n : Nat) : (s.deassertSrc n).power = s.power := rfl
@[simp] theorem State.deassertSrc_pins (n : Nat) : (s.deassertSrc n).pins = s.pins := rfl
@[simp] theorem State.deassertSrc_tap (n : Nat) : (s.deassertSrc n).tap = s.tap := rfl
@[simp] theorem State.deassertSrc_clock (n : Nat) : (s.deassertSrc n).clock = s.clock := rfl
@[simp] theorem State.deassertSrc_gates (n : Nat) : (s.deassertSrc n).gates = s.gates := rfl
@[simp] theorem State.deassertSrc_carriers (n : Nat) : (s.deassertSrc n).carriers = s.carriers := rfl
@[simp] theorem State.deassertSrc_legs (n : Nat) : (s.deassertSrc n).legs = s.legs := rfl
@[simp] theorem State.deassertSrc_guard (n : Nat) : (s.deassertSrc n).guard = s.guard := rfl
@[simp] theorem State.deassertSrc_rails (n : Nat) : (s.deassertSrc n).rails = { s.rails with cond := s.rails.cond &&& ~~~(1#128 <<< n) } := rfl
@[simp] theorem State.deassertSrc_signals (n : Nat) : (s.deassertSrc n).signals = s.signals := rfl
@[simp] theorem State.deassertSrc_winTrip (n : Nat) : (s.deassertSrc n).winTrip = s.winTrip := rfl
@[simp] theorem State.deassertSrc_engines (n : Nat) : (s.deassertSrc n).engines = s.engines := rfl
@[simp] theorem State.deassertSrc_modeDone (n : Nat) : (s.deassertSrc n).modeDone = s.modeDone := rfl
@[simp] theorem State.deassertSrc_refs (n : Nat) : (s.deassertSrc n).refs = s.refs := rfl
@[simp] theorem State.deassertSrc_charge (n : Nat) : (s.deassertSrc n).charge = s.charge := rfl
@[simp] theorem State.deassertSrc_string (n : Nat) : (s.deassertSrc n).string = s.string := rfl
@[simp] theorem State.deassertSrc_stringRx (n : Nat) : (s.deassertSrc n).stringRx = s.stringRx := rfl
@[simp] theorem State.deassertSrc_collector (n : Nat) : (s.deassertSrc n).collector = s.collector := rfl
@[simp] theorem State.deassertSrc_lanes (n : Nat) : (s.deassertSrc n).lanes = s.lanes := rfl
@[simp] theorem State.deassertSrc_paths (n : Nat) : (s.deassertSrc n).paths = s.paths := rfl
@[simp] theorem State.deassertSrc_hatch (n : Nat) : (s.deassertSrc n).hatch = s.hatch := rfl
@[simp] theorem State.deassertSrc_lease (n : Nat) : (s.deassertSrc n).lease = s.lease := rfl
@[simp] theorem State.deassertSrc_frames (n : Nat) : (s.deassertSrc n).frames = s.frames := rfl
@[simp] theorem State.deassertSrc_time (n : Nat) : (s.deassertSrc n).time = s.time := rfl
@[simp] theorem State.deassertSrc_meas (n : Nat) : (s.deassertSrc n).meas = s.meas := rfl
@[simp] theorem State.deassertSrc_thermal (n : Nat) : (s.deassertSrc n).thermal = s.thermal := rfl
@[simp] theorem State.deassertSrc_nv (n : Nat) : (s.deassertSrc n).nv = s.nv := rfl
@[simp] theorem State.deassertSrc_jobs (n : Nat) : (s.deassertSrc n).jobs = s.jobs := rfl
@[simp] theorem State.deassertSrc_can (n : Nat) : (s.deassertSrc n).can = s.can := rfl
@[simp] theorem State.deassertSrc_wdp (n : Nat) : (s.deassertSrc n).wdp = s.wdp := rfl
@[simp] theorem State.deassertSrc_capture (n : Nat) : (s.deassertSrc n).capture = s.capture := rfl
@[simp] theorem State.rd_deassertSrc (n : Nat) (j : Nat) : (s.deassertSrc n).rd j = s.rd j := rfl

/-! ### modCarrier -/

@[simp] theorem State.modCarrier_pending (k : Carrier) (f : CarrierSt → CarrierSt) : (s.modCarrier k f).pending = s.pending := rfl
@[simp] theorem State.modCarrier_tick (k : Carrier) (f : CarrierSt → CarrierSt) : (s.modCarrier k f).tick = s.tick := rfl
@[simp] theorem State.modCarrier_net (k : Carrier) (f : CarrierSt → CarrierSt) : (s.modCarrier k f).net = s.net := rfl
@[simp] theorem State.modCarrier_free (k : Carrier) (f : CarrierSt → CarrierSt) : (s.modCarrier k f).free = s.free := rfl
@[simp] theorem State.modCarrier_objs (k : Carrier) (f : CarrierSt → CarrierSt) : (s.modCarrier k f).objs = s.objs := rfl
@[simp] theorem State.modCarrier_lastStatus (k : Carrier) (f : CarrierSt → CarrierSt) : (s.modCarrier k f).lastStatus = s.lastStatus := rfl
@[simp] theorem State.modCarrier_lastData (k : Carrier) (f : CarrierSt → CarrierSt) : (s.modCarrier k f).lastData = s.lastData := rfl
@[simp] theorem State.modCarrier_power (k : Carrier) (f : CarrierSt → CarrierSt) : (s.modCarrier k f).power = s.power := rfl
@[simp] theorem State.modCarrier_pins (k : Carrier) (f : CarrierSt → CarrierSt) : (s.modCarrier k f).pins = s.pins := rfl
@[simp] theorem State.modCarrier_tap (k : Carrier) (f : CarrierSt → CarrierSt) : (s.modCarrier k f).tap = s.tap := rfl
@[simp] theorem State.modCarrier_clock (k : Carrier) (f : CarrierSt → CarrierSt) : (s.modCarrier k f).clock = s.clock := rfl
@[simp] theorem State.modCarrier_gates (k : Carrier) (f : CarrierSt → CarrierSt) : (s.modCarrier k f).gates = s.gates := rfl
@[simp] theorem State.modCarrier_carriers (k : Carrier) (f : CarrierSt → CarrierSt) : (s.modCarrier k f).carriers = upd s.carriers k f := rfl
@[simp] theorem State.modCarrier_legs (k : Carrier) (f : CarrierSt → CarrierSt) : (s.modCarrier k f).legs = s.legs := rfl
@[simp] theorem State.modCarrier_guard (k : Carrier) (f : CarrierSt → CarrierSt) : (s.modCarrier k f).guard = s.guard := rfl
@[simp] theorem State.modCarrier_rails (k : Carrier) (f : CarrierSt → CarrierSt) : (s.modCarrier k f).rails = s.rails := rfl
@[simp] theorem State.modCarrier_signals (k : Carrier) (f : CarrierSt → CarrierSt) : (s.modCarrier k f).signals = s.signals := rfl
@[simp] theorem State.modCarrier_winTrip (k : Carrier) (f : CarrierSt → CarrierSt) : (s.modCarrier k f).winTrip = s.winTrip := rfl
@[simp] theorem State.modCarrier_engines (k : Carrier) (f : CarrierSt → CarrierSt) : (s.modCarrier k f).engines = s.engines := rfl
@[simp] theorem State.modCarrier_modeDone (k : Carrier) (f : CarrierSt → CarrierSt) : (s.modCarrier k f).modeDone = s.modeDone := rfl
@[simp] theorem State.modCarrier_refs (k : Carrier) (f : CarrierSt → CarrierSt) : (s.modCarrier k f).refs = s.refs := rfl
@[simp] theorem State.modCarrier_charge (k : Carrier) (f : CarrierSt → CarrierSt) : (s.modCarrier k f).charge = s.charge := rfl
@[simp] theorem State.modCarrier_string (k : Carrier) (f : CarrierSt → CarrierSt) : (s.modCarrier k f).string = s.string := rfl
@[simp] theorem State.modCarrier_stringRx (k : Carrier) (f : CarrierSt → CarrierSt) : (s.modCarrier k f).stringRx = s.stringRx := rfl
@[simp] theorem State.modCarrier_collector (k : Carrier) (f : CarrierSt → CarrierSt) : (s.modCarrier k f).collector = s.collector := rfl
@[simp] theorem State.modCarrier_lanes (k : Carrier) (f : CarrierSt → CarrierSt) : (s.modCarrier k f).lanes = s.lanes := rfl
@[simp] theorem State.modCarrier_paths (k : Carrier) (f : CarrierSt → CarrierSt) : (s.modCarrier k f).paths = s.paths := rfl
@[simp] theorem State.modCarrier_hatch (k : Carrier) (f : CarrierSt → CarrierSt) : (s.modCarrier k f).hatch = s.hatch := rfl
@[simp] theorem State.modCarrier_lease (k : Carrier) (f : CarrierSt → CarrierSt) : (s.modCarrier k f).lease = s.lease := rfl
@[simp] theorem State.modCarrier_frames (k : Carrier) (f : CarrierSt → CarrierSt) : (s.modCarrier k f).frames = s.frames := rfl
@[simp] theorem State.modCarrier_time (k : Carrier) (f : CarrierSt → CarrierSt) : (s.modCarrier k f).time = s.time := rfl
@[simp] theorem State.modCarrier_meas (k : Carrier) (f : CarrierSt → CarrierSt) : (s.modCarrier k f).meas = s.meas := rfl
@[simp] theorem State.modCarrier_thermal (k : Carrier) (f : CarrierSt → CarrierSt) : (s.modCarrier k f).thermal = s.thermal := rfl
@[simp] theorem State.modCarrier_nv (k : Carrier) (f : CarrierSt → CarrierSt) : (s.modCarrier k f).nv = s.nv := rfl
@[simp] theorem State.modCarrier_jobs (k : Carrier) (f : CarrierSt → CarrierSt) : (s.modCarrier k f).jobs = s.jobs := rfl
@[simp] theorem State.modCarrier_can (k : Carrier) (f : CarrierSt → CarrierSt) : (s.modCarrier k f).can = s.can := rfl
@[simp] theorem State.modCarrier_wdp (k : Carrier) (f : CarrierSt → CarrierSt) : (s.modCarrier k f).wdp = s.wdp := rfl
@[simp] theorem State.modCarrier_capture (k : Carrier) (f : CarrierSt → CarrierSt) : (s.modCarrier k f).capture = s.capture := rfl
@[simp] theorem State.rd_modCarrier (k : Carrier) (f : CarrierSt → CarrierSt) (j : Nat) : (s.modCarrier k f).rd j = s.rd j := rfl

/-! ### modLeg -/

@[simp] theorem State.modLeg_pending (l : Leg) (f : LegSt → LegSt) : (s.modLeg l f).pending = s.pending := rfl
@[simp] theorem State.modLeg_tick (l : Leg) (f : LegSt → LegSt) : (s.modLeg l f).tick = s.tick := rfl
@[simp] theorem State.modLeg_net (l : Leg) (f : LegSt → LegSt) : (s.modLeg l f).net = s.net := rfl
@[simp] theorem State.modLeg_free (l : Leg) (f : LegSt → LegSt) : (s.modLeg l f).free = s.free := rfl
@[simp] theorem State.modLeg_objs (l : Leg) (f : LegSt → LegSt) : (s.modLeg l f).objs = s.objs := rfl
@[simp] theorem State.modLeg_lastStatus (l : Leg) (f : LegSt → LegSt) : (s.modLeg l f).lastStatus = s.lastStatus := rfl
@[simp] theorem State.modLeg_lastData (l : Leg) (f : LegSt → LegSt) : (s.modLeg l f).lastData = s.lastData := rfl
@[simp] theorem State.modLeg_power (l : Leg) (f : LegSt → LegSt) : (s.modLeg l f).power = s.power := rfl
@[simp] theorem State.modLeg_pins (l : Leg) (f : LegSt → LegSt) : (s.modLeg l f).pins = s.pins := rfl
@[simp] theorem State.modLeg_tap (l : Leg) (f : LegSt → LegSt) : (s.modLeg l f).tap = s.tap := rfl
@[simp] theorem State.modLeg_clock (l : Leg) (f : LegSt → LegSt) : (s.modLeg l f).clock = s.clock := rfl
@[simp] theorem State.modLeg_gates (l : Leg) (f : LegSt → LegSt) : (s.modLeg l f).gates = s.gates := rfl
@[simp] theorem State.modLeg_carriers (l : Leg) (f : LegSt → LegSt) : (s.modLeg l f).carriers = s.carriers := rfl
@[simp] theorem State.modLeg_legs (l : Leg) (f : LegSt → LegSt) : (s.modLeg l f).legs = upd s.legs l f := rfl
@[simp] theorem State.modLeg_guard (l : Leg) (f : LegSt → LegSt) : (s.modLeg l f).guard = s.guard := rfl
@[simp] theorem State.modLeg_rails (l : Leg) (f : LegSt → LegSt) : (s.modLeg l f).rails = s.rails := rfl
@[simp] theorem State.modLeg_signals (l : Leg) (f : LegSt → LegSt) : (s.modLeg l f).signals = s.signals := rfl
@[simp] theorem State.modLeg_winTrip (l : Leg) (f : LegSt → LegSt) : (s.modLeg l f).winTrip = s.winTrip := rfl
@[simp] theorem State.modLeg_engines (l : Leg) (f : LegSt → LegSt) : (s.modLeg l f).engines = s.engines := rfl
@[simp] theorem State.modLeg_modeDone (l : Leg) (f : LegSt → LegSt) : (s.modLeg l f).modeDone = s.modeDone := rfl
@[simp] theorem State.modLeg_refs (l : Leg) (f : LegSt → LegSt) : (s.modLeg l f).refs = s.refs := rfl
@[simp] theorem State.modLeg_charge (l : Leg) (f : LegSt → LegSt) : (s.modLeg l f).charge = s.charge := rfl
@[simp] theorem State.modLeg_string (l : Leg) (f : LegSt → LegSt) : (s.modLeg l f).string = s.string := rfl
@[simp] theorem State.modLeg_stringRx (l : Leg) (f : LegSt → LegSt) : (s.modLeg l f).stringRx = s.stringRx := rfl
@[simp] theorem State.modLeg_collector (l : Leg) (f : LegSt → LegSt) : (s.modLeg l f).collector = s.collector := rfl
@[simp] theorem State.modLeg_lanes (l : Leg) (f : LegSt → LegSt) : (s.modLeg l f).lanes = s.lanes := rfl
@[simp] theorem State.modLeg_paths (l : Leg) (f : LegSt → LegSt) : (s.modLeg l f).paths = s.paths := rfl
@[simp] theorem State.modLeg_hatch (l : Leg) (f : LegSt → LegSt) : (s.modLeg l f).hatch = s.hatch := rfl
@[simp] theorem State.modLeg_lease (l : Leg) (f : LegSt → LegSt) : (s.modLeg l f).lease = s.lease := rfl
@[simp] theorem State.modLeg_frames (l : Leg) (f : LegSt → LegSt) : (s.modLeg l f).frames = s.frames := rfl
@[simp] theorem State.modLeg_time (l : Leg) (f : LegSt → LegSt) : (s.modLeg l f).time = s.time := rfl
@[simp] theorem State.modLeg_meas (l : Leg) (f : LegSt → LegSt) : (s.modLeg l f).meas = s.meas := rfl
@[simp] theorem State.modLeg_thermal (l : Leg) (f : LegSt → LegSt) : (s.modLeg l f).thermal = s.thermal := rfl
@[simp] theorem State.modLeg_nv (l : Leg) (f : LegSt → LegSt) : (s.modLeg l f).nv = s.nv := rfl
@[simp] theorem State.modLeg_jobs (l : Leg) (f : LegSt → LegSt) : (s.modLeg l f).jobs = s.jobs := rfl
@[simp] theorem State.modLeg_can (l : Leg) (f : LegSt → LegSt) : (s.modLeg l f).can = s.can := rfl
@[simp] theorem State.modLeg_wdp (l : Leg) (f : LegSt → LegSt) : (s.modLeg l f).wdp = s.wdp := rfl
@[simp] theorem State.modLeg_capture (l : Leg) (f : LegSt → LegSt) : (s.modLeg l f).capture = s.capture := rfl
@[simp] theorem State.rd_modLeg (l : Leg) (f : LegSt → LegSt) (j : Nat) : (s.modLeg l f).rd j = s.rd j := rfl

/-! ### modGuard -/

@[simp] theorem State.modGuard_pending (c : Cell) (f : GuardSt → GuardSt) : (s.modGuard c f).pending = s.pending := rfl
@[simp] theorem State.modGuard_tick (c : Cell) (f : GuardSt → GuardSt) : (s.modGuard c f).tick = s.tick := rfl
@[simp] theorem State.modGuard_net (c : Cell) (f : GuardSt → GuardSt) : (s.modGuard c f).net = s.net := rfl
@[simp] theorem State.modGuard_free (c : Cell) (f : GuardSt → GuardSt) : (s.modGuard c f).free = s.free := rfl
@[simp] theorem State.modGuard_objs (c : Cell) (f : GuardSt → GuardSt) : (s.modGuard c f).objs = s.objs := rfl
@[simp] theorem State.modGuard_lastStatus (c : Cell) (f : GuardSt → GuardSt) : (s.modGuard c f).lastStatus = s.lastStatus := rfl
@[simp] theorem State.modGuard_lastData (c : Cell) (f : GuardSt → GuardSt) : (s.modGuard c f).lastData = s.lastData := rfl
@[simp] theorem State.modGuard_power (c : Cell) (f : GuardSt → GuardSt) : (s.modGuard c f).power = s.power := rfl
@[simp] theorem State.modGuard_pins (c : Cell) (f : GuardSt → GuardSt) : (s.modGuard c f).pins = s.pins := rfl
@[simp] theorem State.modGuard_tap (c : Cell) (f : GuardSt → GuardSt) : (s.modGuard c f).tap = s.tap := rfl
@[simp] theorem State.modGuard_clock (c : Cell) (f : GuardSt → GuardSt) : (s.modGuard c f).clock = s.clock := rfl
@[simp] theorem State.modGuard_gates (c : Cell) (f : GuardSt → GuardSt) : (s.modGuard c f).gates = s.gates := rfl
@[simp] theorem State.modGuard_carriers (c : Cell) (f : GuardSt → GuardSt) : (s.modGuard c f).carriers = s.carriers := rfl
@[simp] theorem State.modGuard_legs (c : Cell) (f : GuardSt → GuardSt) : (s.modGuard c f).legs = s.legs := rfl
@[simp] theorem State.modGuard_guard (c : Cell) (f : GuardSt → GuardSt) : (s.modGuard c f).guard = upd s.guard c f := rfl
@[simp] theorem State.modGuard_rails (c : Cell) (f : GuardSt → GuardSt) : (s.modGuard c f).rails = s.rails := rfl
@[simp] theorem State.modGuard_signals (c : Cell) (f : GuardSt → GuardSt) : (s.modGuard c f).signals = s.signals := rfl
@[simp] theorem State.modGuard_winTrip (c : Cell) (f : GuardSt → GuardSt) : (s.modGuard c f).winTrip = s.winTrip := rfl
@[simp] theorem State.modGuard_engines (c : Cell) (f : GuardSt → GuardSt) : (s.modGuard c f).engines = s.engines := rfl
@[simp] theorem State.modGuard_modeDone (c : Cell) (f : GuardSt → GuardSt) : (s.modGuard c f).modeDone = s.modeDone := rfl
@[simp] theorem State.modGuard_refs (c : Cell) (f : GuardSt → GuardSt) : (s.modGuard c f).refs = s.refs := rfl
@[simp] theorem State.modGuard_charge (c : Cell) (f : GuardSt → GuardSt) : (s.modGuard c f).charge = s.charge := rfl
@[simp] theorem State.modGuard_string (c : Cell) (f : GuardSt → GuardSt) : (s.modGuard c f).string = s.string := rfl
@[simp] theorem State.modGuard_stringRx (c : Cell) (f : GuardSt → GuardSt) : (s.modGuard c f).stringRx = s.stringRx := rfl
@[simp] theorem State.modGuard_collector (c : Cell) (f : GuardSt → GuardSt) : (s.modGuard c f).collector = s.collector := rfl
@[simp] theorem State.modGuard_lanes (c : Cell) (f : GuardSt → GuardSt) : (s.modGuard c f).lanes = s.lanes := rfl
@[simp] theorem State.modGuard_paths (c : Cell) (f : GuardSt → GuardSt) : (s.modGuard c f).paths = s.paths := rfl
@[simp] theorem State.modGuard_hatch (c : Cell) (f : GuardSt → GuardSt) : (s.modGuard c f).hatch = s.hatch := rfl
@[simp] theorem State.modGuard_lease (c : Cell) (f : GuardSt → GuardSt) : (s.modGuard c f).lease = s.lease := rfl
@[simp] theorem State.modGuard_frames (c : Cell) (f : GuardSt → GuardSt) : (s.modGuard c f).frames = s.frames := rfl
@[simp] theorem State.modGuard_time (c : Cell) (f : GuardSt → GuardSt) : (s.modGuard c f).time = s.time := rfl
@[simp] theorem State.modGuard_meas (c : Cell) (f : GuardSt → GuardSt) : (s.modGuard c f).meas = s.meas := rfl
@[simp] theorem State.modGuard_thermal (c : Cell) (f : GuardSt → GuardSt) : (s.modGuard c f).thermal = s.thermal := rfl
@[simp] theorem State.modGuard_nv (c : Cell) (f : GuardSt → GuardSt) : (s.modGuard c f).nv = s.nv := rfl
@[simp] theorem State.modGuard_jobs (c : Cell) (f : GuardSt → GuardSt) : (s.modGuard c f).jobs = s.jobs := rfl
@[simp] theorem State.modGuard_can (c : Cell) (f : GuardSt → GuardSt) : (s.modGuard c f).can = s.can := rfl
@[simp] theorem State.modGuard_wdp (c : Cell) (f : GuardSt → GuardSt) : (s.modGuard c f).wdp = s.wdp := rfl
@[simp] theorem State.modGuard_capture (c : Cell) (f : GuardSt → GuardSt) : (s.modGuard c f).capture = s.capture := rfl
@[simp] theorem State.rd_modGuard (c : Cell) (f : GuardSt → GuardSt) (j : Nat) : (s.modGuard c f).rd j = s.rd j := rfl

/-! ### gate -/

@[simp] theorem State.gate_pending (l : Line) (b : Bool) : (s.gate l b).pending = s.pending := rfl
@[simp] theorem State.gate_tick (l : Line) (b : Bool) : (s.gate l b).tick = s.tick := rfl
@[simp] theorem State.gate_net (l : Line) (b : Bool) : (s.gate l b).net = s.net := rfl
@[simp] theorem State.gate_free (l : Line) (b : Bool) : (s.gate l b).free = s.free := rfl
@[simp] theorem State.gate_objs (l : Line) (b : Bool) : (s.gate l b).objs = s.objs := rfl
@[simp] theorem State.gate_lastStatus (l : Line) (b : Bool) : (s.gate l b).lastStatus = s.lastStatus := rfl
@[simp] theorem State.gate_lastData (l : Line) (b : Bool) : (s.gate l b).lastData = s.lastData := rfl
@[simp] theorem State.gate_power (l : Line) (b : Bool) : (s.gate l b).power = s.power := rfl
@[simp] theorem State.gate_pins (l : Line) (b : Bool) : (s.gate l b).pins = s.pins := rfl
@[simp] theorem State.gate_tap (l : Line) (b : Bool) : (s.gate l b).tap = s.tap := rfl
@[simp] theorem State.gate_clock (l : Line) (b : Bool) : (s.gate l b).clock = s.clock := rfl
@[simp] theorem State.gate_gates (l : Line) (b : Bool) : (s.gate l b).gates = s.gates.set l b := rfl
@[simp] theorem State.gate_carriers (l : Line) (b : Bool) : (s.gate l b).carriers = s.carriers := rfl
@[simp] theorem State.gate_legs (l : Line) (b : Bool) : (s.gate l b).legs = s.legs := rfl
@[simp] theorem State.gate_guard (l : Line) (b : Bool) : (s.gate l b).guard = s.guard := rfl
@[simp] theorem State.gate_rails (l : Line) (b : Bool) : (s.gate l b).rails = s.rails := rfl
@[simp] theorem State.gate_signals (l : Line) (b : Bool) : (s.gate l b).signals = s.signals := rfl
@[simp] theorem State.gate_winTrip (l : Line) (b : Bool) : (s.gate l b).winTrip = s.winTrip := rfl
@[simp] theorem State.gate_engines (l : Line) (b : Bool) : (s.gate l b).engines = s.engines := rfl
@[simp] theorem State.gate_modeDone (l : Line) (b : Bool) : (s.gate l b).modeDone = s.modeDone := rfl
@[simp] theorem State.gate_refs (l : Line) (b : Bool) : (s.gate l b).refs = s.refs := rfl
@[simp] theorem State.gate_charge (l : Line) (b : Bool) : (s.gate l b).charge = s.charge := rfl
@[simp] theorem State.gate_string (l : Line) (b : Bool) : (s.gate l b).string = s.string := rfl
@[simp] theorem State.gate_stringRx (l : Line) (b : Bool) : (s.gate l b).stringRx = s.stringRx := rfl
@[simp] theorem State.gate_collector (l : Line) (b : Bool) : (s.gate l b).collector = s.collector := rfl
@[simp] theorem State.gate_lanes (l : Line) (b : Bool) : (s.gate l b).lanes = s.lanes := rfl
@[simp] theorem State.gate_paths (l : Line) (b : Bool) : (s.gate l b).paths = s.paths := rfl
@[simp] theorem State.gate_hatch (l : Line) (b : Bool) : (s.gate l b).hatch = s.hatch := rfl
@[simp] theorem State.gate_lease (l : Line) (b : Bool) : (s.gate l b).lease = s.lease := rfl
@[simp] theorem State.gate_frames (l : Line) (b : Bool) : (s.gate l b).frames = s.frames := rfl
@[simp] theorem State.gate_time (l : Line) (b : Bool) : (s.gate l b).time = s.time := rfl
@[simp] theorem State.gate_meas (l : Line) (b : Bool) : (s.gate l b).meas = s.meas := rfl
@[simp] theorem State.gate_thermal (l : Line) (b : Bool) : (s.gate l b).thermal = s.thermal := rfl
@[simp] theorem State.gate_nv (l : Line) (b : Bool) : (s.gate l b).nv = s.nv := rfl
@[simp] theorem State.gate_jobs (l : Line) (b : Bool) : (s.gate l b).jobs = s.jobs := rfl
@[simp] theorem State.gate_can (l : Line) (b : Bool) : (s.gate l b).can = s.can := rfl
@[simp] theorem State.gate_wdp (l : Line) (b : Bool) : (s.gate l b).wdp = s.wdp := rfl
@[simp] theorem State.gate_capture (l : Line) (b : Bool) : (s.gate l b).capture = s.capture := rfl
@[simp] theorem State.rd_gate (l : Line) (b : Bool) (j : Nat) : (s.gate l b).rd j = s.rd j := rfl

/-! ### modSensor -/

@[simp] theorem State.modSensor_pending (n : Fin 28) (f : SensorSt → SensorSt) : (s.modSensor n f).pending = s.pending := rfl
@[simp] theorem State.modSensor_tick (n : Fin 28) (f : SensorSt → SensorSt) : (s.modSensor n f).tick = s.tick := rfl
@[simp] theorem State.modSensor_net (n : Fin 28) (f : SensorSt → SensorSt) : (s.modSensor n f).net = s.net := rfl
@[simp] theorem State.modSensor_free (n : Fin 28) (f : SensorSt → SensorSt) : (s.modSensor n f).free = s.free := rfl
@[simp] theorem State.modSensor_objs (n : Fin 28) (f : SensorSt → SensorSt) : (s.modSensor n f).objs = s.objs := rfl
@[simp] theorem State.modSensor_lastStatus (n : Fin 28) (f : SensorSt → SensorSt) : (s.modSensor n f).lastStatus = s.lastStatus := rfl
@[simp] theorem State.modSensor_lastData (n : Fin 28) (f : SensorSt → SensorSt) : (s.modSensor n f).lastData = s.lastData := rfl
@[simp] theorem State.modSensor_power (n : Fin 28) (f : SensorSt → SensorSt) : (s.modSensor n f).power = s.power := rfl
@[simp] theorem State.modSensor_pins (n : Fin 28) (f : SensorSt → SensorSt) : (s.modSensor n f).pins = s.pins := rfl
@[simp] theorem State.modSensor_tap (n : Fin 28) (f : SensorSt → SensorSt) : (s.modSensor n f).tap = s.tap := rfl
@[simp] theorem State.modSensor_clock (n : Fin 28) (f : SensorSt → SensorSt) : (s.modSensor n f).clock = s.clock := rfl
@[simp] theorem State.modSensor_gates (n : Fin 28) (f : SensorSt → SensorSt) : (s.modSensor n f).gates = s.gates := rfl
@[simp] theorem State.modSensor_carriers (n : Fin 28) (f : SensorSt → SensorSt) : (s.modSensor n f).carriers = s.carriers := rfl
@[simp] theorem State.modSensor_legs (n : Fin 28) (f : SensorSt → SensorSt) : (s.modSensor n f).legs = s.legs := rfl
@[simp] theorem State.modSensor_guard (n : Fin 28) (f : SensorSt → SensorSt) : (s.modSensor n f).guard = s.guard := rfl
@[simp] theorem State.modSensor_rails (n : Fin 28) (f : SensorSt → SensorSt) : (s.modSensor n f).rails = s.rails := rfl
@[simp] theorem State.modSensor_signals (n : Fin 28) (f : SensorSt → SensorSt) : (s.modSensor n f).signals = s.signals := rfl
@[simp] theorem State.modSensor_winTrip (n : Fin 28) (f : SensorSt → SensorSt) : (s.modSensor n f).winTrip = s.winTrip := rfl
@[simp] theorem State.modSensor_engines (n : Fin 28) (f : SensorSt → SensorSt) : (s.modSensor n f).engines = s.engines := rfl
@[simp] theorem State.modSensor_modeDone (n : Fin 28) (f : SensorSt → SensorSt) : (s.modSensor n f).modeDone = s.modeDone := rfl
@[simp] theorem State.modSensor_refs (n : Fin 28) (f : SensorSt → SensorSt) : (s.modSensor n f).refs = s.refs := rfl
@[simp] theorem State.modSensor_charge (n : Fin 28) (f : SensorSt → SensorSt) : (s.modSensor n f).charge = s.charge := rfl
@[simp] theorem State.modSensor_string (n : Fin 28) (f : SensorSt → SensorSt) : (s.modSensor n f).string = s.string := rfl
@[simp] theorem State.modSensor_stringRx (n : Fin 28) (f : SensorSt → SensorSt) : (s.modSensor n f).stringRx = s.stringRx := rfl
@[simp] theorem State.modSensor_collector (n : Fin 28) (f : SensorSt → SensorSt) : (s.modSensor n f).collector = s.collector := rfl
@[simp] theorem State.modSensor_lanes (n : Fin 28) (f : SensorSt → SensorSt) : (s.modSensor n f).lanes = s.lanes := rfl
@[simp] theorem State.modSensor_paths (n : Fin 28) (f : SensorSt → SensorSt) : (s.modSensor n f).paths = s.paths := rfl
@[simp] theorem State.modSensor_hatch (n : Fin 28) (f : SensorSt → SensorSt) : (s.modSensor n f).hatch = s.hatch := rfl
@[simp] theorem State.modSensor_lease (n : Fin 28) (f : SensorSt → SensorSt) : (s.modSensor n f).lease = s.lease := rfl
@[simp] theorem State.modSensor_frames (n : Fin 28) (f : SensorSt → SensorSt) : (s.modSensor n f).frames = s.frames := rfl
@[simp] theorem State.modSensor_time (n : Fin 28) (f : SensorSt → SensorSt) : (s.modSensor n f).time = s.time := rfl
@[simp] theorem State.modSensor_meas (n : Fin 28) (f : SensorSt → SensorSt) : (s.modSensor n f).meas = s.meas := rfl
@[simp] theorem State.modSensor_thermal (n : Fin 28) (f : SensorSt → SensorSt) : (s.modSensor n f).thermal = { s.thermal with sensor := upd s.thermal.sensor n f } := rfl
@[simp] theorem State.modSensor_nv (n : Fin 28) (f : SensorSt → SensorSt) : (s.modSensor n f).nv = s.nv := rfl
@[simp] theorem State.modSensor_jobs (n : Fin 28) (f : SensorSt → SensorSt) : (s.modSensor n f).jobs = s.jobs := rfl
@[simp] theorem State.modSensor_can (n : Fin 28) (f : SensorSt → SensorSt) : (s.modSensor n f).can = s.can := rfl
@[simp] theorem State.modSensor_wdp (n : Fin 28) (f : SensorSt → SensorSt) : (s.modSensor n f).wdp = s.wdp := rfl
@[simp] theorem State.modSensor_capture (n : Fin 28) (f : SensorSt → SensorSt) : (s.modSensor n f).capture = s.capture := rfl
@[simp] theorem State.rd_modSensor (n : Fin 28) (f : SensorSt → SensorSt) (j : Nat) : (s.modSensor n f).rd j = s.rd j := rfl

/-! ### modPower -/

@[simp] theorem State.modPower_pending (f : PowerSt → PowerSt) : (s.modPower f).pending = s.pending := rfl
@[simp] theorem State.modPower_tick (f : PowerSt → PowerSt) : (s.modPower f).tick = s.tick := rfl
@[simp] theorem State.modPower_net (f : PowerSt → PowerSt) : (s.modPower f).net = s.net := rfl
@[simp] theorem State.modPower_free (f : PowerSt → PowerSt) : (s.modPower f).free = s.free := rfl
@[simp] theorem State.modPower_objs (f : PowerSt → PowerSt) : (s.modPower f).objs = s.objs := rfl
@[simp] theorem State.modPower_lastStatus (f : PowerSt → PowerSt) : (s.modPower f).lastStatus = s.lastStatus := rfl
@[simp] theorem State.modPower_lastData (f : PowerSt → PowerSt) : (s.modPower f).lastData = s.lastData := rfl
@[simp] theorem State.modPower_power (f : PowerSt → PowerSt) : (s.modPower f).power = f s.power := rfl
@[simp] theorem State.modPower_pins (f : PowerSt → PowerSt) : (s.modPower f).pins = s.pins := rfl
@[simp] theorem State.modPower_tap (f : PowerSt → PowerSt) : (s.modPower f).tap = s.tap := rfl
@[simp] theorem State.modPower_clock (f : PowerSt → PowerSt) : (s.modPower f).clock = s.clock := rfl
@[simp] theorem State.modPower_gates (f : PowerSt → PowerSt) : (s.modPower f).gates = s.gates := rfl
@[simp] theorem State.modPower_carriers (f : PowerSt → PowerSt) : (s.modPower f).carriers = s.carriers := rfl
@[simp] theorem State.modPower_legs (f : PowerSt → PowerSt) : (s.modPower f).legs = s.legs := rfl
@[simp] theorem State.modPower_guard (f : PowerSt → PowerSt) : (s.modPower f).guard = s.guard := rfl
@[simp] theorem State.modPower_rails (f : PowerSt → PowerSt) : (s.modPower f).rails = s.rails := rfl
@[simp] theorem State.modPower_signals (f : PowerSt → PowerSt) : (s.modPower f).signals = s.signals := rfl
@[simp] theorem State.modPower_winTrip (f : PowerSt → PowerSt) : (s.modPower f).winTrip = s.winTrip := rfl
@[simp] theorem State.modPower_engines (f : PowerSt → PowerSt) : (s.modPower f).engines = s.engines := rfl
@[simp] theorem State.modPower_modeDone (f : PowerSt → PowerSt) : (s.modPower f).modeDone = s.modeDone := rfl
@[simp] theorem State.modPower_refs (f : PowerSt → PowerSt) : (s.modPower f).refs = s.refs := rfl
@[simp] theorem State.modPower_charge (f : PowerSt → PowerSt) : (s.modPower f).charge = s.charge := rfl
@[simp] theorem State.modPower_string (f : PowerSt → PowerSt) : (s.modPower f).string = s.string := rfl
@[simp] theorem State.modPower_stringRx (f : PowerSt → PowerSt) : (s.modPower f).stringRx = s.stringRx := rfl
@[simp] theorem State.modPower_collector (f : PowerSt → PowerSt) : (s.modPower f).collector = s.collector := rfl
@[simp] theorem State.modPower_lanes (f : PowerSt → PowerSt) : (s.modPower f).lanes = s.lanes := rfl
@[simp] theorem State.modPower_paths (f : PowerSt → PowerSt) : (s.modPower f).paths = s.paths := rfl
@[simp] theorem State.modPower_hatch (f : PowerSt → PowerSt) : (s.modPower f).hatch = s.hatch := rfl
@[simp] theorem State.modPower_lease (f : PowerSt → PowerSt) : (s.modPower f).lease = s.lease := rfl
@[simp] theorem State.modPower_frames (f : PowerSt → PowerSt) : (s.modPower f).frames = s.frames := rfl
@[simp] theorem State.modPower_time (f : PowerSt → PowerSt) : (s.modPower f).time = s.time := rfl
@[simp] theorem State.modPower_meas (f : PowerSt → PowerSt) : (s.modPower f).meas = s.meas := rfl
@[simp] theorem State.modPower_thermal (f : PowerSt → PowerSt) : (s.modPower f).thermal = s.thermal := rfl
@[simp] theorem State.modPower_nv (f : PowerSt → PowerSt) : (s.modPower f).nv = s.nv := rfl
@[simp] theorem State.modPower_jobs (f : PowerSt → PowerSt) : (s.modPower f).jobs = s.jobs := rfl
@[simp] theorem State.modPower_can (f : PowerSt → PowerSt) : (s.modPower f).can = s.can := rfl
@[simp] theorem State.modPower_wdp (f : PowerSt → PowerSt) : (s.modPower f).wdp = s.wdp := rfl
@[simp] theorem State.modPower_capture (f : PowerSt → PowerSt) : (s.modPower f).capture = s.capture := rfl
@[simp] theorem State.rd_modPower (f : PowerSt → PowerSt) (j : Nat) : (s.modPower f).rd j = s.rd j := rfl

/-! ### modLane -/

@[simp] theorem State.modLane_pending (i : Lane) (f : LaneSt → LaneSt) : (s.modLane i f).pending = s.pending := rfl
@[simp] theorem State.modLane_tick (i : Lane) (f : LaneSt → LaneSt) : (s.modLane i f).tick = s.tick := rfl
@[simp] theorem State.modLane_net (i : Lane) (f : LaneSt → LaneSt) : (s.modLane i f).net = s.net := rfl
@[simp] theorem State.modLane_free (i : Lane) (f : LaneSt → LaneSt) : (s.modLane i f).free = s.free := rfl
@[simp] theorem State.modLane_objs (i : Lane) (f : LaneSt → LaneSt) : (s.modLane i f).objs = s.objs := rfl
@[simp] theorem State.modLane_lastStatus (i : Lane) (f : LaneSt → LaneSt) : (s.modLane i f).lastStatus = s.lastStatus := rfl
@[simp] theorem State.modLane_lastData (i : Lane) (f : LaneSt → LaneSt) : (s.modLane i f).lastData = s.lastData := rfl
@[simp] theorem State.modLane_power (i : Lane) (f : LaneSt → LaneSt) : (s.modLane i f).power = s.power := rfl
@[simp] theorem State.modLane_pins (i : Lane) (f : LaneSt → LaneSt) : (s.modLane i f).pins = s.pins := rfl
@[simp] theorem State.modLane_tap (i : Lane) (f : LaneSt → LaneSt) : (s.modLane i f).tap = s.tap := rfl
@[simp] theorem State.modLane_clock (i : Lane) (f : LaneSt → LaneSt) : (s.modLane i f).clock = s.clock := rfl
@[simp] theorem State.modLane_gates (i : Lane) (f : LaneSt → LaneSt) : (s.modLane i f).gates = s.gates := rfl
@[simp] theorem State.modLane_carriers (i : Lane) (f : LaneSt → LaneSt) : (s.modLane i f).carriers = s.carriers := rfl
@[simp] theorem State.modLane_legs (i : Lane) (f : LaneSt → LaneSt) : (s.modLane i f).legs = s.legs := rfl
@[simp] theorem State.modLane_guard (i : Lane) (f : LaneSt → LaneSt) : (s.modLane i f).guard = s.guard := rfl
@[simp] theorem State.modLane_rails (i : Lane) (f : LaneSt → LaneSt) : (s.modLane i f).rails = s.rails := rfl
@[simp] theorem State.modLane_signals (i : Lane) (f : LaneSt → LaneSt) : (s.modLane i f).signals = s.signals := rfl
@[simp] theorem State.modLane_winTrip (i : Lane) (f : LaneSt → LaneSt) : (s.modLane i f).winTrip = s.winTrip := rfl
@[simp] theorem State.modLane_engines (i : Lane) (f : LaneSt → LaneSt) : (s.modLane i f).engines = s.engines := rfl
@[simp] theorem State.modLane_modeDone (i : Lane) (f : LaneSt → LaneSt) : (s.modLane i f).modeDone = s.modeDone := rfl
@[simp] theorem State.modLane_refs (i : Lane) (f : LaneSt → LaneSt) : (s.modLane i f).refs = s.refs := rfl
@[simp] theorem State.modLane_charge (i : Lane) (f : LaneSt → LaneSt) : (s.modLane i f).charge = s.charge := rfl
@[simp] theorem State.modLane_string (i : Lane) (f : LaneSt → LaneSt) : (s.modLane i f).string = s.string := rfl
@[simp] theorem State.modLane_stringRx (i : Lane) (f : LaneSt → LaneSt) : (s.modLane i f).stringRx = s.stringRx := rfl
@[simp] theorem State.modLane_collector (i : Lane) (f : LaneSt → LaneSt) : (s.modLane i f).collector = s.collector := rfl
@[simp] theorem State.modLane_lanes (i : Lane) (f : LaneSt → LaneSt) : (s.modLane i f).lanes = upd s.lanes i f := rfl
@[simp] theorem State.modLane_paths (i : Lane) (f : LaneSt → LaneSt) : (s.modLane i f).paths = s.paths := rfl
@[simp] theorem State.modLane_hatch (i : Lane) (f : LaneSt → LaneSt) : (s.modLane i f).hatch = s.hatch := rfl
@[simp] theorem State.modLane_lease (i : Lane) (f : LaneSt → LaneSt) : (s.modLane i f).lease = s.lease := rfl
@[simp] theorem State.modLane_frames (i : Lane) (f : LaneSt → LaneSt) : (s.modLane i f).frames = s.frames := rfl
@[simp] theorem State.modLane_time (i : Lane) (f : LaneSt → LaneSt) : (s.modLane i f).time = s.time := rfl
@[simp] theorem State.modLane_meas (i : Lane) (f : LaneSt → LaneSt) : (s.modLane i f).meas = s.meas := rfl
@[simp] theorem State.modLane_thermal (i : Lane) (f : LaneSt → LaneSt) : (s.modLane i f).thermal = s.thermal := rfl
@[simp] theorem State.modLane_nv (i : Lane) (f : LaneSt → LaneSt) : (s.modLane i f).nv = s.nv := rfl
@[simp] theorem State.modLane_jobs (i : Lane) (f : LaneSt → LaneSt) : (s.modLane i f).jobs = s.jobs := rfl
@[simp] theorem State.modLane_can (i : Lane) (f : LaneSt → LaneSt) : (s.modLane i f).can = s.can := rfl
@[simp] theorem State.modLane_wdp (i : Lane) (f : LaneSt → LaneSt) : (s.modLane i f).wdp = s.wdp := rfl
@[simp] theorem State.modLane_capture (i : Lane) (f : LaneSt → LaneSt) : (s.modLane i f).capture = s.capture := rfl
@[simp] theorem State.rd_modLane (i : Lane) (f : LaneSt → LaneSt) (j : Nat) : (s.modLane i f).rd j = s.rd j := rfl

/-! ### modPath -/

@[simp] theorem State.modPath_pending (q : Path) (f : PathSt → PathSt) : (s.modPath q f).pending = s.pending := rfl
@[simp] theorem State.modPath_tick (q : Path) (f : PathSt → PathSt) : (s.modPath q f).tick = s.tick := rfl
@[simp] theorem State.modPath_net (q : Path) (f : PathSt → PathSt) : (s.modPath q f).net = s.net := rfl
@[simp] theorem State.modPath_free (q : Path) (f : PathSt → PathSt) : (s.modPath q f).free = s.free := rfl
@[simp] theorem State.modPath_objs (q : Path) (f : PathSt → PathSt) : (s.modPath q f).objs = s.objs := rfl
@[simp] theorem State.modPath_lastStatus (q : Path) (f : PathSt → PathSt) : (s.modPath q f).lastStatus = s.lastStatus := rfl
@[simp] theorem State.modPath_lastData (q : Path) (f : PathSt → PathSt) : (s.modPath q f).lastData = s.lastData := rfl
@[simp] theorem State.modPath_power (q : Path) (f : PathSt → PathSt) : (s.modPath q f).power = s.power := rfl
@[simp] theorem State.modPath_pins (q : Path) (f : PathSt → PathSt) : (s.modPath q f).pins = s.pins := rfl
@[simp] theorem State.modPath_tap (q : Path) (f : PathSt → PathSt) : (s.modPath q f).tap = s.tap := rfl
@[simp] theorem State.modPath_clock (q : Path) (f : PathSt → PathSt) : (s.modPath q f).clock = s.clock := rfl
@[simp] theorem State.modPath_gates (q : Path) (f : PathSt → PathSt) : (s.modPath q f).gates = s.gates := rfl
@[simp] theorem State.modPath_carriers (q : Path) (f : PathSt → PathSt) : (s.modPath q f).carriers = s.carriers := rfl
@[simp] theorem State.modPath_legs (q : Path) (f : PathSt → PathSt) : (s.modPath q f).legs = s.legs := rfl
@[simp] theorem State.modPath_guard (q : Path) (f : PathSt → PathSt) : (s.modPath q f).guard = s.guard := rfl
@[simp] theorem State.modPath_rails (q : Path) (f : PathSt → PathSt) : (s.modPath q f).rails = s.rails := rfl
@[simp] theorem State.modPath_signals (q : Path) (f : PathSt → PathSt) : (s.modPath q f).signals = s.signals := rfl
@[simp] theorem State.modPath_winTrip (q : Path) (f : PathSt → PathSt) : (s.modPath q f).winTrip = s.winTrip := rfl
@[simp] theorem State.modPath_engines (q : Path) (f : PathSt → PathSt) : (s.modPath q f).engines = s.engines := rfl
@[simp] theorem State.modPath_modeDone (q : Path) (f : PathSt → PathSt) : (s.modPath q f).modeDone = s.modeDone := rfl
@[simp] theorem State.modPath_refs (q : Path) (f : PathSt → PathSt) : (s.modPath q f).refs = s.refs := rfl
@[simp] theorem State.modPath_charge (q : Path) (f : PathSt → PathSt) : (s.modPath q f).charge = s.charge := rfl
@[simp] theorem State.modPath_string (q : Path) (f : PathSt → PathSt) : (s.modPath q f).string = s.string := rfl
@[simp] theorem State.modPath_stringRx (q : Path) (f : PathSt → PathSt) : (s.modPath q f).stringRx = s.stringRx := rfl
@[simp] theorem State.modPath_collector (q : Path) (f : PathSt → PathSt) : (s.modPath q f).collector = s.collector := rfl
@[simp] theorem State.modPath_lanes (q : Path) (f : PathSt → PathSt) : (s.modPath q f).lanes = s.lanes := rfl
@[simp] theorem State.modPath_paths (q : Path) (f : PathSt → PathSt) : (s.modPath q f).paths = upd s.paths q f := rfl
@[simp] theorem State.modPath_hatch (q : Path) (f : PathSt → PathSt) : (s.modPath q f).hatch = s.hatch := rfl
@[simp] theorem State.modPath_lease (q : Path) (f : PathSt → PathSt) : (s.modPath q f).lease = s.lease := rfl
@[simp] theorem State.modPath_frames (q : Path) (f : PathSt → PathSt) : (s.modPath q f).frames = s.frames := rfl
@[simp] theorem State.modPath_time (q : Path) (f : PathSt → PathSt) : (s.modPath q f).time = s.time := rfl
@[simp] theorem State.modPath_meas (q : Path) (f : PathSt → PathSt) : (s.modPath q f).meas = s.meas := rfl
@[simp] theorem State.modPath_thermal (q : Path) (f : PathSt → PathSt) : (s.modPath q f).thermal = s.thermal := rfl
@[simp] theorem State.modPath_nv (q : Path) (f : PathSt → PathSt) : (s.modPath q f).nv = s.nv := rfl
@[simp] theorem State.modPath_jobs (q : Path) (f : PathSt → PathSt) : (s.modPath q f).jobs = s.jobs := rfl
@[simp] theorem State.modPath_can (q : Path) (f : PathSt → PathSt) : (s.modPath q f).can = s.can := rfl
@[simp] theorem State.modPath_wdp (q : Path) (f : PathSt → PathSt) : (s.modPath q f).wdp = s.wdp := rfl
@[simp] theorem State.modPath_capture (q : Path) (f : PathSt → PathSt) : (s.modPath q f).capture = s.capture := rfl
@[simp] theorem State.rd_modPath (q : Path) (f : PathSt → PathSt) (j : Nat) : (s.modPath q f).rd j = s.rd j := rfl

/-! ### modCan -/

@[simp] theorem State.modCan_pending (u : Fin 2) (f : CanSt → CanSt) : (s.modCan u f).pending = s.pending := rfl
@[simp] theorem State.modCan_tick (u : Fin 2) (f : CanSt → CanSt) : (s.modCan u f).tick = s.tick := rfl
@[simp] theorem State.modCan_net (u : Fin 2) (f : CanSt → CanSt) : (s.modCan u f).net = s.net := rfl
@[simp] theorem State.modCan_free (u : Fin 2) (f : CanSt → CanSt) : (s.modCan u f).free = s.free := rfl
@[simp] theorem State.modCan_objs (u : Fin 2) (f : CanSt → CanSt) : (s.modCan u f).objs = s.objs := rfl
@[simp] theorem State.modCan_lastStatus (u : Fin 2) (f : CanSt → CanSt) : (s.modCan u f).lastStatus = s.lastStatus := rfl
@[simp] theorem State.modCan_lastData (u : Fin 2) (f : CanSt → CanSt) : (s.modCan u f).lastData = s.lastData := rfl
@[simp] theorem State.modCan_power (u : Fin 2) (f : CanSt → CanSt) : (s.modCan u f).power = s.power := rfl
@[simp] theorem State.modCan_pins (u : Fin 2) (f : CanSt → CanSt) : (s.modCan u f).pins = s.pins := rfl
@[simp] theorem State.modCan_tap (u : Fin 2) (f : CanSt → CanSt) : (s.modCan u f).tap = s.tap := rfl
@[simp] theorem State.modCan_clock (u : Fin 2) (f : CanSt → CanSt) : (s.modCan u f).clock = s.clock := rfl
@[simp] theorem State.modCan_gates (u : Fin 2) (f : CanSt → CanSt) : (s.modCan u f).gates = s.gates := rfl
@[simp] theorem State.modCan_carriers (u : Fin 2) (f : CanSt → CanSt) : (s.modCan u f).carriers = s.carriers := rfl
@[simp] theorem State.modCan_legs (u : Fin 2) (f : CanSt → CanSt) : (s.modCan u f).legs = s.legs := rfl
@[simp] theorem State.modCan_guard (u : Fin 2) (f : CanSt → CanSt) : (s.modCan u f).guard = s.guard := rfl
@[simp] theorem State.modCan_rails (u : Fin 2) (f : CanSt → CanSt) : (s.modCan u f).rails = s.rails := rfl
@[simp] theorem State.modCan_signals (u : Fin 2) (f : CanSt → CanSt) : (s.modCan u f).signals = s.signals := rfl
@[simp] theorem State.modCan_winTrip (u : Fin 2) (f : CanSt → CanSt) : (s.modCan u f).winTrip = s.winTrip := rfl
@[simp] theorem State.modCan_engines (u : Fin 2) (f : CanSt → CanSt) : (s.modCan u f).engines = s.engines := rfl
@[simp] theorem State.modCan_modeDone (u : Fin 2) (f : CanSt → CanSt) : (s.modCan u f).modeDone = s.modeDone := rfl
@[simp] theorem State.modCan_refs (u : Fin 2) (f : CanSt → CanSt) : (s.modCan u f).refs = s.refs := rfl
@[simp] theorem State.modCan_charge (u : Fin 2) (f : CanSt → CanSt) : (s.modCan u f).charge = s.charge := rfl
@[simp] theorem State.modCan_string (u : Fin 2) (f : CanSt → CanSt) : (s.modCan u f).string = s.string := rfl
@[simp] theorem State.modCan_stringRx (u : Fin 2) (f : CanSt → CanSt) : (s.modCan u f).stringRx = s.stringRx := rfl
@[simp] theorem State.modCan_collector (u : Fin 2) (f : CanSt → CanSt) : (s.modCan u f).collector = s.collector := rfl
@[simp] theorem State.modCan_lanes (u : Fin 2) (f : CanSt → CanSt) : (s.modCan u f).lanes = s.lanes := rfl
@[simp] theorem State.modCan_paths (u : Fin 2) (f : CanSt → CanSt) : (s.modCan u f).paths = s.paths := rfl
@[simp] theorem State.modCan_hatch (u : Fin 2) (f : CanSt → CanSt) : (s.modCan u f).hatch = s.hatch := rfl
@[simp] theorem State.modCan_lease (u : Fin 2) (f : CanSt → CanSt) : (s.modCan u f).lease = s.lease := rfl
@[simp] theorem State.modCan_frames (u : Fin 2) (f : CanSt → CanSt) : (s.modCan u f).frames = s.frames := rfl
@[simp] theorem State.modCan_time (u : Fin 2) (f : CanSt → CanSt) : (s.modCan u f).time = s.time := rfl
@[simp] theorem State.modCan_meas (u : Fin 2) (f : CanSt → CanSt) : (s.modCan u f).meas = s.meas := rfl
@[simp] theorem State.modCan_thermal (u : Fin 2) (f : CanSt → CanSt) : (s.modCan u f).thermal = s.thermal := rfl
@[simp] theorem State.modCan_nv (u : Fin 2) (f : CanSt → CanSt) : (s.modCan u f).nv = s.nv := rfl
@[simp] theorem State.modCan_jobs (u : Fin 2) (f : CanSt → CanSt) : (s.modCan u f).jobs = s.jobs := rfl
@[simp] theorem State.modCan_can (u : Fin 2) (f : CanSt → CanSt) : (s.modCan u f).can = upd s.can u f := rfl
@[simp] theorem State.modCan_wdp (u : Fin 2) (f : CanSt → CanSt) : (s.modCan u f).wdp = s.wdp := rfl
@[simp] theorem State.modCan_capture (u : Fin 2) (f : CanSt → CanSt) : (s.modCan u f).capture = s.capture := rfl
@[simp] theorem State.rd_modCan (u : Fin 2) (f : CanSt → CanSt) (j : Nat) : (s.modCan u f).rd j = s.rd j := rfl

/-! ### modNv -/

@[simp] theorem State.modNv_pending (f : NvSt → NvSt) : (s.modNv f).pending = s.pending := rfl
@[simp] theorem State.modNv_tick (f : NvSt → NvSt) : (s.modNv f).tick = s.tick := rfl
@[simp] theorem State.modNv_net (f : NvSt → NvSt) : (s.modNv f).net = s.net := rfl
@[simp] theorem State.modNv_free (f : NvSt → NvSt) : (s.modNv f).free = s.free := rfl
@[simp] theorem State.modNv_objs (f : NvSt → NvSt) : (s.modNv f).objs = s.objs := rfl
@[simp] theorem State.modNv_lastStatus (f : NvSt → NvSt) : (s.modNv f).lastStatus = s.lastStatus := rfl
@[simp] theorem State.modNv_lastData (f : NvSt → NvSt) : (s.modNv f).lastData = s.lastData := rfl
@[simp] theorem State.modNv_power (f : NvSt → NvSt) : (s.modNv f).power = s.power := rfl
@[simp] theorem State.modNv_pins (f : NvSt → NvSt) : (s.modNv f).pins = s.pins := rfl
@[simp] theorem State.modNv_tap (f : NvSt → NvSt) : (s.modNv f).tap = s.tap := rfl
@[simp] theorem State.modNv_clock (f : NvSt → NvSt) : (s.modNv f).clock = s.clock := rfl
@[simp] theorem State.modNv_gates (f : NvSt → NvSt) : (s.modNv f).gates = s.gates := rfl
@[simp] theorem State.modNv_carriers (f : NvSt → NvSt) : (s.modNv f).carriers = s.carriers := rfl
@[simp] theorem State.modNv_legs (f : NvSt → NvSt) : (s.modNv f).legs = s.legs := rfl
@[simp] theorem State.modNv_guard (f : NvSt → NvSt) : (s.modNv f).guard = s.guard := rfl
@[simp] theorem State.modNv_rails (f : NvSt → NvSt) : (s.modNv f).rails = s.rails := rfl
@[simp] theorem State.modNv_signals (f : NvSt → NvSt) : (s.modNv f).signals = s.signals := rfl
@[simp] theorem State.modNv_winTrip (f : NvSt → NvSt) : (s.modNv f).winTrip = s.winTrip := rfl
@[simp] theorem State.modNv_engines (f : NvSt → NvSt) : (s.modNv f).engines = s.engines := rfl
@[simp] theorem State.modNv_modeDone (f : NvSt → NvSt) : (s.modNv f).modeDone = s.modeDone := rfl
@[simp] theorem State.modNv_refs (f : NvSt → NvSt) : (s.modNv f).refs = s.refs := rfl
@[simp] theorem State.modNv_charge (f : NvSt → NvSt) : (s.modNv f).charge = s.charge := rfl
@[simp] theorem State.modNv_string (f : NvSt → NvSt) : (s.modNv f).string = s.string := rfl
@[simp] theorem State.modNv_stringRx (f : NvSt → NvSt) : (s.modNv f).stringRx = s.stringRx := rfl
@[simp] theorem State.modNv_collector (f : NvSt → NvSt) : (s.modNv f).collector = s.collector := rfl
@[simp] theorem State.modNv_lanes (f : NvSt → NvSt) : (s.modNv f).lanes = s.lanes := rfl
@[simp] theorem State.modNv_paths (f : NvSt → NvSt) : (s.modNv f).paths = s.paths := rfl
@[simp] theorem State.modNv_hatch (f : NvSt → NvSt) : (s.modNv f).hatch = s.hatch := rfl
@[simp] theorem State.modNv_lease (f : NvSt → NvSt) : (s.modNv f).lease = s.lease := rfl
@[simp] theorem State.modNv_frames (f : NvSt → NvSt) : (s.modNv f).frames = s.frames := rfl
@[simp] theorem State.modNv_time (f : NvSt → NvSt) : (s.modNv f).time = s.time := rfl
@[simp] theorem State.modNv_meas (f : NvSt → NvSt) : (s.modNv f).meas = s.meas := rfl
@[simp] theorem State.modNv_thermal (f : NvSt → NvSt) : (s.modNv f).thermal = s.thermal := rfl
@[simp] theorem State.modNv_nv (f : NvSt → NvSt) : (s.modNv f).nv = f s.nv := rfl
@[simp] theorem State.modNv_jobs (f : NvSt → NvSt) : (s.modNv f).jobs = s.jobs := rfl
@[simp] theorem State.modNv_can (f : NvSt → NvSt) : (s.modNv f).can = s.can := rfl
@[simp] theorem State.modNv_wdp (f : NvSt → NvSt) : (s.modNv f).wdp = s.wdp := rfl
@[simp] theorem State.modNv_capture (f : NvSt → NvSt) : (s.modNv f).capture = s.capture := rfl
@[simp] theorem State.rd_modNv (f : NvSt → NvSt) (j : Nat) : (s.modNv f).rd j = s.rd j := rfl

/-! ### modString -/

@[simp] theorem State.modString_pending (f : StringSt → StringSt) : (s.modString f).pending = s.pending := rfl
@[simp] theorem State.modString_tick (f : StringSt → StringSt) : (s.modString f).tick = s.tick := rfl
@[simp] theorem State.modString_net (f : StringSt → StringSt) : (s.modString f).net = s.net := rfl
@[simp] theorem State.modString_free (f : StringSt → StringSt) : (s.modString f).free = s.free := rfl
@[simp] theorem State.modString_objs (f : StringSt → StringSt) : (s.modString f).objs = s.objs := rfl
@[simp] theorem State.modString_lastStatus (f : StringSt → StringSt) : (s.modString f).lastStatus = s.lastStatus := rfl
@[simp] theorem State.modString_lastData (f : StringSt → StringSt) : (s.modString f).lastData = s.lastData := rfl
@[simp] theorem State.modString_power (f : StringSt → StringSt) : (s.modString f).power = s.power := rfl
@[simp] theorem State.modString_pins (f : StringSt → StringSt) : (s.modString f).pins = s.pins := rfl
@[simp] theorem State.modString_tap (f : StringSt → StringSt) : (s.modString f).tap = s.tap := rfl
@[simp] theorem State.modString_clock (f : StringSt → StringSt) : (s.modString f).clock = s.clock := rfl
@[simp] theorem State.modString_gates (f : StringSt → StringSt) : (s.modString f).gates = s.gates := rfl
@[simp] theorem State.modString_carriers (f : StringSt → StringSt) : (s.modString f).carriers = s.carriers := rfl
@[simp] theorem State.modString_legs (f : StringSt → StringSt) : (s.modString f).legs = s.legs := rfl
@[simp] theorem State.modString_guard (f : StringSt → StringSt) : (s.modString f).guard = s.guard := rfl
@[simp] theorem State.modString_rails (f : StringSt → StringSt) : (s.modString f).rails = s.rails := rfl
@[simp] theorem State.modString_signals (f : StringSt → StringSt) : (s.modString f).signals = s.signals := rfl
@[simp] theorem State.modString_winTrip (f : StringSt → StringSt) : (s.modString f).winTrip = s.winTrip := rfl
@[simp] theorem State.modString_engines (f : StringSt → StringSt) : (s.modString f).engines = s.engines := rfl
@[simp] theorem State.modString_modeDone (f : StringSt → StringSt) : (s.modString f).modeDone = s.modeDone := rfl
@[simp] theorem State.modString_refs (f : StringSt → StringSt) : (s.modString f).refs = s.refs := rfl
@[simp] theorem State.modString_charge (f : StringSt → StringSt) : (s.modString f).charge = s.charge := rfl
@[simp] theorem State.modString_string (f : StringSt → StringSt) : (s.modString f).string = f s.string := rfl
@[simp] theorem State.modString_stringRx (f : StringSt → StringSt) : (s.modString f).stringRx = s.stringRx := rfl
@[simp] theorem State.modString_collector (f : StringSt → StringSt) : (s.modString f).collector = s.collector := rfl
@[simp] theorem State.modString_lanes (f : StringSt → StringSt) : (s.modString f).lanes = s.lanes := rfl
@[simp] theorem State.modString_paths (f : StringSt → StringSt) : (s.modString f).paths = s.paths := rfl
@[simp] theorem State.modString_hatch (f : StringSt → StringSt) : (s.modString f).hatch = s.hatch := rfl
@[simp] theorem State.modString_lease (f : StringSt → StringSt) : (s.modString f).lease = s.lease := rfl
@[simp] theorem State.modString_frames (f : StringSt → StringSt) : (s.modString f).frames = s.frames := rfl
@[simp] theorem State.modString_time (f : StringSt → StringSt) : (s.modString f).time = s.time := rfl
@[simp] theorem State.modString_meas (f : StringSt → StringSt) : (s.modString f).meas = s.meas := rfl
@[simp] theorem State.modString_thermal (f : StringSt → StringSt) : (s.modString f).thermal = s.thermal := rfl
@[simp] theorem State.modString_nv (f : StringSt → StringSt) : (s.modString f).nv = s.nv := rfl
@[simp] theorem State.modString_jobs (f : StringSt → StringSt) : (s.modString f).jobs = s.jobs := rfl
@[simp] theorem State.modString_can (f : StringSt → StringSt) : (s.modString f).can = s.can := rfl
@[simp] theorem State.modString_wdp (f : StringSt → StringSt) : (s.modString f).wdp = s.wdp := rfl
@[simp] theorem State.modString_capture (f : StringSt → StringSt) : (s.modString f).capture = s.capture := rfl
@[simp] theorem State.rd_modString (f : StringSt → StringSt) (j : Nat) : (s.modString f).rd j = s.rd j := rfl

/-! ### modWdp -/

@[simp] theorem State.modWdp_pending (f : WdpSt → WdpSt) : (s.modWdp f).pending = s.pending := rfl
@[simp] theorem State.modWdp_tick (f : WdpSt → WdpSt) : (s.modWdp f).tick = s.tick := rfl
@[simp] theorem State.modWdp_net (f : WdpSt → WdpSt) : (s.modWdp f).net = s.net := rfl
@[simp] theorem State.modWdp_free (f : WdpSt → WdpSt) : (s.modWdp f).free = s.free := rfl
@[simp] theorem State.modWdp_objs (f : WdpSt → WdpSt) : (s.modWdp f).objs = s.objs := rfl
@[simp] theorem State.modWdp_lastStatus (f : WdpSt → WdpSt) : (s.modWdp f).lastStatus = s.lastStatus := rfl
@[simp] theorem State.modWdp_lastData (f : WdpSt → WdpSt) : (s.modWdp f).lastData = s.lastData := rfl
@[simp] theorem State.modWdp_power (f : WdpSt → WdpSt) : (s.modWdp f).power = s.power := rfl
@[simp] theorem State.modWdp_pins (f : WdpSt → WdpSt) : (s.modWdp f).pins = s.pins := rfl
@[simp] theorem State.modWdp_tap (f : WdpSt → WdpSt) : (s.modWdp f).tap = s.tap := rfl
@[simp] theorem State.modWdp_clock (f : WdpSt → WdpSt) : (s.modWdp f).clock = s.clock := rfl
@[simp] theorem State.modWdp_gates (f : WdpSt → WdpSt) : (s.modWdp f).gates = s.gates := rfl
@[simp] theorem State.modWdp_carriers (f : WdpSt → WdpSt) : (s.modWdp f).carriers = s.carriers := rfl
@[simp] theorem State.modWdp_legs (f : WdpSt → WdpSt) : (s.modWdp f).legs = s.legs := rfl
@[simp] theorem State.modWdp_guard (f : WdpSt → WdpSt) : (s.modWdp f).guard = s.guard := rfl
@[simp] theorem State.modWdp_rails (f : WdpSt → WdpSt) : (s.modWdp f).rails = s.rails := rfl
@[simp] theorem State.modWdp_signals (f : WdpSt → WdpSt) : (s.modWdp f).signals = s.signals := rfl
@[simp] theorem State.modWdp_winTrip (f : WdpSt → WdpSt) : (s.modWdp f).winTrip = s.winTrip := rfl
@[simp] theorem State.modWdp_engines (f : WdpSt → WdpSt) : (s.modWdp f).engines = s.engines := rfl
@[simp] theorem State.modWdp_modeDone (f : WdpSt → WdpSt) : (s.modWdp f).modeDone = s.modeDone := rfl
@[simp] theorem State.modWdp_refs (f : WdpSt → WdpSt) : (s.modWdp f).refs = s.refs := rfl
@[simp] theorem State.modWdp_charge (f : WdpSt → WdpSt) : (s.modWdp f).charge = s.charge := rfl
@[simp] theorem State.modWdp_string (f : WdpSt → WdpSt) : (s.modWdp f).string = s.string := rfl
@[simp] theorem State.modWdp_stringRx (f : WdpSt → WdpSt) : (s.modWdp f).stringRx = s.stringRx := rfl
@[simp] theorem State.modWdp_collector (f : WdpSt → WdpSt) : (s.modWdp f).collector = s.collector := rfl
@[simp] theorem State.modWdp_lanes (f : WdpSt → WdpSt) : (s.modWdp f).lanes = s.lanes := rfl
@[simp] theorem State.modWdp_paths (f : WdpSt → WdpSt) : (s.modWdp f).paths = s.paths := rfl
@[simp] theorem State.modWdp_hatch (f : WdpSt → WdpSt) : (s.modWdp f).hatch = s.hatch := rfl
@[simp] theorem State.modWdp_lease (f : WdpSt → WdpSt) : (s.modWdp f).lease = s.lease := rfl
@[simp] theorem State.modWdp_frames (f : WdpSt → WdpSt) : (s.modWdp f).frames = s.frames := rfl
@[simp] theorem State.modWdp_time (f : WdpSt → WdpSt) : (s.modWdp f).time = s.time := rfl
@[simp] theorem State.modWdp_meas (f : WdpSt → WdpSt) : (s.modWdp f).meas = s.meas := rfl
@[simp] theorem State.modWdp_thermal (f : WdpSt → WdpSt) : (s.modWdp f).thermal = s.thermal := rfl
@[simp] theorem State.modWdp_nv (f : WdpSt → WdpSt) : (s.modWdp f).nv = s.nv := rfl
@[simp] theorem State.modWdp_jobs (f : WdpSt → WdpSt) : (s.modWdp f).jobs = s.jobs := rfl
@[simp] theorem State.modWdp_can (f : WdpSt → WdpSt) : (s.modWdp f).can = s.can := rfl
@[simp] theorem State.modWdp_wdp (f : WdpSt → WdpSt) : (s.modWdp f).wdp = f s.wdp := rfl
@[simp] theorem State.modWdp_capture (f : WdpSt → WdpSt) : (s.modWdp f).capture = s.capture := rfl
@[simp] theorem State.rd_modWdp (f : WdpSt → WdpSt) (j : Nat) : (s.modWdp f).rd j = s.rd j := rfl

/-! ### modCapture -/

@[simp] theorem State.modCapture_pending (f : CaptureSt → CaptureSt) : (s.modCapture f).pending = s.pending := rfl
@[simp] theorem State.modCapture_tick (f : CaptureSt → CaptureSt) : (s.modCapture f).tick = s.tick := rfl
@[simp] theorem State.modCapture_net (f : CaptureSt → CaptureSt) : (s.modCapture f).net = s.net := rfl
@[simp] theorem State.modCapture_free (f : CaptureSt → CaptureSt) : (s.modCapture f).free = s.free := rfl
@[simp] theorem State.modCapture_objs (f : CaptureSt → CaptureSt) : (s.modCapture f).objs = s.objs := rfl
@[simp] theorem State.modCapture_lastStatus (f : CaptureSt → CaptureSt) : (s.modCapture f).lastStatus = s.lastStatus := rfl
@[simp] theorem State.modCapture_lastData (f : CaptureSt → CaptureSt) : (s.modCapture f).lastData = s.lastData := rfl
@[simp] theorem State.modCapture_power (f : CaptureSt → CaptureSt) : (s.modCapture f).power = s.power := rfl
@[simp] theorem State.modCapture_pins (f : CaptureSt → CaptureSt) : (s.modCapture f).pins = s.pins := rfl
@[simp] theorem State.modCapture_tap (f : CaptureSt → CaptureSt) : (s.modCapture f).tap = s.tap := rfl
@[simp] theorem State.modCapture_clock (f : CaptureSt → CaptureSt) : (s.modCapture f).clock = s.clock := rfl
@[simp] theorem State.modCapture_gates (f : CaptureSt → CaptureSt) : (s.modCapture f).gates = s.gates := rfl
@[simp] theorem State.modCapture_carriers (f : CaptureSt → CaptureSt) : (s.modCapture f).carriers = s.carriers := rfl
@[simp] theorem State.modCapture_legs (f : CaptureSt → CaptureSt) : (s.modCapture f).legs = s.legs := rfl
@[simp] theorem State.modCapture_guard (f : CaptureSt → CaptureSt) : (s.modCapture f).guard = s.guard := rfl
@[simp] theorem State.modCapture_rails (f : CaptureSt → CaptureSt) : (s.modCapture f).rails = s.rails := rfl
@[simp] theorem State.modCapture_signals (f : CaptureSt → CaptureSt) : (s.modCapture f).signals = s.signals := rfl
@[simp] theorem State.modCapture_winTrip (f : CaptureSt → CaptureSt) : (s.modCapture f).winTrip = s.winTrip := rfl
@[simp] theorem State.modCapture_engines (f : CaptureSt → CaptureSt) : (s.modCapture f).engines = s.engines := rfl
@[simp] theorem State.modCapture_modeDone (f : CaptureSt → CaptureSt) : (s.modCapture f).modeDone = s.modeDone := rfl
@[simp] theorem State.modCapture_refs (f : CaptureSt → CaptureSt) : (s.modCapture f).refs = s.refs := rfl
@[simp] theorem State.modCapture_charge (f : CaptureSt → CaptureSt) : (s.modCapture f).charge = s.charge := rfl
@[simp] theorem State.modCapture_string (f : CaptureSt → CaptureSt) : (s.modCapture f).string = s.string := rfl
@[simp] theorem State.modCapture_stringRx (f : CaptureSt → CaptureSt) : (s.modCapture f).stringRx = s.stringRx := rfl
@[simp] theorem State.modCapture_collector (f : CaptureSt → CaptureSt) : (s.modCapture f).collector = s.collector := rfl
@[simp] theorem State.modCapture_lanes (f : CaptureSt → CaptureSt) : (s.modCapture f).lanes = s.lanes := rfl
@[simp] theorem State.modCapture_paths (f : CaptureSt → CaptureSt) : (s.modCapture f).paths = s.paths := rfl
@[simp] theorem State.modCapture_hatch (f : CaptureSt → CaptureSt) : (s.modCapture f).hatch = s.hatch := rfl
@[simp] theorem State.modCapture_lease (f : CaptureSt → CaptureSt) : (s.modCapture f).lease = s.lease := rfl
@[simp] theorem State.modCapture_frames (f : CaptureSt → CaptureSt) : (s.modCapture f).frames = s.frames := rfl
@[simp] theorem State.modCapture_time (f : CaptureSt → CaptureSt) : (s.modCapture f).time = s.time := rfl
@[simp] theorem State.modCapture_meas (f : CaptureSt → CaptureSt) : (s.modCapture f).meas = s.meas := rfl
@[simp] theorem State.modCapture_thermal (f : CaptureSt → CaptureSt) : (s.modCapture f).thermal = s.thermal := rfl
@[simp] theorem State.modCapture_nv (f : CaptureSt → CaptureSt) : (s.modCapture f).nv = s.nv := rfl
@[simp] theorem State.modCapture_jobs (f : CaptureSt → CaptureSt) : (s.modCapture f).jobs = s.jobs := rfl
@[simp] theorem State.modCapture_can (f : CaptureSt → CaptureSt) : (s.modCapture f).can = s.can := rfl
@[simp] theorem State.modCapture_wdp (f : CaptureSt → CaptureSt) : (s.modCapture f).wdp = s.wdp := rfl
@[simp] theorem State.modCapture_capture (f : CaptureSt → CaptureSt) : (s.modCapture f).capture = f s.capture := rfl
@[simp] theorem State.rd_modCapture (f : CaptureSt → CaptureSt) (j : Nat) : (s.modCapture f).rd j = s.rd j := rfl

/-! ### modEngine -/

@[simp] theorem State.modEngine_pending (e : Engine) (f : EngineSt → EngineSt) : (s.modEngine e f).pending = s.pending := rfl
@[simp] theorem State.modEngine_tick (e : Engine) (f : EngineSt → EngineSt) : (s.modEngine e f).tick = s.tick := rfl
@[simp] theorem State.modEngine_net (e : Engine) (f : EngineSt → EngineSt) : (s.modEngine e f).net = s.net := rfl
@[simp] theorem State.modEngine_free (e : Engine) (f : EngineSt → EngineSt) : (s.modEngine e f).free = s.free := rfl
@[simp] theorem State.modEngine_objs (e : Engine) (f : EngineSt → EngineSt) : (s.modEngine e f).objs = s.objs := rfl
@[simp] theorem State.modEngine_lastStatus (e : Engine) (f : EngineSt → EngineSt) : (s.modEngine e f).lastStatus = s.lastStatus := rfl
@[simp] theorem State.modEngine_lastData (e : Engine) (f : EngineSt → EngineSt) : (s.modEngine e f).lastData = s.lastData := rfl
@[simp] theorem State.modEngine_power (e : Engine) (f : EngineSt → EngineSt) : (s.modEngine e f).power = s.power := rfl
@[simp] theorem State.modEngine_pins (e : Engine) (f : EngineSt → EngineSt) : (s.modEngine e f).pins = s.pins := rfl
@[simp] theorem State.modEngine_tap (e : Engine) (f : EngineSt → EngineSt) : (s.modEngine e f).tap = s.tap := rfl
@[simp] theorem State.modEngine_clock (e : Engine) (f : EngineSt → EngineSt) : (s.modEngine e f).clock = s.clock := rfl
@[simp] theorem State.modEngine_gates (e : Engine) (f : EngineSt → EngineSt) : (s.modEngine e f).gates = s.gates := rfl
@[simp] theorem State.modEngine_carriers (e : Engine) (f : EngineSt → EngineSt) : (s.modEngine e f).carriers = s.carriers := rfl
@[simp] theorem State.modEngine_legs (e : Engine) (f : EngineSt → EngineSt) : (s.modEngine e f).legs = s.legs := rfl
@[simp] theorem State.modEngine_guard (e : Engine) (f : EngineSt → EngineSt) : (s.modEngine e f).guard = s.guard := rfl
@[simp] theorem State.modEngine_rails (e : Engine) (f : EngineSt → EngineSt) : (s.modEngine e f).rails = s.rails := rfl
@[simp] theorem State.modEngine_signals (e : Engine) (f : EngineSt → EngineSt) : (s.modEngine e f).signals = s.signals := rfl
@[simp] theorem State.modEngine_winTrip (e : Engine) (f : EngineSt → EngineSt) : (s.modEngine e f).winTrip = s.winTrip := rfl
@[simp] theorem State.modEngine_engines (e : Engine) (f : EngineSt → EngineSt) : (s.modEngine e f).engines = upd s.engines e f := rfl
@[simp] theorem State.modEngine_modeDone (e : Engine) (f : EngineSt → EngineSt) : (s.modEngine e f).modeDone = s.modeDone := rfl
@[simp] theorem State.modEngine_refs (e : Engine) (f : EngineSt → EngineSt) : (s.modEngine e f).refs = s.refs := rfl
@[simp] theorem State.modEngine_charge (e : Engine) (f : EngineSt → EngineSt) : (s.modEngine e f).charge = s.charge := rfl
@[simp] theorem State.modEngine_string (e : Engine) (f : EngineSt → EngineSt) : (s.modEngine e f).string = s.string := rfl
@[simp] theorem State.modEngine_stringRx (e : Engine) (f : EngineSt → EngineSt) : (s.modEngine e f).stringRx = s.stringRx := rfl
@[simp] theorem State.modEngine_collector (e : Engine) (f : EngineSt → EngineSt) : (s.modEngine e f).collector = s.collector := rfl
@[simp] theorem State.modEngine_lanes (e : Engine) (f : EngineSt → EngineSt) : (s.modEngine e f).lanes = s.lanes := rfl
@[simp] theorem State.modEngine_paths (e : Engine) (f : EngineSt → EngineSt) : (s.modEngine e f).paths = s.paths := rfl
@[simp] theorem State.modEngine_hatch (e : Engine) (f : EngineSt → EngineSt) : (s.modEngine e f).hatch = s.hatch := rfl
@[simp] theorem State.modEngine_lease (e : Engine) (f : EngineSt → EngineSt) : (s.modEngine e f).lease = s.lease := rfl
@[simp] theorem State.modEngine_frames (e : Engine) (f : EngineSt → EngineSt) : (s.modEngine e f).frames = s.frames := rfl
@[simp] theorem State.modEngine_time (e : Engine) (f : EngineSt → EngineSt) : (s.modEngine e f).time = s.time := rfl
@[simp] theorem State.modEngine_meas (e : Engine) (f : EngineSt → EngineSt) : (s.modEngine e f).meas = s.meas := rfl
@[simp] theorem State.modEngine_thermal (e : Engine) (f : EngineSt → EngineSt) : (s.modEngine e f).thermal = s.thermal := rfl
@[simp] theorem State.modEngine_nv (e : Engine) (f : EngineSt → EngineSt) : (s.modEngine e f).nv = s.nv := rfl
@[simp] theorem State.modEngine_jobs (e : Engine) (f : EngineSt → EngineSt) : (s.modEngine e f).jobs = s.jobs := rfl
@[simp] theorem State.modEngine_can (e : Engine) (f : EngineSt → EngineSt) : (s.modEngine e f).can = s.can := rfl
@[simp] theorem State.modEngine_wdp (e : Engine) (f : EngineSt → EngineSt) : (s.modEngine e f).wdp = s.wdp := rfl
@[simp] theorem State.modEngine_capture (e : Engine) (f : EngineSt → EngineSt) : (s.modEngine e f).capture = s.capture := rfl
@[simp] theorem State.rd_modEngine (e : Engine) (f : EngineSt → EngineSt) (j : Nat) : (s.modEngine e f).rd j = s.rd j := rfl

/-! ### modAdc -/

@[simp] theorem State.modAdc_pending (a : Fin 4) (f : AdcSt → AdcSt) : (s.modAdc a f).pending = s.pending := rfl
@[simp] theorem State.modAdc_tick (a : Fin 4) (f : AdcSt → AdcSt) : (s.modAdc a f).tick = s.tick := rfl
@[simp] theorem State.modAdc_net (a : Fin 4) (f : AdcSt → AdcSt) : (s.modAdc a f).net = s.net := rfl
@[simp] theorem State.modAdc_free (a : Fin 4) (f : AdcSt → AdcSt) : (s.modAdc a f).free = s.free := rfl
@[simp] theorem State.modAdc_objs (a : Fin 4) (f : AdcSt → AdcSt) : (s.modAdc a f).objs = s.objs := rfl
@[simp] theorem State.modAdc_lastStatus (a : Fin 4) (f : AdcSt → AdcSt) : (s.modAdc a f).lastStatus = s.lastStatus := rfl
@[simp] theorem State.modAdc_lastData (a : Fin 4) (f : AdcSt → AdcSt) : (s.modAdc a f).lastData = s.lastData := rfl
@[simp] theorem State.modAdc_power (a : Fin 4) (f : AdcSt → AdcSt) : (s.modAdc a f).power = s.power := rfl
@[simp] theorem State.modAdc_pins (a : Fin 4) (f : AdcSt → AdcSt) : (s.modAdc a f).pins = s.pins := rfl
@[simp] theorem State.modAdc_tap (a : Fin 4) (f : AdcSt → AdcSt) : (s.modAdc a f).tap = s.tap := rfl
@[simp] theorem State.modAdc_clock (a : Fin 4) (f : AdcSt → AdcSt) : (s.modAdc a f).clock = s.clock := rfl
@[simp] theorem State.modAdc_gates (a : Fin 4) (f : AdcSt → AdcSt) : (s.modAdc a f).gates = s.gates := rfl
@[simp] theorem State.modAdc_carriers (a : Fin 4) (f : AdcSt → AdcSt) : (s.modAdc a f).carriers = s.carriers := rfl
@[simp] theorem State.modAdc_legs (a : Fin 4) (f : AdcSt → AdcSt) : (s.modAdc a f).legs = s.legs := rfl
@[simp] theorem State.modAdc_guard (a : Fin 4) (f : AdcSt → AdcSt) : (s.modAdc a f).guard = s.guard := rfl
@[simp] theorem State.modAdc_rails (a : Fin 4) (f : AdcSt → AdcSt) : (s.modAdc a f).rails = s.rails := rfl
@[simp] theorem State.modAdc_signals (a : Fin 4) (f : AdcSt → AdcSt) : (s.modAdc a f).signals = s.signals := rfl
@[simp] theorem State.modAdc_winTrip (a : Fin 4) (f : AdcSt → AdcSt) : (s.modAdc a f).winTrip = s.winTrip := rfl
@[simp] theorem State.modAdc_engines (a : Fin 4) (f : AdcSt → AdcSt) : (s.modAdc a f).engines = s.engines := rfl
@[simp] theorem State.modAdc_modeDone (a : Fin 4) (f : AdcSt → AdcSt) : (s.modAdc a f).modeDone = s.modeDone := rfl
@[simp] theorem State.modAdc_refs (a : Fin 4) (f : AdcSt → AdcSt) : (s.modAdc a f).refs = s.refs := rfl
@[simp] theorem State.modAdc_charge (a : Fin 4) (f : AdcSt → AdcSt) : (s.modAdc a f).charge = s.charge := rfl
@[simp] theorem State.modAdc_string (a : Fin 4) (f : AdcSt → AdcSt) : (s.modAdc a f).string = s.string := rfl
@[simp] theorem State.modAdc_stringRx (a : Fin 4) (f : AdcSt → AdcSt) : (s.modAdc a f).stringRx = s.stringRx := rfl
@[simp] theorem State.modAdc_collector (a : Fin 4) (f : AdcSt → AdcSt) : (s.modAdc a f).collector = s.collector := rfl
@[simp] theorem State.modAdc_lanes (a : Fin 4) (f : AdcSt → AdcSt) : (s.modAdc a f).lanes = s.lanes := rfl
@[simp] theorem State.modAdc_paths (a : Fin 4) (f : AdcSt → AdcSt) : (s.modAdc a f).paths = s.paths := rfl
@[simp] theorem State.modAdc_hatch (a : Fin 4) (f : AdcSt → AdcSt) : (s.modAdc a f).hatch = s.hatch := rfl
@[simp] theorem State.modAdc_lease (a : Fin 4) (f : AdcSt → AdcSt) : (s.modAdc a f).lease = s.lease := rfl
@[simp] theorem State.modAdc_frames (a : Fin 4) (f : AdcSt → AdcSt) : (s.modAdc a f).frames = s.frames := rfl
@[simp] theorem State.modAdc_time (a : Fin 4) (f : AdcSt → AdcSt) : (s.modAdc a f).time = s.time := rfl
@[simp] theorem State.modAdc_meas (a : Fin 4) (f : AdcSt → AdcSt) : (s.modAdc a f).meas = { s.meas with adc := upd s.meas.adc a f } := rfl
@[simp] theorem State.modAdc_thermal (a : Fin 4) (f : AdcSt → AdcSt) : (s.modAdc a f).thermal = s.thermal := rfl
@[simp] theorem State.modAdc_nv (a : Fin 4) (f : AdcSt → AdcSt) : (s.modAdc a f).nv = s.nv := rfl
@[simp] theorem State.modAdc_jobs (a : Fin 4) (f : AdcSt → AdcSt) : (s.modAdc a f).jobs = s.jobs := rfl
@[simp] theorem State.modAdc_can (a : Fin 4) (f : AdcSt → AdcSt) : (s.modAdc a f).can = s.can := rfl
@[simp] theorem State.modAdc_wdp (a : Fin 4) (f : AdcSt → AdcSt) : (s.modAdc a f).wdp = s.wdp := rfl
@[simp] theorem State.modAdc_capture (a : Fin 4) (f : AdcSt → AdcSt) : (s.modAdc a f).capture = s.capture := rfl
@[simp] theorem State.rd_modAdc (a : Fin 4) (f : AdcSt → AdcSt) (j : Nat) : (s.modAdc a f).rd j = s.rd j := rfl

/-! ### modStream -/

@[simp] theorem State.modStream_pending (n : Fin 18) (f : StreamSt → StreamSt) : (s.modStream n f).pending = s.pending := rfl
@[simp] theorem State.modStream_tick (n : Fin 18) (f : StreamSt → StreamSt) : (s.modStream n f).tick = s.tick := rfl
@[simp] theorem State.modStream_net (n : Fin 18) (f : StreamSt → StreamSt) : (s.modStream n f).net = s.net := rfl
@[simp] theorem State.modStream_free (n : Fin 18) (f : StreamSt → StreamSt) : (s.modStream n f).free = s.free := rfl
@[simp] theorem State.modStream_objs (n : Fin 18) (f : StreamSt → StreamSt) : (s.modStream n f).objs = s.objs := rfl
@[simp] theorem State.modStream_lastStatus (n : Fin 18) (f : StreamSt → StreamSt) : (s.modStream n f).lastStatus = s.lastStatus := rfl
@[simp] theorem State.modStream_lastData (n : Fin 18) (f : StreamSt → StreamSt) : (s.modStream n f).lastData = s.lastData := rfl
@[simp] theorem State.modStream_power (n : Fin 18) (f : StreamSt → StreamSt) : (s.modStream n f).power = s.power := rfl
@[simp] theorem State.modStream_pins (n : Fin 18) (f : StreamSt → StreamSt) : (s.modStream n f).pins = s.pins := rfl
@[simp] theorem State.modStream_tap (n : Fin 18) (f : StreamSt → StreamSt) : (s.modStream n f).tap = s.tap := rfl
@[simp] theorem State.modStream_clock (n : Fin 18) (f : StreamSt → StreamSt) : (s.modStream n f).clock = s.clock := rfl
@[simp] theorem State.modStream_gates (n : Fin 18) (f : StreamSt → StreamSt) : (s.modStream n f).gates = s.gates := rfl
@[simp] theorem State.modStream_carriers (n : Fin 18) (f : StreamSt → StreamSt) : (s.modStream n f).carriers = s.carriers := rfl
@[simp] theorem State.modStream_legs (n : Fin 18) (f : StreamSt → StreamSt) : (s.modStream n f).legs = s.legs := rfl
@[simp] theorem State.modStream_guard (n : Fin 18) (f : StreamSt → StreamSt) : (s.modStream n f).guard = s.guard := rfl
@[simp] theorem State.modStream_rails (n : Fin 18) (f : StreamSt → StreamSt) : (s.modStream n f).rails = s.rails := rfl
@[simp] theorem State.modStream_signals (n : Fin 18) (f : StreamSt → StreamSt) : (s.modStream n f).signals = s.signals := rfl
@[simp] theorem State.modStream_winTrip (n : Fin 18) (f : StreamSt → StreamSt) : (s.modStream n f).winTrip = s.winTrip := rfl
@[simp] theorem State.modStream_engines (n : Fin 18) (f : StreamSt → StreamSt) : (s.modStream n f).engines = s.engines := rfl
@[simp] theorem State.modStream_modeDone (n : Fin 18) (f : StreamSt → StreamSt) : (s.modStream n f).modeDone = s.modeDone := rfl
@[simp] theorem State.modStream_refs (n : Fin 18) (f : StreamSt → StreamSt) : (s.modStream n f).refs = s.refs := rfl
@[simp] theorem State.modStream_charge (n : Fin 18) (f : StreamSt → StreamSt) : (s.modStream n f).charge = s.charge := rfl
@[simp] theorem State.modStream_string (n : Fin 18) (f : StreamSt → StreamSt) : (s.modStream n f).string = s.string := rfl
@[simp] theorem State.modStream_stringRx (n : Fin 18) (f : StreamSt → StreamSt) : (s.modStream n f).stringRx = s.stringRx := rfl
@[simp] theorem State.modStream_collector (n : Fin 18) (f : StreamSt → StreamSt) : (s.modStream n f).collector = s.collector := rfl
@[simp] theorem State.modStream_lanes (n : Fin 18) (f : StreamSt → StreamSt) : (s.modStream n f).lanes = s.lanes := rfl
@[simp] theorem State.modStream_paths (n : Fin 18) (f : StreamSt → StreamSt) : (s.modStream n f).paths = s.paths := rfl
@[simp] theorem State.modStream_hatch (n : Fin 18) (f : StreamSt → StreamSt) : (s.modStream n f).hatch = s.hatch := rfl
@[simp] theorem State.modStream_lease (n : Fin 18) (f : StreamSt → StreamSt) : (s.modStream n f).lease = s.lease := rfl
@[simp] theorem State.modStream_frames (n : Fin 18) (f : StreamSt → StreamSt) : (s.modStream n f).frames = s.frames := rfl
@[simp] theorem State.modStream_time (n : Fin 18) (f : StreamSt → StreamSt) : (s.modStream n f).time = s.time := rfl
@[simp] theorem State.modStream_meas (n : Fin 18) (f : StreamSt → StreamSt) : (s.modStream n f).meas = { s.meas with stream := upd s.meas.stream n f } := rfl
@[simp] theorem State.modStream_thermal (n : Fin 18) (f : StreamSt → StreamSt) : (s.modStream n f).thermal = s.thermal := rfl
@[simp] theorem State.modStream_nv (n : Fin 18) (f : StreamSt → StreamSt) : (s.modStream n f).nv = s.nv := rfl
@[simp] theorem State.modStream_jobs (n : Fin 18) (f : StreamSt → StreamSt) : (s.modStream n f).jobs = s.jobs := rfl
@[simp] theorem State.modStream_can (n : Fin 18) (f : StreamSt → StreamSt) : (s.modStream n f).can = s.can := rfl
@[simp] theorem State.modStream_wdp (n : Fin 18) (f : StreamSt → StreamSt) : (s.modStream n f).wdp = s.wdp := rfl
@[simp] theorem State.modStream_capture (n : Fin 18) (f : StreamSt → StreamSt) : (s.modStream n f).capture = s.capture := rfl
@[simp] theorem State.rd_modStream (n : Fin 18) (f : StreamSt → StreamSt) (j : Nat) : (s.modStream n f).rd j = s.rd j := rfl

/-! ### modDriver -/

@[simp] theorem State.modDriver_pending (d : Fin 18) (f : DriverSt → DriverSt) : (s.modDriver d f).pending = s.pending := rfl
@[simp] theorem State.modDriver_tick (d : Fin 18) (f : DriverSt → DriverSt) : (s.modDriver d f).tick = s.tick := rfl
@[simp] theorem State.modDriver_net (d : Fin 18) (f : DriverSt → DriverSt) : (s.modDriver d f).net = s.net := rfl
@[simp] theorem State.modDriver_free (d : Fin 18) (f : DriverSt → DriverSt) : (s.modDriver d f).free = s.free := rfl
@[simp] theorem State.modDriver_objs (d : Fin 18) (f : DriverSt → DriverSt) : (s.modDriver d f).objs = s.objs := rfl
@[simp] theorem State.modDriver_lastStatus (d : Fin 18) (f : DriverSt → DriverSt) : (s.modDriver d f).lastStatus = s.lastStatus := rfl
@[simp] theorem State.modDriver_lastData (d : Fin 18) (f : DriverSt → DriverSt) : (s.modDriver d f).lastData = s.lastData := rfl
@[simp] theorem State.modDriver_power (d : Fin 18) (f : DriverSt → DriverSt) : (s.modDriver d f).power = s.power := rfl
@[simp] theorem State.modDriver_pins (d : Fin 18) (f : DriverSt → DriverSt) : (s.modDriver d f).pins = s.pins := rfl
@[simp] theorem State.modDriver_tap (d : Fin 18) (f : DriverSt → DriverSt) : (s.modDriver d f).tap = s.tap := rfl
@[simp] theorem State.modDriver_clock (d : Fin 18) (f : DriverSt → DriverSt) : (s.modDriver d f).clock = s.clock := rfl
@[simp] theorem State.modDriver_gates (d : Fin 18) (f : DriverSt → DriverSt) : (s.modDriver d f).gates = s.gates := rfl
@[simp] theorem State.modDriver_carriers (d : Fin 18) (f : DriverSt → DriverSt) : (s.modDriver d f).carriers = s.carriers := rfl
@[simp] theorem State.modDriver_legs (d : Fin 18) (f : DriverSt → DriverSt) : (s.modDriver d f).legs = s.legs := rfl
@[simp] theorem State.modDriver_guard (d : Fin 18) (f : DriverSt → DriverSt) : (s.modDriver d f).guard = s.guard := rfl
@[simp] theorem State.modDriver_rails (d : Fin 18) (f : DriverSt → DriverSt) : (s.modDriver d f).rails = s.rails := rfl
@[simp] theorem State.modDriver_signals (d : Fin 18) (f : DriverSt → DriverSt) : (s.modDriver d f).signals = s.signals := rfl
@[simp] theorem State.modDriver_winTrip (d : Fin 18) (f : DriverSt → DriverSt) : (s.modDriver d f).winTrip = s.winTrip := rfl
@[simp] theorem State.modDriver_engines (d : Fin 18) (f : DriverSt → DriverSt) : (s.modDriver d f).engines = s.engines := rfl
@[simp] theorem State.modDriver_modeDone (d : Fin 18) (f : DriverSt → DriverSt) : (s.modDriver d f).modeDone = s.modeDone := rfl
@[simp] theorem State.modDriver_refs (d : Fin 18) (f : DriverSt → DriverSt) : (s.modDriver d f).refs = s.refs := rfl
@[simp] theorem State.modDriver_charge (d : Fin 18) (f : DriverSt → DriverSt) : (s.modDriver d f).charge = s.charge := rfl
@[simp] theorem State.modDriver_string (d : Fin 18) (f : DriverSt → DriverSt) : (s.modDriver d f).string = s.string := rfl
@[simp] theorem State.modDriver_stringRx (d : Fin 18) (f : DriverSt → DriverSt) : (s.modDriver d f).stringRx = s.stringRx := rfl
@[simp] theorem State.modDriver_collector (d : Fin 18) (f : DriverSt → DriverSt) : (s.modDriver d f).collector = s.collector := rfl
@[simp] theorem State.modDriver_lanes (d : Fin 18) (f : DriverSt → DriverSt) : (s.modDriver d f).lanes = s.lanes := rfl
@[simp] theorem State.modDriver_paths (d : Fin 18) (f : DriverSt → DriverSt) : (s.modDriver d f).paths = s.paths := rfl
@[simp] theorem State.modDriver_hatch (d : Fin 18) (f : DriverSt → DriverSt) : (s.modDriver d f).hatch = s.hatch := rfl
@[simp] theorem State.modDriver_lease (d : Fin 18) (f : DriverSt → DriverSt) : (s.modDriver d f).lease = s.lease := rfl
@[simp] theorem State.modDriver_frames (d : Fin 18) (f : DriverSt → DriverSt) : (s.modDriver d f).frames = s.frames := rfl
@[simp] theorem State.modDriver_time (d : Fin 18) (f : DriverSt → DriverSt) : (s.modDriver d f).time = s.time := rfl
@[simp] theorem State.modDriver_meas (d : Fin 18) (f : DriverSt → DriverSt) : (s.modDriver d f).meas = { s.meas with driver := upd s.meas.driver d f } := rfl
@[simp] theorem State.modDriver_thermal (d : Fin 18) (f : DriverSt → DriverSt) : (s.modDriver d f).thermal = s.thermal := rfl
@[simp] theorem State.modDriver_nv (d : Fin 18) (f : DriverSt → DriverSt) : (s.modDriver d f).nv = s.nv := rfl
@[simp] theorem State.modDriver_jobs (d : Fin 18) (f : DriverSt → DriverSt) : (s.modDriver d f).jobs = s.jobs := rfl
@[simp] theorem State.modDriver_can (d : Fin 18) (f : DriverSt → DriverSt) : (s.modDriver d f).can = s.can := rfl
@[simp] theorem State.modDriver_wdp (d : Fin 18) (f : DriverSt → DriverSt) : (s.modDriver d f).wdp = s.wdp := rfl
@[simp] theorem State.modDriver_capture (d : Fin 18) (f : DriverSt → DriverSt) : (s.modDriver d f).capture = s.capture := rfl
@[simp] theorem State.rd_modDriver (d : Fin 18) (f : DriverSt → DriverSt) (j : Nat) : (s.modDriver d f).rd j = s.rd j := rfl

/-! ### modLine -/

@[simp] theorem State.modLine_pending (l : Line) (f : LineSt → LineSt) : (s.modLine l f).pending = s.pending := rfl
@[simp] theorem State.modLine_tick (l : Line) (f : LineSt → LineSt) : (s.modLine l f).tick = s.tick := rfl
@[simp] theorem State.modLine_net (l : Line) (f : LineSt → LineSt) : (s.modLine l f).net = s.net := rfl
@[simp] theorem State.modLine_free (l : Line) (f : LineSt → LineSt) : (s.modLine l f).free = s.free := rfl
@[simp] theorem State.modLine_objs (l : Line) (f : LineSt → LineSt) : (s.modLine l f).objs = s.objs := rfl
@[simp] theorem State.modLine_lastStatus (l : Line) (f : LineSt → LineSt) : (s.modLine l f).lastStatus = s.lastStatus := rfl
@[simp] theorem State.modLine_lastData (l : Line) (f : LineSt → LineSt) : (s.modLine l f).lastData = s.lastData := rfl
@[simp] theorem State.modLine_power (l : Line) (f : LineSt → LineSt) : (s.modLine l f).power = s.power := rfl
@[simp] theorem State.modLine_pins (l : Line) (f : LineSt → LineSt) : (s.modLine l f).pins = s.pins := rfl
@[simp] theorem State.modLine_tap (l : Line) (f : LineSt → LineSt) : (s.modLine l f).tap = s.tap := rfl
@[simp] theorem State.modLine_clock (l : Line) (f : LineSt → LineSt) : (s.modLine l f).clock = { s.clock with lines := upd s.clock.lines l f } := rfl
@[simp] theorem State.modLine_gates (l : Line) (f : LineSt → LineSt) : (s.modLine l f).gates = s.gates := rfl
@[simp] theorem State.modLine_carriers (l : Line) (f : LineSt → LineSt) : (s.modLine l f).carriers = s.carriers := rfl
@[simp] theorem State.modLine_legs (l : Line) (f : LineSt → LineSt) : (s.modLine l f).legs = s.legs := rfl
@[simp] theorem State.modLine_guard (l : Line) (f : LineSt → LineSt) : (s.modLine l f).guard = s.guard := rfl
@[simp] theorem State.modLine_rails (l : Line) (f : LineSt → LineSt) : (s.modLine l f).rails = s.rails := rfl
@[simp] theorem State.modLine_signals (l : Line) (f : LineSt → LineSt) : (s.modLine l f).signals = s.signals := rfl
@[simp] theorem State.modLine_winTrip (l : Line) (f : LineSt → LineSt) : (s.modLine l f).winTrip = s.winTrip := rfl
@[simp] theorem State.modLine_engines (l : Line) (f : LineSt → LineSt) : (s.modLine l f).engines = s.engines := rfl
@[simp] theorem State.modLine_modeDone (l : Line) (f : LineSt → LineSt) : (s.modLine l f).modeDone = s.modeDone := rfl
@[simp] theorem State.modLine_refs (l : Line) (f : LineSt → LineSt) : (s.modLine l f).refs = s.refs := rfl
@[simp] theorem State.modLine_charge (l : Line) (f : LineSt → LineSt) : (s.modLine l f).charge = s.charge := rfl
@[simp] theorem State.modLine_string (l : Line) (f : LineSt → LineSt) : (s.modLine l f).string = s.string := rfl
@[simp] theorem State.modLine_stringRx (l : Line) (f : LineSt → LineSt) : (s.modLine l f).stringRx = s.stringRx := rfl
@[simp] theorem State.modLine_collector (l : Line) (f : LineSt → LineSt) : (s.modLine l f).collector = s.collector := rfl
@[simp] theorem State.modLine_lanes (l : Line) (f : LineSt → LineSt) : (s.modLine l f).lanes = s.lanes := rfl
@[simp] theorem State.modLine_paths (l : Line) (f : LineSt → LineSt) : (s.modLine l f).paths = s.paths := rfl
@[simp] theorem State.modLine_hatch (l : Line) (f : LineSt → LineSt) : (s.modLine l f).hatch = s.hatch := rfl
@[simp] theorem State.modLine_lease (l : Line) (f : LineSt → LineSt) : (s.modLine l f).lease = s.lease := rfl
@[simp] theorem State.modLine_frames (l : Line) (f : LineSt → LineSt) : (s.modLine l f).frames = s.frames := rfl
@[simp] theorem State.modLine_time (l : Line) (f : LineSt → LineSt) : (s.modLine l f).time = s.time := rfl
@[simp] theorem State.modLine_meas (l : Line) (f : LineSt → LineSt) : (s.modLine l f).meas = s.meas := rfl
@[simp] theorem State.modLine_thermal (l : Line) (f : LineSt → LineSt) : (s.modLine l f).thermal = s.thermal := rfl
@[simp] theorem State.modLine_nv (l : Line) (f : LineSt → LineSt) : (s.modLine l f).nv = s.nv := rfl
@[simp] theorem State.modLine_jobs (l : Line) (f : LineSt → LineSt) : (s.modLine l f).jobs = s.jobs := rfl
@[simp] theorem State.modLine_can (l : Line) (f : LineSt → LineSt) : (s.modLine l f).can = s.can := rfl
@[simp] theorem State.modLine_wdp (l : Line) (f : LineSt → LineSt) : (s.modLine l f).wdp = s.wdp := rfl
@[simp] theorem State.modLine_capture (l : Line) (f : LineSt → LineSt) : (s.modLine l f).capture = s.capture := rfl
@[simp] theorem State.rd_modLine (l : Line) (f : LineSt → LineSt) (j : Nat) : (s.modLine l f).rd j = s.rd j := rfl

/-! ### The value of an object after a write -/

/-- Reading an object after writing one. -/
@[simp] theorem State.rd_wr (k v j : Nat) : (s.wr k v).rd j = if j = k then v else s.rd j :=
  storeGet_set s.objs k v j

/-- Reading an object after writing one bit of one. -/
@[simp] theorem State.rd_wrBit (k i : Nat) (b : Bool) (j : Nat) :
    (s.wrBit k i b).rd j = if j = k then setBit (s.rd k) i b else s.rd j := State.rd_wr s k _ j

/-- Reading an object after setting bits of one. -/
@[simp] theorem State.rd_orBits (k m j : Nat) :
    (s.orBits k m).rd j = if j = k then s.rd k ||| m else s.rd j := State.rd_wr s k _ j

/-- Reading an object after clearing bits of one. -/
@[simp] theorem State.rd_clrBits (k m j : Nat) :
    (s.clrBits k m).rd j = if j = k then clearMask (s.rd k) m else s.rd j := State.rd_wr s k _ j

/-- Reading an object after counting in one. -/
@[simp] theorem State.rd_count (k n j : Nat) :
    (s.count k n).rd j = if j = k then wrapInc 32 (s.rd k) n else s.rd j := State.rd_wr s k _ j

/-- Reading an object after counting, with saturation, in one. -/
@[simp] theorem State.rd_countSat (k j : Nat) :
    (s.countSat k).rd j = if j = k then satInc 32 (s.rd k) else s.rd j := State.rd_wr s k _ j

/-- The condition of a source that follows a level changes the rails alone. -/
@[simp] theorem State.rd_levelSrc (n : Nat) (b : Bool) (j : Nat) : (s.levelSrc n b).rd j = s.rd j := by
  cases b <;> rfl

/-! ### Vectors and folds -/

/-- The changed entry of a vector. -/
@[simp] theorem upd_same {α : Type} {n : Nat} (v : Vector α n) (i : Fin n) (f : α → α) :
    (upd v i f)[i] = f v[i] := by simp [upd]

/-- Another entry of a vector. -/
theorem upd_ne {α : Type} {n : Nat} (v : Vector α n) (i j : Fin n) (f : α → α) (h : j ≠ i) :
    (upd v i f)[j] = v[j] := by
  have : (i : Nat) ≠ j := fun e => h (Fin.ext e.symm)
  simp [upd, this]

/-- What holds at the start and is kept at every index holds after a fold over the indices. -/
theorem forFin_keeps {σ : Type} {n : Nat} (P : σ → Prop) (f : Fin n → σ → σ)
    (h : ∀ i a, P a → P (f i a)) (s : σ) (hs : P s) : P (forFin n s f) := by
  unfold forFin
  generalize List.finRange n = l
  induction l generalizing s with
  | nil => exact hs
  | cons i l ih => exact ih _ (h i s hs)

/-- A field that every index leaves alone is left alone by a fold over the indices. -/
theorem forFin_frame {σ β : Type} {n : Nat} (p : σ → β) (f : Fin n → σ → σ)
    (h : ∀ i a, p (f i a) = p a) (s : σ) : p (forFin n s f) = p s :=
  forFin_keeps (fun a => p a = p s) f (fun i a e => (h i a).trans e) s rfl

end Sys2Proof.Machine
end

