-- ==== Sys2Proof/WellFormed.lean ====
section
/-! DEFINITION. Which commands are well formed: operands that the device's wires can carry at all. What a host may not write is no matter of form: such a write is answered with a STATUS. -/

namespace Sys2Proof

/-- Whether a position is one of the 32, or stands for all or for none (spec/14 R446). -/
def positionOk (p : Byte) : Bool := p.toNat < 32 || p == 0xFF

/-- A frame of a TYPE: its payload fits, its addresses are positions (spec/14 R446, R449). -/
def frameOk (typ : Nat) (f : Frame) : Bool :=
  f.typ.toNat == typ && f.payload.length ≤ 2048 && positionOk f.src && positionOk f.dst

/-- A DICT frame of a kind (spec/14 R450). -/
def dictOk (kind : Nat) (f : Frame) : Bool :=
  frameOk 3 f && 8 ≤ f.payload.length && (f.payload.getD 0 0).toNat == kind

/-- The payload of an ENUM frame of a SUBTYPE (spec/13 R429). -/
def enumOk (sub : Nat) (b : Bytes) : Bool := b.length == 16 && (b.getD 0 0).toNat == sub

/-- The data lengths of CAN FD (spec/16 R510). -/
def canLengths : List Nat := [0, 1, 2, 3, 4, 5, 6, 7, 8, 12, 16, 20, 24, 32, 48, 64]

/-- A CAN frame: an identifier of its width, as many data bytes as its DLC spells, a bit-rate switch in an FD frame only, a remote frame without data (spec/16 R510, R518). -/
def canFrameOk (f : CanFrame) : Bool :=
  let n := canLengths.getD f.dlc.toNat 64
  (f.ext || f.id.toNat < 2 ^ 11) && (f.fd || !f.brs) &&
    (if f.rtr then !f.fd && f.data.isEmpty else f.data.length == if f.fd then n else min n 8)

/-- A message object number and the length of its record (spec/16 R518, R520). -/
def canObjectOk (n : Byte) : Bool := 1 ≤ n.toNat && n.toNat ≤ 100
def canRecordOk (d : Bytes) : Bool := d.length == 16 || d.length == 80

/-- A telegram: at most 64 bytes, 8 of them its header (spec/17 R549). -/
def telegramOk (t : Telegram) : Bool := t.data.length ≤ 56

/-- Where a request may come from: a DICT frame names a position and a channel (spec/14 R450). -/
def originOk : Origin → Bool
  | .can _ => true
  | .dict src _ channel => src.toNat < 32 && channel.toNat < 2

/-- A request of an operation. -/
def requestOk (op : Nat) (o : Origin) (t : Telegram) : Bool := originOk o && telegramOk t && t.op.toNat == op

/-- The well-formed commands. -/
def wellFormed : Instr → Bool
  | .stringFrameAccept f => frameOk 0x01 f
  | .statusFrameReceive f => frameOk 0x02 f
  | .dictRequestReceive f => dictOk 0 f
  | .dictResponseReceive f => dictOk 1 f
  | .dictAbortReceive f => dictOk 2 f
  | .dictSwarmReceive f => dictOk 3 f
  | .dictBusyReceive f => dictOk 4 f
  | .timeSyncIncrement f => frameOk 0x04 f
  | .timeSyncSet f => frameOk 0x04 f
  | .timeSyncStep f => frameOk 0x04 f
  | .delayReqReceive f _ => frameOk 0x05 f
  | .delayRespReceive f _ => frameOk 0x06 f
  | .leaseFrameRenew f => frameOk 0x07 f
  | .leaseFrameRelease f => frameOk 0x07 f
  | .leaseFrameRevert f => frameOk 0x07 f
  | .fireflyBeaconReceive f => frameOk 0x08 f
  | .fireflyEchoRequestReceive f => frameOk 0x08 f
  | .fireflyEchoReplyReceive f _ => frameOk 0x08 f
  | .captureFrameReceive f => frameOk 0x09 f
  | .triggerFrameReceive f => frameOk 0x0A f
  | .eventFrameReceive f => frameOk 0x0C f
  | .safeFrameReceive f => frameOk 0x0D f
  | .ackReceive f => frameOk 0x0E f
  | .nakReceive f => frameOk 0x0F f
  | .enumAssignReceive _ b => enumOk 0 b
  | .enumEndReceive _ b => enumOk 1 b
  | .enumRateStepReceive _ b => enumOk 2 b
  | .enumCheckReceive _ b => enumOk 3 b
  | .enumDoneReceive _ b => enumOk 4 b
  | .enumJoinReceive _ b => enumOk 5 b
  | .enumConflictReceive _ b => enumOk 6 b
  | .canFrameReceive _ f => canFrameOk f
  | .canObjectConfigure _ n d => canObjectOk n && canRecordOk d
  | .canTransmitRequest _ n d => canObjectOk n && canRecordOk d
  | .canTransmitCancel _ n d => canObjectOk n && canRecordOk d
  | .canObjectRead _ n => canObjectOk n
  | .canErrorDetected _ code _ _ _ _ => 1 ≤ code.toNat && code.toNat ≤ 7
  | .wdpRead o t => requestOk 1 o t
  | .wdpWrite o t => requestOk 2 o t
  | .wdpBlockRead o t => requestOk 3 o t
  | .wdpBlockWrite o t => requestOk 4 o t
  | .wdpState o t => requestOk 5 o t
  | .wdpAbort o t => requestOk 6 o t
  | .wdpSegment o t => requestOk 0x10 o t
  | .wdpWindow o t => requestOk 0x11 o t
  | .wdpCyclicCommand _ d => canLengths.contains d.length
  | .resultRead stream n _ => n.toNat < if stream then 18 else 26
  | .powerOnResetRelease _ => true
  | .resetNRelease _ => true
  | .cmdCharge _ => true
  | .cellClear _ => true
  | .cellFittedWrite _ => true
  | .pllRestart _ _ => true
  | .pllLockDeclared _ _ => true
  | .pllLockLost _ _ => true
  | .pllAcquisitionTimeout _ => true
  | .refclkLost _ => true
  | .refclkPresent _ => true
  | .relaxOscOutOfRange _ => true
  | .fineCalLineMeasure _ _ _ => true
  | .fineCalTableApply _ => true
  | .bypSenseRelease _ => true
  | .bypSenseSample _ _ => true
  | .bypSenseCycleStart _ => true
  | .jtagExtest _ => true
  | .jtagBypass _ => true
  | .jtagSamplePreload _ _ => true
  | .jtagIdcode _ => true
  | .carrierZero _ => true
  | .carrierApex _ => true
  | .tcmpEvent _ => true
  | .shadowTransfer _ _ => true
  | .legCommandChange _ _ _ => true
  | .erasedPulseEnd _ => true
  | .deadtimeTurnOn _ => true
  | .refreshPulseEnd _ => true
  | .commit _ _ => true
  | .carryClear _ _ => true
  | .sequenceTrigger _ => true
  | .adcHold _ => true
  | .adcResultWritten _ _ => true
  | .ondemand _ => true
  | .urgentConversionStart _ => true
  | .windowTrip _ _ _ => true
  | .windowRelease _ _ _ => true
  | .openWireRequest _ => true
  | .openWireSettleExpiry _ _ => true
  | .dsdMainResult _ _ _ _ => true
  | .dsdAlignEvent _ => true
  | .fastComparatorTrip _ _ => true
  | .streamFault _ _ => true
  | .streamFaultClear _ _ => true
  | .dfPeriodMeasured _ _ _ => true
  | .dfFaultRecognised _ _ => true
  | .dfFaultEnd _ => true
  | .dfTelemetryInvalid _ _ => true
  | .loopTaskTrigger _ _ => true
  | .loopRunRelease _ _ => true
  | .loopDeadlineMiss _ _ => true
  | .validate _ _ => true
  | .loopStatusClear _ _ => true
  | .profileStep _ => true
  | .profileRestart _ _ _ => true
  | .limitsSet _ _ _ _ _ _ => true
  | .modeReq _ _ => true
  | .externalFaultChange _ _ _ => true
  | .safePatternTurnOn _ _ => true
  | .guardRelease _ _ => true
  | .autoRelease _ _ => true
  | .bypassCommandClose _ => true
  | .bypassTimeout _ => true
  | .bypassOpenTimeout _ => true
  | .bypMismatchTimeout _ => true
  | .stringAssembly => true
  | .stringFrameIssue => true
  | .moltRemove _ => true
  | .moltInsert _ => true
  | .prechargeTimeout _ => true
  | .stopTimeout => true
  | .thermalSampleDue _ => true
  | .thermalSampleProcess _ => true
  | .lockoutRecordWritten _ _ => true
  | .brokenClear _ => true
  | .rearm _ => true
  | .collectorDecision _ _ => true
  | .collectorDecisionTimeout => true
  | .stickyClear _ _ => true
  | .wdpEventSend => true
  | .eventFrameSend => true
  | .laneLosDeclared _ _ _ => true
  | .laneLosCleared _ _ _ => true
  | .laneLolDeclared _ _ => true
  | .laneCommaAligned _ _ => true
  | .slipPositionTest _ _ => true
  | .trainBlockReceive _ _ => true
  | .fillerBlockReceive _ _ _ => true
  | .fillerInsert _ _ => true
  | .fillerSend _ => true
  | .enumDelayExpiry => true
  | .rateStepPllRestart _ => true
  | .rateStepTimeout _ => true
  | .hatchYWaitExpiry => true
  | .roleConflictDetect _ => true
  | .joinDwellExpiry _ => true
  | .wakeBlockReceive _ => true
  | .wakeFrameRepeat => true
  | .frameReceive _ _ => true
  | .frameTransmitSelect _ => true
  | .retryTimeout _ _ _ => true
  | .forwardTimeout _ _ => true
  | .delayExchangeDue => true
  | .timeIncrementWrite _ => true
  | .timeStep _ => true
  | .comparatorFire _ => true
  | .tsyncPulseStart => true
  | .tsyncPulseEnd => true
  | .tsyncInputEdge => true
  | .orsolaneDueInstant => true
  | .leaseExpiry => true
  | .revertHoldoffExpiry _ => true
  | .leaseNsWrite _ => true
  | .pselNChange _ _ => true
  | .pselHoldoffExpiry => true
  | .pselStuck => true
  | .fireflyBeaconSend _ _ => true
  | .fireflyEchoSend => true
  | .healthEvaluation _ _ _ _ _ => true
  | .canLeaseExpiry => true
  | .canApply _ _ => true
  | .canTimingChange _ => true
  | .canTransmitStart _ => true
  | .canTransmitComplete _ _ => true
  | .canRecoveryComplete _ => true
  | .canRecover _ _ => true
  | .dupClear _ _ => true
  | .lecRead _ _ => true
  | .timestampEntryRead _ => true
  | .timestampFlush _ _ => true
  | .canBusMonitorEnter _ => true
  | .blockTimeout _ => true
  | .wdpSafe _ _ => true
  | .wdpLeaseRenew _ _ => true
  | .wdpLeaseRelease _ _ => true
  | .wdpLeaseRevert _ _ => true
  | .cyclicStatusSend => true
  | .timeTelegramSend => true
  | .captureEnable _ => true
  | .captureArm _ => true
  | .captureForce _ => true
  | .captureSample => true
  | .captureDecision _ => true
  | .captureRecordClose => true
  | .trigLineFall _ => true
  | .trigDriveEnd _ => true
  | .calArm _ => true
  | .trigCalTimeout _ => true
  | .trigCalDrive _ => true
  | .deadTimeClear _ => true
  | .ceqWordRead => true
  | .ceqWindowRead => true
  | .ceqMark _ => true
  | .ceqRewind _ => true
  | .ceqRelease _ => true
  | .egressWrite _ => true
  | .captureFrameSend => true
  | .egressHoldoffExpiry => true
  | .store _ => true
  | .storeComplete _ => true
  | .defaults _ => true
  | .oemAreaWrite _ => true
  | .fwImageWrite _ => true
  | .fwCheck => true
  | .fwCheckComplete => true
  | .fwActivate => true
  | .fwActivation _ => true
  | .activateWaitExpiry => true
  | .maintStandbySoak _ _ => true
  | .maintLanePrbs _ _ => true
  | .maintOpenWireSweep _ _ => true
  | .maintNtcSweep _ _ => true
  | .maintFineDelaySweep _ _ => true
  | .maintGateLoopback _ _ => true
  | .maintNvScrub _ _ => true
  | .maintFailoverDrill _ _ => true
  | .maintStop _ => true
  | .maintActivityEnd _ _ _ _ _ => true
  | .objectWrite _ _ _ => true
  | .fastComparatorRelease _ _ => true
  | .relaxationOscillatorInRange _ => true
  | .powerOnResetAssert => true
  | .resetNAssert => true
  | .deviceReset => true
  | .bootComplete => true
  | .supervisorWatchdogExpiry _ => true
  | .supervisorRestartComplete => true
  | .cmdRun => true
  | .cmdStop => true
  | .cmdSafe => true
  | .cmdResume => true
  | .cmdCocoon => true
  | .cocoonEntryComplete => true
  | .cmdWake => true
  | .cmdSupervisorRestart => true
  | .cmdDeviceReset => true
  | .wakePinHigh _ => true
  | .cocoonExit => true
  | .abortCapture => true
  | .abortBlock => true
  | .abortStore => true
  | .abortFwInstall => true
  | .abortMaint => true
  | .abortMolt => true
  | .abortForward => true

end Sys2Proof
end

