-- ==== Sys2Proof/Tests/Slice0.lean ====
section
/-! SUPPORT. Tests: what ill-formed commands look like, small runs of one command whose outcome the spec gives, and for every clause of every statement a state and operands that meet its hypotheses. -/

open Sys2Proof Sys2Proof.Machine

set_option maxRecDepth 100000
set_option linter.unusedVariables false

namespace Sys2Proof.Tests

/-! ### Ill-formed commands: one for each check -/

/-- A frame of a type with a payload of that many bytes. -/
def frame (typ src dst : Byte) (n : Nat) : Frame :=
  ⟨typ, 0, false, false, false, false, src, dst, 0, List.replicate n 0⟩

theorem test_form_good_frame : wellFormed (.stringFrameAccept (frame 1 3 0xFF 2048)) = true := by decide
theorem test_form_frame_type : wellFormed (.stringFrameAccept (frame 2 3 0xFF 16)) = false := by decide
theorem test_form_frame_payload : wellFormed (.ackReceive (frame 0x0E 3 4 2049)) = false := by decide
theorem test_form_frame_source : wellFormed (.nakReceive (frame 0x0F 40 4 8)) = false := by decide
theorem test_form_frame_destination : wellFormed (.nakReceive (frame 0x0F 4 40 8)) = false := by decide
theorem test_form_dict_short : wellFormed (.dictRequestReceive (frame 3 1 0 7)) = false := by decide
theorem test_form_dict_kind : wellFormed (.dictResponseReceive (frame 3 1 0 8)) = false := by decide
theorem test_form_enum_length : wellFormed (.enumAssignReceive 0 (List.replicate 15 0)) = false := by decide
theorem test_form_enum_subtype : wellFormed (.enumEndReceive 0 (List.replicate 16 0)) = false := by decide
theorem test_form_can_identifier :
    wellFormed (.canFrameReceive 0 ⟨2048, false, true, true, false, false, [], 0⟩) = false := by decide
theorem test_form_can_length :
    wellFormed (.canFrameReceive 0 ⟨5, false, true, true, false, false, List.replicate 9 0, 0⟩) = false := by decide
theorem test_form_can_classic_length :
    wellFormed (.canFrameReceive 0 ⟨5, false, false, false, false, false, List.replicate 12 0, 0⟩) = false := by decide
theorem test_form_can_classic_switch :
    wellFormed (.canFrameReceive 0 ⟨5, false, false, true, false, false, [], 0⟩) = false := by decide
theorem test_form_can_remote :
    wellFormed (.canFrameReceive 0 ⟨5, false, true, false, true, false, [], 0⟩) = false := by decide
theorem test_form_object_number :
    wellFormed (.canObjectRead 0 0) = false ∧ wellFormed (.canObjectRead 0 101) = false := by decide
theorem test_form_object_record : wellFormed (.canObjectConfigure 0 1 (List.replicate 17 0)) = false := by decide
theorem test_form_error_code :
    wellFormed (.canErrorDetected 0 0 false false false .elsewhere) = false ∧
      wellFormed (.canErrorDetected 0 8 false false false .elsewhere) = false := by decide

/-- A request of an operation with that many bytes of data. -/
def request (op : Byte) (n : Nat) : Telegram := ⟨1, 0x40, op, 0, 8, 0x1000, 1, 0, List.replicate n 0⟩

theorem test_form_request : wellFormed (.wdpRead (.can 0) (request 1 56)) = true := by decide
theorem test_form_telegram_length : wellFormed (.wdpRead (.can 0) (request 1 57)) = false := by decide
theorem test_form_request_op : wellFormed (.wdpWrite (.can 0) (request 1 8)) = false := by decide
theorem test_form_origin :
    wellFormed (.wdpRead (.dict 40 0 0) (request 1 0)) = false ∧
      wellFormed (.wdpRead (.dict 1 0 2) (request 1 0)) = false := by decide
theorem test_form_cyclic_length : wellFormed (.wdpCyclicCommand 0 (List.replicate 9 0)) = false := by decide
theorem test_form_result_number :
    wellFormed (.resultRead true 18 false) = false ∧ wellFormed (.resultRead false 26 false) = false ∧
      wellFormed (.resultRead true 17 false) = true := by decide

/-! ### Figures that the spec works out -/


/-- The check value of the CRC-32C (spec/14 R447). -/
theorem test_crc_check_value :
    crc32c [0x31, 0x32, 0x33, 0x34, 0x35, 0x36, 0x37, 0x38, 0x39] = 0xE3069283 := by decide

/-- The 3 kHz carrier interleaved over 12 cells (spec/05, the worked example): slots 1, 4, 6 and 11. -/
theorem test_interleave_slots :
    [1, 4, 6, 11].map (fun n => phaseTaps (slotPhase n 12) 3333333) = [138889, 555555, 833333, 1527778] := by decide

/-- S follows P with PHASE 0.1: 20,000 taps (spec/05). -/
theorem test_phase_tenth : phaseTaps 0x0CCCCCCD 200000 = 20000 := by decide

/-- TCMP 0x4200_0000 on the 3 kHz carrier falls at 1,718,750 taps (spec/07, the DAB example). -/
theorem test_tcmp_taps : ratioOf 0x42000000 3333333 = 1718750 := by decide

/-- The DAB example's LINEARISE breakpoints, x then y, from parameter 1 (spec/07). -/
def dabPoints (i : Nat) : Nat :=
  [0, 0x00000000, 0x3E4CCCCD, 0x3ECCCCCD, 0x3F19999A, 0x3F333333, 0x3F4CCCCD, 0x3F666666, 0x3F800000,
    0x00000000, 0x3CD83622, 0x3D66D04E, 0x3DBC2EBA, 0x3DE790B8, 0x3E0D8384, 0x3E2F0BAF, 0x3E800000].getD i 0

/-- At 0.75 the block gives 0.125633, and with SYMMETRIC its negation at −0.75 (spec/07). -/
theorem test_linearise :
    linearise dabPoints true 0x3F400000 = 0x3E00A5F0 ∧ linearise dabPoints true 0xBF400000 = 0xBE00A5F0 := by decide

/-- A driver at 10 kHz with D = 0.62, T_AT_10 −20 °C and T_AT_90 180 °C reads 110 °C (spec/06). -/
theorem test_driver_temperature :
    (((State.reset.wr 0x460013 0xC1A00000).wr 0x460025 0x43340000).driverTemp 0 62500 38750) = 0x42DC0000 := by decide

/-- A block put on the line at G1 is read off it with the 58 line bits before it: header 10 for control, 01 for data, no other (spec/13 R415, R416). -/
theorem test_line_code :
    let a := Block.onLine 1 0x2A5F0F1E2D3C4B5 (.control 0x78 [1, 2, 3, 4, 5, 6])
    let b := Block.onLine 1 (lineTail a) (.data [8, 7, 6, 5, 4, 3, 2, 1])
    (readBlock 1 a == some (.control 0x78 [1, 2, 3, 4, 5, 6]) && readBlock 1 b == some (.data [8, 7, 6, 5, 4, 3, 2, 1]) &&
      readBlock 0 a == none && readBlock 1 (.coded 3 0 0) == none) = true := by decide

/-- The length words of the worker's record 17 and of its relay packet (spec/18, the worked example). -/
theorem test_length_words :
    lengthWord 100 6 1 17 = 0x0000001101600064 ∧ lengthWord 102 8 2 17 = 0x0000001102800066 := by decide

/-! ### The 200 ns pulse and its carry (spec/05, the worked example) -/

/-- The state that a command answers. -/
def after (c : Instr) (s : State) : State :=
  match exec c s with
  | .next t => t
  | _ => s

/-- Leg 2 of cell 0's grid bridge on the 3 kHz carrier, before ZERO k at tap 10,000,000. -/
def leg2 : State :=
  let a := (State.reset.modPower fun p => { p with supervisor := true, por := false }).wrAll
    [(kDevState, 4), (kFitted, 1), (kCellState 0, 2), (kCarrier 0 0 1, 1), (kPllStatus 0, 1), (0x200005, 1), (0x203001, 2),
      (kCarrier 0 0 0x0B, 3), (0x302001, 1500), (0x302002, 1500)]
  a.modCarrier 0 fun c =>
    { c with running := true, driving := true, started := true, mode := 1, span := 3333333, zeroAt := 10000000,
             lastZero := 10000000, nextAt := 13333333,
             v := { CarrierSt.init.v with ticks := 208333, fine := 5, cmp := #v[0x60000000, 0x0013A92A],
                                          dead := #v[1500, 1500] } }

/-- Leg 2 with its period begun at a tap. -/
def leg2At (z : Nat) (s : State) : State :=
  s.modCarrier 0 fun c => { c with zeroAt := z, lastZero := z, nextAt := z + 3333333 }

/-- The commanded pulse of 2,000 taps is under W_E: the lead is held back, and its end carries 2,000 taps. -/
theorem test_pulse_erased :
    let a := after (.legCommandChange 1 true (BitVec.ofNat 64 13332333)) leg2
    (a.legs[(1 : Leg)].erased.isSome && a.gates == leg2.gates &&
      (after (.erasedPulseEnd 1) (leg2At 13333333 a)).carry 1 == 2000) = true := by decide

/-- One period later the pulse is 4,000 taps: H turns on a dead time after the lead; the trail comes 2,000 taps after the waveform's, and L turns on a dead time after it. -/
theorem test_carry_spent :
    let a := leg2At 13333333 (after (.erasedPulseEnd 1)
      (leg2At 13333333 (after (.legCommandChange 1 true (BitVec.ofNat 64 13332333)) leg2)))
    let b := after (.deadtimeTurnOn 1) (after (.legCommandChange 1 true (BitVec.ofNat 64 16665666)) a)
    let c := after (.legCommandChange 1 false (BitVec.ofNat 64 16669666)) (leg2At 16666666 b)
    (b.gates[lineH 1] && !b.gates[lineL 1] && !c.gates[lineH 1] &&
      c.legs[(1 : Leg)].turnOn == some (false, 16671166) && c.carry 1 == 0) = true := by decide

/-! ### One command on a small state -/

/-- A device in READY whose Supervisor executes. -/
def ready : State := (State.reset.modPower fun p => { p with supervisor := true, por := false }).wr kDevState 2

/-- With no command waiting one tick passes; four while PLL_T is in bypass on REFCLK (spec/03 R80, log entry 1). -/
theorem test_idle_step :
    let a : State := { ready with clock := { ready.clock with refPresent := true } }
    ((after (.jtagIdcode true) a).tick == a.tick && a.idle.tick == a.tick + 4 &&
      (a.wr (kPllStatus 0) 1).idle.tick == a.tick + 1) = true := by decide

/-- The command in front runs; the rest of the queue waits. -/
theorem test_step_takes_the_front :
    (match step { ready with pending := [.refclkPresent (Vector.replicate 8 100), .jtagIdcode true] } with
      | .next t => t.clock.refPresent && t.pending == [.jtagIdcode true]
      | _ => false) = true := by decide

/-- WDT_TIMEOUT (0x1005/01) takes 10 to 1,000 ms: 20 is stored, 9 is out of range, and in RUN the object takes no write (spec/04, spec/17 R551). -/
theorem test_write_in_range :
    let t := after (.objectWrite 0x1005 1 [20, 0]) ready
    (t.lastStatus == 0 && t.rd 0x100501 == 20) = true := by decide
theorem test_write_refused :
    let t := after (.objectWrite 0x1005 1 [9, 0]) ready
    let u := after (.objectWrite 0x1005 1 [20, 0]) (ready.wr kDevState 4)
    (t.lastStatus == 6 && t.rd 0x100501 == 50 && u.lastStatus == 5 && u.rd 0x100501 == 50) = true := by decide

/-! ### Hypotheses that can be met -/

theorem witness_DeviceWideResetsLeaveBoot_2 :
    ∃ (s : State) (role : Bool) , s.power.por = true :=
  ⟨(State.reset.modPower fun p => { p with por := true }), true, by decide⟩

theorem witness_DeviceWideResetsLeaveBoot_4 :
    ∃ (s : State) (role : Bool) , s.power.pinReset = true :=
  ⟨(State.reset.modPower fun p => { p with pinReset := true }), false, by decide⟩

theorem witness_DeviceWideResetsLeaveBoot_5 :
    ∃ (s : State) (d : Nat) , s.power.resetDue = some d ∧ s.inReset = false ∧ (s.responding = false ∨ d ≤ s.tick) :=
  ⟨(State.reset.modPower fun p => { p with resetDue := some 9 }), 9, by decide⟩

theorem witness_BootAndSupervisorRestarts_1 :
    ∃ (s : State) , s.dev = 0 ∧ s.inReset = false ∧ s.power.bootLoader = false ∧ (s.power.loaded = true ∨ s.clock.refPresent = true ∧ (s.nv.fw[(0 : Fin 2)].valid = true ∨ s.nv.fw[(1 : Fin 2)].valid = true)) ∧ s.bitAt (kPllStatus 0) 0 = true :=
  ⟨({ State.reset.wrBit (kPllStatus 0) 0 true with clock := { State.reset.clock with refPresent := true } }.modNv fun n => { n with fw := Vector.replicate 2 ⟨2, []⟩ }), by decide⟩

theorem witness_BootAndSupervisorRestarts_2 :
    ∃ (s : State) (serviced : BitVec 64) (d : Nat) , s.power.supervisor = true ∧ s.power.wdtFrom = some d :=
  ⟨(State.reset.modPower fun p => { p with supervisor := true, wdtFrom := some 5 }), 9, 5, by decide⟩

theorem witness_BootAndSupervisorRestarts_3 :
    ∃ (s : State) , s.power.supervisor = true ∧ s.fallsDue = false ∧ s.fellNow 8 = false ∧ s.dev ≠ 0 ∧ s.dev ≤ 7 :=
  ⟨(({ (State.reset.modPower fun p => { p with supervisor := true }) with pins := { State.reset.pins with fltInP := true, safeN := true, fltInN := false }, rails := ⟨0, 0⟩ } : State).wr kDevState 2), by decide⟩

theorem witness_BootAndSupervisorRestarts_4 :
    ∃ (s : State) , s.power.supervisor = false ∧ s.dev ≠ 0 ∧ s.inReset = false ∧ s.nv.fw[s.jobs.install.active].valid = true :=
  ⟨((State.reset.wr kDevState 2).modNv fun n => { n with fw := Vector.replicate 2 ⟨2, []⟩ }), by decide⟩

theorem witness_StateCommandsMoveTheDevice_1 :
    ∃ (s : State) (cells : List CellInfo) , s.power.supervisor = true ∧ s.fellNow 1 = false ∧ s.dev = 2 ∧ s.fallsDue = false ∧ (s.manager = false → s.stringRx.devices = some (s.rd 0xB03004)) ∧ (s.manager = true → s.rd 0xB03004 = s.rd kExpected ∧ (s.checkMap (s.chainCells cells)).1 = true ∧ ¬ (s.bitAt 0xB02003 8 = true ∧ s.bitAt 0xB02003 9 = true)) ∧ (∀ c : Cell, s.fitted c = true → s.rd (0x800001 + c.val) ≤ 2) ∧ s.validateAll.1 = true ∧ s.safePresent = false :=
  ⟨({ ((((((({ (State.reset.modPower fun p => { p with supervisor := true }) with pins := { State.reset.pins with fltInP := true, safeN := true, fltInN := false }, rails := ⟨0, 0⟩ } : State).wr kDevState 2).wr kFitted 1).wr 0x800001 0).wr 0x500001 1).wr 0x500301 0).wr 0x500101 100) with stringRx := { StringRx.init with devices := some 0 } } : State), [], by decide⟩

theorem witness_StateCommandsMoveTheDevice_2 :
    ∃ (s : State) , s.power.supervisor = true ∧ s.fellNow 2 = false ∧ s.dev = 3 ∧ s.fallsDue = false ∧ (∀ c : Cell, s.fitted c = true → s.cellSt c = 1 → s.chargeDone c = true) :=
  ⟨({ (((({ (State.reset.modPower fun p => { p with supervisor := true }) with pins := { State.reset.pins with fltInP := true, safeN := true, fltInN := false }, rails := ⟨0, 0⟩ } : State).wr kDevState 3).wr kFitted 1).wr (kCellState 0) 1) with charge := Vector.replicate 6 8 } : State), by decide⟩

theorem witness_StateCommandsMoveTheDevice_3 :
    ∃ (s : State) (c : Cell) , s.power.supervisor = true ∧ s.fellNow 2 = false ∧ s.dev = 3 ∧ s.fallsDue = false ∧ s.fitted c = true ∧ s.cellSt c = 1 ∧ s.chargeDone c = false :=
  ⟨(((({ (State.reset.modPower fun p => { p with supervisor := true }) with pins := { State.reset.pins with fltInP := true, safeN := true, fltInN := false }, rails := ⟨0, 0⟩ } : State).wr kDevState 3).wr kFitted 1).wr (kCellState 0) 1), 0, by decide⟩

theorem witness_StateCommandsMoveTheDevice_4 :
    ∃ (s : State) , s.power.supervisor = true ∧ s.fellNow 3 = false ∧ (s.dev = 3 ∨ s.dev = 4) ∧ s.fallsDue = false ∧ s.stopComplete = false :=
  ⟨(((({ (State.reset.modPower fun p => { p with supervisor := true }) with pins := { State.reset.pins with fltInP := true, safeN := true, fltInN := false }, rails := ⟨0, 0⟩ } : State).wr kDevState 4).wr kFitted 1).wr (kCellState 0) 2), by decide⟩

theorem witness_StateCommandsMoveTheDevice_5 :
    ∃ (s : State) , s.power.supervisor = true ∧ s.fellNow 3 = false ∧ (s.dev = 3 ∨ s.dev = 4) ∧ s.fallsDue = false ∧ s.stopComplete = true :=
  ⟨(({ (State.reset.modPower fun p => { p with supervisor := true }) with pins := { State.reset.pins with fltInP := true, safeN := true, fltInN := false }, rails := ⟨0, 0⟩ } : State).wr kDevState 4), by decide⟩

theorem witness_StateCommandsMoveTheDevice_6 :
    ∃ (s : State) , s.power.supervisor = true ∧ s.fallsDue = false ∧ s.fellNow 4 = false ∧ (s.dev = 2 ∨ s.dev = 3 ∨ s.dev = 4) :=
  ⟨(({ (State.reset.modPower fun p => { p with supervisor := true }) with pins := { State.reset.pins with fltInP := true, safeN := true, fltInN := false }, rails := ⟨0, 0⟩ } : State).wr kDevState 2), by decide⟩

theorem witness_StateCommandsMoveTheDevice_7 :
    ∃ (s : State) , s.power.supervisor = true ∧ s.fallsDue = false ∧ s.fellNow 4 = false ∧ (s.dev = 1 ∨ s.dev = 5) :=
  ⟨(({ (State.reset.modPower fun p => { p with supervisor := true }) with pins := { State.reset.pins with fltInP := true, safeN := true, fltInN := false }, rails := ⟨0, 0⟩ } : State).wr kDevState 5), by decide⟩

theorem witness_StateCommandsMoveTheDevice_8 :
    ∃ (s : State) , s.power.supervisor = true ∧ s.fallsDue = false ∧ s.fellNow 5 = false ∧ (s.dev = 6 ∨ s.dev = 7 ∧ s.unarmed 0 = false) ∧ s.safePresent = false :=
  ⟨(({ (State.reset.modPower fun p => { p with supervisor := true }) with pins := { State.reset.pins with fltInP := true, safeN := true, fltInN := false }, rails := ⟨0, 0⟩ } : State).wr kDevState 6), by decide⟩

theorem witness_CocoonWakeAndResetCommands_1 :
    ∃ (s : State) , s.power.supervisor = true ∧ s.fellNow 6 = false ∧ (s.dev = 2 ∨ s.dev = 6) ∧ s.fallsDue = false ∧ (∀ c : Cell, s.fitted c = true → s.cellSt c ≠ 3) :=
  ⟨(({ (State.reset.modPower fun p => { p with supervisor := true }) with pins := { State.reset.pins with fltInP := true, safeN := true, fltInN := false }, rails := ⟨0, 0⟩ } : State).wr kDevState 2), by decide⟩

theorem witness_CocoonWakeAndResetCommands_2 :
    ∃ (s : State) , s.power.entering = true ∧ s.power.waking = false :=
  ⟨((({ (State.reset.modPower fun p => { p with supervisor := true }) with pins := { State.reset.pins with fltInP := true, safeN := true, fltInN := false }, rails := ⟨0, 0⟩ } : State).wr kDevState 5).modPower fun p => { p with entering := true }), by decide⟩

theorem witness_CocoonWakeAndResetCommands_3 :
    ∃ (s : State) , s.power.entering = true ∧ s.power.waking = true ∧ s.dev = 5 :=
  ⟨((({ (State.reset.modPower fun p => { p with supervisor := true }) with pins := { State.reset.pins with fltInP := true, safeN := true, fltInN := false }, rails := ⟨0, 0⟩ } : State).wr kDevState 5).modPower fun p => { p with entering := true, waking := true }), by decide⟩

theorem witness_CocoonWakeAndResetCommands_4 :
    ∃ (s : State) (ticks : BitVec 32) , s.dev = 5 ∧ s.bitAt 0x100401 2 = true ∧ 6250 ≤ ticks.toNat :=
  ⟨(({ (State.reset.modPower fun p => { p with supervisor := true }) with pins := { State.reset.pins with fltInP := true, safeN := true, fltInN := false }, rails := ⟨0, 0⟩ } : State).wr kDevState 5), 6250, by decide⟩

theorem witness_CocoonWakeAndResetCommands_5 :
    ∃ (s : State) (x : LineBlock) (b : Bytes) , s.dev = 5 ∧ s.manager = false ∧ s.laneUp 0 = true ∧ s.bitAt 0x100401 1 = true ∧ (s.blockIn 0 x).1 = some (.control 0x5A b) ∧ 3 ≤ (s.blockIn 0 x).2.lanes[(0 : Lane)].wakes :=
  ⟨(((({ (State.reset.modPower fun p => { p with supervisor := true }) with pins := { State.reset.pins with fltInP := true, safeN := true, fltInN := false }, rails := ⟨0, 0⟩ } : State).wr kDevState 5).wr (kLane 0 1) 4).modLane 0 fun l => { l with wakes := 3 }), (.chars true 0 0x5ABC : LineBlock), [0, 0, 0, 0, 0, 0], by decide⟩

theorem witness_CocoonWakeAndResetCommands_6 :
    ∃ (s : State) , s.dev = 5 ∧ s.power.waking = true ∧ s.power.entering = false :=
  ⟨((({ (State.reset.modPower fun p => { p with supervisor := true }) with pins := { State.reset.pins with fltInP := true, safeN := true, fltInN := false }, rails := ⟨0, 0⟩ } : State).wr kDevState 5).modPower fun p => { p with waking := true }), by decide⟩

theorem witness_CocoonWakeAndResetCommands_7 :
    ∃ (s : State) , s.power.supervisor = true ∧ s.fallsDue = false ∧ s.fellNow 7 = false ∧ s.dev = 5 ∧ s.bitAt 0x100401 0 = true :=
  ⟨((({ (State.reset.modPower fun p => { p with supervisor := true }) with pins := { State.reset.pins with fltInP := true, safeN := true, fltInN := false }, rails := ⟨0, 0⟩ } : State).wr kDevState 5).wr 0x100401 1), by decide⟩

theorem witness_CocoonWakeAndResetCommands_8 :
    ∃ (s : State) , s.power.supervisor = true ∧ s.fallsDue = false ∧ s.fellNow 9 = false ∧ (s.dev = 1 ∨ s.dev = 2 ∨ s.dev = 5 ∨ s.dev = 6 ∨ s.dev = 7) :=
  ⟨(({ (State.reset.modPower fun p => { p with supervisor := true }) with pins := { State.reset.pins with fltInP := true, safeN := true, fltInN := false }, rails := ⟨0, 0⟩ } : State).wr kDevState 2), by decide⟩

theorem witness_FittingFaultLinesAndReleaseOfHolds_1 :
    ∃ (s : State) (mask : Byte) (c : Cell) , s.power.supervisor = true ∧ (s.dev = 2 ∨ s.dev = 6) ∧ bit mask.toNat c.val = true ∧ s.fitted c = true ∧ s.cellSt c = 6 ∧ s.cellClean c = true :=
  ⟨((((State.reset.modPower fun p => { p with supervisor := true }).wr kDevState 2).wr kFitted 1).wr (kCellState 0) 6), 1, 0, by decide⟩

theorem witness_FittingFaultLinesAndReleaseOfHolds_2 :
    ∃ (s : State) (mask : Byte) (c : Cell) , s.power.supervisor = true ∧ (s.dev = 2 ∨ s.dev = 6) ∧ bit mask.toNat c.val = true ∧ s.fitted c = true ∧ s.cellSt c = 4 ∧ s.guard[c].opening = .no ∧ s.bypClosed c = true :=
  ⟨(((((State.reset.modPower fun p => { p with supervisor := true }).wr kDevState 2).wr kFitted 1).wr (kCellState 0) 4).wr (kByp 0) 3), 1, 0, by decide⟩

theorem witness_FittingFaultLinesAndReleaseOfHolds_3 :
    ∃ (s : State) (mask : Byte) , s.power.supervisor = true ∧ (s.dev = 2 ∨ s.dev = 6 ∨ s.dev = 7) ∧ (∀ c : Cell, s.fitted c = true → bit mask.toNat c.val = false → s.cellSt c = 0) :=
  ⟨((State.reset.modPower fun p => { p with supervisor := true }).wr kDevState 2), 5, by decide⟩

theorem witness_FittingFaultLinesAndReleaseOfHolds_4 :
    ∃ (s : State) (p : Bool) (n : Bool) (sn : Bool) , s.inReset = false :=
  ⟨(State.reset.wr kFitted 1), false, false, true, by decide⟩

theorem witness_FittingFaultLinesAndReleaseOfHolds_5 :
    ∃ (s : State) (c : Cell) (mask : Byte) , s.power.supervisor = true ∧ s.dev ≠ 0 :=
  ⟨((((State.reset.modPower fun p => { p with supervisor := true }).wr kDevState 2).wr kFitted 1).wr (kHoldCause 0 1) 0x903), 0, 2, by decide⟩

theorem witness_FittingFaultLinesAndReleaseOfHolds_6 :
    ∃ (s : State) (c : Cell) (b : Bridge) (d : Nat) , s.autoDue c b = some d ∧ s.rd (unitKey 0x700407 c) < s.rd (unitKey 0x70010B c) ∧ s.guard[c].lastAuto ≠ some (max d s.tick) :=
  ⟨(((((State.reset.wr kFitted 1).wr 0x700109 1).wr 0x70010A 7).wr (kHoldCause 0 1) 1).wr 0x70010B 3), 0, 1, 7, by decide⟩

theorem witness_FittingFaultLinesAndReleaseOfHolds_7 :
    ∃ (s : State) (c : Cell) (b : Bridge) (j : Fin 2) (d : Nat) , s.zeroRow c b = true ∧ s.legs[legOf (carrierOf c b) j].safeOn = some d ∧ (∀ i : Fin 2, d ≤ s.legs[legOf (carrierOf c b) i].safeOn.getD d) ∧ s.gates[lineH (legOf (carrierOf c b) j)] = false :=
  ⟨((((((State.reset.wr kFitted 1).wr (kHoldCause 0 1) 1).wr 0x700002 1).modLeg 2 fun g => { g with safeOn := some 9 }).modLeg 3 fun g => { g with safeOn := some 11 })), 0, 1, 0, 9, by decide⟩

theorem witness_BypassSequenceAndSenseCycle_1 :
    ∃ (s : State) (c : Cell) (d : Nat) , s.guard[c].closeAt = some d ∧ s.bypClosed c = false :=
  ⟨((((State.reset.wr kFitted 1).wr (kCellState 0) 3)).modGuard 0 fun g => { g with closeAt := some 4 }), 0, 4, by decide⟩

theorem witness_BypassSequenceAndSenseCycle_2 :
    ∃ (s : State) (c : Cell) (d : Nat) , s.guard[c].closeAt = some d ∧ s.bypClosed c = true ∧ s.fitted c = true :=
  ⟨((((State.reset.wr kFitted 1).wr (kCellState 0) 3).wr (kByp 0) 2).modGuard 0 fun g => { g with closeAt := some 4 }), 0, 4, by decide⟩

theorem witness_BypassSequenceAndSenseCycle_3 :
    ∃ (s : State) (c : Cell) (d : Nat) , s.guard[c].bypLimit = some d ∧ s.fitted c = true ∧ s.cellSt c = 3 :=
  ⟨((((State.reset.wr kFitted 1).wr (kCellState 0) 3)).modGuard 0 fun g => { g with bypLimit := some 4 }), 0, 4, by decide⟩

theorem witness_BypassSequenceAndSenseCycle_4 :
    ∃ (s : State) (c : Cell) (d : Nat) , s.guard[c].openLimit = some d ∧ s.guard[c].opening ≠ .molt :=
  ⟨((State.reset.wr kFitted 1).modGuard 0 fun g => { g with openLimit := some 4, opening := .cellClear }), 0, 4, by decide⟩

theorem witness_BypassSequenceAndSenseCycle_5 :
    ∃ (s : State) (c : Cell) (d : Nat) , s.guard[c].openLimit = some d ∧ s.guard[c].opening = .molt ∧ s.fitted c = true :=
  ⟨(((State.reset.wr kFitted 1).wr (kCellState 0) 5).modGuard 0 fun g => { g with openLimit := some 4, opening := .molt }), 0, 4, by decide⟩

theorem witness_BypassSequenceAndSenseCycle_6 :
    ∃ (s : State) (c : Cell) (d : Nat) , s.guard[c].mismatchAt = some d ∧ s.bypCmd c ≠ s.bypClosed c :=
  ⟨(((State.reset.wr kFitted 1).wr (kByp 0) 2).modGuard 0 fun g => { g with mismatchAt := some 4 }), 0, 4, by decide⟩

theorem witness_BypassSequenceAndSenseCycle_7 :
    ∃ (s : State) (c : Cell) (d : Nat) , s.guard[c].cycleAt = some d ∧ s.senses c = true ∧ s.guard[c].sense = .driven :=
  ⟨((State.reset.wr kFitted 1).modGuard 0 fun g => { g with cycleAt := some 4 }), 0, 4, by decide⟩

theorem witness_BypassSequenceAndSenseCycle_8 :
    ∃ (s : State) (c : Cell) (high : Bool) (d : Nat) , s.guard[c].cycleAt = some d ∧ s.senses c = true ∧ s.guard[c].sense = .released :=
  ⟨((State.reset.wr kFitted 1).modGuard 0 fun g => { g with cycleAt := some 4, sense := .released, count := 7 }), 0, true, 4, by decide⟩

theorem witness_BypassSequenceAndSenseCycle_9 :
    ∃ (s : State) (c : Cell) (d : Nat) , s.guard[c].cycleAt = some d :=
  ⟨((State.reset.wr kFitted 1).modGuard 0 fun g => { g with cycleAt := some 4 }), 0, 4, by decide⟩

theorem witness_PllsRestartLockAndLoseLock_1 :
    ∃ (s : State) (p : Fin 3) (v : Byte) , s.power.supervisor = true ∧ (s.dev = 2 ∨ s.dev = 6 ∨ s.dev = 7) ∧ v = 1 :=
  ⟨((State.reset.modPower fun p => { p with supervisor := true }).wr kDevState 2), 1, 1, by decide⟩

theorem witness_PllsRestartLockAndLoseLock_2 :
    ∃ (s : State) (p : Fin 3) (v : Byte) , s.power.supervisor = true ∧ (s.dev = 2 ∨ s.dev = 6 ∨ s.dev = 7) ∧ v = 0 :=
  ⟨((State.reset.modPower fun p => { p with supervisor := true }).wr kDevState 2), 1, 0, by decide⟩

theorem witness_PllsRestartLockAndLoseLock_3 :
    ∃ (s : State) (p : Fin 3) (counts : List (BitVec 32)) , s.bitAt (kPllStatus p) 2 = true ∧ s.clock.refPresent = true ∧ (endsRun (fun x => decide ((s.expectedCount p - x) + (x - s.expectedCount p) ≤ s.rd (kLock p + 2))) (s.rd (kLock p + 3)) 0 counts = true) :=
  ⟨((({ State.reset with clock := { State.reset.clock with refPresent := true } } : State).acquire 1).wr (kLock 1 + 3) 1), 1, [BitVec.ofNat 32 ((({ State.reset with clock := { State.reset.clock with refPresent := true } } : State)).expectedCount 1)], by decide⟩

theorem witness_PllsRestartLockAndLoseLock_4 :
    ∃ (s : State) (p : Fin 3) (e : LossEvidence) , s.bitAt (kPllStatus p) 0 = true ∧ s.lossShown p e = true :=
  ⟨(State.reset.wrBit (kPllStatus 2) 0 true), 2, .phase (Vector.replicate 4 900), by decide⟩

theorem witness_PllsRestartLockAndLoseLock_5 :
    ∃ (s : State) (p : Fin 3) (d : Nat) , s.clock.pll[p].acqLimit = some d :=
  ⟨State.reset, 0, 6250000, by decide⟩

theorem witness_ReferenceAndOscillatorMonitors_1 :
    ∃ (s : State) (edges : Byte) , ((s.clock.oscBad = false ∧ (edges.toNat < 80 ∨ 120 < edges.toNat)) ∨ edges = 0) :=
  ⟨({ State.reset with clock := { State.reset.clock with refPresent := true } } : State), 79, by decide⟩

theorem witness_ReferenceAndOscillatorMonitors_2 :
    ∃ (s : State) (counts : Vector Byte 8) , s.clock.refPresent = false ∧ (∀ i : Fin 8, 80 ≤ counts[i].toNat ∧ counts[i].toNat ≤ 120) ∧ s.dev ≠ 0 :=
  ⟨(State.reset.wr kDevState 2), Vector.replicate 8 100, by decide⟩

theorem witness_ReferenceAndOscillatorMonitors_3 :
    ∃ (s : State) (counts : Vector Byte 8) , s.clock.refPresent = false ∧ (∀ i : Fin 8, 80 ≤ counts[i].toNat ∧ counts[i].toNat ≤ 120) ∧ s.dev = 0 ∧ s.inReset = false ∧ s.power.loaded = false ∧ s.power.bootLoader = false :=
  ⟨(State.reset.modNv fun n => { n with fw := Vector.replicate 2 ⟨2, []⟩ }), Vector.replicate 8 100, by decide⟩

theorem witness_ReferenceAndOscillatorMonitors_4 :
    ∃ (s : State) (cycles : BitVec 32) , s.clock.refPresent = true ∧ (cycles.toNat < 9000 ∨ 11000 < cycles.toNat) :=
  ⟨({ State.reset with clock := { State.reset.clock with refPresent := true } } : State), 8000, by decide⟩

theorem witness_ReferenceAndOscillatorMonitors_5 :
    ∃ (s : State) (cycles : BitVec 32) , s.clock.refPresent = true ∧ 9000 ≤ cycles.toNat ∧ cycles.toNat ≤ 11000 :=
  ⟨({ State.reset with clock := { State.reset.clock with refPresent := true } } : State), 10000, by decide⟩

theorem witness_FineCalibrationAndTestPort_1 :
    ∃ (s : State) (l : Line) (plausible : Bool) (elements : Vector (BitVec 24) 64) , s.bitAt 0x203001 0 = true ∧ s.clock.nextLine = l.val :=
  ⟨(State.reset.wr 0x203001 1), 0, true, Vector.replicate 64 30000, by decide⟩

theorem witness_FineCalibrationAndTestPort_2 :
    ∃ (s : State) (l : Line) , s.bitAt 0x203001 0 = true ∧ s.clock.lines[l].waiting = true :=
  ⟨((State.reset.wr 0x203001 1).modLine 3 fun x => { x with waiting := true, shadow := Vector.replicate 16 2 }), 3, by decide⟩

theorem witness_FineCalibrationAndTestPort_3 :
    ∃ (s : State) , (∀ c : Cell, s.fitted c = true → s.cellSt c = 0) ∧ (∀ c : Cell, s.bypCmd c = false) :=
  ⟨State.reset, by decide⟩

theorem witness_FineCalibrationAndTestPort_4 :
    ∃ (s : State) (outside : BitVec 139) (shifted : BitVec 139) , (∀ c : Cell, s.fitted c = true → s.cellSt c = 0) ∧ (∀ c : Cell, s.bypCmd c = false) :=
  ⟨State.reset, 5, 9, by decide⟩

theorem witness_FineCalibrationAndTestPort_5 :
    ∃ (s : State) (c : Cell) , ((s.fitted c = true ∧ s.cellSt c ≠ 0) ∨ s.bypCmd c = true) :=
  ⟨(State.reset.wr (kByp 0) 1), 0, by decide⟩

theorem witness_FineCalibrationAndTestPort_6 :
    ∃ (s : State) (outside : BitVec 139) (shifted : BitVec 139) (c : Cell) , ((s.fitted c = true ∧ s.cellSt c ≠ 0) ∨ s.bypCmd c = true) :=
  ⟨(State.reset.wr (kByp 0) 1), 5, 9, 0, by decide⟩

theorem witness_FineCalibrationAndTestPort_9 :
    ∃ (s : State) (scan : Bool) , scan = true ∧ s.inReset = false :=
  ⟨State.reset, true, by decide⟩

theorem witness_FineCalibrationAndTestPort_10 :
    ∃ (s : State) (scan : Bool) , (scan = false ∨ s.inReset = true) :=
  ⟨State.reset, false, by decide⟩

theorem witness_CarriersReachTheirInstants_1 :
    ∃ (s : State) (k : Carrier) , s.carriers[k].running = true ∧ s.carriers[k].placed = true ∧ s.rd (kCarrier (cellOf k) (bridgeOf k) 1) ≠ 0 ∧ (s.rd (kCarrier (cellOf k) (bridgeOf k) 3) < 2 ∨ s.rd (kCarrier (cellOf k) ((s.rd (kCarrier (cellOf k) (bridgeOf k) 3) - 2) % 3) 1) ≠ 0) :=
  ⟨((State.reset.wr (kCarrier 0 0 1) 2).modCarrier 0 fun c => { c with running := true, placed := true, nextAt := 1600 }), 0, by decide⟩

theorem witness_CarriersReachTheirInstants_2 :
    ∃ (s : State) (k : Carrier) , s.carriers[k].running = true ∧ s.carriers[k].started = true ∧ s.carriers[k].apexDone = false ∧ (s.carriers[k].zeroAt + s.carriers[k].span / 2).toNat < s.carriers[k].nextAt :=
  ⟨((State.reset.wr (kCarrier 0 0 1) 2).modCarrier 0 fun c => { c with running := true, placed := true, started := true, mode := 2, span := 1000000, zeroAt := 1600, lastZero := 1600, nextAt := 1001600 }), 0, by decide⟩

theorem witness_CarriersReachTheirInstants_3 :
    ∃ (s : State) (k : Carrier) , s.carriers[k].running = true ∧ s.carriers[k].started = true ∧ s.carriers[k].tcmpDone = false ∧ (s.carriers[k].zeroAt + s.tcmpAt k).toNat < s.carriers[k].nextAt :=
  ⟨((State.reset.wr (kCarrier 0 0 1) 2).modCarrier 0 fun c => { c with running := true, placed := true, started := true, mode := 2, span := 1000000, zeroAt := 1600, lastZero := 1600, nextAt := 1001600 }), 0, by decide⟩

theorem witness_CarriersReachTheirInstants_4 :
    ∃ (s : State) (k : Carrier) (apex : Bool) , s.carriers[k].running = true ∧ (apex = true → s.carriers[k].started = true ∧ s.carriers[k].apexDone = false) ∧ s.loadsAt k apex = true ∧ s.carriers[k].staged = none ∧ s.carriers[k].pref < 2 :=
  ⟨((State.reset.wr (kCarrier 0 0 1) 2).modCarrier 0 fun c => { c with running := true, placed := true, started := true, mode := 2, span := 1000000, zeroAt := 1600, lastZero := 1600, nextAt := 1001600 }), 0, false, by decide⟩

theorem witness_CarriersReachTheirInstants_5 :
    ∃ (s : State) (c : Cell) (mask : Byte) , s.power.supervisor = true ∧ s.dev ≠ 0 :=
  ⟨(((State.reset.modPower fun p => { p with supervisor := true }).wr kDevState 2).wr 0x30000B 1).modCarrier 0 fun c => { c with running := true }, 0, 1, by decide⟩

theorem witness_CarriersReachTheirInstants_6 :
    ∃ (s : State) (c : Cell) (mask : Byte) , s.power.supervisor = true ∧ (s.dev = 2 ∨ s.dev = 6 ∨ s.dev = 7) :=
  ⟨((State.reset.modPower fun p => { p with supervisor := true }).wr kDevState 2).wr 0x302207 3, 0, 3, by decide⟩

theorem witness_LegsSwitchWithDeadTime_1 :
    ∃ (s : State) (l : Leg) (high : Bool) (a : BitVec 64) (x : Nat) , s.carriers[legCarrier l].running = true ∧ s.carriers[legCarrier l].started = true ∧ s.carriers[legCarrier l].driving = false ∧ s.changeAt l high a.toNat = some x ∧ s.legs[l].level = !high :=
  ⟨((((State.reset.wr kFitted 1).modCarrier 0 fun c => { c with running := true, started := true, mode := 2, span := 10000, zeroAt := 3200, lastZero := 3200, nextAt := 13200, v := { c.v with cmp := Vector.replicate 2 0x40000000, dead := Vector.replicate 2 100 } }).wr 0x203001 2).wr 0x200005 1), 0, true, 3200, 3200, by decide⟩

theorem witness_LegsSwitchWithDeadTime_2 :
    ∃ (s : State) (l : Leg) (high : Bool) (a : BitVec 64) (x : Nat) , s.carriers[legCarrier l].running = true ∧ s.carriers[legCarrier l].started = true ∧ s.carriers[legCarrier l].driving = true ∧ s.changeAt l high a.toNat = some x ∧ s.legs[l].refreshing = none ∧ s.legs[l].canRefresh = false ∧ s.legs[l].erased = none ∧ s.legs[l].pulse = none ∧ s.legs[l].level = !high ∧ s.carry l = 0 ∧ s.legQuantum l = 1 ∧ (s.carriers[legCarrier l].placed = true → s.decidedAt l x < s.nextZero (legCarrier l)) ∧ (∀ w : Nat, s.widthAt l high x = some w → s.eraseLimit l ≤ w) :=
  ⟨((((State.reset.wr kFitted 1).modCarrier 0 fun c => { c with running := true, driving := true, started := true, mode := 2, span := 10000, zeroAt := 3200, lastZero := 3200, nextAt := 13200, v := { c.v with cmp := Vector.replicate 2 0x40000000, dead := Vector.replicate 2 100 } }).wr 0x203001 2).wr 0x200005 1), 0, true, 3200, 3200, by decide⟩

theorem witness_LegsSwitchWithDeadTime_3 :
    ∃ (s : State) (l : Leg) (high : Bool) (a : BitVec 64) (x : Nat) (w : Nat) , s.carriers[legCarrier l].running = true ∧ s.carriers[legCarrier l].started = true ∧ s.carriers[legCarrier l].driving = true ∧ s.changeAt l high a.toNat = some x ∧ s.legs[l].refreshing = none ∧ s.legs[l].canRefresh = false ∧ s.legs[l].erased = none ∧ s.legs[l].pulse = none ∧ s.legs[l].level = !high ∧ s.carry l = 0 ∧ s.legQuantum l = 1 ∧ (s.carriers[legCarrier l].placed = true → s.decidedAt l x < s.nextZero (legCarrier l)) ∧ s.widthAt l high x = some w ∧ w < s.eraseLimit l :=
  ⟨((((State.reset.wr kFitted 1).modCarrier 0 fun c => { c with running := true, driving := true, started := true, mode := 2, span := 2000, zeroAt := 3200, lastZero := 3200, nextAt := 5200, v := { c.v with cmp := Vector.replicate 2 0x40000000, dead := Vector.replicate 2 100 } }).wr 0x203001 2).wr 0x200005 1), 0, true, 3200, 3200, 1000, by decide⟩

theorem witness_LegsSwitchWithDeadTime_4 :
    ∃ (s : State) (l : Leg) (high : Bool) (a : BitVec 64) , s.carriers[legCarrier l].running = true ∧ s.carriers[legCarrier l].started = true ∧ s.carriers[legCarrier l].driving = true ∧ high = false ∧ s.legs[l].canRefresh = true ∧ a.toNat = s.localOf (legCarrier l) (s.refreshStart l) ∧ s.legQuantum l = 1 :=
  ⟨(((((State.reset.wr kFitted 1).modCarrier 0 fun c => { c with running := true, driving := true, started := true, mode := 2, span := 10000, zeroAt := 3200, lastZero := 3200, nextAt := 13200, v := { c.v with cmp := Vector.replicate 2 0x40000000, dead := Vector.replicate 2 100 } }).wr 0x203001 2).wr 0x200005 1).modLeg 0 fun g => { g with refreshDue := true, level := true, lowSeen := false }), 0, false, 9100, by decide⟩

theorem witness_LegsSwitchWithDeadTime_5 :
    ∃ (s : State) (l : Leg) (p : PulseSt) (x : Nat) , s.legs[l].erased = some p ∧ s.pulseEnd l p.high p.lead = some x ∧ s.rd (unitKey 0x302201 (l.val / 6) + l.val % 6) < 2 ^ 31 :=
  ⟨((((((State.reset.wr kFitted 1).modCarrier 0 fun c => { c with running := true, driving := true, started := true, mode := 2, span := 10000, zeroAt := 3200, lastZero := 3200, nextAt := 13200, v := { c.v with cmp := Vector.replicate 2 0x40000000, dead := Vector.replicate 2 100 } }).wr 0x203001 2).wr 0x200005 1).modLeg 0 fun g => { g with erased := some ⟨true, 3200, 0, none⟩ }).wr 0x302201 70000), 0, ⟨true, 3200, 0, none⟩, 5000, by decide⟩

theorem witness_LegsSwitchWithDeadTime_6 :
    ∃ (s : State) (l : Leg) (high : Bool) (d : Nat) , s.legs[l].turnOn = some (high, d) ∧ s.guardRow (cellOf (legCarrier l)) (bridgeOf (legCarrier l)) = 5 ∧ (s.gates[(if high then lineL l else lineH l)] = false) :=
  ⟨(((((State.reset.wr kFitted 1).modCarrier 0 fun c => { c with running := true, driving := true, started := true, mode := 2, span := 10000, zeroAt := 3200, lastZero := 3200, nextAt := 13200, v := { c.v with cmp := Vector.replicate 2 0x40000000, dead := Vector.replicate 2 100 } }).wr 0x203001 2).wr 0x200005 1).modLeg 0 fun g => { g with turnOn := some (true, 1700) }), 0, true, 1700, by decide⟩

theorem witness_LegsSwitchWithDeadTime_7 :
    ∃ (s : State) (l : Leg) (high : Bool) (d : Nat) , s.legs[l].turnOn = some (high, d) ∧ s.guardRow (cellOf (legCarrier l)) (bridgeOf (legCarrier l)) = 5 ∧ (s.gates[(if high then lineL l else lineH l)] = true) :=
  ⟨({ (((((State.reset.wr kFitted 1).modCarrier 0 fun c => { c with running := true, driving := true, started := true, mode := 2, span := 10000, zeroAt := 3200, lastZero := 3200, nextAt := 13200, v := { c.v with cmp := Vector.replicate 2 0x40000000, dead := Vector.replicate 2 100 } }).wr 0x203001 2).wr 0x200005 1).modLeg 0 fun g => { g with turnOn := some (true, 1700) }) with gates := Vector.replicate 72 true } : State), 0, true, 1700, by decide⟩

theorem witness_LegsSwitchWithDeadTime_8 :
    ∃ (s : State) (l : Leg) (st : Nat) (wb : Nat) , s.legs[l].refreshing = some (st, wb) ∧ s.rd (unitKey 0x302201 (l.val / 6) + l.val % 6) < 2 ^ 31 :=
  ⟨(((((State.reset.wr kFitted 1).modCarrier 0 fun c => { c with running := true, driving := true, started := true, mode := 2, span := 10000, zeroAt := 3200, lastZero := 3200, nextAt := 13200, v := { c.v with cmp := Vector.replicate 2 0x40000000, dead := Vector.replicate 2 100 } }).wr 0x203001 2).wr 0x200005 1).modLeg 0 fun g => { g with refreshing := some (1600, 800) }), 0, 1600, 800, by decide⟩

theorem witness_ConvertersRunTablesAndRequests_1 :
    ∃ (s : State) (a : Fin 4) (u : Nat) , s.dueAt (s.rd (kTable a 1)) (whoTable a) = some u ∧ s.tableOwner a = a ∧ s.adcEnabled a = true ∧ s.dev ≠ 5 ∧ s.rd (kTable a 3) ≠ 0 ∧ s.meas.adc[a].run = none ∧ (∀ x : Fin 4, x ∈ s.held a → s.meas.adc[x].test = none) :=
  ⟨({ ((State.reset.wr 0x400001 15).wr (kTable 1 1) 0).wr (kTable 1 3) 2 with signals := [⟨0, 5, []⟩] } : State), 1, 5, by decide⟩

theorem witness_ConvertersRunTablesAndRequests_2 :
    ∃ (s : State) (a : Fin 4) (u : Nat) , s.dueAt (s.rd (kTable a 1)) (whoTable a) = some u ∧ s.tableOwner a = a ∧ s.adcEnabled a = true ∧ s.dev ≠ 5 ∧ s.rd (kTable a 3) ≠ 0 ∧ s.meas.adc[a].run.isSome = true :=
  ⟨(({ ((State.reset.wr 0x400001 15).wr (kTable 1 1) 0).wr (kTable 1 3) 2 with signals := [⟨0, 5, []⟩] } : State).modAdc 1 fun c => { c with run := some ⟨1, 40, none, 0, 40, 0⟩ }), 1, 5, by decide⟩

theorem witness_ConvertersRunTablesAndRequests_3 :
    ∃ (s : State) (a : Fin 4) (q : UrgentReq) (h : Nat) , s.meas.adc[a].conv = none ∧ s.meas.adc[a].urgent = some (q, h) :=
  ⟨((State.reset.wr 0x400001 15).modAdc 2 fun c => { c with urgent := some (⟨2, 7, false, 8⟩, 30) }), 2, ⟨2, 7, false, 8⟩, 30, by decide⟩

theorem witness_ConvertersRunTablesAndRequests_4 :
    ∃ (s : State) (a : Fin 4) (x : Fin 4) (r : SeqSt) , s.meas.adc[a].conv = none ∧ s.meas.adc[a].urgent = none ∧ s.meas.adc[s.tableOwner a].run = some r ∧ (∀ y : Fin 4, y ∈ s.held a → s.meas.adc[y].conv = none ∧ s.meas.adc[y].urgent = none) ∧ x ∈ s.held a ∧ s.adcEnabled x = true ∧ s.rd (kChan (s.rd (kTable x (4 + r.entry))) 1) = x.val :=
  ⟨((State.reset.wr 0x400001 15).modAdc 0 fun c => { c with run := some ⟨1, 40, none, 0, 40, 0⟩ }), 0, 0, ⟨1, 40, none, 0, 40, 0⟩, by decide⟩

theorem witness_ConvertersRunTablesAndRequests_5 :
    ∃ (s : State) (a : Fin 4) (w : WireSt) , s.meas.adc[a].conv = none ∧ s.meas.adc[a].urgent = none ∧ s.meas.adc[s.tableOwner a].run = none ∧ s.meas.adc[a].test = some w ∧ w.settleAt = none :=
  ⟨((State.reset.wr 0x400001 15).modAdc 2 fun c => { c with test := some ⟨2, 0, true, none, false⟩ }), 2, ⟨2, 0, true, none, false⟩, by decide⟩

theorem witness_ConvertersRunTablesAndRequests_6 :
    ∃ (s : State) (a : Fin 4) (code : BitVec 16) (c : ConvSt) , s.meas.adc[a].conv = some c ∧ c.kind ≠ .reference :=
  ⟨((State.reset.wr 0x400001 15).modAdc 0 fun c => { c with conv := some ⟨3, 40, 64, 0, .urgent false⟩ }), 0, 0x1234, ⟨3, 40, 64, 0, .urgent false⟩, by decide⟩

theorem witness_ConvertersRunTablesAndRequests_7 :
    ∃ (s : State) (a : Fin 4) (code : BitVec 16) (c : ConvSt) (w : WireSt) , s.meas.adc[a].conv = some c ∧ c.kind = .reference ∧ s.meas.adc[a].test = some w :=
  ⟨((State.reset.wr 0x400001 15).modAdc 0 fun c => { c with conv := some ⟨3, 40, 64, 0, .reference⟩, test := some ⟨3, 0, true, none, false⟩ }), 0, 0x1234, ⟨3, 40, 64, 0, .reference⟩, ⟨3, 0, true, none, false⟩, by decide⟩

theorem witness_ConvertersRunTablesAndRequests_8 :
    ∃ (s : State) (ch : Byte) (a : Fin 4) , s.power.supervisor = true ∧ s.dev ≠ 0 ∧ ch.toNat < 26 ∧ s.rd (kChan ch.toNat 1) = a.val ∧ s.adcEnabled a = true ∧ s.meas.adc[a].queue.length < 8 ∧ ((s.meas.adc[a].queue.all fun x => x.ch != ch.toNat) = true) :=
  ⟨(((State.reset.modPower fun p => { p with supervisor := true }).wr kDevState 2).wr 0x400001 15), 1, 1, by decide⟩

theorem witness_ConvertersRunTablesAndRequests_9 :
    ∃ (s : State) (ch : Byte) (a : Fin 4) (q : UrgentReq) , s.power.supervisor = true ∧ s.dev ≠ 0 ∧ ch.toNat < 26 ∧ s.rd (kChan ch.toNat 1) = a.val ∧ s.adcEnabled a = true ∧ q ∈ s.meas.adc[a].queue ∧ q.ch = ch.toNat ∧ ((s.meas.adc[a].queue.all fun x => x.ch != ch.toNat || decide (x.rank ≤ 2)) = true) :=
  ⟨((((State.reset.modPower fun p => { p with supervisor := true }).wr kDevState 2).wr 0x400001 15).modAdc 1 fun c => { c with queue := [⟨2, 1, false, 0⟩] }), 1, 1, ⟨2, 1, false, 0⟩, by decide⟩

theorem witness_ConvertersRunTablesAndRequests_10 :
    ∃ (s : State) (ch : Byte) (a : Fin 4) , s.power.supervisor = true ∧ s.dev ≠ 0 ∧ ch.toNat < 26 ∧ s.rd (kChan ch.toNat 1) = a.val ∧ s.adcEnabled a = true ∧ 8 ≤ s.meas.adc[a].queue.length ∧ ((s.meas.adc[a].queue.all fun x => x.ch != ch.toNat) = true) :=
  ⟨((((State.reset.modPower fun p => { p with supervisor := true }).wr kDevState 2).wr 0x400001 15).modAdc 1 fun c => { c with queue := List.replicate 8 ⟨2, 5, false, 0⟩ }), 1, 1, by decide⟩

theorem witness_ConvertersRunTablesAndRequests_11 :
    ∃ (s : State) (a : Fin 4) (q : UrgentReq) (qs : List UrgentReq) , s.meas.adc[a].urgent = none ∧ s.meas.adc[a].conv = none ∧ s.meas.adc[a].queue = q :: qs :=
  ⟨((State.reset.wr 0x400001 15).modAdc 2 fun c => { c with queue := [⟨2, 7, false, 0⟩] }), 2, ⟨2, 7, false, 0⟩, [], by decide⟩

theorem witness_ConvertersRunTablesAndRequests_12 :
    ∃ (s : State) (a : Fin 4) (q : UrgentReq) (qs : List UrgentReq) (c : ConvSt) (late : Bool) (last : Bool) , s.meas.adc[a].urgent = none ∧ s.meas.adc[a].conv = some c ∧ c.kind = .entry late last ∧ s.meas.adc[a].queue = q :: qs ∧ a ∈ s.held a :=
  ⟨((State.reset.wr 0x400001 15).modAdc 2 fun c => { c with queue := [⟨2, 7, false, 9⟩], conv := some ⟨2, 5, 0, 0, .entry false false⟩ }), 2, ⟨2, 7, false, 9⟩, [], ⟨2, 5, 0, 0, .entry false false⟩, false, false, by decide⟩

theorem witness_ConvertersRunTablesAndRequests_13 :
    ∃ (s : State) (mask : BitVec 32) (ch : Fin 17) , s.power.supervisor = true ∧ (s.dev = 2 ∨ s.dev = 6) ∧ s.rd 0x450008 = 0 ∧ bit mask.toNat ch.val = true ∧ s.rd (kChan ch.val 1) < 4 :=
  ⟨((State.reset.modPower fun p => { p with supervisor := true }).wr kDevState 2), 3, 1, by decide⟩

theorem witness_ConvertersRunTablesAndRequests_14 :
    ∃ (s : State) (a : Fin 4) (code : BitVec 16) (w : WireSt) (d : Nat) , s.meas.adc[a].test = some w ∧ w.settleAt = some d ∧ ¬ (w.up = true ∧ s.rd 0x450003 = 2) :=
  ⟨(((State.reset.wr 0x400001 15).wr 0x450003 1).modAdc 2 fun c => { c with test := some ⟨2, 100, true, some 9, false⟩ }), 2, 0x7000, ⟨2, 100, true, some 9, false⟩, 9, by decide⟩

theorem witness_ConvertersRunTablesAndRequests_15 :
    ∃ (s : State) (a : Fin 4) (code : BitVec 16) (w : WireSt) (d : Nat) , s.meas.adc[a].test = some w ∧ w.settleAt = some d ∧ w.up = true ∧ s.rd 0x450003 = 2 :=
  ⟨(((State.reset.wr 0x400001 15).wr 0x450003 2).modAdc 2 fun c => { c with test := some ⟨2, 100, true, some 9, false⟩ }), 2, 0x7000, ⟨2, 100, true, some 9, false⟩, 9, by decide⟩

theorem witness_ComparatorsAndBitstreams_1 :
    ∃ (s : State) (ch : Fin 7) (high : Bool) (level : BitVec 32) , s.rd (kChan ch 5) = 1 ∧ s.winTrip[winIndex ch high] = false ∧ s.winTrips ch high level.toNat = true ∧ (ch.val = 6 ∨ s.fitted ch.val = true) :=
  ⟨((State.reset.wr kFitted 1).wr (kChan 0 5) 1), 0, true, 0xFFFFFFFF, by decide⟩

theorem witness_ComparatorsAndBitstreams_2 :
    ∃ (s : State) (ch : Fin 7) (high : Bool) (level : BitVec 32) , s.rd (kChan ch 5) = 1 ∧ s.winTrip[winIndex ch high] = false ∧ s.winTrips ch high level.toNat = true ∧ ch.val < 6 ∧ s.fitted ch.val = false :=
  ⟨(State.reset.wr (kChan 0 5) 1), 0, true, 0xFFFFFFFF, by decide⟩

theorem witness_ComparatorsAndBitstreams_3 :
    ∃ (s : State) (ch : Fin 7) (high : Bool) (level : BitVec 32) , (if high then level.toNat ≤ dacLevel (s.rd (kChan ch 6)) else dacLevel (s.rd (kChan ch 7)) ≤ level.toNat) :=
  ⟨((State.reset.wr kFitted 1).wr (kChan 0 5) 1), 0, true, 9, by decide⟩

theorem witness_ComparatorsAndBitstreams_4 :
    ∃ (s : State) (ch : Fin 7) (high : Bool) (level : BitVec 32) , s.winReleases ch high level.toNat = true ∧ s.winTrip[winIndex ch high] = true ∧ (ch.val = 6 ∨ s.fitted ch.val = true) :=
  ⟨(({ ((State.reset.wr kFitted 1).wr (kChan 0 6) 0x8000) with winTrip := State.reset.winTrip.set 1 true } : State)), 0, true, 0, by decide⟩

theorem witness_ComparatorsAndBitstreams_5 :
    ∃ (s : State) (ch : Fin 7) (high : Bool) (level : BitVec 32) , (if high then dacLevel (s.rd (kChan ch 6) - s.rd (kChan ch 8)) ≤ level.toNat else level.toNat ≤ dacLevel (s.rd (kChan ch 7) + s.rd (kChan ch 8))) :=
  ⟨((State.reset.wr kFitted 1).wr (kChan 0 5) 1), 0, true, 0xFFFFFFFF, by decide⟩

theorem witness_ComparatorsAndBitstreams_6 :
    ∃ (s : State) (n : Fin 18) (bits : List Bool) (start : BitVec 64) (stop : BitVec 64) (m : Nat) (last : Nat) (centre : Nat) , m = s.rd (kStream n 2) ∧ s.streamRuns n = true ∧ s.bitAt (kStream n 0x0C) 0 = false ∧ bits.length + 2 = 3 * m ∧ s.windowOf n start.toNat stop.toNat = some (last, centre) :=
  ⟨((((((State.reset.wr kDevState 4).wr (kStream 0 1) 1).wr (kStream 0 2) 8).wr (kStream 0 4) 0).wr kFitted 1).restartDsck 0), 0, List.replicate 22 true, 0, 0, 8, (((((((State.reset.wr kDevState 4).wr (kStream 0 1) 1).wr (kStream 0 2) 8).wr (kStream 0 4) 0).wr kFitted 1).restartDsck 0).windowOf 0 0 0).get!.1, (((((((State.reset.wr kDevState 4).wr (kStream 0 1) 1).wr (kStream 0 2) 8).wr (kStream 0 4) 0).wr kFitted 1).restartDsck 0).windowOf 0 0 0).get!.2, by decide⟩

theorem witness_ComparatorsAndBitstreams_7 :
    ∃ (s : State) (n : Fin 18) (u : Nat) , (s.dueAt (s.rd (kStream n 5)) (whoAlign n)).or (s.dueAt (s.rd (kStream n 6)) (whoAlign n)) = some u ∧ s.streamRuns n = true ∧ s.rd (kStream n 4) ≠ 0 ∧ s.bitAt (kStream n 0x0C) 0 = false :=
  ⟨({ (((((((State.reset.wr kDevState 4).wr (kStream 0 1) 1).wr (kStream 0 2) 8).wr (kStream 0 4) 0).wr kFitted 1).restartDsck 0).wr (kStream 0 4) 1).wr (kStream 0 5) 0x205 with signals := [⟨0x205, 7, []⟩] } : State), 0, 7, by decide⟩

theorem witness_ComparatorsAndBitstreams_8 :
    ∃ (s : State) (n : Fin 18) (bits : List Bool) , s.fastRuns n bits = true ∧ ((s.fastLevels n bits).1 = true ∨ (s.fastLevels n bits).2 = true) :=
  ⟨(((((((((State.reset.wr kDevState 4).wr (kStream 0 1) 1).wr (kStream 0 2) 8).wr (kStream 0 4) 0).wr kFitted 1).restartDsck 0).wr (kStream 0 9) 1).wr (kStream 0 3) 4).wr (kStream 0 0x0A) 100).advance 400, 0, List.replicate 7 true, by decide⟩

theorem witness_ComparatorsAndBitstreams_9 :
    ∃ (s : State) (n : Fin 18) (bits : List Bool) , s.fastRuns n bits = true ∧ s.fastActive n = true ∧ (s.fastLevels n bits).1 = false ∧ (s.fastLevels n bits).2 = false :=
  ⟨(((((((((((State.reset.wr kDevState 4).wr (kStream 0 1) 1).wr (kStream 0 2) 8).wr (kStream 0 4) 0).wr kFitted 1).restartDsck 0).wr (kStream 0 9) 1).wr (kStream 0 3) 4).wr (kStream 0 0x0A) 0x7FFF).wr (kStream 0 0x0B) 0x8000).wr (kStream 0 0x0C) 2).advance 400, 0, [true, false, true, false, true, false, true], by decide⟩

theorem witness_ComparatorsAndBitstreams_10 :
    ∃ (s : State) (n : Fin 18) (bits : List (Option Bool)) , s.streamRuns n = true ∧ s.bitAt (kStream n 0x0C) 0 = false ∧ faultyBits (s.manchester (n.val / 3)) bits = true :=
  ⟨((((((State.reset.wr kDevState 4).wr (kStream 0 1) 1).wr (kStream 0 2) 8).wr (kStream 0 4) 0).wr kFitted 1).restartDsck 0), 0, List.replicate 64 (some true), by decide⟩

theorem witness_ComparatorsAndBitstreams_11 :
    ∃ (s : State) (n : Fin 18) (bits : List (Option Bool)) , s.streamRuns n = true ∧ s.bitAt (kStream n 0x0C) 0 = true ∧ bits.length = 319 ∧ (((List.range 256).all fun i => !faultyBits (s.manchester (n.val / 3)) ((bits.drop i).take 64)) = true) :=
  ⟨(((((((State.reset.wr kDevState 4).wr (kStream 0 1) 1).wr (kStream 0 2) 8).wr (kStream 0 4) 0).wr kFitted 1).restartDsck 0).wr (kStream 0 0x0C) 1), 0, (List.range 319).map fun i => some (i % 2 == 0), by decide⟩

theorem witness_DriverInputsAndResultReads_1 :
    ∃ (s : State) (d : Fin 18) (period : BitVec 32) (high : BitVec 32) , s.telemetry d = true ∧ s.meas.driver[d].since + period.toNat < s.tick ∧ 29762 ≤ period.toNat ∧ period.toNat ≤ 657895 ∧ 8 * period.toNat ≤ 100 * high.toNat ∧ 100 * high.toNat ≤ 92 * period.toNat :=
  ⟨((State.reset.wr kFitted 1).wr 0x460001 1).advance 100000, 0, 62500, 31250, by decide⟩

theorem witness_DriverInputsAndResultReads_2 :
    ∃ (s : State) (d : Fin 18) (low : BitVec 32) (c : Cell) (i : Bridge) (b : Bridge) , d.val = 3 * c.val + i.val ∧ s.fitted c = true ∧ s.inReset = false ∧ bit (s.actsOn c i) b.val = true ∧ s.rd (0x460001 + d.val) ≠ 1 ∧ 80 ≤ low.toNat :=
  ⟨((State.reset.wr kFitted 1).wr 0x460002 2), 1, 80, 0, 1, 1, by decide⟩

theorem witness_DriverInputsAndResultReads_3 :
    ∃ (s : State) (d : Fin 18) (low : BitVec 32) (c : Cell) (i : Bridge) (b : Bridge) , d.val = 3 * c.val + i.val ∧ s.fitted c = true ∧ s.inReset = false ∧ bit (s.actsOn c i) b.val = true ∧ s.rd (0x460001 + d.val) = 1 ∧ 16 * (9 * s.meas.driver[d].period + 12500) ≤ 10 * min low.toNat ((s.tick - s.meas.driver[d].since) * 16) :=
  ⟨(((State.reset.wr kFitted 1).wr 0x460001 1).wr 0x460002 1).advance 700000, 1, 20000000, 0, 1, 1, by decide⟩

theorem witness_DriverInputsAndResultReads_4 :
    ∃ (s : State) (d : Fin 18) (low : BitVec 32) , (s.fitted (d.val / 3) = false ∨ s.inReset = true ∨ (s.rd (0x460001 + d.val) ≠ 1 ∧ low.toNat ≤ 30) ∨ (s.rd (0x460001 + d.val) = 1 ∧ 10 * low.toNat < 16 * (9 * s.meas.driver[d].period + 12500))) :=
  ⟨State.reset, 1, 80, by decide⟩

theorem witness_DriverInputsAndResultReads_5 :
    ∃ (s : State) (d : Fin 18) (c : Cell) (i : Bridge) , d.val = 3 * c.val + i.val ∧ s.bitAt 0x46004A d = true :=
  ⟨(((State.reset.wr kFitted 1).wr 0x460001 1).wr 0x46004A 2), 1, 0, 1, by decide⟩

theorem witness_DriverInputsAndResultReads_6 :
    ∃ (s : State) (d : Fin 18) , s.bitAt 0x46004A d = false :=
  ⟨State.reset, 1, by decide⟩

theorem witness_DriverInputsAndResultReads_7 :
    ∃ (s : State) (d : Fin 18) (high : BitVec 32) , s.telemetry d = true ∧ ((657895 ≤ high.toNat ∧ s.meas.driver[d].since + 657895 ≤ s.tick) ∨ s.meas.driver[d].validAt + msTicks 4 ≤ s.tick) :=
  ⟨((State.reset.wr kFitted 1).wr 0x460001 1).advance 3000000, 0, 657895, by decide⟩

theorem witness_DriverInputsAndResultReads_8 :
    ∃ (s : State) (stream : Bool) (n : Byte) (valueOnly : Bool) (k : Nat) , s.power.supervisor = true ∧ s.dev ≠ 0 ∧ (n.toNat < (if stream then 18 else 26)) ∧ (k = if stream then kMain n.toNat else kSar n.toNat) :=
  ⟨((State.reset.modPower fun p => { p with supervisor := true }).wr kDevState 2), false, 3, true, kSar 3, by decide⟩

theorem witness_EnginesRunMissAndCommit_1 :
    ∃ (s : State) (e : Engine) (k : Task) (g : Nat) , s.dueAt (routed e (s.rd (unitKey 0x500301 e + k))) (whoTask e k) = some g ∧ s.accepts e = true ∧ s.engines[e].tasks[k].run = none ∧ within s.engines[e].tasks[k].lastTrig g 2500 = false :=
  ⟨({ ((((((State.reset.modPower fun p => { p with supervisor := true }).wr kDevState 4).wr kFitted 1).wr (kCellState 0) 2).wr 0x500001 1).wr (unitKey 0x500301 0) 4).wr (unitKey 0x500101 0) 1000 with signals := [⟨4, 20, []⟩] } : State), 0, 0, 20, by decide⟩

theorem witness_EnginesRunMissAndCommit_2 :
    ∃ (s : State) (e : Engine) (k : Task) (g : Nat) , s.dueAt (routed e (s.rd (unitKey 0x500301 e + k))) (whoTask e k) = some g ∧ s.accepts e = true ∧ (s.engines[e].tasks[k].run.isSome = true ∨ within s.engines[e].tasks[k].lastTrig g 2500 = true) :=
  ⟨(({ ((((((State.reset.modPower fun p => { p with supervisor := true }).wr kDevState 4).wr kFitted 1).wr (kCellState 0) 2).wr 0x500001 1).wr (unitKey 0x500301 0) 4).wr (unitKey 0x500101 0) 1000 with signals := [⟨4, 20, []⟩] } : State).modTask 0 0 fun q => { q with lastTrig := some 1 }), 0, 0, 20, by decide⟩

theorem witness_EnginesRunMissAndCommit_3 :
    ∃ (s : State) (e : Engine) (k : Task) (r : RunSt) , s.engines[e].tasks[k].run = some r ∧ s.tick ≤ r.deadline ∧ r.mayEnd s.tick = true ∧ RunForm r :=
  ⟨((((((State.reset.modPower fun p => { p with supervisor := true }).wr kDevState 4).wr kFitted 1).wr (kCellState 0) 2).wr 0x500001 1).modTask 0 0 fun q => { q with run := some ⟨10, 5000, [], [⟨0, 0x3F800000, 0, 0, 0, 0, 0, 0, 0⟩], false, true, some 10, 0, [], 30, [], 0, false⟩ }).advance 40, 0, 0, ⟨10, 5000, [], [⟨0, 0x3F800000, 0, 0, 0, 0, 0, 0, 0⟩], false, true, some 10, 0, [], 30, [], 0, false⟩, by decide⟩

theorem witness_EnginesRunMissAndCommit_4 :
    ∃ (s : State) (e : Engine) (k : Task) (r : RunSt) , s.engines[e].tasks[k].run = some r ∧ r.sure = false :=
  ⟨((((((State.reset.modPower fun p => { p with supervisor := true }).wr kDevState 4).wr kFitted 1).wr (kCellState 0) 2).wr 0x500001 1).modTask 0 0 fun q => { q with run := some ⟨10, 40, [], [⟨0, 0x3F800000, 0, 0, 0, 0, 0, 0, 0⟩], false, true, some 10, 0, [], 30, [], 0, false⟩ }), 0, 0, ⟨10, 40, [], [⟨0, 0x3F800000, 0, 0, 0, 0, 0, 0, 0⟩], false, true, some 10, 0, [], 30, [], 0, false⟩, by decide⟩

theorem witness_EnginesRunMissAndCommit_5 :
    ∃ (s : State) (e : Engine) (k : Task) (r : RunSt) (d : Nat) , s.engines[e].tasks[k].run = some r ∧ r.lastTick = some d ∧ d ≤ r.deadline ∧ RunForm r :=
  ⟨((((((State.reset.modPower fun p => { p with supervisor := true }).wr kDevState 4).wr kFitted 1).wr (kCellState 0) 2).wr 0x500001 1).modTask 0 0 fun q => { q with run := some ⟨10, 5000, [], [⟨0, 0x3F800000, 0, 0, 0, 0, 0, 0, 0⟩], false, true, some 10, 0, [], 30, [], 0, false⟩ }), 0, 0, ⟨10, 5000, [], [⟨0, 0x3F800000, 0, 0, 0, 0, 0, 0, 0⟩], false, true, some 10, 0, [], 30, [], 0, false⟩, 43, by decide⟩

theorem witness_EnginesRunMissAndCommit_6 :
    ∃ (s : State) (e : Engine) (v : Byte) , s.power.supervisor = true ∧ (s.dev = 2 ∨ s.dev = 6) ∧ v = 1 :=
  ⟨((State.reset.modPower fun p => { p with supervisor := true }).wr kDevState 2).wr 0x500001 1, 0, 1, by decide⟩

theorem witness_EnginesRunMissAndCommit_7 :
    ∃ (s : State) (e : Engine) (mask : Byte) , s.power.supervisor = true ∧ s.dev ≠ 0 :=
  ⟨(((State.reset.modPower fun p => { p with supervisor := true }).wr kDevState 2).wr (kLoop 0 4) 9), 0, 2, by decide⟩

theorem witness_ProfilesStepAndModesChange_1 :
    ∃ (s : State) (e : Engine) (g : Nat) , s.dueAt (routed e (s.rd (unitKey 0x600401 e))) (whoSteps e) = some g ∧ s.accepts e = true ∧ s.engines[e].step = none ∧ within s.engines[e].lastStep g 2500 = false :=
  ⟨({ ((((((((State.reset.modPower fun p => { p with supervisor := true }).wr kDevState 4).wr kFitted 1).wr (kCellState 0) 2).wr 0x500001 1).wr 0x600401 4).wr (kProf 0 1 1) 1).modEngine 0 fun g => { g with stepping := true }).wr (kProf 0 1 3) 0x40000000 with signals := [⟨4, 20, []⟩] } : State), 0, 20, by decide⟩

theorem witness_ProfilesStepAndModesChange_2 :
    ∃ (s : State) (e : Engine) (g : Nat) , s.dueAt (routed e (s.rd (unitKey 0x600401 e))) (whoSteps e) = some g ∧ s.accepts e = true ∧ s.engines[e].step = none ∧ within s.engines[e].lastStep g 2500 = true :=
  ⟨(({ ((((((((State.reset.modPower fun p => { p with supervisor := true }).wr kDevState 4).wr kFitted 1).wr (kCellState 0) 2).wr 0x500001 1).wr 0x600401 4).wr (kProf 0 1 1) 1).modEngine 0 fun g => { g with stepping := true }).wr (kProf 0 1 3) 0x40000000 with signals := [⟨4, 20, []⟩] } : State).modEngine 0 fun q => { q with lastStep := some 2 }), 0, 20, by decide⟩

theorem witness_ProfilesStepAndModesChange_3 :
    ∃ (s : State) (e : Engine) (n : Fin 4) (v : Byte) , s.power.supervisor = true ∧ s.dev ≠ 0 ∧ v = 1 :=
  ⟨((State.reset.modPower fun p => { p with supervisor := true }).wr kDevState 2), 0, 1, 1, by decide⟩

theorem witness_ProfilesStepAndModesChange_4 :
    ∃ (s : State) (e : Engine) (n : Fin 4) (vMax : F32) (aMax : F32) (jMax : F32) (tol : F32) , s.power.supervisor = true ∧ s.dev ≠ 0 ∧ limitOk vMax.toNat = true ∧ limitOk aMax.toNat = true ∧ limitOk jMax.toNat = true ∧ tolOk tol.toNat = true :=
  ⟨((State.reset.modPower fun p => { p with supervisor := true }).wr kDevState 2), 0, 1, 0x3F800000, 0x3F800000, 0x40000000, 0, by decide⟩

theorem witness_ProfilesStepAndModesChange_5 :
    ∃ (s : State) (c : Cell) (v : Byte) , s.power.supervisor = true ∧ s.dev ≠ 0 ∧ 2 ≤ v.toNat ∧ v.toNat ≤ 3 :=
  ⟨((State.reset.modPower fun p => { p with supervisor := true }).wr kDevState 2), 0, 3, by decide⟩

theorem witness_ProfilesStepAndModesChange_6 :
    ∃ (s : State) (c : Cell) (v : Byte) (b : Fin 32) (e : Engine) , s.power.supervisor = true ∧ s.dev ≠ 0 ∧ 2 ≤ v.toNat ∧ v.toNat ≤ 3 ∧ e.val = c.val ∧ s.rd (unitKey 0x601002 c) = b.val ∧ s.bType e b = 1 ∧ s.rd (unitKey 0x601001 c) ≠ v.toNat :=
  ⟨(((((State.reset.modPower fun p => { p with supervisor := true }).wr kDevState 2).wr (unitKey 0x601002 0) 3).wr (unitKey 0x500001 0 + 3) 1).wr (unitKey 0x601001 0) 2), 0, 3, 3, 0, by decide⟩

theorem witness_StringFramesAreAssembledIssuedAndAccepted_1 :
    ∃ (s : State) , s.manager = true ∧ s.dev ≠ 0 ∧ s.dev ≠ 1 ∧ s.dev ≠ 5 ∧ s.string.assembled = none :=
  ⟨(((State.reset.modPower fun p => { p with supervisor := true }).wr kDevState 2).wr kRole 1), by decide⟩

theorem witness_StringFramesAreAssembledIssuedAndAccepted_2 :
    ∃ (s : State) (b : Bytes) , s.manager = true ∧ s.dev ≠ 0 ∧ s.dev ≠ 1 ∧ s.dev ≠ 5 ∧ s.string.assembled = some b :=
  ⟨(((((State.reset.modPower fun p => { p with supervisor := true }).wr kDevState 2).wr kRole 1).wr (kLane 1 1) 4).modString fun g => { g with assembled := some [0, 1] }), [0, 1], by decide⟩

theorem witness_StringFramesAreAssembledIssuedAndAccepted_3 :
    ∃ (s : State) , (s.manager = false ∨ s.dev = 0 ∨ s.dev = 1 ∨ s.dev = 5) :=
  ⟨(State.reset.modString fun g => { g with assembled := some [0, 1] }), by decide⟩

theorem witness_StringFramesAreAssembledIssuedAndAccepted_4 :
    ∃ (s : State) (f : Frame) , s.laneUp (inLane f) = true ∧ s.manager = false ∧ s.stringRx.seq ≠ some f.seq.toNat ∧ s.holder = f.path.val :=
  ⟨((((State.reset.modPower fun p => { p with supervisor := true }).wr kDevState 4).wr 0xB02001 0).wr (kLane (inLane (⟨1, 0, false, false, true, false, 0, 255, 7, [0, 1]⟩ : Frame)) 1) 4), ⟨1, 0, false, false, true, false, 0, 255, 7, [0, 1]⟩, by decide⟩

theorem witness_StringFramesAreAssembledIssuedAndAccepted_5 :
    ∃ (s : State) (f : Frame) , s.laneUp (inLane f) = true ∧ s.manager = false ∧ s.stringRx.seq ≠ some f.seq.toNat ∧ s.holder = 0xFF ∧ f.lease = true ∧ s.pselLow = false ∧ s.laneUp (uLane f.path) = true :=
  ⟨((((((State.reset.modPower fun p => { p with supervisor := true }).wr kDevState 4).wr 0xB02001 0xFF).wr (kLane 0 1) 4).wr 0xB02003 0).wr (kLane (inLane (⟨1, 0, false, false, true, false, 0, 255, 7, [0, 1]⟩ : Frame)) 1) 4), ⟨1, 0, false, false, true, false, 0, 255, 7, [0, 1]⟩, by decide⟩

theorem witness_StringFramesAreAssembledIssuedAndAccepted_6 :
    ∃ (s : State) (f : Frame) , s.laneUp (inLane f) = true ∧ s.manager = false ∧ s.stringRx.seq = some f.seq.toNat ∧ s.lease.takenAt ≠ some s.tick :=
  ⟨(({ (((State.reset.modPower fun p => { p with supervisor := true }).wr kDevState 4).wr 0xB02001 0) with stringRx := { State.reset.stringRx with seq := some 7 } } : State).wr (kLane (inLane (⟨1, 0, false, false, true, false, 0, 255, 7, [0, 1]⟩ : Frame)) 1) 4), ⟨1, 0, false, false, true, false, 0, 255, 7, [0, 1]⟩, by decide⟩

theorem witness_StringFramesAreAssembledIssuedAndAccepted_7 :
    ∃ (s : State) (f : Frame) , s.laneUp (inLane f) = false :=
  ⟨(State.reset.wr 0xB02001 0), ⟨1, 0, false, false, true, false, 0, 255, 7, [0, 1]⟩, by decide⟩

theorem witness_StringFramesAreAssembledIssuedAndAccepted_8 :
    ∃ (s : State) (f : Frame) (p : Fin 32) , s.laneUp (inLane f) = true ∧ s.manager = true ∧ f.src.toNat = p.val :=
  ⟨((((State.reset.modPower fun p => { p with supervisor := true }).wr kDevState 2).wr kRole 1).wr (kLane (inLane (⟨2, 0, true, false, true, false, 3, 0, 7, List.replicate 56 1⟩ : Frame)) 1) 4), ⟨2, 0, true, false, true, false, 3, 0, 7, List.replicate 56 1⟩, 3, by decide⟩

theorem witness_MoltStepsAndTheStopTimeout_1 :
    ∃ (s : State) (g : Fin 3) (m : MapCell) , s.power.supervisor = true ∧ s.manager = true ∧ s.dev = 4 ∧ (((s.cellsOf g).find? fun x => x.pos == s.rd (unitKey 0x800302 g)) = some m) ∧ m.active = true ∧ (s.repOf m).state = 2 ∧ s.string.molt[g] = none ∧ s.rd (unitKey 0x800301 g) + 1 ≤ (s.activeOf g).length :=
  ⟨((((((State.reset.modPower fun p => { p with supervisor := true }).wr kDevState 4).wr kRole 1).wr 0x800302 5).wr 0x800301 0).modString fun g => { g with map := [⟨2, 1, 0, 5, true, 0, 0, 0, false⟩], contrib := g.contrib.set 2 (some ({ Contrib.none with dev := 4, cells := Vector.replicate 6 ⟨0, 2, 0, 0⟩ } : Contrib)) }), 0, ⟨2, 1, 0, 5, true, 0, 0, 0, false⟩, by decide⟩

theorem witness_MoltStepsAndTheStopTimeout_2 :
    ∃ (s : State) (g : Fin 3) (m : MapCell) , s.power.supervisor = true ∧ s.manager = true ∧ s.dev = 4 ∧ (((s.cellsOf g).find? fun x => x.pos == s.rd (unitKey 0x800302 g)) = some m) ∧ (s.contribOf m.dev).dev = 4 ∧ (s.repOf m).state = 4 ∧ s.string.molt[g] = none :=
  ⟨((((((State.reset.modPower fun p => { p with supervisor := true }).wr kDevState 4).wr kRole 1).wr 0x800302 5).wr 0x800301 0).modString fun g => { g with map := [⟨2, 1, 0, 5, true, 0, 0, 0, false⟩], contrib := g.contrib.set 2 (some ({ Contrib.none with dev := 4, cells := Vector.replicate 6 ⟨0, 4, 0, 0⟩ } : Contrib)) }), 0, ⟨2, 1, 0, 5, true, 0, 0, 0, false⟩, by decide⟩

theorem witness_MoltStepsAndTheStopTimeout_3 :
    ∃ (s : State) (g : Fin 3) (n : Nat) , s.power.supervisor = true ∧ s.manager = true ∧ s.dev ≠ 0 ∧ ((if s.dev ≠ 4 then some 1 else match ((s.cellsOf g).find? fun x => x.pos == s.rd (unitKey 0x800302 g)) with
        | none => some 5
        | some m => if s.string.molt[g].isSome then some 4 else if ¬ (m.active = true ∧ (s.repOf m).state = 2) then some 2 else if (s.activeOf g).length < 1 + s.rd (unitKey 0x800301 g) then some 3 else none) = some n) :=
  ⟨((State.reset.modPower fun p => { p with supervisor := true }).wr kDevState 2).wr kRole 1, 0, 1, by decide⟩

theorem witness_MoltStepsAndTheStopTimeout_4 :
    ∃ (s : State) (g : Fin 3) (n : Nat) , s.power.supervisor = true ∧ s.manager = true ∧ s.dev ≠ 0 ∧ ((if s.dev ≠ 4 then some 1 else match ((s.cellsOf g).find? fun x => x.pos == s.rd (unitKey 0x800302 g)) with
        | none => some 5
        | some m => if (s.contribOf m.dev).dev ≠ 4 then some 1 else if s.string.molt[g].isSome then some 4 else if (s.repOf m).state ≠ 4 then some 2 else none) = some n) :=
  ⟨((((((State.reset.modPower fun p => { p with supervisor := true }).wr kDevState 4).wr kRole 1).wr 0x800302 5).wr 0x800301 0).modString fun g => { g with map := [⟨2, 1, 0, 5, true, 0, 0, 0, false⟩], contrib := g.contrib.set 2 (some ({ Contrib.none with dev := 4, cells := Vector.replicate 6 ⟨0, 2, 0, 0⟩ } : Contrib)) }), 0, 2, by decide⟩

theorem witness_MoltStepsAndTheStopTimeout_5 :
    ∃ (s : State) (g : Fin 3) (x : MoltSt) (d : Nat) , s.string.molt[g] = some x ∧ x.limit = some d :=
  ⟨(((((State.reset.modPower fun p => { p with supervisor := true }).wr kDevState 4).wr kRole 1).wr 0x800302 5).modString fun g => { g with molt := g.molt.set 0 (some ⟨2, 1, true, 0, true, true, 0, some 50, false, false, none⟩) }), 0, ⟨2, 1, true, 0, true, true, 0, some 50, false, false, none⟩, 50, by decide⟩

theorem witness_MoltStepsAndTheStopTimeout_6 :
    ∃ (s : State) (d : Nat) , s.power.stopAt = some d ∧ (s.dev = 3 ∨ s.dev = 4) :=
  ⟨(((State.reset.modPower fun p => { p with supervisor := true }).wr kDevState 4).modPower fun p => { p with stopAt := some 70 }), 70, by decide⟩

theorem witness_ThermalSamplesTripsAndRearming_1 :
    ∃ (s : State) (n : Fin 28) (d : Nat) , sensorKind n = 1 ∧ s.thermal.sensor[n].due = some d ∧ s.samples n = true :=
  ⟨((((((State.reset.modPower fun p => { p with supervisor := true }).wr kDevState 2).wr kFitted 1).wr 0x460001 1).modDriver 0 fun m => { m with everValid := true }).modSensor 4 fun x => { x with due := some 70 }), 4, 70, by decide⟩

theorem witness_ThermalSamplesTripsAndRearming_2 :
    ∃ (s : State) (n : Fin 28) (d : Nat) (a : Fin 4) , sensorKind n ≠ 1 ∧ s.thermal.sensor[n].due = some d ∧ s.samples n = true ∧ s.rd (kChan (sensorChannel n) 1) = a.val ∧ s.adcEnabled a = true ∧ s.meas.adc[a].queue.length < 8 :=
  ⟨(((((State.reset.modPower fun p => { p with supervisor := true }).wr kDevState 2).wr kFitted 1).wr 0x400001 15).modSensor 0 fun x => { x with due := some 70 }), 0, 70, 3, by decide⟩

theorem witness_ThermalSamplesTripsAndRearming_3 :
    ∃ (s : State) (n : Fin 28) (d : Nat) (a : Fin 4) , sensorKind n ≠ 1 ∧ s.thermal.sensor[n].due = some d ∧ s.samples n = true ∧ s.rd (kChan (sensorChannel n) 1) = a.val ∧ (s.adcEnabled a = false ∨ (8 ≤ s.meas.adc[a].queue.length ∧ (s.meas.adc[a].queue.all fun x => x.ch != sensorChannel n) = true)) :=
  ⟨(((((State.reset.modPower fun p => { p with supervisor := true }).wr kDevState 2).wr kFitted 1).wr 0x400001 0).modSensor 0 fun x => { x with due := some 70 }), 0, 70, 3, by decide⟩

theorem witness_ThermalSamplesTripsAndRearming_4 :
    ∃ (s : State) (n : Fin 28) (d : Nat) , s.thermal.sensor[n].due = some d ∧ s.samples n = false :=
  ⟨(State.reset.modSensor 0 fun x => { x with due := some 70 }), 0, 70, by decide⟩

theorem witness_ThermalSamplesTripsAndRearming_5 :
    ∃ (s : State) (n : Fin 28) (v : Nat) (e : Nat) , s.thermal.sensor[n].value = some v ∧ s.measured n v = some e ∧ (s.crossCheck n e).broken n = false ∧ fmt32.le (s.tTrip n) e = false :=
  ⟨((((State.reset.modPower fun p => { p with supervisor := true }).wr kDevState 2).wr kFitted 1).modSensor 4 fun x => { x with waiting := true, value := some 0x41200000 }), 4, 0x41200000, 0x41200000, by decide⟩

theorem witness_ThermalSamplesTripsAndRearming_6 :
    ∃ (s : State) (n : Fin 28) (v : Nat) , s.thermal.sensor[n].value = some v ∧ s.measured n v = none ∧ s.broken n = false :=
  ⟨((((State.reset.modPower fun p => { p with supervisor := true }).wr kDevState 2).wr kFitted 1).modSensor 0 fun x => { x with waiting := true, value := some 0 }), 0, 0, by decide⟩

theorem witness_ThermalSamplesTripsAndRearming_7 :
    ∃ (s : State) (n : Fin 28) (v : Nat) (e : Nat) , s.thermal.sensor[n].value = some v ∧ s.measured n v = some e ∧ (s.crossCheck n e).broken n = false ∧ fmt32.le (s.tTrip n) e = true ∧ 2 ≤ s.thermal.sensor[n].trips :=
  ⟨((((State.reset.modPower fun p => { p with supervisor := true }).wr kDevState 2).wr kFitted 1).modSensor 4 fun x => { x with waiting := true, value := some 0x45000000, trips := 2 }), 4, 0x45000000, 0x45000000, by decide⟩

theorem witness_ThermalSamplesTripsAndRearming_8 :
    ∃ (s : State) (n : Fin 28) , s.thermal.sensor[n].value = none ∧ s.thermal.sensor[n].waiting = true ∧ s.samplePending n = false :=
  ⟨((((State.reset.modPower fun p => { p with supervisor := true }).wr kDevState 2).wr kFitted 1).modSensor 0 fun x => { x with waiting := true }), 0, by decide⟩

theorem witness_ThermalSamplesTripsAndRearming_9 :
    ∃ (s : State) (g : Fin 7) (ok : Bool) , s.thermal.lockouts[g].writing = true :=
  ⟨((((State.reset.modPower fun p => { p with supervisor := true }).wr kDevState 2).wr kFitted 1).modLockout 1 fun _ => ⟨[1, 2], true, false⟩), 1, true, by decide⟩

theorem witness_ThermalSamplesTripsAndRearming_10 :
    ∃ (s : State) (mask : BitVec 32) , s.power.supervisor = true ∧ s.dev ≠ 0 :=
  ⟨(((State.reset.modPower fun p => { p with supervisor := true }).wr kDevState 2).wr 0x900224 7), 5, by decide⟩

theorem witness_ThermalSamplesTripsAndRearming_11 :
    ∃ (s : State) (mask : Byte) (g : Fin 7) , s.power.supervisor = true ∧ s.dev ≠ 0 ∧ mask.toNat = 2 ^ g.val ∧ s.unarmed g = true ∧ s.groupHot g = false :=
  ⟨(((State.reset.modPower fun p => { p with supervisor := true }).wr kDevState 6).modLockout 0 fun _ => ⟨List.replicate 13 0 ++ [0x80, 0, 0], false, false⟩), 1, 0, by decide⟩

theorem witness_ThermalSamplesTripsAndRearming_12 :
    ∃ (s : State) (mask : Byte) (g : Fin 7) , s.power.supervisor = true ∧ s.dev ≠ 0 ∧ mask.toNat = 2 ^ g.val ∧ (s.unarmed g = false ∨ s.groupHot g = true) :=
  ⟨((State.reset.modPower fun p => { p with supervisor := true }).wr kDevState 6), 1, 0, by decide⟩

theorem witness_CollectorDecidesAndClears_1 :
    ∃ (s : State) (equal : BitVec 128) (bad : Bool) , s.inReset = false ∧ s.selfFaulted = false ∧ bad = false :=
  ⟨(State.reset.raise 84), 0, false, by decide⟩

theorem witness_CollectorDecidesAndClears_2 :
    ∃ (s : State) (equal : BitVec 128) (bad : Bool) , s.inReset = false ∧ s.selfFaulted = false ∧ bad = true ∧ (s.dev = 2 ∨ s.dev = 3 ∨ s.dev = 4) :=
  ⟨((State.reset.modPower fun p => { p with supervisor := true }).wr kDevState 2), 0, true, by decide⟩

theorem witness_CollectorDecidesAndClears_3 :
    ∃ (s : State) (equal : BitVec 128) (bad : Bool) , s.inReset = false ∧ s.selfFaulted = true :=
  ⟨(((State.reset.modPower fun p => { p with supervisor := true }).wr kDevState 6).wr 0xA00401 1), 0, true, by decide⟩

theorem witness_CollectorDecidesAndClears_4 :
    ∃ (s : State) (equal : BitVec 128) (bad : Bool) , s.inReset = true :=
  ⟨(State.reset.modPower fun p => { p with por := true }), 0, true, by decide⟩

theorem witness_CollectorDecidesAndClears_5 :
    ∃ (s : State) , s.inReset = false ∧ s.selfFaulted = false ∧ (s.dev = 2 ∨ s.dev = 3 ∨ s.dev = 4) :=
  ⟨((State.reset.modPower fun p => { p with supervisor := true }).wr kDevState 2), by decide⟩

theorem witness_CollectorDecidesAndClears_6 :
    ∃ (s : State) (w : Fin 4) (mask : BitVec 32) , s.power.supervisor = true ∧ s.dev ≠ 0 :=
  ⟨(((State.reset.modPower fun p => { p with supervisor := true }).wr kDevState 2).wr 0xA00001 5), 0, 4, by decide⟩

theorem witness_EventsAndSafeFramesTravel_1 :
    ∃ (s : State) (u : Fin 2) (n : Nat) , s.speaks = true ∧ s.canHolder = u ∧ isPending (s.msg u 22) = false ∧ isValid (s.msg u 22) = true ∧ s.wdp.events[u].find? relayed = none ∧ ((bitsOf 128 s.collector.wdpMarks.toNat).find? (fun n => ownEvent s.wdp.events[otherCan u] != some n) = some n) :=
  ⟨({ (((State.reset.modPower fun p => { p with supervisor := true }).wr kDevState 2).wr kNodeId 5).modMsg 0 22 fun m => { m with octrl := 3 } with collector := { State.reset.collector with wdpMarks := 4 } } : State), 0, 2, by decide⟩

theorem witness_EventsAndSafeFramesTravel_2 :
    ∃ (s : State) (u : Fin 2) (x : Nat × Nat × Nat) (xs : List (Nat × Nat × Nat)) , s.speaks = true ∧ s.canHolder = u ∧ isPending (s.msg u 22) = false ∧ isValid (s.msg u 22) = true ∧ s.wdp.events[u].find? relayed = none ∧ ((bitsOf 128 s.collector.wdpMarks.toNat).find? (fun n => ownEvent s.wdp.events[otherCan u] != some n) = none) ∧ s.collector.relay = x :: xs :=
  ⟨({ (((State.reset.modPower fun p => { p with supervisor := true }).wr kDevState 2).wr kNodeId 5).modMsg 0 22 fun m => { m with octrl := 3 } with collector := { State.reset.collector with relay := [(3, 7, 9)] } } : State), 0, (3, 7, 9), [], by decide⟩

theorem witness_EventsAndSafeFramesTravel_3 :
    ∃ (s : State) (u : Fin 2) , s.canHolder = u ∧ (s.speaks = false ∨ isPending (s.msg u 22) = true ∨ isValid (s.msg u 22) = false ∨ (s.wdp.events[u].find? relayed = none ∧ s.collector.wdpMarks = 0 ∧ s.collector.relay = [])) :=
  ⟨(((State.reset.modPower fun p => { p with supervisor := true }).wr kDevState 2).wr kNodeId 5), 0, by decide⟩

theorem witness_EventsAndSafeFramesTravel_4 :
    ∃ (s : State) (q : Path) , s.manager = false ∧ s.collector.risen ≠ 0 ∧ s.pathTo 0 = some q ∧ s.posOn q ≠ none ∧ s.maySend (uLane q) = true :=
  ⟨({ ((((State.reset.wr kDevState 2).wr 0xB02001 0).wr 0xB03001 3).wr (kLane 0 1) 4) with collector := { State.reset.collector with risen := 4 } } : State), 0, by decide⟩

theorem witness_EventsAndSafeFramesTravel_5 :
    ∃ (s : State) , (s.manager = true ∨ s.collector.risen = 0 ∨ s.pathTo 0 = none) :=
  ⟨(((State.reset.modPower fun p => { p with supervisor := true }).wr kDevState 2).wr kRole 1), by decide⟩

theorem witness_EventsAndSafeFramesTravel_6 :
    ∃ (s : State) (f : Frame) , s.laneUp (inLane f) = true ∧ s.manager = true ∧ f.src.toNat < 32 ∧ (s.heard f).takesFrom f.path f.src.toNat = true :=
  ⟨((((State.reset.modPower fun p => { p with supervisor := true }).wr kDevState 2).wr kRole 1).wr (kLane (inLane (⟨0x0C, 0, true, false, true, false, 3, 0, 7, natLe 16 5 ++ natLe 16 9⟩ : Frame)) 1) 4), ⟨0x0C, 0, true, false, true, false, 3, 0, 7, natLe 16 5 ++ natLe 16 9⟩, by decide⟩

theorem witness_EventsAndSafeFramesTravel_7 :
    ∃ (s : State) (f : Frame) , s.laneUp (inLane f) = true ∧ s.manager = true ∧ (s.heard f).takesFrom f.path f.src.toNat = false :=
  ⟨(((((State.reset.modPower fun p => { p with supervisor := true }).wr kDevState 2).wr kRole 1).wr 0xB0200A 8).wr (kLane (inLane (⟨0x0C, 0, true, false, false, false, 3, 0, 7, natLe 16 5 ++ natLe 16 9⟩ : Frame)) 1) 4), ⟨0x0C, 0, true, false, false, false, 3, 0, 7, natLe 16 5 ++ natLe 16 9⟩, by decide⟩

theorem witness_EventsAndSafeFramesTravel_8 :
    ∃ (s : State) (f : Frame) , s.laneUp (inLane f) = true ∧ (s.heard f).takesFrom f.path f.src.toNat = true ∧ (s.dev = 2 ∨ s.dev = 3 ∨ s.dev = 4) :=
  ⟨((((((State.reset.wr kDevState 2).wr 0xB02001 0).wr 0xB03001 3).wr (kLane 0 1) 4).wr kDevState 2).wr (kLane (inLane (⟨0x0D, 0, false, false, true, false, 0, 255, 7, []⟩ : Frame)) 1) 4), ⟨0x0D, 0, false, false, true, false, 0, 255, 7, []⟩, by decide⟩

theorem witness_EventsAndSafeFramesTravel_9 :
    ∃ (s : State) (f : Frame) , s.laneUp (inLane f) = true ∧ (s.heard f).takesFrom f.path f.src.toNat = true ∧ (s.dev = 0 ∨ s.dev = 1 ∨ s.dev = 5) :=
  ⟨((((((State.reset.wr kDevState 2).wr 0xB02001 0).wr 0xB03001 3).wr (kLane 0 1) 4).wr kDevState 1).wr (kLane (inLane (⟨0x0D, 0, false, false, true, false, 0, 255, 7, []⟩ : Frame)) 1) 4), ⟨0x0D, 0, false, false, true, false, 0, 255, 7, []⟩, by decide⟩

theorem witness_EventsAndSafeFramesTravel_10 :
    ∃ (s : State) (f : Frame) , s.laneUp (inLane f) = true ∧ (s.heard f).takesFrom f.path f.src.toNat = true ∧ (s.dev = 6 ∨ s.dev = 7) :=
  ⟨((((((State.reset.wr kDevState 2).wr 0xB02001 0).wr 0xB03001 3).wr (kLane 0 1) 4).wr kDevState 6).wr (kLane (inLane (⟨0x0D, 0, false, false, true, false, 0, 255, 7, []⟩ : Frame)) 1) 4), ⟨0x0D, 0, false, false, true, false, 0, 255, 7, []⟩, by decide⟩

theorem witness_EventsAndSafeFramesTravel_11 :
    ∃ (s : State) (f : Frame) , s.laneUp (inLane f) = true ∧ (s.heard f).takesFrom f.path f.src.toNat = false :=
  ⟨((((((State.reset.wr kDevState 2).wr 0xB02001 0).wr 0xB03001 3).wr (kLane 0 1) 4).wr 0xB02001 1).wr (kLane (inLane (⟨0x0D, 0, false, false, true, false, 0, 255, 7, []⟩ : Frame)) 1) 4), ⟨0x0D, 0, false, false, true, false, 0, 255, 7, []⟩, by decide⟩

theorem witness_OrsolaneLeaseMoves_1 :
    ∃ (s : State) (d : Nat) , s.nextDue = some d ∧ (s.stringRx.dues = 1 → s.manager = true ∨ s.renewedSince = true) :=
  ⟨({ ((((State.reset.modPower fun p => { p with supervisor := true }).wr kDevState 4).wr 0xB02001 0).wr 0xB02209 3) with stringRx := { State.reset.stringRx with acceptAt := some 0, interval := some 31250 } } : State), 39063, by decide⟩

theorem witness_OrsolaneLeaseMoves_2 :
    ∃ (s : State) (d : Nat) , s.manager = false ∧ s.nextDue = some d ∧ s.stringRx.dues = 1 ∧ s.renewedSince = false ∧ s.pselLow = false ∧ s.holder ≤ 1 :=
  ⟨({ ((((State.reset.modPower fun p => { p with supervisor := true }).wr kDevState 4).wr 0xB02001 0).wr 0xB02209 3) with stringRx := { State.reset.stringRx with acceptAt := some 0, interval := some 31250, dues := 1 } } : State), 70313, by decide⟩

theorem witness_OrsolaneLeaseMoves_3 :
    ∃ (s : State) , s.nextDue = none :=
  ⟨State.reset, by decide⟩

theorem witness_OrsolaneLeaseMoves_4 :
    ∃ (s : State) (d : Nat) , s.lease.until_ = some d ∧ s.manager = false ∧ s.pselLow = false ∧ s.holder ≤ 1 :=
  ⟨({ ((((State.reset.modPower fun p => { p with supervisor := true }).wr kDevState 4).wr 0xB02001 0).wr 0xB02209 3) with lease := { State.reset.lease with until_ := some 90 } } : State), 90, by decide⟩

theorem witness_OrsolaneLeaseMoves_5 :
    ∃ (s : State) , s.lease.until_ = none :=
  ⟨State.reset, by decide⟩

theorem witness_OrsolaneLeaseMoves_6 :
    ∃ (s : State) (f : Frame) , s.laneUp (inLane f) = true ∧ s.manager = false ∧ byteAt f.payload 0 = 0 ∧ s.pselLow = false ∧ s.holder = f.path.val :=
  ⟨(((((State.reset.modPower fun p => { p with supervisor := true }).wr kDevState 4).wr 0xB02001 0).wr 0xB02209 3).wr (kLane (inLane (⟨7, 0, false, false, true, false, 0, 255, 7, [0, 0, 0, 0, 0, 250, 0, 0]⟩ : Frame)) 1) 4), ⟨7, 0, false, false, true, false, 0, 255, 7, [0, 0, 0, 0, 0, 250, 0, 0]⟩, by decide⟩

theorem witness_OrsolaneLeaseMoves_7 :
    ∃ (s : State) (f : Frame) , s.laneUp (inLane f) = true ∧ s.manager = false ∧ byteAt f.payload 0 = 0 ∧ (s.pselLow = true ∨ s.holder ≠ f.path.val) :=
  ⟨(((((State.reset.modPower fun p => { p with supervisor := true }).wr kDevState 4).wr 0xB02001 0).wr 0xB02209 3).wr (kLane (inLane (⟨7, 1, false, false, true, false, 0, 255, 7, [0, 0, 0, 0, 0, 250, 0, 0]⟩ : Frame)) 1) 4), ⟨7, 1, false, false, true, false, 0, 255, 7, [0, 0, 0, 0, 0, 250, 0, 0]⟩, by decide⟩

theorem witness_OrsolaneLeaseMoves_8 :
    ∃ (s : State) (f : Frame) , s.laneUp (inLane f) = true ∧ s.manager = false ∧ byteAt f.payload 0 = 1 ∧ s.pselLow = false ∧ s.holder = f.path.val ∧ byteAt f.payload 1 = f.path.val :=
  ⟨(((((State.reset.modPower fun p => { p with supervisor := true }).wr kDevState 4).wr 0xB02001 0).wr 0xB02209 3).wr (kLane (inLane (⟨7, 0, false, false, true, false, 0, 255, 7, [1, 0, 0, 0, 0, 250, 0, 0]⟩ : Frame)) 1) 4), ⟨7, 0, false, false, true, false, 0, 255, 7, [1, 0, 0, 0, 0, 250, 0, 0]⟩, by decide⟩

theorem witness_OrsolaneLeaseMoves_9 :
    ∃ (s : State) (f : Frame) , s.laneUp (inLane f) = true ∧ s.manager = false ∧ byteAt f.payload 0 = 1 ∧ (s.pselLow = true ∨ byteAt f.payload 1 ≠ f.path.val) :=
  ⟨(((((State.reset.modPower fun p => { p with supervisor := true }).wr kDevState 4).wr 0xB02001 0).wr 0xB02209 3).wr (kLane (inLane (⟨7, 1, false, false, true, false, 0, 255, 7, [1, 0, 0, 0, 0, 250, 0, 0]⟩ : Frame)) 1) 4), ⟨7, 1, false, false, true, false, 0, 255, 7, [1, 0, 0, 0, 0, 250, 0, 0]⟩, by decide⟩

theorem witness_OrsolaneLeaseMoves_10 :
    ∃ (s : State) (f : Frame) , s.laneUp (inLane f) = true ∧ s.manager = false ∧ byteAt f.payload 0 = 1 ∧ s.pselLow = false ∧ s.holder ≠ f.path.val ∧ byteAt f.payload 1 = f.path.val :=
  ⟨(((((State.reset.modPower fun p => { p with supervisor := true }).wr kDevState 4).wr 0xB02001 0).wr 0xB02209 3).wr (kLane (inLane (⟨7, 1, false, false, true, false, 0, 255, 7, [1, 1, 0, 0, 0, 250, 0, 0]⟩ : Frame)) 1) 4), ⟨7, 1, false, false, true, false, 0, 255, 7, [1, 1, 0, 0, 0, 250, 0, 0]⟩, by decide⟩

theorem witness_OrsolaneLeaseMoves_11 :
    ∃ (s : State) (f : Frame) , s.laneUp (inLane f) = true ∧ s.manager = false ∧ byteAt f.payload 0 = 2 ∧ s.pselLow = false ∧ byteAt f.payload 1 ≤ 1 ∧ s.health (byteAt f.payload 1) = 3 :=
  ⟨(((((State.reset.modPower fun p => { p with supervisor := true }).wr kDevState 4).wr 0xB02001 0).wr 0xB02209 3).wr (kLane (inLane (⟨7, 0, false, false, true, false, 0, 255, 7, [2, 1, 0, 0, 0, 250, 0, 0]⟩ : Frame)) 1) 4), ⟨7, 0, false, false, true, false, 0, 255, 7, [2, 1, 0, 0, 0, 250, 0, 0]⟩, by decide⟩

theorem witness_OrsolaneLeaseMoves_12 :
    ∃ (s : State) (f : Frame) , s.laneUp (inLane f) = true ∧ s.manager = false ∧ byteAt f.payload 0 = 2 ∧ (s.pselLow = true ∨ 1 < byteAt f.payload 1 ∨ s.health (byteAt f.payload 1) ≠ 3) :=
  ⟨(((((State.reset.modPower fun p => { p with supervisor := true }).wr kDevState 4).wr 0xB02001 0).wr 0xB02209 3).wr (kLane (inLane (⟨7, 0, false, false, true, false, 0, 255, 7, [2, 0, 0, 0, 0, 250, 0, 0]⟩ : Frame)) 1) 4), ⟨7, 0, false, false, true, false, 0, 255, 7, [2, 0, 0, 0, 0, 250, 0, 0]⟩, by decide⟩

theorem witness_OrsolaneLeaseMoves_13 :
    ∃ (s : State) (f : Frame) , s.laneUp (inLane f) = true ∧ s.manager = true ∧ f.up = false :=
  ⟨((((State.reset.modPower fun p => { p with supervisor := true }).wr kDevState 2).wr kRole 1).wr (kLane (inLane (⟨7, 0, false, false, true, false, 0, 255, 7, [0, 0, 0, 0, 0, 250, 0, 0]⟩ : Frame)) 1) 4), ⟨7, 0, false, false, true, false, 0, 255, 7, [0, 0, 0, 0, 0, 250, 0, 0]⟩, by decide⟩

theorem witness_OrsolaneLeaseMoves_14 :
    ∃ (s : State) (f : Frame) , s.laneUp (inLane f) = true ∧ s.manager = true ∧ f.up = false :=
  ⟨((((State.reset.modPower fun p => { p with supervisor := true }).wr kDevState 2).wr kRole 1).wr (kLane (inLane (⟨7, 0, false, false, true, false, 0, 255, 7, [1, 0, 0, 0, 0, 250, 0, 0]⟩ : Frame)) 1) 4), ⟨7, 0, false, false, true, false, 0, 255, 7, [1, 0, 0, 0, 0, 250, 0, 0]⟩, by decide⟩

theorem witness_OrsolaneLeaseMoves_15 :
    ∃ (s : State) (f : Frame) , s.laneUp (inLane f) = true ∧ s.manager = true ∧ f.up = false :=
  ⟨((((State.reset.modPower fun p => { p with supervisor := true }).wr kDevState 2).wr kRole 1).wr (kLane (inLane (⟨7, 0, false, false, true, false, 0, 255, 7, [2, 0, 0, 0, 0, 250, 0, 0]⟩ : Frame)) 1) 4), ⟨7, 0, false, false, true, false, 0, 255, 7, [2, 0, 0, 0, 0, 250, 0, 0]⟩, by decide⟩

theorem witness_OrsolaneLeaseMoves_16 :
    ∃ (s : State) (v : BitVec 32) , s.power.supervisor = true ∧ s.manager = true ∧ s.dev ≠ 0 ∧ 8000 ≤ v.toNat ∧ v.toNat ≤ 10000000 ∧ 16 * s.rd 0x801001 ≤ 5 * v.toNat :=
  ⟨(((State.reset.modPower fun p => { p with supervisor := true }).wr kDevState 2).wr kRole 1), 200000, by decide⟩

theorem witness_CanLeaseReversionAndPselN_1 :
    ∃ (s : State) (d : Nat) , s.lease.canUntil = some d ∧ s.pselLow = false ∧ s.rd 0xB02002 ≤ 1 :=
  ⟨({ ((State.reset.modPower fun p => { p with supervisor := true }).wr kDevState 2) with lease := { State.reset.lease with canUntil := some 90 } } : State), 90, by decide⟩

theorem witness_CanLeaseReversionAndPselN_2 :
    ∃ (s : State) , s.lease.canUntil = none :=
  ⟨State.reset, by decide⟩

theorem witness_CanLeaseReversionAndPselN_3 :
    ∃ (s : State) (can : Bool) (d : Nat) , ((if can then s.lease.canRevertFrom else s.lease.revertFrom) = some d) :=
  ⟨({ ((State.reset.modPower fun p => { p with supervisor := true }).wr kDevState 2) with lease := { State.reset.lease with revertFrom := some 90 } } : State), false, 90, by decide⟩

theorem witness_CanLeaseReversionAndPselN_4 :
    ∃ (s : State) (can : Bool) , ((if can then s.lease.canRevertFrom else s.lease.revertFrom) = none) :=
  ⟨State.reset, true, by decide⟩

theorem witness_CanLeaseReversionAndPselN_5 :
    ∃ (s : State) (low : Bool) (ticks : BitVec 32) , (s.pselLow = low ∨ ticks.toNat < 64) :=
  ⟨((((State.reset.modPower fun p => { p with supervisor := true }).wr kDevState 4).wr 0xB02001 0).wr 0xB02209 3), true, 63, by decide⟩

theorem witness_CanLeaseReversionAndPselN_6 :
    ∃ (s : State) (low : Bool) (ticks : BitVec 32) , s.pselLow = !low ∧ 64 ≤ ticks.toNat :=
  ⟨((((State.reset.modPower fun p => { p with supervisor := true }).wr kDevState 4).wr 0xB02001 0).wr 0xB02209 3), true, 64, by decide⟩

theorem witness_CanLeaseReversionAndPselN_7 :
    ∃ (s : State) (d : Nat) , s.lease.holdoffAt = some d :=
  ⟨(({ (((State.reset.modPower fun p => { p with supervisor := true }).wr kDevState 2).wr kRole 1) with lease := { State.reset.lease with holdoffAt := some 90 } } : State).wrBit 0xB02003 1 true), 90, by decide⟩

theorem witness_CanLeaseReversionAndPselN_8 :
    ∃ (s : State) (d : Nat) , s.lease.lowAt = some d ∧ s.lease.stuck = false ∧ ((s.manager = true ∧ s.bitAt 0xB02003 1 = false) ∨ (s.manager = false ∧ s.dev ≠ 1 ∧ s.lease.wasY = true)) :=
  ⟨({ (((State.reset.modPower fun p => { p with supervisor := true }).wr kDevState 2).wr kRole 1) with lease := { State.reset.lease with lowAt := some 90 } } : State), 90, by decide⟩

theorem witness_CanLeaseReversionAndPselN_9 :
    ∃ (s : State) , (s.lease.lowAt = none ∨ s.lease.stuck = true ∨ (s.manager = true ∧ s.bitAt 0xB02003 1 = true) ∨ (s.manager = false ∧ (s.dev = 1 ∨ s.lease.wasY = false))) :=
  ⟨State.reset, by decide⟩

theorem witness_FireflyAndHealth_1 :
    ∃ (s : State) (p : Fin 32) (q : Path) , s.manager = true ∧ 2 ≤ s.dev ∧ 0 < p.val ∧ p.val < s.rd (0xB03004 + q.val) ∧ s.maySend (dLane q) = true :=
  ⟨((((((State.reset.modPower fun p => { p with supervisor := true }).wr kDevState 2).wr kRole 1).wr 0xB03004 4).wr 0xB03005 4).wr (kLane 1 1) 4), 3, 0, by decide⟩

theorem witness_FireflyAndHealth_2 :
    ∃ (s : State) (f : Frame) , s.laneUp (inLane f) = true ∧ s.manager = false ∧ byteAt f.payload 4 = 0 ∧ s.posOn f.path = some f.dst.toNat :=
  ⟨((((((State.reset.modPower fun p => { p with supervisor := true }).wr kDevState 2).wr 0xB03001 3).wr 0xB03002 3).wr 0xB02001 0).wr (kLane (inLane (⟨8, 0, false, false, true, false, 0, 3, 7, natLe 4 5 ++ natLe 4 0 ++ natLe 16 0 ++ natLe 40 1⟩ : Frame)) 1) 4), ⟨8, 0, false, false, true, false, 0, 3, 7, natLe 4 5 ++ natLe 4 0 ++ natLe 16 0 ++ natLe 40 1⟩, by decide⟩

theorem witness_FireflyAndHealth_3 :
    ∃ (s : State) , s.manager = false ∧ 2 ≤ s.dev :=
  ⟨((((((State.reset.modPower fun p => { p with supervisor := true }).wr kDevState 2).wr 0xB03001 3).wr 0xB03002 3).wr 0xB02001 0).wr (kLane 0 1) 4), by decide⟩

theorem witness_FireflyAndHealth_4 :
    ∃ (s : State) (f : Frame) , s.laneUp (inLane f) = true ∧ s.manager = true ∧ byteAt f.payload 4 = 1 ∧ s.maySend (dLane f.path) = true :=
  ⟨(((((State.reset.modPower fun p => { p with supervisor := true }).wr kDevState 2).wr kRole 1).wr (kLane 1 1) 4).wr (kLane (inLane (⟨8, 0, true, false, true, false, 3, 0, 7, natLe 4 5 ++ natLe 4 1 ++ natLe 16 0 ++ natLe 40 1⟩ : Frame)) 1) 4), ⟨8, 0, true, false, true, false, 3, 0, 7, natLe 4 5 ++ natLe 4 1 ++ natLe 16 0 ++ natLe 40 1⟩, by decide⟩

theorem witness_FireflyAndHealth_5 :
    ∃ (s : State) (f : Frame) (rx : BitVec 128) , s.laneUp (inLane f) = true ∧ s.manager = false ∧ byteAt f.payload 4 = 2 ∧ s.posOn f.path = some f.dst.toNat :=
  ⟨((((((State.reset.modPower fun p => { p with supervisor := true }).wr kDevState 2).wr 0xB03001 3).wr 0xB03002 3).wr 0xB02001 0).wr (kLane (inLane (⟨8, 0, false, false, true, false, 0, 3, 7, natLe 4 5 ++ natLe 4 2 ++ natLe 16 0 ++ natLe 40 1⟩ : Frame)) 1) 4), ⟨8, 0, false, false, true, false, 0, 3, 7, natLe 4 5 ++ natLe 4 2 ++ natLe 16 0 ++ natLe 40 1⟩, 70000, by decide⟩

theorem witness_NetworkTimeIsSetAndStepped_1 :
    ∃ (s : State) (f : Frame) , s.laneUp (inLane f) = true ∧ s.manager = false ∧ s.takesFrom f.path 0 = true ∧ byteAt f.payload 24 = 0 :=
  ⟨((((((State.reset.modPower fun p => { p with supervisor := true }).wr kDevState 2).wr 0xB03001 3).wr 0xB03002 3).wr 0xB02001 0).wr (kLane (inLane (⟨4, 0, false, false, true, false, 0, 3, 7, natLe 32 0 ++ natLe 8 6871947674⟩ : Frame)) 1) 4), ⟨4, 0, false, false, true, false, 0, 3, 7, natLe 32 0 ++ natLe 8 6871947674⟩, by decide⟩

theorem witness_NetworkTimeIsSetAndStepped_2 :
    ∃ (s : State) (f : Frame) , s.laneUp (inLane f) = true ∧ s.manager = false ∧ s.takesFrom f.path 0 = true ∧ byteAt f.payload 24 = 1 :=
  ⟨((((((State.reset.modPower fun p => { p with supervisor := true }).wr kDevState 2).wr 0xB03001 3).wr 0xB03002 3).wr 0xB02001 0).wr (kLane (inLane (⟨4, 0, false, false, true, false, 0, 3, 7, natLe 16 7 ++ natLe 8 0 ++ natLe 8 1 ++ natLe 8 6871947674⟩ : Frame)) 1) 4), ⟨4, 0, false, false, true, false, 0, 3, 7, natLe 16 7 ++ natLe 8 0 ++ natLe 8 1 ++ natLe 8 6871947674⟩, by decide⟩

theorem witness_NetworkTimeIsSetAndStepped_3 :
    ∃ (s : State) (f : Frame) , s.laneUp (inLane f) = true ∧ s.manager = false ∧ s.takesFrom f.path 0 = true ∧ byteAt f.payload 24 = 2 ∧ 0 ≤ (s.netUnits : Int) + i64At f.payload 40 * 65536 :=
  ⟨((((((State.reset.modPower fun p => { p with supervisor := true }).wr kDevState 2).wr 0xB03001 3).wr 0xB03002 3).wr 0xB02001 0).wr (kLane (inLane (⟨4, 0, false, false, true, false, 0, 3, 7, natLe 16 7 ++ natLe 8 0 ++ natLe 8 2 ++ natLe 8 6871947674⟩ : Frame)) 1) 4), ⟨4, 0, false, false, true, false, 0, 3, 7, natLe 16 7 ++ natLe 8 0 ++ natLe 8 2 ++ natLe 8 6871947674⟩, by decide⟩

theorem witness_NetworkTimeIsSetAndStepped_4 :
    ∃ (s : State) (f : Frame) , s.laneUp (inLane f) = true ∧ s.manager = false ∧ byteAt f.payload 24 = 0 ∧ s.takesFrom f.path 0 = false :=
  ⟨(((((State.reset.modPower fun p => { p with supervisor := true }).wr kDevState 4).wr 0xB02001 0).wr 0xB02209 3).wr (kLane (inLane (⟨4, 1, false, false, true, false, 0, 3, 7, natLe 24 0 ++ [0]⟩ : Frame)) 1) 4), ⟨4, 1, false, false, true, false, 0, 3, 7, natLe 24 0 ++ [0]⟩, by decide⟩

theorem witness_NetworkTimeIsSetAndStepped_5 :
    ∃ (s : State) (f : Frame) , s.laneUp (inLane f) = true ∧ s.manager = true ∧ f.up = false :=
  ⟨((((State.reset.modPower fun p => { p with supervisor := true }).wr kDevState 2).wr kRole 1).wr (kLane (inLane (⟨4, 0, false, false, true, false, 0, 3, 7, []⟩ : Frame)) 1) 4), ⟨4, 0, false, false, true, false, 0, 3, 7, []⟩, by decide⟩

theorem witness_NetworkTimeIsSetAndStepped_6 :
    ∃ (s : State) (f : Frame) , s.laneUp (inLane f) = true ∧ s.manager = false ∧ byteAt f.payload 24 = 1 ∧ s.takesFrom f.path 0 = false :=
  ⟨(((((State.reset.modPower fun p => { p with supervisor := true }).wr kDevState 4).wr 0xB02001 0).wr 0xB02209 3).wr (kLane (inLane (⟨4, 1, false, false, true, false, 0, 3, 7, natLe 24 0 ++ [1]⟩ : Frame)) 1) 4), ⟨4, 1, false, false, true, false, 0, 3, 7, natLe 24 0 ++ [1]⟩, by decide⟩

theorem witness_NetworkTimeIsSetAndStepped_7 :
    ∃ (s : State) (f : Frame) , s.laneUp (inLane f) = true ∧ s.manager = true ∧ f.up = false :=
  ⟨((((State.reset.modPower fun p => { p with supervisor := true }).wr kDevState 2).wr kRole 1).wr (kLane (inLane (⟨4, 0, false, false, true, false, 0, 3, 7, []⟩ : Frame)) 1) 4), ⟨4, 0, false, false, true, false, 0, 3, 7, []⟩, by decide⟩

theorem witness_NetworkTimeIsSetAndStepped_8 :
    ∃ (s : State) (f : Frame) , s.laneUp (inLane f) = true ∧ s.manager = false ∧ byteAt f.payload 24 = 2 ∧ s.takesFrom f.path 0 = false :=
  ⟨(((((State.reset.modPower fun p => { p with supervisor := true }).wr kDevState 4).wr 0xB02001 0).wr 0xB02209 3).wr (kLane (inLane (⟨4, 1, false, false, true, false, 0, 3, 7, natLe 24 0 ++ [2]⟩ : Frame)) 1) 4), ⟨4, 1, false, false, true, false, 0, 3, 7, natLe 24 0 ++ [2]⟩, by decide⟩

theorem witness_NetworkTimeIsSetAndStepped_9 :
    ∃ (s : State) (f : Frame) , s.laneUp (inLane f) = true ∧ s.manager = true ∧ f.up = false :=
  ⟨((((State.reset.modPower fun p => { p with supervisor := true }).wr kDevState 2).wr kRole 1).wr (kLane (inLane (⟨4, 0, false, false, true, false, 0, 3, 7, []⟩ : Frame)) 1) 4), ⟨4, 0, false, false, true, false, 0, 3, 7, []⟩, by decide⟩

theorem witness_NetworkTimeIsSetAndStepped_10 :
    ∃ (s : State) (v : BitVec 64) , s.power.supervisor = true ∧ s.dev ≠ 0 ∧ incrementOk v.toNat = true :=
  ⟨(((State.reset.modPower fun p => { p with supervisor := true }).wr kDevState 2).wr kRole 1), 6871947675, by decide⟩

theorem witness_NetworkTimeIsSetAndStepped_11 :
    ∃ (s : State) (data : BitVec 128) , s.power.supervisor = true ∧ s.dev ≠ 0 ∧ 0 ≤ ((s.advance 1).netUnits : Int) + stepOffset (natLe 16 data.toNat) * 65536 ∧ s.time.setAt ≠ some (s.tick + 1) :=
  ⟨(((State.reset.modPower fun p => { p with supervisor := true }).wr kDevState 2).wr kRole 1), 5, by decide⟩

theorem witness_NetworkTimeIsSetAndStepped_12 :
    ∃ (s : State) (data : BitVec 128) , s.power.supervisor = true ∧ s.dev ≠ 0 ∧ 0 ≤ ((s.advance 1).netUnits : Int) + stepOffset (natLe 16 data.toNat) * 65536 ∧ s.time.setAt = some (s.tick + 1) :=
  ⟨({ (((State.reset.modPower fun p => { p with supervisor := true }).wr kDevState 2).wr kRole 1) with time := { State.reset.time with setAt := some 1 } } : State), 5, by decide⟩

theorem witness_NetworkTimeIsSetAndStepped_13 :
    ∃ (s : State) (data : BitVec 128) , s.power.supervisor = true ∧ s.dev ≠ 0 ∧ ((s.advance 1).netUnits : Int) + stepOffset (natLe 16 data.toNat) * 65536 < 0 :=
  ⟨(((State.reset.modPower fun p => { p with supervisor := true }).wr kDevState 2).wr kRole 1), 0xFFFFFFFFFFFFFFFF, by decide⟩

theorem witness_DelayExchangesComparatorsAndTsync_1 :
    ∃ (s : State) (p : Nat) (q : Path) , s.manager = true ∧ 2 ≤ s.dev ∧ s.exchangeOf s.time.next = some (p, q) :=
  ⟨((((((State.reset.modPower fun p => { p with supervisor := true }).wr kDevState 2).wr kRole 1).wr 0xB03004 2).wr 0xB03005 2).wr (kLane 1 1) 4), 1, 0, by decide⟩

theorem witness_DelayExchangesComparatorsAndTsync_2 :
    ∃ (s : State) , (s.manager = false ∨ s.dev < 2 ∨ s.exchangeOf s.time.next = none) :=
  ⟨(((State.reset.modPower fun p => { p with supervisor := true }).wr kDevState 2).wr kRole 1), by decide⟩

theorem witness_DelayExchangesComparatorsAndTsync_3 :
    ∃ (s : State) (f : Frame) (rx : BitVec 128) , s.laneUp (inLane f) = true ∧ s.manager = false ∧ s.posOn f.path = some f.dst.toNat ∧ s.maySend (uLane f.path) = true :=
  ⟨(((((((State.reset.modPower fun p => { p with supervisor := true }).wr kDevState 2).wr 0xB03001 3).wr 0xB03002 3).wr 0xB02001 0).wr (kLane 0 1) 4).wr (kLane (inLane (⟨5, 0, false, false, true, false, 0, 3, 7, natLe 32 9⟩ : Frame)) 1) 4), ⟨5, 0, false, false, true, false, 0, 3, 7, natLe 32 9⟩, 3, by decide⟩

theorem witness_DelayExchangesComparatorsAndTsync_4 :
    ∃ (s : State) (f : Frame) (rx : BitVec 128) (p : Fin 32) , s.laneUp (inLane f) = true ∧ s.manager = true ∧ f.src.toNat = p.val ∧ f.coarse = false ∧ s.bitAt kFlags 3 = false ∧ bit (byteAt f.payload 26) 0 = false ∧ stampUnits rx.toNat - stampAt f.payload 0 ≤ 65536000000 ∧ (s.heard f).pathTo p = some f.path :=
  ⟨((((State.reset.modPower fun p => { p with supervisor := true }).wr kDevState 2).wr kRole 1).wr (kLane (inLane (⟨6, 0, true, false, true, false, 3, 0, 7, natLe 72 0⟩ : Frame)) 1) 4), ⟨6, 0, true, false, true, false, 3, 0, 7, natLe 72 0⟩, 0, 3, by decide⟩

theorem witness_DelayExchangesComparatorsAndTsync_5 :
    ∃ (s : State) (k : Fin 8) , s.bitAt (kComp k 4) 0 = true :=
  ⟨(((State.reset.modPower fun p => { p with supervisor := true }).wr kDevState 2).wr (kComp 2 4) 1), 2, by decide⟩

theorem witness_DelayExchangesComparatorsAndTsync_6 :
    ∃ (s : State) , s.rd 0xB01601 = 1 :=
  ⟨(((State.reset.modPower fun p => { p with supervisor := true }).wr kDevState 2).wr 0xB01601 1), by decide⟩

theorem witness_DelayExchangesComparatorsAndTsync_7 :
    ∃ (s : State) , s.rd 0xB01601 ≠ 1 :=
  ⟨State.reset, by decide⟩

theorem witness_DelayExchangesComparatorsAndTsync_8 :
    ∃ (s : State) (d : Nat) , s.time.tsyncEnd = some d :=
  ⟨({ State.reset with time := { State.reset.time with tsync := true, tsyncEnd := some 9 } } : State), 9, by decide⟩

theorem witness_DelayExchangesComparatorsAndTsync_9 :
    ∃ (s : State) , s.rd 0xB01601 = 2 :=
  ⟨(((State.reset.modPower fun p => { p with supervisor := true }).wr kDevState 2).wr 0xB01601 2), by decide⟩

theorem witness_LanesAlignTrainAndFail_1 :
    ∃ (s : State) (i : Lane) (peak : BitVec 16) (ticks : BitVec 32) , s.laneOn i = true ∧ s.bitAt (kLane i 2) 0 = false ∧ peak.toNat < 80 ∧ 160 ≤ ticks.toNat :=
  ⟨(((State.reset.modPower fun p => { p with supervisor := true }).wr kDevState 2).wr (kLane 1 1) 4), 1, 79, 160, by decide⟩

theorem witness_LanesAlignTrainAndFail_2 :
    ∃ (s : State) (i : Lane) (peak : BitVec 16) (ticks : BitVec 32) , (s.laneOn i = false ∨ s.bitAt (kLane i 2) 0 = true ∨ 80 ≤ peak.toNat ∨ ticks.toNat < 160) :=
  ⟨(((State.reset.modPower fun p => { p with supervisor := true }).wr kDevState 2).wr (kLane 1 1) 4), 1, 80, 160, by decide⟩

theorem witness_LanesAlignTrainAndFail_3 :
    ∃ (s : State) (i : Lane) (least : BitVec 16) (ticks : BitVec 32) , s.laneOn i = true ∧ s.bitAt (kLane i 2) 0 = true ∧ 150 < least.toNat ∧ 6250 ≤ ticks.toNat :=
  ⟨((((State.reset.modPower fun p => { p with supervisor := true }).wr kDevState 2).wr (kLane 1 1) 1).wr (kLane 1 2) 1), 1, 151, 6250, by decide⟩

theorem witness_LanesAlignTrainAndFail_4 :
    ∃ (s : State) (i : Lane) (least : BitVec 16) (ticks : BitVec 32) , (s.laneOn i = false ∨ s.bitAt (kLane i 2) 0 = false ∨ least.toNat ≤ 150 ∨ ticks.toNat < 6250) :=
  ⟨((((State.reset.modPower fun p => { p with supervisor := true }).wr kDevState 2).wr (kLane 1 1) 1).wr (kLane 1 2) 1), 1, 150, 6250, by decide⟩

theorem witness_LanesAlignTrainAndFail_5 :
    ∃ (s : State) (i : Lane) (why : LolEvidence) , s.laneOn i = true ∧ s.bitAt (kLane i 2) 0 = false ∧ s.isLol i why = true :=
  ⟨((((State.reset.modPower fun p => { p with supervisor := true }).wr kDevState 2).wr (kLane 1 1) 4).wr (kLane 1 2) 8), 1, .elastic 32, by decide⟩

theorem witness_LanesAlignTrainAndFail_6 :
    ∃ (s : State) (i : Lane) (why : LolEvidence) , (s.laneOn i = false ∨ s.bitAt (kLane i 2) 0 = true ∨ s.isLol i why = false) :=
  ⟨(((State.reset.modPower fun p => { p with supervisor := true }).wr kDevState 2).wr (kLane 1 1) 4), 1, .elastic 20, by decide⟩

theorem witness_LanesAlignTrainAndFail_7 :
    ∃ (s : State) (i : Lane) (commas : BitVec 24) , s.laneRate i = 0 ∧ s.laneState i = 2 ∧ s.bitAt (kLane i 2) 0 = false ∧ 3 ≤ popCount 24 commas.toNat :=
  ⟨(((State.reset.modPower fun p => { p with supervisor := true }).wr kDevState 2).wr (kLane 1 1) 2), 1, 7, by decide⟩

theorem witness_LanesAlignTrainAndFail_8 :
    ∃ (s : State) (i : Lane) (commas : BitVec 24) , (s.laneRate i ≠ 0 ∨ s.laneState i ≠ 2 ∨ s.bitAt (kLane i 2) 0 = true) :=
  ⟨(((State.reset.modPower fun p => { p with supervisor := true }).wr kDevState 2).wr (kLane 1 1) 4), 1, 3, by decide⟩

theorem witness_LanesAlignTrainAndFail_9 :
    ∃ (s : State) (i : Lane) (commas : BitVec 24) , s.laneRate i = 0 ∧ s.laneState i = 2 ∧ s.bitAt (kLane i 2) 0 = false ∧ popCount 24 commas.toNat < 3 :=
  ⟨(((State.reset.modPower fun p => { p with supervisor := true }).wr kDevState 2).wr (kLane 1 1) 2), 1, 3, by decide⟩

theorem witness_LanesAlignTrainAndFail_10 :
    ∃ (s : State) (i : Lane) (headers : BitVec 128) , s.laneRate i ≠ 0 ∧ s.laneState i = 2 ∧ s.power.supervisor = true ∧ s.bitAt (kLane i 2) 0 = false :=
  ⟨((((State.reset.modPower fun p => { p with supervisor := true }).wr kDevState 2).wr (kLane 1 1) 2).wr (kLane 1 3) 2), 1, 0, by decide⟩

theorem witness_LanesAlignTrainAndFail_11 :
    ∃ (s : State) (i : Lane) (block : LineBlock) (b : Bytes) , s.laneState i = 3 ∧ readBlock (s.laneRate i) block = some (.control 0x4D b) ∧ bit (byteAt b 0) 5 = (i.val / 2 == 1) ∧ bit (byteAt b 0) 6 = !isD i :=
  ⟨((((State.reset.modPower fun p => { p with supervisor := true }).wr kDevState 2).wr (kLane 1 1) 3).modLane 1 fun l => { l with trainOk := 7, trainAck := 7 }), 1, .chars true 0 0x6302104DBC, [0x10, 2, 0x63, 0, 0, 0], by decide⟩

theorem witness_LanesAlignTrainAndFail_12 :
    ∃ (s : State) (i : Lane) (block : LineBlock) (b : Bytes) , s.laneState i = 3 ∧ readBlock (s.laneRate i) block = some (.control 0x4D b) ∧ (bit (byteAt b 0) 5 ≠ (i.val / 2 == 1) ∨ bit (byteAt b 0) 6 = isD i) :=
  ⟨(((State.reset.modPower fun p => { p with supervisor := true }).wr kDevState 2).wr (kLane 1 1) 3), 1, .chars true 0 0x6302504DBC, [0x50, 2, 0x63, 0, 0, 0], by decide⟩

theorem witness_LanesAlignTrainAndFail_13 :
    ∃ (s : State) (i : Lane) (block : LineBlock) , s.laneState i = 3 ∧ (match readBlock (s.laneRate i) block with | some (.control 0x4D _) => false | some (.control 0x2B _) => false | _ => true) = true :=
  ⟨(((State.reset.modPower fun p => { p with supervisor := true }).wr kDevState 2).wr (kLane 1 1) 3), 1, .chars false 3 0, by decide⟩

theorem witness_FillersWakeRunsAndScans_1 :
    ∃ (s : State) (i : Lane) (drift : Byte) (block : LineBlock) (b : Bytes) (n : Nat) , s.reads i = true ∧ readBlock (s.laneRate i) block = some (.control 0x2B b) ∧ (n : Int) = clampInt 0 32 (s.lanes[i].fill + toSigned 8 drift.toNat) :=
  ⟨(((State.reset.modPower fun p => { p with supervisor := true }).wr kDevState 2).wr (kLane 1 1) 4).modLane 1 fun l => { l with fill := 15 }, 1, 0xFF, .chars true 0 0x2BBC, [0, 0, 0, 0, 0, 0], 14, by decide⟩

theorem witness_FillersWakeRunsAndScans_2 :
    ∃ (s : State) (i : Lane) (drift : Byte) (block : LineBlock) , s.reads i = true ∧ (match readBlock (s.laneRate i) block with | some (.control 0x2B _) => false | _ => true) = true :=
  ⟨(((State.reset.modPower fun p => { p with supervisor := true }).wr kDevState 2).wr (kLane 1 1) 4), 1, 0, .chars true 1 0x2BBC, by decide⟩

theorem witness_FillersWakeRunsAndScans_3 :
    ∃ (s : State) (i : Lane) (drift : Byte) (block : LineBlock) , s.reads i = false :=
  ⟨(((State.reset.modPower fun p => { p with supervisor := true }).wr kDevState 2).wr (kLane 1 1) 1), 1, 0, .chars true 1 0x2BBC, by decide⟩

theorem witness_FillersWakeRunsAndScans_4 :
    ∃ (s : State) (i : Lane) (drift : Byte) , s.reads i = true ∧ (s.lanes[i].fill : Int) + toSigned 8 drift.toNat = 12 :=
  ⟨(((State.reset.modPower fun p => { p with supervisor := true }).wr kDevState 2).wr (kLane 1 1) 4).modLane 1 fun l => { l with fill := 14 }, 1, 0xFE, by decide⟩

theorem witness_FillersWakeRunsAndScans_5 :
    ∃ (s : State) (i : Lane) (drift : Byte) , (s.reads i = false ∨ (s.lanes[i].fill : Int) + toSigned 8 drift.toNat ≠ 12) :=
  ⟨(((State.reset.modPower fun p => { p with supervisor := true }).wr kDevState 2).wr (kLane 1 1) 4).modLane 1 fun l => { l with fill := 14 }, 1, 0, by decide⟩

theorem witness_FillersWakeRunsAndScans_6 :
    ∃ (s : State) (i : Lane) , (s.manager = false ∨ isD i = true) ∧ (s.laneState i = 1 ∨ s.laneState i = 2 ∨ s.laneState i = 3 ∨ s.laneState i = 4) :=
  ⟨(((State.reset.modPower fun p => { p with supervisor := true }).wr kDevState 2).wr (kLane 1 1) 4), 1, by decide⟩

theorem witness_FillersWakeRunsAndScans_7 :
    ∃ (s : State) (i : Lane) , ((s.manager = true ∧ isD i = false) ∨ s.laneState i = 0 ∨ s.laneState i = 5) :=
  ⟨(((State.reset.modPower fun p => { p with supervisor := true }).wr kDevState 2).wr (kLane 1 1) 5), 1, by decide⟩

theorem witness_FillersWakeRunsAndScans_8 :
    ∃ (s : State) (a : Nat) (u : Nat) , s.hatch.wakeAt = some a ∧ s.hatch.wakeUntil = some u :=
  ⟨({ (((State.reset.modPower fun p => { p with supervisor := true }).wr kDevState 1).wr (kLane 1 1) 4) with hatch := { State.reset.hatch with wakeAt := some 5, wakeUntil := some 6250 } } : State), 5, 6250, by decide⟩

theorem witness_FillersWakeRunsAndScans_9 :
    ∃ (s : State) (q : Path) (n : Nat) (d : Nat) , s.paths[q].scan = some n ∧ s.paths[q].dwell = some d ∧ s.dev = 1 ∧ s.laneUp (uLane q) = false :=
  ⟨(((State.reset.modPower fun p => { p with supervisor := true }).wr kDevState 1).modPath 0 fun p => { p with scan := some 0, dwell := some 9 }), 0, 0, 9, by decide⟩

theorem witness_FillersWakeRunsAndScans_10 :
    ∃ (s : State) (q : Path) (n : Nat) (d : Nat) , s.paths[q].scan = some n ∧ s.paths[q].dwell = some d ∧ (s.dev ≠ 1 ∨ s.laneUp (uLane q) = true) :=
  ⟨(((State.reset.modPower fun p => { p with supervisor := true }).wr kDevState 2).modPath 0 fun p => { p with scan := some 0, dwell := some 9 }), 0, 0, 9, by decide⟩

theorem witness_EnumerationAndRateSteps_1 :
    ∃ (s : State) (d : Nat) , s.hatch.enumAt = some d ∧ s.dev = 1 ∧ s.bitAt 0xB03003 4 = false :=
  ⟨({ ((((State.reset.modPower fun p => { p with supervisor := true }).wr kDevState 1).wr kRole 1).wr (kLane 1 1) 4) with hatch := { State.reset.hatch with enumAt := some 90 } } : State), 90, by decide⟩

theorem witness_EnumerationAndRateSteps_2 :
    ∃ (s : State) (d : Nat) , s.hatch.enumAt = some d ∧ (s.dev ≠ 1 ∨ s.bitAt 0xB03003 4 = true) :=
  ⟨({ ((State.reset.modPower fun p => { p with supervisor := true }).wr kDevState 2) with hatch := { State.reset.hatch with enumAt := some 90 } } : State), 90, by decide⟩

theorem witness_EnumerationAndRateSteps_3 :
    ∃ (s : State) (q : Path) (b : Bytes) , s.laneUp (uLane q) = true ∧ s.manager = false ∧ byteAt b 1 < 32 ∧ (s.dev ≠ 1 ∨ (s.laneRate (uLane q) = 0 ∧ (s.paths[q].assigned = true ∨ s.paths[q].kept = true ∨ s.rd (kLane (uLane q) 6) = 0xFF ∨ (s.rd (kLane (uLane q) 6) = 0 ∧ byteAt b 2 ≠ 0)))) :=
  ⟨(((State.reset.modPower fun p => { p with supervisor := true }).wr kDevState 1).wr (kLane 0 1) 4), 0, [0, 3, 2, 0], by decide⟩

theorem witness_EnumerationAndRateSteps_4 :
    ∃ (s : State) (q : Path) (b : Bytes) , s.laneUp (uLane q) = true ∧ s.manager = false ∧ byteAt b 1 < 32 ∧ s.dev = 1 ∧ (s.laneRate (uLane q) ≠ 0 ∨ (s.paths[q].assigned = false ∧ s.paths[q].kept = false ∧ s.rd (kLane (uLane q) 6) ≠ 0 ∧ s.rd (kLane (uLane q) 6) ≠ 0xFF)) :=
  ⟨((((State.reset.modPower fun p => { p with supervisor := true }).wr kDevState 1).wr (kLane 0 1) 4).wr (kLane 0 3) 2), 0, [0, 3, 2, 0], by decide⟩

theorem witness_EnumerationAndRateSteps_5 :
    ∃ (s : State) (q : Path) (b : Bytes) , s.laneUp (uLane q) = true ∧ s.manager = false ∧ 32 ≤ byteAt b 1 ∧ s.posOn q = none :=
  ⟨((((State.reset.modPower fun p => { p with supervisor := true }).wr kDevState 1).wr (kLane 0 1) 4).wr 0xB03001 255), 0, [0, 32, 2, 0], by decide⟩

theorem witness_EnumerationAndRateSteps_6 :
    ∃ (s : State) (q : Path) (b : Bytes) , s.laneUp (dLane q) = true ∧ s.manager = true ∧ s.dev = 1 ∧ s.bitAt 0xB03003 4 = false ∧ s.paths[q].checking = false ∧ (min (min (byteAt b 2) s.rateMax) s.paths[q].cap) ≠ 0 :=
  ⟨(((((State.reset.modPower fun p => { p with supervisor := true }).wr kDevState 1).wr kRole 1).wr (kLane 1 1) 4).modPath 0 fun p => { p with cap := 2 }), 0, [1, 3, 2, 0], by decide⟩

theorem witness_EnumerationAndRateSteps_7 :
    ∃ (s : State) (q : Path) (b : Bytes) , s.laneUp (dLane q) = true ∧ s.manager = true ∧ s.dev = 1 ∧ s.bitAt 0xB03003 4 = false ∧ (s.paths[q].checking = true ∨ (min (min (byteAt b 2) s.rateMax) s.paths[q].cap) = 0) ∧ s.bitAt 0xB03003 (1 - q.val) = false :=
  ⟨(((((State.reset.modPower fun p => { p with supervisor := true }).wr kDevState 1).wr kRole 1).wr (kLane 1 1) 4).modPath 0 fun p => { p with checking := true }), 0, [1, 3, 2, 0], by decide⟩

theorem witness_EnumerationAndRateSteps_8 :
    ∃ (s : State) (q : Path) (b : Bytes) , s.laneUp (dLane q) = true ∧ s.manager = true ∧ s.dev = 1 ∧ s.bitAt 0xB03003 4 = false ∧ (s.paths[q].checking = true ∨ (min (min (byteAt b 2) s.rateMax) s.paths[q].cap) = 0) ∧ s.bitAt 0xB03003 (1 - q.val) = true ∧ s.bitAt kFlags 1 = false ∧ s.bitAt kFlags 2 = false :=
  ⟨(((((State.reset.modPower fun p => { p with supervisor := true }).wr kDevState 1).wr kRole 1).wr (kLane 1 1) 4).modPath 0 fun p => { p with checking := true }).wr 0xB03003 2, 0, [1, 3, 2, 0], by decide⟩

theorem witness_EnumerationAndRateSteps_9 :
    ∃ (s : State) (q : Path) (b : Bytes) , s.laneUp (uLane q) = true ∧ s.manager = false ∧ s.dev = 1 :=
  ⟨(((State.reset.modPower fun p => { p with supervisor := true }).wr kDevState 1).wr (kLane 0 1) 4), 0, [2, 0, 2, 1], by decide⟩

theorem witness_EnumerationAndRateSteps_10 :
    ∃ (s : State) (q : Path) (b : Bytes) , s.laneUp (uLane q) = true ∧ (s.manager = true ∨ s.dev ≠ 1) :=
  ⟨(((State.reset.modPower fun p => { p with supervisor := true }).wr kDevState 2).wr (kLane 0 1) 4), 0, [2, 0, 2, 1], by decide⟩

theorem witness_EnumerationAndRateSteps_11 :
    ∃ (s : State) (q : Path) (b : Bytes) , s.laneUp (uLane q) = false :=
  ⟨State.reset, 0, [0, 3, 2, 0], by decide⟩

theorem witness_EnumerationAndRateSteps_12 :
    ∃ (s : State) (q : Path) (b : Bytes) , s.laneUp (dLane q) = false :=
  ⟨State.reset, 0, [0, 3, 2, 0], by decide⟩

theorem witness_EnumerationAndRateSteps_13 :
    ∃ (s : State) (q : Path) (b : Bytes) , s.laneUp (uLane q) = false :=
  ⟨State.reset, 0, [0, 3, 2, 0], by decide⟩

theorem witness_EnumerationAndRateSteps_14 :
    ∃ (s : State) (q : Path) (d : Nat) (r : Nat) , s.paths[q].stepDue = some (d, r) ∧ s.dev = 1 :=
  ⟨(((State.reset.modPower fun p => { p with supervisor := true }).wr kDevState 1).modPath 0 fun p => { p with stepDue := some (9, 2) }), 0, 9, 2, by decide⟩

theorem witness_EnumerationAndRateSteps_15 :
    ∃ (s : State) (q : Path) , (s.paths[q].stepDue = none ∨ s.dev ≠ 1) :=
  ⟨((State.reset.modPower fun p => { p with supervisor := true }).wr kDevState 2), 0, by decide⟩

theorem witness_EnumerationAndRateSteps_16 :
    ∃ (s : State) (q : Path) (d : Nat) , s.paths[q].stepLimit = some d ∧ s.stepUpDone q = false ∧ s.dev = 1 ∧ s.rd (kPll (q.val + 1) + 1) ≠ 0 :=
  ⟨(((((State.reset.modPower fun p => { p with supervisor := true }).wr kDevState 1).modPath 0 fun p => { p with stepLimit := some 9, stepUp := 1 }).wr 0x201001 2).wr (kPathRate 0) 2), 0, 9, by decide⟩

theorem witness_EnumerationAndRateSteps_17 :
    ∃ (s : State) (q : Path) (d : Nat) , s.paths[q].stepLimit = some d ∧ (s.stepUpDone q = true ∨ s.dev ≠ 1 ∨ s.rd (kPll (q.val + 1) + 1) = 0) :=
  ⟨(((State.reset.modPower fun p => { p with supervisor := true }).wr kDevState 1).modPath 0 fun p => { p with stepLimit := some 9 }), 0, 9, by decide⟩

theorem witness_HatchEndsConflictsAndJoins_1 :
    ∃ (s : State) (q : Path) (b : Bytes) , s.laneUp (uLane q) = true ∧ s.manager = false ∧ byteAt b 1 < 32 :=
  ⟨(((State.reset.modPower fun p => { p with supervisor := true }).wr kDevState 1).wr (kLane 0 1) 4), 0, [3, 3, 2, 0], by decide⟩

theorem witness_HatchEndsConflictsAndJoins_2 :
    ∃ (s : State) (q : Path) (b : Bytes) , s.laneUp (uLane q) = true ∧ s.manager = false ∧ 32 ≤ byteAt b 1 :=
  ⟨(((State.reset.modPower fun p => { p with supervisor := true }).wr kDevState 1).wr (kLane 0 1) 4), 0, [3, 32, 2, 0], by decide⟩

theorem witness_HatchEndsConflictsAndJoins_3 :
    ∃ (s : State) (q : Path) (b : Bytes) , s.laneUp (uLane q) = true ∧ s.manager = false :=
  ⟨((((State.reset.modPower fun p => { p with supervisor := true }).wr kDevState 1).wr (kLane 0 1) 4).wr 0xB03001 3), 0, [4, 5, 2, 0, 5], by decide⟩

theorem witness_HatchEndsConflictsAndJoins_4 :
    ∃ (s : State) (d : Nat) , s.hatch.yWaitAt = some d ∧ s.manager = true ∧ s.dev = 1 ∧ s.bitAt 0xB03003 0 = true ∧ s.bitAt 0xB03003 4 = false ∧ s.bitAt kFlags 1 = false ∧ s.bitAt kFlags 2 = false :=
  ⟨({ ((((State.reset.modPower fun p => { p with supervisor := true }).wr kDevState 1).wr kRole 1).wr (kLane 1 1) 4).wrBit 0xB03003 0 true with hatch := { State.reset.hatch with yWaitAt := some 90 } } : State), 90, by decide⟩

theorem witness_HatchEndsConflictsAndJoins_5 :
    ∃ (s : State) (d : Nat) , s.hatch.yWaitAt = some d ∧ (s.dev ≠ 1 ∨ s.bitAt 0xB03003 0 = false ∨ s.bitAt 0xB03003 4 = true) :=
  ⟨({ ((State.reset.modPower fun p => { p with supervisor := true }).wr kDevState 2) with hatch := { State.reset.hatch with yWaitAt := some 90 } } : State), 90, by decide⟩

theorem witness_HatchEndsConflictsAndJoins_6 :
    ∃ (s : State) (x : JoinSt) (d : Nat) , s.hatch.yWaitAt = none ∧ s.hatch.joins = [x] ∧ x.due = some d :=
  ⟨({ ((((State.reset.modPower fun p => { p with supervisor := true }).wr kDevState 2).wr kRole 1).wr (kLane 1 1) 4) with hatch := { State.reset.hatch with joins := [⟨4, true, false, some 90⟩] } } : State), ⟨4, true, false, some 90⟩, 90, by decide⟩

theorem witness_HatchEndsConflictsAndJoins_7 :
    ∃ (s : State) , s.hatch.yWaitAt = none ∧ ((s.hatch.joins.all fun j => j.due.isNone) = true) :=
  ⟨State.reset, by decide⟩

theorem witness_HatchEndsConflictsAndJoins_8 :
    ∃ (s : State) (q : Path) (b : Bytes) , s.laneUp (dLane q) = true ∧ s.manager = true ∧ s.dev = 1 :=
  ⟨((((State.reset.modPower fun p => { p with supervisor := true }).wr kDevState 1).wr kRole 1).wr (kLane 1 1) 4), 0, [7, 3], by decide⟩

theorem witness_HatchEndsConflictsAndJoins_9 :
    ∃ (s : State) (ticks : BitVec 32) , s.manager = true ∧ s.dev = 1 ∧ msTicks 1 ≤ ticks.toNat ∧ s.hatch.since + msTicks 1 ≤ s.tick :=
  ⟨(((State.reset.modPower fun p => { p with supervisor := true }).wr kDevState 1).wr kRole 1).advance 700000, 625000, by decide⟩

theorem witness_HatchEndsConflictsAndJoins_10 :
    ∃ (s : State) (ticks : BitVec 32) , (s.manager = false ∨ s.dev ≠ 1 ∨ ticks.toNat < msTicks 1 ∨ s.tick < s.hatch.since + msTicks 1) :=
  ⟨(((State.reset.modPower fun p => { p with supervisor := true }).wr kDevState 1).wr kRole 1), 625000, by decide⟩

theorem witness_HatchEndsConflictsAndJoins_11 :
    ∃ (s : State) (q : Path) (b : Bytes) (old : JoinSt) , s.laneUp (dLane q) = true ∧ s.manager = true ∧ s.dev ≠ 0 ∧ s.dev ≠ 1 ∧ ((s.hatch.joins.find? fun j => j.pos == byteAt b 1).getD ⟨byteAt b 1, false, false, none⟩ = old) :=
  ⟨({ ((((State.reset.modPower fun p => { p with supervisor := true }).wr kDevState 2).wr kRole 1).wr (kLane 1 1) 4) with hatch := { State.reset.hatch with joins := [⟨3, false, true, none⟩] } } : State), 0, [5, 3, 2], ⟨3, false, true, none⟩, by decide⟩

theorem witness_HatchEndsConflictsAndJoins_12 :
    ∃ (s : State) (q : Path) (b : Bytes) , s.laneUp (uLane q) = false :=
  ⟨State.reset, 0, [3, 3, 2, 0], by decide⟩

theorem witness_HatchEndsConflictsAndJoins_13 :
    ∃ (s : State) (q : Path) (b : Bytes) , s.laneUp (uLane q) = false :=
  ⟨State.reset, 0, [3, 3, 2, 0], by decide⟩

theorem witness_HatchEndsConflictsAndJoins_14 :
    ∃ (s : State) (q : Path) (b : Bytes) , s.laneUp (dLane q) = false :=
  ⟨State.reset, 0, [3, 3, 2, 0], by decide⟩

theorem witness_HatchEndsConflictsAndJoins_15 :
    ∃ (s : State) (q : Path) (b : Bytes) , s.laneUp (dLane q) = false :=
  ⟨State.reset, 0, [3, 3, 2, 0], by decide⟩

theorem witness_FramesAreCheckedRoutedAndSent_1 :
    ∃ (s : State) (i : Lane) (blocks : List LineBlock) (b : Bytes) (e : Bool) , s.inReset = false ∧ s.laneUp i = true ∧ s.prbsOn (lanePath i) = false ∧ (s.manager && !isD i) = false ∧ wholeFrame (s.rxNow i blocks) = some (b, e) ∧ b.length < 12 :=
  ⟨((((((State.reset.modPower fun p => { p with supervisor := true }).wr kDevState 2).wr 0xB02001 0).wr 0xB03001 3).wr (kLane 0 1) 4).wr (kLane 1 1) 4), 0, (onLine 0 0 (frameBlocks [1, 2] true)), [1, 2], true, by decide⟩

theorem witness_FramesAreCheckedRoutedAndSent_2 :
    ∃ (s : State) (i : Lane) (blocks : List LineBlock) (b : Bytes) , s.inReset = false ∧ s.laneUp i = true ∧ s.prbsOn (lanePath i) = false ∧ (s.manager && !isD i) = false ∧ wholeFrame (s.rxNow i blocks) = some (b, false) ∧ 12 ≤ b.length ∧ (2060 < b.length ∨ s.goesOn i (readFrame b) = false) :=
  ⟨((((((State.reset.modPower fun p => { p with supervisor := true }).wr kDevState 2).wr 0xB02001 0).wr 0xB03001 3).wr (kLane 0 1) 4).wr (kLane 1 1) 4), 0, (onLine 0 0 (frameBlocks [3, 0, 0, 3, 0, 0, 0, 0, 9, 9, 9, 9, 0, 0, 0, 0] false)), [3, 0, 0, 3, 0, 0, 0, 0, 9, 9, 9, 9, 0, 0, 0, 0], by decide⟩

theorem witness_FramesAreCheckedRoutedAndSent_3 :
    ∃ (s : State) (i : Lane) (blocks : List LineBlock) (b : Bytes) (p : Nat) , s.inReset = false ∧ s.laneUp i = true ∧ s.prbsOn (lanePath i) = false ∧ (s.manager && !isD i) = false ∧ wholeFrame (s.rxNow i blocks) = some (b, false) ∧ 12 ≤ b.length ∧ b.length ≤ 2060 ∧ (readFrame b).payload.length + 12 = b.length ∧ s.manager = false ∧ s.posOn (lanePath i) = some p ∧ p ≠ byteAt b 3 ∧ oneHop (readFrame b) = false ∧ s.maySend (otherLane i) = true ∧ s.bufferUsed (otherLane i) + b.length ≤ 4608 :=
  ⟨((((((State.reset.modPower fun p => { p with supervisor := true }).wr kDevState 2).wr 0xB02001 0).wr 0xB03001 3).wr (kLane 0 1) 4).wr (kLane 1 1) 4), 0, (onLine 0 0 (frameBlocks [3, 0, 0, 5, 0, 0, 0, 0, 9, 9, 9, 9, 0, 0, 0, 0] false)), [3, 0, 0, 5, 0, 0, 0, 0, 9, 9, 9, 9, 0, 0, 0, 0], 3, by decide⟩

theorem witness_FramesAreCheckedRoutedAndSent_4 :
    ∃ (s : State) (i : Lane) (blocks : List LineBlock) (b : Bytes) , s.inReset = false ∧ s.laneUp i = true ∧ s.prbsOn (lanePath i) = false ∧ (s.manager && !isD i) = false ∧ wholeFrame (s.rxNow i blocks) = some (b, true) ∧ 12 ≤ b.length ∧ leAt b (b.length - 4) 4 ≠ crc32c (b.take (b.length - 4)) :=
  ⟨((((((State.reset.modPower fun p => { p with supervisor := true }).wr kDevState 2).wr 0xB02001 0).wr 0xB03001 3).wr (kLane 0 1) 4).wr (kLane 1 1) 4), 0, (onLine 0 0 (frameBlocks [1, 0, 3, 3, 0, 0, 0, 0, 9, 9, 9, 9] true)), [1, 0, 3, 3, 0, 0, 0, 0, 9, 9, 9, 9], by decide⟩

theorem witness_FramesAreCheckedRoutedAndSent_5 :
    ∃ (s : State) (i : Lane) (blocks : List LineBlock) (b : Bytes) (p : Nat) , s.inReset = false ∧ s.laneUp i = true ∧ s.prbsOn (lanePath i) = false ∧ (s.manager && !isD i) = false ∧ wholeFrame (s.rxNow i blocks) = some (b, true) ∧ 12 ≤ b.length ∧ b.length ≤ 2060 ∧ leAt b (b.length - 4) 4 ≠ crc32c (b.take (b.length - 4)) ∧ s.manager = false ∧ s.posOn (lanePath i) = some p ∧ p ≠ byteAt b 3 ∧ oneHop (readFrame b) = false ∧ isD i = true ∧ s.maySend (otherLane i) = true ∧ s.bufferUsed (otherLane i) + b.length ≤ 4608 :=
  ⟨((((((State.reset.modPower fun p => { p with supervisor := true }).wr kDevState 2).wr 0xB02001 0).wr 0xB03001 3).wr (kLane 0 1) 4).wr (kLane 1 1) 4), 1, (onLine 0 0 (frameBlocks [1, 0, 3, 5, 0, 0, 0, 0, 9, 9, 9, 9] true)), [1, 0, 3, 5, 0, 0, 0, 0, 9, 9, 9, 9], 3, by decide⟩

theorem witness_FramesAreCheckedRoutedAndSent_6 :
    ∃ (s : State) (i : Lane) (blocks : List LineBlock) (b : Bytes) , s.inReset = false ∧ s.laneUp i = true ∧ s.prbsOn (lanePath i) = false ∧ (s.manager && !isD i) = false ∧ wholeFrame (s.rxNow i blocks) = some (b, true) ∧ 12 ≤ b.length ∧ leAt b (b.length - 4) 4 ≠ crc32c (b.take (b.length - 4)) ∧ s.manager = false ∧ isD i = false ∧ s.pselLow = false ∧ s.holder = i.val / 2 ∧ (s.rd 0xB02106 ≤ (s.lanes[i].crcAt.filter fun t => s.tick ≤ t + usTicks (s.rd 0xB02107)).length + 1) :=
  ⟨(((((((State.reset.modPower fun p => { p with supervisor := true }).wr kDevState 2).wr 0xB02001 0).wr 0xB03001 3).wr (kLane 0 1) 4).wr (kLane 1 1) 4).wr 0xB02106 1), 0, (onLine 0 0 (frameBlocks [1, 0, 3, 3, 0, 0, 0, 0, 9, 9, 9, 9] true)), [1, 0, 3, 3, 0, 0, 0, 0, 9, 9, 9, 9], by decide⟩

theorem witness_FramesAreCheckedRoutedAndSent_7 :
    ∃ (s : State) (i : Lane) (blocks : List LineBlock) (b : Bytes) , s.inReset = false ∧ s.laneUp i = true ∧ s.prbsOn (lanePath i) = false ∧ (s.manager && !isD i) = false ∧ wholeFrame (s.rxNow i blocks) = some (b, true) ∧ 12 ≤ b.length ∧ leAt b (b.length - 4) 4 = crc32c (b.take (b.length - 4)) ∧ (2048 < leAt b 6 2 ∨ leAt b 6 2 ≠ b.length - 12 ∨ bit (byteAt b 1) 0 ≠ (lanePath i == 1)) :=
  ⟨((((((State.reset.modPower fun p => { p with supervisor := true }).wr kDevState 2).wr 0xB02001 0).wr 0xB03001 3).wr (kLane 0 1) 4).wr (kLane 1 1) 4), 0, (onLine 0 0 (frameBlocks (([1, 1, 3, 0, 0, 0, 0, 0] : Bytes) ++ natLe 4 (crc32c [1, 1, 3, 0, 0, 0, 0, 0])) true)), (([1, 1, 3, 0, 0, 0, 0, 0] : Bytes) ++ natLe 4 (crc32c [1, 1, 3, 0, 0, 0, 0, 0])), by decide⟩

theorem witness_FramesAreCheckedRoutedAndSent_8 :
    ∃ (s : State) (i : Lane) (blocks : List LineBlock) (b : Bytes) (p : Nat) , s.inReset = false ∧ s.laneUp i = true ∧ s.prbsOn (lanePath i) = false ∧ (s.manager && !isD i) = false ∧ wholeFrame (s.rxNow i blocks) = some (b, true) ∧ 12 ≤ b.length ∧ leAt b (b.length - 4) 4 = crc32c (b.take (b.length - 4)) ∧ leAt b 6 2 ≤ 2048 ∧ leAt b 6 2 = b.length - 12 ∧ bit (byteAt b 1) 0 = (lanePath i == 1) ∧ s.manager = false ∧ s.posOn (lanePath i) = some p ∧ p ≠ byteAt b 3 ∧ byteAt b 3 ≠ 0xFF ∧ s.maySend (otherLane i) = true ∧ s.bufferUsed (otherLane i) + b.length ≤ 4608 :=
  ⟨((((((State.reset.modPower fun p => { p with supervisor := true }).wr kDevState 2).wr 0xB02001 0).wr 0xB03001 3).wr (kLane 0 1) 4).wr (kLane 1 1) 4), 0, (onLine 0 0 (frameBlocks (([3, 0, 0, 5, 7, 0, 0, 0] : Bytes) ++ natLe 4 (crc32c [3, 0, 0, 5, 7, 0, 0, 0])) true)), (([3, 0, 0, 5, 7, 0, 0, 0] : Bytes) ++ natLe 4 (crc32c [3, 0, 0, 5, 7, 0, 0, 0])), 3, by decide⟩

theorem witness_FramesAreCheckedRoutedAndSent_9 :
    ∃ (s : State) (i : Lane) (blocks : List LineBlock) (b : Bytes) (p : Nat) , s.inReset = false ∧ s.laneUp i = true ∧ s.prbsOn (lanePath i) = false ∧ (s.manager && !isD i) = false ∧ wholeFrame (s.rxNow i blocks) = some (b, true) ∧ 12 ≤ b.length ∧ leAt b (b.length - 4) 4 = crc32c (b.take (b.length - 4)) ∧ leAt b 6 2 ≤ 2048 ∧ leAt b 6 2 = b.length - 12 ∧ bit (byteAt b 1) 0 = (lanePath i == 1) ∧ s.manager = false ∧ s.posOn (lanePath i) = some p ∧ p ≠ byteAt b 3 ∧ byteAt b 3 ≠ 0xFF ∧ 4608 < s.bufferUsed (otherLane i) + b.length :=
  ⟨(((((((State.reset.modPower fun p => { p with supervisor := true }).wr kDevState 2).wr 0xB02001 0).wr 0xB03001 3).wr (kLane 0 1) 4).wr (kLane 1 1) 4).modLane 1 fun l => { l with queue := [⟨⟨3, 0, false, false, true, false, 0, 9, 0, (List.replicate 4590 0#8)⟩, true, 0, false⟩] }), 0, (onLine 0 0 (frameBlocks (([3, 0, 0, 5, 7, 0, 0, 0] : Bytes) ++ natLe 4 (crc32c [3, 0, 0, 5, 7, 0, 0, 0])) true)), (([3, 0, 0, 5, 7, 0, 0, 0] : Bytes) ++ natLe 4 (crc32c [3, 0, 0, 5, 7, 0, 0, 0])), 3, by decide⟩

theorem witness_FramesAreCheckedRoutedAndSent_10 :
    ∃ (s : State) (i : Lane) (blocks : List LineBlock) (b : Bytes) (p : Nat) , s.inReset = false ∧ s.laneUp i = true ∧ s.prbsOn (lanePath i) = false ∧ (s.manager && !isD i) = false ∧ wholeFrame (s.rxNow i blocks) = some (b, true) ∧ 12 ≤ b.length ∧ leAt b (b.length - 4) 4 = crc32c (b.take (b.length - 4)) ∧ leAt b 6 2 ≤ 2048 ∧ leAt b 6 2 = b.length - 12 ∧ bit (byteAt b 1) 0 = (lanePath i == 1) ∧ s.posOn (lanePath i) = some p ∧ p = byteAt b 3 ∧ p ≠ 0xFF ∧ inLane (readFrame b) = i :=
  ⟨((((((State.reset.modPower fun p => { p with supervisor := true }).wr kDevState 2).wr 0xB02001 0).wr 0xB03001 3).wr (kLane 0 1) 4).wr (kLane 1 1) 4), 0, (onLine 0 0 (frameBlocks (([15, 0, 0, 3, 7, 0, 0, 0] : Bytes) ++ natLe 4 (crc32c [15, 0, 0, 3, 7, 0, 0, 0])) true)), (([15, 0, 0, 3, 7, 0, 0, 0] : Bytes) ++ natLe 4 (crc32c [15, 0, 0, 3, 7, 0, 0, 0])), 3, by decide⟩

theorem witness_FramesAreCheckedRoutedAndSent_11 :
    ∃ (s : State) (i : Lane) (blocks : List LineBlock) , s.laneUp i = true ∧ frameOpen (s.rxNow i blocks) = false ∧ (s.inReset = true ∨ s.prbsOn (lanePath i) = true ∨ (s.manager && !isD i) = true ∨ (wholeFrame (s.rxNow i blocks)).isNone = true) :=
  ⟨((((((State.reset.modPower fun p => { p with supervisor := true }).wr kDevState 2).wr 0xB02001 0).wr 0xB03001 3).wr (kLane 0 1) 4).wr (kLane 1 1) 4), 0, [.chars true 1 0x2BBC], by decide⟩

theorem witness_FramesAreCheckedRoutedAndSent_12 :
    ∃ (s : State) (i : Lane) (blocks : List LineBlock) , s.laneUp i = true ∧ frameOpen (s.rxNow i blocks) = true :=
  ⟨((((((State.reset.modPower fun p => { p with supervisor := true }).wr kDevState 2).wr 0xB02001 0).wr 0xB03001 3).wr (kLane 0 1) 4).wr (kLane 1 1) 4), 0, ((onLine 0 0 (frameBlocks [1, 0, 3, 3, 0, 0, 0, 0, 9, 9, 9, 9] true)).take 2), by decide⟩

theorem witness_FramesAreCheckedRoutedAndSent_13 :
    ∃ (s : State) (i : Lane) (blocks : List LineBlock) , s.laneUp i = false :=
  ⟨State.reset, 0, [.chars true 1 0x2BBC], by decide⟩

theorem witness_FramesAreCheckedRoutedAndSent_14 :
    ∃ (s : State) (i : Lane) (x : QFrame) , s.maySend i = true ∧ nextOut s.lanes[i].queue = some x ∧ s.swarmOf x.f = none :=
  ⟨(((((((State.reset.modPower fun p => { p with supervisor := true }).wr kDevState 2).wr 0xB02001 0).wr 0xB03001 3).wr (kLane 0 1) 4).wr (kLane 1 1) 4).modLane 0 fun l => { l with queue := [⟨⟨3, 0, false, false, true, false, 3, 0, 0, []⟩, true, 0, false⟩, ⟨⟨1, 0, false, false, true, false, 3, 0, 0, []⟩, false, 0, false⟩] }), 0, ⟨⟨1, 0, false, false, true, false, 3, 0, 0, []⟩, false, 0, false⟩, by decide⟩

theorem witness_FramesAreCheckedRoutedAndSent_15 :
    ∃ (s : State) (i : Lane) (x : QFrame) (w : Frame) (g : Telegram) , s.maySend i = true ∧ nextOut s.lanes[i].queue = some x ∧ s.swarmOf x.f = some w ∧ s.unserved = false ∧ byteAt w.payload 1 = 6 ∧ g = readTelegram s.node ((w.payload.drop 8).take (leAt w.payload 4 2)) ∧ g.op = 2 ∧ cutOf g = false ∧ g.index.toNat / 4096 ≠ 1 ∧ g.index.toNat / 4096 ≠ 0xB :=
  ⟨({ (((((((State.reset.modPower fun p => { p with supervisor := true }).wr kDevState 2).wr 0xB02001 0).wr 0xB03001 3).wr (kLane 0 1) 4).wr (kLane 1 1) 4).modLane 0 fun l => { l with queue := [⟨⟨0x0E, 0, false, false, true, false, 3, 0, 0, [3, 0, 0, 0]⟩, false, 0, false⟩] }) with frames := { State.reset.frames with swarmIn := [⟨3, 0, false, false, true, false, 0, 3, 0, [3, 6, 0, 0x41, 12, 0, 0, 0, 0x41, 2, 0, 4, 2, 0xE0, 1, 0, 8, 0, 0, 0]⟩] } } : State), 0, ⟨⟨0x0E, 0, false, false, true, false, 3, 0, 0, [3, 0, 0, 0]⟩, false, 0, false⟩, ⟨3, 0, false, false, true, false, 0, 3, 0, [3, 6, 0, 0x41, 12, 0, 0, 0, 0x41, 2, 0, 4, 2, 0xE0, 1, 0, 8, 0, 0, 0]⟩, readTelegram 0 [0x41, 2, 0, 4, 2, 0xE0, 1, 0, 8, 0, 0, 0], by decide⟩

theorem witness_FramesAreCheckedRoutedAndSent_16 :
    ∃ (s : State) (i : Lane) , (s.maySend i = false ∨ s.lanes[i].queue = []) :=
  ⟨((((((State.reset.modPower fun p => { p with supervisor := true }).wr kDevState 2).wr 0xB02001 0).wr 0xB03001 3).wr (kLane 0 1) 4).wr (kLane 1 1) 4), 0, by decide⟩

theorem witness_AcksFreeAndNaksRepeatFrames_1 :
    ∃ (s : State) (f : Frame) (u : Unacked) , s.laneUp (inLane f) = true ∧ s.unackedTo (byteAt f.payload 0) f.src.toNat = some u ∧ u.f.seq.toNat = leAt f.payload 2 2 ∧ u.f.typ = 3 ∧ byteAt u.f.payload 0 ≠ 3 ∧ ((s.frames.waiting.any fun w => sameTriple w u.f) = false) :=
  ⟨(({ ((((((State.reset.modPower fun p => { p with supervisor := true }).wr kDevState 2).wr 0xB02001 0).wr 0xB03001 3).wr (kLane 0 1) 4).wr (kLane 1 1) 4) with frames := { State.reset.frames with unacked := [⟨⟨3, 0, true, false, true, false, 3, 0, 7, [1, 7, 0, 0x41, 0, 0, 0, 0]⟩, 0, 600⟩] } } : State).wr (kLane (inLane (⟨0x0E, 0, false, false, true, false, 0, 3, 0, [3, 0, 7, 0]⟩ : Frame)) 1) 4), ⟨0x0E, 0, false, false, true, false, 0, 3, 0, [3, 0, 7, 0]⟩, ⟨⟨3, 0, true, false, true, false, 3, 0, 7, [1, 7, 0, 0x41, 0, 0, 0, 0]⟩, 0, 600⟩, by decide⟩

theorem witness_AcksFreeAndNaksRepeatFrames_2 :
    ∃ (s : State) (f : Frame) (u : Unacked) (w : Frame) , s.laneUp (inLane f) = true ∧ s.unackedTo (byteAt f.payload 0) f.src.toNat = some u ∧ u.f.seq.toNat = leAt f.payload 2 2 ∧ u.f.typ = 3 ∧ byteAt u.f.payload 0 ≠ 3 ∧ ((s.frames.waiting.find? fun x => sameTriple x u.f) = some w) :=
  ⟨(({ ((((((State.reset.modPower fun p => { p with supervisor := true }).wr kDevState 2).wr 0xB02001 0).wr 0xB03001 3).wr (kLane 0 1) 4).wr (kLane 1 1) 4) with frames := { State.reset.frames with unacked := [⟨⟨3, 0, true, false, true, false, 3, 0, 7, [1, 7, 0, 0x41, 0, 0, 0, 0]⟩, 0, 600⟩], waiting := [⟨3, 0, true, false, true, false, 3, 0, 8, [1, 7, 0, 0x42, 0, 0, 0, 0]⟩] } } : State).wr (kLane (inLane (⟨0x0E, 0, false, false, true, false, 0, 3, 0, [3, 0, 7, 0]⟩ : Frame)) 1) 4), ⟨0x0E, 0, false, false, true, false, 0, 3, 0, [3, 0, 7, 0]⟩, ⟨⟨3, 0, true, false, true, false, 3, 0, 7, [1, 7, 0, 0x41, 0, 0, 0, 0]⟩, 0, 600⟩, ⟨3, 0, true, false, true, false, 3, 0, 8, [1, 7, 0, 0x42, 0, 0, 0, 0]⟩, by decide⟩

theorem witness_AcksFreeAndNaksRepeatFrames_3 :
    ∃ (s : State) (f : Frame) (u : Unacked) (w : SwarmSt) (ws : List SwarmSt) (p : Nat) , s.laneUp (inLane f) = true ∧ s.unackedTo (byteAt f.payload 0) f.src.toNat = some u ∧ u.f.seq.toNat = leAt f.payload 2 2 ∧ u.f.typ = 3 ∧ byteAt u.f.payload 0 = 3 ∧ s.frames.swarm = w :: ws ∧ w.at_ = u.f.dst.toNat ∧ min w.at_ (s.rd 0xB03004) = p + 1 ∧ 1 ≤ p :=
  ⟨(({ ((((((State.reset.modPower fun p => { p with supervisor := true }).wr kDevState 2).wr kRole 1).wr (kLane 1 1) 4).wr kNodeId 8).wr 0xB03004 4) with frames := { State.reset.frames with unacked := [⟨⟨3, 0, false, false, true, false, 0, 3, 7, [3, 6, 0, 0x41, 0, 0, 0, 0]⟩, 0, 600⟩], swarm := [⟨0, ⟨5, 0x41, 2, 0, 1, 0xE002, 1, 0, [1]⟩, 3, 0, true⟩] } } : State).wr (kLane (inLane (⟨0x0E, 0, false, false, true, false, 3, 0, 0, [3, 0, 7, 0]⟩ : Frame)) 1) 4), ⟨0x0E, 0, false, false, true, false, 3, 0, 0, [3, 0, 7, 0]⟩, ⟨⟨3, 0, false, false, true, false, 0, 3, 7, [3, 6, 0, 0x41, 0, 0, 0, 0]⟩, 0, 600⟩, ⟨0, ⟨5, 0x41, 2, 0, 1, 0xE002, 1, 0, [1]⟩, 3, 0, true⟩, [], 2, by decide⟩

theorem witness_AcksFreeAndNaksRepeatFrames_4 :
    ∃ (s : State) (f : Frame) (u : Unacked) , s.laneUp (inLane f) = true ∧ s.unackedTo (byteAt f.payload 0) f.src.toNat = some u ∧ u.f.seq.toNat ≠ leAt f.payload 2 2 :=
  ⟨(({ ((((((State.reset.modPower fun p => { p with supervisor := true }).wr kDevState 2).wr 0xB02001 0).wr 0xB03001 3).wr (kLane 0 1) 4).wr (kLane 1 1) 4) with frames := { State.reset.frames with unacked := [⟨⟨3, 0, true, false, true, false, 3, 0, 7, [1, 7, 0, 0x41, 0, 0, 0, 0]⟩, 0, 600⟩] } } : State).wr (kLane (inLane (⟨0x0E, 0, false, false, true, false, 0, 3, 0, [3, 0, 8, 0]⟩ : Frame)) 1) 4), ⟨0x0E, 0, false, false, true, false, 0, 3, 0, [3, 0, 8, 0]⟩, ⟨⟨3, 0, true, false, true, false, 3, 0, 7, [1, 7, 0, 0x41, 0, 0, 0, 0]⟩, 0, 600⟩, by decide⟩

theorem witness_AcksFreeAndNaksRepeatFrames_5 :
    ∃ (s : State) (f : Frame) , s.laneUp (inLane f) = true ∧ (s.unackedTo (byteAt f.payload 0) f.src.toNat).isNone = true :=
  ⟨(((((((State.reset.modPower fun p => { p with supervisor := true }).wr kDevState 2).wr 0xB02001 0).wr 0xB03001 3).wr (kLane 0 1) 4).wr (kLane 1 1) 4).wr (kLane (inLane (⟨0x0E, 0, false, false, true, false, 0, 3, 0, [3, 0, 7, 0]⟩ : Frame)) 1) 4), ⟨0x0E, 0, false, false, true, false, 0, 3, 0, [3, 0, 7, 0]⟩, by decide⟩

theorem witness_AcksFreeAndNaksRepeatFrames_6 :
    ∃ (s : State) (f : Frame) , s.laneUp (inLane f) = true ∧ (s.unackedTo (byteAt f.payload 0) f.src.toNat).isNone = true :=
  ⟨(((((((State.reset.modPower fun p => { p with supervisor := true }).wr kDevState 2).wr 0xB02001 0).wr 0xB03001 3).wr (kLane 0 1) 4).wr (kLane 1 1) 4).wr (kLane (inLane (⟨0x0E, 0, false, false, true, false, 0, 3, 0, [3, 0, 7, 0]⟩ : Frame)) 1) 4), ⟨0x0E, 0, false, false, true, false, 0, 3, 0, [3, 0, 7, 0]⟩, by decide⟩

theorem witness_AcksFreeAndNaksRepeatFrames_7 :
    ∃ (s : State) (f : Frame) (u : Unacked) , s.laneUp (inLane f) = true ∧ s.unackedTo (byteAt f.payload 0) f.src.toNat = some u ∧ u.tries < s.rd 0xB00502 :=
  ⟨(({ ((((((State.reset.modPower fun p => { p with supervisor := true }).wr kDevState 2).wr 0xB02001 0).wr 0xB03001 3).wr (kLane 0 1) 4).wr (kLane 1 1) 4) with frames := { State.reset.frames with unacked := [⟨⟨3, 0, true, false, true, false, 3, 0, 7, [1, 7, 0, 0x41, 0, 0, 0, 0]⟩, 0, 600⟩] } } : State).wr (kLane (inLane (⟨0x0E, 0, false, false, true, false, 0, 3, 0, [3, 0, 7, 0]⟩ : Frame)) 1) 4), ⟨0x0E, 0, false, false, true, false, 0, 3, 0, [3, 0, 7, 0]⟩, ⟨⟨3, 0, true, false, true, false, 3, 0, 7, [1, 7, 0, 0x41, 0, 0, 0, 0]⟩, 0, 600⟩, by decide⟩

theorem witness_AcksFreeAndNaksRepeatFrames_8 :
    ∃ (s : State) (f : Frame) (u : Unacked) , s.laneUp (inLane f) = true ∧ s.unackedTo (byteAt f.payload 0) f.src.toNat = some u ∧ s.rd 0xB00502 ≤ u.tries ∧ u.f.typ = 3 ∧ byteAt u.f.payload 0 = 1 ∧ ((s.frames.waiting.any fun w => sameTriple w u.f) = false) :=
  ⟨(({ ((((((State.reset.modPower fun p => { p with supervisor := true }).wr kDevState 2).wr 0xB02001 0).wr 0xB03001 3).wr (kLane 0 1) 4).wr (kLane 1 1) 4) with frames := { State.reset.frames with unacked := [⟨⟨3, 0, true, false, true, false, 3, 0, 7, [1, 7, 0, 0x41, 0, 0, 0, 0]⟩, 9, 600⟩] } } : State).wr (kLane (inLane (⟨0x0E, 0, false, false, true, false, 0, 3, 0, [3, 0, 7, 0]⟩ : Frame)) 1) 4), ⟨0x0E, 0, false, false, true, false, 0, 3, 0, [3, 0, 7, 0]⟩, ⟨⟨3, 0, true, false, true, false, 3, 0, 7, [1, 7, 0, 0x41, 0, 0, 0, 0]⟩, 9, 600⟩, by decide⟩

theorem witness_AcksFreeAndNaksRepeatFrames_9 :
    ∃ (s : State) (typ : Byte) (dst : Byte) (q : Path) (u : Unacked) , s.unackedTo typ.toNat dst.toNat = some u ∧ u.f.path = q ∧ u.tries < s.rd 0xB00502 :=
  ⟨({ ((((((State.reset.modPower fun p => { p with supervisor := true }).wr kDevState 2).wr 0xB02001 0).wr 0xB03001 3).wr (kLane 0 1) 4).wr (kLane 1 1) 4) with frames := { State.reset.frames with unacked := [⟨⟨3, 0, true, false, true, false, 3, 0, 7, [1, 7, 0, 0x41, 0, 0, 0, 0]⟩, 0, 600⟩] } } : State), 3, 0, 0, ⟨⟨3, 0, true, false, true, false, 3, 0, 7, [1, 7, 0, 0x41, 0, 0, 0, 0]⟩, 0, 600⟩, by decide⟩

theorem witness_AcksFreeAndNaksRepeatFrames_10 :
    ∃ (s : State) (typ : Byte) (dst : Byte) (q : Path) (u : Unacked) (x : Forwarded) , s.unackedTo typ.toNat dst.toNat = some u ∧ u.f.path = q ∧ s.rd 0xB00502 ≤ u.tries ∧ u.f.typ = 3 ∧ byteAt u.f.payload 0 = 0 ∧ ((s.frames.waiting.any fun w => sameTriple w u.f) = false) ∧ ((s.frames.forwarded.find? fun y => y.is dst.toNat (byteAt u.f.payload 3) false) = some x) :=
  ⟨({ (((((State.reset.modPower fun p => { p with supervisor := true }).wr kDevState 2).wr kRole 1).wr (kLane 1 1) 4).wr kNodeId 8) with frames := { State.reset.frames with forwarded := [⟨3, 0, 0x41, 900, [0x41, 1, 0, 0, 0, 0, 0, 0]⟩], unacked := [⟨⟨3, 0, false, false, true, false, 0, 3, 0, [0, 6, 0, 0x41]⟩, 9, 600⟩] } } : State), 3, 3, 0, ⟨⟨3, 0, false, false, true, false, 0, 3, 0, [0, 6, 0, 0x41]⟩, 9, 600⟩, ⟨3, 0, 0x41, 900, [0x41, 1, 0, 0, 0, 0, 0, 0]⟩, by decide⟩

theorem witness_AcksFreeAndNaksRepeatFrames_11 :
    ∃ (s : State) (typ : Byte) (dst : Byte) (q : Path) (u : Unacked) (w : SwarmSt) (ws : List SwarmSt) (p : Nat) , s.unackedTo typ.toNat dst.toNat = some u ∧ u.f.path = q ∧ s.rd 0xB00502 ≤ u.tries ∧ u.f.typ = 3 ∧ byteAt u.f.payload 0 = 3 ∧ s.frames.swarm = w :: ws ∧ w.at_ = u.f.dst.toNat ∧ min w.at_ (s.rd 0xB03004) = p + 1 ∧ 1 ≤ p :=
  ⟨({ ((((((State.reset.modPower fun p => { p with supervisor := true }).wr kDevState 2).wr kRole 1).wr (kLane 1 1) 4).wr kNodeId 8).wr 0xB03004 4) with frames := { State.reset.frames with unacked := [⟨⟨3, 0, false, false, true, false, 0, 3, 7, [3, 6, 0, 0x41, 0, 0, 0, 0]⟩, 9, 600⟩], swarm := [⟨0, ⟨5, 0x41, 2, 0, 1, 0xE002, 1, 0, [1]⟩, 3, 0, true⟩] } } : State), 3, 3, 0, ⟨⟨3, 0, false, false, true, false, 0, 3, 7, [3, 6, 0, 0x41, 0, 0, 0, 0]⟩, 9, 600⟩, ⟨0, ⟨5, 0x41, 2, 0, 1, 0xE002, 1, 0, [1]⟩, 3, 0, true⟩, [], 2, by decide⟩

theorem witness_AcksFreeAndNaksRepeatFrames_12 :
    ∃ (s : State) (typ : Byte) (dst : Byte) (q : Path) (u : Unacked) , s.unackedTo typ.toNat dst.toNat = some u ∧ u.f.path = q ∧ s.rd 0xB00502 ≤ u.tries ∧ u.f.typ ≠ 3 ∧ s.egressIs u.f = true ∧ ((s.frames.waiting.any fun w => sameTriple w u.f) = false) :=
  ⟨(({ ((((((State.reset.modPower fun p => { p with supervisor := true }).wr kDevState 2).wr 0xB02001 0).wr 0xB03001 3).wr (kLane 0 1) 4).wr (kLane 1 1) 4) with frames := { State.reset.frames with unacked := [⟨⟨9, 0, true, false, true, false, 3, 0, 7, [1]⟩, 9, 600⟩] } } : State).modCapture fun c => { c with egress := ⟨1, 0, [1], true, none, none⟩ }), 9, 0, 0, ⟨⟨9, 0, true, false, true, false, 3, 0, 7, [1]⟩, 9, 600⟩, by decide⟩

theorem witness_AcksFreeAndNaksRepeatFrames_13 :
    ∃ (s : State) (typ : Byte) (dst : Byte) (q : Path) , (match s.unackedTo typ.toNat dst.toNat with | some u => u.f.path != q | none => true) = true :=
  ⟨({ ((((((State.reset.modPower fun p => { p with supervisor := true }).wr kDevState 2).wr 0xB02001 0).wr 0xB03001 3).wr (kLane 0 1) 4).wr (kLane 1 1) 4) with frames := { State.reset.frames with unacked := [⟨⟨3, 0, true, false, true, false, 3, 0, 7, [1, 7, 0, 0x41, 0, 0, 0, 0]⟩, 0, 600⟩] } } : State), 3, 0, 1, by decide⟩

theorem witness_AcksFreeAndNaksRepeatFrames_14 :
    ∃ (s : State) (node : Byte) (tag : Byte) , ((s.frames.forwarded.find? fun x => x.node == node.toNat && x.tagGen == tag.toNat) = none) :=
  ⟨(((((State.reset.modPower fun p => { p with supervisor := true }).wr kDevState 2).wr kRole 1).wr (kLane 1 1) 4).wr kNodeId 8), 3, 0x41, by decide⟩

theorem witness_AcksFreeAndNaksRepeatFrames_15 :
    ∃ (s : State) (node : Byte) (tag : Byte) (f : Forwarded) , ((s.frames.forwarded.find? fun x => x.node == node.toNat && x.tagGen == tag.toNat) = some f) :=
  ⟨({ (((((State.reset.modPower fun p => { p with supervisor := true }).wr kDevState 2).wr kRole 1).wr (kLane 1 1) 4).wr kNodeId 8) with frames := { State.reset.frames with forwarded := [⟨3, 0, 0x41, 900, [0x41, 1, 0, 0, 0, 0, 0, 0]⟩] } } : State), 3, 0x41, ⟨3, 0, 0x41, 900, [0x41, 1, 0, 0, 0, 0, 0, 0]⟩, by decide⟩

theorem witness_DictFramesServeForwardAndAnswer_1 :
    ∃ (s : State) (f : Frame) , s.laneUp (inLane f) = true ∧ (s.heard f).takesFrom f.path f.src.toNat = true ∧ s.dictHeld.length < 8 ∧ f.seq.toNat = s.expected f ∧ s.manager = false ∧ byteAt f.payload 0 = 0 ∧ byteAt f.payload 1 = 6 ∧ 8 ≤ ((f.payload.drop 8).take (leAt f.payload 4 2)).length ∧ s.unserved = false ∧ s.wdp.tags[tagOf (byteAt f.payload 8)].state = 0 ∧ byteAt f.payload 9 = 0 :=
  ⟨(((((((State.reset.modPower fun p => { p with supervisor := true }).wr kDevState 2).wr 0xB02001 0).wr 0xB03001 3).wr (kLane 0 1) 4).wr (kLane 1 1) 4).wr (kLane (inLane (⟨3, 0, false, false, true, false, 0, 3, 0, [0, 6, 0, 0x41, 8, 0, 0, 0] ++ [0x41, 0, 0, 0, 0, 0, 0, 0]⟩ : Frame)) 1) 4), ⟨3, 0, false, false, true, false, 0, 3, 0, [0, 6, 0, 0x41, 8, 0, 0, 0] ++ [0x41, 0, 0, 0, 0, 0, 0, 0]⟩, by decide⟩

theorem witness_DictFramesServeForwardAndAnswer_2 :
    ∃ (s : State) (f : Frame) , s.laneUp (inLane f) = true ∧ (s.heard f).takesFrom f.path f.src.toNat = true ∧ s.dictHeld.length < 8 ∧ f.seq.toNat = s.expected f ∧ s.manager = true ∧ byteAt f.payload 0 = 1 ∧ 8 ≤ ((f.payload.drop 8).take (leAt f.payload 4 2)).length ∧ ((s.frames.forwarded.any fun x => x.is f.src.toNat (byteAt f.payload 8) false) = true) ∧ byteAt f.payload 9 ≠ 6 :=
  ⟨(({ (((((State.reset.modPower fun p => { p with supervisor := true }).wr kDevState 2).wr kRole 1).wr (kLane 1 1) 4).wr kNodeId 8) with frames := { State.reset.frames with forwarded := [⟨3, 0, 0x41, 900, [0x41, 1, 0, 0, 0, 0, 0, 0]⟩] } } : State).wr (kLane (inLane (⟨3, 0, true, false, true, false, 3, 0, 0, [1, 7, 0, 0x41, 8, 0, 0, 0] ++ [0x41, 1, 0, 0, 0, 0, 0, 0]⟩ : Frame)) 1) 4), ⟨3, 0, true, false, true, false, 3, 0, 0, [1, 7, 0, 0x41, 8, 0, 0, 0] ++ [0x41, 1, 0, 0, 0, 0, 0, 0]⟩, by decide⟩

theorem witness_DictFramesServeForwardAndAnswer_3 :
    ∃ (s : State) (f : Frame) , s.laneUp (inLane f) = true ∧ (s.heard f).takesFrom f.path f.src.toNat = true ∧ s.dictHeld.length < 8 ∧ f.seq.toNat = s.expected f ∧ s.manager = true ∧ byteAt f.payload 0 = 1 ∧ 8 ≤ ((f.payload.drop 8).take (leAt f.payload 4 2)).length ∧ ((s.frames.forwarded.any fun x => x.is f.src.toNat (byteAt f.payload 8) false) = false) ∧ (byteAt f.payload 9 = 1 ∨ byteAt f.payload 9 = 2) :=
  ⟨((((((State.reset.modPower fun p => { p with supervisor := true }).wr kDevState 2).wr kRole 1).wr (kLane 1 1) 4).wr kNodeId 8).wr (kLane (inLane (⟨3, 0, true, false, true, false, 3, 0, 0, [1, 7, 0, 0x41, 8, 0, 0, 0] ++ [0x41, 1, 0, 0, 0, 0, 0, 0]⟩ : Frame)) 1) 4), ⟨3, 0, true, false, true, false, 3, 0, 0, [1, 7, 0, 0x41, 8, 0, 0, 0] ++ [0x41, 1, 0, 0, 0, 0, 0, 0]⟩, by decide⟩

theorem witness_DictFramesServeForwardAndAnswer_4 :
    ∃ (s : State) (f : Frame) (x : Forwarded) , s.laneUp (inLane f) = true ∧ (s.heard f).takesFrom f.path f.src.toNat = true ∧ s.dictHeld.length < 8 ∧ f.seq.toNat = s.expected f ∧ s.manager = true ∧ byteAt f.payload 0 = 4 ∧ ((s.frames.forwarded.find? fun y => y.node == f.src.toNat && y.tagGen == byteAt f.payload 3) = some x) ∧ 8 ≤ x.head.length ∧ x.tagGen = byteAt x.head 0 ∧ byteAt x.head 1 ≠ 6 :=
  ⟨(({ (((((State.reset.modPower fun p => { p with supervisor := true }).wr kDevState 2).wr kRole 1).wr (kLane 1 1) 4).wr kNodeId 8) with frames := { State.reset.frames with forwarded := [⟨3, 0, 0x41, 900, [0x41, 1, 0, 0, 0, 0, 0, 0]⟩] } } : State).wr (kLane (inLane (⟨3, 0, true, false, true, false, 3, 0, 0, [4, 7, 0, 0x41, 8, 0, 0, 0] ++ [0x41, 1, 1, 0, 0, 0, 0, 0]⟩ : Frame)) 1) 4), ⟨3, 0, true, false, true, false, 3, 0, 0, [4, 7, 0, 0x41, 8, 0, 0, 0] ++ [0x41, 1, 1, 0, 0, 0, 0, 0]⟩, ⟨3, 0, 0x41, 900, [0x41, 1, 0, 0, 0, 0, 0, 0]⟩, by decide⟩

theorem witness_DictFramesServeForwardAndAnswer_5 :
    ∃ (s : State) (f : Frame) , s.laneUp (inLane f) = true ∧ (s.heard f).takesFrom f.path f.src.toNat = true ∧ s.dictHeld.length < 8 ∧ f.seq.toNat = s.expected f ∧ s.manager = false ∧ byteAt f.payload 0 = 2 ∧ leAt f.payload 4 2 = 8 ∧ f.payload.length = 16 ∧ byteAt f.payload 9 = 6 ∧ byteAt f.payload 11 = 0 ∧ s.unserved = false ∧ s.running (byteAt f.payload 8) = true :=
  ⟨((((((((State.reset.modPower fun p => { p with supervisor := true }).wr kDevState 2).wr 0xB02001 0).wr 0xB03001 3).wr (kLane 0 1) 4).wr (kLane 1 1) 4).setTag 0x41 1 [0x41, 1, 0, 0, 0, 0, 0, 0] (.can 0)).wr (kLane (inLane (⟨3, 0, false, false, true, false, 0, 3, 0, [2, 9, 0, 0x41, 8, 0, 0, 0] ++ [0x41, 6, 0, 0, 0, 0, 0, 0]⟩ : Frame)) 1) 4), ⟨3, 0, false, false, true, false, 0, 3, 0, [2, 9, 0, 0x41, 8, 0, 0, 0] ++ [0x41, 6, 0, 0, 0, 0, 0, 0]⟩, by decide⟩

theorem witness_DictFramesServeForwardAndAnswer_6 :
    ∃ (s : State) (f : Frame) , s.laneUp (inLane f) = true ∧ (s.heard f).takesFrom f.path f.src.toNat = true ∧ s.dictHeld.length < 8 ∧ f.seq.toNat = s.expected f ∧ s.manager = false ∧ byteAt f.payload 0 = 3 ∧ 8 ≤ ((f.payload.drop 8).take (leAt f.payload 4 2)).length :=
  ⟨(((((((State.reset.modPower fun p => { p with supervisor := true }).wr kDevState 2).wr 0xB02001 0).wr 0xB03001 3).wr (kLane 0 1) 4).wr (kLane 1 1) 4).wr (kLane (inLane (⟨3, 0, false, false, true, false, 0, 3, 0, [3, 6, 0, 0x41, 12, 0, 0, 0] ++ [0x41, 2, 0, 4, 2, 0xE0, 1, 0, 8, 0, 0, 0]⟩ : Frame)) 1) 4), ⟨3, 0, false, false, true, false, 0, 3, 0, [3, 6, 0, 0x41, 12, 0, 0, 0] ++ [0x41, 2, 0, 4, 2, 0xE0, 1, 0, 8, 0, 0, 0]⟩, by decide⟩

theorem witness_DictFramesServeForwardAndAnswer_7 :
    ∃ (s : State) (f : Frame) , s.laneUp (inLane f) = true ∧ byteAt f.payload 0 = 0 ∧ (s.heard f).takesFrom f.path f.src.toNat = true ∧ s.dictHeld.length < 8 ∧ f.seq.toNat ≠ s.expected f :=
  ⟨(({ ((((((State.reset.modPower fun p => { p with supervisor := true }).wr kDevState 2).wr 0xB02001 0).wr 0xB03001 3).wr (kLane 0 1) 4).wr (kLane 1 1) 4) with frames := { State.reset.frames with rxSeq := [(triple 3 0 3, 5)] } } : State).wr (kLane (inLane (⟨3, 0, false, false, true, false, 0, 3, 9, [0, 6, 0, 0x41, 8, 0, 0, 0] ++ [0x41, 0, 0, 0, 0, 0, 0, 0]⟩ : Frame)) 1) 4), ⟨3, 0, false, false, true, false, 0, 3, 9, [0, 6, 0, 0x41, 8, 0, 0, 0] ++ [0x41, 0, 0, 0, 0, 0, 0, 0]⟩, by decide⟩

theorem witness_DictFramesServeForwardAndAnswer_8 :
    ∃ (s : State) (f : Frame) , s.laneUp (inLane f) = true ∧ byteAt f.payload 0 = 1 ∧ (s.heard f).takesFrom f.path f.src.toNat = true ∧ s.dictHeld.length < 8 ∧ f.seq.toNat ≠ s.expected f :=
  ⟨(({ (((((State.reset.modPower fun p => { p with supervisor := true }).wr kDevState 2).wr kRole 1).wr (kLane 1 1) 4).wr kNodeId 8) with frames := { State.reset.frames with rxSeq := [(triple 3 3 0, 5)] } } : State).wr (kLane (inLane (⟨3, 0, false, false, true, false, 3, 0, 9, [1, 6, 0, 0x41, 8, 0, 0, 0] ++ [0x41, 0, 0, 0, 0, 0, 0, 0]⟩ : Frame)) 1) 4), ⟨3, 0, false, false, true, false, 3, 0, 9, [1, 6, 0, 0x41, 8, 0, 0, 0] ++ [0x41, 0, 0, 0, 0, 0, 0, 0]⟩, by decide⟩

theorem witness_DictFramesServeForwardAndAnswer_9 :
    ∃ (s : State) (f : Frame) , s.laneUp (inLane f) = true ∧ byteAt f.payload 0 = 2 ∧ (s.heard f).takesFrom f.path f.src.toNat = true ∧ s.dictHeld.length < 8 ∧ f.seq.toNat ≠ s.expected f :=
  ⟨(({ ((((((State.reset.modPower fun p => { p with supervisor := true }).wr kDevState 2).wr 0xB02001 0).wr 0xB03001 3).wr (kLane 0 1) 4).wr (kLane 1 1) 4) with frames := { State.reset.frames with rxSeq := [(triple 3 0 3, 5)] } } : State).wr (kLane (inLane (⟨3, 0, false, false, true, false, 0, 3, 9, [2, 6, 0, 0x41, 8, 0, 0, 0] ++ [0x41, 0, 0, 0, 0, 0, 0, 0]⟩ : Frame)) 1) 4), ⟨3, 0, false, false, true, false, 0, 3, 9, [2, 6, 0, 0x41, 8, 0, 0, 0] ++ [0x41, 0, 0, 0, 0, 0, 0, 0]⟩, by decide⟩

theorem witness_DictFramesServeForwardAndAnswer_10 :
    ∃ (s : State) (f : Frame) , s.laneUp (inLane f) = true ∧ byteAt f.payload 0 = 3 ∧ (s.heard f).takesFrom f.path f.src.toNat = true ∧ s.dictHeld.length < 8 ∧ f.seq.toNat ≠ s.expected f :=
  ⟨(({ ((((((State.reset.modPower fun p => { p with supervisor := true }).wr kDevState 2).wr 0xB02001 0).wr 0xB03001 3).wr (kLane 0 1) 4).wr (kLane 1 1) 4) with frames := { State.reset.frames with rxSeq := [(triple 3 0 3, 5)] } } : State).wr (kLane (inLane (⟨3, 0, false, false, true, false, 0, 3, 9, [3, 6, 0, 0x41, 8, 0, 0, 0] ++ [0x41, 0, 0, 0, 0, 0, 0, 0]⟩ : Frame)) 1) 4), ⟨3, 0, false, false, true, false, 0, 3, 9, [3, 6, 0, 0x41, 8, 0, 0, 0] ++ [0x41, 0, 0, 0, 0, 0, 0, 0]⟩, by decide⟩

theorem witness_DictFramesServeForwardAndAnswer_11 :
    ∃ (s : State) (f : Frame) , s.laneUp (inLane f) = true ∧ byteAt f.payload 0 = 4 ∧ (s.heard f).takesFrom f.path f.src.toNat = true ∧ s.dictHeld.length < 8 ∧ f.seq.toNat ≠ s.expected f :=
  ⟨(({ (((((State.reset.modPower fun p => { p with supervisor := true }).wr kDevState 2).wr kRole 1).wr (kLane 1 1) 4).wr kNodeId 8) with frames := { State.reset.frames with rxSeq := [(triple 3 3 0, 5)] } } : State).wr (kLane (inLane (⟨3, 0, false, false, true, false, 3, 0, 9, [4, 6, 0, 0x41, 8, 0, 0, 0] ++ [0x41, 0, 0, 0, 0, 0, 0, 0]⟩ : Frame)) 1) 4), ⟨3, 0, false, false, true, false, 3, 0, 9, [4, 6, 0, 0x41, 8, 0, 0, 0] ++ [0x41, 0, 0, 0, 0, 0, 0, 0]⟩, by decide⟩

theorem witness_DictFramesServeForwardAndAnswer_12 :
    ∃ (s : State) (f : Frame) , s.laneUp (inLane f) = true ∧ byteAt f.payload 0 = 0 ∧ (s.heard f).takesFrom f.path f.src.toNat = true ∧ 8 ≤ s.dictHeld.length :=
  ⟨(({ ((((((State.reset.modPower fun p => { p with supervisor := true }).wr kDevState 2).wr 0xB02001 0).wr 0xB03001 3).wr (kLane 0 1) 4).wr (kLane 1 1) 4) with frames := { State.reset.frames with dictEnds := [9, 19, 29, 39, 49, 59, 69, 79] } } : State).wr (kLane (inLane (⟨3, 0, false, false, true, false, 0, 3, 0, [0, 6, 0, 0x41, 8, 0, 0, 0] ++ [0x41, 0, 0, 0, 0, 0, 0, 0]⟩ : Frame)) 1) 4), ⟨3, 0, false, false, true, false, 0, 3, 0, [0, 6, 0, 0x41, 8, 0, 0, 0] ++ [0x41, 0, 0, 0, 0, 0, 0, 0]⟩, by decide⟩

theorem witness_DictFramesServeForwardAndAnswer_13 :
    ∃ (s : State) (f : Frame) , s.laneUp (inLane f) = true ∧ byteAt f.payload 0 = 1 ∧ (s.heard f).takesFrom f.path f.src.toNat = true ∧ 8 ≤ s.dictHeld.length :=
  ⟨(({ (((((State.reset.modPower fun p => { p with supervisor := true }).wr kDevState 2).wr kRole 1).wr (kLane 1 1) 4).wr kNodeId 8) with frames := { State.reset.frames with dictEnds := [9, 19, 29, 39, 49, 59, 69, 79] } } : State).wr (kLane (inLane (⟨3, 0, false, false, true, false, 3, 0, 0, [1, 6, 0, 0x41, 8, 0, 0, 0] ++ [0x41, 0, 0, 0, 0, 0, 0, 0]⟩ : Frame)) 1) 4), ⟨3, 0, false, false, true, false, 3, 0, 0, [1, 6, 0, 0x41, 8, 0, 0, 0] ++ [0x41, 0, 0, 0, 0, 0, 0, 0]⟩, by decide⟩

theorem witness_DictFramesServeForwardAndAnswer_14 :
    ∃ (s : State) (f : Frame) , s.laneUp (inLane f) = true ∧ byteAt f.payload 0 = 2 ∧ (s.heard f).takesFrom f.path f.src.toNat = true ∧ 8 ≤ s.dictHeld.length :=
  ⟨(({ ((((((State.reset.modPower fun p => { p with supervisor := true }).wr kDevState 2).wr 0xB02001 0).wr 0xB03001 3).wr (kLane 0 1) 4).wr (kLane 1 1) 4) with frames := { State.reset.frames with dictEnds := [9, 19, 29, 39, 49, 59, 69, 79] } } : State).wr (kLane (inLane (⟨3, 0, false, false, true, false, 0, 3, 0, [2, 6, 0, 0x41, 8, 0, 0, 0] ++ [0x41, 0, 0, 0, 0, 0, 0, 0]⟩ : Frame)) 1) 4), ⟨3, 0, false, false, true, false, 0, 3, 0, [2, 6, 0, 0x41, 8, 0, 0, 0] ++ [0x41, 0, 0, 0, 0, 0, 0, 0]⟩, by decide⟩

theorem witness_DictFramesServeForwardAndAnswer_15 :
    ∃ (s : State) (f : Frame) , s.laneUp (inLane f) = true ∧ byteAt f.payload 0 = 3 ∧ (s.heard f).takesFrom f.path f.src.toNat = true ∧ 8 ≤ s.dictHeld.length :=
  ⟨(({ ((((((State.reset.modPower fun p => { p with supervisor := true }).wr kDevState 2).wr 0xB02001 0).wr 0xB03001 3).wr (kLane 0 1) 4).wr (kLane 1 1) 4) with frames := { State.reset.frames with dictEnds := [9, 19, 29, 39, 49, 59, 69, 79] } } : State).wr (kLane (inLane (⟨3, 0, false, false, true, false, 0, 3, 0, [3, 6, 0, 0x41, 8, 0, 0, 0] ++ [0x41, 0, 0, 0, 0, 0, 0, 0]⟩ : Frame)) 1) 4), ⟨3, 0, false, false, true, false, 0, 3, 0, [3, 6, 0, 0x41, 8, 0, 0, 0] ++ [0x41, 0, 0, 0, 0, 0, 0, 0]⟩, by decide⟩

theorem witness_DictFramesServeForwardAndAnswer_16 :
    ∃ (s : State) (f : Frame) , s.laneUp (inLane f) = true ∧ byteAt f.payload 0 = 4 ∧ (s.heard f).takesFrom f.path f.src.toNat = true ∧ 8 ≤ s.dictHeld.length :=
  ⟨(({ (((((State.reset.modPower fun p => { p with supervisor := true }).wr kDevState 2).wr kRole 1).wr (kLane 1 1) 4).wr kNodeId 8) with frames := { State.reset.frames with dictEnds := [9, 19, 29, 39, 49, 59, 69, 79] } } : State).wr (kLane (inLane (⟨3, 0, false, false, true, false, 3, 0, 0, [4, 6, 0, 0x41, 8, 0, 0, 0] ++ [0x41, 0, 0, 0, 0, 0, 0, 0]⟩ : Frame)) 1) 4), ⟨3, 0, false, false, true, false, 3, 0, 0, [4, 6, 0, 0x41, 8, 0, 0, 0] ++ [0x41, 0, 0, 0, 0, 0, 0, 0]⟩, by decide⟩

theorem witness_DictFramesServeForwardAndAnswer_17 :
    ∃ (s : State) (f : Frame) , s.laneUp (inLane f) = true ∧ byteAt f.payload 0 = 0 ∧ (s.heard f).takesFrom f.path f.src.toNat = false :=
  ⟨((State.reset.wr 0xB02001 0xFF).wr (kLane (inLane (⟨3, 0, false, false, true, false, 0, 3, 0, [0, 6, 0, 0x41, 8, 0, 0, 0] ++ [0x41, 0, 0, 0, 0, 0, 0, 0]⟩ : Frame)) 1) 4), ⟨3, 0, false, false, true, false, 0, 3, 0, [0, 6, 0, 0x41, 8, 0, 0, 0] ++ [0x41, 0, 0, 0, 0, 0, 0, 0]⟩, by decide⟩

theorem witness_DictFramesServeForwardAndAnswer_18 :
    ∃ (s : State) (f : Frame) , s.laneUp (inLane f) = true ∧ byteAt f.payload 0 = 1 ∧ (s.heard f).takesFrom f.path f.src.toNat = false :=
  ⟨((State.reset.wr 0xB02001 0xFF).wr (kLane (inLane (⟨3, 0, false, false, true, false, 3, 0, 0, [1, 6, 0, 0x41, 8, 0, 0, 0] ++ [0x41, 0, 0, 0, 0, 0, 0, 0]⟩ : Frame)) 1) 4), ⟨3, 0, false, false, true, false, 3, 0, 0, [1, 6, 0, 0x41, 8, 0, 0, 0] ++ [0x41, 0, 0, 0, 0, 0, 0, 0]⟩, by decide⟩

theorem witness_DictFramesServeForwardAndAnswer_19 :
    ∃ (s : State) (f : Frame) , s.laneUp (inLane f) = true ∧ byteAt f.payload 0 = 2 ∧ (s.heard f).takesFrom f.path f.src.toNat = false :=
  ⟨((State.reset.wr 0xB02001 0xFF).wr (kLane (inLane (⟨3, 0, false, false, true, false, 0, 3, 0, [2, 6, 0, 0x41, 8, 0, 0, 0] ++ [0x41, 0, 0, 0, 0, 0, 0, 0]⟩ : Frame)) 1) 4), ⟨3, 0, false, false, true, false, 0, 3, 0, [2, 6, 0, 0x41, 8, 0, 0, 0] ++ [0x41, 0, 0, 0, 0, 0, 0, 0]⟩, by decide⟩

theorem witness_DictFramesServeForwardAndAnswer_20 :
    ∃ (s : State) (f : Frame) , s.laneUp (inLane f) = true ∧ byteAt f.payload 0 = 3 ∧ (s.heard f).takesFrom f.path f.src.toNat = false :=
  ⟨((State.reset.wr 0xB02001 0xFF).wr (kLane (inLane (⟨3, 0, false, false, true, false, 0, 3, 0, [3, 6, 0, 0x41, 8, 0, 0, 0] ++ [0x41, 0, 0, 0, 0, 0, 0, 0]⟩ : Frame)) 1) 4), ⟨3, 0, false, false, true, false, 0, 3, 0, [3, 6, 0, 0x41, 8, 0, 0, 0] ++ [0x41, 0, 0, 0, 0, 0, 0, 0]⟩, by decide⟩

theorem witness_DictFramesServeForwardAndAnswer_21 :
    ∃ (s : State) (f : Frame) , s.laneUp (inLane f) = true ∧ byteAt f.payload 0 = 4 ∧ (s.heard f).takesFrom f.path f.src.toNat = false :=
  ⟨((State.reset.wr 0xB02001 0xFF).wr (kLane (inLane (⟨3, 0, false, false, true, false, 3, 0, 0, [4, 6, 0, 0x41, 8, 0, 0, 0] ++ [0x41, 0, 0, 0, 0, 0, 0, 0]⟩ : Frame)) 1) 4), ⟨3, 0, false, false, true, false, 3, 0, 0, [4, 6, 0, 0x41, 8, 0, 0, 0] ++ [0x41, 0, 0, 0, 0, 0, 0, 0]⟩, by decide⟩

theorem witness_DictFramesServeForwardAndAnswer_22 :
    ∃ (s : State) (f : Frame) , byteAt f.payload 0 ≠ 0 :=
  ⟨State.reset, ⟨3, 0, false, false, true, false, 0, 3, 0, [9, 6, 0, 0x41, 8, 0, 0, 0] ++ [0x41, 0, 0, 0, 0, 0, 0, 0]⟩, by decide⟩

theorem witness_DictFramesServeForwardAndAnswer_23 :
    ∃ (s : State) (f : Frame) , byteAt f.payload 0 ≠ 1 :=
  ⟨State.reset, ⟨3, 0, false, false, true, false, 3, 0, 0, [9, 6, 0, 0x41, 8, 0, 0, 0] ++ [0x41, 0, 0, 0, 0, 0, 0, 0]⟩, by decide⟩

theorem witness_DictFramesServeForwardAndAnswer_24 :
    ∃ (s : State) (f : Frame) , byteAt f.payload 0 ≠ 2 :=
  ⟨State.reset, ⟨3, 0, false, false, true, false, 0, 3, 0, [9, 6, 0, 0x41, 8, 0, 0, 0] ++ [0x41, 0, 0, 0, 0, 0, 0, 0]⟩, by decide⟩

theorem witness_DictFramesServeForwardAndAnswer_25 :
    ∃ (s : State) (f : Frame) , byteAt f.payload 0 ≠ 3 :=
  ⟨State.reset, ⟨3, 0, false, false, true, false, 0, 3, 0, [9, 6, 0, 0x41, 8, 0, 0, 0] ++ [0x41, 0, 0, 0, 0, 0, 0, 0]⟩, by decide⟩

theorem witness_DictFramesServeForwardAndAnswer_26 :
    ∃ (s : State) (f : Frame) , byteAt f.payload 0 ≠ 4 :=
  ⟨State.reset, ⟨3, 0, false, false, true, false, 3, 0, 0, [9, 6, 0, 0x41, 8, 0, 0, 0] ++ [0x41, 0, 0, 0, 0, 0, 0, 0]⟩, by decide⟩

theorem witness_DictFramesServeForwardAndAnswer_27 :
    ∃ (s : State) (u : Fin 2) (g : Telegram) , s.mine (.can u) g = false ∧ (s.unserved = true ∨ s.node = 0 ∨ s.power.bootLoader = true ∨ (g.node ≠ 0 ∧ (s.manager = false ∨ s.power.supervisor = false)) ∨ (g.node = 0 ∧ s.manager = false)) :=
  ⟨(((State.reset.modPower fun p => { p with supervisor := true }).wr kDevState 2).wr kNodeId 5), 0, ⟨6, 0x41, 1, 0, 0, 0x1000, 2, 0, []⟩, by decide⟩

theorem witness_DictFramesServeForwardAndAnswer_28 :
    ∃ (s : State) (u : Fin 2) (g : Telegram) , s.mine (.can u) g = false ∧ (s.unserved = true ∨ s.node = 0 ∨ s.power.bootLoader = true ∨ (g.node ≠ 0 ∧ (s.manager = false ∨ s.power.supervisor = false)) ∨ (g.node = 0 ∧ s.manager = false)) :=
  ⟨(((State.reset.modPower fun p => { p with supervisor := true }).wr kDevState 2).wr kNodeId 5), 0, ⟨6, 0x41, 2, 0, 0, 0x1000, 2, 0, []⟩, by decide⟩

theorem witness_DictFramesServeForwardAndAnswer_29 :
    ∃ (s : State) (u : Fin 2) (g : Telegram) , s.mine (.can u) g = false ∧ (s.unserved = true ∨ s.node = 0 ∨ s.power.bootLoader = true ∨ (g.node ≠ 0 ∧ (s.manager = false ∨ s.power.supervisor = false)) ∨ (g.node = 0 ∧ s.manager = false)) :=
  ⟨(((State.reset.modPower fun p => { p with supervisor := true }).wr kDevState 2).wr kNodeId 5), 0, ⟨6, 0x41, 3, 0, 0, 0x1000, 2, 0, []⟩, by decide⟩

theorem witness_DictFramesServeForwardAndAnswer_30 :
    ∃ (s : State) (u : Fin 2) (g : Telegram) , s.mine (.can u) g = false ∧ (s.unserved = true ∨ s.node = 0 ∨ s.power.bootLoader = true ∨ (g.node ≠ 0 ∧ (s.manager = false ∨ s.power.supervisor = false)) ∨ (g.node = 0 ∧ s.manager = false)) :=
  ⟨(((State.reset.modPower fun p => { p with supervisor := true }).wr kDevState 2).wr kNodeId 5), 0, ⟨6, 0x41, 4, 0, 0, 0x1000, 2, 0, []⟩, by decide⟩

theorem witness_DictFramesServeForwardAndAnswer_31 :
    ∃ (s : State) (u : Fin 2) (g : Telegram) , s.mine (.can u) g = false ∧ (s.unserved = true ∨ s.node = 0 ∨ s.power.bootLoader = true ∨ (g.node ≠ 0 ∧ (s.manager = false ∨ s.power.supervisor = false)) ∨ (g.node = 0 ∧ s.manager = false)) :=
  ⟨(((State.reset.modPower fun p => { p with supervisor := true }).wr kDevState 2).wr kNodeId 5), 0, ⟨6, 0x41, 5, 0, 0, 0x1000, 2, 0, []⟩, by decide⟩

theorem witness_DictFramesServeForwardAndAnswer_32 :
    ∃ (s : State) (u : Fin 2) (g : Telegram) , s.mine (.can u) g = false ∧ (s.unserved = true ∨ s.node = 0 ∨ s.power.bootLoader = true ∨ (g.node ≠ 0 ∧ (s.manager = false ∨ s.power.supervisor = false)) ∨ (g.node = 0 ∧ s.manager = false)) :=
  ⟨(((State.reset.modPower fun p => { p with supervisor := true }).wr kDevState 2).wr kNodeId 5), 0, ⟨6, 0x41, 16, 0, 0, 0x1000, 2, 0, []⟩, by decide⟩

theorem witness_DictFramesServeForwardAndAnswer_33 :
    ∃ (s : State) (u : Fin 2) (g : Telegram) , s.mine (.can u) g = false ∧ (s.unserved = true ∨ s.node = 0 ∨ s.power.bootLoader = true ∨ (g.node ≠ 0 ∧ (s.manager = false ∨ s.power.supervisor = false)) ∨ (g.node = 0 ∧ s.manager = false)) :=
  ⟨(((State.reset.modPower fun p => { p with supervisor := true }).wr kDevState 2).wr kNodeId 5), 0, ⟨6, 0x41, 17, 0, 0, 0x1000, 2, 0, []⟩, by decide⟩

theorem witness_DictFramesServeForwardAndAnswer_34 :
    ∃ (s : State) (u : Fin 2) (g : Telegram) , s.mine (.can u) g = false ∧ (s.unserved = true ∨ s.node = 0 ∨ s.power.bootLoader = true ∨ (g.node ≠ 0 ∧ (s.manager = false ∨ s.power.supervisor = false)) ∨ (g.node = 0 ∧ s.manager = false)) :=
  ⟨(((State.reset.modPower fun p => { p with supervisor := true }).wr kDevState 2).wr kNodeId 5), 0, ⟨6, 0x41, 6, 0, 0, 0x1000, 2, 0, []⟩, by decide⟩

theorem witness_DictFramesServeForwardAndAnswer_35 :
    ∃ (s : State) (u : Fin 2) (g : Telegram) (p : Nat) , s.mine (.can u) g = false ∧ s.manager = true ∧ s.power.supervisor = true ∧ s.power.bootLoader = false ∧ s.node ≠ 0 ∧ g.node.toNat = s.node + p ∧ 1 ≤ p ∧ p ≤ 31 ∧ s.bitAt 0xB04001 p = true ∧ g.op = 1 ∧ ((s.frames.forwarded.any fun f => f.is p (tgOf g) false) = false) ∧ ((s.frames.forwarded.any fun f => f.node == p && f.tagGen % 64 == tgOf g % 64) = false) ∧ s.frames.forwarded.length < 64 :=
  ⟨((((((State.reset.modPower fun p => { p with supervisor := true }).wr kDevState 2).wr kNodeId 5).wr kRole 1).wr 0xB04001 0xFFFFFFFF).wr 0xB03004 4), 0, ⟨6, 0x41, 1, 0, 0, 0x1000, 2, 0, []⟩, 1, by decide⟩

theorem witness_DictFramesServeForwardAndAnswer_36 :
    ∃ (s : State) (u : Fin 2) (g : Telegram) (p : Nat) , s.mine (.can u) g = false ∧ s.manager = true ∧ s.power.supervisor = true ∧ s.power.bootLoader = false ∧ s.node ≠ 0 ∧ g.node.toNat = s.node + p ∧ 1 ≤ p ∧ p ≤ 31 ∧ s.bitAt 0xB04001 p = true ∧ g.op = 2 ∧ s.fromHolder (.can u) = true ∧ ((s.frames.forwarded.any fun f => f.is p (tgOf g) false) = false) ∧ ((s.frames.forwarded.any fun f => f.node == p && f.tagGen % 64 == tgOf g % 64) = false) ∧ s.frames.forwarded.length < 64 :=
  ⟨((((((State.reset.modPower fun p => { p with supervisor := true }).wr kDevState 2).wr kNodeId 5).wr kRole 1).wr 0xB04001 0xFFFFFFFF).wr 0xB03004 4), 0, ⟨6, 0x41, 2, 0, 0, 0x1000, 2, 0, []⟩, 1, by decide⟩

theorem witness_DictFramesServeForwardAndAnswer_37 :
    ∃ (s : State) (u : Fin 2) (g : Telegram) (p : Nat) , s.mine (.can u) g = false ∧ s.manager = true ∧ s.power.supervisor = true ∧ s.power.bootLoader = false ∧ s.node ≠ 0 ∧ g.node.toNat = s.node + p ∧ 1 ≤ p ∧ p ≤ 31 ∧ s.bitAt 0xB04001 p = true ∧ g.op = 3 ∧ ((s.frames.forwarded.any fun f => f.is p (tgOf g) false) = false) ∧ ((s.frames.forwarded.any fun f => f.node == p && f.tagGen % 64 == tgOf g % 64) = false) ∧ s.frames.forwarded.length < 64 :=
  ⟨((((((State.reset.modPower fun p => { p with supervisor := true }).wr kDevState 2).wr kNodeId 5).wr kRole 1).wr 0xB04001 0xFFFFFFFF).wr 0xB03004 4), 0, ⟨6, 0x41, 3, 0, 0, 0x1000, 2, 0, []⟩, 1, by decide⟩

theorem witness_DictFramesServeForwardAndAnswer_38 :
    ∃ (s : State) (u : Fin 2) (g : Telegram) (p : Nat) , s.mine (.can u) g = false ∧ s.manager = true ∧ s.power.supervisor = true ∧ s.power.bootLoader = false ∧ s.node ≠ 0 ∧ g.node.toNat = s.node + p ∧ 1 ≤ p ∧ p ≤ 31 ∧ s.bitAt 0xB04001 p = true ∧ g.op = 4 ∧ s.fromHolder (.can u) = true ∧ ((s.frames.forwarded.any fun f => f.is p (tgOf g) false) = false) ∧ ((s.frames.forwarded.any fun f => f.node == p && f.tagGen % 64 == tgOf g % 64) = false) ∧ s.frames.forwarded.length < 64 :=
  ⟨((((((State.reset.modPower fun p => { p with supervisor := true }).wr kDevState 2).wr kNodeId 5).wr kRole 1).wr 0xB04001 0xFFFFFFFF).wr 0xB03004 4), 0, ⟨6, 0x41, 4, 0, 0, 0x1000, 2, 0, []⟩, 1, by decide⟩

theorem witness_DictFramesServeForwardAndAnswer_39 :
    ∃ (s : State) (u : Fin 2) (g : Telegram) (p : Nat) , s.mine (.can u) g = false ∧ s.manager = true ∧ s.power.supervisor = true ∧ s.power.bootLoader = false ∧ s.node ≠ 0 ∧ g.node.toNat = s.node + p ∧ 1 ≤ p ∧ p ≤ 31 ∧ s.bitAt 0xB04001 p = true ∧ s.fromHolder (.can u) = true ∧ ((s.frames.forwarded.any fun f => f.is p (tgOf g) false) = false) ∧ ((s.frames.forwarded.any fun f => f.node == p && f.tagGen % 64 == tgOf g % 64) = false) ∧ s.frames.forwarded.length < 64 :=
  ⟨((((((State.reset.modPower fun p => { p with supervisor := true }).wr kDevState 2).wr kNodeId 5).wr kRole 1).wr 0xB04001 0xFFFFFFFF).wr 0xB03004 4), 0, ⟨6, 0x41, 5, 0, 0, 0x1000, 2, 0, []⟩, 1, by decide⟩

theorem witness_DictFramesServeForwardAndAnswer_40 :
    ∃ (s : State) (u : Fin 2) (g : Telegram) (p : Nat) , s.mine (.can u) g = false ∧ s.manager = true ∧ s.power.supervisor = true ∧ s.power.bootLoader = false ∧ s.node ≠ 0 ∧ g.node.toNat = s.node + p ∧ 1 ≤ p ∧ p ≤ 31 ∧ s.bitAt 0xB04001 p = true ∧ s.fromHolder (.can u) = true ∧ ((s.frames.forwarded.any fun f => f.is p (tgOf g) true) = false) ∧ s.frames.forwarded.length < 64 :=
  ⟨((((((State.reset.modPower fun p => { p with supervisor := true }).wr kDevState 2).wr kNodeId 5).wr kRole 1).wr 0xB04001 0xFFFFFFFF).wr 0xB03004 4), 0, ⟨6, 0x41, 6, 0, 0, 0x1000, 2, 0, []⟩, 1, by decide⟩

theorem witness_DictFramesServeForwardAndAnswer_41 :
    ∃ (s : State) (u : Fin 2) (g : Telegram) (p : Nat) , s.mine (.can u) g = false ∧ s.manager = true ∧ s.power.supervisor = true ∧ s.power.bootLoader = false ∧ s.node ≠ 0 ∧ g.node.toNat = s.node + p ∧ 1 ≤ p ∧ p ≤ 31 ∧ s.bitAt 0xB04001 p = true ∧ g.op = 16 ∧ s.fromHolder (.can u) = true :=
  ⟨((((((State.reset.modPower fun p => { p with supervisor := true }).wr kDevState 2).wr kNodeId 5).wr kRole 1).wr 0xB04001 0xFFFFFFFF).wr 0xB03004 4), 0, ⟨6, 0x41, 16, 0, 0, 0x1000, 2, 0, []⟩, 1, by decide⟩

theorem witness_DictFramesServeForwardAndAnswer_42 :
    ∃ (s : State) (u : Fin 2) (g : Telegram) (p : Nat) , s.mine (.can u) g = false ∧ s.manager = true ∧ s.power.supervisor = true ∧ s.power.bootLoader = false ∧ s.node ≠ 0 ∧ g.node.toNat = s.node + p ∧ 1 ≤ p ∧ p ≤ 31 ∧ s.bitAt 0xB04001 p = true ∧ g.op = 17 :=
  ⟨((((((State.reset.modPower fun p => { p with supervisor := true }).wr kDevState 2).wr kNodeId 5).wr kRole 1).wr 0xB04001 0xFFFFFFFF).wr 0xB03004 4), 0, ⟨6, 0x41, 17, 0, 0, 0x1000, 2, 0, []⟩, 1, by decide⟩

theorem witness_DictFramesServeForwardAndAnswer_43 :
    ∃ (s : State) (u : Fin 2) (g : Telegram) (p : Nat) , s.mine (.can u) g = false ∧ s.manager = true ∧ s.power.supervisor = true ∧ s.power.bootLoader = false ∧ s.node ≠ 0 ∧ g.node.toNat = s.node + p ∧ 1 ≤ p ∧ p ≤ 31 ∧ s.bitAt 0xB04001 p = true ∧ g.op = 2 ∧ s.fromHolder (.can u) = false :=
  ⟨((((((State.reset.modPower fun p => { p with supervisor := true }).wr kDevState 2).wr kNodeId 5).wr kRole 1).wr 0xB04001 0xFFFFFFFF).wr 0xB03004 4), 1, ⟨6, 0x41, 2, 0, 0, 0x1000, 2, 0, []⟩, 1, by decide⟩

theorem witness_DictFramesServeForwardAndAnswer_44 :
    ∃ (s : State) (u : Fin 2) (g : Telegram) (p : Nat) , s.mine (.can u) g = false ∧ s.manager = true ∧ s.power.supervisor = true ∧ s.power.bootLoader = false ∧ s.node ≠ 0 ∧ g.node.toNat = s.node + p ∧ 1 ≤ p ∧ p ≤ 31 ∧ s.bitAt 0xB04001 p = true ∧ g.op = 4 ∧ s.fromHolder (.can u) = false :=
  ⟨((((((State.reset.modPower fun p => { p with supervisor := true }).wr kDevState 2).wr kNodeId 5).wr kRole 1).wr 0xB04001 0xFFFFFFFF).wr 0xB03004 4), 1, ⟨6, 0x41, 4, 0, 0, 0x1000, 2, 0, []⟩, 1, by decide⟩

theorem witness_DictFramesServeForwardAndAnswer_45 :
    ∃ (s : State) (u : Fin 2) (g : Telegram) (p : Nat) , s.mine (.can u) g = false ∧ s.manager = true ∧ s.power.supervisor = true ∧ s.power.bootLoader = false ∧ s.node ≠ 0 ∧ g.node.toNat = s.node + p ∧ 1 ≤ p ∧ p ≤ 31 ∧ s.bitAt 0xB04001 p = true ∧ g.op = 5 ∧ s.fromHolder (.can u) = false :=
  ⟨((((((State.reset.modPower fun p => { p with supervisor := true }).wr kDevState 2).wr kNodeId 5).wr kRole 1).wr 0xB04001 0xFFFFFFFF).wr 0xB03004 4), 1, ⟨6, 0x41, 5, 0, 0, 0x1000, 2, 0, []⟩, 1, by decide⟩

theorem witness_DictFramesServeForwardAndAnswer_46 :
    ∃ (s : State) (u : Fin 2) (g : Telegram) (p : Nat) , s.mine (.can u) g = false ∧ s.manager = true ∧ s.power.supervisor = true ∧ s.power.bootLoader = false ∧ s.node ≠ 0 ∧ g.node.toNat = s.node + p ∧ 1 ≤ p ∧ p ≤ 31 ∧ s.bitAt 0xB04001 p = true ∧ g.op = 6 ∧ s.fromHolder (.can u) = false :=
  ⟨((((((State.reset.modPower fun p => { p with supervisor := true }).wr kDevState 2).wr kNodeId 5).wr kRole 1).wr 0xB04001 0xFFFFFFFF).wr 0xB03004 4), 1, ⟨6, 0x41, 6, 0, 0, 0x1000, 2, 0, []⟩, 1, by decide⟩

theorem witness_DictFramesServeForwardAndAnswer_47 :
    ∃ (s : State) (u : Fin 2) (g : Telegram) (p : Nat) , s.mine (.can u) g = false ∧ s.manager = true ∧ s.power.supervisor = true ∧ s.power.bootLoader = false ∧ s.node ≠ 0 ∧ g.node.toNat = s.node + p ∧ 1 ≤ p ∧ p ≤ 31 ∧ s.bitAt 0xB04001 p = true ∧ g.op = 16 ∧ s.fromHolder (.can u) = false :=
  ⟨((((((State.reset.modPower fun p => { p with supervisor := true }).wr kDevState 2).wr kNodeId 5).wr kRole 1).wr 0xB04001 0xFFFFFFFF).wr 0xB03004 4), 1, ⟨6, 0x41, 16, 0, 0, 0x1000, 2, 0, []⟩, 1, by decide⟩

theorem witness_DictFramesServeForwardAndAnswer_48 :
    ∃ (s : State) (u : Fin 2) (g : Telegram) (p : Nat) , s.mine (.can u) g = false ∧ s.manager = true ∧ s.power.supervisor = true ∧ s.power.bootLoader = false ∧ s.node ≠ 0 ∧ g.node.toNat = s.node + p ∧ 1 ≤ p ∧ p ≤ 31 ∧ s.bitAt 0xB04001 p = true ∧ g.op = 1 ∧ ((s.frames.forwarded.any fun f => f.is p (tgOf g) false) = true) :=
  ⟨({ ((((((State.reset.modPower fun p => { p with supervisor := true }).wr kDevState 2).wr kNodeId 5).wr kRole 1).wr 0xB04001 0xFFFFFFFF).wr 0xB03004 4) with frames := { State.reset.frames with forwarded := [⟨1, 0, 0x41, 900, [0x41, 1, 0, 0, 0, 0, 0, 0]⟩] } } : State), 0, ⟨6, 0x41, 1, 0, 0, 0x1000, 2, 0, []⟩, 1, by decide⟩

theorem witness_DictFramesServeForwardAndAnswer_49 :
    ∃ (s : State) (u : Fin 2) (g : Telegram) (p : Nat) , s.mine (.can u) g = false ∧ s.manager = true ∧ s.power.supervisor = true ∧ s.power.bootLoader = false ∧ s.node ≠ 0 ∧ g.node.toNat = s.node + p ∧ 1 ≤ p ∧ p ≤ 31 ∧ s.bitAt 0xB04001 p = true ∧ g.op = 2 ∧ s.fromHolder (.can u) = true ∧ ((s.frames.forwarded.any fun f => f.is p (tgOf g) false) = true) :=
  ⟨({ ((((((State.reset.modPower fun p => { p with supervisor := true }).wr kDevState 2).wr kNodeId 5).wr kRole 1).wr 0xB04001 0xFFFFFFFF).wr 0xB03004 4) with frames := { State.reset.frames with forwarded := [⟨1, 0, 0x41, 900, [0x41, 2, 0, 0, 0, 0, 0, 0]⟩] } } : State), 0, ⟨6, 0x41, 2, 0, 0, 0x1000, 2, 0, []⟩, 1, by decide⟩

theorem witness_DictFramesServeForwardAndAnswer_50 :
    ∃ (s : State) (u : Fin 2) (g : Telegram) (p : Nat) , s.mine (.can u) g = false ∧ s.manager = true ∧ s.power.supervisor = true ∧ s.power.bootLoader = false ∧ s.node ≠ 0 ∧ g.node.toNat = s.node + p ∧ 1 ≤ p ∧ p ≤ 31 ∧ s.bitAt 0xB04001 p = true ∧ g.op = 3 ∧ ((s.frames.forwarded.any fun f => f.is p (tgOf g) false) = true) :=
  ⟨({ ((((((State.reset.modPower fun p => { p with supervisor := true }).wr kDevState 2).wr kNodeId 5).wr kRole 1).wr 0xB04001 0xFFFFFFFF).wr 0xB03004 4) with frames := { State.reset.frames with forwarded := [⟨1, 0, 0x41, 900, [0x41, 3, 0, 0, 0, 0, 0, 0]⟩] } } : State), 0, ⟨6, 0x41, 3, 0, 0, 0x1000, 2, 0, []⟩, 1, by decide⟩

theorem witness_DictFramesServeForwardAndAnswer_51 :
    ∃ (s : State) (u : Fin 2) (g : Telegram) (p : Nat) , s.mine (.can u) g = false ∧ s.manager = true ∧ s.power.supervisor = true ∧ s.power.bootLoader = false ∧ s.node ≠ 0 ∧ g.node.toNat = s.node + p ∧ 1 ≤ p ∧ p ≤ 31 ∧ s.bitAt 0xB04001 p = true ∧ g.op = 4 ∧ s.fromHolder (.can u) = true ∧ ((s.frames.forwarded.any fun f => f.is p (tgOf g) false) = true) :=
  ⟨({ ((((((State.reset.modPower fun p => { p with supervisor := true }).wr kDevState 2).wr kNodeId 5).wr kRole 1).wr 0xB04001 0xFFFFFFFF).wr 0xB03004 4) with frames := { State.reset.frames with forwarded := [⟨1, 0, 0x41, 900, [0x41, 4, 0, 0, 0, 0, 0, 0]⟩] } } : State), 0, ⟨6, 0x41, 4, 0, 0, 0x1000, 2, 0, []⟩, 1, by decide⟩

theorem witness_DictFramesServeForwardAndAnswer_52 :
    ∃ (s : State) (u : Fin 2) (g : Telegram) (p : Nat) , s.mine (.can u) g = false ∧ s.manager = true ∧ s.power.supervisor = true ∧ s.power.bootLoader = false ∧ s.node ≠ 0 ∧ g.node.toNat = s.node + p ∧ 1 ≤ p ∧ p ≤ 31 ∧ s.bitAt 0xB04001 p = true ∧ s.fromHolder (.can u) = true ∧ ((s.frames.forwarded.any fun f => f.is p (tgOf g) false) = true) :=
  ⟨({ ((((((State.reset.modPower fun p => { p with supervisor := true }).wr kDevState 2).wr kNodeId 5).wr kRole 1).wr 0xB04001 0xFFFFFFFF).wr 0xB03004 4) with frames := { State.reset.frames with forwarded := [⟨1, 0, 0x41, 900, [0x41, 5, 0, 0, 0, 0, 0, 0]⟩] } } : State), 0, ⟨6, 0x41, 5, 0, 0, 0x1000, 2, 0, []⟩, 1, by decide⟩

theorem witness_DictFramesServeForwardAndAnswer_53 :
    ∃ (s : State) (u : Fin 2) (g : Telegram) (p : Nat) , s.mine (.can u) g = false ∧ s.manager = true ∧ s.power.supervisor = true ∧ s.power.bootLoader = false ∧ s.node ≠ 0 ∧ g.node.toNat = s.node + p ∧ 1 ≤ p ∧ p ≤ 31 ∧ s.bitAt 0xB04001 p = true ∧ s.fromHolder (.can u) = true ∧ ((s.frames.forwarded.any fun f => f.is p (tgOf g) true) = true) :=
  ⟨({ ((((((State.reset.modPower fun p => { p with supervisor := true }).wr kDevState 2).wr kNodeId 5).wr kRole 1).wr 0xB04001 0xFFFFFFFF).wr 0xB03004 4) with frames := { State.reset.frames with forwarded := [⟨1, 0, 0x41, 900, [0x41, 6, 0, 0, 0, 0, 0, 0]⟩] } } : State), 0, ⟨6, 0x41, 6, 0, 0, 0x1000, 2, 0, []⟩, 1, by decide⟩

theorem witness_DictFramesServeForwardAndAnswer_54 :
    ∃ (s : State) (u : Fin 2) (g : Telegram) (p : Nat) , s.mine (.can u) g = false ∧ s.manager = true ∧ s.power.supervisor = true ∧ s.power.bootLoader = false ∧ s.node ≠ 0 ∧ g.node.toNat = s.node + p ∧ 1 ≤ p ∧ p ≤ 31 ∧ s.bitAt 0xB04001 p = true ∧ g.op = 1 ∧ ((s.frames.forwarded.any fun f => f.is p (tgOf g) false) = false) ∧ ((s.frames.forwarded.any fun f => f.node == p && f.tagGen % 64 == tgOf g % 64) = false) ∧ 64 ≤ s.frames.forwarded.length :=
  ⟨({ ((((((State.reset.modPower fun p => { p with supervisor := true }).wr kDevState 2).wr kNodeId 5).wr kRole 1).wr 0xB04001 0xFFFFFFFF).wr 0xB03004 4) with frames := { State.reset.frames with forwarded := List.replicate 64 ⟨2, 0, 0x41, 900, [0x41, 1, 0, 0, 0, 0, 0, 0]⟩ } } : State), 0, ⟨6, 0x41, 1, 0, 0, 0x1000, 2, 0, []⟩, 1, by decide⟩

theorem witness_DictFramesServeForwardAndAnswer_55 :
    ∃ (s : State) (u : Fin 2) (g : Telegram) (p : Nat) , s.mine (.can u) g = false ∧ s.manager = true ∧ s.power.supervisor = true ∧ s.power.bootLoader = false ∧ s.node ≠ 0 ∧ g.node.toNat = s.node + p ∧ 1 ≤ p ∧ p ≤ 31 ∧ s.bitAt 0xB04001 p = true ∧ g.op = 2 ∧ s.fromHolder (.can u) = true ∧ ((s.frames.forwarded.any fun f => f.is p (tgOf g) false) = false) ∧ ((s.frames.forwarded.any fun f => f.node == p && f.tagGen % 64 == tgOf g % 64) = false) ∧ 64 ≤ s.frames.forwarded.length :=
  ⟨({ ((((((State.reset.modPower fun p => { p with supervisor := true }).wr kDevState 2).wr kNodeId 5).wr kRole 1).wr 0xB04001 0xFFFFFFFF).wr 0xB03004 4) with frames := { State.reset.frames with forwarded := List.replicate 64 ⟨2, 0, 0x41, 900, [0x41, 1, 0, 0, 0, 0, 0, 0]⟩ } } : State), 0, ⟨6, 0x41, 2, 0, 0, 0x1000, 2, 0, []⟩, 1, by decide⟩

theorem witness_DictFramesServeForwardAndAnswer_56 :
    ∃ (s : State) (u : Fin 2) (g : Telegram) (p : Nat) , s.mine (.can u) g = false ∧ s.manager = true ∧ s.power.supervisor = true ∧ s.power.bootLoader = false ∧ s.node ≠ 0 ∧ g.node.toNat = s.node + p ∧ 1 ≤ p ∧ p ≤ 31 ∧ s.bitAt 0xB04001 p = true ∧ g.op = 3 ∧ ((s.frames.forwarded.any fun f => f.is p (tgOf g) false) = false) ∧ ((s.frames.forwarded.any fun f => f.node == p && f.tagGen % 64 == tgOf g % 64) = false) ∧ 64 ≤ s.frames.forwarded.length :=
  ⟨({ ((((((State.reset.modPower fun p => { p with supervisor := true }).wr kDevState 2).wr kNodeId 5).wr kRole 1).wr 0xB04001 0xFFFFFFFF).wr 0xB03004 4) with frames := { State.reset.frames with forwarded := List.replicate 64 ⟨2, 0, 0x41, 900, [0x41, 1, 0, 0, 0, 0, 0, 0]⟩ } } : State), 0, ⟨6, 0x41, 3, 0, 0, 0x1000, 2, 0, []⟩, 1, by decide⟩

theorem witness_DictFramesServeForwardAndAnswer_57 :
    ∃ (s : State) (u : Fin 2) (g : Telegram) (p : Nat) , s.mine (.can u) g = false ∧ s.manager = true ∧ s.power.supervisor = true ∧ s.power.bootLoader = false ∧ s.node ≠ 0 ∧ g.node.toNat = s.node + p ∧ 1 ≤ p ∧ p ≤ 31 ∧ s.bitAt 0xB04001 p = true ∧ g.op = 4 ∧ s.fromHolder (.can u) = true ∧ ((s.frames.forwarded.any fun f => f.is p (tgOf g) false) = false) ∧ ((s.frames.forwarded.any fun f => f.node == p && f.tagGen % 64 == tgOf g % 64) = false) ∧ 64 ≤ s.frames.forwarded.length :=
  ⟨({ ((((((State.reset.modPower fun p => { p with supervisor := true }).wr kDevState 2).wr kNodeId 5).wr kRole 1).wr 0xB04001 0xFFFFFFFF).wr 0xB03004 4) with frames := { State.reset.frames with forwarded := List.replicate 64 ⟨2, 0, 0x41, 900, [0x41, 1, 0, 0, 0, 0, 0, 0]⟩ } } : State), 0, ⟨6, 0x41, 4, 0, 0, 0x1000, 2, 0, []⟩, 1, by decide⟩

theorem witness_DictFramesServeForwardAndAnswer_58 :
    ∃ (s : State) (u : Fin 2) (g : Telegram) (p : Nat) , s.mine (.can u) g = false ∧ s.manager = true ∧ s.power.supervisor = true ∧ s.power.bootLoader = false ∧ s.node ≠ 0 ∧ g.node.toNat = s.node + p ∧ 1 ≤ p ∧ p ≤ 31 ∧ s.bitAt 0xB04001 p = true ∧ g.op = 5 ∧ s.fromHolder (.can u) = true ∧ ((s.frames.forwarded.any fun f => f.is p (tgOf g) false) = false) ∧ ((s.frames.forwarded.any fun f => f.node == p && f.tagGen % 64 == tgOf g % 64) = false) ∧ 64 ≤ s.frames.forwarded.length :=
  ⟨({ ((((((State.reset.modPower fun p => { p with supervisor := true }).wr kDevState 2).wr kNodeId 5).wr kRole 1).wr 0xB04001 0xFFFFFFFF).wr 0xB03004 4) with frames := { State.reset.frames with forwarded := List.replicate 64 ⟨2, 0, 0x41, 900, [0x41, 1, 0, 0, 0, 0, 0, 0]⟩ } } : State), 0, ⟨6, 0x41, 5, 0, 0, 0x1000, 2, 0, []⟩, 1, by decide⟩

theorem witness_DictFramesServeForwardAndAnswer_59 :
    ∃ (s : State) (u : Fin 2) (g : Telegram) (p : Nat) , s.mine (.can u) g = false ∧ g.node = 0 ∧ s.node ≠ 0 ∧ s.unserved = false ∧ s.power.bootLoader = false ∧ s.manager = true ∧ s.wdp.tags[tagOf (tgOf g)].state = 0 ∧ cutOf g = false ∧ g.op = 2 ∧ s.fromHolder (.can u) = true ∧ s.frames.swarm = [] ∧ min 32 (s.rd 0xB03004) = p + 1 ∧ 1 ≤ p :=
  ⟨((((((State.reset.modPower fun p => { p with supervisor := true }).wr kDevState 2).wr kNodeId 5).wr kRole 1).wr 0xB04001 0xFFFFFFFF).wr 0xB03004 4), 0, ⟨0, 0x41, 2, 0, 1, 0xD00B, 1, 0, [3]⟩, 3, by decide⟩

theorem witness_DictFramesServeForwardAndAnswer_60 :
    ∃ (s : State) (u : Fin 2) (g : Telegram) (p : Nat) , s.mine (.can u) g = false ∧ g.node = 0 ∧ s.node ≠ 0 ∧ s.unserved = false ∧ s.power.bootLoader = false ∧ s.manager = true ∧ s.wdp.tags[tagOf (tgOf g)].state = 0 ∧ cutOf g = false ∧ g.op = 3 ∧ s.fromHolder (.can u) = true ∧ s.frames.swarm = [] ∧ min 32 (s.rd 0xB03004) = p + 1 ∧ 1 ≤ p :=
  ⟨((((((State.reset.modPower fun p => { p with supervisor := true }).wr kDevState 2).wr kNodeId 5).wr kRole 1).wr 0xB04001 0xFFFFFFFF).wr 0xB03004 4), 0, ⟨0, 0x41, 3, 0, 1, 0xD00B, 1, 0, [3]⟩, 3, by decide⟩

theorem witness_DictFramesServeForwardAndAnswer_61 :
    ∃ (s : State) (u : Fin 2) (g : Telegram) (p : Nat) , s.mine (.can u) g = false ∧ g.node = 0 ∧ s.node ≠ 0 ∧ s.unserved = false ∧ s.power.bootLoader = false ∧ s.manager = true ∧ s.wdp.tags[tagOf (tgOf g)].state = 0 ∧ cutOf g = false ∧ g.op = 4 ∧ s.fromHolder (.can u) = true ∧ s.frames.swarm = [] ∧ min 32 (s.rd 0xB03004) = p + 1 ∧ 1 ≤ p :=
  ⟨((((((State.reset.modPower fun p => { p with supervisor := true }).wr kDevState 2).wr kNodeId 5).wr kRole 1).wr 0xB04001 0xFFFFFFFF).wr 0xB03004 4), 0, ⟨0, 0x41, 4, 0, 1, 0xD00B, 1, 0, [3]⟩, 3, by decide⟩

theorem witness_DictFramesServeForwardAndAnswer_62 :
    ∃ (s : State) (u : Fin 2) (g : Telegram) (p : Nat) , s.mine (.can u) g = false ∧ g.node = 0 ∧ s.node ≠ 0 ∧ s.unserved = false ∧ s.power.bootLoader = false ∧ s.manager = true ∧ s.wdp.tags[tagOf (tgOf g)].state = 0 ∧ cutOf g = false ∧ g.op = 5 ∧ s.fromHolder (.can u) = true ∧ s.frames.swarm = [] ∧ min 32 (s.rd 0xB03004) = p + 1 ∧ 1 ≤ p :=
  ⟨((((((State.reset.modPower fun p => { p with supervisor := true }).wr kDevState 2).wr kNodeId 5).wr kRole 1).wr 0xB04001 0xFFFFFFFF).wr 0xB03004 4), 0, ⟨0, 0x41, 5, 0, 1, 0xD00B, 1, 0, [3]⟩, 3, by decide⟩

theorem witness_DictFramesServeForwardAndAnswer_63 :
    ∃ (s : State) (u : Fin 2) (g : Telegram) , s.mine (.can u) g = false ∧ g.node = 0 ∧ s.node ≠ 0 ∧ s.unserved = false ∧ s.power.bootLoader = false ∧ s.manager = true ∧ s.wdp.tags[tagOf (tgOf g)].state = 0 ∧ (cutOf g = true ∨ (g.op ≠ 2 ∧ g.op ≠ 3 ∧ g.op ≠ 4) ∨ s.fromHolder (.can u) = false) :=
  ⟨((((((State.reset.modPower fun p => { p with supervisor := true }).wr kDevState 2).wr kNodeId 5).wr kRole 1).wr 0xB04001 0xFFFFFFFF).wr 0xB03004 4), 1, ⟨0, 0x41, 1, 0, 1, 0xD00B, 1, 0, [3]⟩, by decide⟩

theorem witness_DictFramesServeForwardAndAnswer_64 :
    ∃ (s : State) (u : Fin 2) (g : Telegram) , s.mine (.can u) g = false ∧ g.node = 0 ∧ s.node ≠ 0 ∧ s.unserved = false ∧ s.power.bootLoader = false ∧ s.manager = true ∧ s.wdp.tags[tagOf (tgOf g)].state = 0 ∧ (cutOf g = true ∨ (g.op ≠ 2 ∧ g.op ≠ 3 ∧ g.op ≠ 4) ∨ s.fromHolder (.can u) = false) :=
  ⟨((((((State.reset.modPower fun p => { p with supervisor := true }).wr kDevState 2).wr kNodeId 5).wr kRole 1).wr 0xB04001 0xFFFFFFFF).wr 0xB03004 4), 1, ⟨0, 0x41, 2, 0, 1, 0xD00B, 1, 0, [3]⟩, by decide⟩

theorem witness_DictFramesServeForwardAndAnswer_65 :
    ∃ (s : State) (u : Fin 2) (g : Telegram) , s.mine (.can u) g = false ∧ g.node = 0 ∧ s.node ≠ 0 ∧ s.unserved = false ∧ s.power.bootLoader = false ∧ s.manager = true ∧ s.wdp.tags[tagOf (tgOf g)].state = 0 ∧ (cutOf g = true ∨ (g.op ≠ 2 ∧ g.op ≠ 3 ∧ g.op ≠ 4) ∨ s.fromHolder (.can u) = false) :=
  ⟨((((((State.reset.modPower fun p => { p with supervisor := true }).wr kDevState 2).wr kNodeId 5).wr kRole 1).wr 0xB04001 0xFFFFFFFF).wr 0xB03004 4), 1, ⟨0, 0x41, 3, 0, 1, 0xD00B, 1, 0, [3]⟩, by decide⟩

theorem witness_DictFramesServeForwardAndAnswer_66 :
    ∃ (s : State) (u : Fin 2) (g : Telegram) , s.mine (.can u) g = false ∧ g.node = 0 ∧ s.node ≠ 0 ∧ s.unserved = false ∧ s.power.bootLoader = false ∧ s.manager = true ∧ s.wdp.tags[tagOf (tgOf g)].state = 0 ∧ (cutOf g = true ∨ (g.op ≠ 2 ∧ g.op ≠ 3 ∧ g.op ≠ 4) ∨ s.fromHolder (.can u) = false) :=
  ⟨((((((State.reset.modPower fun p => { p with supervisor := true }).wr kDevState 2).wr kNodeId 5).wr kRole 1).wr 0xB04001 0xFFFFFFFF).wr 0xB03004 4), 1, ⟨0, 0x41, 4, 0, 1, 0xD00B, 1, 0, [3]⟩, by decide⟩

theorem witness_DictFramesServeForwardAndAnswer_67 :
    ∃ (s : State) (u : Fin 2) (g : Telegram) , s.mine (.can u) g = false ∧ g.node = 0 ∧ s.node ≠ 0 ∧ s.unserved = false ∧ s.power.bootLoader = false ∧ s.manager = true ∧ s.wdp.tags[tagOf (tgOf g)].state = 0 ∧ (cutOf g = true ∨ g.op ≠ 5 ∨ s.fromHolder (.can u) = false) :=
  ⟨((((((State.reset.modPower fun p => { p with supervisor := true }).wr kDevState 2).wr kNodeId 5).wr kRole 1).wr 0xB04001 0xFFFFFFFF).wr 0xB03004 4), 1, ⟨0, 0x41, 5, 0, 1, 0xD00B, 1, 0, [3]⟩, by decide⟩

theorem witness_DictFramesServeForwardAndAnswer_68 :
    ∃ (s : State) (u : Fin 2) (g : Telegram) , s.mine (.can u) g = false ∧ g.node = 0 :=
  ⟨((((((State.reset.modPower fun p => { p with supervisor := true }).wr kDevState 2).wr kNodeId 5).wr kRole 1).wr 0xB04001 0xFFFFFFFF).wr 0xB03004 4), 0, ⟨0, 0x41, 16, 0, 1, 0xD00B, 1, 0, [3]⟩, by decide⟩

theorem witness_DictFramesServeForwardAndAnswer_69 :
    ∃ (s : State) (u : Fin 2) (g : Telegram) , s.mine (.can u) g = false ∧ g.node = 0 :=
  ⟨((((((State.reset.modPower fun p => { p with supervisor := true }).wr kDevState 2).wr kNodeId 5).wr kRole 1).wr 0xB04001 0xFFFFFFFF).wr 0xB03004 4), 0, ⟨0, 0x41, 17, 0, 1, 0xD00B, 1, 0, [3]⟩, by decide⟩

theorem witness_DictFramesServeForwardAndAnswer_70 :
    ∃ (s : State) (u : Fin 2) (g : Telegram) , s.mine (.can u) g = false ∧ g.node = 0 :=
  ⟨((((((State.reset.modPower fun p => { p with supervisor := true }).wr kDevState 2).wr kNodeId 5).wr kRole 1).wr 0xB04001 0xFFFFFFFF).wr 0xB03004 4), 0, ⟨0, 0x41, 6, 0, 1, 0xD00B, 1, 0, [3]⟩, by decide⟩

theorem witness_CanTimingErrorsAndRecovery_1 :
    ∃ (s : State) (u : Fin 2) (v : Byte) , s.power.supervisor = true ∧ (s.dev = 2 ∨ s.dev = 6 ∨ s.dev = 7) ∧ v = 1 ∧ timingOk (s.storedTiming u) = true :=
  ⟨(((State.reset.modPower fun p => { p with supervisor := true }).wr kDevState 2).wr kNodeId 5), 0, 1, by decide⟩

theorem witness_CanTimingErrorsAndRecovery_2 :
    ∃ (s : State) (u : Fin 2) (v : Byte) , s.power.supervisor = true ∧ (s.dev = 2 ∨ s.dev = 6 ∨ s.dev = 7) ∧ v = 1 ∧ timingOk (s.storedTiming u) = false :=
  ⟨((((State.reset.modPower fun p => { p with supervisor := true }).wr kDevState 2).wr kNodeId 5).wr (kTiming 0 2) 0), 0, 1, by decide⟩

theorem witness_CanTimingErrorsAndRecovery_3 :
    ∃ (s : State) (u : Fin 2) (a : Nat) (x : CanTiming) , s.can[u].apply = some (a, x) ∧ s.can[u].tx = none :=
  ⟨((((State.reset.modPower fun p => { p with supervisor := true }).wr kDevState 2).wr kNodeId 5).modCan 0 fun c => { c with apply := some (70, c.timing) }), 0, 70, State.reset.can[(0 : Fin 2)].timing, by decide⟩

theorem witness_CanTimingErrorsAndRecovery_4 :
    ∃ (s : State) (u : Fin 2) , (s.can[u].apply.isNone = true ∨ s.can[u].tx.isSome = true) :=
  ⟨(((State.reset.modPower fun p => { p with supervisor := true }).wr kDevState 2).wr kNodeId 5), 0, by decide⟩

theorem witness_CanTimingErrorsAndRecovery_5 :
    ∃ (s : State) (u : Fin 2) (code : Byte) (dp : Bool) (tr : Bool) (col : Bool) (pl : CanPlace) (n : Nat) , s.inReset = false ∧ s.canMode u 0 = true ∧ s.busOff u = false ∧ 1 ≤ code.toNat ∧ code.toNat ≤ 7 ∧ (n = (if code.toNat = 7 ∧ s.canMode u 4 = false then 2 else code.toNat)) :=
  ⟨((((((State.reset.modPower fun p => { p with supervisor := true }).wr kDevState 2).wr kNodeId 5).modCan 0 fun c => { c with timing := upd c.timing 0 fun x => x ||| 3 }).modCan 1 fun c => { c with timing := upd c.timing 0 fun x => x ||| 3 }).wr (kErr 0 1) 250), 0, 3, false, true, false, .elsewhere, 3, by decide⟩

theorem witness_CanTimingErrorsAndRecovery_6 :
    ∃ (s : State) (u : Fin 2) (code : Byte) (dp : Bool) (tr : Bool) (col : Bool) (pl : CanPlace) (n : Nat) , s.inReset = false ∧ s.canMode u 0 = true ∧ s.busOff u = false ∧ 1 ≤ code.toNat ∧ code.toNat ≤ 7 ∧ (n = (if code.toNat = 7 ∧ s.canMode u 4 = false then 2 else code.toNat)) ∧ n ≠ 7 ∧ s.restricted u = false ∧ s.monitoring u = false :=
  ⟨((((((State.reset.modPower fun p => { p with supervisor := true }).wr kDevState 2).wr kNodeId 5).modCan 0 fun c => { c with timing := upd c.timing 0 fun x => x ||| 3 }).modCan 1 fun c => { c with timing := upd c.timing 0 fun x => x ||| 3 }).wr (kErr 0 1) 250), 0, 3, false, false, false, .ownFlag, 3, by decide⟩

theorem witness_CanTimingErrorsAndRecovery_7 :
    ∃ (s : State) (u : Fin 2) (code : Byte) (dp : Bool) (tr : Bool) (col : Bool) (pl : CanPlace) , (s.inReset = true ∨ s.canMode u 0 = false ∨ s.busOff u = true ∨ code = 0 ∨ 7 < code.toNat) :=
  ⟨((((((State.reset.modPower fun p => { p with supervisor := true }).wr kDevState 2).wr kNodeId 5).modCan 0 fun c => { c with timing := upd c.timing 0 fun x => x ||| 3 }).modCan 1 fun c => { c with timing := upd c.timing 0 fun x => x ||| 3 }).wr (kErr 0 3) 2), 0, 3, false, true, false, .elsewhere, by decide⟩

theorem witness_CanTimingErrorsAndRecovery_8 :
    ∃ (s : State) (u : Fin 2) (v : Byte) , s.power.supervisor = true ∧ s.dev ≠ 0 ∧ v = 1 ∧ s.busOff u = true ∧ s.canMode u 6 = false ∧ s.can[u].recovering = none :=
  ⟨(((((((State.reset.modPower fun p => { p with supervisor := true }).wr kDevState 2).wr kNodeId 5).modCan 0 fun c => { c with timing := upd c.timing 0 fun x => x ||| 3 }).modCan 1 fun c => { c with timing := upd c.timing 0 fun x => x ||| 3 }).wr (kErr 0 3) 2).modCan 0 fun c => { c with timing := upd c.timing 0 fun _ => 3 }), 0, 1, by decide⟩

theorem witness_CanTimingErrorsAndRecovery_9 :
    ∃ (s : State) (u : Fin 2) (v : Byte) , s.power.supervisor = true ∧ s.dev ≠ 0 ∧ (v = 0 ∨ v = 1) ∧ (v = 0 ∨ s.busOff u = false ∨ s.canMode u 6 = true ∨ s.can[u].recovering.isSome = true) :=
  ⟨(((((State.reset.modPower fun p => { p with supervisor := true }).wr kDevState 2).wr kNodeId 5).modCan 0 fun c => { c with timing := upd c.timing 0 fun x => x ||| 3 }).modCan 1 fun c => { c with timing := upd c.timing 0 fun x => x ||| 3 }), 0, 1, by decide⟩

theorem witness_CanTimingErrorsAndRecovery_10 :
    ∃ (s : State) (u : Fin 2) (a : Nat) , s.can[u].recovering = some a :=
  ⟨(((((((State.reset.modPower fun p => { p with supervisor := true }).wr kDevState 2).wr kNodeId 5).modCan 0 fun c => { c with timing := upd c.timing 0 fun x => x ||| 3 }).modCan 1 fun c => { c with timing := upd c.timing 0 fun x => x ||| 3 }).wr (kErr 0 3) 2).modCan 0 fun c => { c with recovering := some 7 }), 0, 7, by decide⟩

theorem witness_CanTimingErrorsAndRecovery_11 :
    ∃ (s : State) (u : Fin 2) , s.can[u].recovering = none :=
  ⟨(((((State.reset.modPower fun p => { p with supervisor := true }).wr kDevState 2).wr kNodeId 5).modCan 0 fun c => { c with timing := upd c.timing 0 fun x => x ||| 3 }).modCan 1 fun c => { c with timing := upd c.timing 0 fun x => x ||| 3 }), 0, by decide⟩

theorem witness_CanTimingErrorsAndRecovery_12 :
    ∃ (s : State) (u : Fin 2) (v : Byte) , s.power.supervisor = true ∧ s.dev ≠ 0 ∧ v = 1 :=
  ⟨((((((State.reset.modPower fun p => { p with supervisor := true }).wr kDevState 2).wr kNodeId 5).modCan 0 fun c => { c with timing := upd c.timing 0 fun x => x ||| 3 }).modCan 1 fun c => { c with timing := upd c.timing 0 fun x => x ||| 3 }).wr (kErr 0 0x0A) 1), 0, 1, by decide⟩

theorem witness_CanTimingErrorsAndRecovery_13 :
    ∃ (s : State) (u : Fin 2) , s.clock.refPresent = false ∧ s.can[u].tx = none :=
  ⟨({ (((State.reset.modPower fun p => { p with supervisor := true }).wr kDevState 2).wr kNodeId 5) with clock := { State.reset.clock with refPresent := false } } : State), 0, by decide⟩

theorem witness_CanTimingErrorsAndRecovery_14 :
    ∃ (s : State) (u : Fin 2) , (s.clock.refPresent = true ∨ s.can[u].tx.isSome = true) :=
  ⟨({ (((State.reset.modPower fun p => { p with supervisor := true }).wr kDevState 2).wr kNodeId 5) with clock := { State.reset.clock with refPresent := true } } : State), 0, by decide⟩

theorem witness_CanObjectsTakeAndSendFrames_1 :
    ∃ (s : State) (u : Fin 2) (n : Byte) (d : Bytes) , s.power.supervisor = true ∧ s.dev ≠ 0 ∧ 25 ≤ n.toNat ∧ n.toNat ≤ 100 ∧ (d.length = 16 ∨ d.length = 80) ∧ byteAt d 11 = 0 :=
  ⟨(((State.reset.modPower fun p => { p with supervisor := true }).wr kDevState 2).wr kNodeId 5), 0, 30, [0x23, 1, 0, 0, 0, 0, 0, 0, 3, 8, 7, 0, 0, 0, 0, 0], by decide⟩

theorem witness_CanObjectsTakeAndSendFrames_2 :
    ∃ (s : State) (u : Fin 2) (n : Byte) (d : Bytes) , s.power.supervisor = true ∧ s.dev ≠ 0 ∧ 25 ≤ n.toNat ∧ n.toNat ≤ 100 ∧ (d.length = 16 ∨ d.length = 80) ∧ bit (byteAt d 8) 0 = true ∧ bit (byteAt d 8) 1 = true ∧ (bit (leAt d 0 4) 30 = true → s.canMode u 1 = true) :=
  ⟨(((State.reset.modPower fun p => { p with supervisor := true }).wr kDevState 2).wr kNodeId 5), 0, 30, [0x23, 1, 0, 0, 0, 0, 0, 0, 3, 8, 7, 0, 0, 0, 0, 0], by decide⟩

theorem witness_CanObjectsTakeAndSendFrames_3 :
    ∃ (s : State) (u : Fin 2) (n : Byte) (d : Bytes) , s.power.supervisor = true ∧ s.dev ≠ 0 ∧ 25 ≤ n.toNat ∧ n.toNat ≤ 100 ∧ (d.length = 16 ∨ d.length = 80) ∧ bit (byteAt d 8) 0 = true ∧ bit (byteAt d 8) 1 = true ∧ bit (leAt d 0 4) 30 = true ∧ s.canMode u 1 = false :=
  ⟨((((State.reset.modPower fun p => { p with supervisor := true }).wr kDevState 2).wr kNodeId 5).modCan 0 fun c => { c with timing := upd c.timing 0 fun _ => 1 }), 0, 30, ([0x23, 1, 0, 0, 0, 0, 0, 0, 3, 8, 7, 0, 0, 0, 0, 0].set 3 0x40#8), by decide⟩

theorem witness_CanObjectsTakeAndSendFrames_4 :
    ∃ (s : State) (u : Fin 2) (n : Byte) (d : Bytes) , s.power.supervisor = true ∧ s.dev ≠ 0 ∧ 25 ≤ n.toNat ∧ n.toNat ≤ 100 ∧ (d.length = 16 ∨ d.length = 80) ∧ (bit (byteAt d 8) 0 = false ∨ bit (byteAt d 8) 1 = false) :=
  ⟨(((State.reset.modPower fun p => { p with supervisor := true }).wr kDevState 2).wr kNodeId 5), 0, 30, [0x23, 1, 0, 0, 0, 0, 0, 0, 1, 8, 7, 0, 0, 0, 0, 0], by decide⟩

theorem witness_CanObjectsTakeAndSendFrames_5 :
    ∃ (s : State) (u : Fin 2) (n : Byte) (d : Bytes) , s.power.supervisor = true ∧ s.dev ≠ 0 ∧ 25 ≤ n.toNat ∧ n.toNat ≤ 100 ∧ (d.length = 16 ∨ d.length = 80) :=
  ⟨((((State.reset.modPower fun p => { p with supervisor := true }).wr kDevState 2).wr kNodeId 5).modMsg 0 30 fun _ => { MsgObj.init with octrl := 0x0B, ident := 0x40000123, ostat := 1 }), 0, 30, [0x23, 1, 0, 0, 0, 0, 0, 0, 3, 8, 7, 1, 0, 0, 0, 0], by decide⟩

theorem witness_CanObjectsTakeAndSendFrames_6 :
    ∃ (s : State) (u : Fin 2) (n : Byte) (d : Bytes) , s.power.supervisor = true ∧ s.dev ≠ 0 ∧ 1 ≤ n.toNat ∧ n.toNat ≤ 100 ∧ (n.toNat ≤ 24 ∨ (d.length ≠ 16 ∧ d.length ≠ 80)) :=
  ⟨(((State.reset.modPower fun p => { p with supervisor := true }).wr kDevState 2).wr kNodeId 5), 0, 24, [0x23, 1, 0, 0, 0, 0, 0, 0, 3, 8, 7, 0, 0, 0, 0, 0], by decide⟩

theorem witness_CanObjectsTakeAndSendFrames_7 :
    ∃ (s : State) (u : Fin 2) (n : Byte) (d : Bytes) , s.power.supervisor = true ∧ s.dev ≠ 0 ∧ 1 ≤ n.toNat ∧ n.toNat ≤ 100 ∧ (n.toNat ≤ 24 ∨ (d.length ≠ 16 ∧ d.length ≠ 80)) :=
  ⟨(((State.reset.modPower fun p => { p with supervisor := true }).wr kDevState 2).wr kNodeId 5), 0, 24, [0x23, 1, 0, 0, 0, 0, 0, 0, 3, 8, 7, 0, 0, 0, 0, 0], by decide⟩

theorem witness_CanObjectsTakeAndSendFrames_8 :
    ∃ (s : State) (u : Fin 2) (n : Byte) (d : Bytes) , s.power.supervisor = true ∧ s.dev ≠ 0 ∧ 1 ≤ n.toNat ∧ n.toNat ≤ 100 ∧ (n.toNat ≤ 24 ∨ (d.length ≠ 16 ∧ d.length ≠ 80)) :=
  ⟨(((State.reset.modPower fun p => { p with supervisor := true }).wr kDevState 2).wr kNodeId 5), 0, 24, [0x23, 1, 0, 0, 0, 0, 0, 0, 3, 8, 7, 0, 0, 0, 0, 0], by decide⟩

theorem witness_CanObjectsTakeAndSendFrames_9 :
    ∃ (s : State) (u : Fin 2) (n : Byte) , s.power.supervisor = true ∧ s.dev ≠ 0 ∧ 1 ≤ n.toNat ∧ n.toNat ≤ 100 :=
  ⟨((((State.reset.modPower fun p => { p with supervisor := true }).wr kDevState 2).wr kNodeId 5).modMsg 0 30 fun _ => { { MsgObj.init with octrl := 0x11, ident := 0x123, mask := 0x7FF } with ostat := 2 }), 0, 30, by decide⟩

theorem witness_CanObjectsTakeAndSendFrames_10 :
    ∃ (s : State) (u : Fin 2) (f : CanFrame) (n : Nat) , s.inReset = false ∧ s.canMode u 0 = true ∧ s.busOff u = false ∧ (f.fd = false ∨ s.canMode u 1 = true) ∧ s.integrated u ≤ s.tick ∧ f.rtr = false ∧ s.storesAt u f = some n ∧ (20 < n ∨ (f.fd = true ∧ f.ext = false ∧ (n < 7 ∨ 8 ≤ f.data.length))) :=
  ⟨((((((State.reset.modPower fun p => { p with supervisor := true }).wr kDevState 2).wr kNodeId 5).modCan 0 fun c => { c with timing := upd c.timing 0 fun x => x ||| 3 }).modCan 1 fun c => { c with timing := upd c.timing 0 fun x => x ||| 3 }).modMsg 0 30 fun _ => { MsgObj.init with octrl := 0x11, ident := 0x123, mask := 0x7FF }), 0, ⟨0x123, false, true, true, false, false, [1, 2], 2⟩, 30, by decide⟩

theorem witness_CanObjectsTakeAndSendFrames_11 :
    ∃ (s : State) (u : Fin 2) (f : CanFrame) (n : Nat) , s.inReset = false ∧ s.canMode u 0 = true ∧ s.busOff u = false ∧ (f.fd = false ∨ s.canMode u 1 = true) ∧ s.integrated u ≤ s.tick ∧ f.rtr = false ∧ s.storesAt u f = some n ∧ n ≤ 20 ∧ (f.fd = false ∨ f.ext = true ∨ (7 ≤ n ∧ f.data.length < 8)) :=
  ⟨((((((State.reset.modPower fun p => { p with supervisor := true }).wr kDevState 2).wr kNodeId 5).modCan 0 fun c => { c with timing := upd c.timing 0 fun x => x ||| 3 }).modCan 1 fun c => { c with timing := upd c.timing 0 fun x => x ||| 3 }).modMsg 0 8 fun _ => { MsgObj.init with octrl := 0x11, ident := 0x123, mask := 0x7FF }), 0, ⟨0x123, false, false, false, false, false, [1, 2], 2⟩, 8, by decide⟩

theorem witness_CanObjectsTakeAndSendFrames_12 :
    ∃ (s : State) (u : Fin 2) (f : CanFrame) , s.inReset = false ∧ s.canMode u 0 = true ∧ s.busOff u = false ∧ (f.fd = false ∨ s.canMode u 1 = true) ∧ s.integrated u ≤ s.tick ∧ (f.rtr = true ∨ s.storesAt u f = none) :=
  ⟨((((((State.reset.modPower fun p => { p with supervisor := true }).wr kDevState 2).wr kNodeId 5).modCan 0 fun c => { c with timing := upd c.timing 0 fun x => x ||| 3 }).modCan 1 fun c => { c with timing := upd c.timing 0 fun x => x ||| 3 }).modMsg 0 30 fun _ => { MsgObj.init with octrl := 0x11, ident := 0x123, mask := 0x7FF }), 0, ⟨0x124, false, true, true, false, false, [1, 2], 2⟩, by decide⟩

theorem witness_CanObjectsTakeAndSendFrames_13 :
    ∃ (s : State) (u : Fin 2) (f : CanFrame) , (s.inReset = true ∨ s.canMode u 0 = false ∨ s.busOff u = true ∨ (f.fd = true ∧ s.canMode u 1 = false) ∨ s.tick < s.integrated u) :=
  ⟨((((((State.reset.modPower fun p => { p with supervisor := true }).wr kDevState 2).wr kNodeId 5).modCan 0 fun c => { c with timing := upd c.timing 0 fun x => x ||| 3 }).modCan 1 fun c => { c with timing := upd c.timing 0 fun x => x ||| 3 }).wr (kErr 0 3) 2), 0, ⟨0x124, false, true, true, false, false, [1, 2], 2⟩, by decide⟩

theorem witness_CanObjectsTakeAndSendFrames_14 :
    ∃ (s : State) (u : Fin 2) (n : Nat) , s.inReset = false ∧ s.can[u].tx = none ∧ s.canMode u 0 = true ∧ s.busOff u = false ∧ s.monitoring u = false ∧ s.clock.refPresent = true ∧ s.canMode u 1 = true ∧ ((((s.advanceTo (s.integrated u)).loadOut u).topMsg u fun k => ((s.advanceTo (s.integrated u)).loadOut u).maySendObj u k && ((s.advanceTo (s.integrated u)).loadOut u).ready u k) = some n) ∧ n ≠ 0 :=
  ⟨(({ (((((State.reset.modPower fun p => { p with supervisor := true }).wr kDevState 2).wr kNodeId 5).modCan 0 fun c => { c with timing := upd c.timing 0 fun x => x ||| 3 }).modCan 1 fun c => { c with timing := upd c.timing 0 fun x => x ||| 3 }) with clock := { State.reset.clock with refPresent := true } }).modMsg 0 30 fun _ => { MsgObj.init with octrl := 0x0B, ident := 0x40000123, ostat := 1 }), 0, 30, by decide⟩

theorem witness_CanObjectsTakeAndSendFrames_15 :
    ∃ (s : State) (u : Fin 2) (q : CanTx) , s.inReset = false ∧ s.can[u].tx = none ∧ s.canMode u 0 = true ∧ s.busOff u = false ∧ s.monitoring u = false ∧ s.clock.refPresent = true ∧ s.canMode u 1 = true ∧ ((((s.advanceTo (s.integrated u)).loadOut u).topMsg u fun k => ((s.advanceTo (s.integrated u)).loadOut u).maySendObj u k && ((s.advanceTo (s.integrated u)).loadOut u).ready u k) = some 0) ∧ s.can[u].requeue = some q :=
  ⟨(({ (((((State.reset.modPower fun p => { p with supervisor := true }).wr kDevState 2).wr kNodeId 5).modCan 0 fun c => { c with timing := upd c.timing 0 fun x => x ||| 3 }).modCan 1 fun c => { c with timing := upd c.timing 0 fun x => x ||| 3 }) with clock := { State.reset.clock with refPresent := true } }).modCan 0 fun c => { c with requeue := some ⟨30, true, { MsgObj.init with octrl := 0x0B, ident := 0x40000123, ostat := 1 }, false, false, ⟨5, 6⟩, false, ⟨0x123, false, true, false, false, false, [], 0⟩⟩ }), 0, ⟨30, true, { MsgObj.init with octrl := 0x0B, ident := 0x40000123, ostat := 1 }, false, false, ⟨5, 6⟩, false, ⟨0x123, false, true, false, false, false, [], 0⟩⟩, by decide⟩

theorem witness_CanObjectsTakeAndSendFrames_16 :
    ∃ (s : State) (u : Fin 2) (k : Fin 100) , s.inReset = false ∧ s.can[u].tx = none ∧ s.canMode u 0 = true ∧ s.busOff u = false ∧ s.monitoring u = false ∧ s.clock.refPresent = true ∧ s.canMode u 1 = false ∧ isPending s.can[u].msg[k] = true ∧ isValid s.can[u].msg[k] = true ∧ isTx s.can[u].msg[k] = true ∧ bit s.can[u].msg[k].ident 30 = true :=
  ⟨((({ (((((State.reset.modPower fun p => { p with supervisor := true }).wr kDevState 2).wr kNodeId 5).modCan 0 fun c => { c with timing := upd c.timing 0 fun x => x ||| 3 }).modCan 1 fun c => { c with timing := upd c.timing 0 fun x => x ||| 3 }) with clock := { State.reset.clock with refPresent := true } }).modMsg 0 30 fun _ => { MsgObj.init with octrl := 0x0B, ident := 0x40000123, ostat := 1 }).modCan 0 fun c => { c with timing := upd c.timing 0 fun _ => 1 }), 0, 29, by decide⟩

theorem witness_CanObjectsTakeAndSendFrames_17 :
    ∃ (s : State) (u : Fin 2) , s.inReset = false ∧ s.can[u].tx = none ∧ s.canMode u 0 = true ∧ s.busOff u = false ∧ s.monitoring u = false ∧ s.clock.refPresent = true ∧ s.canMode u 1 = true ∧ ((((s.advanceTo (s.integrated u)).loadOut u).topMsg u fun k => ((s.advanceTo (s.integrated u)).loadOut u).maySendObj u k && ((s.advanceTo (s.integrated u)).loadOut u).ready u k) = none) :=
  ⟨({ (((((State.reset.modPower fun p => { p with supervisor := true }).wr kDevState 2).wr kNodeId 5).modCan 0 fun c => { c with timing := upd c.timing 0 fun x => x ||| 3 }).modCan 1 fun c => { c with timing := upd c.timing 0 fun x => x ||| 3 }) with clock := { State.reset.clock with refPresent := true } }), 0, by decide⟩

theorem witness_CanObjectsTakeAndSendFrames_18 :
    ∃ (s : State) (u : Fin 2) , (s.inReset = true ∨ s.can[u].tx.isSome = true ∨ s.canMode u 0 = false ∨ s.busOff u = true ∨ s.monitoring u = true ∨ s.clock.refPresent = false) :=
  ⟨(((((State.reset.modPower fun p => { p with supervisor := true }).wr kDevState 2).wr kNodeId 5).modCan 0 fun c => { c with timing := upd c.timing 0 fun x => x ||| 3 }).modCan 1 fun c => { c with timing := upd c.timing 0 fun x => x ||| 3 }), 0, by decide⟩

theorem witness_CanObjectsTakeAndSendFrames_19 :
    ∃ (s : State) (u : Fin 2) (ok : Bool) (x : CanTx) , s.can[u].tx = some x ∧ ok = true ∧ s.canMode u 0 = true ∧ s.bitAt (kTiming u 1) 0 = true ∧ 24 < x.obj ∧ x.obj ≤ 100 :=
  ⟨(((((((State.reset.modPower fun p => { p with supervisor := true }).wr kDevState 2).wr kNodeId 5).modCan 0 fun c => { c with timing := upd c.timing 0 fun x => x ||| 3 }).modCan 1 fun c => { c with timing := upd c.timing 0 fun x => x ||| 3 }).modMsg 0 30 fun _ => { MsgObj.init with octrl := 0x0B, ident := 0x40000123, ostat := 1 }).modCan 0 fun c => { c with tx := some ⟨30, false, { MsgObj.init with octrl := 0x0B, ident := 0x40000123, ostat := 1 }, false, false, ⟨5, 6⟩, false, ⟨0x123, false, true, false, false, false, [], 0⟩⟩ }), 0, true, ⟨30, false, { MsgObj.init with octrl := 0x0B, ident := 0x40000123, ostat := 1 }, false, false, ⟨5, 6⟩, false, ⟨0x123, false, true, false, false, false, [], 0⟩⟩, by decide⟩

theorem witness_CanObjectsTakeAndSendFrames_20 :
    ∃ (s : State) (u : Fin 2) (ok : Bool) (x : CanTx) , s.can[u].tx = some x ∧ ok = true ∧ bit x.m.octrl 3 = true :=
  ⟨(((((((State.reset.modPower fun p => { p with supervisor := true }).wr kDevState 2).wr kNodeId 5).modCan 0 fun c => { c with timing := upd c.timing 0 fun x => x ||| 3 }).modCan 1 fun c => { c with timing := upd c.timing 0 fun x => x ||| 3 }).modMsg 0 30 fun _ => { MsgObj.init with octrl := 0x0B, ident := 0x40000123, ostat := 1 }).modCan 0 fun c => { c with tx := some ⟨30, false, { MsgObj.init with octrl := 0x0B, ident := 0x40000123, ostat := 1 }, false, false, ⟨5, 6⟩, false, ⟨0x123, false, true, false, false, false, [], 0⟩⟩ }), 0, true, ⟨30, false, { MsgObj.init with octrl := 0x0B, ident := 0x40000123, ostat := 1 }, false, false, ⟨5, 6⟩, false, ⟨0x123, false, true, false, false, false, [], 0⟩⟩, by decide⟩

theorem witness_CanObjectsTakeAndSendFrames_21 :
    ∃ (s : State) (u : Fin 2) (ok : Bool) (x : CanTx) , s.can[u].tx = some x ∧ ok = false ∧ s.canMode u 0 = true ∧ s.bitAt (kTiming u 1) 0 = true ∧ 24 < x.obj ∧ x.obj ≤ 100 ∧ x.requeued = false :=
  ⟨((((((((State.reset.modPower fun p => { p with supervisor := true }).wr kDevState 2).wr kNodeId 5).modCan 0 fun c => { c with timing := upd c.timing 0 fun x => x ||| 3 }).modCan 1 fun c => { c with timing := upd c.timing 0 fun x => x ||| 3 }).modMsg 0 30 fun _ => { MsgObj.init with octrl := 0x0B, ident := 0x40000123, ostat := 1 }).modCan 0 fun c => { c with tx := some ⟨30, false, { MsgObj.init with octrl := 0x0B, ident := 0x40000123, ostat := 1 }, false, false, ⟨5, 6⟩, false, ⟨0x123, false, true, false, false, false, [], 0⟩⟩ }).wr (kTiming 0 1) 3), 0, false, ⟨30, false, { MsgObj.init with octrl := 0x0B, ident := 0x40000123, ostat := 1 }, false, false, ⟨5, 6⟩, false, ⟨0x123, false, true, false, false, false, [], 0⟩⟩, by decide⟩

theorem witness_CanObjectsTakeAndSendFrames_22 :
    ∃ (s : State) (u : Fin 2) (ok : Bool) (x : CanTx) , s.can[u].tx = some x ∧ ok = false ∧ s.canMode u 0 = true ∧ s.bitAt (kTiming u 1) 0 = true ∧ 24 < x.obj ∧ x.obj ≤ 100 ∧ x.requeued = true :=
  ⟨((((((State.reset.modPower fun p => { p with supervisor := true }).wr kDevState 2).wr kNodeId 5).modCan 0 fun c => { c with timing := upd c.timing 0 fun x => x ||| 3 }).modCan 1 fun c => { c with timing := upd c.timing 0 fun x => x ||| 3 }).modCan 0 fun c => { c with tx := some ⟨30, true, { MsgObj.init with octrl := 0x0B, ident := 0x40000123, ostat := 1 }, false, false, ⟨5, 6⟩, false, ⟨0x123, false, true, false, false, false, [], 0⟩⟩ }), 0, false, ⟨30, true, { MsgObj.init with octrl := 0x0B, ident := 0x40000123, ostat := 1 }, false, false, ⟨5, 6⟩, false, ⟨0x123, false, true, false, false, false, [], 0⟩⟩, by decide⟩

theorem witness_CanObjectsTakeAndSendFrames_23 :
    ∃ (s : State) (u : Fin 2) (ok : Bool) , s.can[u].tx.isNone = true :=
  ⟨(((((State.reset.modPower fun p => { p with supervisor := true }).wr kDevState 2).wr kNodeId 5).modCan 0 fun c => { c with timing := upd c.timing 0 fun x => x ||| 3 }).modCan 1 fun c => { c with timing := upd c.timing 0 fun x => x ||| 3 }), 0, true, by decide⟩

theorem witness_CanErrorCodesAndTimestampsAreRead_1 :
    ∃ (s : State) (u : Fin 2) (dl : Bool) , s.power.supervisor = true ∧ s.dev ≠ 0 :=
  ⟨((((State.reset.modPower fun p => { p with supervisor := true }).wr kDevState 2).wr kNodeId 5).wr (kErr 0 4) 3), 0, false, by decide⟩

theorem witness_CanErrorCodesAndTimestampsAreRead_2 :
    ∃ (s : State) (u : Fin 2) , s.power.supervisor = true ∧ s.dev ≠ 0 :=
  ⟨((((State.reset.modPower fun p => { p with supervisor := true }).wr kDevState 2).wr kNodeId 5).modCan 0 fun c => { c with stamps := [natLe 12 77, natLe 12 78] }), 0, by decide⟩

theorem witness_CanErrorCodesAndTimestampsAreRead_3 :
    ∃ (s : State) (u : Fin 2) (v : Byte) , s.power.supervisor = true ∧ s.dev ≠ 0 ∧ v = 1 :=
  ⟨((((State.reset.modPower fun p => { p with supervisor := true }).wr kDevState 2).wr kNodeId 5).modCan 0 fun c => { c with stamps := [natLe 12 77, natLe 12 78] }), 0, 1, by decide⟩

theorem witness_ReadsWritesAndStateCommandsAreAnswered_1 :
    ∃ (s : State) (o : Origin) (g : Telegram) , s.mine o g = true ∧ s.unserved = false ∧ cutOf g = false ∧ s.wdp.tags[tagOf (tgOf g)].state = 0 ∧ g.op = 1 :=
  ⟨(((State.reset.modPower fun p => { p with supervisor := true }).wr kDevState 2).wr kNodeId 5), .can 0, ⟨5, 0x41, 1, 0, 0, 0x1000, 2, 0, []⟩, by decide⟩

theorem witness_ReadsWritesAndStateCommandsAreAnswered_2 :
    ∃ (s : State) (o : Origin) (g : Telegram) , s.mine o g = true ∧ s.unserved = false ∧ cutOf g = false ∧ s.wdp.tags[tagOf (tgOf g)].state = 0 ∧ g.op = 2 ∧ (g.index ≠ 0x1001 ∨ g.sub ≠ 1 ∨ (byteAt (datOf g) 0 ≠ 8 ∧ (byteAt (datOf g) 0 ≠ 1 ∨ s.manager = false))) ∧ (g.index ≠ 0xE011 ∨ g.sub ≠ 1 ∨ byteAt (datOf g) 0 ≠ 2) :=
  ⟨(((State.reset.modPower fun p => { p with supervisor := true }).wr kDevState 2).wr kNodeId 5), .can 0, ⟨5, 0x41, 2, 0, 1, 0xD00B, 1, 0, [3]⟩, by decide⟩

theorem witness_ReadsWritesAndStateCommandsAreAnswered_3 :
    ∃ (s : State) (o : Origin) (g : Telegram) , s.mine o g = true ∧ s.unserved = false ∧ cutOf g = false ∧ s.wdp.tags[tagOf (tgOf g)].state = 0 ∧ g.op = 2 ∧ s.writeStatus (s.fromHolder o) g.index.toNat g.sub.toNat (datOf g) ≠ 0 ∧ g.index.toNat / 4096 ≠ 0xC ∧ s.writeStatus (s.fromHolder o) g.index.toNat g.sub.toNat (datOf g) ≠ 5 :=
  ⟨(((State.reset.modPower fun p => { p with supervisor := true }).wr kDevState 2).wr kNodeId 5), .can 1, ⟨5, 0x41, 2, 0, 1, 0x1000, 2, 0, [3]⟩, by decide⟩

theorem witness_ReadsWritesAndStateCommandsAreAnswered_4 :
    ∃ (s : State) (o : Origin) (g : Telegram) , s.mine o g = true ∧ s.unserved = false ∧ cutOf g = false ∧ s.wdp.tags[tagOf (tgOf g)].state = 0 ∧ g.op = 2 ∧ g.index = 0xE011 ∧ g.sub = 1 ∧ byteAt (datOf g) 0 = 2 ∧ ((s.opened o 6 g).hostWrite (s.fromHolder o) g.index.toNat g.sub.toNat (datOf g)).1 = 0 :=
  ⟨((((State.reset.modPower fun p => { p with supervisor := true }).wr kDevState 2).wr kNodeId 5).wr 0xE01102 4), .can 0, ⟨5, 0x41, 2, 0, 1, 0xE011, 1, 0, [2]⟩, by decide⟩

theorem witness_ReadsWritesAndStateCommandsAreAnswered_5 :
    ∃ (s : State) (o : Origin) (g : Telegram) , s.mine o g = true ∧ s.unserved = false ∧ cutOf g = false ∧ s.wdp.tags[tagOf (tgOf g)].state = 0 ∧ g.op = 5 ∧ byteAt (datOf g) 0 ≠ 8 ∧ (byteAt (datOf g) 0 ≠ 1 ∨ s.manager = false) :=
  ⟨(((State.reset.modPower fun p => { p with supervisor := true }).wr kDevState 2).wr kNodeId 5), .can 0, ⟨5, 0x41, 5, 0, 1, 0, 0, 0, [4]⟩, by decide⟩

theorem witness_ReadsWritesAndStateCommandsAreAnswered_6 :
    ∃ (s : State) (o : Origin) (g : Telegram) , s.mine o g = true ∧ s.unserved = false ∧ cutOf g = false ∧ s.wdp.tags[tagOf (tgOf g)].state = 0 ∧ g.op = 5 ∧ byteAt (datOf g) 0 = 1 ∧ s.dev = 2 ∧ s.manager = true ∧ 1 < s.rd 0xB03004 ∧ ((s.opened o 10 g).hostWrite (s.fromHolder o) 0x1001 1 (datOf g)).1 = 0 :=
  ⟨((((((State.reset.modPower fun p => { p with supervisor := true }).wr kDevState 2).wr kNodeId 5).wr kRole 1).wr 0xB04001 0xFFFFFFFF).wr 0xB03004 4), .can 0, ⟨5, 0x41, 5, 0, 1, 0, 0, 0, [1]⟩, by decide⟩

theorem witness_ReadsWritesAndStateCommandsAreAnswered_7 :
    ∃ (s : State) (o : Origin) (g : Telegram) , s.mine o g = true ∧ s.unserved = false ∧ cutOf g = false ∧ s.wdp.tags[tagOf (tgOf g)].state = 0 ∧ g.op = 5 ∧ byteAt (datOf g) 0 = 8 ∧ ((s.opened o 10 g).hostWrite (s.fromHolder o) 0x1001 1 (datOf g)).1 = 0 :=
  ⟨(((State.reset.modPower fun p => { p with supervisor := true }).wr kDevState 2).wr kNodeId 5), .can 0, ⟨5, 0x41, 5, 0, 1, 0, 0, 0, [8]⟩, by decide⟩

theorem witness_ReadsWritesAndStateCommandsAreAnswered_8 :
    ∃ (s : State) (o : Origin) (g : Telegram) , s.mine o g = true ∧ s.unserved = false ∧ cutOf g = true ∧ s.wdp.tags[tagOf (tgOf g)].state = 0 :=
  ⟨(((State.reset.modPower fun p => { p with supervisor := true }).wr kDevState 2).wr kNodeId 5), .can 0, ⟨5, 0x41, 1, 0, 9, 0x1000, 2, 0, [1]⟩, by decide⟩

theorem witness_ReadsWritesAndStateCommandsAreAnswered_9 :
    ∃ (s : State) (o : Origin) (g : Telegram) , s.mine o g = true ∧ s.unserved = false ∧ cutOf g = true ∧ s.wdp.tags[tagOf (tgOf g)].state = 0 :=
  ⟨(((State.reset.modPower fun p => { p with supervisor := true }).wr kDevState 2).wr kNodeId 5), .can 0, ⟨5, 0x41, 2, 0, 9, 0x1000, 2, 0, [1]⟩, by decide⟩

theorem witness_ReadsWritesAndStateCommandsAreAnswered_10 :
    ∃ (s : State) (o : Origin) (g : Telegram) , s.mine o g = true ∧ s.unserved = false ∧ cutOf g = true ∧ s.wdp.tags[tagOf (tgOf g)].state = 0 :=
  ⟨(((State.reset.modPower fun p => { p with supervisor := true }).wr kDevState 2).wr kNodeId 5), .can 0, ⟨5, 0x41, 3, 0, 9, 0x1000, 2, 0, [1]⟩, by decide⟩

theorem witness_ReadsWritesAndStateCommandsAreAnswered_11 :
    ∃ (s : State) (o : Origin) (g : Telegram) , s.mine o g = true ∧ s.unserved = false ∧ cutOf g = true ∧ s.wdp.tags[tagOf (tgOf g)].state = 0 :=
  ⟨(((State.reset.modPower fun p => { p with supervisor := true }).wr kDevState 2).wr kNodeId 5), .can 0, ⟨5, 0x41, 4, 0, 9, 0x1000, 2, 0, [1]⟩, by decide⟩

theorem witness_ReadsWritesAndStateCommandsAreAnswered_12 :
    ∃ (s : State) (o : Origin) (g : Telegram) , s.mine o g = true ∧ s.unserved = false ∧ cutOf g = true ∧ s.wdp.tags[tagOf (tgOf g)].state = 0 :=
  ⟨(((State.reset.modPower fun p => { p with supervisor := true }).wr kDevState 2).wr kNodeId 5), .can 0, ⟨5, 0x41, 5, 0, 9, 0x1000, 2, 0, [1]⟩, by decide⟩

theorem witness_ReadsWritesAndStateCommandsAreAnswered_13 :
    ∃ (s : State) (o : Origin) (g : Telegram) , s.mine o g = true ∧ s.unserved = false ∧ s.wdp.tags[tagOf (tgOf g)].state = 2 ∧ s.wdp.tags[tagOf (tgOf g)].gen = genOf (tgOf g) :=
  ⟨((((State.reset.modPower fun p => { p with supervisor := true }).wr kDevState 2).wr kNodeId 5).setTag 0x41 2 [0x41, 1, 0, 0, 0, 0, 0, 0] (.can 0)), .can 0, ⟨5, 0x41, 1, 0, 0, 0x1000, 2, 0, []⟩, by decide⟩

theorem witness_ReadsWritesAndStateCommandsAreAnswered_14 :
    ∃ (s : State) (o : Origin) (g : Telegram) , s.mine o g = true ∧ s.unserved = false ∧ s.wdp.tags[tagOf (tgOf g)].state = 2 ∧ s.wdp.tags[tagOf (tgOf g)].gen = genOf (tgOf g) :=
  ⟨((((State.reset.modPower fun p => { p with supervisor := true }).wr kDevState 2).wr kNodeId 5).setTag 0x41 2 [0x41, 1, 0, 0, 0, 0, 0, 0] (.can 0)), .can 0, ⟨5, 0x41, 2, 0, 0, 0x1000, 2, 0, []⟩, by decide⟩

theorem witness_ReadsWritesAndStateCommandsAreAnswered_15 :
    ∃ (s : State) (o : Origin) (g : Telegram) , s.mine o g = true ∧ s.unserved = false ∧ s.wdp.tags[tagOf (tgOf g)].state = 2 ∧ s.wdp.tags[tagOf (tgOf g)].gen = genOf (tgOf g) :=
  ⟨((((State.reset.modPower fun p => { p with supervisor := true }).wr kDevState 2).wr kNodeId 5).setTag 0x41 2 [0x41, 1, 0, 0, 0, 0, 0, 0] (.can 0)), .can 0, ⟨5, 0x41, 3, 0, 0, 0x1000, 2, 0, []⟩, by decide⟩

theorem witness_ReadsWritesAndStateCommandsAreAnswered_16 :
    ∃ (s : State) (o : Origin) (g : Telegram) , s.mine o g = true ∧ s.unserved = false ∧ s.wdp.tags[tagOf (tgOf g)].state = 2 ∧ s.wdp.tags[tagOf (tgOf g)].gen = genOf (tgOf g) :=
  ⟨((((State.reset.modPower fun p => { p with supervisor := true }).wr kDevState 2).wr kNodeId 5).setTag 0x41 2 [0x41, 1, 0, 0, 0, 0, 0, 0] (.can 0)), .can 0, ⟨5, 0x41, 4, 0, 0, 0x1000, 2, 0, []⟩, by decide⟩

theorem witness_ReadsWritesAndStateCommandsAreAnswered_17 :
    ∃ (s : State) (o : Origin) (g : Telegram) , s.mine o g = true ∧ s.unserved = false ∧ s.wdp.tags[tagOf (tgOf g)].state = 2 ∧ s.wdp.tags[tagOf (tgOf g)].gen = genOf (tgOf g) :=
  ⟨((((State.reset.modPower fun p => { p with supervisor := true }).wr kDevState 2).wr kNodeId 5).setTag 0x41 2 [0x41, 1, 0, 0, 0, 0, 0, 0] (.can 0)), .can 0, ⟨5, 0x41, 5, 0, 0, 0x1000, 2, 0, []⟩, by decide⟩

theorem witness_ReadsWritesAndStateCommandsAreAnswered_18 :
    ∃ (s : State) (o : Origin) (g : Telegram) , s.mine o g = true ∧ s.unserved = false ∧ s.wdp.tags[tagOf (tgOf g)].state = 1 ∧ s.wdp.tags[tagOf (tgOf g)].gen = genOf (tgOf g) :=
  ⟨((((State.reset.modPower fun p => { p with supervisor := true }).wr kDevState 2).wr kNodeId 5).setTag 0x41 1 [0x41, 1, 0, 0, 0, 0, 0, 0] (.can 0)), .can 0, ⟨5, 0x41, 1, 0, 0, 0x1000, 2, 0, []⟩, by decide⟩

theorem witness_ReadsWritesAndStateCommandsAreAnswered_19 :
    ∃ (s : State) (o : Origin) (g : Telegram) , s.mine o g = true ∧ s.unserved = false ∧ s.wdp.tags[tagOf (tgOf g)].state = 1 ∧ s.wdp.tags[tagOf (tgOf g)].gen = genOf (tgOf g) :=
  ⟨((((State.reset.modPower fun p => { p with supervisor := true }).wr kDevState 2).wr kNodeId 5).setTag 0x41 1 [0x41, 1, 0, 0, 0, 0, 0, 0] (.can 0)), .can 0, ⟨5, 0x41, 2, 0, 0, 0x1000, 2, 0, []⟩, by decide⟩

theorem witness_ReadsWritesAndStateCommandsAreAnswered_20 :
    ∃ (s : State) (o : Origin) (g : Telegram) , s.mine o g = true ∧ s.unserved = false ∧ s.wdp.tags[tagOf (tgOf g)].state = 1 ∧ s.wdp.tags[tagOf (tgOf g)].gen = genOf (tgOf g) :=
  ⟨((((State.reset.modPower fun p => { p with supervisor := true }).wr kDevState 2).wr kNodeId 5).setTag 0x41 1 [0x41, 1, 0, 0, 0, 0, 0, 0] (.can 0)), .can 0, ⟨5, 0x41, 3, 0, 0, 0x1000, 2, 0, []⟩, by decide⟩

theorem witness_ReadsWritesAndStateCommandsAreAnswered_21 :
    ∃ (s : State) (o : Origin) (g : Telegram) , s.mine o g = true ∧ s.unserved = false ∧ s.wdp.tags[tagOf (tgOf g)].state = 1 ∧ s.wdp.tags[tagOf (tgOf g)].gen = genOf (tgOf g) :=
  ⟨((((State.reset.modPower fun p => { p with supervisor := true }).wr kDevState 2).wr kNodeId 5).setTag 0x41 1 [0x41, 1, 0, 0, 0, 0, 0, 0] (.can 0)), .can 0, ⟨5, 0x41, 4, 0, 0, 0x1000, 2, 0, []⟩, by decide⟩

theorem witness_ReadsWritesAndStateCommandsAreAnswered_22 :
    ∃ (s : State) (o : Origin) (g : Telegram) , s.mine o g = true ∧ s.unserved = false ∧ s.wdp.tags[tagOf (tgOf g)].state = 1 ∧ s.wdp.tags[tagOf (tgOf g)].gen = genOf (tgOf g) :=
  ⟨((((State.reset.modPower fun p => { p with supervisor := true }).wr kDevState 2).wr kNodeId 5).setTag 0x41 1 [0x41, 1, 0, 0, 0, 0, 0, 0] (.can 0)), .can 0, ⟨5, 0x41, 5, 0, 0, 0x1000, 2, 0, []⟩, by decide⟩

theorem witness_ReadsWritesAndStateCommandsAreAnswered_23 :
    ∃ (s : State) (o : Origin) (g : Telegram) , s.mine o g = true ∧ s.unserved = false ∧ cutOf g = false ∧ g.op = 1 ∧ s.wdp.tags[tagOf (tgOf g)].state = 1 ∧ s.wdp.tags[tagOf (tgOf g)].gen ≠ genOf (tgOf g) ∧ s.frames.swarm = [] ∧ g.index.toNat / 4096 ≠ 0xC :=
  ⟨((((State.reset.modPower fun p => { p with supervisor := true }).wr kDevState 2).wr kNodeId 5).setTag 1 1 [1, 1, 0, 0, 0, 0, 0, 0] (.can 0)), .can 0, ⟨5, 0x41, 1, 0, 0, 0x1000, 2, 0, []⟩, by decide⟩

theorem witness_ReadsWritesAndStateCommandsAreAnswered_24 :
    ∃ (s : State) (o : Origin) (g : Telegram) , s.mine o g = true ∧ s.unserved = true :=
  ⟨((((State.reset.modPower fun p => { p with supervisor := true }).wr kDevState 2).wr kNodeId 5).modPower fun p => { p with supervisor := false }), .can 0, ⟨5, 0x41, 1, 0, 0, 0x1000, 2, 0, []⟩, by decide⟩

theorem witness_ReadsWritesAndStateCommandsAreAnswered_25 :
    ∃ (s : State) (o : Origin) (g : Telegram) , s.mine o g = true ∧ s.unserved = true :=
  ⟨((((State.reset.modPower fun p => { p with supervisor := true }).wr kDevState 2).wr kNodeId 5).modPower fun p => { p with supervisor := false }), .can 0, ⟨5, 0x41, 2, 0, 0, 0x1000, 2, 0, []⟩, by decide⟩

theorem witness_ReadsWritesAndStateCommandsAreAnswered_26 :
    ∃ (s : State) (o : Origin) (g : Telegram) , s.mine o g = true ∧ s.unserved = true :=
  ⟨((((State.reset.modPower fun p => { p with supervisor := true }).wr kDevState 2).wr kNodeId 5).modPower fun p => { p with supervisor := false }), .can 0, ⟨5, 0x41, 3, 0, 0, 0x1000, 2, 0, []⟩, by decide⟩

theorem witness_ReadsWritesAndStateCommandsAreAnswered_27 :
    ∃ (s : State) (o : Origin) (g : Telegram) , s.mine o g = true ∧ s.unserved = true :=
  ⟨((((State.reset.modPower fun p => { p with supervisor := true }).wr kDevState 2).wr kNodeId 5).modPower fun p => { p with supervisor := false }), .can 0, ⟨5, 0x41, 4, 0, 0, 0x1000, 2, 0, []⟩, by decide⟩

theorem witness_ReadsWritesAndStateCommandsAreAnswered_28 :
    ∃ (s : State) (o : Origin) (g : Telegram) , s.mine o g = true ∧ s.unserved = true :=
  ⟨((((State.reset.modPower fun p => { p with supervisor := true }).wr kDevState 2).wr kNodeId 5).modPower fun p => { p with supervisor := false }), .can 0, ⟨5, 0x41, 5, 0, 0, 0x1000, 2, 0, []⟩, by decide⟩

theorem witness_ReadsWritesAndStateCommandsAreAnswered_29 :
    ∃ (s : State) (o : Origin) (g : Telegram) , s.mine o g = true ∧ s.unserved = true :=
  ⟨((((State.reset.modPower fun p => { p with supervisor := true }).wr kDevState 2).wr kNodeId 5).modPower fun p => { p with supervisor := false }), .can 0, ⟨5, 0x41, 16, 0, 0, 0x1000, 2, 0, []⟩, by decide⟩

theorem witness_ReadsWritesAndStateCommandsAreAnswered_30 :
    ∃ (s : State) (o : Origin) (g : Telegram) , s.mine o g = true ∧ s.unserved = true :=
  ⟨((((State.reset.modPower fun p => { p with supervisor := true }).wr kDevState 2).wr kNodeId 5).modPower fun p => { p with supervisor := false }), .can 0, ⟨5, 0x41, 17, 0, 0, 0x1000, 2, 0, []⟩, by decide⟩

theorem witness_ReadsWritesAndStateCommandsAreAnswered_31 :
    ∃ (s : State) (o : Origin) (g : Telegram) , s.mine o g = true ∧ s.unserved = true :=
  ⟨((((State.reset.modPower fun p => { p with supervisor := true }).wr kDevState 2).wr kNodeId 5).modPower fun p => { p with supervisor := false }), .can 0, ⟨5, 0x41, 6, 0, 0, 0x1000, 2, 0, []⟩, by decide⟩

theorem witness_BlocksAreTransferredAndEnd_1 :
    ∃ (s : State) (o : Origin) (g : Telegram) , s.mine o g = true ∧ s.unserved = false ∧ cutOf g = false ∧ s.wdp.tags[tagOf (tgOf g)].state = 0 ∧ g.op = 3 ∧ (s.opened o 6 g).readStatus true g.index.toNat g.sub.toNat = 0 ∧ s.wdp.blocks.length < 2 :=
  ⟨(((State.reset.modPower fun p => { p with supervisor := true }).wr kDevState 2).wr kNodeId 5), .can 0, ⟨5, 0x41, 3, 0, 0, 0xE002, 2, 0, []⟩, by decide⟩

theorem witness_BlocksAreTransferredAndEnd_2 :
    ∃ (s : State) (o : Origin) (g : Telegram) , s.mine o g = true ∧ s.unserved = false ∧ cutOf g = false ∧ s.wdp.tags[tagOf (tgOf g)].state = 0 ∧ g.op = 3 ∧ ((s.opened o 6 g).readStatus true g.index.toNat g.sub.toNat ≠ 0 ∨ 2 ≤ s.wdp.blocks.length) :=
  ⟨((((State.reset.modPower fun p => { p with supervisor := true }).wr kDevState 2).wr kNodeId 5).modWdp fun w => { w with blocks := [⟨1, .can 0, true, 0, 0, 4, [], 0, 0⟩, ⟨2, .can 0, true, 0, 0, 4, [], 0, 0⟩] }), .can 0, ⟨5, 0x41, 3, 0, 0, 0xE002, 2, 0, []⟩, by decide⟩

theorem witness_BlocksAreTransferredAndEnd_3 :
    ∃ (s : State) (o : Origin) (g : Telegram) , s.mine o g = true ∧ s.unserved = false ∧ cutOf g = false ∧ s.wdp.tags[tagOf (tgOf g)].state = 0 ∧ g.op = 4 ∧ (g.index ≠ 0xE010 ∨ g.sub ≠ 1) ∧ 4 ≤ (datOf g).length ∧ s.writePre (s.fromHolder o) g.index.toNat g.sub.toNat (leAt (datOf g) 0 4) = 0 ∧ s.wdp.blocks.length < 2 :=
  ⟨(((State.reset.modPower fun p => { p with supervisor := true }).wr kDevState 2).wr kNodeId 5), .can 0, ⟨5, 0x41, 4, 0, 4, 0xE002, 2, 0, [64, 0, 0, 0]⟩, by decide⟩

theorem witness_BlocksAreTransferredAndEnd_4 :
    ∃ (s : State) (o : Origin) (g : Telegram) , s.mine o g = true ∧ s.unserved = false ∧ cutOf g = false ∧ s.wdp.tags[tagOf (tgOf g)].state = 0 ∧ g.op = 4 ∧ (g.index ≠ 0xE010 ∨ g.sub ≠ 1) ∧ ((datOf g).length < 4 ∨ s.writePre (s.fromHolder o) g.index.toNat g.sub.toNat (leAt (datOf g) 0 4) ≠ 0 ∨ 2 ≤ s.wdp.blocks.length) :=
  ⟨(((State.reset.modPower fun p => { p with supervisor := true }).wr kDevState 2).wr kNodeId 5), .can 0, ⟨5, 0x41, 4, 0, 3, 0xE002, 2, 0, [64, 0, 0]⟩, by decide⟩

theorem witness_BlocksAreTransferredAndEnd_5 :
    ∃ (s : State) (o : Origin) (g : Telegram) (b : BlockSt) , s.mine o g = true ∧ s.unserved = false ∧ cutOf g = false ∧ g.op = 0x10 ∧ s.fromHolder o = true ∧ 1 ≤ g.len.toNat ∧ g.len.toNat ≤ 56 ∧ ((s.wdp.blocks.find? fun x => x.tagGen == tgOf g && !x.read) = some b) ∧ b.index ≠ 0xE010 ∧ g.seg.toNat = b.next % 256 ∧ bit g.status.toNat 0 = false :=
  ⟨(((((State.reset.modPower fun p => { p with supervisor := true }).wr kDevState 2).wr kNodeId 5).setTag 0x41 1 [0x41, 4, 0, 0, 2, 0xE0, 2, 0] (.can 0)).modWdp fun w => { w with blocks := (([⟨0x41, .can 0, false, 0xE002, 2, 64, [], 0, 0⟩] : List BlockSt)) }), .can 0, ⟨5, 0x41, 16, 0, 56, 0xE002, 2, 0, [1, 1, 1, 1, 1, 1, 1, 1, 1, 1, 1, 1, 1, 1, 1, 1, 1, 1, 1, 1, 1, 1, 1, 1, 1, 1, 1, 1, 1, 1, 1, 1, 1, 1, 1, 1, 1, 1, 1, 1, 1, 1, 1, 1, 1, 1, 1, 1, 1, 1, 1, 1, 1, 1, 1, 1]⟩, ⟨0x41, .can 0, false, 0xE002, 2, 64, [], 0, 0⟩, by decide⟩

theorem witness_BlocksAreTransferredAndEnd_6 :
    ∃ (s : State) (o : Origin) (g : Telegram) (b : BlockSt) , s.mine o g = true ∧ s.unserved = false ∧ cutOf g = false ∧ g.op = 0x10 ∧ s.fromHolder o = true ∧ 1 ≤ g.len.toNat ∧ g.len.toNat ≤ 56 ∧ ((s.wdp.blocks.find? fun x => x.tagGen == tgOf g && !x.read) = some b) ∧ g.seg.toNat ≠ b.next % 256 :=
  ⟨(((((State.reset.modPower fun p => { p with supervisor := true }).wr kDevState 2).wr kNodeId 5).setTag 0x41 1 [0x41, 4, 0, 0, 2, 0xE0, 2, 0] (.can 0)).modWdp fun w => { w with blocks := (([⟨0x41, .can 0, false, 0xE002, 2, 64, [], 0, 0⟩] : List BlockSt)) }), .can 0, ⟨5, 0x41, 16, 0, 56, 0xE002, 2, 1, [1, 1, 1, 1, 1, 1, 1, 1, 1, 1, 1, 1, 1, 1, 1, 1, 1, 1, 1, 1, 1, 1, 1, 1, 1, 1, 1, 1, 1, 1, 1, 1, 1, 1, 1, 1, 1, 1, 1, 1, 1, 1, 1, 1, 1, 1, 1, 1, 1, 1, 1, 1, 1, 1, 1, 1]⟩, ⟨0x41, .can 0, false, 0xE002, 2, 64, [], 0, 0⟩, by decide⟩

theorem witness_BlocksAreTransferredAndEnd_7 :
    ∃ (s : State) (o : Origin) (g : Telegram) (b : BlockSt) , s.mine o g = true ∧ s.unserved = false ∧ cutOf g = false ∧ g.op = 0x10 ∧ s.fromHolder o = true ∧ 1 ≤ g.len.toNat ∧ g.len.toNat ≤ 56 ∧ ((s.wdp.blocks.find? fun x => x.tagGen == tgOf g && !x.read) = some b) ∧ b.index ≠ 0xE010 ∧ g.seg.toNat = b.next % 256 ∧ bit g.status.toNat 0 = true ∧ (b.data.length + (datOf g).length) ≠ b.size :=
  ⟨(((((State.reset.modPower fun p => { p with supervisor := true }).wr kDevState 2).wr kNodeId 5).setTag 0x41 1 [0x41, 4, 0, 0, 2, 0xE0, 2, 0] (.can 0)).modWdp fun w => { w with blocks := [⟨0x41, .can 0, false, 0xE002, 2, 63, List.replicate 56 1, 1, 0⟩] }), .can 0, ⟨5, 0x41, 0x10, 1, 8, 0xE002, 2, 1, [1, 1, 1, 1, 1, 1, 1, 1]⟩, ⟨0x41, .can 0, false, 0xE002, 2, 63, List.replicate 56 1, 1, 0⟩, by decide⟩

theorem witness_BlocksAreTransferredAndEnd_8 :
    ∃ (s : State) (o : Origin) (g : Telegram) (b : BlockSt) , s.mine o g = true ∧ s.unserved = false ∧ cutOf g = false ∧ g.op = 0x10 ∧ s.fromHolder o = true ∧ 1 ≤ g.len.toNat ∧ g.len.toNat ≤ 56 ∧ ((s.wdp.blocks.find? fun x => x.tagGen == tgOf g && !x.read) = some b) ∧ b.index ≠ 0xE010 ∧ g.seg.toNat = b.next % 256 ∧ bit g.status.toNat 0 = true ∧ (b.data.length + (datOf g).length) = b.size ∧ b.index ≠ 0x1001 ∧ b.index ≠ 0xE011 :=
  ⟨(((((State.reset.modPower fun p => { p with supervisor := true }).wr kDevState 2).wr kNodeId 5).setTag 0x41 1 [0x41, 4, 0, 0, 2, 0xE0, 2, 0] (.can 0)).modWdp fun w => { w with blocks := [⟨0x41, .can 0, false, 0xE002, 2, 64, List.replicate 56 1, 1, 0⟩] }), .can 0, ⟨5, 0x41, 0x10, 1, 8, 0xE002, 2, 1, [1, 1, 1, 1, 1, 1, 1, 1]⟩, ⟨0x41, .can 0, false, 0xE002, 2, 64, List.replicate 56 1, 1, 0⟩, by decide⟩

theorem witness_BlocksAreTransferredAndEnd_9 :
    ∃ (s : State) (o : Origin) (g : Telegram) , s.mine o g = true ∧ s.unserved = false ∧ (cutOf g = true ∨ (g.op ≠ 0x10 ∧ g.op ≠ 0x11)) :=
  ⟨(((((State.reset.modPower fun p => { p with supervisor := true }).wr kDevState 2).wr kNodeId 5).setTag 0x41 1 [0x41, 4, 0, 0, 2, 0xE0, 2, 0] (.can 0)).modWdp fun w => { w with blocks := (([⟨0x41, .can 0, false, 0xE002, 2, 64, [], 0, 0⟩] : List BlockSt)) }), .can 0, ⟨5, 0x41, 18, 0, 0, 0xE002, 2, 0, []⟩, by decide⟩

theorem witness_BlocksAreTransferredAndEnd_10 :
    ∃ (s : State) (o : Origin) (g : Telegram) , s.mine o g = true ∧ s.unserved = false ∧ cutOf g = false ∧ g.op = 0x10 ∧ s.fromHolder o = true ∧ ((s.wdp.blocks.find? fun x => x.tagGen == tgOf g && !x.read).isSome = true) ∧ (g.len = 0 ∨ 56 < g.len.toNat) :=
  ⟨(((((State.reset.modPower fun p => { p with supervisor := true }).wr kDevState 2).wr kNodeId 5).setTag 0x41 1 [0x41, 4, 0, 0, 2, 0xE0, 2, 0] (.can 0)).modWdp fun w => { w with blocks := (([⟨0x41, .can 0, false, 0xE002, 2, 64, [], 0, 0⟩] : List BlockSt)) }), .can 0, ⟨5, 0x41, 16, 0, 0, 0xE002, 2, 0, []⟩, by decide⟩

theorem witness_BlocksAreTransferredAndEnd_11 :
    ∃ (s : State) (o : Origin) (g : Telegram) , s.mine o g = true ∧ s.unserved = false ∧ cutOf g = false ∧ g.op = 0x10 ∧ s.fromHolder o = false ∧ ((s.wdp.blocks.find? fun x => x.tagGen == tgOf g && !x.read).isSome = true) :=
  ⟨(((((State.reset.modPower fun p => { p with supervisor := true }).wr kDevState 2).wr kNodeId 5).setTag 0x41 1 [0x41, 4, 0, 0, 2, 0xE0, 2, 0] (.can 0)).modWdp fun w => { w with blocks := (([⟨0x41, .can 0, false, 0xE002, 2, 64, [], 0, 0⟩] : List BlockSt)) }), .can 1, ⟨5, 0x41, 16, 0, 56, 0xE002, 2, 0, [1, 1, 1, 1, 1, 1, 1, 1, 1, 1, 1, 1, 1, 1, 1, 1, 1, 1, 1, 1, 1, 1, 1, 1, 1, 1, 1, 1, 1, 1, 1, 1, 1, 1, 1, 1, 1, 1, 1, 1, 1, 1, 1, 1, 1, 1, 1, 1, 1, 1, 1, 1, 1, 1, 1, 1]⟩, by decide⟩

theorem witness_BlocksAreTransferredAndEnd_12 :
    ∃ (s : State) (o : Origin) (g : Telegram) , s.mine o g = true ∧ s.unserved = false ∧ cutOf g = false ∧ g.op = 0x10 ∧ ((s.wdp.blocks.find? fun x => x.tagGen == tgOf g && !x.read) = none) :=
  ⟨(((State.reset.modPower fun p => { p with supervisor := true }).wr kDevState 2).wr kNodeId 5), .can 0, ⟨5, 0x41, 16, 0, 0, 0xE002, 2, 0, []⟩, by decide⟩

theorem witness_BlocksAreTransferredAndEnd_13 :
    ∃ (s : State) (o : Origin) (g : Telegram) (b : BlockSt) , s.mine o g = true ∧ s.unserved = false ∧ cutOf g = false ∧ g.op = 0x11 ∧ 1 ≤ g.len.toNat ∧ 1 ≤ byteAt (datOf g) 0 ∧ byteAt (datOf g) 0 ≤ 8 ∧ ((s.wdp.blocks.find? fun x => x.tagGen == tgOf g && x.read) = some b) ∧ (g.seg.toNat < (ceilDiv b.size 56) ∧ ¬((ceilDiv b.size 56) = 256 ∧ g.seg = 0 ∧ b.next = 256)) ∧ b.tagGen = tgOf g :=
  ⟨(((((State.reset.modPower fun p => { p with supervisor := true }).wr kDevState 2).wr kNodeId 5).setTag 0x41 1 [0x41, 4, 0, 0, 2, 0xE0, 2, 0] (.can 0)).modWdp fun w => { w with blocks := (([⟨0x41, .can 0, true, 0xE002, 2, 64, List.replicate 64 7, 0, 0⟩] : List BlockSt)) }), .can 0, ⟨5, 0x41, 17, 0, 1, 0xE002, 2, 0, [2]⟩, ⟨0x41, .can 0, true, 0xE002, 2, 64, List.replicate 64 7, 0, 0⟩, by decide⟩

theorem witness_BlocksAreTransferredAndEnd_14 :
    ∃ (s : State) (o : Origin) (g : Telegram) (b : BlockSt) , s.mine o g = true ∧ s.unserved = false ∧ cutOf g = false ∧ g.op = 0x11 ∧ 1 ≤ g.len.toNat ∧ 1 ≤ byteAt (datOf g) 0 ∧ byteAt (datOf g) 0 ≤ 8 ∧ ((s.wdp.blocks.find? fun x => x.tagGen == tgOf g && x.read) = some b) ∧ (g.seg.toNat = (ceilDiv b.size 56) ∨ ((ceilDiv b.size 56) = 256 ∧ g.seg = 0 ∧ b.next = 256)) :=
  ⟨(((((State.reset.modPower fun p => { p with supervisor := true }).wr kDevState 2).wr kNodeId 5).setTag 0x41 1 [0x41, 4, 0, 0, 2, 0xE0, 2, 0] (.can 0)).modWdp fun w => { w with blocks := (([⟨0x41, .can 0, true, 0xE002, 2, 64, List.replicate 64 7, 0, 0⟩] : List BlockSt)) }), .can 0, ⟨5, 0x41, 17, 0, 1, 0xE002, 2, 2, [1]⟩, ⟨0x41, .can 0, true, 0xE002, 2, 64, List.replicate 64 7, 0, 0⟩, by decide⟩

theorem witness_BlocksAreTransferredAndEnd_15 :
    ∃ (s : State) (o : Origin) (g : Telegram) (b : BlockSt) , s.mine o g = true ∧ s.unserved = false ∧ cutOf g = false ∧ g.op = 0x11 ∧ 1 ≤ g.len.toNat ∧ 1 ≤ byteAt (datOf g) 0 ∧ byteAt (datOf g) 0 ≤ 8 ∧ ((s.wdp.blocks.find? fun x => x.tagGen == tgOf g && x.read) = some b) ∧ (ceilDiv b.size 56) < g.seg.toNat :=
  ⟨(((((State.reset.modPower fun p => { p with supervisor := true }).wr kDevState 2).wr kNodeId 5).setTag 0x41 1 [0x41, 4, 0, 0, 2, 0xE0, 2, 0] (.can 0)).modWdp fun w => { w with blocks := (([⟨0x41, .can 0, true, 0xE002, 2, 64, List.replicate 64 7, 0, 0⟩] : List BlockSt)) }), .can 0, ⟨5, 0x41, 17, 0, 1, 0xE002, 2, 3, [1]⟩, ⟨0x41, .can 0, true, 0xE002, 2, 64, List.replicate 64 7, 0, 0⟩, by decide⟩

theorem witness_BlocksAreTransferredAndEnd_16 :
    ∃ (s : State) (o : Origin) (g : Telegram) , s.mine o g = true ∧ s.unserved = false ∧ (cutOf g = true ∨ (g.op ≠ 0x10 ∧ g.op ≠ 0x11)) :=
  ⟨(((((State.reset.modPower fun p => { p with supervisor := true }).wr kDevState 2).wr kNodeId 5).setTag 0x41 1 [0x41, 4, 0, 0, 2, 0xE0, 2, 0] (.can 0)).modWdp fun w => { w with blocks := (([⟨0x41, .can 0, true, 0xE002, 2, 64, List.replicate 64 7, 0, 0⟩] : List BlockSt)) }), .can 0, ⟨5, 0x41, 18, 0, 0, 0xE002, 2, 0, []⟩, by decide⟩

theorem witness_BlocksAreTransferredAndEnd_17 :
    ∃ (s : State) (o : Origin) (g : Telegram) , s.mine o g = true ∧ s.unserved = false ∧ cutOf g = false ∧ g.op = 0x11 ∧ ((s.wdp.blocks.find? fun x => x.tagGen == tgOf g && x.read).isSome = true) ∧ (g.len = 0 ∨ byteAt (datOf g) 0 = 0 ∨ 8 < byteAt (datOf g) 0) :=
  ⟨(((((State.reset.modPower fun p => { p with supervisor := true }).wr kDevState 2).wr kNodeId 5).setTag 0x41 1 [0x41, 4, 0, 0, 2, 0xE0, 2, 0] (.can 0)).modWdp fun w => { w with blocks := (([⟨0x41, .can 0, true, 0xE002, 2, 64, List.replicate 64 7, 0, 0⟩] : List BlockSt)) }), .can 0, ⟨5, 0x41, 17, 0, 0, 0xE002, 2, 0, []⟩, by decide⟩

theorem witness_BlocksAreTransferredAndEnd_18 :
    ∃ (s : State) (o : Origin) (g : Telegram) , s.mine o g = true ∧ s.unserved = false ∧ cutOf g = false ∧ g.op = 0x11 ∧ ((s.wdp.blocks.find? fun x => x.tagGen == tgOf g && x.read) = none) :=
  ⟨(((State.reset.modPower fun p => { p with supervisor := true }).wr kDevState 2).wr kNodeId 5), .can 0, ⟨5, 0x41, 17, 0, 0, 0xE002, 2, 0, []⟩, by decide⟩

theorem witness_BlocksAreTransferredAndEnd_19 :
    ∃ (s : State) (g : Byte) (b : BlockSt) , s.blockOf g.toNat = some b ∧ b.index ≠ 0xE010 :=
  ⟨(((((State.reset.modPower fun p => { p with supervisor := true }).wr kDevState 2).wr kNodeId 5).setTag 0x41 1 [0x41, 4, 0, 0, 2, 0xE0, 2, 0] (.can 0)).modWdp fun w => { w with blocks := (([⟨0x41, .can 0, false, 0xE002, 2, 64, [], 0, 0⟩] : List BlockSt)) }), 0x41, ⟨0x41, .can 0, false, 0xE002, 2, 64, [], 0, 0⟩, by decide⟩

theorem witness_BlocksAreTransferredAndEnd_20 :
    ∃ (s : State) (g : Byte) (b : BlockSt) , s.blockOf g.toNat = some b ∧ b.index = 0xE010 ∧ s.jobs.waiting = [] :=
  ⟨((((((State.reset.modPower fun p => { p with supervisor := true }).wr kDevState 2).wr kNodeId 5).setTag 0x41 1 [0x41, 4, 0, 0, 2, 0xE0, 2, 0] (.can 0)).modWdp fun w => { w with blocks := [⟨0x41, .can 0, false, 0xE010, 1, 64, [], 0, 0⟩] }).wr 0xE01102 1), 0x41, ⟨0x41, .can 0, false, 0xE010, 1, 64, [], 0, 0⟩, by decide⟩

theorem witness_BlocksAreTransferredAndEnd_21 :
    ∃ (s : State) (g : Byte) , s.blockOf g.toNat = none :=
  ⟨(((State.reset.modPower fun p => { p with supervisor := true }).wr kDevState 2).wr kNodeId 5), 0x41, by decide⟩

theorem witness_BlocksAreTransferredAndEnd_22 :
    ∃ (s : State) (o : Origin) (g : Telegram) , s.mine o g = true ∧ s.unserved = false ∧ cutOf g = false ∧ g.op = 6 ∧ s.fromHolder o = true ∧ s.running (tgOf g) = true ∧ s.frames.swarm = [] :=
  ⟨(((((State.reset.modPower fun p => { p with supervisor := true }).wr kDevState 2).wr kNodeId 5).setTag 0x41 1 [0x41, 4, 0, 0, 2, 0xE0, 2, 0] (.can 0)).modWdp fun w => { w with blocks := (([⟨0x41, .can 0, false, 0xE002, 2, 64, [], 0, 0⟩] : List BlockSt)) }), .can 0, ⟨5, 0x41, 6, 0, 0, 0, 0, 0, []⟩, by decide⟩

theorem witness_BlocksAreTransferredAndEnd_23 :
    ∃ (s : State) (o : Origin) (g : Telegram) , s.mine o g = true ∧ s.unserved = false ∧ (cutOf g = true ∨ g.op ≠ 6 ∨ s.fromHolder o = false ∨ s.running (tgOf g) = false) :=
  ⟨(((State.reset.modPower fun p => { p with supervisor := true }).wr kDevState 2).wr kNodeId 5), .can 0, ⟨5, 0x41, 6, 0, 0, 0, 0, 0, []⟩, by decide⟩

theorem witness_SafeAndLeaseTelegramsAct_1 :
    ∃ (s : State) (u : Fin 2) (g : Telegram) , s.power.bootLoader = false ∧ s.reaches g.node.toNat = true ∧ s.fromHolder (.can u) = true ∧ (s.manager = false ∨ g.node ≠ 0 ∨ s.unserved = true) ∧ (s.dev = 2 ∨ s.dev = 3 ∨ s.dev = 4) :=
  ⟨(((State.reset.modPower fun p => { p with supervisor := true }).wr kDevState 2).wr kNodeId 5), 0, ⟨5, 0x41, 0, 0, 0, 0, 0, 0, []⟩, by decide⟩

theorem witness_SafeAndLeaseTelegramsAct_2 :
    ∃ (s : State) (u : Fin 2) (g : Telegram) , s.power.bootLoader = false ∧ s.reaches g.node.toNat = true ∧ s.fromHolder (.can u) = true ∧ (s.manager = false ∨ g.node ≠ 0 ∨ s.unserved = true) ∧ (s.dev = 0 ∨ s.dev = 1 ∨ s.dev = 5) :=
  ⟨(((State.reset.modPower fun p => { p with supervisor := true }).wr kDevState 1).wr kNodeId 5), 0, ⟨5, 0x41, 0, 0, 0, 0, 0, 0, []⟩, by decide⟩

theorem witness_SafeAndLeaseTelegramsAct_3 :
    ∃ (s : State) (u : Fin 2) (g : Telegram) , s.power.bootLoader = false ∧ s.reaches g.node.toNat = true ∧ s.fromHolder (.can u) = true ∧ (s.manager = false ∨ g.node ≠ 0 ∨ s.unserved = true) ∧ (s.dev = 6 ∨ s.dev = 7) :=
  ⟨(((State.reset.modPower fun p => { p with supervisor := true }).wr kDevState 6).wr kNodeId 5), 0, ⟨5, 0x41, 0, 0, 0, 0, 0, 0, []⟩, by decide⟩

theorem witness_SafeAndLeaseTelegramsAct_4 :
    ∃ (s : State) (u : Fin 2) (g : Telegram) (p : Nat) , s.power.bootLoader = false ∧ s.reaches g.node.toNat = true ∧ s.fromHolder (.can u) = true ∧ s.manager = true ∧ g.node = 0 ∧ s.unserved = false ∧ (s.dev = 2 ∨ s.dev = 3 ∨ s.dev = 4) ∧ s.frames.swarm = [] ∧ min 32 (s.rd 0xB03004) = p + 1 ∧ 1 ≤ p :=
  ⟨((((((State.reset.modPower fun p => { p with supervisor := true }).wr kDevState 2).wr kNodeId 5).wr kRole 1).wr 0xB03004 4).wr 0xB02002 0), 0, ⟨0, 0x41, 0, 0, 0, 0, 0, 0, []⟩, 3, by decide⟩

theorem witness_SafeAndLeaseTelegramsAct_5 :
    ∃ (s : State) (u : Fin 2) (g : Telegram) , s.power.bootLoader = false ∧ s.reaches g.node.toNat = true ∧ s.fromHolder (.can u) = false :=
  ⟨(((State.reset.modPower fun p => { p with supervisor := true }).wr kDevState 2).wr kNodeId 5), 1, ⟨5, 0x41, 0, 0, 0, 0, 0, 0, []⟩, by decide⟩

theorem witness_SafeAndLeaseTelegramsAct_6 :
    ∃ (s : State) (u : Fin 2) (g : Telegram) , (s.power.bootLoader = true ∨ s.reaches g.node.toNat = false) :=
  ⟨State.reset, 0, ⟨5, 0x41, 0, 0, 0, 0, 0, 0, []⟩, by decide⟩

theorem witness_SafeAndLeaseTelegramsAct_7 :
    ∃ (s : State) (u : Fin 2) (g : Telegram) , s.power.bootLoader = false ∧ s.reaches g.node.toNat = true ∧ g.tagGen = 0 ∧ s.pselLow = false ∧ (s.rd 0xB02002 = u.val ∨ s.bitAt 0xB02003 3 = true) :=
  ⟨((((State.reset.modPower fun p => { p with supervisor := true }).wr kDevState 2).wr kNodeId 5).wr 0xB0210B 50), 0, ⟨5, 0, 0, 0, 0, 0, 0, 0, []⟩, by decide⟩

theorem witness_SafeAndLeaseTelegramsAct_8 :
    ∃ (s : State) (u : Fin 2) (g : Telegram) , s.power.bootLoader = false ∧ s.reaches g.node.toNat = true ∧ g.tagGen = 0 ∧ (s.pselLow = true ∨ (s.rd 0xB02002 ≠ u.val ∧ s.bitAt 0xB02003 3 = false)) :=
  ⟨(((State.reset.modPower fun p => { p with supervisor := true }).wr kDevState 2).wr kNodeId 5), 1, ⟨5, 0, 0, 0, 0, 0, 0, 0, []⟩, by decide⟩

theorem witness_SafeAndLeaseTelegramsAct_9 :
    ∃ (s : State) (u : Fin 2) (g : Telegram) , s.power.bootLoader = false ∧ s.reaches g.node.toNat = true ∧ g.tagGen = 1 ∧ s.pselLow = false ∧ s.rd 0xB02002 = g.op.toNat ∧ g.op.toNat ≤ 1 :=
  ⟨((((State.reset.modPower fun p => { p with supervisor := true }).wr kDevState 2).wr kNodeId 5).wr 0xB02212 3), 0, ⟨5, 1, 0, 0, 0, 0, 0, 0, []⟩, by decide⟩

theorem witness_SafeAndLeaseTelegramsAct_10 :
    ∃ (s : State) (u : Fin 2) (g : Telegram) , s.power.bootLoader = false ∧ s.reaches g.node.toNat = true ∧ g.tagGen = 1 ∧ s.pselLow = false ∧ s.rd 0xB02002 ≠ g.op.toNat :=
  ⟨(((State.reset.modPower fun p => { p with supervisor := true }).wr kDevState 2).wr kNodeId 5), 0, ⟨5, 1, 1, 0, 0, 0, 0, 0, []⟩, by decide⟩

theorem witness_SafeAndLeaseTelegramsAct_11 :
    ∃ (s : State) (u : Fin 2) (g : Telegram) , s.power.bootLoader = false ∧ s.reaches g.node.toNat = true ∧ g.tagGen = 2 ∧ s.pselLow = false ∧ g.op.toNat ≤ 1 ∧ s.rd (0xB02211 + g.op.toNat) = 3 :=
  ⟨((((State.reset.modPower fun p => { p with supervisor := true }).wr kDevState 2).wr kNodeId 5).wr 0xB02212 3), 0, ⟨5, 2, 1, 0, 0, 0, 0, 0, []⟩, by decide⟩

theorem witness_SafeAndLeaseTelegramsAct_12 :
    ∃ (s : State) (u : Fin 2) (g : Telegram) , s.power.bootLoader = false ∧ s.reaches g.node.toNat = true ∧ g.tagGen = 1 ∧ s.pselLow = true :=
  ⟨((((State.reset.modPower fun p => { p with supervisor := true }).wr kDevState 2).wr kNodeId 5).wr 0xB02003 1), 1, ⟨5, 1, 1, 0, 0, 0, 0, 0, []⟩, by decide⟩

theorem witness_SafeAndLeaseTelegramsAct_13 :
    ∃ (s : State) (u : Fin 2) (g : Telegram) , s.power.bootLoader = false ∧ s.reaches g.node.toNat = true ∧ g.tagGen = 2 ∧ (s.pselLow = true ∨ 1 < g.op.toNat ∨ s.rd (0xB02211 + g.op.toNat) ≠ 3) :=
  ⟨((((State.reset.modPower fun p => { p with supervisor := true }).wr kDevState 2).wr kNodeId 5).wr 0xB02003 1), 1, ⟨5, 2, 1, 0, 0, 0, 0, 0, []⟩, by decide⟩

theorem witness_SafeAndLeaseTelegramsAct_14 :
    ∃ (s : State) (u : Fin 2) (g : Telegram) , (s.power.bootLoader = true ∨ s.reaches g.node.toNat = false ∨ g.tagGen ≠ 0) :=
  ⟨(((State.reset.modPower fun p => { p with supervisor := true }).wr kDevState 2).wr kNodeId 5), 1, ⟨5, 9, 1, 0, 0, 0, 0, 0, []⟩, by decide⟩

theorem witness_SafeAndLeaseTelegramsAct_15 :
    ∃ (s : State) (u : Fin 2) (g : Telegram) , (s.power.bootLoader = true ∨ s.reaches g.node.toNat = false ∨ g.tagGen ≠ 1) :=
  ⟨(((State.reset.modPower fun p => { p with supervisor := true }).wr kDevState 2).wr kNodeId 5), 1, ⟨5, 9, 1, 0, 0, 0, 0, 0, []⟩, by decide⟩

theorem witness_SafeAndLeaseTelegramsAct_16 :
    ∃ (s : State) (u : Fin 2) (g : Telegram) , (s.power.bootLoader = true ∨ s.reaches g.node.toNat = false ∨ g.tagGen ≠ 2) :=
  ⟨(((State.reset.modPower fun p => { p with supervisor := true }).wr kDevState 2).wr kNodeId 5), 1, ⟨5, 9, 1, 0, 0, 0, 0, 0, []⟩, by decide⟩

theorem witness_CyclicAndTimeTelegrams_1 :
    ∃ (s : State) (u : Fin 2) (d : Bytes) , s.unserved = false ∧ s.power.bootLoader = false ∧ s.dev ≠ 0 ∧ s.fromHolder (.can u) = true ∧ d.length = mapTotal (s.cyclicMap 0xC043) :=
  ⟨((((State.reset.modPower fun p => { p with supervisor := true }).wr kDevState 2).wr kNodeId 5).wr 0xC04301 0x0101D00B), 0, [3], by decide⟩

theorem witness_CyclicAndTimeTelegrams_2 :
    ∃ (s : State) (u : Fin 2) (d : Bytes) , s.unserved = false ∧ s.power.bootLoader = false ∧ s.dev ≠ 0 ∧ s.fromHolder (.can u) = true ∧ d.length ≠ mapTotal (s.cyclicMap 0xC043) :=
  ⟨((((((State.reset.modPower fun p => { p with supervisor := true }).wr kDevState 2).wr kNodeId 5).wr 0xC04301 0x0201E002).wr 0xC04401 0x01021000).wr 0xC04103 5), 0, [3], by decide⟩

theorem witness_CyclicAndTimeTelegrams_3 :
    ∃ (s : State) (u : Fin 2) (d : Bytes) , s.unserved = false ∧ s.power.bootLoader = false ∧ s.dev ≠ 0 ∧ s.fromHolder (.can u) = false :=
  ⟨((((((State.reset.modPower fun p => { p with supervisor := true }).wr kDevState 2).wr kNodeId 5).wr 0xC04301 0x0201E002).wr 0xC04401 0x01021000).wr 0xC04103 5), 1, [3], by decide⟩

theorem witness_CyclicAndTimeTelegrams_4 :
    ∃ (s : State) (u : Fin 2) (d : Bytes) , (s.unserved = true ∨ s.power.bootLoader = true ∨ s.dev = 0) :=
  ⟨State.reset, 1, [3], by decide⟩

theorem witness_CyclicAndTimeTelegrams_5 :
    ∃ (s : State) (e : Nat) , s.rd 0xC04103 ≠ 0 ∧ s.speaks = true ∧ s.cyclicMap 0xC044 = [e] ∧ entryIndex e = 0x1000 ∧ entrySub e = 2 :=
  ⟨((((((State.reset.modPower fun p => { p with supervisor := true }).wr kDevState 2).wr kNodeId 5).wr 0xC04301 0x0201E002).wr 0xC04401 0x01021000).wr 0xC04103 5), 0x01021000, by decide⟩

theorem witness_CyclicAndTimeTelegrams_6 :
    ∃ (s : State) , s.rd 0xC04103 ≠ 0 ∧ s.speaks = true :=
  ⟨((((((State.reset.modPower fun p => { p with supervisor := true }).wr kDevState 2).wr kNodeId 5).wr 0xC04301 0x0201E002).wr 0xC04401 0x01021000).wr 0xC04103 5), by decide⟩

theorem witness_CyclicAndTimeTelegrams_7 :
    ∃ (s : State) , (s.rd 0xC04103 = 0 ∨ s.speaks = false) :=
  ⟨(((State.reset.modPower fun p => { p with supervisor := true }).wr kDevState 2).wr kNodeId 5), by decide⟩

theorem witness_CyclicAndTimeTelegrams_8 :
    ∃ (s : State) , s.rd 0xC04104 ≠ 0 ∧ s.manager = true ∧ s.speaks = true :=
  ⟨((((((State.reset.modPower fun p => { p with supervisor := true }).wr kDevState 2).wr kNodeId 5).wr kRole 1).wr 0xC04104 5).modWdp fun w => { w with timeSeq := 9 }), by decide⟩

theorem witness_CyclicAndTimeTelegrams_9 :
    ∃ (s : State) , (s.rd 0xC04104 = 0 ∨ s.manager = false ∨ s.speaks = false) :=
  ⟨(((State.reset.modPower fun p => { p with supervisor := true }).wr kDevState 2).wr kNodeId 5), by decide⟩

theorem witness_CaptureIsEnabledArmedAndForced_1 :
    ∃ (s : State) (v : Byte) , s.power.supervisor = true ∧ s.dev ≠ 0 ∧ v = 1 ∧ s.rd 0xD00001 ≠ 1 ∧ s.captureFits = true :=
  ⟨((State.reset.modPower fun p => { p with supervisor := true }).wr kDevState 2), 1, by decide⟩

theorem witness_CaptureIsEnabledArmedAndForced_2 :
    ∃ (s : State) (v : Byte) , s.power.supervisor = true ∧ s.dev ≠ 0 ∧ v = 1 ∧ s.rd 0xD00001 = 1 ∧ s.captureFits = true :=
  ⟨(((((State.reset.modPower fun p => { p with supervisor := true }).wr kDevState 2).wr 0xD00001 1).wr 0xD00002 0).wr kPosition 4), 1, by decide⟩

theorem witness_CaptureIsEnabledArmedAndForced_3 :
    ∃ (s : State) (v : Byte) , s.power.supervisor = true ∧ s.dev ≠ 0 ∧ v = 1 ∧ s.captureFits = false :=
  ⟨(((((((State.reset.modPower fun p => { p with supervisor := true }).wr kDevState 2).wr (kTrack 0 1) 0x1000).wr (kTrack 0 2) 5).wr 0xD00004 65535).wr 0xD00006 65535).wr 0xD00001 0), 1, by decide⟩

theorem witness_CaptureIsEnabledArmedAndForced_4 :
    ∃ (s : State) (v : Byte) , s.power.supervisor = true ∧ s.dev ≠ 0 ∧ v = 0 :=
  ⟨((((((State.reset.modPower fun p => { p with supervisor := true }).wr kDevState 2).wr 0xD00001 1).wr 0xD00002 0).wr kPosition 4).modCapture fun c => { c with armedAt := some 3, ring := [⟨1, 2, 3, [], false⟩] }), 0, by decide⟩

theorem witness_CaptureIsEnabledArmedAndForced_5 :
    ∃ (s : State) (v : Byte) , s.power.supervisor = true ∧ s.dev ≠ 0 ∧ v = 1 ∧ s.captureFits = true ∧ s.capture.armedAt = none ∧ s.capture.record = none :=
  ⟨(((((State.reset.modPower fun p => { p with supervisor := true }).wr kDevState 2).wr 0xD00001 1).wr 0xD00002 0).wr kPosition 4), 1, by decide⟩

theorem witness_CaptureIsEnabledArmedAndForced_6 :
    ∃ (s : State) (v : Byte) , s.power.supervisor = true ∧ s.dev ≠ 0 ∧ (v = 0 ∨ (v = 1 ∧ s.captureFits = true)) ∧ (v = 0 ∨ s.capture.armedAt.isSome = true ∨ s.capture.record.isSome = true) :=
  ⟨((((((State.reset.modPower fun p => { p with supervisor := true }).wr kDevState 2).wr 0xD00001 1).wr 0xD00002 0).wr kPosition 4).modCapture fun c => { c with armedAt := some 3 }), 1, by decide⟩

theorem witness_CaptureIsEnabledArmedAndForced_7 :
    ∃ (s : State) (v : Byte) , s.power.supervisor = true ∧ s.dev ≠ 0 ∧ v = 1 ∧ s.captureFits = false :=
  ⟨(((((((State.reset.modPower fun p => { p with supervisor := true }).wr kDevState 2).wr (kTrack 0 1) 0x1000).wr (kTrack 0 2) 5).wr 0xD00004 65535).wr 0xD00006 65535).wr 0xD00001 0), 1, by decide⟩

theorem witness_CaptureIsEnabledArmedAndForced_8 :
    ∃ (s : State) (v : Byte) , s.power.supervisor = true ∧ s.dev ≠ 0 ∧ v = 1 :=
  ⟨(((((State.reset.modPower fun p => { p with supervisor := true }).wr kDevState 2).wr 0xD00001 1).wr 0xD00002 0).wr kPosition 4), 1, by decide⟩

theorem witness_CaptureIsEnabledArmedAndForced_9 :
    ∃ (s : State) (v : Byte) , s.power.supervisor = true ∧ s.dev ≠ 0 ∧ v = 0 :=
  ⟨(((((State.reset.modPower fun p => { p with supervisor := true }).wr kDevState 2).wr 0xD00001 1).wr 0xD00002 0).wr kPosition 4), 0, by decide⟩

theorem witness_CaptureIsEnabledArmedAndForced_10 :
    ∃ (s : State) (a : Nat) (ex : Option Nat) (rest : List (Nat × Option Nat)) , s.capture.due = (a, ex) :: rest ∧ s.rd 0xD00001 = 1 ∧ s.dev ≠ 0 ∧ s.dev ≠ 5 ∧ s.inReset = false ∧ within s.capture.lastTick (max s.tick a) 80 = false :=
  ⟨((((((State.reset.modPower fun p => { p with supervisor := true }).wr kDevState 2).wr 0xD00001 1).wr 0xD00002 0).wr kPosition 4).modCapture fun c => { c with due := [(100, none)] }), 100, none, [], by decide⟩

theorem witness_CaptureIsEnabledArmedAndForced_11 :
    ∃ (s : State) (a : Nat) (ex : Option Nat) (rest : List (Nat × Option Nat)) (j : Fin 32) (x : TrackSt) (out : Nat) (cmp : Nat) , s.capture.due = (a, ex) :: rest ∧ s.rd 0xD00001 = 1 ∧ s.dev ≠ 0 ∧ s.dev ≠ 5 ∧ s.inReset = false ∧ within s.capture.lastTick (max s.tick a) 80 = false ∧ s.trackOn j = true ∧ (s.advanceTo a).trackStep j s.capture.next = (some (out, cmp), x) :=
  ⟨(((((((((State.reset.modPower fun p => { p with supervisor := true }).wr kDevState 2).wr 0xD00001 1).wr 0xD00002 0).wr kPosition 4).modCapture fun c => { c with due := [(100, none)] }).wr (kTrack 2 1) 0x1000).wr (kTrack 2 2) 1)), 100, none, [], 2, ⟨none, 0, none⟩, 0, 0, by decide⟩

theorem witness_CaptureIsEnabledArmedAndForced_12 :
    ∃ (s : State) (a : Nat) (ex : Option Nat) (rest : List (Nat × Option Nat)) , s.capture.due = (a, ex) :: rest ∧ s.rd 0xD00001 = 1 ∧ s.dev ≠ 0 ∧ s.dev ≠ 5 ∧ s.inReset = false ∧ within s.capture.lastTick (max s.tick a) 80 = true :=
  ⟨((((((State.reset.modPower fun p => { p with supervisor := true }).wr kDevState 2).wr 0xD00001 1).wr 0xD00002 0).wr kPosition 4).modCapture fun c => { c with due := [(79, none)], lastTick := some 0 }), 79, none, [], by decide⟩

theorem witness_CaptureIsEnabledArmedAndForced_13 :
    ∃ (s : State) (a : Nat) (ex : Option Nat) (rest : List (Nat × Option Nat)) , s.capture.due = (a, ex) :: rest ∧ (s.rd 0xD00001 ≠ 1 ∨ s.dev = 0 ∨ s.dev = 5 ∨ s.inReset = true) :=
  ⟨(((((((State.reset.modPower fun p => { p with supervisor := true }).wr kDevState 2).wr 0xD00001 1).wr 0xD00002 0).wr kPosition 4).modCapture fun c => { c with due := [(100, none)] }).wr kDevState 5), 100, none, [], by decide⟩

theorem witness_CaptureIsEnabledArmedAndForced_14 :
    ∃ (s : State) , s.capture.due = [] :=
  ⟨(((((State.reset.modPower fun p => { p with supervisor := true }).wr kDevState 2).wr 0xD00001 1).wr 0xD00002 0).wr kPosition 4), by decide⟩

theorem witness_CaptureIsEnabledArmedAndForced_15 :
    ∃ (s : State) (v : Byte) , s.power.supervisor = true ∧ s.dev ≠ 0 ∧ v = 1 :=
  ⟨(((State.reset.modPower fun p => { p with supervisor := true }).wr kDevState 2).wr 0xD05004 9), 1, by decide⟩

theorem witness_CaptureIsEnabledArmedAndForced_16 :
    ∃ (s : State) (v : Byte) , s.power.supervisor = true ∧ s.dev ≠ 0 ∧ v = 0 :=
  ⟨((State.reset.modPower fun p => { p with supervisor := true }).wr kDevState 2), 0, by decide⟩

theorem witness_RecordsAreDecidedAndClosed_1 :
    ∃ (s : State) (k : Fin 17) (f : FiringSt) (x : SampleSt) (late : Bool) (a : Nat) , ((s.capture.firings.find? fun y => y.cond == k.val) = some f) ∧ s.anchor f.instant = some (x, late) ∧ s.capture.armedAt = some a ∧ a ≤ x.tick ∧ ((8 + ceilDiv (s.dataHalves (x.num - (min s.preDepth ((s.capture.ring.take s.ringDepth).filter fun y => y.num < x.num).length)) ((min s.preDepth ((s.capture.ring.take s.ringDepth).filter fun y => y.num < x.num).length) + s.postDepth)) 4) ≤ s.capture.free) :=
  ⟨(((((((State.reset.modPower fun p => { p with supervisor := true }).wr kDevState 2).wr 0xD00001 1).wr 0xD00002 0).wr kPosition 4).wr 0xD00005 4).modCapture fun c => { c with armedAt := some 50, firings := [⟨16, 900, 0⟩], next := 1, ring := ([⟨0, 1000, 100, [], false⟩] : List SampleSt) }), 16, ⟨16, 900, 0⟩, ⟨0, 1000, 100, [], false⟩, false, 50, by decide⟩

theorem witness_RecordsAreDecidedAndClosed_2 :
    ∃ (s : State) (k : Fin 17) (f : FiringSt) (x : SampleSt) (late : Bool) (a : Nat) , ((s.capture.firings.find? fun y => y.cond == k.val) = some f) ∧ s.anchor f.instant = some (x, late) ∧ s.capture.armedAt = some a ∧ a ≤ x.tick ∧ (s.capture.free < (8 + ceilDiv (s.dataHalves (x.num - (min s.preDepth ((s.capture.ring.take s.ringDepth).filter fun y => y.num < x.num).length)) ((min s.preDepth ((s.capture.ring.take s.ringDepth).filter fun y => y.num < x.num).length) + s.postDepth)) 4)) :=
  ⟨((((((((State.reset.modPower fun p => { p with supervisor := true }).wr kDevState 2).wr 0xD00001 1).wr 0xD00002 0).wr kPosition 4).wr 0xD00005 4).modCapture fun c => { c with armedAt := some 50, firings := [⟨16, 900, 0⟩], next := 1, ring := ([⟨0, 1000, 100, [], false⟩] : List SampleSt) }).modCapture fun c => { c with used := 163839 }), 16, ⟨16, 900, 0⟩, ⟨0, 1000, 100, [], false⟩, false, 50, by decide⟩

theorem witness_RecordsAreDecidedAndClosed_3 :
    ∃ (s : State) (k : Fin 17) (f : FiringSt) (x : SampleSt) (late : Bool) (r : RecordSt) , ((s.capture.firings.find? fun y => y.cond == k.val) = some f) ∧ s.anchor f.instant = some (x, late) ∧ (match s.capture.armedAt with | some a => decide (x.tick < a) | none => true) = true ∧ s.capture.record = some r ∧ r.trig.num = x.num :=
  ⟨((((((((State.reset.modPower fun p => { p with supervisor := true }).wr kDevState 2).wr 0xD00001 1).wr 0xD00002 0).wr kPosition 4).wr 0xD00005 4).modCapture fun c => { c with armedAt := some 50, firings := [⟨16, 900, 0⟩], next := 1, ring := ([⟨0, 1000, 100, [], false⟩] : List SampleSt) }).modCapture fun c => { c with armedAt := none, record := some ⟨⟨0, 900, 90, [], false⟩, 0, 1, 0, false, 0, 8, [], 0, 1⟩ }), 16, ⟨16, 900, 0⟩, ⟨0, 1000, 100, [], false⟩, false, ⟨⟨0, 900, 90, [], false⟩, 0, 1, 0, false, 0, 8, [], 0, 1⟩, by decide⟩

theorem witness_RecordsAreDecidedAndClosed_4 :
    ∃ (s : State) (k : Fin 17) (f : FiringSt) (x : SampleSt) (late : Bool) (r : RecordSt) , ((s.capture.firings.find? fun y => y.cond == k.val) = some f) ∧ s.anchor f.instant = some (x, late) ∧ (match s.capture.armedAt with | some a => decide (x.tick < a) | none => true) = true ∧ s.capture.record = some r ∧ r.trig.num < x.num :=
  ⟨(((((((((State.reset.modPower fun p => { p with supervisor := true }).wr kDevState 2).wr 0xD00001 1).wr 0xD00002 0).wr kPosition 4).wr 0xD00005 4).modCapture fun c => { c with armedAt := some 50, firings := [⟨16, 900, 0⟩], next := 1, ring := ([⟨0, 1000, 100, [], false⟩] : List SampleSt) }).modCapture fun c => { c with armedAt := none, record := some ⟨⟨0, 900, 90, [], false⟩, 0, 1, 0, false, 0, 8, [], 0, 1⟩ }).modCapture fun c => { c with ring := [⟨1, 1000, 100, [], false⟩] }), 16, ⟨16, 900, 0⟩, ⟨1, 1000, 100, [], false⟩, false, ⟨⟨0, 900, 90, [], false⟩, 0, 1, 0, false, 0, 8, [], 0, 1⟩, by decide⟩

theorem witness_RecordsAreDecidedAndClosed_5 :
    ∃ (s : State) (k : Fin 17) (f : FiringSt) (x : SampleSt) (late : Bool) , ((s.capture.firings.find? fun y => y.cond == k.val) = some f) ∧ s.anchor f.instant = some (x, late) ∧ (match s.capture.armedAt with | some a => decide (x.tick < a) | none => true) = true ∧ (match s.capture.record with | some r => decide (x.num < r.trig.num) | none => s.capture.armedAt.isSome) = true :=
  ⟨((((((((State.reset.modPower fun p => { p with supervisor := true }).wr kDevState 2).wr 0xD00001 1).wr 0xD00002 0).wr kPosition 4).wr 0xD00005 4).modCapture fun c => { c with armedAt := some 50, firings := [⟨16, 900, 0⟩], next := 1, ring := ([⟨0, 1000, 100, [], false⟩] : List SampleSt) }).modCapture fun c => { c with armedAt := none, record := some ⟨⟨5, 900, 90, [], false⟩, 0, 1, 0, false, 0, 8, [], 0, 1⟩ }), 16, ⟨16, 900, 0⟩, ⟨0, 1000, 100, [], false⟩, false, by decide⟩

theorem witness_RecordsAreDecidedAndClosed_6 :
    ∃ (s : State) (k : Fin 17) (f : FiringSt) (x : SampleSt) (late : Bool) , ((s.capture.firings.find? fun y => y.cond == k.val) = some f) ∧ s.anchor f.instant = some (x, late) ∧ s.capture.armedAt = none ∧ s.capture.record = none :=
  ⟨((((((((State.reset.modPower fun p => { p with supervisor := true }).wr kDevState 2).wr 0xD00001 1).wr 0xD00002 0).wr kPosition 4).wr 0xD00005 4).modCapture fun c => { c with armedAt := some 50, firings := [⟨16, 900, 0⟩], next := 1, ring := ([⟨0, 1000, 100, [], false⟩] : List SampleSt) }).modCapture fun c => { c with armedAt := none }), 16, ⟨16, 900, 0⟩, ⟨0, 1000, 100, [], false⟩, false, by decide⟩

theorem witness_RecordsAreDecidedAndClosed_7 :
    ∃ (s : State) (k : Fin 17) , ((match s.capture.firings.find? fun y => y.cond == k.val with | some f => (s.anchor f.instant).isNone | none => true) = true) :=
  ⟨((((((((State.reset.modPower fun p => { p with supervisor := true }).wr kDevState 2).wr 0xD00001 1).wr 0xD00002 0).wr kPosition 4).wr 0xD00005 4).modCapture fun c => { c with armedAt := some 50, firings := [⟨16, 900, 0⟩], next := 1, ring := ([⟨0, 1000, 100, [], false⟩] : List SampleSt) }).modCapture fun c => { c with firings := [⟨16, 2000, 0⟩] }), 16, by decide⟩

theorem witness_RecordsAreDecidedAndClosed_8 :
    ∃ (s : State) (r : RecordSt) , s.capture.record = some r ∧ r.pre + r.post ≤ r.samples.length :=
  ⟨((((((State.reset.modPower fun p => { p with supervisor := true }).wr kDevState 2).wr 0xD00001 1).wr 0xD00002 0).wr kPosition 4).modCapture fun c => { c with record := some ⟨⟨0, 1000, 100, [], false⟩, 0, 65536, 0, false, 0, 8, [⟨0, 1000, 100, [], false⟩], 0, 1⟩, used := 8, packets := [⟨0, 8, 0, false⟩] }), ⟨⟨0, 1000, 100, [], false⟩, 0, 65536, 0, false, 0, 8, [⟨0, 1000, 100, [], false⟩], 0, 1⟩, by decide⟩

theorem witness_RecordsAreDecidedAndClosed_9 :
    ∃ (s : State) , (match s.capture.record with | some r => decide (r.samples.length < r.pre + r.post) | none => true) = true :=
  ⟨(((((State.reset.modPower fun p => { p with supervisor := true }).wr kDevState 2).wr 0xD00001 1).wr 0xD00002 0).wr kPosition 4), by decide⟩

theorem witness_TriggersAndCalibrationReachTheLines_1 :
    ∃ (s : State) (l : Fin 2) (k : Fin 16) , s.capture.driveEnd[l] = none ∧ s.capture.calUntil = none ∧ s.rd 0xD00001 = 1 ∧ s.rd (kCond 0 k) = 6 ∧ s.rd (kCond 1 k) = l.val :=
  ⟨(((((State.reset.modPower fun p => { p with supervisor := true }).wr kDevState 2).wr 0xD04001 6).wr 0xD04011 0).wr 0xD00001 1), 0, 0, by decide⟩

theorem witness_TriggersAndCalibrationReachTheLines_2 :
    ∃ (s : State) (l : Fin 2) (u : Nat) , s.capture.driveEnd[l] = none ∧ s.capture.calUntil = some u ∧ s.capture.calLine = l.val ∧ s.tick ≤ u :=
  ⟨(((State.reset.modPower fun p => { p with supervisor := true }).wr kDevState 2).modCapture fun c => { c with calUntil := some 99, calLine := 0 }), 0, 99, by decide⟩

theorem witness_TriggersAndCalibrationReachTheLines_3 :
    ∃ (s : State) (l : Fin 2) , s.capture.driveEnd[l].isSome = true :=
  ⟨(((State.reset.modPower fun p => { p with supervisor := true }).wr kDevState 2).modCapture fun c => { c with driveEnd := #v[some 40, none] }), 0, by decide⟩

theorem witness_TriggersAndCalibrationReachTheLines_4 :
    ∃ (s : State) (l : Fin 2) (d : Nat) , s.capture.driveEnd[l] = some d :=
  ⟨(((State.reset.modPower fun p => { p with supervisor := true }).wr kDevState 2).modCapture fun c => { c with driveEnd := #v[some 40, none] }), 0, 40, by decide⟩

theorem witness_TriggersAndCalibrationReachTheLines_5 :
    ∃ (s : State) (l : Fin 2) , s.capture.driveEnd[l] = none :=
  ⟨((State.reset.modPower fun p => { p with supervisor := true }).wr kDevState 2), 0, by decide⟩

theorem witness_TriggersAndCalibrationReachTheLines_6 :
    ∃ (s : State) (f : Frame) (k : Fin 16) , s.laneUp (inLane f) = true ∧ (s.heard f).takesFrom f.path f.src.toNat = true ∧ s.posOn f.path ≠ some f.src.toNat ∧ s.rd 0xD00001 = 1 ∧ s.rd (kCond 0 k) = 7 ∧ (s.rd (kCond 1 k) % 256 = 0xFF ∨ s.rd (kCond 1 k) % 256 = f.src.toNat) ∧ (s.rd (kCond 1 k) / 256 = 0xFF ∨ s.rd (kCond 1 k) / 256 = byteAt f.payload 16) :=
  ⟨((((((((State.reset.modPower fun p => { p with supervisor := true }).wr kDevState 2).wr 0xB02001 0).wr 0xB03001 3).wr 0xD04001 7).wr 0xD04011 0xFFFF).wr 0xD00001 1).wr (kLane (inLane (⟨0x0A, 0, false, false, true, false, 0, 0xFF, 0, natLe 8 1 ++ natLe 8 0 ++ [3, 0, 0, 0]⟩ : Frame)) 1) 4), ⟨0x0A, 0, false, false, true, false, 0, 0xFF, 0, natLe 8 1 ++ natLe 8 0 ++ [3, 0, 0, 0]⟩, 0, by decide⟩

theorem witness_TriggersAndCalibrationReachTheLines_7 :
    ∃ (s : State) (f : Frame) , s.laneUp (inLane f) = true ∧ (s.heard f).takesFrom f.path f.src.toNat = false ∧ s.posOn f.path ≠ some f.src.toNat :=
  ⟨(((((((((State.reset.modPower fun p => { p with supervisor := true }).wr kDevState 2).wr 0xB02001 0).wr 0xB03001 3).wr 0xD04001 7).wr 0xD04011 0xFFFF).wr 0xD00001 1).wr 0xB02001 1).wr (kLane (inLane (⟨0x0A, 0, false, false, true, false, 0, 0xFF, 0, natLe 8 1 ++ natLe 8 0 ++ [3, 0, 0, 0]⟩ : Frame)) 1) 4), ⟨0x0A, 0, false, false, true, false, 0, 0xFF, 0, natLe 8 1 ++ natLe 8 0 ++ [3, 0, 0, 0]⟩, by decide⟩

theorem witness_TriggersAndCalibrationReachTheLines_8 :
    ∃ (s : State) (f : Frame) , s.laneUp (inLane f) = true ∧ s.posOn f.path = some f.src.toNat :=
  ⟨((((((((State.reset.modPower fun p => { p with supervisor := true }).wr kDevState 2).wr 0xB02001 0).wr 0xB03001 3).wr 0xD04001 7).wr 0xD04011 0xFFFF).wr 0xD00001 1).wr (kLane (inLane (⟨0x0A, 0, false, false, true, false, 3, 0xFF, 0, natLe 8 1 ++ natLe 8 0 ++ [3, 0, 0, 0]⟩ : Frame)) 1) 4), ⟨0x0A, 0, false, false, true, false, 3, 0xFF, 0, natLe 8 1 ++ natLe 8 0 ++ [3, 0, 0, 0]⟩, by decide⟩

theorem witness_TriggersAndCalibrationReachTheLines_9 :
    ∃ (s : State) (v : Byte) , s.power.supervisor = true ∧ s.dev ≠ 0 ∧ v = 1 :=
  ⟨((State.reset.modPower fun p => { p with supervisor := true }).wr kDevState 2), 1, by decide⟩

theorem witness_TriggersAndCalibrationReachTheLines_10 :
    ∃ (s : State) (v : Byte) , s.power.supervisor = true ∧ s.dev ≠ 0 ∧ v = 0 :=
  ⟨((State.reset.modPower fun p => { p with supervisor := true }).wr kDevState 2), 0, by decide⟩

theorem witness_TriggersAndCalibrationReachTheLines_11 :
    ∃ (s : State) (l : Fin 2) (d : Nat) , s.capture.calUntil = some d ∧ s.capture.calLine = l.val :=
  ⟨(((State.reset.modPower fun p => { p with supervisor := true }).wr kDevState 2).modCapture fun c => { c with calUntil := some 25, calLine := 0 }), 0, 25, by decide⟩

theorem witness_TriggersAndCalibrationReachTheLines_12 :
    ∃ (s : State) (l : Fin 2) , (s.capture.calUntil = none ∨ s.capture.calLine ≠ l.val) :=
  ⟨((State.reset.modPower fun p => { p with supervisor := true }).wr kDevState 2), 0, by decide⟩

theorem witness_TriggersAndCalibrationReachTheLines_13 :
    ∃ (s : State) (l : Fin 2) , s.manager = true ∧ s.rd 0xD04104 = 1 ∧ s.capture.calPhase = 4 ∧ l = 1 ∧ s.capture.calUntil = none :=
  ⟨(((((State.reset.modPower fun p => { p with supervisor := true }).wr kDevState 2).wr kRole 1).wr 0xD04104 1).modCapture fun c => { c with calPhase := 4, driveEnd := #v[none, none] }), 1, by decide⟩

theorem witness_TriggersAndCalibrationReachTheLines_14 :
    ∃ (s : State) (l : Fin 2) , s.manager = true ∧ s.rd 0xD04104 = 1 ∧ s.capture.calPhase = 3 ∧ l = 0 ∧ s.capture.calUntil = none :=
  ⟨(((((State.reset.modPower fun p => { p with supervisor := true }).wr kDevState 2).wr kRole 1).wr 0xD04104 1).modCapture fun c => { c with calPhase := 3, driveEnd := #v[none, none] }), 0, by decide⟩

theorem witness_TriggersAndCalibrationReachTheLines_15 :
    ∃ (s : State) (l : Fin 2) , s.manager = true ∧ s.rd 0xD04104 = 1 ∧ s.capture.calPhase = 1 ∧ l = 0 ∧ s.dev ≠ 0 ∧ s.allConverged = true ∧ s.unserved = false ∧ s.rd 0xB03004 ≤ 1 ∧ s.frames.swarm = [] :=
  ⟨(((((State.reset.modPower fun p => { p with supervisor := true }).wr kDevState 2).wr kRole 1).wr 0xD04104 1).modCapture fun c => { c with calPhase := 1 }), 0, by decide⟩

theorem witness_TriggersAndCalibrationReachTheLines_16 :
    ∃ (s : State) (l : Fin 2) (p : Nat) , s.manager = true ∧ s.rd 0xD04104 = 1 ∧ s.capture.calPhase = 1 ∧ l = 0 ∧ s.allConverged = true ∧ s.unserved = false ∧ min 32 (s.rd 0xB03004) = p + 1 ∧ 1 ≤ p ∧ s.frames.swarm = [] :=
  ⟨(((((((State.reset.modPower fun p => { p with supervisor := true }).wr kDevState 2).wr kRole 1).wr 0xD04104 1).wr 0xB03004 2).wrBit 0xB01308 1 true).modCapture fun c => { c with calPhase := 1 }), 0, 1, by decide⟩

theorem witness_TriggersAndCalibrationReachTheLines_17 :
    ∃ (s : State) (l : Fin 2) , (s.manager = false ∨ s.rd 0xD04104 ≠ 1 ∨ (l = 0 ∧ s.capture.calPhase ≠ 1 ∧ s.capture.calPhase ≠ 3) ∨ (l = 1 ∧ s.capture.calPhase ≠ 4) ∨ (s.capture.calPhase = 1 ∧ (s.allConverged = false ∨ s.unserved = true))) :=
  ⟨((State.reset.modPower fun p => { p with supervisor := true }).wr kDevState 2), 0, by decide⟩

theorem witness_TheEgressQueueIsReadAndSent_1 :
    ∃ (s : State) , s.power.supervisor = true ∧ s.dev ≠ 0 ∧ s.rd 0xD0000A ≠ 1 ∧ 0 < s.capture.readable :=
  ⟨(((((((State.reset.modPower fun p => { p with supervisor := true }).wr kDevState 2).wr 0xB02001 0).wr 0xB03001 3).wr (kLane 0 1) 4).wr 0xD0000B 0).modCapture fun c => { c with used := 3, packets := [⟨0, 3, 7, true⟩], mem := memWriteBytes 0 [3, 0, 0x80, 1, 7, 0, 0, 0, 1, 2, 3, 4, 5, 6, 7, 8, 9] [] }), by decide⟩

theorem witness_TheEgressQueueIsReadAndSent_2 :
    ∃ (s : State) , s.power.supervisor = true ∧ s.dev ≠ 0 ∧ s.rd 0xD0000A ≠ 1 ∧ s.capture.readable = 0 :=
  ⟨((State.reset.modPower fun p => { p with supervisor := true }).wr kDevState 2), by decide⟩

theorem witness_TheEgressQueueIsReadAndSent_3 :
    ∃ (s : State) (n : Nat) , s.power.supervisor = true ∧ s.dev ≠ 0 ∧ s.rd 0xD0000A ≠ 1 ∧ n = min (s.rd 0xD06103) s.capture.readable ∧ 0 < n :=
  ⟨((((((((State.reset.modPower fun p => { p with supervisor := true }).wr kDevState 2).wr 0xB02001 0).wr 0xB03001 3).wr (kLane 0 1) 4).wr 0xD0000B 0).modCapture fun c => { c with used := 3, packets := [⟨0, 3, 7, true⟩], mem := memWriteBytes 0 [3, 0, 0x80, 1, 7, 0, 0, 0, 1, 2, 3, 4, 5, 6, 7, 8, 9] [] }).wr 0xD06103 2), 2, by decide⟩

theorem witness_TheEgressQueueIsReadAndSent_4 :
    ∃ (s : State) , s.power.supervisor = true ∧ s.dev ≠ 0 ∧ s.rd 0xD0000A ≠ 1 ∧ min (s.rd 0xD06103) s.capture.readable = 0 :=
  ⟨((State.reset.modPower fun p => { p with supervisor := true }).wr kDevState 2), by decide⟩

theorem witness_TheEgressQueueIsReadAndSent_5 :
    ∃ (s : State) , s.power.supervisor = true ∧ s.dev ≠ 0 ∧ s.rd 0xD0000A = 1 :=
  ⟨((((((((State.reset.modPower fun p => { p with supervisor := true }).wr kDevState 2).wr 0xB02001 0).wr 0xB03001 3).wr (kLane 0 1) 4).wr 0xD0000B 0).modCapture fun c => { c with used := 3, packets := [⟨0, 3, 7, true⟩], mem := memWriteBytes 0 [3, 0, 0x80, 1, 7, 0, 0, 0, 1, 2, 3, 4, 5, 6, 7, 8, 9] [] }).wr 0xD0000A 1), by decide⟩

theorem witness_TheEgressQueueIsReadAndSent_6 :
    ∃ (s : State) , s.power.supervisor = true ∧ s.dev ≠ 0 ∧ s.rd 0xD0000A = 1 :=
  ⟨((((((((State.reset.modPower fun p => { p with supervisor := true }).wr kDevState 2).wr 0xB02001 0).wr 0xB03001 3).wr (kLane 0 1) 4).wr 0xD0000B 0).modCapture fun c => { c with used := 3, packets := [⟨0, 3, 7, true⟩], mem := memWriteBytes 0 [3, 0, 0x80, 1, 7, 0, 0, 0, 1, 2, 3, 4, 5, 6, 7, 8, 9] [] }).wr 0xD0000A 1), by decide⟩

theorem witness_TheEgressQueueIsReadAndSent_7 :
    ∃ (s : State) (v : Byte) , s.power.supervisor = true ∧ s.dev ≠ 0 ∧ s.rd 0xD0000A ≠ 1 ∧ v = 1 :=
  ⟨((((((((State.reset.modPower fun p => { p with supervisor := true }).wr kDevState 2).wr 0xB02001 0).wr 0xB03001 3).wr (kLane 0 1) 4).wr 0xD0000B 0).modCapture fun c => { c with used := 3, packets := [⟨0, 3, 7, true⟩], mem := memWriteBytes 0 [3, 0, 0x80, 1, 7, 0, 0, 0, 1, 2, 3, 4, 5, 6, 7, 8, 9] [] }).modCapture fun c => { c with readAhead := 2 }), 1, by decide⟩

theorem witness_TheEgressQueueIsReadAndSent_8 :
    ∃ (s : State) (v : Byte) , s.power.supervisor = true ∧ s.dev ≠ 0 ∧ s.rd 0xD0000A ≠ 1 ∧ v = 1 :=
  ⟨((((((((State.reset.modPower fun p => { p with supervisor := true }).wr kDevState 2).wr 0xB02001 0).wr 0xB03001 3).wr (kLane 0 1) 4).wr 0xD0000B 0).modCapture fun c => { c with used := 3, packets := [⟨0, 3, 7, true⟩], mem := memWriteBytes 0 [3, 0, 0x80, 1, 7, 0, 0, 0, 1, 2, 3, 4, 5, 6, 7, 8, 9] [] }).modCapture fun c => { c with readAhead := 2 }), 1, by decide⟩

theorem witness_TheEgressQueueIsReadAndSent_9 :
    ∃ (s : State) (v : Byte) , s.power.supervisor = true ∧ s.dev ≠ 0 ∧ s.rd 0xD0000A ≠ 1 ∧ v = 1 :=
  ⟨((((((((State.reset.modPower fun p => { p with supervisor := true }).wr kDevState 2).wr 0xB02001 0).wr 0xB03001 3).wr (kLane 0 1) 4).wr 0xD0000B 0).modCapture fun c => { c with used := 3, packets := [⟨0, 3, 7, true⟩], mem := memWriteBytes 0 [3, 0, 0x80, 1, 7, 0, 0, 0, 1, 2, 3, 4, 5, 6, 7, 8, 9] [] }).modCapture fun c => { c with readAhead := 2 }), 1, by decide⟩

theorem witness_TheEgressQueueIsReadAndSent_10 :
    ∃ (s : State) (v : Byte) , s.power.supervisor = true ∧ s.dev ≠ 0 ∧ s.rd 0xD0000A ≠ 1 ∧ v = 0 :=
  ⟨(((((((State.reset.modPower fun p => { p with supervisor := true }).wr kDevState 2).wr 0xB02001 0).wr 0xB03001 3).wr (kLane 0 1) 4).wr 0xD0000B 0).modCapture fun c => { c with used := 3, packets := [⟨0, 3, 7, true⟩], mem := memWriteBytes 0 [3, 0, 0x80, 1, 7, 0, 0, 0, 1, 2, 3, 4, 5, 6, 7, 8, 9] [] }), 0, by decide⟩

theorem witness_TheEgressQueueIsReadAndSent_11 :
    ∃ (s : State) (v : Byte) , s.power.supervisor = true ∧ s.dev ≠ 0 ∧ s.rd 0xD0000A ≠ 1 ∧ v = 0 :=
  ⟨(((((((State.reset.modPower fun p => { p with supervisor := true }).wr kDevState 2).wr 0xB02001 0).wr 0xB03001 3).wr (kLane 0 1) 4).wr 0xD0000B 0).modCapture fun c => { c with used := 3, packets := [⟨0, 3, 7, true⟩], mem := memWriteBytes 0 [3, 0, 0x80, 1, 7, 0, 0, 0, 1, 2, 3, 4, 5, 6, 7, 8, 9] [] }), 0, by decide⟩

theorem witness_TheEgressQueueIsReadAndSent_12 :
    ∃ (s : State) (v : Byte) , s.power.supervisor = true ∧ s.dev ≠ 0 ∧ s.rd 0xD0000A ≠ 1 ∧ v = 0 :=
  ⟨(((((((State.reset.modPower fun p => { p with supervisor := true }).wr kDevState 2).wr 0xB02001 0).wr 0xB03001 3).wr (kLane 0 1) 4).wr 0xD0000B 0).modCapture fun c => { c with used := 3, packets := [⟨0, 3, 7, true⟩], mem := memWriteBytes 0 [3, 0, 0x80, 1, 7, 0, 0, 0, 1, 2, 3, 4, 5, 6, 7, 8, 9] [] }), 0, by decide⟩

theorem witness_TheEgressQueueIsReadAndSent_13 :
    ∃ (s : State) (v : Byte) , s.power.supervisor = true ∧ s.dev ≠ 0 ∧ s.rd 0xD0000A = 1 ∧ (v = 0 ∨ v = 1) :=
  ⟨((((((((State.reset.modPower fun p => { p with supervisor := true }).wr kDevState 2).wr 0xB02001 0).wr 0xB03001 3).wr (kLane 0 1) 4).wr 0xD0000B 0).modCapture fun c => { c with used := 3, packets := [⟨0, 3, 7, true⟩], mem := memWriteBytes 0 [3, 0, 0x80, 1, 7, 0, 0, 0, 1, 2, 3, 4, 5, 6, 7, 8, 9] [] }).wr 0xD0000A 1), 1, by decide⟩

theorem witness_TheEgressQueueIsReadAndSent_14 :
    ∃ (s : State) (v : Byte) , s.power.supervisor = true ∧ s.dev ≠ 0 ∧ s.rd 0xD0000A = 1 ∧ (v = 0 ∨ v = 1) :=
  ⟨((((((((State.reset.modPower fun p => { p with supervisor := true }).wr kDevState 2).wr 0xB02001 0).wr 0xB03001 3).wr (kLane 0 1) 4).wr 0xD0000B 0).modCapture fun c => { c with used := 3, packets := [⟨0, 3, 7, true⟩], mem := memWriteBytes 0 [3, 0, 0x80, 1, 7, 0, 0, 0, 1, 2, 3, 4, 5, 6, 7, 8, 9] [] }).wr 0xD0000A 1), 1, by decide⟩

theorem witness_TheEgressQueueIsReadAndSent_15 :
    ∃ (s : State) (v : Byte) , s.power.supervisor = true ∧ s.dev ≠ 0 ∧ s.rd 0xD0000A = 1 ∧ (v = 0 ∨ v = 1) :=
  ⟨((((((((State.reset.modPower fun p => { p with supervisor := true }).wr kDevState 2).wr 0xB02001 0).wr 0xB03001 3).wr (kLane 0 1) 4).wr 0xD0000B 0).modCapture fun c => { c with used := 3, packets := [⟨0, 3, 7, true⟩], mem := memWriteBytes 0 [3, 0, 0x80, 1, 7, 0, 0, 0, 1, 2, 3, 4, 5, 6, 7, 8, 9] [] }).wr 0xD0000A 1), 1, by decide⟩

theorem witness_TheEgressQueueIsReadAndSent_16 :
    ∃ (s : State) (v : Byte) , s.power.supervisor = true ∧ (s.dev = 2 ∨ s.dev = 6 ∨ s.dev = 7) ∧ (v = 0 ∨ (v = 1 ∧ s.manager = false ∧ s.rd 0xD0000B ≠ s.rd kPosition)) ∧ s.rd 0xD0000A ≠ v.toNat :=
  ⟨(((((((((State.reset.modPower fun p => { p with supervisor := true }).wr kDevState 2).wr 0xB02001 0).wr 0xB03001 3).wr (kLane 0 1) 4).wr 0xD0000B 0).modCapture fun c => { c with used := 3, packets := [⟨0, 3, 7, true⟩], mem := memWriteBytes 0 [3, 0, 0x80, 1, 7, 0, 0, 0, 1, 2, 3, 4, 5, 6, 7, 8, 9] [] }).wr kPosition 3).modCapture fun c => { c with readAhead := 2 }), 1, by decide⟩

theorem witness_TheEgressQueueIsReadAndSent_17 :
    ∃ (s : State) (v : Byte) , s.power.supervisor = true ∧ (s.dev = 2 ∨ s.dev = 6 ∨ s.dev = 7) ∧ (v = 0 ∨ (v = 1 ∧ s.manager = false ∧ s.rd 0xD0000B ≠ s.rd kPosition)) ∧ s.rd 0xD0000A = v.toNat :=
  ⟨(((((((State.reset.modPower fun p => { p with supervisor := true }).wr kDevState 2).wr 0xB02001 0).wr 0xB03001 3).wr (kLane 0 1) 4).wr 0xD0000B 0).modCapture fun c => { c with used := 3, packets := [⟨0, 3, 7, true⟩], mem := memWriteBytes 0 [3, 0, 0x80, 1, 7, 0, 0, 0, 1, 2, 3, 4, 5, 6, 7, 8, 9] [] }), 0, by decide⟩

theorem witness_TheEgressQueueIsReadAndSent_18 :
    ∃ (s : State) (v : Byte) , s.power.supervisor = true ∧ (s.dev = 2 ∨ s.dev = 6 ∨ s.dev = 7) ∧ v = 1 ∧ (s.manager = true ∨ s.rd 0xD0000B = s.rd kPosition) :=
  ⟨((((((((State.reset.modPower fun p => { p with supervisor := true }).wr kDevState 2).wr 0xB02001 0).wr 0xB03001 3).wr (kLane 0 1) 4).wr 0xD0000B 0).modCapture fun c => { c with used := 3, packets := [⟨0, 3, 7, true⟩], mem := memWriteBytes 0 [3, 0, 0x80, 1, 7, 0, 0, 0, 1, 2, 3, 4, 5, 6, 7, 8, 9] [] }).wr kRole 1), 1, by decide⟩

theorem witness_TheEgressQueueIsReadAndSent_19 :
    ∃ (s : State) (p : PacketSt) (n : Nat) (off : Nat) , s.rd 0xD0000A = 1 ∧ s.capture.egress.waiting = false ∧ s.capture.egress.stallAt = none ∧ 0 < s.capture.readable ∧ s.pathTo (s.rd 0xD0000B) ≠ none ∧ ((s.capture.packets.find? fun y => (s.capture.readPtr + ceqWords - y.start) % ceqWords < y.words) = some p) ∧ off = (s.capture.readPtr + ceqWords - p.start) % ceqWords ∧ n = min (min 255 (p.words - off)) s.capture.readable :=
  ⟨((((((((State.reset.modPower fun p => { p with supervisor := true }).wr kDevState 2).wr 0xB02001 0).wr 0xB03001 3).wr (kLane 0 1) 4).wr 0xD0000B 0).modCapture fun c => { c with used := 3, packets := [⟨0, 3, 7, true⟩], mem := memWriteBytes 0 [3, 0, 0x80, 1, 7, 0, 0, 0, 1, 2, 3, 4, 5, 6, 7, 8, 9] [] }).wr 0xD0000A 1), ⟨0, 3, 7, true⟩, 3, 0, by decide⟩

theorem witness_TheEgressQueueIsReadAndSent_20 :
    ∃ (s : State) , (s.rd 0xD0000A ≠ 1 ∨ s.capture.egress.waiting = true ∨ s.capture.egress.stallAt.isSome = true ∨ s.capture.readable = 0 ∨ s.pathTo (s.rd 0xD0000B) = none ∨ (s.capture.packets.find? fun y => (s.capture.readPtr + ceqWords - y.start) % ceqWords < y.words) = none) :=
  ⟨(((((((State.reset.modPower fun p => { p with supervisor := true }).wr kDevState 2).wr 0xB02001 0).wr 0xB03001 3).wr (kLane 0 1) 4).wr 0xD0000B 0).modCapture fun c => { c with used := 3, packets := [⟨0, 3, 7, true⟩], mem := memWriteBytes 0 [3, 0, 0x80, 1, 7, 0, 0, 0, 1, 2, 3, 4, 5, 6, 7, 8, 9] [] }), by decide⟩

theorem witness_TheEgressQueueIsReadAndSent_21 :
    ∃ (s : State) (f : Frame) (u : Unacked) , s.laneUp (inLane f) = true ∧ s.unackedTo (byteAt f.payload 0) f.src.toNat = some u ∧ u.f.seq.toNat = leAt f.payload 2 2 ∧ u.f.typ ≠ 3 ∧ ((s.frames.waiting.any fun w => sameTriple w u.f) = false) ∧ s.egressIs u.f = true :=
  ⟨(({ ((((((((State.reset.modPower fun p => { p with supervisor := true }).wr kDevState 2).wr 0xB02001 0).wr 0xB03001 3).wr (kLane 0 1) 4).wr 0xD0000B 0).modCapture fun c => { c with used := 3, packets := [⟨0, 3, 7, true⟩], mem := memWriteBytes 0 [3, 0, 0x80, 1, 7, 0, 0, 0, 1, 2, 3, 4, 5, 6, 7, 8, 9] [] }).modCapture fun c => { c with readAhead := 3, egress := ⟨3, 0, [1], true, none, none⟩ }) with frames := { State.reset.frames with unacked := [⟨⟨9, 0, true, false, true, false, 3, 0, 7, [1]⟩, 0, 600⟩] } } : State).wr (kLane (inLane (⟨0x0E, 0, false, false, false, false, 0, 3, 0, [9, 0, 7, 0]⟩ : Frame)) 1) 4), ⟨0x0E, 0, false, false, false, false, 0, 3, 0, [9, 0, 7, 0]⟩, ⟨⟨9, 0, true, false, true, false, 3, 0, 7, [1]⟩, 0, 600⟩, by decide⟩

theorem witness_TheEgressQueueIsReadAndSent_22 :
    ∃ (s : State) (d : Nat) (f : Frame) , s.capture.egress.stallAt = some d ∧ s.capture.egress.failed = some f ∧ s.rd 0xD0000A = 1 :=
  ⟨(((((((((State.reset.modPower fun p => { p with supervisor := true }).wr kDevState 2).wr 0xB02001 0).wr 0xB03001 3).wr (kLane 0 1) 4).wr 0xD0000B 0).modCapture fun c => { c with used := 3, packets := [⟨0, 3, 7, true⟩], mem := memWriteBytes 0 [3, 0, 0x80, 1, 7, 0, 0, 0, 1, 2, 3, 4, 5, 6, 7, 8, 9] [] }).modCapture fun c => { c with egress := ⟨3, 0, [1], false, some 900, some ⟨9, 0, true, false, true, false, 3, 0, 0, [1]⟩⟩ }).wr 0xD0000A 1), 900, ⟨9, 0, true, false, true, false, 3, 0, 0, [1]⟩, by decide⟩

theorem witness_TheEgressQueueIsReadAndSent_23 :
    ∃ (s : State) (d : Nat) (f : Frame) , s.capture.egress.stallAt = some d ∧ s.capture.egress.failed = some f ∧ s.rd 0xD0000A ≠ 1 :=
  ⟨((((((((State.reset.modPower fun p => { p with supervisor := true }).wr kDevState 2).wr 0xB02001 0).wr 0xB03001 3).wr (kLane 0 1) 4).wr 0xD0000B 0).modCapture fun c => { c with used := 3, packets := [⟨0, 3, 7, true⟩], mem := memWriteBytes 0 [3, 0, 0x80, 1, 7, 0, 0, 0, 1, 2, 3, 4, 5, 6, 7, 8, 9] [] }).modCapture fun c => { c with egress := ⟨3, 0, [1], false, some 900, some ⟨9, 0, true, false, true, false, 3, 0, 0, [1]⟩⟩ }), 900, ⟨9, 0, true, false, true, false, 3, 0, 0, [1]⟩, by decide⟩

theorem witness_TheEgressQueueIsReadAndSent_24 :
    ∃ (s : State) , (s.capture.egress.stallAt = none ∨ s.capture.egress.failed = none) :=
  ⟨(((((((State.reset.modPower fun p => { p with supervisor := true }).wr kDevState 2).wr 0xB02001 0).wr 0xB03001 3).wr (kLane 0 1) 4).wr 0xD0000B 0).modCapture fun c => { c with used := 3, packets := [⟨0, 3, 7, true⟩], mem := memWriteBytes 0 [3, 0, 0x80, 1, 7, 0, 0, 0, 1, 2, 3, 4, 5, 6, 7, 8, 9] [] }), by decide⟩

theorem witness_TheEgressQueueIsReadAndSent_25 :
    ∃ (s : State) (f : Frame) (n : Nat) , s.laneUp (inLane f) = true ∧ (s.heard f).takesFrom f.path f.src.toNat = true ∧ f.seq.toNat = s.expected f ∧ n = (f.payload.length - 8) / 8 ∧ n + 2 ≤ s.capture.free :=
  ⟨((((State.reset.modPower fun p => { p with supervisor := true }).wr kDevState 2).wr kRole 1).wr (kLane (inLane (⟨9, 0, true, false, true, false, 3, 0, 0, natLe 2 5 ++ natLe 2 0 ++ natLe 4 3 ++ [1, 2, 3, 4, 5, 6, 7, 8]⟩ : Frame)) 1) 4), ⟨9, 0, true, false, true, false, 3, 0, 0, natLe 2 5 ++ natLe 2 0 ++ natLe 4 3 ++ [1, 2, 3, 4, 5, 6, 7, 8]⟩, 1, by decide⟩

theorem witness_TheEgressQueueIsReadAndSent_26 :
    ∃ (s : State) (f : Frame) , s.laneUp (inLane f) = true ∧ (s.heard f).takesFrom f.path f.src.toNat = true ∧ s.capture.free < (f.payload.length - 8) / 8 + 2 :=
  ⟨(((((State.reset.modPower fun p => { p with supervisor := true }).wr kDevState 2).wr kRole 1).modCapture fun c => { c with used := 163839 }).wr (kLane (inLane (⟨9, 0, true, false, true, false, 3, 0, 0, natLe 2 5 ++ natLe 2 0 ++ natLe 4 3 ++ [1, 2, 3, 4, 5, 6, 7, 8]⟩ : Frame)) 1) 4), ⟨9, 0, true, false, true, false, 3, 0, 0, natLe 2 5 ++ natLe 2 0 ++ natLe 4 3 ++ [1, 2, 3, 4, 5, 6, 7, 8]⟩, by decide⟩

theorem witness_TheEgressQueueIsReadAndSent_27 :
    ∃ (s : State) (f : Frame) , s.laneUp (inLane f) = true ∧ (s.heard f).takesFrom f.path f.src.toNat = true ∧ f.seq.toNat ≠ s.expected f ∧ (f.payload.length - 8) / 8 + 2 ≤ s.capture.free :=
  ⟨(({ (((State.reset.modPower fun p => { p with supervisor := true }).wr kDevState 2).wr kRole 1) with frames := { State.reset.frames with rxSeq := [(triple 9 3 0, 5)] } } : State).wr (kLane (inLane (⟨9, 0, true, false, true, false, 3, 0, 0, natLe 2 5 ++ natLe 2 0 ++ natLe 4 3 ++ [1, 2, 3, 4, 5, 6, 7, 8]⟩ : Frame)) 1) 4), ⟨9, 0, true, false, true, false, 3, 0, 0, natLe 2 5 ++ natLe 2 0 ++ natLe 4 3 ++ [1, 2, 3, 4, 5, 6, 7, 8]⟩, by decide⟩

theorem witness_TheEgressQueueIsReadAndSent_28 :
    ∃ (s : State) (f : Frame) , s.laneUp (inLane f) = true ∧ (s.heard f).takesFrom f.path f.src.toNat = false :=
  ⟨((((((((State.reset.modPower fun p => { p with supervisor := true }).wr kDevState 2).wr 0xB02001 0).wr 0xB03001 3).wr (kLane 0 1) 4).wr 0xD0000B 0).wr 0xB02001 1).wr (kLane (inLane (⟨9, 0, true, false, true, false, 3, 0, 0, natLe 2 5 ++ natLe 2 0 ++ natLe 4 3 ++ [1, 2, 3, 4, 5, 6, 7, 8]⟩ : Frame)) 1) 4), ⟨9, 0, true, false, true, false, 3, 0, 0, natLe 2 5 ++ natLe 2 0 ++ natLe 4 3 ++ [1, 2, 3, 4, 5, 6, 7, 8]⟩, by decide⟩

theorem witness_TheDictionaryIsStoredAndTheOemAreaWritten_1 :
    ∃ (s : State) (v : Byte) , s.power.supervisor = true ∧ s.dev ≠ 0 ∧ v = 1 ∧ s.jobs.store = none :=
  ⟨((State.reset.modPower fun p => { p with supervisor := true }).wr kDevState 2), 1, by decide⟩

theorem witness_TheDictionaryIsStoredAndTheOemAreaWritten_2 :
    ∃ (s : State) (v : Byte) , s.power.supervisor = true ∧ s.dev ≠ 0 ∧ v = 1 ∧ s.jobs.store.isSome = true :=
  ⟨({ ((State.reset.modPower fun p => { p with supervisor := true }).wr kDevState 2) with jobs := { State.reset.jobs with store := some ⟨[1, 2, 3, 4, 5, 6, 7, 8], 1, 5⟩ } } : State), 1, by decide⟩

theorem witness_TheDictionaryIsStoredAndTheOemAreaWritten_3 :
    ∃ (s : State) (v : Byte) , s.power.supervisor = true ∧ s.dev ≠ 0 ∧ v = 0 :=
  ⟨({ ((State.reset.modPower fun p => { p with supervisor := true }).wr kDevState 2) with jobs := { State.reset.jobs with store := some ⟨[1, 2, 3, 4, 5, 6, 7, 8], 1, 5⟩ } } : State), 0, by decide⟩

theorem witness_TheDictionaryIsStoredAndTheOemAreaWritten_4 :
    ∃ (s : State) (ok : Bool) (j : StoreSt) , s.jobs.store = some j ∧ s.portTaken 1 = false ∧ ok = true :=
  ⟨({ ((State.reset.modPower fun p => { p with supervisor := true }).wr kDevState 2) with jobs := { State.reset.jobs with store := some ⟨[1, 2, 3, 4, 5, 6, 7, 8], 1, 5⟩ } } : State), true, ⟨[1, 2, 3, 4, 5, 6, 7, 8], 1, 5⟩, by decide⟩

theorem witness_TheDictionaryIsStoredAndTheOemAreaWritten_5 :
    ∃ (s : State) (ok : Bool) (j : StoreSt) , s.jobs.store = some j ∧ s.portTaken 1 = false ∧ ok = false :=
  ⟨({ ((State.reset.modPower fun p => { p with supervisor := true }).wr kDevState 2) with jobs := { State.reset.jobs with store := some ⟨[1, 2, 3, 4, 5, 6, 7, 8], 1, 5⟩ } } : State), false, ⟨[1, 2, 3, 4, 5, 6, 7, 8], 1, 5⟩, by decide⟩

theorem witness_TheDictionaryIsStoredAndTheOemAreaWritten_6 :
    ∃ (s : State) (ok : Bool) , (s.portTaken 1 = true ∨ (s.jobs.store = none ∧ s.jobs.waiting = [])) ∧ s.jobs.install.staged = none :=
  ⟨({ ({ ((State.reset.modPower fun p => { p with supervisor := true }).wr kDevState 2) with jobs := { State.reset.jobs with store := some ⟨[1, 2, 3, 4, 5, 6, 7, 8], 1, 5⟩ } } : State) with thermal := { State.reset.thermal with lockouts := upd State.reset.thermal.lockouts 0 fun x => { x with writing := true } } } : State), true, by decide⟩

theorem witness_TheDictionaryIsStoredAndTheOemAreaWritten_7 :
    ∃ (s : State) (v : Byte) , s.power.supervisor = true ∧ (s.dev = 2 ∨ s.dev = 6 ∨ s.dev = 7) ∧ v = 1 :=
  ⟨((State.reset.modPower fun p => { p with supervisor := true }).wr kDevState 2), 1, by decide⟩

theorem witness_TheDictionaryIsStoredAndTheOemAreaWritten_8 :
    ∃ (s : State) (v : Byte) , s.power.supervisor = true ∧ (s.dev = 2 ∨ s.dev = 6 ∨ s.dev = 7) ∧ v = 0 :=
  ⟨((State.reset.modPower fun p => { p with supervisor := true }).wr kDevState 2), 0, by decide⟩

theorem witness_TheDictionaryIsStoredAndTheOemAreaWritten_9 :
    ∃ (s : State) (d : Bytes) (a : Nat) , s.power.supervisor = true ∧ s.dev ≠ 0 ∧ 8 ≤ d.length ∧ d.length ≤ 4096 ∧ d.length % 8 = 0 ∧ s.rd 0xE00201 + d.length ≤ 65536 ∧ s.portTaken 3 = false ∧ s.jobs.waiting = [] :=
  ⟨(((State.reset.modPower fun p => { p with supervisor := true }).wr kDevState 2).wr 0xE00201 16), [1, 2, 3, 4, 5, 6, 7, 8], 3, by decide⟩

theorem witness_TheDictionaryIsStoredAndTheOemAreaWritten_10 :
    ∃ (s : State) (d : Bytes) , s.power.supervisor = true ∧ s.dev ≠ 0 ∧ 8 ≤ d.length ∧ d.length ≤ 4096 ∧ d.length % 8 = 0 ∧ s.rd 0xE00201 + d.length ≤ 65536 ∧ s.portTaken 3 = true :=
  ⟨(({ ((State.reset.modPower fun p => { p with supervisor := true }).wr kDevState 2) with jobs := { State.reset.jobs with store := some ⟨[1, 2, 3, 4, 5, 6, 7, 8], 1, 5⟩ } } : State).wr 0xE00201 16), [1, 2, 3, 4, 5, 6, 7, 8], by decide⟩

theorem witness_TheDictionaryIsStoredAndTheOemAreaWritten_11 :
    ∃ (s : State) (d : Bytes) , s.power.supervisor = true ∧ s.dev ≠ 0 ∧ (d.length < 8 ∨ 4096 < d.length ∨ d.length % 8 ≠ 0 ∨ 65536 < s.rd 0xE00201 + d.length) :=
  ⟨((State.reset.modPower fun p => { p with supervisor := true }).wr kDevState 2), [1, 2], by decide⟩

theorem witness_FirmwareIsStagedCheckedAndActivated_1 :
    ∃ (s : State) (n : BitVec 32) , s.power.supervisor = true ∧ s.dev ≠ 0 ∧ 256 ≤ n.toNat ∧ n.toNat ≤ 131064 ∧ s.fwPhase ≠ 1 ∧ s.fwPhase ≠ 3 ∧ s.fwPhase ≠ 5 ∧ s.portTaken 2 = false ∧ s.jobs.waiting = [] :=
  ⟨((State.reset.modPower fun p => { p with supervisor := true }).wr kDevState 2), 1024, by decide⟩

theorem witness_FirmwareIsStagedCheckedAndActivated_2 :
    ∃ (s : State) (n : BitVec 32) , s.power.supervisor = true ∧ s.dev ≠ 0 ∧ 256 ≤ n.toNat ∧ n.toNat ≤ 131064 ∧ s.fwPhase ≠ 1 ∧ s.fwPhase ≠ 3 ∧ s.fwPhase ≠ 5 ∧ (s.portTaken 1 = true ∨ s.jobs.store.isSome = true) :=
  ⟨({ ((State.reset.modPower fun p => { p with supervisor := true }).wr kDevState 2) with jobs := { State.reset.jobs with store := some ⟨[1, 2, 3, 4, 5, 6, 7, 8], 1, 5⟩ } } : State), 1024, by decide⟩

theorem witness_FirmwareIsStagedCheckedAndActivated_3 :
    ∃ (s : State) (n : BitVec 32) , s.power.supervisor = true ∧ s.dev ≠ 0 ∧ (n.toNat < 256 ∨ 131064 < n.toNat ∨ s.fwPhase = 1 ∨ s.fwPhase = 3 ∨ s.fwPhase = 5) :=
  ⟨((((State.reset.modPower fun p => { p with supervisor := true }).wr kDevState 2).wr 0xE01102 3)), 1024, by decide⟩

theorem witness_FirmwareIsStagedCheckedAndActivated_4 :
    ∃ (s : State) (o : Origin) (g : Telegram) (n : BitVec 32) , s.mine o g = true ∧ s.unserved = false ∧ cutOf g = false ∧ (s.wdp.tags[tagOf (tgOf g)]).state = 0 ∧ g.op = 4 ∧ g.index = 0xE010 ∧ g.sub = 1 ∧ 4 ≤ (datOf g).length ∧ leAt (datOf g) 0 4 = n.toNat ∧ s.fromHolder o = true ∧ s.wdp.blocks.length < 2 ∧ 256 ≤ n.toNat ∧ n.toNat ≤ 131064 ∧ s.fwPhase ≠ 1 ∧ s.fwPhase ≠ 3 ∧ s.fwPhase ≠ 5 ∧ s.portTaken 2 = false ∧ s.jobs.waiting = [] :=
  ⟨(((State.reset.modPower fun p => { p with supervisor := true }).wr kDevState 2).wr kNodeId 5), .can 0, ⟨5, 0x41, 4, 0, 4, 0xE010, 1, 0, [0, 4, 0, 0]⟩, 1024, by decide⟩

theorem witness_FirmwareIsStagedCheckedAndActivated_5 :
    ∃ (s : State) (o : Origin) (g : Telegram) (b : BlockSt) , s.mine o g = true ∧ s.unserved = false ∧ cutOf g = false ∧ g.op = 0x10 ∧ 1 ≤ g.len.toNat ∧ g.len.toNat ≤ 56 ∧ ((s.wdp.blocks.find? fun x => x.tagGen == tgOf g && !x.read) = some b) ∧ b.index = 0xE010 ∧ s.fromHolder o = true ∧ s.jobs.install.staged = none ∧ g.seg.toNat = b.next % 256 ∧ bit g.status.toNat 0 = false ∧ s.portTaken 2 = false ∧ s.jobs.waiting = [] :=
  ⟨((((((State.reset.modPower fun p => { p with supervisor := true }).wr kDevState 2).wr kNodeId 5).setTag 0x41 1 [0x41, 4, 0, 0, 0x10, 0xE0, 1, 0] (.can 0)).modWdp fun w => { w with blocks := [⟨0x41, .can 0, false, 0xE010, 1, 256, [], 0, 0⟩] }).wr 0xE01102 1), .can 0, ⟨5, 0x41, 0x10, 0, 8, 0xE010, 1, 0, [1, 2, 3, 4, 5, 6, 7, 8]⟩, ⟨0x41, .can 0, false, 0xE010, 1, 256, [], 0, 0⟩, by decide⟩

theorem witness_FirmwareIsStagedCheckedAndActivated_6 :
    ∃ (s : State) (o : Origin) (g : Telegram) (b : BlockSt) , s.mine o g = true ∧ s.unserved = false ∧ cutOf g = false ∧ g.op = 0x10 ∧ 1 ≤ g.len.toNat ∧ g.len.toNat ≤ 56 ∧ ((s.wdp.blocks.find? fun x => x.tagGen == tgOf g && !x.read) = some b) ∧ b.index = 0xE010 ∧ s.fromHolder o = true ∧ s.jobs.install.staged = none ∧ g.seg.toNat = b.next % 256 ∧ bit g.status.toNat 0 = true ∧ s.nv.fw[s.idleBank].image.length + (datOf g).length = b.size ∧ s.fwPhase = 1 ∧ s.portTaken 2 = false ∧ s.jobs.waiting = [] :=
  ⟨({ ((((((State.reset.modPower fun p => { p with supervisor := true }).wr kDevState 2).wr kNodeId 5).setTag 0x41 1 [0x41, 4, 0, 0, 0x10, 0xE0, 1, 0] (.can 0)).modWdp fun w => { w with blocks := [⟨0x41, .can 0, false, 0xE010, 1, 256, [], 0, 0⟩] }).wr 0xE01102 1) with nv := { State.reset.nv with fw := State.reset.nv.fw.set 1 ⟨1, List.replicate 248 3⟩ }, jobs := { State.reset.jobs with install := { State.reset.jobs.install with size := 256 } } } : State), .can 0, ⟨5, 0x41, 0x10, 1, 8, 0xE010, 1, 0, [1, 2, 3, 4, 5, 6, 7, 8]⟩, ⟨0x41, .can 0, false, 0xE010, 1, 256, [], 0, 0⟩, by decide⟩

theorem witness_FirmwareIsStagedCheckedAndActivated_7 :
    ∃ (s : State) , s.power.supervisor = true ∧ s.dev ≠ 0 ∧ s.fwPhase = 2 :=
  ⟨((((State.reset.modPower fun p => { p with supervisor := true }).wr kDevState 2).wr 0xE01102 2)), by decide⟩

theorem witness_FirmwareIsStagedCheckedAndActivated_8 :
    ∃ (s : State) , s.power.supervisor = true ∧ s.dev ≠ 0 ∧ s.fwPhase ≠ 2 :=
  ⟨((((State.reset.modPower fun p => { p with supervisor := true }).wr kDevState 2).wr 0xE01102 0)), by decide⟩

theorem witness_FirmwareIsStagedCheckedAndActivated_9 :
    ∃ (s : State) , s.fwPhase = 3 :=
  ⟨((((State.reset.modPower fun p => { p with supervisor := true }).wr kDevState 2).wr 0xE01102 3)), by decide⟩

theorem witness_FirmwareIsStagedCheckedAndActivated_10 :
    ∃ (s : State) , s.fwPhase ≠ 3 :=
  ⟨((((State.reset.modPower fun p => { p with supervisor := true }).wr kDevState 2).wr 0xE01102 2)), by decide⟩

theorem witness_FirmwareIsStagedCheckedAndActivated_11 :
    ∃ (s : State) , s.power.supervisor = true ∧ s.dev ≠ 0 ∧ s.fwPhase = 4 :=
  ⟨((((State.reset.modPower fun p => { p with supervisor := true }).wr kDevState 2).wr 0xE01102 4)), by decide⟩

theorem witness_FirmwareIsStagedCheckedAndActivated_12 :
    ∃ (s : State) , s.power.supervisor = true ∧ s.dev ≠ 0 ∧ s.fwPhase ≠ 4 :=
  ⟨((((State.reset.modPower fun p => { p with supervisor := true }).wr kDevState 2).wr 0xE01102 2)), by decide⟩

theorem witness_FirmwareIsStagedCheckedAndActivated_13 :
    ∃ (s : State) (r : Bool) , s.power.supervisor = true ∧ s.fwPhase = 5 ∧ s.quiet = true ∧ s.jobs.install.switched = false ∧ r = true ∧ s.power.bootLoader = false :=
  ⟨({ ((((State.reset.modPower fun p => { p with supervisor := true }).wr kDevState 2).wr 0xE01102 5)) with jobs := { State.reset.jobs with install := ⟨0, 256, some 90, none, none, 0, false⟩ } } : State), true, by decide⟩

theorem witness_FirmwareIsStagedCheckedAndActivated_14 :
    ∃ (s : State) (r : Bool) , (s.power.supervisor = true ∨ s.power.bootLoader = true) ∧ s.fwPhase = 5 ∧ s.quiet = true ∧ s.jobs.install.switched = false ∧ r = false :=
  ⟨({ ((((State.reset.modPower fun p => { p with supervisor := true }).wr kDevState 2).wr 0xE01102 5)) with jobs := { State.reset.jobs with install := ⟨0, 256, some 90, none, none, 0, false⟩ } } : State), false, by decide⟩

theorem witness_FirmwareIsStagedCheckedAndActivated_15 :
    ∃ (s : State) (r : Bool) , s.jobs.install.switched = true ∧ r = true ∧ s.power.supervisor = true ∧ s.power.bootLoader = false :=
  ⟨({ ((((State.reset.modPower fun p => { p with supervisor := true }).wr kDevState 2).wr 0xE01102 5)) with jobs := { State.reset.jobs with install := ⟨0, 256, none, none, none, 0, true⟩ } } : State), true, by decide⟩

theorem witness_FirmwareIsStagedCheckedAndActivated_16 :
    ∃ (s : State) (r : Bool) , s.power.bootLoader = true ∧ s.fwPhase = 5 ∧ s.quiet = true ∧ s.jobs.install.switched = false ∧ r = true :=
  ⟨((({ ((((State.reset.modPower fun p => { p with supervisor := true }).wr kDevState 2).wr 0xE01102 5)) with jobs := { State.reset.jobs with install := ⟨0, 256, some 90, none, none, 0, false⟩ } } : State).modPower fun p => { p with supervisor := false, bootLoader := true }).wr kDevState 0), true, by decide⟩

theorem witness_FirmwareIsStagedCheckedAndActivated_17 :
    ∃ (s : State) (r : Bool) , ((s.power.supervisor = false ∧ s.power.bootLoader = false) ∨ s.fwPhase ≠ 5 ∨ s.quiet = false) ∧ s.jobs.install.switched = false :=
  ⟨((((State.reset.modPower fun p => { p with supervisor := true }).wr kDevState 2).wr 0xE01102 4)), true, by decide⟩

theorem witness_FirmwareIsStagedCheckedAndActivated_18 :
    ∃ (s : State) (r : Bool) , s.jobs.install.switched = true ∧ r = false :=
  ⟨({ ((((State.reset.modPower fun p => { p with supervisor := true }).wr kDevState 2).wr 0xE01102 5)) with jobs := { State.reset.jobs with install := ⟨0, 256, none, none, none, 0, true⟩ } } : State), false, by decide⟩

theorem witness_FirmwareIsStagedCheckedAndActivated_19 :
    ∃ (s : State) (d : Nat) , s.jobs.install.waitAt = some d ∧ s.fwPhase = 5 :=
  ⟨({ ((((State.reset.modPower fun p => { p with supervisor := true }).wr kDevState 2).wr 0xE01102 5)) with jobs := { State.reset.jobs with install := ⟨0, 256, some 90, none, none, 0, false⟩ } } : State), 90, by decide⟩

theorem witness_FirmwareIsStagedCheckedAndActivated_20 :
    ∃ (s : State) , (s.jobs.install.waitAt = none ∨ s.fwPhase ≠ 5) :=
  ⟨((((State.reset.modPower fun p => { p with supervisor := true }).wr kDevState 2).wr 0xE01102 4)), by decide⟩

theorem witness_MaintenanceActivitiesRunAndStop_1 :
    ∃ (s : State) (x : BitVec 32) (y : BitVec 32) (n : Fin 4) , s.power.supervisor = true ∧ s.dev ≠ 0 ∧ s.maintRefusal 1 x.toNat = none ∧ (((List.finRange 4).find? fun (k : Fin 4) => s.jobs.slots[k].isNone) = some n) :=
  ⟨(((State.reset.modPower fun p => { p with supervisor := true }).wr kDevState 2).wr 0xB02001 0), 0, 0, 0, by decide⟩

theorem witness_MaintenanceActivitiesRunAndStop_2 :
    ∃ (s : State) (x : BitVec 32) (y : BitVec 32) (n : Fin 4) , s.power.supervisor = true ∧ s.dev ≠ 0 ∧ s.maintRefusal 2 x.toNat = none ∧ (((List.finRange 4).find? fun (k : Fin 4) => s.jobs.slots[k].isNone) = some n) :=
  ⟨(((State.reset.modPower fun p => { p with supervisor := true }).wr kDevState 2).wr 0xB02001 0), 1, 5, 0, by decide⟩

theorem witness_MaintenanceActivitiesRunAndStop_3 :
    ∃ (s : State) (x : BitVec 32) (y : BitVec 32) (n : Fin 4) , s.power.supervisor = true ∧ s.dev ≠ 0 ∧ s.maintRefusal 3 x.toNat = none ∧ (((List.finRange 4).find? fun (k : Fin 4) => s.jobs.slots[k].isNone) = some n) :=
  ⟨(((State.reset.modPower fun p => { p with supervisor := true }).wr kDevState 2).wr 0xB02001 0), 3, 0, 0, by decide⟩

theorem witness_MaintenanceActivitiesRunAndStop_4 :
    ∃ (s : State) (x : BitVec 32) (y : BitVec 32) (n : Fin 4) , s.power.supervisor = true ∧ s.dev ≠ 0 ∧ s.maintRefusal 4 x.toNat = none ∧ (((List.finRange 4).find? fun (k : Fin 4) => s.jobs.slots[k].isNone) = some n) :=
  ⟨(((State.reset.modPower fun p => { p with supervisor := true }).wr kDevState 2).wr 0xB02001 0), 3, 0, 0, by decide⟩

theorem witness_MaintenanceActivitiesRunAndStop_5 :
    ∃ (s : State) (x : BitVec 32) (y : BitVec 32) (n : Fin 4) , s.power.supervisor = true ∧ s.dev ≠ 0 ∧ s.maintRefusal 5 x.toNat = none ∧ (((List.finRange 4).find? fun (k : Fin 4) => s.jobs.slots[k].isNone) = some n) :=
  ⟨(((State.reset.modPower fun p => { p with supervisor := true }).wr kDevState 2).wr 0xB02001 0), 3, 0, 0, by decide⟩

theorem witness_MaintenanceActivitiesRunAndStop_6 :
    ∃ (s : State) (x : BitVec 32) (y : BitVec 32) (n : Fin 4) , s.power.supervisor = true ∧ s.dev ≠ 0 ∧ s.maintRefusal 6 x.toNat = none ∧ (((List.finRange 4).find? fun (k : Fin 4) => s.jobs.slots[k].isNone) = some n) :=
  ⟨(((State.reset.modPower fun p => { p with supervisor := true }).wr kDevState 2).wr 0xB02001 0), 3, 0, 0, by decide⟩

theorem witness_MaintenanceActivitiesRunAndStop_7 :
    ∃ (s : State) (x : BitVec 32) (y : BitVec 32) (n : Fin 4) , s.power.supervisor = true ∧ s.dev ≠ 0 ∧ s.maintRefusal 7 x.toNat = none ∧ (((List.finRange 4).find? fun (k : Fin 4) => s.jobs.slots[k].isNone) = some n) :=
  ⟨(((State.reset.modPower fun p => { p with supervisor := true }).wr kDevState 2).wr 0xB02001 0), 0, 0, 0, by decide⟩

theorem witness_MaintenanceActivitiesRunAndStop_8 :
    ∃ (s : State) (x : BitVec 32) (y : BitVec 32) (n : Fin 4) , s.power.supervisor = true ∧ s.dev ≠ 0 ∧ s.maintRefusal 8 x.toNat = none ∧ (((List.finRange 4).find? fun (k : Fin 4) => s.jobs.slots[k].isNone) = some n) :=
  ⟨((((((State.reset.modPower fun p => { p with supervisor := true }).wr kDevState 2).wr 0xB02001 0).wr kRole 1).wr 0xB02209 3).wr 0xB02201 3), 0, 0, 0, by decide⟩

theorem witness_MaintenanceActivitiesRunAndStop_9 :
    ∃ (s : State) (x : BitVec 32) (y : BitVec 32) (c : Nat) (h : Nat) , s.power.supervisor = true ∧ s.dev ≠ 0 ∧ s.maintRefusal 1 x.toNat = some (c, h) :=
  ⟨((State.reset.modPower fun p => { p with supervisor := true }).wr kDevState 5), 1, 0, 3, 0xFF, by decide⟩

theorem witness_MaintenanceActivitiesRunAndStop_10 :
    ∃ (s : State) (x : BitVec 32) (y : BitVec 32) (c : Nat) (h : Nat) , s.power.supervisor = true ∧ s.dev ≠ 0 ∧ s.maintRefusal 2 x.toNat = some (c, h) :=
  ⟨((State.reset.modPower fun p => { p with supervisor := true }).wr kDevState 5), 1, 0, 3, 0xFF, by decide⟩

theorem witness_MaintenanceActivitiesRunAndStop_11 :
    ∃ (s : State) (x : BitVec 32) (y : BitVec 32) (c : Nat) (h : Nat) , s.power.supervisor = true ∧ s.dev ≠ 0 ∧ s.maintRefusal 3 x.toNat = some (c, h) :=
  ⟨((State.reset.modPower fun p => { p with supervisor := true }).wr kDevState 5), 1, 0, 3, 0xFF, by decide⟩

theorem witness_MaintenanceActivitiesRunAndStop_12 :
    ∃ (s : State) (x : BitVec 32) (y : BitVec 32) (c : Nat) (h : Nat) , s.power.supervisor = true ∧ s.dev ≠ 0 ∧ s.maintRefusal 4 x.toNat = some (c, h) :=
  ⟨((State.reset.modPower fun p => { p with supervisor := true }).wr kDevState 5), 1, 0, 3, 0xFF, by decide⟩

theorem witness_MaintenanceActivitiesRunAndStop_13 :
    ∃ (s : State) (x : BitVec 32) (y : BitVec 32) (c : Nat) (h : Nat) , s.power.supervisor = true ∧ s.dev ≠ 0 ∧ s.maintRefusal 5 x.toNat = some (c, h) :=
  ⟨((State.reset.modPower fun p => { p with supervisor := true }).wr kDevState 5), 1, 0, 3, 0xFF, by decide⟩

theorem witness_MaintenanceActivitiesRunAndStop_14 :
    ∃ (s : State) (x : BitVec 32) (y : BitVec 32) (c : Nat) (h : Nat) , s.power.supervisor = true ∧ s.dev ≠ 0 ∧ s.maintRefusal 6 x.toNat = some (c, h) :=
  ⟨((State.reset.modPower fun p => { p with supervisor := true }).wr kDevState 5), 1, 0, 3, 0xFF, by decide⟩

theorem witness_MaintenanceActivitiesRunAndStop_15 :
    ∃ (s : State) (x : BitVec 32) (y : BitVec 32) (c : Nat) (h : Nat) , s.power.supervisor = true ∧ s.dev ≠ 0 ∧ s.maintRefusal 7 x.toNat = some (c, h) :=
  ⟨((State.reset.modPower fun p => { p with supervisor := true }).wr kDevState 5), 1, 0, 3, 0xFF, by decide⟩

theorem witness_MaintenanceActivitiesRunAndStop_16 :
    ∃ (s : State) (x : BitVec 32) (y : BitVec 32) (c : Nat) (h : Nat) , s.power.supervisor = true ∧ s.dev ≠ 0 ∧ s.maintRefusal 8 x.toNat = some (c, h) :=
  ⟨((State.reset.modPower fun p => { p with supervisor := true }).wr kDevState 5), 1, 0, 3, 0xFF, by decide⟩

theorem witness_MaintenanceActivitiesRunAndStop_17 :
    ∃ (s : State) (m : Byte) , s.power.supervisor = true ∧ s.dev ≠ 0 :=
  ⟨({ (((State.reset.modPower fun p => { p with supervisor := true }).wr kDevState 2).wr 0xB02001 0) with jobs := { State.reset.jobs with slots := State.reset.jobs.slots.set 1 (some ⟨4, 3, 900, 1, 0, 0, 0⟩) } } : State), 2, by decide⟩

theorem witness_MaintenanceActivitiesRunAndStop_18 :
    ∃ (s : State) (n : Fin 4) (o : Byte) (a : BitVec 32) (b : BitVec 32) (c : BitVec 32) (j : SlotSt) , s.jobs.slots[n] = some j ∧ j.act = 1 :=
  ⟨({ (((State.reset.modPower fun p => { p with supervisor := true }).wr kDevState 2).wr 0xB02001 0) with jobs := { State.reset.jobs with slots := State.reset.jobs.slots.set 1 (some ⟨1, 1, 900, 1, 0, 0, 0⟩) } } : State), 1, 1, 2, 3, 4, ⟨1, 1, 900, 1, 0, 0, 0⟩, by decide⟩

theorem witness_MaintenanceActivitiesRunAndStop_19 :
    ∃ (s : State) (n : Fin 4) (o : Byte) (a : BitVec 32) (b : BitVec 32) (c : BitVec 32) (j : SlotSt) , s.jobs.slots[n] = some j ∧ (j.act = 2 ∨ j.act = 4) :=
  ⟨({ (((State.reset.modPower fun p => { p with supervisor := true }).wr kDevState 2).wr 0xB02001 0) with jobs := { State.reset.jobs with slots := State.reset.jobs.slots.set 1 (some ⟨2, 1, 900, 1, 0, 0, 0⟩) } } : State), 1, 1, 2, 3, 4, ⟨2, 1, 900, 1, 0, 0, 0⟩, by decide⟩

theorem witness_MaintenanceActivitiesRunAndStop_20 :
    ∃ (s : State) (n : Fin 4) (o : Byte) (a : BitVec 32) (b : BitVec 32) (c : BitVec 32) (j : SlotSt) , s.jobs.slots[n] = some j ∧ j.act = 3 ∧ s.rd 0x450008 ≠ 1 :=
  ⟨({ (((State.reset.modPower fun p => { p with supervisor := true }).wr kDevState 2).wr 0xB02001 0) with jobs := { State.reset.jobs with slots := State.reset.jobs.slots.set 1 (some ⟨3, 1, 900, 1, 0, 0, 0⟩) } } : State), 1, 1, 2, 3, 4, ⟨3, 1, 900, 1, 0, 0, 0⟩, by decide⟩

theorem witness_MaintenanceActivitiesRunAndStop_21 :
    ∃ (s : State) (n : Fin 4) (o : Byte) (a : BitVec 32) (b : BitVec 32) (c : BitVec 32) (j : SlotSt) , s.jobs.slots[n] = some j ∧ j.act = 5 :=
  ⟨({ (((State.reset.modPower fun p => { p with supervisor := true }).wr kDevState 2).wr 0xB02001 0) with jobs := { State.reset.jobs with slots := State.reset.jobs.slots.set 1 (some ⟨5, 1, 900, 1, 0, 0, 0⟩) } } : State), 1, 1, 2, 3, 4, ⟨5, 1, 900, 1, 0, 0, 0⟩, by decide⟩

theorem witness_MaintenanceActivitiesRunAndStop_22 :
    ∃ (s : State) (n : Fin 4) (o : Byte) (a : BitVec 32) (b : BitVec 32) (c : BitVec 32) (j : SlotSt) , s.jobs.slots[n] = some j ∧ j.act = 6 :=
  ⟨({ (((State.reset.modPower fun p => { p with supervisor := true }).wr kDevState 2).wr 0xB02001 0) with jobs := { State.reset.jobs with slots := State.reset.jobs.slots.set 1 (some ⟨6, 1, 900, 1, 0, 0, 0⟩) } } : State), 1, 1, 2, 3, 4, ⟨6, 1, 900, 1, 0, 0, 0⟩, by decide⟩

theorem witness_MaintenanceActivitiesRunAndStop_23 :
    ∃ (s : State) (n : Fin 4) (o : Byte) (a : BitVec 32) (b : BitVec 32) (c : BitVec 32) (j : SlotSt) , s.jobs.slots[n] = some j ∧ j.act = 7 ∧ s.portTaken 4 = false :=
  ⟨({ (((State.reset.modPower fun p => { p with supervisor := true }).wr kDevState 2).wr 0xB02001 0) with jobs := { State.reset.jobs with slots := State.reset.jobs.slots.set 1 (some ⟨7, 1, 900, 1, 0, 0, 0⟩) } } : State), 1, 1, 2, 3, 4, ⟨7, 1, 900, 1, 0, 0, 0⟩, by decide⟩

theorem witness_MaintenanceActivitiesRunAndStop_24 :
    ∃ (s : State) (n : Fin 4) (o : Byte) (a : BitVec 32) (b : BitVec 32) (c : BitVec 32) (j : SlotSt) , s.jobs.slots[n] = some j ∧ j.act = 8 :=
  ⟨({ (((State.reset.modPower fun p => { p with supervisor := true }).wr kDevState 2).wr 0xB02001 0) with jobs := { State.reset.jobs with slots := State.reset.jobs.slots.set 1 (some ⟨8, 1, 900, 1, 0, 0, 0⟩) } } : State), 1, 1, 2, 3, 4, ⟨8, 1, 900, 1, 0, 0, 0⟩, by decide⟩

theorem witness_MaintenanceActivitiesRunAndStop_25 :
    ∃ (s : State) (n : Fin 4) (o : Byte) (a : BitVec 32) (b : BitVec 32) (c : BitVec 32) , (match s.jobs.slots[n] with | some j => (j.act == 3 && s.rd 0x450008 == 1) || (j.act == 7 && s.portTaken 4) | none => true) = true :=
  ⟨((State.reset.modPower fun p => { p with supervisor := true }).wr kDevState 2), 1, 1, 2, 3, 4, by decide⟩

theorem witness_AbortStopsTheNamedFunction_1 :
    ∃ (s : State) , s.power.supervisor = true ∧ s.dev ≠ 0 ∧ (s.jobs.waiting = [] ∨ s.portTaken 2 = true) ∧ (s.jobs.install.staged = none ∨ s.jobs.waiting.any NvJob.isFw = true) ∧ (s.capture.armedAt ≠ none ∨ s.capture.record ≠ none ∨ s.capture.firings ≠ []) :=
  ⟨(((State.reset.modPower fun p => { p with supervisor := true }).wr kDevState 2).modCapture fun c => { c with armedAt := some 3 }), by decide⟩

theorem witness_AbortStopsTheNamedFunction_2 :
    ∃ (s : State) , s.power.supervisor = true ∧ s.dev ≠ 0 ∧ (s.jobs.waiting = [] ∨ s.portTaken 2 = true) ∧ (s.jobs.install.staged = none ∨ s.jobs.waiting.any NvJob.isFw = true) ∧ s.capture.armedAt = none ∧ s.capture.record = none ∧ s.capture.firings = [] :=
  ⟨((State.reset.modPower fun p => { p with supervisor := true }).wr kDevState 2), by decide⟩

theorem witness_AbortStopsTheNamedFunction_3 :
    ∃ (s : State) , s.power.supervisor = true ∧ s.dev ≠ 0 ∧ (s.jobs.waiting = [] ∨ s.portTaken 2 = true) ∧ (s.jobs.install.staged = none ∨ s.jobs.waiting.any NvJob.isFw = true) ∧ s.wdp.blocks ≠ [] :=
  ⟨(((State.reset.modPower fun p => { p with supervisor := true }).wr kDevState 2).modWdp fun w => { w with blocks := (([⟨0x41, .can 0, false, 0xE002, 2, 64, [], 0, 0⟩] : List BlockSt)) }), by decide⟩

theorem witness_AbortStopsTheNamedFunction_4 :
    ∃ (s : State) , s.power.supervisor = true ∧ s.dev ≠ 0 ∧ (s.jobs.waiting = [] ∨ s.portTaken 2 = true) ∧ (s.jobs.install.staged = none ∨ s.jobs.waiting.any NvJob.isFw = true) ∧ s.wdp.blocks = [] :=
  ⟨((State.reset.modPower fun p => { p with supervisor := true }).wr kDevState 2), by decide⟩

theorem witness_AbortStopsTheNamedFunction_5 :
    ∃ (s : State) , s.power.supervisor = true ∧ s.dev ≠ 0 ∧ s.storeCommitting = false ∧ s.jobs.store.isSome = true :=
  ⟨({ ((State.reset.modPower fun p => { p with supervisor := true }).wr kDevState 2) with jobs := { State.reset.jobs with store := some ⟨[1, 2, 3, 4, 5, 6, 7, 8], 1, 5⟩ } } : State), by decide⟩

theorem witness_AbortStopsTheNamedFunction_6 :
    ∃ (s : State) , s.power.supervisor = true ∧ s.dev ≠ 0 ∧ (s.jobs.waiting = [] ∨ s.portTaken 2 = true) ∧ (s.jobs.install.staged = none ∨ s.jobs.waiting.any NvJob.isFw = true) ∧ (s.storeCommitting = true ∨ s.jobs.store = none) :=
  ⟨({ ((State.reset.modPower fun p => { p with supervisor := true }).wr kDevState 2) with jobs := { State.reset.jobs with copyB := some 9 } } : State), by decide⟩

theorem witness_AbortStopsTheNamedFunction_7 :
    ∃ (s : State) , s.power.supervisor = true ∧ s.dev ≠ 0 ∧ 1 ≤ s.fwPhase ∧ s.fwPhase ≤ 5 ∧ s.jobs.install.switched = false :=
  ⟨((((State.reset.modPower fun p => { p with supervisor := true }).wr kDevState 2).wr 0xE01102 2)), by decide⟩

theorem witness_AbortStopsTheNamedFunction_8 :
    ∃ (s : State) , s.power.supervisor = true ∧ s.dev ≠ 0 ∧ (s.jobs.waiting = [] ∨ s.portTaken 2 = true) ∧ (s.jobs.install.staged = none ∨ s.jobs.waiting.any NvJob.isFw = true) ∧ (s.fwPhase = 0 ∨ s.fwPhase = 6 ∨ s.jobs.install.switched = true) :=
  ⟨((State.reset.modPower fun p => { p with supervisor := true }).wr kDevState 2), by decide⟩

theorem witness_AbortStopsTheNamedFunction_9 :
    ∃ (s : State) , s.power.supervisor = true ∧ s.dev ≠ 0 ∧ (s.jobs.waiting = [] ∨ s.portTaken 2 = true) ∧ (s.jobs.install.staged = none ∨ s.jobs.waiting.any NvJob.isFw = true) ∧ (∃ n : Fin 4, s.jobs.slots[n].isSome = true) :=
  ⟨({ (((State.reset.modPower fun p => { p with supervisor := true }).wr kDevState 2).wr 0xB02001 0) with jobs := { State.reset.jobs with slots := State.reset.jobs.slots.set 1 (some ⟨4, 3, 900, 1, 0, 0, 0⟩) } } : State), by decide⟩

theorem witness_AbortStopsTheNamedFunction_10 :
    ∃ (s : State) , s.power.supervisor = true ∧ s.dev ≠ 0 ∧ (s.jobs.waiting = [] ∨ s.portTaken 2 = true) ∧ (s.jobs.install.staged = none ∨ s.jobs.waiting.any NvJob.isFw = true) ∧ (∀ n : Fin 4, s.jobs.slots[n] = none) :=
  ⟨((State.reset.modPower fun p => { p with supervisor := true }).wr kDevState 2), by decide⟩

theorem witness_AbortStopsTheNamedFunction_11 :
    ∃ (s : State) , s.power.supervisor = true ∧ s.dev ≠ 0 ∧ (s.jobs.waiting = [] ∨ s.portTaken 2 = true) ∧ (s.jobs.install.staged = none ∨ s.jobs.waiting.any NvJob.isFw = true) ∧ (∀ (g : Fin 3) (x : MoltSt), s.string.molt[g] = some x → x.insert = false ∧ x.applied = true ∧ x.abort = none) :=
  ⟨((State.reset.modPower fun p => { p with supervisor := true }).wr kDevState 2), by decide⟩

theorem witness_AbortStopsTheNamedFunction_12 :
    ∃ (s : State) (g : Fin 3) (x : MoltSt) , s.power.supervisor = true ∧ s.dev ≠ 0 ∧ (s.jobs.waiting = [] ∨ s.portTaken 2 = true) ∧ (s.jobs.install.staged = none ∨ s.jobs.waiting.any NvJob.isFw = true) ∧ s.string.molt[g] = some x ∧ x.insert = true :=
  ⟨(((State.reset.modPower fun p => { p with supervisor := true }).wr kDevState 2).modString fun g => { g with molt := g.molt.set 0 (some ⟨2, 1, true, 0, false, false, 0, some 50, false, false, none⟩) }), 0, ⟨2, 1, true, 0, false, false, 0, some 50, false, false, none⟩, by decide⟩

theorem witness_AbortStopsTheNamedFunction_13 :
    ∃ (s : State) (g : Fin 3) (x : MoltSt) , s.power.supervisor = true ∧ s.dev ≠ 0 ∧ (s.jobs.waiting = [] ∨ s.portTaken 2 = true) ∧ (s.jobs.install.staged = none ∨ s.jobs.waiting.any NvJob.isFw = true) ∧ s.string.molt[g] = some x ∧ x.insert = false ∧ x.applied = false :=
  ⟨(((State.reset.modPower fun p => { p with supervisor := true }).wr kDevState 2).modString fun g => { g with molt := g.molt.set 0 (some ⟨2, 1, false, 0, false, false, 0, some 50, false, false, none⟩) }), 0, ⟨2, 1, false, 0, false, false, 0, some 50, false, false, none⟩, by decide⟩

theorem witness_AbortStopsTheNamedFunction_14 :
    ∃ (s : State) , s.power.supervisor = true ∧ s.dev ≠ 0 ∧ (s.jobs.waiting = [] ∨ s.portTaken 2 = true) ∧ (s.jobs.install.staged = none ∨ s.jobs.waiting.any NvJob.isFw = true) ∧ s.frames.forwarded ≠ [] :=
  ⟨({ ((State.reset.modPower fun p => { p with supervisor := true }).wr kDevState 2) with frames := { State.reset.frames with forwarded := [⟨3, 0, 0x41, 900, []⟩] } } : State), by decide⟩

theorem witness_AbortStopsTheNamedFunction_15 :
    ∃ (s : State) , s.power.supervisor = true ∧ s.dev ≠ 0 ∧ (s.jobs.waiting = [] ∨ s.portTaken 2 = true) ∧ (s.jobs.install.staged = none ∨ s.jobs.waiting.any NvJob.isFw = true) ∧ s.frames.forwarded = [] :=
  ⟨((State.reset.modPower fun p => { p with supervisor := true }).wr kDevState 2), by decide⟩

theorem witness_ObjectsWithoutARowAreWritten_1 :
    ∃ (s : State) (i : BitVec 16) (j : Byte) (d : Bytes) , s.power.supervisor = true ∧ s.dev ≠ 0 ∧ s.writeStatus true i.toNat j.toNat d ≠ 0 ∧ (s.writeStatus true i.toNat j.toNat d ≠ 5 ∨ i.toNat / 4096 ≠ 8) :=
  ⟨((State.reset.modPower fun p => { p with supervisor := true }).wr kDevState 2), 0x1000, 2, [1], by decide⟩

theorem witness_ObjectsWithoutARowAreWritten_2 :
    ∃ (s : State) (i : BitVec 16) (j : Byte) (d : Bytes) , s.power.supervisor = true ∧ s.dev ≠ 0 ∧ (i = 0xD00B ∨ i = 0xD000 ∧ 3 ≤ j.toNat ∧ j.toNat ≤ 7 ∨ i = 0xC041 ∨ i = 0xE002 ∧ j = 1 ∨ i = 0xB020) ∧ s.writeStatus true i.toNat j.toNat d = 0 :=
  ⟨((State.reset.modPower fun p => { p with supervisor := true }).wr kDevState 2), 0xE002, 1, [8, 0, 0, 0], by decide⟩

theorem witness_ObjectsWithoutARowAreWritten_3 :
    ∃ (s : State) (i : BitVec 16) (j : Byte) (d : Bytes) , s.power.supervisor = true ∧ s.dev ≠ 0 ∧ s.writeStatus true i.toNat j.toNat d = 0 :=
  ⟨((State.reset.modPower fun p => { p with supervisor := true }).wr kDevState 2), 0xE002, 1, [8, 0, 0, 0], by decide⟩

theorem witness_ObjectsWithoutARowAreWritten_4 :
    ∃ (s : State) (i : BitVec 16) (j : Byte) (d : Bytes) , s.power.supervisor = false ∧ s.dev ≠ 0 :=
  ⟨(State.reset.wr kDevState 2), 0x1000, 2, [1], by decide⟩

theorem witness_StepRunsTheFrontCommand_1 :
    ∃ (s : State) (c : Instr) (cs : List Instr), s.pending = c :: cs := ⟨{ State.reset with pending := [.deviceReset] }, .deviceReset, [], rfl⟩

theorem witness_StepRunsTheFrontCommand_2 :
    ∃ s : State, s.pending = [] := ⟨State.reset, rfl⟩

theorem witness_NoLegEverHasBothGatesOn_1 :
    ∃ s t : State, GatesExclude s ∧ step s = .next t := ⟨State.reset, State.reset.idle, by intro l; simp [State.reset], rfl⟩

theorem witness_NetworkTimeStaysBelowOneSecond_1 :
    ∃ s t : State, s.net.acc < secUnits ∧ step s = .next t := ⟨State.reset, State.reset.idle, by decide, rfl⟩

theorem witness_TheDictionaryAndTheMemoriesStayCanonical_1 :
    ∃ s t : State, storeWf s.objs = true ∧ memWf s.nv.oem = true ∧ memWf s.capture.mem = true ∧ step s = .next t := ⟨State.reset, State.reset.idle, by decide, by decide, by decide, rfl⟩

theorem witness_RunsNameEachBlockOnce_1 :
    ∃ s t : State, RunsFormed s ∧ step s = .next t := ⟨State.reset, State.reset.idle, by intro e k r h; simp [State.reset, EngineSt.init] at h, rfl⟩

theorem witness_UnfittedCellsStayOff_1 :
    ∃ s t : State, (∀ c : Cell, s.fitted c = false → s.cellSt c = 0) ∧ step s = .next t := ⟨State.reset, State.reset.idle, by decide, rfl⟩

theorem witness_TheSelfFaultClearsOnlyByADeviceReset_1 :
    ∃ (c : Instr) (s t : State), exec c s = .next t ∧ (∀ r : Bool, c ≠ .powerOnResetAssert ∧ c ≠ .powerOnResetRelease r ∧ c ≠ .resetNAssert ∧ c ≠ .resetNRelease r ∧ c ≠ .deviceReset) ∧ s.selfFaulted = true ∧ s.sticky 126 = true := ⟨.wakePinHigh 0, (State.reset.wr 0xA00401 1).wr 0xA00004 (2 ^ 30), (State.reset.wr 0xA00401 1).wr 0xA00004 (2 ^ 30), rfl, by simp, by decide, by decide⟩

theorem witness_TheSelfFaultClearsOnlyByADeviceReset_2 :
    ∃ s : State, s.power.supervisor = true ∧ (s.dev = 6 ∨ s.dev = 7) ∧ s.selfFaulted = true ∧ s.dev ≠ 0 := ⟨((State.reset.modPower fun p => { p with supervisor := true }).wr kDevState 6).wr 0xA00401 1, by decide⟩

end Sys2Proof.Tests
end

section

namespace Sys2Proof.Machine

-- One proof after the other: each of Lean's threads takes its stack from the memory that the check allows.
set_option Elab.async false

/-! ### What every operation of the model keeps

Each operation of the model has one lemma here, which bears its name: a state that has evolved from s still has after the operation. Its proof follows the branches of the operation's definition and cites the lemmas of the operations that it calls, in the order in which they act. -/

/-- What a state is to one that an operation makes of it: the commands waiting stay, the timebase never runs back, and network time, the dictionary, the OEM area and the memory of the capture queue keep their forms (spec/00 R4; spec/14 R462; spec/20 R648). -/
structure Evolves (s t : State) : Prop where
  pending : t.pending = s.pending
  tick : s.tick ≤ t.tick
  net : s.net.acc < secUnits → t.net.acc < secUnits
  objs : storeWf s.objs = true → storeWf t.objs = true
  oem : memWf s.nv.oem = true → memWf t.nv.oem = true
  mem : memWf s.capture.mem = true → memWf t.capture.mem = true

/-- The parts of the state that `Evolves` speaks of. -/
def State.spine (s : State) : List Instr × Nat × NetTime × Store × Mem × Mem :=
  (s.pending, s.tick, s.net, s.objs, s.nv.oem, s.capture.mem)

/-- Words written into the queue's memory keep its form (spec/18 R595). -/
theorem putWords_mem_wf (c : CaptureSt) (start : Nat) (ws : List Nat) (h : memWf c.mem = true) :
    memWf (c.putWords start ws).mem = true := by
  unfold CaptureSt.putWords
  generalize ws.zipIdx = l, c.mem = m at h ⊢
  induction l generalizing m with
  | nil => exact h
  | cons p l ih => exact ih _ (memWriteBytes_wf _ _ m h)

/-- The accumulator of a count of network time lies below one second (spec/14 R462). -/
theorem netOf_acc_lt (u : Nat) : (netOf u).acc < secUnits := Nat.mod_lt u (by decide)

variable {s a t : State}

theorem Evolves.refl (s : State) : Evolves s s := ⟨rfl, le_rfl, id, id, id, id⟩

/-- What two operations in a row keep. -/
theorem Evolves.trans (h : Evolves s a) (h' : Evolves a t) : Evolves s t :=
  ⟨h'.pending.trans h.pending, h.tick.trans h'.tick, h'.net ∘ h.net, h'.objs ∘ h.objs,
    h'.oem ∘ h.oem, h'.mem ∘ h.mem⟩

/-- A change of the state's other parts alone. -/
theorem Evolves.frame (h : Evolves s a) (ht : t.spine = a.spine) : Evolves s t := by
  simp only [State.spine, Prod.mk.injEq] at ht
  obtain ⟨hp, htick, hnet, hobjs, hoem, hmem⟩ := ht
  exact h.trans ⟨hp, htick.ge, by simp [hnet], by simp [hobjs], by simp [hoem], by simp [hmem]⟩

/-- A change of other parts of the state, written as a record update. -/
theorem Evolves.set {free lastStatus lastData power pins tap clock gates carriers legs guard rails signals winTrip
    engines modeDone refs charge string stringRx collector lanes paths hatch lease frames time meas thermal nv jobs
    can wdp capture} (h : Evolves s a) (hoem : nv.oem = a.nv.oem := by rfl)
    (hmem : capture.mem = a.capture.mem := by rfl) :
    Evolves s { a with
      free, lastStatus, lastData, power, pins, tap, clock, gates, carriers, legs, guard, rails, signals, winTrip,
      engines, modeDone, refs, charge, string, stringRx, collector, lanes, paths, hatch, lease, frames, time, meas,
      thermal, nv, jobs, can, wdp, capture } :=
  h.frame (by simp [State.spine, hoem, hmem])

/-! #### Branches and folds -/

theorem Evolves.ite {c : Prop} {_ : Decidable c} {x y : State} (hx : Evolves s x) (hy : Evolves s y) :
    Evolves s (if c then x else y) := by
  split
  · exact hx
  · exact hy

theorem Evolves.foldl {α : Type} {l : List α} {f : State → α → State} (h : Evolves s a)
    (hf : ∀ b x, Evolves s b → Evolves s (f b x)) : Evolves s (l.foldl f a) := by
  induction l generalizing a with
  | nil => exact h
  | cons x l ih => exact ih (hf a x h)

theorem Evolves.forFin {n : Nat} {f : Fin n → State → State} (h : Evolves s a)
    (hf : ∀ i b, Evolves s b → Evolves s (f i b)) : Evolves s (Machine.forFin n a f) :=
  forFin_keeps (Evolves s) f hf a h

theorem Evolves.foldr {α : Type} {l : List α} {f : α → State → State} (h : Evolves s a)
    (hf : ∀ x b, Evolves s b → Evolves s (f x b)) : Evolves s (l.foldr f a) := by
  induction l with
  | nil => exact h
  | cons x l ih => exact hf x _ ih

theorem Evolves.getD {o : Option State} (h : Evolves s a) (ho : ∀ t, o = some t → Evolves s t) :
    Evolves s (o.getD a) := by
  cases o with
  | none => exact h
  | some t => exact ho t rfl

/-! #### Pairs of an answer and a state -/

theorem Evolves.iteSnd {α : Type} {c : Prop} {_ : Decidable c} {x y : α × State} (hx : Evolves s x.2)
    (hy : Evolves s y.2) : Evolves s (if c then x else y).2 := by
  split
  · exact hx
  · exact hy

theorem Evolves.iteSndSnd {α β : Type} {c : Prop} {_ : Decidable c} {x y : α × β × State} (hx : Evolves s x.2.2)
    (hy : Evolves s y.2.2) : Evolves s (if c then x else y).2.2 := by
  split
  · exact hx
  · exact hy

theorem Evolves.snd {α : Type} {x : α} (h : Evolves s a) : Evolves s (x, a).2 := h

theorem Evolves.foldlSnd {α β : Type} {l : List β} {f : α × State → β → α × State} {p : α × State}
    (h : Evolves s p.2) (hf : ∀ q x, Evolves s q.2 → Evolves s (f q x).2) : Evolves s (l.foldl f p).2 := by
  induction l generalizing p with
  | nil => exact h
  | cons x l ih => exact ih (hf p x h)

theorem Evolves.forFinSnd {α : Type} {n : Nat} {f : Fin n → α × State → α × State} {p : α × State}
    (h : Evolves s p.2) (hf : ∀ i q, Evolves s q.2 → Evolves s (f i q).2) :
    Evolves s (Machine.forFin n p f).2 :=
  forFin_keeps (fun q => Evolves s q.2) f hf p h

theorem Evolves.forFinFst {α : Type} {n : Nat} {f : Fin n → State × α → State × α} {p : State × α}
    (h : Evolves s p.1) (hf : ∀ i q, Evolves s q.1 → Evolves s (f i q).1) :
    Evolves s (Machine.forFin n p f).1 :=
  forFin_keeps (fun q => Evolves s q.1) f hf p h

/-! #### The named operations -/

theorem Evolves.wr {k v} (h : Evolves s a) : Evolves s (a.wr k v) :=
  h.trans ⟨rfl, le_rfl, id, storeSet_wf a.objs k v, id, id⟩

theorem Evolves.wrBit {k i b} (h : Evolves s a) : Evolves s (a.wrBit k i b) :=
  h.wr

theorem Evolves.orBits {k m} (h : Evolves s a) : Evolves s (a.orBits k m) :=
  h.wr

theorem Evolves.clrBits {k m} (h : Evolves s a) : Evolves s (a.clrBits k m) :=
  h.wr

theorem Evolves.count {k n} (h : Evolves s a) : Evolves s (a.count k n) :=
  h.wr

theorem Evolves.countSat {k} (h : Evolves s a) : Evolves s (a.countSat k) :=
  h.wr

theorem Evolves.wrAll {kvs} (h : Evolves s a) : Evolves s (a.wrAll kvs) :=
  .foldl h fun _ _ h => h.wr

theorem Evolves.advance {n} (h : Evolves s a) : Evolves s (a.advance n) :=
  h.trans ⟨rfl, Nat.le_add_right a.tick n, fun _ => netOf_acc_lt _, id, id, id⟩

theorem Evolves.advanceTo {t} (h : Evolves s a) : Evolves s (a.advanceTo t) :=
  h.advance

theorem Evolves.freeVal (h : Evolves s a) : Evolves s a.freeVal.2 :=
  h.set

theorem Evolves.freeIn {lo hi} (h : Evolves s a) : Evolves s (a.freeIn lo hi).2 :=
  .iteSnd h h.freeVal

theorem Evolves.raise {n} (h : Evolves s a) : Evolves s (a.raise n) :=
  h.set

theorem Evolves.assertSrc {n} (h : Evolves s a) : Evolves s (a.assertSrc n) :=
  h.set

theorem Evolves.deassertSrc {n} (h : Evolves s a) : Evolves s (a.deassertSrc n) :=
  h.set

theorem Evolves.levelSrc {n b} (h : Evolves s a) : Evolves s (a.levelSrc n b) :=
  .ite h.assertSrc h.deassertSrc

theorem Evolves.emit {code tick exact} (h : Evolves s a) : Evolves s (a.emit code tick exact) :=
  h.set rfl (by split <;> rfl)

theorem Evolves.emitSync {code} (h : Evolves s a) : Evolves s (a.emitSync code) := by
  unfold State.emitSync
  exact (h.freeIn (lo := 1) (hi := 2)).emit

theorem Evolves.claim {code who t} (h : Evolves s a) : Evolves s (a.claim code who t) :=
  h.set

theorem Evolves.take {code who t} (h : Evolves s a) : Evolves s (a.take code who t) :=
  h.claim.advanceTo

theorem Evolves.takeTrigger {code who t} (h : Evolves s a) : Evolves s (a.takeTrigger code who t) :=
  .ite h.claim h.take

theorem Evolves.modCarrier {k f} (h : Evolves s a) : Evolves s (a.modCarrier k f) :=
  h.set

theorem Evolves.modLeg {l f} (h : Evolves s a) : Evolves s (a.modLeg l f) :=
  h.set

theorem Evolves.modGuard {c f} (h : Evolves s a) : Evolves s (a.modGuard c f) :=
  h.set

theorem Evolves.gate {l b} (h : Evolves s a) : Evolves s (a.gate l b) :=
  h.set

theorem Evolves.modSensor {n f} (h : Evolves s a) : Evolves s (a.modSensor n f) :=
  h.set

theorem Evolves.reschedule (h : Evolves s a) : Evolves s a.reschedule :=
  .forFin h fun _ _ h => .ite (.ite h h.modSensor) h.modSensor

/-! #### Gates and holds (spec/09) -/

theorem Evolves.edgeCause {c i} (h : Evolves s a) : Evolves s (a.edgeCause c i) :=
  h.wrBit.raise

theorem Evolves.setCarry {l z} (h : Evolves s a) : Evolves s (a.setCarry l z) :=
  .ite h.wr h.wr.count.edgeCause

theorem Evolves.resetCarry {k} (h : Evolves s a) : Evolves s (a.resetCarry k) :=
  .forFin h fun _ _ h => h.wr.modLeg

theorem Evolves.gateOff {l} (h : Evolves s a) : Evolves s (a.gateOff l) :=
  .ite h.gate.set h

theorem Evolves.legZero {l} (h : Evolves s a) : Evolves s (a.legZero l) :=
  h.gateOff.modLeg

theorem Evolves.legOff {l} (h : Evolves s a) : Evolves s (a.legOff l) :=
  h.gateOff.gateOff.modLeg

theorem Evolves.stopDriving {k} (h : Evolves s a) : Evolves s (a.stopDriving k) :=
  .ite (.forFin h.modCarrier fun _ _ h => h.modLeg) h

theorem Evolves.applyRow {c b} (h : Evolves s a) : Evolves s (a.applyRow c b) :=
  .ite h (.forFin h.stopDriving fun _ _ h => .ite h.legZero h.legOff)

theorem Evolves.modSlots {f} (h : Evolves s a) : Evolves s (a.modSlots f) :=
  h.set

theorem Evolves.applyCell {c} (h : Evolves s a) : Evolves s (a.applyCell c) :=
  .forFin h fun _ _ h => .applyRow (.ite h h.stopDriving)

theorem Evolves.applyAll (h : Evolves s a) : Evolves s a.applyAll :=
  .forFin h fun _ _ h => h.applyCell

theorem Evolves.hold {c b bits} (h : Evolves s a) : Evolves s (a.hold c b bits) :=
  .ite h (.applyRow (.modGuard (.ite h.orBits.count.resetCarry h.orBits)))

theorem Evolves.unhold {c b bits} (h : Evolves s a) : Evolves s (a.unhold c b bits) :=
  .applyRow (.ite h.clrBits.modGuard h.clrBits)

theorem Evolves.holdCell {c bits} (h : Evolves s a) : Evolves s (a.holdCell c bits) :=
  .forFin h fun _ _ h => h.hold

theorem Evolves.holdAll {bits} (h : Evolves s a) : Evolves s (a.holdAll bits) :=
  .forFin h fun _ _ h => h.holdCell

theorem Evolves.unholdCell {c bits} (h : Evolves s a) : Evolves s (a.unholdCell c bits) :=
  .forFin h fun _ _ h => h.unhold

theorem Evolves.registerTrip {old c b} (h : Evolves s a) : Evolves s (a.registerTrip old c b) :=
  .ite (.forFin (h.freeIn (lo := 1) (hi := 2)) fun _ _ h => .ite h.modLeg h) h

theorem Evolves.trip {c i} (h : Evolves s a) : Evolves s (a.trip c i) :=
  .forFin h fun _ _ h => .ite h.hold.registerTrip h

theorem Evolves.tripEnds {c i} (h : Evolves s a) : Evolves s (a.tripEnds c i) :=
  h.modGuard

theorem Evolves.evalTrip {c i} (h : Evolves s a) : Evolves s (a.evalTrip c i) :=
  .ite h (.ite h.trip h.tripEnds)

theorem Evolves.evalCell {c} (h : Evolves s a) : Evolves s (a.evalCell c) :=
  .forFin h fun _ _ h => .ite h.trip h

/-! #### Carriers and pulses (spec/05) -/

theorem Evolves.toTaps {t} (h : Evolves s a) : Evolves s (a.toTaps t) :=
  h.advanceTo

theorem Evolves.issueEdge {l on t} (h : Evolves s a) : Evolves s (a.issueEdge l on t) :=
  h.toTaps.gate.set

theorem Evolves.event {k y t} (h : Evolves s a) : Evolves s (a.event k y t) :=
  .ite h.modCarrier.emit h.modCarrier

theorem Evolves.cmpEvent {l t} (h : Evolves s a) : Evolves s (a.cmpEvent l t) :=
  h.event

theorem Evolves.loadShadow {k i} (h : Evolves s a) : Evolves s (a.loadShadow k i) :=
  h.modCarrier

theorem Evolves.loadSlew {k} (h : Evolves s a) : Evolves s (a.loadSlew k) :=
  h.modCarrier

theorem Evolves.armCommit {k} (h : Evolves s a) : Evolves s (a.armCommit k) :=
  .ite h.modCarrier h

theorem Evolves.startCarrier {k} (h : Evolves s a) : Evolves s (a.startCarrier k) :=
  h.modCarrier

theorem Evolves.restShadows {k} (h : Evolves s a) : Evolves s (a.restShadows k) :=
  h.modCarrier

theorem Evolves.clearPeriods {k} (h : Evolves s a) : Evolves s (a.clearPeriods k) :=
  .ite h.wr h

theorem Evolves.stopCarrier {k t} (h : Evolves s a) : Evolves s (a.stopCarrier k t) :=
  .restShadows (.forFin h.stopDriving.clearPeriods fun _ _ h => .ite h.modLeg.cmpEvent h)

theorem Evolves.syncCarriers {c} (h : Evolves s a) : Evolves s (a.syncCarriers c) :=
  .forFin h fun _ _ h => .ite h.startCarrier (.ite h (.ite h.stopCarrier.applyRow h.clearPeriods))

theorem Evolves.rebaseNet {d} (h : Evolves s a) : Evolves s (a.rebaseNet d) :=
  .forFin h fun _ _ h => .ite (.forFin h.modCarrier fun _ _ h => h.modLeg) h

theorem Evolves.countErase {l} (h : Evolves s a) : Evolves s (a.countErase l) :=
  h.modLeg.count

theorem Evolves.startLeg {l t} (h : Evolves s a) : Evolves s (a.startLeg l t) :=
  .ite h.legOff.modLeg h.legOff.modLeg.countErase

theorem Evolves.tryDrive {k t} (h : Evolves s a) : Evolves s (a.tryDrive k t) :=
  .ite h (.forFin h.modCarrier.resetCarry fun _ _ h => h.startLeg)

theorem Evolves.latch {k} (h : Evolves s a) : Evolves s (a.latch k) :=
  h.modCarrier

theorem Evolves.latchFollowers {k} (h : Evolves s a) : Evolves s (a.latchFollowers k) :=
  .forFin h fun _ _ h => h.modCarrier

theorem Evolves.transfer {k} (h : Evolves s a) : Evolves s (a.transfer k) :=
  h.modCarrier

theorem Evolves.countSkew {k} (h : Evolves s a) : Evolves s (a.countSkew k) :=
  .ite (.ite h.modCarrier.edgeCause h.modCarrier) h.modCarrier

theorem Evolves.legPeriod {l} (h : Evolves s a) : Evolves s (a.legPeriod l) :=
  .ite h.modLeg.edgeCause h.modLeg

theorem Evolves.zeroFollowers {k t p zp} (h : Evolves s a) : Evolves s (a.zeroFollowers k t p zp) :=
  .forFin h fun _ _ h => h.modCarrier

theorem Evolves.nextPeriod {k t oldPeriod oldPhase same} (h : Evolves s a) :
    Evolves s (a.nextPeriod k t oldPeriod oldPhase same) :=
  .ite h.modCarrier (.ite h.modCarrier h.modCarrier)

theorem Evolves.keepTails {k t} (h : Evolves s a) : Evolves s (a.keepTails k t) := by
  refine .forFin h fun _ _ h => ?_
  dsimp only
  split
  · exact h
  · exact .ite h h.modLeg

theorem Evolves.newPeriod {k tl t0} (h : Evolves s a) : Evolves s (a.newPeriod k tl t0) :=
  h.modCarrier

theorem Evolves.zeroBoundary {k} (h : Evolves s a) : Evolves s (a.zeroBoundary k) :=
  .ite (.countSkew (.transfer (.ite h.latch h))) (.transfer (.ite h.latch h))

theorem Evolves.countPeriod {k t} (h : Evolves s a) : Evolves s (a.countPeriod k t) :=
  .ite h.count.wr.wr h.count

theorem Evolves.zero {k} (h : Evolves s a) : Evolves s (a.zero k) := by
  unfold State.zero
  extract_lets c tl s1 s2 s3 n t s4 s5 s6 s7
  refine .ite h ?_
  have h3 : Evolves s s3 := h.toTaps.countPeriod.keepTails.zeroBoundary.newPeriod
  have h5 : Evolves s s5 := h3.nextPeriod.zeroFollowers
  have h6 : Evolves s s6 := .ite (.forFin h5 fun _ _ h => h.legPeriod) h5
  exact .ite h3.event.stopCarrier.applyRow (.ite h6.event h6.event.tryDrive)

theorem Evolves.apex {k} (h : Evolves s a) : Evolves s (a.apex k) := by
  unfold State.apex
  extract_lets c t s1 s2 s2' s3 s4
  refine .ite h ?_
  have h2 : Evolves s s2 := h.toTaps.modCarrier.event
  have h2' : Evolves s s2' := .transfer (.ite h2.keepTails h2)
  have h3 : Evolves s s3 := .ite (.ite h2'.countSkew h2') h2
  have h4 : Evolves s s4 := .ite h3 h3.modCarrier
  exact .ite h4.tryDrive h4

theorem Evolves.tcmpEvent {k} (h : Evolves s a) : Evolves s (a.tcmpEvent k) :=
  .ite h h.toTaps.modCarrier.event

theorem Evolves.transferInstant {k apex} (h : Evolves s a) : Evolves s (a.transferInstant k apex) :=
  .ite h (.ite (.ite h.toTaps.latch h.toTaps) (.latchFollowers (.ite h.toTaps.latch h.toTaps)))

theorem Evolves.commandEdge {l high t} (h : Evolves s a) : Evolves s (a.commandEdge l high t) :=
  h.issueEdge.modLeg.cmpEvent

theorem Evolves.judge {l high t t1} (h : Evolves s a) : Evolves s (a.judge l high t t1) :=
  .ite h.toTaps.modLeg.countErase h.toTaps.setCarry.modLeg.commandEdge

theorem Evolves.erasedEnd {l} (h : Evolves s a) : Evolves s (a.erasedEnd l) := by
  dsimp only [State.erasedEnd]
  split
  · exact h
  · split
    · exact h
    · exact h.toTaps.setCarry.modLeg

theorem Evolves.refresh {l} (h : Evolves s a) : Evolves s (a.refresh l) :=
  h.toTaps.modLeg.commandEdge

theorem Evolves.settle {l t} (h : Evolves s a) : Evolves s (a.settle l t) := by
  unfold State.settle
  split
  · exact h
  · split
    · exact h
    · exact .ite h.erasedEnd h

theorem Evolves.legChange {l high t} (h : Evolves s a) : Evolves s (a.legChange l high t) := by
  refine .ite h (.ite h.refresh (.ite ?_ ?_))
  · split
    · exact h
    · exact .ite h h.toTaps.modLeg.cmpEvent
  · split
    · exact h
    · exact .ite h (.ite h.settle h.settle.judge)

theorem Evolves.loopRefused {c} (h : Evolves s a) : Evolves s (a.loopRefused c) :=
  h.modSlots

theorem Evolves.refuseOn {l} (h : Evolves s a) : Evolves s (a.refuseOn l) :=
  h.loopRefused.count.hold.raise

theorem Evolves.blanked {t0 t} (h : Evolves s a) : Evolves s (a.blanked t0 t).2 :=
  .iteSnd h h.freeVal

theorem Evolves.deadEnd {l} (h : Evolves s a) : Evolves s (a.deadEnd l) := by
  unfold State.deadEnd
  split
  · exact h
  · refine .ite (.modLeg (.toTaps ?_))
      (.ite (.refuseOn (.modLeg (.toTaps ?_))) (.issueEdge (.modLeg (.toTaps ?_))))
    all_goals
      split
      · exact h.blanked
      · exact h

theorem Evolves.refreshEnd {l} (h : Evolves s a) : Evolves s (a.refreshEnd l) := by
  unfold State.refreshEnd
  split
  · exact h
  · exact .ite h.toTaps.setCarry.count.modLeg.modLeg.judge h.toTaps.setCarry.count.modLeg

theorem Evolves.reanchor {k tn} (h : Evolves s a) : Evolves s (a.reanchor k tn) :=
  h.modCarrier

/-! #### Loop engines (spec/07) -/

theorem Evolves.modEngine {e f} (h : Evolves s a) : Evolves s (a.modEngine e f) :=
  h.set

theorem Evolves.modTask {e t f} (h : Evolves s a) : Evolves s (a.modTask e t f) :=
  h.modEngine

theorem Evolves.recordNumeric {e n} (h : Evolves s a) : Evolves s (a.recordNumeric e n) :=
  h.wrBit.wrBit.wr.raise

theorem Evolves.miss {e t cause countSub} (h : Evolves s a) : Evolves s (a.miss e t cause countSub) :=
  .ite h.count.wrBit.wr.modTask.raise h.count.wrBit.wr

theorem Evolves.putStep {e outs keep} (h : Evolves s a) : Evolves s (a.putStep e outs keep) :=
  .foldl h fun _ _ h => h.wrAll

theorem Evolves.settleStep {e} (h : Evolves s a) : Evolves s (a.settleStep e) := by
  unfold State.settleStep
  split
  · exact h
  · exact .ite h h.putStep.modEngine

theorem Evolves.startRun {e t r} (h : Evolves s a) : Evolves s (a.startRun e t r) :=
  .modTask (.ite h.settleStep.count.wrBit h.settleStep)

theorem Evolves.runNext {e} (h : Evolves s a) : Evolves s (a.runNext e) := by
  unfold State.runNext
  split
  · exact h
  · split
    · exact h
    · exact .ite h.startRun (.ite h h.modTask)

theorem Evolves.reached {r} (h : Evolves s a) : Evolves s (a.reached r).2 :=
  h.freeIn

theorem Evolves.blockLeft {r} (h : Evolves s a) : Evolves s (a.blockLeft r).2 :=
  h.reached.freeIn

theorem Evolves.suspendBelow {e t} (h : Evolves s a) : Evolves s (a.suspendBelow e t) := by
  dsimp only [State.suspendBelow]
  split
  · exact h.modEngine
  · split
    · exact h.modEngine
    · exact h.blockLeft.advance.modEngine

theorem Evolves.acceptTrigger {e t g} (h : Evolves s a) : Evolves s (a.acceptTrigger e t g) :=
  h.modTask.suspendBelow.runNext

theorem Evolves.noteRun {e t} (h : Evolves s a) : Evolves s (a.noteRun e t) := by
  unfold State.noteRun
  split
  · exact h
  · exact .ite h (.modTask (.foldl (.iteSnd h h.reached) fun _ _ h => h.recordNumeric))

theorem Evolves.noteNumeric (h : Evolves s a) : Evolves s a.noteNumeric :=
  .forFin h fun _ _ h => .forFin h fun _ _ h => h.noteRun

theorem Evolves.abandon {e t} (h : Evolves s a) : Evolves s (a.abandon e t) := by
  unfold State.abandon
  split
  · exact h
  · exact h.noteRun.modTask

theorem Evolves.countClamp {e r} (h : Evolves s a) : Evolves s (a.countClamp e r) := by
  unfold State.countClamp
  split
  · exact .ite h.modEngine.wrBit.raise h.modEngine
  · exact h

theorem Evolves.commitBlock {e r} (h : Evolves s a) : Evolves s (a.commitBlock e r) :=
  h.wrAll.countClamp

theorem Evolves.loadStaged {kv} (h : Evolves s a) : Evolves s (a.loadStaged kv) := by
  dsimp only [State.loadStaged]
  split
  · exact h.wr.loadShadow.armCommit
  · exact h.wr

theorem Evolves.updMode {c} (h : Evolves s a) : Evolves s (a.updMode c) :=
  .ite h h.wr.count

theorem Evolves.commitMode {c t saw} (h : Evolves s a) : Evolves s (a.commitMode c t saw) :=
  .updMode (.ite h.wrBit.set h)

theorem Evolves.commitRun {e t r} (h : Evolves s a) : Evolves s (a.commitRun e t r) := by
  unfold State.commitRun
  extract_lets s0 s1 s2 dur s3 s4 s5
  have h0 : Evolves s s0 := .foldl h fun _ _ h => h.recordNumeric
  have h1 : Evolves s s1 := .foldl h0 fun _ _ h => h.loadStaged
  have h2 : Evolves s s2 := .foldr h1 fun _ _ h => h.commitBlock
  have h4 : Evolves s s4 := h2.count.wrAll.modTask
  have h5 : Evolves s s5 := by
    unfold s5
    split
    · exact h4.commitMode
    · exact h4
  exact h5.emit.runNext

theorem Evolves.release {e t} (h : Evolves s a) : Evolves s (a.release e t) := by
  unfold State.release
  split
  · exact h
  · exact .ite h h.commitRun

theorem Evolves.late {e t} (h : Evolves s a) : Evolves s (a.late e t) := by
  unfold State.late
  split
  · exact h
  · exact .ite h.advanceTo.commitRun h.advanceTo.abandon.miss.runNext

theorem Evolves.discardRuns {e} (h : Evolves s a) : Evolves s (a.discardRuns e) :=
  .forFin h fun _ _ h => h.abandon

theorem Evolves.stopGroup {e} (h : Evolves s a) : Evolves s (a.stopGroup e) :=
  .ite (.forFin h.settleStep.modEngine fun _ _ h => .ite h.wrBit h) h.settleStep.modEngine

theorem Evolves.engineStops {e} (h : Evolves s a) : Evolves s (a.engineStops e) :=
  h.discardRuns.stopGroup

theorem Evolves.clearEngine {e} (h : Evolves s a) : Evolves s (a.clearEngine e) :=
  .modEngine (.discardRuns (.forFin (.forFin h fun _ _ h => h.wrAll) fun _ _ h => h.wr))

theorem Evolves.validateProgram {e} (h : Evolves s a) : Evolves s (a.validateProgram e) :=
  h.wrAll

/-! #### Profiles and modes (spec/08) -/

theorem Evolves.markSeed {e n w} (h : Evolves s a) : Evolves s (a.markSeed e n w) :=
  h.modEngine

theorem Evolves.seedStep {e n cause} (h : Evolves s a) : Evolves s (a.seedStep e n cause) :=
  .ite (.raise (.modEngine (.ite h.wrAll.wr h.wrAll))) (.modEngine (.ite h.wrAll.wr h.wrAll))

theorem Evolves.motionStep {e n} (h : Evolves s a) : Evolves s (a.motionStep e n) :=
  .ite h.wrAll.modEngine h.wrAll.modEngine.raise

theorem Evolves.stepGroup {e g} (h : Evolves s a) : Evolves s (a.stepGroup e g) := by
  unfold State.stepGroup
  extract_lets on begins s1 s2 s3
  have hf : Evolves s (s3.freeIn 82 167).2 :=
    .freeIn (.count (.modEngine (.ite (.foldl h fun _ _ h => h.markSeed) h)))
  generalize s3.freeIn 82 167 = p at hf ⊢
  refine .modEngine (.putStep (.foldl hf fun _ _ h => ?_))
  split
  · exact h.motionStep
  · exact h.seedStep

theorem Evolves.stepNow {e g} (h : Evolves s a) : Evolves s (a.stepNow e g) :=
  .ite h.settleStep (.ite h.settleStep.count h.settleStep.stepGroup)

theorem Evolves.profileStep {e} (h : Evolves s a) : Evolves s (a.profileStep e) := by
  dsimp only [State.profileStep]
  split
  · exact h
  · exact h.takeTrigger.stepNow

theorem Evolves.taskTrigger {e t} (h : Evolves s a) : Evolves s (a.taskTrigger e t) := by
  unfold State.taskTrigger
  extract_lets code
  split
  · exact h
  · extract_lets s0 s1 q
    have h1 : Evolves s s1 := .takeTrigger (.ite h.profileStep h)
    exact .ite h1 (.ite h1.miss h1.acceptTrigger)

theorem Evolves.onEnable {e n v} (h : Evolves s a) : Evolves s (a.onEnable e n v) :=
  .ite h.wr (.ite (.ite h.wr.wrBit h.wr) h.wr.markSeed)

theorem Evolves.setLimits {e n v a' j tol} (h : Evolves s a) : Evolves s (a.setLimits e n v a' j tol) :=
  h.wrAll

theorem Evolves.modeRequest {c v} (h : Evolves s a) : Evolves s (a.modeRequest c v) :=
  .ite h (.updMode (.forFin (.ite h.wr.set.modEngine.wr.wr h.wr.set.modEngine.wr.set) fun _ _ h => .ite
    h.markSeed h))

/-! #### Cells and the bypass (spec/09) -/

theorem Evolves.setCell {c new} (h : Evolves s a) : Evolves s (a.setCell c new) := by
  unfold State.setCell
  refine .ite h ?_
  extract_lets e s0 s1 s2 s3 s4 s5 s6 s7
  have h1 : Evolves s s1 := h.wrAll.count.raise.set
  have h2 : Evolves s s2 := .ite h1.clearEngine.unholdCell (.ite h1.unholdCell h1)
  have h3 : Evolves s s3 := .ite h2.wr (.ite h2.modGuard h2)
  have h4 : Evolves s s4 := .ite h3.clrBits h3
  have h5 : Evolves s s5 := .ite h4.engineStops h4
  have h6 : Evolves s s6 := h5.applyCell
  have h7 : Evolves s s7 := .ite h6.orBits.modGuard (.ite h6.clrBits.modGuard h6)
  exact h7.updMode.reschedule

theorem Evolves.setByp {c level} (h : Evolves s a) : Evolves s (a.setByp c level) :=
  .ite h h.wrBit.modGuard.applyCell

theorem Evolves.mismatch {c} (h : Evolves s a) : Evolves s (a.mismatch c) :=
  h.wrBit.count.raise

theorem Evolves.bypassDone {c} (h : Evolves s a) : Evolves s (a.bypassDone c) :=
  h.wr.setCell

theorem Evolves.bypassClose {c} (h : Evolves s a) : Evolves s (a.bypassClose c) := by
  unfold State.bypassClose
  split
  · exact h
  · exact .ite h.advanceTo.setByp.modGuard.bypassDone h.advanceTo.setByp.modGuard

theorem Evolves.feedback {c closed} (h : Evolves s a) : Evolves s (a.feedback c closed) :=
  .ite h.wrBit.bypassDone (.ite h.wrBit.modGuard.setCell
    (.ite h.wrBit.modGuard (.ite h.wrBit (.ite h.wrBit.modGuard (.ite h.wrBit h.wrBit.mismatch)))))

theorem Evolves.bypRelease {c} (h : Evolves s a) : Evolves s (a.bypRelease c) := by
  unfold State.bypRelease
  split
  · exact h
  · exact .ite h.advanceTo.modGuard h

theorem Evolves.bypSample {c high} (h : Evolves s a) : Evolves s (a.bypSample c high) := by
  unfold State.bypSample
  split
  · exact h
  · exact .ite h (.ite h.advanceTo.modGuard.modGuard
      (.ite h.advanceTo.modGuard.modGuard h.advanceTo.modGuard.modGuard.feedback))

theorem Evolves.bypCycle {c} (h : Evolves s a) : Evolves s (a.bypCycle c) := by
  unfold State.bypCycle
  split
  · exact h
  · exact h.advanceTo.modGuard

theorem Evolves.bypassLate {c} (h : Evolves s a) : Evolves s (a.bypassLate c) := by
  unfold State.bypassLate
  split
  · exact h
  · exact h.advanceTo.wrBit.setCell

theorem Evolves.openLate {c} (h : Evolves s a) : Evolves s (a.openLate c) := by
  unfold State.openLate
  split
  · exact h
  · exact .ite h.advanceTo.modGuard.mismatch.modGuard.setByp.setCell h.advanceTo.modGuard.mismatch

theorem Evolves.mismatchLate {c} (h : Evolves s a) : Evolves s (a.mismatchLate c) := by
  unfold State.mismatchLate
  split
  · exact h
  · exact .ite h.advanceTo.modGuard h.advanceTo.modGuard.mismatch

theorem Evolves.openContactor {c w} (h : Evolves s a) : Evolves s (a.openContactor c w) :=
  .ite h (.ite h.setByp.modGuard (.ite h.setByp.modGuard.setCell h.setByp.modGuard))

theorem Evolves.endInsert {c} (h : Evolves s a) : Evolves s (a.endInsert c) :=
  h.modGuard.setByp.setCell

theorem Evolves.guardRelease {c mask} (h : Evolves s a) : Evolves s (a.guardRelease c mask) :=
  .forFin h.wr fun _ _ h => .ite h.unhold h

theorem Evolves.autoRelease {c b} (h : Evolves s a) : Evolves s (a.autoRelease c b) := by
  unfold State.autoRelease
  split
  · exact h
  · exact .ite h (.unhold (.ite h.advanceTo h.advanceTo.wr.modGuard))

theorem Evolves.safeTurnOn {c b} (h : Evolves s a) : Evolves s (a.safeTurnOn c b) := by
  dsimp only [State.safeTurnOn]
  split
  · exact h
  · refine .forFin h.advanceTo fun _ _ h => ?_
    split
    · exact h
    · exact .ite h (.ite h.modLeg (.ite h.modLeg.refuseOn h.modLeg.gate))

theorem Evolves.extChange {p n sn} (h : Evolves s a) : Evolves s (a.extChange p n sn) :=
  .ite h.set (.ite (.forFin h.set.assertSrc fun _ _ h => .ite h.trip h)
    (.ite (.forFin h.set.deassertSrc fun _ _ h => .ite h.tripEnds h) h.set))

/-! #### The device state machine (spec/04) -/

theorem Evolves.enterDev {d} (h : Evolves s a) : Evolves s (a.enterDev d) :=
  h.wrAll

theorem Evolves.abortIdle (h : Evolves s a) : Evolves s a.abortIdle :=
  .ite h.wrBit.wr h

theorem Evolves.endMolt {g result} (h : Evolves s a) : Evolves s (a.endMolt g result) := by
  unfold State.endMolt
  split
  · exact h
  · exact .ite h.wrAll.set.abortIdle.raise h.wrAll.set.abortIdle

theorem Evolves.leaveRunning (h : Evolves s a) : Evolves s a.leaveRunning :=
  .ite (.set (.wr (.forFin h.engineStops fun _ _ h => h.endMolt))) h

theorem Evolves.cellsSafe (h : Evolves s a) : Evolves s a.cellsSafe :=
  .forFin h fun _ _ h => .ite h.holdCell.setCell (.ite h.endInsert h)

theorem Evolves.falls (h : Evolves s a) : Evolves s a.falls :=
  h.set

theorem Evolves.toSafe {cause} (h : Evolves s a) : Evolves s (a.toSafe cause) :=
  .cellsSafe (.wr (.enterDev (.leaveRunning (.ite h h.falls))))

theorem Evolves.safeCause {cause} (h : Evolves s a) : Evolves s (a.safeCause cause) := by
  unfold State.safeCause
  split
  · exact h.toSafe
  · exact h.toSafe
  · exact h.toSafe
  · exact .ite h h.wrBit.set
  · exact .ite h h.wrBit.set
  · exact .ite h h.wrBit.set
  · exact h

theorem Evolves.lockout (h : Evolves s a) : Evolves s a.lockout := by
  have hnow : Evolves s ((a.falls.leaveRunning.enterDev 7).cellsSafe) := h.falls.leaveRunning.enterDev.cellsSafe
  unfold State.lockout
  split
  · exact hnow
  · exact hnow
  · exact hnow
  · exact hnow
  · exact h.wrBit
  · exact h.wrBit
  · exact h.wrBit
  · exact h

theorem Evolves.hatchEnds (h : Evolves s a) : Evolves s a.hatchEnds :=
  .ite h.clrBits.set.enterDev (.ite h.clrBits.set.enterDev.wr h.clrBits.set.enterDev)

theorem Evolves.checkStop (h : Evolves s a) : Evolves s a.checkStop :=
  .ite h.leaveRunning.enterDev h

theorem Evolves.cellReaction {c} (h : Evolves s a) : Evolves s (a.cellReaction c) := by
  refine .ite h (.checkStop ?_)
  split
  · exact .ite h.holdCell.setCell h.holdCell.setCell
  · exact h.holdCell.setCell
  · exact h.holdCell.setCell
  · exact h.holdCell.endInsert
  · exact h.holdCell

/-! #### Lanes and paths (spec/13) -/

theorem Evolves.modLane {i f} (h : Evolves s a) : Evolves s (a.modLane i f) :=
  h.set

theorem Evolves.modPath {q f} (h : Evolves s a) : Evolves s (a.modPath q f) :=
  h.set

theorem Evolves.laneSources {i} (h : Evolves s a) : Evolves s (a.laneSources i) :=
  h.levelSrc.levelSrc

theorem Evolves.setLane {i st} (h : Evolves s a) : Evolves s (a.setLane i st) :=
  h.wr.count.wr.modLane.laneSources

theorem Evolves.toRefEdge (h : Evolves s a) : Evolves s a.toRefEdge :=
  h.advance

theorem Evolves.acquire {p} (h : Evolves s a) : Evolves s (a.acquire p) := by
  unfold State.acquire
  extract_lets s0 st st' s1 pll q drop
  have h1 : Evolves s s1 := .wr (.ite h.toRefEdge h)
  have hdrop {b i} (h : Evolves s b) : Evolves s (drop b i) := .ite h h.setLane
  exact .ite h1.set.wrBit.wrBit (hdrop (hdrop h1.set))

theorem Evolves.restartPath {q rate} (h : Evolves s a) : Evolves s (a.restartPath q rate) := by
  unfold State.restartPath
  exact h.wrAll.acquire

theorem Evolves.fallBack {q} (h : Evolves s a) : Evolves s (a.fallBack q) :=
  .ite h (.modPath (.ite h.restartPath.wr.wrBit h.restartPath.wr))

theorem Evolves.hatchFalls {q} (h : Evolves s a) : Evolves s (a.hatchFalls q) :=
  .ite h.fallBack h

theorem Evolves.putLine {i bs} (h : Evolves s a) : Evolves s (a.putLine i bs) :=
  h.freeVal.modLane

theorem Evolves.soakNote {q errors trip} (h : Evolves s a) : Evolves s (a.soakNote q errors trip) :=
  h.modSlots

theorem Evolves.slotEnds {n outcome v1 v2 v3} (h : Evolves s a) :
    Evolves s (a.slotEnds n outcome v1 v2 v3) := by
  unfold State.slotEnds
  split
  · exact h
  · exact .ite (.ite (.setLane (.ite h.set.wrAll.setLane h.set.wrAll)) (.ite h.set.wrAll.setLane h.set.wrAll))
      (.ite (.foldl h.set.wrAll fun _ _ h => h.applyCell) h.set.wrAll)

theorem Evolves.slotAborted {n} (h : Evolves s a) : Evolves s (a.slotAborted n) :=
  h.freeVal.freeVal.freeVal.slotEnds

theorem Evolves.pathSlotsEnd (h : Evolves s a) : Evolves s a.pathSlotsEnd := by
  refine .forFin h fun _ _ h => ?_
  split
  · exact .ite h.slotAborted h
  · exact h

theorem Evolves.pathSources (h : Evolves s a) : Evolves s a.pathSources :=
  h.levelSrc.levelSrc

theorem Evolves.setHolder {q} (h : Evolves s a) : Evolves s (a.setHolder q) :=
  h.wr.set.pathSources

theorem Evolves.updRevert (h : Evolves s a) : Evolves s a.updRevert :=
  h.set.wrBit.wrBit

theorem Evolves.healthUnknown {q} (h : Evolves s a) : Evolves s (a.healthUnknown q) :=
  h.modPath.wr.pathSources.updRevert

theorem Evolves.releaseLease {cause} (h : Evolves s a) : Evolves s (a.releaseLease cause) :=
  .ite h (.ite h.pathSlotsEnd.wr.setHolder.count.raise.set h.pathSlotsEnd.wr.setHolder)

theorem Evolves.releaseOn {q cause} (h : Evolves s a) : Evolves s (a.releaseOn q cause) :=
  .ite h.set.releaseLease h.set

theorem Evolves.noteErrors {q n} (h : Evolves s a) : Evolves s (a.noteErrors q n) :=
  .ite h h.modPath

theorem Evolves.codeErrorsOn {i n} (h : Evolves s a) : Evolves s (a.codeErrorsOn i n) :=
  .ite h.count.noteErrors h.count

theorem Evolves.enqueue {i f fwd rx cut} (h : Evolves s a) : Evolves s (a.enqueue i f fwd rx cut) :=
  .ite h h.modLane.count

theorem Evolves.takeSeq {typ src dst} (h : Evolves s a) : Evolves s (a.takeSeq typ src dst).2 :=
  h.set

theorem Evolves.sendOn {typ q up dst payload} (h : Evolves s a) : Evolves s (a.sendOn typ q up dst payload) :=
  .ite h h.takeSeq.enqueue

theorem Evolves.sendEverywhere {typ payload} (h : Evolves s a) : Evolves s (a.sendEverywhere typ payload) :=
  h.sendOn.sendOn.sendOn.sendOn

theorem Evolves.ignored (h : Evolves s a) : Evolves s a.ignored :=
  h.count

theorem Evolves.heard {f} (h : Evolves s a) : Evolves s (a.heard f) :=
  .ite h.wrBit.modSlots h

theorem Evolves.received {f} (h : Evolves s a) : Evolves s (a.received f) :=
  h.count.heard

theorem Evolves.frameRow {f act} (h : Evolves s a) (hact : ∀ b, Evolves s b → Evolves s (act b)) :
    Evolves s (a.frameRow f act) :=
  .ite (hact _ h.received) h

theorem Evolves.sendReliable {typ dst payload} (h : Evolves s a) :
    Evolves s (a.sendReliable typ dst payload) := by
  unfold State.sendReliable
  split
  · exact h
  · exact .ite h.takeSeq.set h.takeSeq.set.enqueue

theorem Evolves.sendSafe {cause source} (h : Evolves s a) : Evolves s (a.sendSafe cause source) :=
  h.sendEverywhere

theorem Evolves.sendEvents (h : Evolves s a) : Evolves s a.sendEvents := by
  refine .ite h ?_
  split
  · exact h
  · exact .ite h h.sendOn.set

/-! #### Clocks and calibration (spec/03) -/

theorem Evolves.acqSource (h : Evolves s a) : Evolves s a.acqSource :=
  h.levelSrc

theorem Evolves.lock {p counts} (h : Evolves s a) : Evolves s (a.lock p counts) := by
  unfold State.lock
  refine .ite h ?_
  extract_lets cycles s0 ssc st s1 clk s2 s3 s4 clk' q wake
  have h3 : Evolves s s3 := h.advanceTo.toRefEdge.wrAll.set.deassertSrc.acqSource
  have hwake {b i} (h : Evolves s b) : Evolves s (wake b i) := .ite h.setLane h
  exact .ite h3.wrBit.wrBit.set (hwake (hwake h3))

theorem Evolves.reacquire {p} (h : Evolves s a) : Evolves s (a.reacquire p) :=
  .ite h.acquire (.ite h.acquire.hatchFalls h.acquire)

theorem Evolves.lockLost {p e} (h : Evolves s a) : Evolves s (a.lockLost p e) :=
  .ite h.advanceTo.countSat.assertSrc.reacquire h

theorem Evolves.acqLate {p} (h : Evolves s a) : Evolves s (a.acqLate p) := by
  unfold State.acqLate
  split
  · exact h
  · exact h.advanceTo.wrBit.set.acqSource

theorem Evolves.idle (h : Evolves s a) : Evolves s a.idle :=
  .ite h (.ite h.advance (.ite h.advance h.advance.set))

theorem Evolves.refLost {edges} (h : Evolves s a) : Evolves s (a.refLost edges) :=
  .ite h (.forFin (.set (.assertSrc (.ite h.toRefEdge h))) fun _ _ h => .ite h.wrBit.reacquire h.wrBit)

theorem Evolves.refPresent {counts} (h : Evolves s a) : Evolves s (a.refPresent counts) :=
  .ite h (.deassertSrc (.forFin (.forFin h.toRefEdge.set fun _ _ h => .ite h.wrBit h.wrBit.acquire)
    fun _ _ h => .ite h.wrBit.wrBit.set h))

theorem Evolves.oscCheck {cycles} (h : Evolves s a) : Evolves s (a.oscCheck cycles) :=
  .ite h h.levelSrc.set

theorem Evolves.calSource (h : Evolves s a) : Evolves s a.calSource :=
  h.wrBit.levelSrc

theorem Evolves.modLine {l f} (h : Evolves s a) : Evolves s (a.modLine l f) :=
  h.set

theorem Evolves.measureLine {l plausible elements} (h : Evolves s a) :
    Evolves s (a.measureLine l plausible elements) :=
  .ite h (.ite h.advanceTo.set.modLine.wrBit.set.wr.count.wrBit.calSource
    h.advanceTo.set.modLine.wrBit.set.calSource)

theorem Evolves.applyLine {l} (h : Evolves s a) : Evolves s (a.applyLine l) :=
  .ite h.advanceTo.modLine h

/-! #### The measurement front end (spec/06) -/

theorem Evolves.modAdc {a' f} (h : Evolves s a) : Evolves s (a.modAdc a' f) :=
  h.set

theorem Evolves.modStream {n f} (h : Evolves s a) : Evolves s (a.modStream n f) :=
  h.set

theorem Evolves.modDriver {d f} (h : Evolves s a) : Evolves s (a.modDriver d f) :=
  h.set

theorem Evolves.putResult {k value raw ns flags} (h : Evolves s a) :
    Evolves s (a.putResult k value raw ns flags) :=
  h.wr

theorem Evolves.clearFresh {k} (h : Evolves s a) : Evolves s (a.clearFresh k) :=
  h.wrBit

theorem Evolves.putCode {ch code ns late urgent} (h : Evolves s a) :
    Evolves s (a.putCode ch code ns late urgent) :=
  h.putResult.set

theorem Evolves.seqStart {a'} (h : Evolves s a) : Evolves s (a.seqStart a') :=
  .ite h.count.wrBit (.modAdc (.foldl h fun _ _ h => h.wr))

theorem Evolves.seqTrigger {a'} (h : Evolves s a) : Evolves s (a.seqTrigger a') := by
  refine .ite h ?_
  split
  · exact h
  · exact .ite h.take h.take.seqStart

theorem Evolves.nextEntry {a'} (h : Evolves s a) : Evolves s (a.nextEntry a') := by
  dsimp only [State.nextEntry]
  split
  · exact h
  · exact .ite h (.ite h.modAdc (.foldl h.modAdc fun _ _ h => h.wrBit))

theorem Evolves.holdEntry {a' entry late last} (h : Evolves s a) : Evolves s (a.holdEntry a' entry late last) :=
  .ite h.modAdc.wrBit h

theorem Evolves.holdTable {a' o r} (h : Evolves s a) : Evolves s (a.holdTable a' o r) :=
  .nextEntry (.foldl h.advanceTo.modAdc fun _ _ h => h.holdEntry)

theorem Evolves.adcHold {a'} (h : Evolves s a) : Evolves s (a.adcHold a') := by
  refine .ite h ?_
  split
  · exact h.advanceTo.modAdc
  · split
    · exact .ite h h.holdTable
    · split
      · exact .ite h h.advanceTo.modAdc
      · exact h

theorem Evolves.request {rank ch} (h : Evolves s a) : Evolves s (a.request rank ch) := by
  refine .ite h ?_
  dsimp only
  split
  · exact h.modAdc
  · exact .ite h.count h.modAdc

theorem Evolves.restartRun {o hold cut} (h : Evolves s a) : Evolves s (a.restartRun o hold cut) := by
  unfold State.restartRun
  split
  · exact h
  · exact .ite h.modAdc h

theorem Evolves.urgentStart {a'} (h : Evolves s a) : Evolves s (a.urgentStart a') := by
  refine .ite h ?_
  split
  · exact h
  · exact .restartRun (.modAdc (.foldl h fun _ _ h => h.modAdc))

theorem Evolves.setAdcs {v} (h : Evolves s a) : Evolves s (a.setAdcs v) :=
  .forFin h.wr fun _ _ h => .ite h h.modAdc

theorem Evolves.setPairs {v} (h : Evolves s a) : Evolves s (a.setPairs v) :=
  .forFin h.wr fun _ _ h => .ite h h.modAdc.wrBit

theorem Evolves.nextTest {a'} (h : Evolves s a) : Evolves s (a.nextTest a') := by
  unfold State.nextTest
  split <;> exact h.modAdc

theorem Evolves.requeue {a' q} (h : Evolves s a) : Evolves s (a.requeue a' q) :=
  .ite h (.ite h.count h.modAdc)

theorem Evolves.leaveTest {a'} (h : Evolves s a) : Evolves s (a.leaveTest a') :=
  h.modAdc.nextTest

theorem Evolves.rehome {ch new} (h : Evolves s a) : Evolves s (a.rehome ch new) := by
  unfold State.rehome
  extract_lets old home me mine testing s1 s2 s3
  refine .ite h ?_
  have h2 : Evolves s s2 := .foldl (.ite h.modAdc.leaveTest h.modAdc) fun _ _ h => h.requeue
  exact .ite (.ite h2.modAdc.nextTest h2.modAdc) h2

theorem Evolves.wireEnds (h : Evolves s a) : Evolves s a.wireEnds :=
  .ite h (.wr (.foldl h.orBits.orBits fun _ _ h => h.wrBit.raise))

theorem Evolves.wireStart {mask} (h : Evolves s a) : Evolves s (a.wireStart mask) :=
  .wireEnds (.forFin h.clrBits.clrBits.wr.set fun _ _ h => h.modAdc.nextTest)

theorem Evolves.wireAbort (h : Evolves s a) : Evolves s a.wireAbort :=
  .wr (.forFin h fun _ _ h => h.modAdc)

theorem Evolves.wireReference {a' code ended} (h : Evolves s a) : Evolves s (a.wireReference a' code ended) :=
  h.modAdc

theorem Evolves.wireSettled {a' code} (h : Evolves s a) : Evolves s (a.wireSettled a' code) := by
  unfold State.wireSettled
  split
  · exact h
  · split
    · exact h
    · exact .ite h.advanceTo.advance.modAdc.modAdc h.advanceTo.advance.modAdc.set.nextTest.wireEnds

theorem Evolves.sensorCode {ch code sec} (h : Evolves s a) : Evolves s (a.sensorCode ch code sec) := by
  unfold State.sensorCode
  extract_lets n
  split
  · exact h.modSensor
  · exact h

theorem Evolves.adcResult {a' code} (h : Evolves s a) : Evolves s (a.adcResult a' code) := by
  unfold State.adcResult
  split
  · exact h
  · dsimp only
    split
    · exact .ite h.freeIn.advanceTo.modAdc.putCode.nextEntry.emitSync
        h.freeIn.advanceTo.modAdc.putCode.nextEntry
    · exact .ite h.freeIn.advanceTo.modAdc.putCode.sensorCode h.freeIn.advanceTo.modAdc.putCode
    · exact h.freeIn.advanceTo.modAdc.wireReference

theorem Evolves.windowActs {ch high} (h : Evolves s a) : Evolves s (a.windowActs ch high) := by
  dsimp only [State.windowActs]
  split
  · exact .evalTrip (.ite h.wrBit.assertSrc.request h.wrBit.assertSrc)
  · exact .forFin (.ite h.wrBit.assertSrc.request h.wrBit.assertSrc) fun _ _ h => h.evalTrip

theorem Evolves.windowTrip {ch high x} (h : Evolves s a) : Evolves s (a.windowTrip ch high x) :=
  .ite h (.ite h.set.windowActs h.set)

theorem Evolves.windowEnds {ch high} (h : Evolves s a) : Evolves s (a.windowEnds ch high) := by
  refine .ite h (.ite h.set (.ite h.set.levelSrc ?_))
  split
  · exact h.set.levelSrc.tripEnds
  · exact .forFin h.set.levelSrc fun _ _ h => h.tripEnds

theorem Evolves.windowRelease {ch high x} (h : Evolves s a) : Evolves s (a.windowRelease ch high x) :=
  .ite h.windowEnds h

theorem Evolves.refill {n} (h : Evolves s a) : Evolves s (a.refill n) :=
  h.wrBit.modStream

theorem Evolves.restartStream {n} (h : Evolves s a) : Evolves s (a.restartStream n) :=
  h.wrBit.modStream

theorem Evolves.restartDsck {c} (h : Evolves s a) : Evolves s (a.restartDsck c) :=
  .forFin h.set fun _ _ h => h.restartStream

theorem Evolves.alignEvent {n} (h : Evolves s a) : Evolves s (a.alignEvent n) := by
  dsimp only [State.alignEvent]
  split
  · exact h
  · exact .ite h.take.take (.ite h.take.take.wrBit h.take.take.modStream)

theorem Evolves.countCharge {n v} (h : Evolves s a) : Evolves s (a.countCharge n v) :=
  .ite h h.set

theorem Evolves.dropWindow {n} (h : Evolves s a) : Evolves s (a.dropWindow n) :=
  h.modStream

theorem Evolves.mainResult {n bits x0 x1} (h : Evolves s a) : Evolves s (a.mainResult n bits x0 x1) := by
  unfold State.mainResult
  refine .ite h ?_
  split
  · exact .ite h.refill h.dropWindow
  · have hf := h.freeIn (lo := 16) (hi := 31)
    generalize a.freeIn 16 31 = p at hf ⊢
    exact hf.advanceTo.dropWindow.modStream.putResult.wrBit.wrBit.countCharge.emitSync

theorem Evolves.streamSource {n} (h : Evolves s a) : Evolves s (a.streamSource n) :=
  h.levelSrc

theorem Evolves.setFast {n hi lo} (h : Evolves s a) : Evolves s (a.setFast n hi lo) :=
  .ite h.wrBit.wrBit.streamSource.evalTrip (.ite h.wrBit.wrBit.streamSource.tripEnds h.wrBit.wrBit.streamSource)

theorem Evolves.fastTrip {n bits} (h : Evolves s a) : Evolves s (a.fastTrip n bits) :=
  .ite h.setFast h

theorem Evolves.fastRelease {n bits} (h : Evolves s a) : Evolves s (a.fastRelease n bits) :=
  .ite h.setFast h

theorem Evolves.setStreamFault {n b} (h : Evolves s a) : Evolves s (a.setStreamFault n b) :=
  .streamSource (.modStream (.ite h.wrBit.wrBit h.wrBit))

theorem Evolves.stopStreams (h : Evolves s a) : Evolves s a.stopStreams :=
  .forFin h.set fun _ _ h => h.setFast.wrBit.streamSource.restartStream

theorem Evolves.streamFault {n bits} (h : Evolves s a) : Evolves s (a.streamFault n bits) :=
  .ite h.setStreamFault h

theorem Evolves.streamClean {n bits} (h : Evolves s a) : Evolves s (a.streamClean n bits) :=
  .ite h.setStreamFault.refill h

theorem Evolves.stopTables (h : Evolves s a) : Evolves s a.stopTables :=
  .wireAbort (.forFin h fun _ _ h => h.modAdc.wrBit)

theorem Evolves.driverPeriod {d period high} (h : Evolves s a) : Evolves s (a.driverPeriod d period high) :=
  .ite h h.modDriver.wr.wrBit.reschedule

theorem Evolves.lowIsFault {d low} (h : Evolves s a) : Evolves s (a.lowIsFault d low).2 :=
  .iteSnd h (.iteSnd h (.iteSnd h h.freeVal))

theorem Evolves.faultActs {d} (h : Evolves s a) : Evolves s (a.faultActs d) :=
  h.wrBit.assertSrc.evalTrip

theorem Evolves.setDf {d low} (h : Evolves s a) : Evolves s (a.setDf d low) :=
  h.set

theorem Evolves.driverFault {d low} (h : Evolves s a) : Evolves s (a.driverFault d low) :=
  .ite h.setDf (.ite h.setDf.lowIsFault.faultActs h.setDf.lowIsFault)

theorem Evolves.driverFaultEnds {d} (h : Evolves s a) : Evolves s (a.driverFaultEnds d) :=
  .ite h.setDf h.setDf.wrBit.deassertSrc.tripEnds

theorem Evolves.driverInvalid {d high} (h : Evolves s a) : Evolves s (a.driverInvalid d high) :=
  .ite h.wrBit h

theorem Evolves.driverBegins {d} (h : Evolves s a) : Evolves s (a.driverBegins d) :=
  h.modDriver

theorem Evolves.driverMode {d} (h : Evolves s a) : Evolves s (a.driverMode d) :=
  h.driverBegins.modDriver

theorem Evolves.restartClocks (h : Evolves s a) : Evolves s a.restartClocks :=
  .forFin h fun _ _ h => h.restartDsck

theorem Evolves.fitCell {c} (h : Evolves s a) : Evolves s (a.fitCell c) :=
  .evalCell (.forFin (.foldl (.forFin h.modGuard fun _ _ h => .ite h.driverMode (.ite h.faultActs h))
    fun _ _ h => .ite h.windowActs h) fun _ _ h => h.restartStream)

theorem Evolves.unfitCell {c} (h : Evolves s a) : Evolves s (a.unfitCell c) :=
  .applyCell (.modGuard (.wrBit (.deassertSrc
    (.forFin h fun _ _ h => h.wr.wrBit.deassertSrc.setFast.setStreamFault))))

theorem Evolves.setFitted {mask} (h : Evolves s a) : Evolves s (a.setFitted mask) :=
  .forFin h.wr fun _ _ h => .ite h.fitCell (.ite h.unfitCell h)

/-! #### Retry of frames (spec/14) -/

theorem Evolves.answer {typ f seq} (h : Evolves s a) : Evolves s (a.answer typ f seq) :=
  h.sendOn

theorem Evolves.acceptSeq {f} (h : Evolves s a) : Evolves s (a.acceptSeq f).2 :=
  .iteSnd h.answer.set (.iteSnd h.answer h.answer)

theorem Evolves.resend {u} (h : Evolves s a) : Evolves s (a.resend u) :=
  h.set.enqueue.count

theorem Evolves.nextWaiting {f} (h : Evolves s a) : Evolves s (a.nextWaiting f) := by
  dsimp only [State.nextWaiting]
  split
  · exact h.set
  · exact h.set.set.enqueue

/-! #### The NV store (spec/19) -/

theorem Evolves.modNv {f : NvSt → NvSt} (h : Evolves s a)
    (hf : ∀ n, memWf n.oem = true → memWf (f n).oem = true := by exact fun _ hn => hn) :
    Evolves s (a.modNv f) :=
  h.trans ⟨rfl, le_rfl, id, id, hf a.nv, id⟩

theorem Evolves.commitDict {bank} (h : Evolves s a) : Evolves s (a.commitDict bank) :=
  h.modNv.wrAll

theorem Evolves.modJobs {f} (h : Evolves s a) : Evolves s (a.modJobs f) :=
  h.set

theorem Evolves.portWrite {j} (h : Evolves s a) : Evolves s (a.portWrite j) := by
  unfold State.portWrite
  split
  · exact h.modNv
  · exact h.modNv.wr
  · exact h.modNv fun _ hn => memWriteBytes_wf _ _ _ hn

theorem Evolves.portRequest {j} (h : Evolves s a) : Evolves s (a.portRequest j) :=
  .ite h.modJobs h.portWrite

theorem Evolves.portServe (h : Evolves s a) : Evolves s a.portServe :=
  .ite h (.foldl h.modJobs fun _ _ h => h.portWrite)

theorem Evolves.storeStart (h : Evolves s a) : Evolves s a.storeStart :=
  h.modJobs.modNv.wrBit

theorem Evolves.storeEnds {result} (h : Evolves s a) : Evolves s (a.storeEnds result) :=
  h.modJobs.wrBit.wr

theorem Evolves.storeTick {j} (h : Evolves s a) : Evolves s (a.storeTick j).2 :=
  h.freeIn

theorem Evolves.storeDone {ok} (h : Evolves s a) : Evolves s (a.storeDone ok) := by
  unfold State.storeDone
  split
  · exact h
  · exact .ite h (.ite h.storeTick.advanceTo.modNv.commitDict.storeEnds.wrAll.modJobs h.storeEnds.raise)

theorem Evolves.storeDefaults (h : Evolves s a) : Evolves s a.storeDefaults :=
  h.commitDict

theorem Evolves.oemWrite {data} (h : Evolves s a) : Evolves s (a.oemWrite data) :=
  h.portRequest

theorem Evolves.modIdle {f} (h : Evolves s a) : Evolves s (a.modIdle f) :=
  h.modNv

theorem Evolves.fwState {phase result} (h : Evolves s a) : Evolves s (a.fwState phase result) :=
  h.wrAll

theorem Evolves.modInstall {f} (h : Evolves s a) : Evolves s (a.modInstall f) :=
  h.set

theorem Evolves.fwDrop (h : Evolves s a) : Evolves s a.fwDrop :=
  h.modJobs.modInstall

theorem Evolves.fwStage {size} (h : Evolves s a) : Evolves s (a.fwStage size) :=
  h.fwDrop.portRequest.wr.wr.modInstall

theorem Evolves.fwBytes {d} (h : Evolves s a) : Evolves s (a.fwBytes d) :=
  h.portRequest

theorem Evolves.fwFail {result} (h : Evolves s a) : Evolves s (a.fwFail result) :=
  h.fwDrop.modIdle.fwState.modInstall

theorem Evolves.fwStaged (h : Evolves s a) : Evolves s a.fwStaged.2 :=
  .iteSnd (.iteSnd h.freeVal.wr h.freeVal.fwFail) h

theorem Evolves.fwChecked (h : Evolves s a) : Evolves s a.fwChecked :=
  .ite h (.ite h.freeIn.advanceTo.modIdle.fwState h.freeIn.advanceTo.fwFail.raise)

theorem Evolves.fwActivate {reply} (h : Evolves s a) : Evolves s (a.fwActivate reply) :=
  h.wr.modInstall

theorem Evolves.fwSwitch (h : Evolves s a) : Evolves s a.fwSwitch := by
  unfold State.fwSwitch
  exact h.modNv.modInstall

theorem Evolves.selectBank (h : Evolves s a) : Evolves s a.selectBank :=
  .ite h.modNv.modInstall (.ite h.modNv.modInstall.wrBit.raise h.modNv.modInstall.raise.set)

theorem Evolves.reloadBank (h : Evolves s a) : Evolves s a.reloadBank.2 :=
  .iteSnd h (.iteSnd h.modInstall.wrBit.raise h.raise)

theorem Evolves.fwReset {phase} (h : Evolves s a) : Evolves s (a.fwReset phase) :=
  .ite h.modJobs.modInstall.fwState
    (.ite h.modJobs.modInstall.modIdle.fwState
    (.ite h.modJobs.modInstall.wr (.ite h.modJobs.modInstall.fwState h.modJobs.modInstall)))

/-! #### The message objects (spec/16) -/

theorem Evolves.modCan {u f} (h : Evolves s a) : Evolves s (a.modCan u f) :=
  h.set

theorem Evolves.modMsg {u n f} (h : Evolves s a) : Evolves s (a.modMsg u n f) :=
  h.modCan

theorem Evolves.setupSystem (h : Evolves s a) : Evolves s a.setupSystem := by
  refine .forFin h fun _ _ h => ?_
  refine .foldl h fun _ _ h => ?_
  split <;> exact h.modMsg

/-! #### Bring-up and enumeration (spec/13) -/

theorem Evolves.offerLease (h : Evolves s a) : Evolves s a.offerLease :=
  .forFin h fun _ _ h => .ite h.sendOn h

theorem Evolves.updPsel (h : Evolves s a) : Evolves s a.updPsel :=
  .ite h.wrBit.set.offerLease h.wrBit

theorem Evolves.startLane {i} (h : Evolves s a) : Evolves s (a.startLane i) :=
  .ite h.setLane.wr (.ite h (.ite h.wr.setLane h.wr.setLane))

theorem Evolves.wakeRun (h : Evolves s a) : Evolves s a.wakeRun :=
  .ite h.putLine h

theorem Evolves.enterHatch {fromCocoon} (h : Evolves s a) : Evolves s (a.enterHatch fromCocoon) := by
  unfold State.enterHatch
  extract_lets cfg t wasG0 s1 hatch s2 s3 s4 s5
  have h4 : Evolves s s4 := .forFin h.enterDev.set.wr.wr fun _ _ h =>
    .startLane (.startLane (.modPath (.ite h.modPath h.modPath.restartPath)))
  have h5 : Evolves s s5 := .ite h4.wakeRun h4
  exact .updPsel (.reschedule (.forFin h5 fun _ _ h => h.modSensor))

theorem Evolves.enumDown {q m} (h : Evolves s a) : Evolves s (a.enumDown q m) :=
  h.sendOn

theorem Evolves.enumUp {q m} (h : Evolves s a) : Evolves s (a.enumUp q m) :=
  h.sendOn

theorem Evolves.assignFromManager {q sub} (h : Evolves s a) : Evolves s (a.assignFromManager q sub) :=
  h.enumDown

theorem Evolves.endScan {q} (h : Evolves s a) : Evolves s (a.endScan q) :=
  .ite h h.modPath.laneSources.laneSources

theorem Evolves.completeHatch (h : Evolves s a) : Evolves s a.completeHatch :=
  .ite h (.updPsel (.hatchEnds (.setupSystem
    (.wr (.set (.forFin h.wrAll.wrBit.set fun _ _ h => h.endScan.modPath))))))

theorem Evolves.finishEnum (h : Evolves s a) : Evolves s a.finishEnum :=
  .completeHatch (.forFin h fun _ _ h => h.enumDown.modPath)

theorem Evolves.afterEnumerated (h : Evolves s a) : Evolves s a.afterEnumerated :=
  .ite (.ite h.finishEnum (.ite h h.set)) h

theorem Evolves.laneLost {i up cause} (h : Evolves s a) : Evolves s (a.laneLost i up cause) :=
  .ite (.hatchFalls (.ite h h.releaseOn.updRevert)) (.ite h h.releaseOn.updRevert)

theorem Evolves.los {i peak ticks} (h : Evolves s a) : Evolves s (a.los i peak ticks) :=
  .ite h (.laneLost (.ite h.count.wr.laneSources h.count.wr.setLane))

theorem Evolves.losEnds {i least ticks} (h : Evolves s a) : Evolves s (a.losEnds i least ticks) :=
  .ite h (.ite h.wrBit.setLane h.wrBit.laneSources)

theorem Evolves.lol {i why} (h : Evolves s a) : Evolves s (a.lol i why) := by
  unfold State.lol
  refine .ite h ?_
  extract_lets up s1 broken s2 s4
  have h1 : Evolves s s1 := h.count.wrBit
  have h2 : Evolves s s2 := by
    unfold s2
    split
    · exact h1.wrBit.count.modLane
    · exact h1.wrBit
    · exact h1.codeErrorsOn
    · exact h1.codeErrorsOn
  exact .laneLost (.ite h2.laneSources h2.setLane)

theorem Evolves.aligned {i} (h : Evolves s a) : Evolves s (a.aligned i) := by
  unfold State.aligned
  have hf := h.freeIn (lo := 13) (hi := 31)
  generalize a.freeIn 13 31 = p at hf ⊢
  exact .ite h hf.modLane.wrBit.wrBit.setLane

theorem Evolves.cdrLocked {i} (h : Evolves s a) : Evolves s (a.cdrLocked i) :=
  .ite h.wrBit h

theorem Evolves.commaAlign {i commas} (h : Evolves s a) : Evolves s (a.commaAlign i commas) :=
  .ite h (.ite h.aligned h.cdrLocked)

theorem Evolves.slipTest {i headers} (h : Evolves s a) : Evolves s (a.slipTest i headers) := by
  unfold State.slipTest
  have hf := h.freeIn (lo := 1538) (hi := 3125)
  generalize a.freeIn 1538 3125 = p at hf ⊢
  exact .ite h (.ite hf.advanceTo.modLane.aligned hf.advanceTo.modLane.cdrLocked.wr)

theorem Evolves.reachedUp {i} (h : Evolves s a) : Evolves s (a.reachedUp i) := by
  unfold State.reachedUp
  extract_lets q p s0 b s1 s2
  have h0 : Evolves s s0 := .ite h.healthUnknown h
  have h1 : Evolves s s1 := .ite h0.modPath.laneSources.laneSources h0
  have h2 : Evolves s s2 := .ite h1 h1.endScan.modPath
  refine .ite h2 (.ite (.ite h2 ?_) (.ite ?_ h2))
  · split
    · exact h2.wrBit.modPath.assignFromManager
    · exact .ite h2.modPath.assignFromManager h2
  · split
    · exact h2.enumDown
    · exact h2

theorem Evolves.blockIn {i x} (h : Evolves s a) : Evolves s (a.blockIn i x).2 :=
  h.codeErrorsOn

theorem Evolves.train {i tflags position uid} (h : Evolves s a) : Evolves s (a.train i tflags position uid) :=
  .ite h (.ite (.ite (.reachedUp (.setLane (.modLane (.ite h.wrAll.wrBit h.wrAll))))
    (.modLane (.ite h.wrAll.wrBit h.wrAll))) (.ite h.modLane.wrBit h.modLane))

theorem Evolves.trainBlock {i x} (h : Evolves s a) : Evolves s (a.trainBlock i x) := by
  refine .ite h ?_
  have hb := h.blockIn (i := i) (x := x)
  generalize a.blockIn i x = p at hb ⊢
  split
  · exact hb.train
  · exact hb
  · exact hb.modLane

theorem Evolves.fillerIn {i drift x} (h : Evolves s a) : Evolves s (a.fillerIn i drift x) := by
  refine .ite h ?_
  have hb := h.blockIn (i := i) (x := x)
  generalize a.blockIn i x = p at hb ⊢
  split
  · exact .ite hb.modLane.count hb.modLane
  · exact hb.modLane

theorem Evolves.fillerFill {i drift} (h : Evolves s a) : Evolves s (a.fillerFill i drift) :=
  .ite h h.modLane.count

theorem Evolves.fillerOut {i} (h : Evolves s a) : Evolves s (a.fillerOut i) :=
  .ite h h.advanceTo.modLane.putLine

theorem Evolves.enumDelay (h : Evolves s a) : Evolves s a.enumDelay := by
  unfold State.enumDelay
  split
  · exact h
  · exact .ite h.advanceTo.set h.advanceTo.set.assignFromManager.assignFromManager

theorem Evolves.runningPartner {q rate} (h : Evolves s a) : Evolves s (a.runningPartner q rate).2 :=
  .iteSnd h (.iteSnd h (.iteSnd h.freeVal h))

theorem Evolves.takeAssign {q b sub} (h : Evolves s a) : Evolves s (a.takeAssign q b sub) := by
  unfold State.takeAssign
  refine .ite h ?_
  extract_lets m
  have hp : Evolves s (if sub = 0 && a.dev == 1 && a.laneRate (uLane q) == 0 then a.runningPartner q m.rate
      else (false, a)).2 := .iteSnd h.runningPartner h
  generalize (if sub = 0 && a.dev == 1 && a.laneRate (uLane q) == 0 then a.runningPartner q m.rate
      else (false, a)) = p at hp ⊢
  have h1 := (hp.endScan (q := q)).modPath (q := q) (f := fun p => { p with assigned := true })
  exact .ite h1.set.wrBit.enumUp (.ite h1.set.wr.wr.modPath.enumUp
    (.ite h1.set.wr.enumUp (.ite h1.set.wr.enumDown h1.set.wr.enumUp)))

theorem Evolves.takeEnd {q b} (h : Evolves s a) : Evolves s (a.takeEnd q b) := by
  unfold State.takeEnd
  refine .ite h ?_
  extract_lets m s0 s1 r s2 s3 s4
  have h1 : Evolves s s1 := .ite h.wr.wrBit.wrBit h.wr.wrBit
  have h2 : Evolves s s2 := h1.wr
  exact .ite h1.modPath.wrBit.afterEnumerated
    (.ite h2.wrBit.afterEnumerated h2.enumDown.modPath.laneSources.laneSources)

theorem Evolves.takeRateStep {q b} (h : Evolves s a) : Evolves s (a.takeRateStep q b) :=
  .ite h h.wr.wrBit.enumDown.modPath.laneSources.laneSources

theorem Evolves.stepPll {q} (h : Evolves s a) : Evolves s (a.stepPll q) := by
  unfold State.stepPll
  split
  · exact h
  · exact .ite h.modPath h.advanceTo.modPath.restartPath

theorem Evolves.stepLate {q} (h : Evolves s a) : Evolves s (a.stepLate q) := by
  unfold State.stepLate
  split
  · exact h
  · exact .ite h.advanceTo.modPath h.advanceTo.modPath.fallBack

theorem Evolves.takeDone {q b} (h : Evolves s a) : Evolves s (a.takeDone q b) := by
  unfold State.takeDone
  refine .ite h ?_
  extract_lets m s1 s2 s3 s4
  have h3 : Evolves s s3 := .modPath (.wrBit (.wrAll (.ite h.modPath h.enumDown)))
  have h4 : Evolves s s4 := .ite h3.wrBit.raise h3
  exact .ite h4.completeHatch.pathSources h3

theorem Evolves.doneTo {pos} (h : Evolves s a) : Evolves s (a.doneTo pos) :=
  .forFin h.set fun _ _ h => h.sendOn

theorem Evolves.yWaitEnds (h : Evolves s a) : Evolves s a.yWaitEnds := by
  unfold State.yWaitEnds
  split
  · dsimp only
    split
    · exact h.advanceTo.doneTo
    · exact h
  · exact .ite h.advanceTo.set.finishEnum h.advanceTo.set

theorem Evolves.roleConflict {pos} (h : Evolves s a) : Evolves s (a.roleConflict pos) := by
  refine .ite h (.updPsel (.set ?_))
  split
  · exact h.wrBit.wr
  · exact h.wrBit

theorem Evolves.takeJoin {q b} (h : Evolves s a) : Evolves s (a.takeJoin q b) :=
  .ite h (.ite h.wr.count.set.set.doneTo h.wr.count.set.set)

theorem Evolves.dwellEnds {q} (h : Evolves s a) : Evolves s (a.dwellEnds q) := by
  unfold State.dwellEnds
  split
  · exact .ite h.advanceTo.endScan h.advanceTo.modPath.restartPath
  · exact h

theorem Evolves.wakeRepeat (h : Evolves s a) : Evolves s a.wakeRepeat := by
  unfold State.wakeRepeat
  split
  · exact .ite h.advanceTo.set h.advanceTo.set.wakeRun
  · exact h

theorem Evolves.enumRow {i act} (h : Evolves s a) (hact : ∀ b, Evolves s b → Evolves s (act b)) :
    Evolves s (a.enumRow i act) :=
  .ite (hact _ h.count) h

/-! #### Firings (spec/18) -/

theorem Evolves.modCapture {f : CaptureSt → CaptureSt} (h : Evolves s a)
    (hf : ∀ c, memWf c.mem = true → memWf (f c).mem = true := by exact fun _ hc => hc) :
    Evolves s (a.modCapture f) :=
  h.trans ⟨rfl, le_rfl, id, id, id, hf a.capture⟩

theorem Evolves.fireCond {k instant} (h : Evolves s a) : Evolves s (a.fireCond k instant) :=
  .ite h.wrBit.modCapture h.wrBit

theorem Evolves.fireKind {kind accepts instant} (h : Evolves s a) :
    Evolves s (a.fireKind kind accepts instant) :=
  .forFin h fun _ _ h => .ite h.fireCond h

/-! #### Network time (spec/14) -/

theorem Evolves.setNet {u} (h : Evolves s a) : Evolves s (a.setNet u) := by
  have hn : Evolves a { a with net := netOf u } := ⟨rfl, le_rfl, fun _ => netOf_acc_lt u, id, id, id⟩
  exact (h.trans hn).rebaseNet.count

theorem Evolves.stepNet {d} (h : Evolves s a) (ht : a.stepNet d = some t) : Evolves s t := by
  unfold State.stepNet at ht
  simp only [Option.ite_none_left_eq_some, Option.some.injEq] at ht
  obtain ⟨-, rfl⟩ := ht
  exact h.setNet

theorem Evolves.hostStep {d} (h : Evolves s a) (ht : a.hostStep d = some t) : Evolves s t := by
  unfold State.hostStep at ht
  extract_lets b at ht
  split at ht
  · obtain ⟨-, -, rfl⟩ := Option.map_eq_some_iff.mp ht
    exact h.advance.count
  · exact h.advance.stepNet ht

theorem Evolves.timeSync {f mode} (h : Evolves s a) : Evolves s (a.timeSync f mode) :=
  .ite h (.ite h.ignored (.ite h.wr.setNet.set (.ite (h.wr.getD fun _ => h.wr.stepNet) h.wr)))

theorem Evolves.exchangeDue (h : Evolves s a) : Evolves s a.exchangeDue := by
  refine .ite h ?_
  split
  · exact h
  · exact h.advanceTo.sendOn.set

theorem Evolves.delayReq {f rx} (h : Evolves s a) : Evolves s (a.delayReq f rx) :=
  .ite h h.enqueue

theorem Evolves.judgeConverged (h : Evolves s a) : Evolves s a.judgeConverged :=
  h.wr

theorem Evolves.delayResp {f rx} (h : Evolves s a) : Evolves s (a.delayResp f rx) := by
  refine .ite h ?_
  split
  · exact .ite h (.ite h.wrAll.set.judgeConverged.set.sendOn h.wrAll.set.judgeConverged)
  · exact h

theorem Evolves.tsyncHigh (h : Evolves s a) : Evolves s a.tsyncHigh :=
  h.set

theorem Evolves.fire {k} (h : Evolves s a) : Evolves s (a.fire k) := by
  unfold State.fire
  refine .ite h ?_
  extract_lets u s0 s1 late st s2 s3 per n t m s4 s5
  have h3 : Evolves s s3 := .forFin h.advance.emit.wr.count fun _ _ h => .ite h.reanchor h
  have h4 : Evolves s s4 := .ite h3.wrBit h3.wr.count
  exact .ite h4.fireKind.tsyncHigh h4.fireKind

theorem Evolves.tsyncStart (h : Evolves s a) : Evolves s a.tsyncStart :=
  .ite h.advance.tsyncHigh h

theorem Evolves.tsyncFall (h : Evolves s a) : Evolves s a.tsyncFall := by
  unfold State.tsyncFall
  split
  · exact h
  · exact h.advanceTo.set

/-! #### Capture (spec/18) -/

theorem Evolves.ceqMark (h : Evolves s a) : Evolves s a.ceqMark :=
  h.modCapture

theorem Evolves.ceqRewind (h : Evolves s a) : Evolves s a.ceqRewind :=
  h.modCapture

theorem Evolves.ceqRelease (h : Evolves s a) : Evolves s a.ceqRelease :=
  h.modCapture

theorem Evolves.underrun (h : Evolves s a) : Evolves s a.underrun :=
  .ite h.wrBit.count h.wrBit.count.raise

theorem Evolves.ceqRead {n} (h : Evolves s a) : Evolves s (a.ceqRead n).2 := by
  unfold State.ceqRead
  exact .iteSnd h.underrun (.snd h.modCapture)

theorem Evolves.trackSample {t k instant} (h : Evolves s a) : Evolves s (a.trackSample t k instant).2 := by
  unfold State.trackSample
  split
  · exact h
  · dsimp only
    split
    · exact .snd h.modCapture
    · exact .snd (.forFin h.modCapture.wr fun _ _ h => .ite (.ite h.modCapture.fireCond h.modCapture) h)

theorem Evolves.sampleAt {exact} (h : Evolves s a) : Evolves s (a.sampleAt exact) := by
  unfold State.sampleAt
  refine .ite h (.ite h.count ?_)
  extract_lets k inst
  split
  rename_i hs s1 hfold
  have hf : Evolves s (hs, s1).2 := by
    rw [← hfold]
    exact .foldlSnd (.snd h) fun _ _ h => h.trackSample
  exact hf.modCapture

theorem Evolves.captureSample (h : Evolves s a) : Evolves s a.captureSample := by
  unfold State.captureSample
  split
  · exact h
  · exact h.modCapture.advanceTo.sampleAt

theorem Evolves.lateMissed (h : Evolves s a) : Evolves s a.lateMissed :=
  h.count.raise

theorem Evolves.decideRecord {x late mask} (h : Evolves s a) : Evolves s (a.decideRecord x late mask) := by
  refine .ite h.count.wrBit.raise ?_
  dsimp only
  split
  · exact .sendEverywhere (.forFin h.modCapture fun _ _ h => .ite h.modCapture h)
  · exact .forFin h.modCapture fun _ _ h => .ite h.modCapture h

theorem Evolves.captureDecide {cond} (h : Evolves s a) : Evolves s (a.captureDecide cond) := by
  unfold State.captureDecide
  have hf := h.freeIn (lo := 31) (hi := 62)
  generalize a.freeIn 31 62 = p at hf ⊢
  split
  · exact h
  · split
    · exact h
    · refine .ite hf.advanceTo.decideRecord.modCapture ?_
      dsimp only
      split
      · refine .ite hf.advanceTo.modCapture.modCapture (.ite (.raise (.ite ?_ ?_)) ?_)
        · exact hf.advanceTo.modCapture.modCapture.count
        · exact hf.advanceTo.modCapture.modCapture
        · exact hf.advanceTo.modCapture.lateMissed
      · exact .ite hf.advanceTo.modCapture.lateMissed hf.advanceTo.modCapture

theorem Evolves.closeRecord {aborted} (h : Evolves s a) : Evolves s (a.closeRecord aborted) := by
  unfold State.closeRecord
  split
  · exact h
  · refine .wrAll (.raise (.count (.count (h.modCapture fun c hc => ?_))))
    exact putWords_mem_wf c _ _ hc

theorem Evolves.recordClose (h : Evolves s a) : Evolves s a.recordClose := by
  unfold State.recordClose
  have hf := h.freeIn (lo := 113) (hi := 229)
  generalize a.freeIn 113 229 = p at hf ⊢
  split
  · exact h
  · exact .ite h hf.advanceTo.closeRecord

theorem Evolves.captureStop (h : Evolves s a) : Evolves s a.captureStop :=
  h.closeRecord.modCapture

theorem Evolves.captureOn {on} (h : Evolves s a) : Evolves s (a.captureOn on) :=
  .ite (.ite h h.wr.modCapture) h.captureStop.wr.modCapture

theorem Evolves.captureArm (h : Evolves s a) : Evolves s a.captureArm :=
  .ite h h.modCapture

theorem Evolves.captureForce (h : Evolves s a) : Evolves s a.captureForce :=
  h.fireCond

theorem Evolves.calNext {line} (h : Evolves s a) : Evolves s (a.calNext line) :=
  h.modCapture

theorem Evolves.calEdge {line} (h : Evolves s a) : Evolves s (a.calEdge line) := by
  unfold State.calEdge
  split
  · exact h
  · exact .ite h (.calNext (.ite h.wr.wrBit h.wrBit))

theorem Evolves.trigFall {line} (h : Evolves s a) : Evolves s (a.trigFall line) :=
  .ite h h.wr.calEdge.fireKind

theorem Evolves.trigRelease {line} (h : Evolves s a) : Evolves s (a.trigRelease line) := by
  unfold State.trigRelease
  split
  · exact h
  · exact h.advanceTo.modCapture

theorem Evolves.calArm (h : Evolves s a) : Evolves s a.calArm :=
  h.wr.modCapture

theorem Evolves.calLate {line} (h : Evolves s a) : Evolves s (a.calLate line) := by
  unfold State.calLate
  split
  · exact h
  · exact .ite h h.advanceTo.wrBit.calNext

theorem Evolves.triggerFrame {f} (h : Evolves s a) : Evolves s (a.triggerFrame f) :=
  .ite h (.ite h.ignored h.fireKind)

theorem Evolves.setEgress {v} (h : Evolves s a) : Evolves s (a.setEgress v) :=
  .ite h h.ceqRewind.wr.modCapture

theorem Evolves.captureSend (h : Evolves s a) : Evolves s a.captureSend := by
  refine .ite h ?_
  dsimp only
  split
  · exact h
  · exact h.ceqMark.modCapture.sendReliable

theorem Evolves.egressAck {f} (h : Evolves s a) : Evolves s (a.egressAck f) :=
  .ite h h.ceqRelease.count.modCapture

theorem Evolves.egressFail {f} (h : Evolves s a) : Evolves s (a.egressFail f) :=
  .ite h h.ceqRewind.count.modCapture

theorem Evolves.egressRetry (h : Evolves s a) : Evolves s a.egressRetry := by
  dsimp only [State.egressRetry]
  split
  · exact .ite h.advanceTo.modCapture h.advanceTo.modCapture.set.resend
  · exact h

theorem Evolves.relayPacket {f} (h : Evolves s a) (ht : a.relayPacket f = some t) : Evolves s t := by
  unfold State.relayPacket at ht
  simp only [Option.ite_none_left_eq_some, Option.some.injEq] at ht
  obtain ⟨-, rfl⟩ := ht
  refine .count (.count (h.modCapture fun c hc => ?_))
  exact putWords_mem_wf c _ _ hc

theorem Evolves.captureFrame {f} (h : Evolves s a) : Evolves s (a.captureFrame f) := by
  refine .ite h.ignored ?_
  split
  · exact h.count.wrBit.raise
  · exact .ite (h.acceptSeq.getD fun _ => h.acceptSeq.relayPacket) h.acceptSeq

/-! #### The balls and the test port (spec/02) -/

theorem Evolves.loadJtag {i} (h : Evolves s a) : Evolves s (a.loadJtag i) :=
  h.set.applyAll

theorem Evolves.scanOut {bits} (h : Evolves s a) : Evolves s (a.scanOut bits) :=
  h.set

theorem Evolves.bypassScan {bits} (h : Evolves s a) : Evolves s (a.bypassScan bits) :=
  h.set.scanOut

theorem Evolves.boundaryScan {outside shifted} (h : Evolves s a) : Evolves s (a.boundaryScan outside shifted) :=
  h.set.scanOut

theorem Evolves.extest {scan} (h : Evolves s a) : Evolves s (a.extest scan) := by
  dsimp only [State.extest]
  split
  · exact h.loadJtag.scanOut
  · exact .ite h.loadJtag.boundaryScan h.loadJtag.bypassScan

theorem Evolves.jtagId {scan} (h : Evolves s a) : Evolves s (a.jtagId scan) :=
  .ite h.loadJtag.scanOut.set h.loadJtag.scanOut

/-! #### Thermal supervision (spec/11) -/

theorem Evolves.sampleMissed {n} (h : Evolves s a) : Evolves s (a.sampleMissed n) :=
  h.count.raise.modSensor

theorem Evolves.sampleDue {n} (h : Evolves s a) : Evolves s (a.sampleDue n) := by
  unfold State.sampleDue
  split
  · exact h
  · exact .ite h.modSensor (.ite h.advanceTo.modSensor.modSensor
      (.ite h.advanceTo.modSensor.request.sampleMissed h.advanceTo.modSensor.request))

theorem Evolves.declareBroken {n cause} (h : Evolves s a) : Evolves s (a.declareBroken n cause) :=
  .ite h h.wr.modSensor

theorem Evolves.crossCheck {n t} (h : Evolves s a) : Evolves s (a.crossCheck n t) :=
  .ite h (.ite h.declareBroken.raise h.modSensor)

theorem Evolves.writeFactors (h : Evolves s a) : Evolves s a.writeFactors :=
  .forFin h.wr fun _ _ h => .ite h.wrAll.raise h.wrAll

theorem Evolves.modLockout {g f} (h : Evolves s a) : Evolves s (a.modLockout g f) :=
  h.set

theorem Evolves.tripGroup {n} (h : Evolves s a) : Evolves s (a.tripGroup n) := by
  dsimp only [State.tripGroup]
  split
  · exact h.modLockout.wrBit.raise.cellReaction
  · exact h.modLockout.raise.lockout

theorem Evolves.countTrip {n keep} (h : Evolves s a) : Evolves s (a.countTrip n keep) :=
  .ite h (.ite (.ite h.modSensor.tripGroup h.modSensor) h.modSensor)

theorem Evolves.sampleProcess {n} (h : Evolves s a) : Evolves s (a.sampleProcess n) := by
  unfold State.sampleProcess
  have hf := h.freeIn (lo := 103) (hi := 208)
  generalize a.freeIn 103 208 = p at hf ⊢
  split
  · exact .ite h.sampleMissed h
  · refine .writeFactors (.countTrip (.modSensor (.wr ?_)))
    split
    · exact hf.advanceTo.declareBroken.raise
    · exact hf.advanceTo.crossCheck

theorem Evolves.lockoutCells (h : Evolves s a) : Evolves s a.lockoutCells :=
  .forFin h fun _ _ h => .ite h.cellReaction h

theorem Evolves.recordWritten {g ok} (h : Evolves s a) : Evolves s (a.recordWritten g ok) :=
  .ite h (.ite h.modLockout.set (.ite h.modLockout.wrBit.raise.wr h.modLockout.wrBit.raise))

theorem Evolves.rearmGroup {g} (h : Evolves s a) : Evolves s (a.rearmGroup g) :=
  .ite (.wr (.forFin h fun _ _ h => h.modLockout))
    (.ite (.raise (.wr (.wrBit (.forFin h fun _ _ h => h.modLockout))))
    (.wr (.wrBit (.modLockout (.forFin h fun _ _ h => h.modLockout)))))

theorem Evolves.rearmGroups {mask} (h : Evolves s a) : Evolves s (a.rearmGroups mask) :=
  .forFin h fun _ _ h => .ite h.rearmGroup h

theorem Evolves.clearBroken {mask} (h : Evolves s a) : Evolves s (a.clearBroken mask) :=
  .forFin h.clrBits fun _ _ h => .ite h.modSensor h

/-! #### The fault collector (spec/12) -/

theorem Evolves.setSticky {m} (h : Evolves s a) : Evolves s (a.setSticky m) :=
  .ite h.wrAll.wr h.wrAll

theorem Evolves.route (h : Evolves s a) : Evolves s a.route :=
  h.wrBit.wrBit

theorem Evolves.notify {rises} (h : Evolves s a) : Evolves s (a.notify rises) :=
  h.set

theorem Evolves.fireRises {rises} (h : Evolves s a) : Evolves s (a.fireRises rises) := by
  unfold State.fireRises
  have hf := h.freeIn (lo := 1) (hi := 2)
  generalize a.freeIn 1 2 = p at hf ⊢
  exact .ite hf.fireKind h

theorem Evolves.selfFault {cause} (h : Evolves s a) : Evolves s (a.selfFault cause) :=
  .ite h.wrBit h.orBits.wrBit.holdAll.safeCause.sendSafe.fireRises.notify

theorem Evolves.cellRises {rises} (h : Evolves s a) : Evolves s (a.cellRises rises) :=
  .forFin h fun _ _ h => .ite h.cellReaction (.ite h.cellReaction h)

theorem Evolves.deviceRises {rises} (h : Evolves s a) : Evolves s (a.deviceRises rises) := by
  dsimp only [State.deviceRises]
  split
  · exact h.holdAll.safeCause.sendSafe
  · exact .ite h h.holdAll.safeCause

theorem Evolves.decide {equal parityBad} (h : Evolves s a) : Evolves s (a.decide equal parityBad) :=
  .ite (.notify (.route (.fireRises (.setSticky (.freeVal (.freeVal (.set (.ite h.selfFault h))))))))
    (.notify (.route (.deviceRises
    (.lockoutCells (.cellRises (.fireRises (.setSticky (.set (.ite h.selfFault h)))))))))

theorem Evolves.decisionLate (h : Evolves s a) : Evolves s a.decisionLate :=
  h.advanceTo.selfFault

theorem Evolves.clearSticky {w mask} (h : Evolves s a) : Evolves s (a.clearSticky w mask) :=
  h.setSticky

theorem Evolves.eventFrame {f} (h : Evolves s a) : Evolves s (a.eventFrame f) :=
  .ite h (.ite h.ignored h.wrBit.set)

theorem Evolves.safeFrame {f} (h : Evolves s a) : Evolves s (a.safeFrame f) :=
  .ite h.safeCause h.ignored

/-! #### Path redundancy (spec/15) -/

theorem Evolves.renew (h : Evolves s a) : Evolves s a.renew :=
  h.set

theorem Evolves.moveLease {q} (h : Evolves s a) : Evolves s (a.moveLease q) :=
  h.setHolder.updRevert

theorem Evolves.revertOn {q} (h : Evolves s a) : Evolves s (a.revertOn q) :=
  .ite h.moveLease.count.raise h

theorem Evolves.atDue (h : Evolves s a) : Evolves s a.atDue :=
  .ite h.set.wrBit.set (.assertSrc (.wrBit (.wrBit (.ite h.set.set h.set))))

theorem Evolves.dueInstant (h : Evolves s a) : Evolves s a.dueInstant := by
  unfold State.dueInstant
  split
  · exact h
  · exact .updRevert (.atDue (.ite h.advanceTo.releaseLease h.advanceTo))

theorem Evolves.leaseExpires (h : Evolves s a) : Evolves s a.leaseExpires := by
  unfold State.leaseExpires
  split
  · exact h
  · exact h.advanceTo.releaseLease.updRevert

theorem Evolves.leaseFrame {f action} (h : Evolves s a) : Evolves s (a.leaseFrame f action) := by
  refine .ite h (.ite h.ignored ?_)
  dsimp only
  split
  · exact .ite (.ite h.wr.renew h.wr) h.ignored
  · exact .ite (.ite h.releaseOn.updRevert h.releaseOn.updRevert.ignored) h.ignored
  · exact .ite (.ite h h.moveLease) h.ignored

theorem Evolves.setHealth {q st cause} (h : Evolves s a) : Evolves s (a.setHealth q st cause) :=
  .updRevert (.pathSources (.wr (.ite h.wrAll h)))

theorem Evolves.pselChange {low ticks} (h : Evolves s a) : Evolves s (a.pselChange low ticks) :=
  .ite h (.moveLease (.ite h.set.wrBit.wr.wrBit.set h.set.wrBit.wr.wrBit.set.wrBit.modPath))

theorem Evolves.pselStuck (h : Evolves s a) : Evolves s a.pselStuck := by
  unfold State.pselStuck
  split
  · exact h
  · exact .ite h (.ite h.advanceTo.set.wrBit.modPath.setHealth h)

theorem Evolves.pselHoldoff (h : Evolves s a) : Evolves s a.pselHoldoff := by
  unfold State.pselHoldoff
  split
  · exact h
  · exact h.advanceTo.set.updPsel

theorem Evolves.beaconSend {p q} (h : Evolves s a) : Evolves s (a.beaconSend p q) :=
  .ite h h.advanceTo.sendOn.set.modPath

theorem Evolves.beaconReceive {f} (h : Evolves s a) : Evolves s (a.beaconReceive f) :=
  .ite h (.ite h.modPath.noteErrors.soakNote h.modPath.noteErrors.soakNote.count)

theorem Evolves.echoSend (h : Evolves s a) : Evolves s a.echoSend :=
  .ite h (.forFin h.advanceTo fun _ _ h => .ite h h.sendOn.modPath)

theorem Evolves.echoReturn {f} (h : Evolves s a) : Evolves s (a.echoReturn f) :=
  .ite h h.sendOn

theorem Evolves.echoReply {f rx} (h : Evolves s a) : Evolves s (a.echoReply f rx) :=
  .ite h h.wr.soakNote.modPath

theorem Evolves.berOf {errors bits} (h : Evolves s a) : Evolves s (a.berOf errors bits).2 :=
  .iteSnd h.freeVal h

theorem Evolves.badPath {q cause} (h : Evolves s a) : Evolves s (a.badPath q cause) :=
  .ite h.modPath.freeVal.setHealth h.modPath.setHealth

theorem Evolves.evalHealth {q bits errors others margin} (h : Evolves s a) :
    Evolves s (a.evalHealth q bits errors others margin) := by
  dsimp only [State.evalHealth]
  split
  · exact h.advanceTo.codeErrorsOn.codeErrorsOn.modPath.berOf.wrAll.modPath.badPath
  · exact .ite h.advanceTo.codeErrorsOn.codeErrorsOn.modPath.berOf.wrAll.modPath.modPath.setHealth
      h.advanceTo.codeErrorsOn.codeErrorsOn.modPath.berOf.wrAll.modPath.modPath.setHealth

theorem Evolves.setCanHolder {u} (h : Evolves s a) : Evolves s (a.setCanHolder u) :=
  h.wr.wrBit.set.pathSources.updRevert

theorem Evolves.setCanLease {v} (h : Evolves s a) : Evolves s (a.setCanLease v) :=
  h.wr.set

theorem Evolves.canRelease (h : Evolves s a) : Evolves s a.canRelease :=
  .ite h (.ite h.setCanHolder.count.raise h.wrBit.set.pathSources)

theorem Evolves.canExpires (h : Evolves s a) : Evolves s a.canExpires := by
  unfold State.canExpires
  split
  · exact h
  · exact h.advanceTo.canRelease

theorem Evolves.revertReady {can} (h : Evolves s a) : Evolves s (a.revertReady can) := by
  refine .ite ?_ ?_
  · split
    · exact h.advanceTo.setCanHolder.count.raise
    · exact h
  · split
    · exact h.advanceTo.set
    · exact h

/-! #### The CAN FD controllers (spec/16) -/

theorem Evolves.setTiming {u t} (h : Evolves s a) : Evolves s (a.setTiming u t) :=
  h.wrAll.modCan

theorem Evolves.integrate {u} (h : Evolves s a) : Evolves s (a.integrate u) :=
  h.wrBit.modCan

theorem Evolves.countRecovery {u} (h : Evolves s a) : Evolves s (a.countRecovery u) := by
  unfold State.countRecovery
  split
  · exact h
  · exact h.freeIn.wr

theorem Evolves.canApply {u} (h : Evolves s a) : Evolves s (a.canApply u) :=
  h.wrBit.modCan

theorem Evolves.canModeBits {u} (h : Evolves s a) : Evolves s (a.canModeBits u) :=
  .ite h h.modCan

theorem Evolves.canTimingChange {u} (h : Evolves s a) : Evolves s (a.canTimingChange u) := by
  unfold State.canTimingChange
  split
  · exact h
  · exact .ite h h.advanceTo.setTiming.modCan.wrBit.integrate

theorem Evolves.canBoot {u} (h : Evolves s a) : Evolves s (a.canBoot u) :=
  .ite h.setTiming h.setTiming.wrBit

theorem Evolves.canHealth {u} (h : Evolves s a) : Evolves s (a.canHealth u) :=
  .updRevert (.ite h.wr.canRelease h.wr)

theorem Evolves.canState {u} (h : Evolves s a) : Evolves s (a.canState u) :=
  h.wr.levelSrc.levelSrc.levelSrc.canHealth

theorem Evolves.requestTx {u n} (h : Evolves s a) : Evolves s (a.requestTx u n) := by
  unfold State.requestTx
  have hf := h.freeIn (lo := 60) (hi := 120)
  generalize a.freeIn 60 120 = p at hf ⊢
  exact .ite h (.ite h.modMsg hf.modMsg.modCan)

theorem Evolves.cancelTx {u n} (h : Evolves s a) : Evolves s (a.cancelTx u n) :=
  h.modMsg.modCan.modCan

theorem Evolves.writeMsg {u n d} (h : Evolves s a) : Evolves s (a.writeMsg u n d) :=
  .ite h.modMsg.requestTx h.modMsg.cancelTx

theorem Evolves.clearNew {u n} (h : Evolves s a) : Evolves s (a.clearNew u n) :=
  h.modMsg

theorem Evolves.recDown {u} (h : Evolves s a) : Evolves s (a.recDown u) :=
  .ite h (.ite h.wr.canState h.freeVal.wr.canState)

theorem Evolves.canReceive {u f} (h : Evolves s a) : Evolves s (a.canReceive u f) := by
  refine .ite h (.ite h.wrBit.count.recDown.canHealth ?_)
  split
  · exact h.wrBit.count.recDown.canHealth
  · exact .ite h.wrBit.count.recDown.canHealth.modMsg.clearNew.count h.wrBit.count.recDown.canHealth.modMsg

theorem Evolves.loadSystem {u n ident d} (h : Evolves s a) : Evolves s (a.loadSystem u n ident d) :=
  h.modMsg.requestTx

theorem Evolves.loadNext {u n} (h : Evolves s a) : Evolves s (a.loadNext u n) := by
  induction n generalizing a with
  | zero => exact h
  | succ n ih =>
    unfold State.loadNext
    split
    · exact h
    · exact .ite h (ih h.loadSystem.set)

theorem Evolves.loadEvent {u} (h : Evolves s a) : Evolves s (a.loadEvent u) := by
  refine .ite h ?_
  dsimp only
  split
  · exact h.loadSystem.set
  · exact h.loadSystem.set
  · exact h.set.loadSystem.set
  · exact h

theorem Evolves.eventSent {u} (h : Evolves s a) : Evolves s (a.eventSent u) :=
  h.set

theorem Evolves.loadOut {u} (h : Evolves s a) : Evolves s (a.loadOut u) :=
  h.loadNext.loadEvent

theorem Evolves.dropFd {u} (h : Evolves s a) : Evolves s (a.dropFd u) := by
  refine .ite h ?_
  dsimp only
  split
  · exact .ite h.modCan.modCan.modMsg h.modCan
  · exact h.modCan

theorem Evolves.canStart {u} (h : Evolves s a) : Evolves s (a.canStart u) := by
  refine .ite h ?_
  dsimp only
  split
  · exact h.advanceTo.dropFd.loadOut
  · exact .ite h.advanceTo.dropFd.loadOut.wrBit.modCan.freeVal.wr.wrBit h.advanceTo.dropFd.loadOut.wrBit.modCan

theorem Evolves.stampEntry {u t} (h : Evolves s a) : Evolves s (a.stampEntry u t) :=
  .ite h (.ite h.wr.countSat.canState h.modCan)

theorem Evolves.txDone {u t} (h : Evolves s a) : Evolves s (a.txDone u t) := by
  unfold State.txDone
  extract_lets home s1 s2 s3 tec s4 s5
  have h2 : Evolves s s2 := h.count.modCan.modMsg
  have h3 : Evolves s s3 := .stampEntry (.ite h2.eventSent h2)
  have h4 : Evolves s s4 := .ite h3 h3.wr
  exact .canModeBits (.canState (.ite h4.set h4))

theorem Evolves.txFail {u t} (h : Evolves s a) : Evolves s (a.txFail u t) := by
  unfold State.txFail
  extract_lets s1 single s2 s3
  have h1 : Evolves s s1 := h.modCan
  have h2 : Evolves s s2 := .ite (.ite h1.modMsg (.ite h1 h1.modCan)) (.ite h1.modMsg h1)
  exact .canModeBits (.ite h2.set h2)

theorem Evolves.canComplete {u ok} (h : Evolves s a) : Evolves s (a.canComplete u ok) := by
  unfold State.canComplete
  split
  · exact h
  · exact .loadOut (.ite h.txDone h.txFail)

theorem Evolves.requeueTop {u} (h : Evolves s a) : Evolves s (a.requeueTop u) := by
  unfold State.requeueTop
  have hf := h.freeIn (lo := 77) (hi := 157)
  generalize a.freeIn 77 157 = p at hf ⊢
  split
  · exact h
  · exact .ite h (.ite hf.modCan.modMsg.count h.modMsg)

theorem Evolves.startRecovery {u} (h : Evolves s a) : Evolves s (a.startRecovery u) :=
  h.wr.modCan

theorem Evolves.enterBusOff {u} (h : Evolves s a) : Evolves s (a.enterBusOff u) :=
  .loadOut (.ite h.count.modCan.canState.canModeBits.requeueTop.startRecovery
    h.count.modCan.canState.canModeBits.requeueTop)

theorem Evolves.collide {u} (h : Evolves s a) : Evolves s (a.collide u) :=
  .ite h.count.modCan.wr.canState h.count.modCan

theorem Evolves.errCounts {u code transmitter place} (h : Evolves s a) :
    Evolves s (a.errCounts u code transmitter place) :=
  .ite h (.ite (.ite h h.wr) h.wr)

theorem Evolves.canError {u code dataPhase transmitter collision place} (h : Evolves s a) :
    Evolves s (a.canError u code dataPhase transmitter collision place) := by
  unfold State.canError
  refine .ite h ?_
  extract_lets code' transmitter' s1 s2 s3 s4
  have h2 : Evolves s s2 := h.wr.count.errCounts.canState
  have h3 : Evolves s s3 := .ite h2.collide h2
  have h4 : Evolves s s4 := .ite h3.integrate h3
  refine .ite h4.enterBusOff (.ite ?_ h4)
  split
  · exact h4.txFail.loadOut
  · exact h4

theorem Evolves.canRecovered {u} (h : Evolves s a) : Evolves s (a.canRecovered u) := by
  unfold State.canRecovered
  split
  · exact h
  · exact h.advanceTo.wrAll.modCan.canState

theorem Evolves.canRecover {u} (h : Evolves s a) : Evolves s (a.canRecover u) :=
  .ite h.startRecovery h

theorem Evolves.dupClear {u} (h : Evolves s a) : Evolves s (a.dupClear u) :=
  h.wr.modCan.canState

theorem Evolves.canMonitor {u} (h : Evolves s a) : Evolves s (a.canMonitor u) :=
  .ite h h.wrBit

theorem Evolves.clearOverflow {u} (h : Evolves s a) : Evolves s (a.clearOverflow u) :=
  h.wr.canState

/-! #### Tags and responses (spec/17) -/

theorem Evolves.modWdp {f} (h : Evolves s a) : Evolves s (a.modWdp f) :=
  h.set

theorem Evolves.queueOut {u node tagGen data} (h : Evolves s a) : Evolves s (a.queueOut u node tagGen data) :=
  h.modWdp.loadOut

theorem Evolves.reply {o tagGen data} (h : Evolves s a) : Evolves s (a.reply o tagGen data) := by
  unfold State.reply
  split
  · exact h.queueOut
  · exact h.sendReliable

theorem Evolves.setTag {tg state resp o} (h : Evolves s a) : Evolves s (a.setTag tg state resp o) :=
  h.modWdp

theorem Evolves.tagDone {tg resp} (h : Evolves s a) : Evolves s (a.tagDone tg resp) :=
  h.setTag.reply

theorem Evolves.suppress {tg} (h : Evolves s a) : Evolves s (a.suppress tg).2 :=
  .forFinSnd h fun _ _ h => .iteSnd (.snd h.modWdp.cancelTx.loadOut) (.snd h.modWdp)

theorem Evolves.dropBlock {b} (h : Evolves s a) : Evolves s (a.dropBlock b) :=
  .ite h.modWdp.fwFail h.modWdp

theorem Evolves.endBlock {b status} (h : Evolves s a) : Evolves s (a.endBlock b status) :=
  h.dropBlock.tagDone

theorem Evolves.stopWork {tg} (h : Evolves s a) : Evolves s (a.stopWork tg) := by
  refine .ite (.fwFail (.set ?_)) (.set ?_)
  · split
    · exact h.dropBlock
    · exact h
  · split
    · exact h.dropBlock
    · exact h

theorem Evolves.abortBlocks (h : Evolves s a) : Evolves s a.abortBlocks :=
  .foldl h fun _ _ h => h.endBlock

theorem Evolves.abortForwards (h : Evolves s a) : Evolves s a.abortForwards :=
  h.set

theorem Evolves.tagsReset (h : Evolves s a) : Evolves s a.tagsReset := by
  unfold State.tagsReset
  exact .modWdp (.set (.abortForwards (.foldl h fun _ _ h => h.dropBlock)))

/-! #### String coordination (spec/10) -/

theorem Evolves.modString {f} (h : Evolves s a) : Evolves s (a.modString f) :=
  h.set

theorem Evolves.takeStatus {f} (h : Evolves s a) : Evolves s (a.takeStatus f) := by
  refine .ite h ?_
  split
  · exact h.modString.wrBit
  · exact h

theorem Evolves.gather (h : Evolves s a) : Evolves s a.gather :=
  .forFin h fun _ _ h => .ite h.modString (.ite (.modString (.ite h.wrBit h)) h)

theorem Evolves.tripString {g cause} (h : Evolves s a) : Evolves s (a.tripString g cause) :=
  h.wr.raise.endMolt.modString

theorem Evolves.mapCells {f} (h : Evolves s a) : Evolves s (a.mapCells f) :=
  h.modString

theorem Evolves.updActive (h : Evolves s a) : Evolves s a.updActive.1 :=
  .mapCells (.foldr h fun _ _ h => h.tripString)

theorem Evolves.nMinRule (h : Evolves s a) : Evolves s a.nMinRule.1 := by
  refine .forFinFst h fun g q h => ?_
  dsimp only
  split
  · exact h.tripString
  · exact h

theorem Evolves.modMolt {g f} (h : Evolves s a) : Evolves s (a.modMolt g f) :=
  h.modString

theorem Evolves.moltRequest {g insert} (h : Evolves s a) : Evolves s (a.moltRequest g insert) := by
  refine .ite h.wr ?_
  split
  · exact h.wr
  · exact .ite h.wr (.ite h.wr (.ite h.wr (.ite h.wr h.wr.modString)))

theorem Evolves.openingEnded {g x} (h : Evolves s a) : Evolves s (a.openingEnded g x) :=
  .ite h.endMolt h.freeVal.endMolt

theorem Evolves.advanceMolt {g} (h : Evolves s a) : Evolves s (a.advanceMolt g) := by
  unfold State.advanceMolt
  split
  · exact h
  · refine .ite ?_ (.ite (.ite h.endMolt h.modMolt.mapCells)
      (.ite h.endMolt.count (.ite h.endMolt (.ite h.wr h))))
    split
    · exact .ite h.endMolt h
    · exact .ite h.modMolt (.ite (.ite h.openingEnded (.ite h.endMolt h))
        (.ite (.ite h.endMolt.count h)
        (.ite (.ite h.wr.modMolt.mapCells h) (.ite (.ite h.modMolt (.ite h.wr.modMolt h.modMolt)) h))))

theorem Evolves.prechargeLate {g} (h : Evolves s a) : Evolves s (a.prechargeLate g) := by
  unfold State.prechargeLate
  split
  · split
    · exact h.advanceTo.modMolt
    · exact h
  · exact h

theorem Evolves.abortMolt (h : Evolves s a) : Evolves s a.abortMolt := by
  refine .forFin h fun _ _ h => ?_
  split
  · exact h
  · exact .ite h.modMolt.mapCells (.ite h.endMolt h)

theorem Evolves.slots {g} (h : Evolves s a) : Evolves s (a.slots g) :=
  .mapCells (.ite h.wrAll.wr h.wrAll)

theorem Evolves.steering {g changed} (h : Evolves s a) : Evolves s (a.steering g changed) :=
  .ite h.modString.mapCells (.ite h.modString.mapCells h.modString.wrAll.count.modString.mapCells)

theorem Evolves.stringRefs {g} (h : Evolves s a) : Evolves s (a.stringRefs g) :=
  .set (.wr (.iteSnd h.freeVal h))

theorem Evolves.stopStep (h : Evolves s a) : Evolves s a.stopStep :=
  .ite h (.ite h.modString.modString.mapCells h.modString)

theorem Evolves.slowPaths (h : Evolves s a) : Evolves s a.slowPaths :=
  .ite (.forFin h.wrBit.wrBit.pathSources fun _ _ h => .ite h h.tripString) h.wrBit.wrBit.pathSources

theorem Evolves.supersede (h : Evolves s a) : Evolves s a.supersede :=
  .forFin h fun _ _ h => h.count.modLane

theorem Evolves.assemble (h : Evolves s a) : Evolves s a.assemble := by
  unfold State.assemble
  extract_lets b before
  have hu : Evolves s b.updActive.1 := h.gather.stopStep.slowPaths.updActive
  generalize b.updActive = p at hu ⊢
  obtain ⟨s1, t1⟩ := p
  refine .ite hu ?_
  have hn : Evolves s (Machine.forFin 3 s1 fun g b => b.advanceMolt g).nMinRule.1 :=
    .nMinRule (.forFin hu fun _ _ h => h.advanceMolt)
  generalize (Machine.forFin 3 s1 fun g b => b.advanceMolt g).nMinRule = q at hn ⊢
  exact .ite hn (.supersede (.modString (.forFin hn fun _ _ h => h.slots.steering.stringRefs)))

theorem Evolves.assembly (h : Evolves s a) : Evolves s a.assembly :=
  .ite h h.advance.modString.assemble

theorem Evolves.actFlags {c fl} (h : Evolves s a) : Evolves s (a.actFlags c fl) :=
  .ite h.setCell (.ite h.setCell
    (.ite h.openContactor (.ite h.setCell (.ite h.endInsert (.ite h.setCell.checkStop h)))))

theorem Evolves.respace {c fl slot n slew} (h : Evolves s a) : Evolves s (a.respace c fl slot n slew) :=
  .ite h.wrAll.loadShadow.loadShadow h

theorem Evolves.takeString {b seq pos} (h : Evolves s a) : Evolves s (a.takeString b seq pos) :=
  .ite h.set.count.wr.wrAll.wrBit.wrBit.deassertSrc.emitSync
    (.forFin h.set.count.wr.wrAll.wrBit.wrBit.deassertSrc.emitSync.set fun _ _ h => h.actFlags.respace.set)

theorem Evolves.sendStatus (h : Evolves s a) : Evolves s a.sendStatus :=
  h.sendOn.sendOn

theorem Evolves.stringFrame {f} (h : Evolves s a) : Evolves s (a.stringFrame f) := by
  unfold State.stringFrame
  extract_lets q moved lease s1 s2 lease' s3
  have h1 : Evolves s s1 := .ite h.moveLease.set (.ite h.revertOn h)
  have h2 : Evolves s s2 := .ite h1.renew h1
  have h3 : Evolves s s3 := by
    unfold s3
    split
    · exact h2.wr.set
    · exact h2
  exact .ite h (.ite (.ite h.moveLease (.ite h.ignored h)) (.ite h1.ignored h3.takeString.sendStatus.updRevert))

theorem Evolves.issue (h : Evolves s a) : Evolves s a.issue := by
  unfold State.issue
  split
  · exact h
  · refine .ite h.modString ?_
    extract_lets s1 n s2 s3 s4 k s5 s6
    have h3 : Evolves s s3 := .modString (.count (.forFin h.advance fun _ _ h => h.enqueue))
    have h4 : Evolves s s4 := .forFin h3 fun _ _ h => by
      split
      · exact .ite h.wr h
      · exact h
    exact .takeString (.ite h4.set.offerLease h4.set)

theorem Evolves.stopLate (h : Evolves s a) : Evolves s a.stopLate := by
  unfold State.stopLate
  split
  · exact h
  · exact .ite h.advanceTo.toSafe.sendSafe h.advanceTo.toSafe

/-! #### Checks and the restore of the dictionary (spec/19) -/

theorem Evolves.takeEntry {e} (h : Evolves s a) : Evolves s (a.takeEntry e) := by
  unfold State.takeEntry
  split
  · exact .ite h.wr h.count
  · exact h.count

theorem Evolves.takeImage {d} (h : Evolves s a) : Evolves s (a.takeImage d) :=
  .foldl h.wrAll fun _ _ h => h.takeEntry

theorem Evolves.restoreDict (h : Evolves s a) : Evolves s a.restoreDict := by
  refine .ite h.modNv.wrAll.wrBit ?_
  split
  · exact h.modNv.wrAll.takeImage
  · exact h.modNv.wrAll.takeImage.wrBit.raise
  · exact h.modNv.wrAll.wrBit

/-! #### Maintenance (spec/19) -/

theorem Evolves.drillFrame {action path} (h : Evolves s a) : Evolves s (a.drillFrame action path) :=
  .forFin h fun _ _ h => h.sendOn

theorem Evolves.maintRequest {act arg duration} (h : Evolves s a) :
    Evolves s (a.maintRequest act arg duration).2 := by
  unfold State.maintRequest
  split
  · exact h.wrAll.raise
  · split
    · exact h
    · exact .ite h.wrAll.set.wireStart (.ite h.wrAll.set.drillFrame h.wrAll.set)

theorem Evolves.maintAbort {n} (h : Evolves s a) : Evolves s (a.maintAbort n) := by
  unfold State.maintAbort
  split
  · exact h
  · exact .ite h.wireAbort.slotEnds (.ite h.drillFrame.slotAborted h.slotAborted)

theorem Evolves.maintAbortClaims {mask} (h : Evolves s a) : Evolves s (a.maintAbortClaims mask) :=
  .forFin h fun _ _ h => .ite h.maintAbort h

theorem Evolves.maintStop {mask} (h : Evolves s a) : Evolves s (a.maintStop mask) :=
  .forFin h fun _ _ h => .ite h.maintAbort h

theorem Evolves.maintEnds {n failed v1 v2 v3} (h : Evolves s a) :
    Evolves s (a.maintEnds n failed v1 v2 v3) := by
  unfold State.maintEnds
  split
  · exact h
  · extract_lets finish
    have hfinish {b x y z} (h : Evolves s b) : Evolves s (finish b x y z) :=
      .ite (.raise (.ite h.slotEnds h.slotEnds.raise)) (.ite h.slotEnds h.slotEnds.raise)
    split
    · exact .ite h (hfinish h)
    · exact hfinish h
    · exact .ite h (hfinish h.count.count)
    · exact hfinish h.advanceTo
    · exact hfinish h.advanceTo
    · exact hfinish h.advanceTo.drillFrame
    · exact hfinish h.advanceTo

/-! #### Resets and state commands (spec/04) -/

theorem Evolves.atReset (h : Evolves s a) : Evolves s a.atReset := by
  unfold State.atReset
  refine .fwReset (.wr (h.trans ⟨rfl, le_rfl, fun _ => ?_, fun _ => rfl, id, fun _ => rfl⟩))
  exact (by decide : (0 : Nat) < secUnits)

theorem Evolves.modPower {f} (h : Evolves s a) : Evolves s (a.modPower f) :=
  h.set

theorem Evolves.boot {cause} (h : Evolves s a) : Evolves s (a.boot cause) :=
  h.atReset.wr

theorem Evolves.sampleRole {role} (h : Evolves s a) : Evolves s (a.sampleRole role) :=
  h.wr

theorem Evolves.porAssert (h : Evolves s a) : Evolves s a.porAssert :=
  h.atReset.set.modPower

theorem Evolves.porRelease {role} (h : Evolves s a) : Evolves s (a.porRelease role) :=
  .ite h h.boot.sampleRole.modPower

theorem Evolves.pinAssert (h : Evolves s a) : Evolves s a.pinAssert :=
  .ite h.modPower h.atReset.modPower

theorem Evolves.pinRelease {role} (h : Evolves s a) : Evolves s (a.pinRelease role) :=
  .ite h (.ite h.sampleRole.modPower h.boot.sampleRole)

theorem Evolves.commandReset (h : Evolves s a) : Evolves s a.commandReset := by
  unfold State.commandReset
  split
  · exact h
  · exact .ite h h.boot

theorem Evolves.superStarts (h : Evolves s a) : Evolves s a.superStarts :=
  .forFin h.modPower fun _ _ h => .ite h.modLane h

theorem Evolves.applyRestored {old} (h : Evolves s a) : Evolves s (a.applyRestored old) :=
  .setCanLease (.forFin (.forFin (.setFitted (.wr (.forFin h fun _ _ h => h.restShadows))) fun _ _ h => .ite h
    h.acquire) fun _ _ h => h.canBoot)

theorem Evolves.startCarriers (h : Evolves s a) : Evolves s a.startCarriers :=
  .forFin (.forFin h fun _ _ h => h.restShadows) fun _ _ h => h.syncCarriers

theorem Evolves.readLockouts (h : Evolves s a) : Evolves s a.readLockouts :=
  .ite (.wrBit (.forFin h fun _ _ h => h.modLockout)) (.forFin h fun _ _ h => h.modLockout)

theorem Evolves.bootLoad (h : Evolves s a) : Evolves s a.bootLoad :=
  .ite h (.ite h.selectBank.setupSystem h.selectBank.restoreDict.readLockouts.applyRestored.modPower)

theorem Evolves.startInputs (h : Evolves s a) : Evolves s a.startInputs :=
  .forFin h.restartClocks fun _ _ h => h.driverBegins

theorem Evolves.bootComplete (h : Evolves s a) : Evolves s a.bootComplete :=
  .ite h.bootLoad h.bootLoad.startCarriers.setupSystem.superStarts.enterHatch.startInputs.lockoutCells

theorem Evolves.supervisorReset {cause} (h : Evolves s a) : Evolves s (a.supervisorReset cause) :=
  .ite h (.modPower (.wr (.fwReset (.ite h.tagsReset.maintStop.storeEnds h.tagsReset.maintStop))))

theorem Evolves.watchdog {serviced} (h : Evolves s a) : Evolves s (a.watchdog serviced) := by
  unfold State.watchdog
  split
  · exact h
  · exact h.advanceTo.supervisorReset.countSat.raise

theorem Evolves.supervisorBack (h : Evolves s a) : Evolves s a.supervisorBack :=
  .ite h (.ite (.forFin h.reloadBank.superStarts fun _ _ h => h.loadOut) h.reloadBank)

theorem Evolves.checkMap {all} (h : Evolves s a) : Evolves s (a.checkMap all).2 :=
  .forFinSnd h fun _ _ h => h.wr

theorem Evolves.validateAll (h : Evolves s a) : Evolves s a.validateAll.2 :=
  .iteSnd (.modEngine (.validateProgram (.forFinSnd h fun _ _ h => .iteSnd h.validateProgram h)))
    (.modEngine (.forFinSnd h fun _ _ h => .iteSnd h.validateProgram h))

theorem Evolves.enterCharge {all} (h : Evolves s a) : Evolves s (a.enterCharge all) :=
  .forFin (.enterDev (.clearEngine
    (.ite (.modString (.forFin h.maintAbortClaims fun _ _ h => h.wr)) h.maintAbortClaims))) fun _ _ h => .ite
    h.setCell h

theorem Evolves.chargeCheck {cells} (h : Evolves s a) : Evolves s (a.chargeCheck cells) :=
  .ite (.wr (.iteSnd h.validateAll.checkMap h.validateAll))
    (.ite (.wr (.iteSnd h.validateAll.checkMap h.validateAll))
    (.enterCharge (.wr (.iteSnd h.validateAll.checkMap h.validateAll))))

theorem Evolves.cmdRun (h : Evolves s a) : Evolves s a.cmdRun :=
  .ite h.wr (.forFin h.wr.enterDev fun _ _ h => .ite h.setCell h)

theorem Evolves.cmdStop (h : Evolves s a) : Evolves s a.cmdStop :=
  h.wr.wr.modPower.modString.checkStop

theorem Evolves.cmdResume (h : Evolves s a) : Evolves s a.cmdResume :=
  .ite h.wr (.ite h.wr (.ite h.wr h.wr.enterDev))

theorem Evolves.enterCocoon (h : Evolves s a) : Evolves s a.enterCocoon :=
  .updPsel (.reschedule (.forFin
    (.applyAll (.forFin (.restartPath
    (.set (.acqSource (.deassertSrc
    (.wrAll (.setLane (.setLane (.forFin
    h.wr.maintStop.captureStop.enterDev.modPower.stopStreams.stopTables
    fun _ _ h => h.clearEngine)))))))) fun _ _ h => .ite h h.modGuard)) fun _ _ h => h.canHealth))

theorem Evolves.cmdCocoon (h : Evolves s a) : Evolves s a.cmdCocoon :=
  .ite h.wr h.enterCocoon

theorem Evolves.wakeSeen {source} (h : Evolves s a) : Evolves s (a.wakeSeen source) :=
  .ite h.modPower h

theorem Evolves.wakeBlock {x} (h : Evolves s a) : Evolves s (a.wakeBlock x) := by
  refine .ite h ?_
  have hb := h.blockIn (i := 0) (x := x)
  generalize a.blockIn 0 x = p at hb ⊢
  split
  · exact hb
  · exact .ite hb.modLane.wakeSeen hb.modLane
  · exact hb.modLane

theorem Evolves.cocoonExit (h : Evolves s a) : Evolves s a.cocoonExit :=
  .ite h.modPower.enterHatch.applyAll.restartClocks h

theorem Evolves.cocoonEntered (h : Evolves s a) : Evolves s a.cocoonEntered :=
  .ite h.modPower.cocoonExit h

theorem Evolves.command {code} (h : Evolves s a) : Evolves s (a.command code) := by
  refine .ite h (.ite h.wr (.ite h.wr (.ite h.wr (.ite h.wr ?_))))
  split
  · exact .ite h h.chargeCheck
  · exact h.cmdRun
  · exact h.cmdStop
  · exact h.wr.safeCause
  · exact h.cmdResume
  · exact h.cmdCocoon
  · exact .ite h.wr.wakeSeen h.wr
  · exact h.wr.supervisorReset
  · exact h.wr.modPower

theorem Evolves.commandCharge {cells} (h : Evolves s a) : Evolves s (a.commandCharge cells) :=
  .ite h.wr (.ite h.wr (.ite h.wr h.chargeCheck))

theorem Evolves.cellClear {mask} (h : Evolves s a) : Evolves s (a.cellClear mask) :=
  .ite h (.forFin h fun _ _ h => .ite h (.ite h.openContactor (.ite h.setByp.setCell h)))

theorem Evolves.portFreed (h : Evolves s a) : Evolves s a.portFreed := by
  dsimp only [State.portFreed]
  split
  · exact h.portServe
  · exact .ite h.portServe (.ite h.portServe.modInstall.modWdp.fwStaged.tagDone
      h.portServe.modInstall.modWdp.fwStaged)

theorem Evolves.abortOne {b} (h : Evolves s a) : Evolves s (a.abortOne b).2 := by
  dsimp only [State.abortOne]
  split
  · exact .iteSnd h.captureStop h
  · exact .iteSnd h.abortBlocks h
  · exact .iteSnd h (.iteSnd h.storeEnds.portFreed h)
  · refine .iteSnd h (.iteSnd (.snd (.fwFail ?_)) h)
    split
    · exact h.endBlock
    · split
      · exact .ite h.tagDone h
      · exact h
  · exact .iteSnd (.snd h.maintStop) h
  · exact .iteSnd h.abortMolt h
  · exact .iteSnd h.abortForwards h
  · exact h

theorem Evolves.abort {mask} (h : Evolves s a) : Evolves s (a.abort mask) := by
  unfold State.abort
  extract_lets m r
  have hr : Evolves s r.2 := .foldlSnd (.snd h) fun _ _ h => .snd h.abortOne
  exact hr.portFreed.freeVal.wrAll.count.modPower

theorem Evolves.answerActivate {status} (h : Evolves s a) : Evolves s (a.answerActivate status) := by
  unfold State.answerActivate
  split
  · exact h
  · exact .ite h.modInstall.tagDone h.modInstall

theorem Evolves.fwCommit (h : Evolves s a) : Evolves s a.fwCommit :=
  .ite h h.fwSwitch.answerActivate

theorem Evolves.fwRestart (h : Evolves s a) : Evolves s a.fwRestart :=
  .ite h (.ite h.tagsReset.fwReset.wr.modPower.bootLoad h.supervisorReset)

theorem Evolves.fwActivation {restart} (h : Evolves s a) : Evolves s (a.fwActivation restart) :=
  .ite h.fwCommit.fwRestart h.fwCommit

theorem Evolves.fwWaitLate (h : Evolves s a) : Evolves s a.fwWaitLate := by
  unfold State.fwWaitLate
  split
  · exact h
  · exact .ite h h.advanceTo.modInstall.fwState.answerActivate

/-! #### Access to the dictionary (spec/17) -/

theorem Evolves.writeCore {key v} (h : Evolves s a) : Evolves s (a.writeCore key v) :=
  .ite h.setFitted.reschedule (.ite h.command
    (.ite h.cellClear (.ite h.abort (.ite (.ite h.acquire h) (.ite h.wr.acquire h.wr)))))

theorem Evolves.carryClear {c mask} (h : Evolves s a) : Evolves s (a.carryClear c mask) :=
  .forFin h fun _ _ h => .ite h.setCarry h

theorem Evolves.commitMask {c mask} (h : Evolves s a) : Evolves s (a.commitMask c mask) :=
  .forFin h fun _ _ h => .ite h.armCommit h

theorem Evolves.writeEdge {key base sub v c} (h : Evolves s a) : Evolves s (a.writeEdge key base sub v c) := by
  refine .ite h.commitMask (.ite h.clrBits (.ite h.carryClear ?_))
  dsimp only
  split
  · exact h.wr.loadShadow
  · exact .ite h.wr.loadSlew (.ite h.wr.setCarry (.ite h.wr.syncCarriers (.ite h.wr.modCarrier h.wr)))

theorem Evolves.keepDelay {c} (h : Evolves s a) : Evolves s (a.keepDelay c) :=
  h.set

theorem Evolves.delayAll {v} (h : Evolves s a) : Evolves s (a.delayAll v) :=
  .wrAll (.forFin h fun _ _ h => h.keepDelay)

theorem Evolves.writeMeas {key base sub v} (h : Evolves s a) : Evolves s (a.writeMeas key base sub v) :=
  .ite h.setAdcs (.ite h.setPairs
    (.ite h.request (.ite h.delayAll
    (.ite h.wr.restartDsck (.ite h.keepDelay.wr
    (.ite (.forFin h.wr fun _ _ h => .ite h.restartDsck h)
    (.ite (.ite h.clrBits (.ite h.windowEnds.windowEnds.wr (.ite h.rehome.wr h.wr)))
    (.ite (.ite (.restartStream (.wr (.ite h.setFast h))) (.ite h.setFast.wr h.wr))
    (.ite h.wireStart (.ite (.reschedule (.ite h.wr h.wr.driverMode)) h.wr))))))))))

theorem Evolves.clearLoop {e mask} (h : Evolves s a) : Evolves s (a.clearLoop e mask) :=
  .forFin h fun _ _ h => .ite h.wrAll h

theorem Evolves.unvalidate {e} (h : Evolves s a) : Evolves s (a.unvalidate e) :=
  h.wr

theorem Evolves.setParams {e b data} (h : Evolves s a) : Evolves s (a.setParams e b data) :=
  h.wrAll

theorem Evolves.writeLoop {key base sub v data e} (h : Evolves s a) :
    Evolves s (a.writeLoop key base sub v data e) :=
  .ite (.ite (.ite h.validateProgram h) h.wr.unvalidate)
    (.ite (.ite h.clrBits h.clearLoop)
    (.ite h.wr.unvalidate (.ite (.ite h.wr.unvalidate (.ite h.setParams h.wr)) h.wr)))

theorem Evolves.writeProfile {key base sub v data u} (h : Evolves s a) :
    Evolves s (a.writeProfile key base sub v data u) := by
  refine .ite ?_ (.ite (.ite h.settleStep.modeRequest h.settleStep.wr.updMode) h.settleStep.wr)
  dsimp only
  split
  · exact h.settleStep.onEnable
  · exact h.settleStep.wr.wrBit
  · exact h.settleStep.setLimits
  · exact .ite h.settleStep.markSeed h.settleStep
  · exact h.settleStep.wr

theorem Evolves.writeGuard {key base sub v c} (h : Evolves s a) : Evolves s (a.writeGuard key base sub v c) :=
  .ite h.wr.applyCell (.ite h.guardRelease (.ite (.forFin h.wr fun _ _ h => .ite h.trip h) h.wr))

theorem Evolves.writeString {key base sub v u} (h : Evolves s a) :
    Evolves s (a.writeString key base sub v u).2 :=
  .iteSnd h.moltRequest h.wr

theorem Evolves.writeThermal {key base sub v} (h : Evolves s a) : Evolves s (a.writeThermal key base sub v) :=
  .ite h.wr.reschedule (.ite h.clearBroken (.ite h.rearmGroups (.ite h.clearSticky (.ite h.clrBits h.wr))))

theorem Evolves.writeNet {key base sub v data} (h : Evolves s a) :
    Evolves s (a.writeNet key base sub v data) := by
  refine .ite (h.getD fun _ => h.hostStep) (.ite h.wr.judgeConverged (.ite h.wr.wr (.ite ?_ h.wr)))
  split
  · exact h.wr.offerLease
  · exact h.wr.updRevert
  · exact h.wr.updRevert
  · exact h.wr.updPsel
  · exact h.wr.updPsel
  · exact h.setCanLease
  · exact h.wr.updRevert
  · exact h.wr

theorem Evolves.writeCan {key base sub v data u} (h : Evolves s a) :
    Evolves s (a.writeCan key base sub v data u) :=
  .ite (.ite h.wr.canModeBits.loadOut (.ite (.ite h.canApply h) h.wr))
    (.ite h.writeMsg (.ite (.ite h (.ite h.clearOverflow h.modCan))
    (.ite (.ite h (.ite h.canRecover h.dupClear)) h.wr)))

theorem Evolves.deadTimeClear (h : Evolves s a) : Evolves s a.deadTimeClear :=
  h.wrAll

theorem Evolves.writeCapture {key base v} (h : Evolves s a) : Evolves s (a.writeCapture key base v) :=
  .ite h.captureOn (.ite h.setEgress
    (.ite h.clrBits (.ite (.ite h (.ite h.captureArm
    (.ite h.captureForce (.ite h.calArm
    (.ite h.deadTimeClear (.ite h.ceqMark (.ite h.ceqRewind h.ceqRelease))))))) h.wr)))

theorem Evolves.fwCheck (h : Evolves s a) : Evolves s a.fwCheck :=
  h.wr.modInstall

theorem Evolves.writeMemory {key v data} (h : Evolves s a) : Evolves s (a.writeMemory key v data).2 :=
  .iteSnd h.maintRequest (.ite (.ite h.storeStart h)
    (.ite (.ite h.storeDefaults h)
    (.ite h.oemWrite (.ite (.ite h.fwCheck h.fwActivate) (.ite h.maintStop h.wr)))))

theorem Evolves.applyWrite {key v data} (h : Evolves s a) : Evolves s (a.applyWrite key v data).2 := by
  dsimp only [State.applyWrite]
  split
  · exact h.writeEdge
  · exact h.writeMeas
  · exact h.writeLoop
  · exact h.writeProfile
  · exact h.writeGuard
  · exact h.writeString
  · exact h.writeThermal
  · exact h.writeThermal
  · exact h.writeNet
  · exact h.writeCan
  · exact h.writeCapture
  · exact h.writeMemory
  · exact h.writeCore

theorem Evolves.writeAll {idx sub data} (h : Evolves s a) : Evolves s (a.writeAll idx sub data).2 := by
  unfold State.writeAll
  split
  · exact h
  · exact .foldlSnd h fun _ _ h => h.applyWrite

theorem Evolves.moltOutside {idx sub data} (h : Evolves s a) : Evolves s (a.moltOutside idx sub data) :=
  .ite (.foldl h fun _ _ h => .ite h.wr h) h

theorem Evolves.hostWrite {holder idx sub data} (h : Evolves s a) :
    Evolves s (a.hostWrite holder idx sub data).2 :=
  .iteSnd h.writeAll (.ite h.moltOutside h)

theorem Evolves.readEffect {key} (h : Evolves s a) : Evolves s (a.readEffect key) :=
  .ite h.clearNew (.ite h.modCan (.ite h.wr (.ite h.ceqRead (.ite h.ceqRead h))))

theorem Evolves.readDone {key} (h : Evolves s a) : Evolves s (a.readDone key) :=
  .ite h.clearFresh h.readEffect

theorem Evolves.watched {idx} (h : Evolves s a) : Evolves s (a.watched idx) :=
  .ite h.noteNumeric (.ite (.forFin h fun _ _ h => h.countRecovery) h)

theorem Evolves.hostRead {block idx sub} (h : Evolves s a) : Evolves s (a.hostRead block idx sub).2.2 := by
  dsimp only [State.hostRead]
  split
  · split
    · exact h.watched.readDone
    · exact h.watched
  · exact h.watched

theorem Evolves.answered {status data} (h : Evolves s a) : Evolves s (a.answered status data) :=
  h.set

theorem Evolves.write {idx sub data} (h : Evolves s a) : Evolves s (a.write idx sub data) :=
  .ite h.answered h.hostWrite.answered

theorem Evolves.writeNat {idx sub n v} (h : Evolves s a) : Evolves s (a.writeNat idx sub n v) :=
  h.write

theorem Evolves.read {block idx sub} (h : Evolves s a) : Evolves s (a.read block idx sub) :=
  .ite h.answered h.hostRead.answered

/-! #### Direct accesses (spec/17) -/

theorem Evolves.cmd {code} (h : Evolves s a) : Evolves s (a.cmd code) :=
  h.writeNat

theorem Evolves.respond {head status fails} (h : Evolves s a) : Evolves s (a.respond head status fails) := by
  dsimp only [State.respond]
  split
  · exact h.tagDone
  · exact .ite h.tagDone h.tagDone

theorem Evolves.answerCharge {cells} (h : Evolves s a) : Evolves s (a.answerCharge cells) :=
  .foldlSnd (.snd h.modPower) fun _ _ h =>
    .snd (.ite (.respond (.ite h h.commandCharge)) (.ite h h.commandCharge))

theorem Evolves.cmdCharge {cells} (h : Evolves s a) : Evolves s (a.cmdCharge cells) :=
  .ite h.answered (.ite h.answered h.commandCharge.answered.answerCharge)

theorem Evolves.imageWrite {size} (h : Evolves s a) : Evolves s (a.imageWrite size) :=
  .ite h.answered (.answered (.ite h.fwStage h))

theorem Evolves.maint {act arg duration} (h : Evolves s a) : Evolves s (a.maint act arg duration) :=
  h.write

/-! #### The dictionary protocol (spec/17) -/

theorem Evolves.taken {o func nodes} (h : Evolves s a) : Evolves s (a.taken o func nodes) := by
  unfold State.taken
  split
  · dsimp only
    split
    · exact h.clearNew
    · exact h
  · exact h

theorem Evolves.runWrite {head holder idx sub data fails} (h : Evolves s a) :
    Evolves s (a.runWrite head holder idx sub data fails) :=
  .ite h.wr.respond.hostWrite (.ite h.hostWrite.modPower (.ite h.hostWrite.modInstall h.hostWrite.respond))

theorem Evolves.startBlock {o holder t} (h : Evolves s a) : Evolves s (a.startBlock o holder t).2.2 := by
  unfold State.startBlock
  extract_lets idx sub run
  have hrun {b x} (h : Evolves s b) : Evolves s (run b x) := h.modWdp
  refine .iteSndSnd (.iteSndSnd h (.iteSndSnd h ?_)) (.iteSndSnd h (.iteSndSnd h ?_))
  · exact hrun h.hostRead
  · exact hrun (.ite h.fwStage h)

theorem Evolves.serve {o func t} (h : Evolves s a) : Evolves s (a.serve o func t) := by
  refine .ite h.respond (.ite (.ite h.runWrite h.respond) ?_)
  split
  · exact h.hostRead.tagDone
  · exact h.runWrite
  · exact .ite h.startBlock.reply h.respond
  · exact .ite h.startBlock.reply h.respond
  · exact h.respond

theorem Evolves.applySwarm {o func t} (h : Evolves s a) : Evolves s (a.applySwarm o func t) :=
  .ite h (.ite h.hostWrite (.ite h.hostWrite (.ite h.startBlock h)))

theorem Evolves.swarmApply {w} (h : Evolves s a) : Evolves s (a.swarmApply w) :=
  .ite (.ite (.ite h.respond (.ite h.startBlock.reply h.startBlock.reply)) (.ite h.runWrite h.runWrite))
    (.ite h.applySwarm.modCapture h.applySwarm)

theorem Evolves.swarmGo {n} (h : Evolves s a) : Evolves s (a.swarmGo n) := by
  induction n generalizing a with
  | zero => exact h
  | succ n ih =>
    unfold State.swarmGo
    split
    · exact h
    · exact .ite (ih h.set.swarmApply) h.set.sendReliable

theorem Evolves.swarmKick (h : Evolves s a) : Evolves s a.swarmKick := by
  unfold State.swarmKick
  split
  · exact .ite h.swarmGo h
  · exact h

theorem Evolves.swarmStart {channel t answered} (h : Evolves s a) :
    Evolves s (a.swarmStart channel t answered) :=
  h.set.swarmKick

theorem Evolves.swarmNext {p ok} (h : Evolves s a) : Evolves s (a.swarmNext p ok) := by
  unfold State.swarmNext
  split
  · exact .ite h h.set.swarmGo
  · exact h

theorem Evolves.serveSwarm {o func t} (h : Evolves s a) : Evolves s (a.serveSwarm o func t) := by
  refine .ite h.respond (.ite h.respond ?_)
  split
  · exact h.swarmStart
  · exact h

theorem Evolves.byTag {o t run} (h : Evolves s a) (hrun : ∀ b, Evolves s b → Evolves s (run b)) :
    Evolves s (a.byTag o t run) :=
  .ite (hrun _ h.setTag.count) (.ite (.ite h.count h.count.reply)
    (hrun _ (.count (.setTag (.swarmKick (.count (.suppress (.ite h.stopWork h))))))))

theorem Evolves.busy {o t} (h : Evolves s a) : Evolves s (a.busy o t) := by
  unfold State.busy
  split
  · exact h.queueOut
  · exact h.sendReliable

theorem Evolves.modForwarded {f} (h : Evolves s a) : Evolves s (a.modForwarded f) :=
  h.set

theorem Evolves.dropForward {node tg} (h : Evolves s a) : Evolves s (a.dropForward node tg) :=
  h.set

theorem Evolves.answerFor {node channel tg data} (h : Evolves s a) :
    Evolves s (a.answerFor node channel tg data) :=
  h.queueOut

theorem Evolves.forward {u func t} (h : Evolves s a) : Evolves s (a.forward u func t) :=
  .ite h (.ite h.answerFor (.ite h.sendReliable
    (.ite h (.ite (.answerFor (.modForwarded (.foldl h fun _ _ h => h.dropForward.sendReliable)))
    (.sendReliable (.count (.set (.modForwarded (.foldl h fun _ _ h => h.dropForward.sendReliable)))))))))

theorem Evolves.unreachable {f} (h : Evolves s a) : Evolves s (a.unreachable f) :=
  h.modForwarded.dropForward.answerFor

theorem Evolves.forwardLate {node tg} (h : Evolves s a) : Evolves s (a.forwardLate node tg) := by
  unfold State.forwardLate
  split
  · exact h
  · exact h.advanceTo.unreachable.count

theorem Evolves.takeResponse {node channel data} (h : Evolves s a) :
    Evolves s (a.takeResponse node channel data) :=
  .ite h.count (.ite h.modForwarded.answerFor h.count)

theorem Evolves.receive {o func t here} (h : Evolves s a) (hhere : ∀ b, Evolves s b → Evolves s (here b)) :
    Evolves s (a.receive o func t here) := by
  refine .ite (.ite h.taken.busy (hhere _ h.taken)) ?_
  split
  · exact .ite h.taken (.ite (.ite (.byTag h.taken fun _ h => h.serveSwarm) h.taken) h.taken.forward)
  · exact h.taken

theorem Evolves.transact {o func t} (h : Evolves s a) : Evolves s (a.transact o func t) :=
  .receive h fun _ h => .byTag h fun _ h => h.serve

theorem Evolves.modBlock {tg f} (h : Evolves s a) : Evolves s (a.modBlock tg f) :=
  h.modWdp

theorem Evolves.blockOut {b op status seg data} (h : Evolves s a) :
    Evolves s (a.blockOut b op status seg data) :=
  h.reply

theorem Evolves.blockWritten {b} (h : Evolves s a) : Evolves s (a.blockWritten b) :=
  .ite h.endBlock (.ite (.ite h.modInstall h.modWdp.fwStaged.respond) h.modWdp.runWrite)

theorem Evolves.segment {o t} (h : Evolves s a) : Evolves s (a.segment o t) := by
  unfold State.segment
  split
  · exact h.count
  · refine .ite h.reply (.ite h.reply ?_)
    extract_lets whole s1 s2 b1 s3
    have h3 : Evolves s s3 := .modBlock (.ite h.modBlock.fwBytes h.modBlock)
    exact .ite h.modBlock.blockOut (.ite h3.blockWritten (.ite h3.blockOut h3))

theorem Evolves.window {o t} (h : Evolves s a) : Evolves s (a.window o t) := by
  unfold State.window
  split
  · exact h.count
  · exact .ite h.reply (.ite h.modBlock.reply
      (.ite h.modBlock.dropBlock.setTag (.foldl h.modBlock fun _ _ h => h.blockOut)))

theorem Evolves.blockTelegram {o t} (h : Evolves s a) : Evolves s (a.blockTelegram o t) :=
  .ite h.reply (.ite h.segment h.window)

theorem Evolves.blockLate {tg} (h : Evolves s a) : Evolves s (a.blockLate tg) := by
  unfold State.blockLate
  split
  · exact h
  · exact h.advanceTo.endBlock

theorem Evolves.abortTag {o t} (h : Evolves s a) : Evolves s (a.abortTag o t) :=
  .ite h.reply (.ite h.reply (.ite h.stopWork.setTag.reply.swarmKick h.reply))

/-! #### Telegrams without a response (spec/17) -/

theorem Evolves.safeTelegram {u t} (h : Evolves s a) : Evolves s (a.safeTelegram u t) :=
  .ite h.taken (.ite h.taken.ignored (.ite h.taken.safeCause.swarmStart h.taken.safeCause))

theorem Evolves.leaseTelegram {u t action} (h : Evolves s a) : Evolves s (a.leaseTelegram u t action) := by
  refine .ite h.taken (.ite h.taken.ignored ?_)
  dsimp only
  split
  · exact .ite h.taken.setCanHolder h.taken.ignored
  · exact .ite h.taken.canRelease h.taken
  · exact .ite (.ite h.taken h.taken.setCanHolder) h.taken.ignored

theorem Evolves.cyclicWrites {data es} (h : Evolves s a) : Evolves s (a.cyclicWrites data es) := by
  induction es generalizing a data with
  | nil => exact h
  | cons e es ih => exact ih (.ite h.hostWrite h.hostWrite.count)

theorem Evolves.cyclicCommand {u data} (h : Evolves s a) : Evolves s (a.cyclicCommand u data) :=
  .ite h (.ite h.taken.ignored (.ite h.taken.count h.taken.cyclicWrites))

theorem Evolves.toMultiple {n last} (h : Evolves s a) : Evolves s (a.toMultiple n last) :=
  h.advance

theorem Evolves.cyclicReads {es} (h : Evolves s a) : Evolves s (a.cyclicReads es).2 := by
  induction es generalizing a with
  | nil => exact h
  | cons e es ih => exact ih h.readEffect

theorem Evolves.cyclicStatus (h : Evolves s a) : Evolves s a.cyclicStatus :=
  .ite h h.toMultiple.modWdp.cyclicReads.loadSystem

theorem Evolves.timeTelegram (h : Evolves s a) : Evolves s a.timeTelegram :=
  .ite h h.toMultiple.modWdp.modWdp.loadSystem

/-! #### Frames end to end (spec/14) -/

theorem Evolves.ackFrame {f} (h : Evolves s a) : Evolves s (a.ackFrame f) := by
  unfold State.ackFrame
  split
  · exact h
  · exact .ite h (.ite (.ite h.nextWaiting.swarmNext h.nextWaiting) h.nextWaiting.egressAck)

theorem Evolves.frameFails {u} (h : Evolves s a) : Evolves s (a.frameFails u) := by
  refine .ite (.ite h.nextWaiting.count.swarmNext ?_) h.nextWaiting.count.egressFail
  split
  · exact .ite h.nextWaiting.count.unreachable h.nextWaiting.count
  · exact h.nextWaiting.count

theorem Evolves.retry {u} (h : Evolves s a) : Evolves s (a.retry u) :=
  .ite h.frameFails h.resend

theorem Evolves.nakFrame {f} (h : Evolves s a) : Evolves s (a.nakFrame f) := by
  unfold State.nakFrame
  split
  · exact h
  · exact h.retry

theorem Evolves.retryLate {typ dst q} (h : Evolves s a) : Evolves s (a.retryLate typ dst q) := by
  unfold State.retryLate
  split
  · exact h
  · exact .ite h h.advanceTo.retry

theorem Evolves.dictTake {f} (h : Evolves s a) : Evolves s (a.dictTake f) := by
  refine .ite ?_ (.ite h.count ?_)
  · split
    · exact h.takeResponse
    · exact h.takeResponse
    · exact h
  · split
    · exact .ite h.transact (.ite (.receive h fun _ h => h.blockTelegram) h)
    · exact .receive h fun _ h => h.abortTag
    · exact h.set
    · exact h

theorem Evolves.dictHold {f} (h : Evolves s a) : Evolves s (a.dictHold f) :=
  .set (.iteSnd h.freeIn (.iteSnd h.freeIn h.freeIn))

theorem Evolves.dictFrame {f} (h : Evolves s a) : Evolves s (a.dictFrame f) :=
  .ite h.ignored (.ite h.count (.ite h.acceptSeq.dictHold.dictTake h.acceptSeq))

theorem Evolves.dictKind {kind f} (h : Evolves s a) : Evolves s (a.dictKind kind f) :=
  .ite (.frameRow h fun _ h => h.dictFrame) h

theorem Evolves.crcBad {i} (h : Evolves s a) : Evolves s (a.crcBad i) :=
  .ite (.updRevert (.releaseOn (.modLane (.modLane (.count (.ite h.noteErrors h))))))
    (.modLane (.count (.ite h.noteErrors h)))

theorem Evolves.enumFrame {f} (h : Evolves s a) : Evolves s (a.enumFrame f) := by
  unfold State.enumFrame
  split
  · exact h.takeAssign
  · exact h.takeEnd
  · exact h.takeRateStep
  · exact h.takeAssign
  · exact h.takeDone
  · exact h.takeJoin
  · exact h.roleConflict
  · exact h

theorem Evolves.lineInstant {rate} (h : Evolves s a) : Evolves s (a.lineInstant rate).2 :=
  h.freeIn

theorem Evolves.consume {f} (h : Evolves s a) : Evolves s (a.consume f) := by
  unfold State.consume
  extract_lets s0
  have hp : Evolves s (if f.typ = 5 || f.typ = 6 || f.typ = 8 then s0.lineInstant (s0.laneRate (inLane f))
      else (0, s0)).2 := .iteSnd (.lineInstant (.ite h.received h)) (.ite h.received h)
  generalize (if f.typ = 5 || f.typ = 6 || f.typ = 8 then s0.lineInstant (s0.laneRate (inLane f))
      else (0, s0)) = p at hp ⊢
  dsimp only
  split
  · exact hp.stringFrame
  · exact hp.takeStatus
  · exact hp.dictFrame
  · exact hp.timeSync
  · exact hp.delayReq
  · exact hp.delayResp
  · exact hp.leaseFrame
  · split
    · exact hp.beaconReceive
    · exact hp.echoReturn
    · exact hp.echoReply
  · exact hp.captureFrame
  · exact hp.triggerFrame
  · exact hp.enumFrame
  · exact hp.eventFrame
  · exact hp.safeFrame
  · exact hp.ackFrame
  · exact hp.nakFrame
  · exact hp

theorem Evolves.forwardFrame {i f cut} (h : Evolves s a) : Evolves s (a.forwardFrame i f cut) :=
  .ite h.count (.enqueue (.iteSnd h.lineInstant h))

theorem Evolves.cutFrame {i b} (h : Evolves s a) : Evolves s (a.cutFrame i b) :=
  .ite h.forwardFrame h

theorem Evolves.routeFrame {i f} (h : Evolves s a) : Evolves s (a.routeFrame i f) :=
  .ite (.consume (.ite h.forwardFrame h)) (.ite h.forwardFrame h)

theorem Evolves.frameIn {i b ended} (h : Evolves s a) : Evolves s (a.frameIn i b ended) :=
  .ite h (.ite h.count.cutFrame (.ite h.crcBad.cutFrame (.ite h.count h.routeFrame)))

theorem Evolves.lineIn {i blocks} (h : Evolves s a) : Evolves s (a.lineIn i blocks) :=
  h.codeErrorsOn.count.modLane

theorem Evolves.blocksIn {i blocks} (h : Evolves s a) : Evolves s (a.blocksIn i blocks) := by
  refine .ite h (.ite h.lineIn.modLane ?_)
  split
  · exact h.lineIn.frameIn
  · exact h.lineIn

theorem Evolves.departs {i x} (h : Evolves s a) : Evolves s (a.departs i x).2 :=
  .iteSnd h h.lineInstant

theorem Evolves.swarmAct {f} (h : Evolves s a) : Evolves s (a.swarmAct f) :=
  .ite h.set h.set.applySwarm

theorem Evolves.putFrame {i x} (h : Evolves s a) : Evolves s (a.putFrame i x).2 :=
  h.advanceTo.departs.modLane.putLine

theorem Evolves.transmit {i} (h : Evolves s a) : Evolves s (a.transmit i) := by
  refine .ite h ?_
  split
  · exact h
  · have hp := h.putFrame (i := i) (x := ‹_›)
    dsimp only
    split
    · exact hp
    · exact hp.advanceTo.swarmAct

theorem Evolves.calDrive {line} (h : Evolves s a) : Evolves s (a.calDrive line) :=
  h.modCapture.wr.calEdge

theorem Evolves.calStep {line} (h : Evolves s a) : Evolves s (a.calStep line) := by
  refine .ite h ?_
  split
  · exact .ite h h.modCapture.swarmStart
  · exact h.advanceTo.advance.modCapture.calDrive
  · exact h.advance.modCapture.calDrive
  · exact h

/-! ### What a command does -/

/-- Every command answers a next state, and what it does is a chain of the operations above. -/
theorem exec_evolves (c : Instr) (s : State) : Completes c s (Evolves s) := by
  have h := Evolves.refl s
  cases c with
  | powerOnResetRelease role => exact ⟨_, rfl, h.porRelease⟩
  | resetNRelease role => exact ⟨_, rfl, h.pinRelease⟩
  | cmdCharge cells => exact ⟨_, rfl, h.cmdCharge⟩
  | cellClear mask => exact ⟨_, rfl, h.writeNat⟩
  | cellFittedWrite mask => exact ⟨_, rfl, h.writeNat⟩
  | wakePinHigh ticks => exact ⟨_, rfl, .ite h.wakeSeen h⟩
  | supervisorWatchdogExpiry serviced => exact ⟨_, rfl, h.watchdog⟩
  | pllRestart p v => exact ⟨_, rfl, .ite h.writeNat h.writeNat⟩
  | pllLockDeclared p counts => exact ⟨_, rfl, h.lock⟩
  | pllLockLost p evidence => exact ⟨_, rfl, h.lockLost⟩
  | pllAcquisitionTimeout p => exact ⟨_, rfl, h.acqLate⟩
  | refclkLost edges => exact ⟨_, rfl, h.refLost⟩
  | refclkPresent counts => exact ⟨_, rfl, h.refPresent.bootLoad⟩
  | relaxOscOutOfRange cycles => exact ⟨_, rfl, .ite h h.oscCheck⟩
  | fineCalLineMeasure l plausible elements => exact ⟨_, rfl, h.measureLine⟩
  | fineCalTableApply l => exact ⟨_, rfl, h.applyLine⟩
  | bypSenseRelease c => exact ⟨_, rfl, h.bypRelease⟩
  | bypSenseSample c high => exact ⟨_, rfl, h.bypSample.checkStop⟩
  | bypSenseCycleStart c => exact ⟨_, rfl, h.bypCycle⟩
  | jtagExtest scan => exact ⟨_, rfl, h.extest⟩
  | jtagBypass bits => exact ⟨_, rfl, h.loadJtag.bypassScan⟩
  | jtagSamplePreload outside shifted => exact ⟨_, rfl, h.loadJtag.boundaryScan⟩
  | jtagIdcode scan => exact ⟨_, rfl, h.jtagId⟩
  | carrierZero k => exact ⟨_, rfl, h.zero⟩
  | carrierApex k => exact ⟨_, rfl, h.apex⟩
  | tcmpEvent k => exact ⟨_, rfl, h.tcmpEvent⟩
  | shadowTransfer k apex => exact ⟨_, rfl, h.transferInstant⟩
  | legCommandChange l high at_ => exact ⟨_, rfl, h.legChange⟩
  | erasedPulseEnd l => exact ⟨_, rfl, h.erasedEnd⟩
  | deadtimeTurnOn l => exact ⟨_, rfl, h.deadEnd⟩
  | refreshPulseEnd l => exact ⟨_, rfl, h.refreshEnd⟩
  | commit c mask => exact ⟨_, rfl, h.writeNat⟩
  | carryClear c mask => exact ⟨_, rfl, h.writeNat⟩
  | sequenceTrigger a => exact ⟨_, rfl, h.seqTrigger⟩
  | adcHold a => exact ⟨_, rfl, h.adcHold⟩
  | adcResultWritten a code => exact ⟨_, rfl, h.adcResult⟩
  | ondemand ch => exact ⟨_, rfl, h.writeNat⟩
  | urgentConversionStart a => exact ⟨_, rfl, h.urgentStart⟩
  | windowTrip ch high level => exact ⟨_, rfl, h.windowTrip⟩
  | windowRelease ch high level => exact ⟨_, rfl, h.windowRelease⟩
  | openWireRequest mask => exact ⟨_, rfl, h.writeNat⟩
  | openWireSettleExpiry a code => exact ⟨_, rfl, h.wireSettled⟩
  | dsdMainResult s bits start stop => exact ⟨_, rfl, h.mainResult⟩
  | dsdAlignEvent s => exact ⟨_, rfl, h.alignEvent⟩
  | fastComparatorTrip s bits => exact ⟨_, rfl, h.fastTrip⟩
  | streamFault s bits => exact ⟨_, rfl, h.streamFault⟩
  | streamFaultClear s bits => exact ⟨_, rfl, h.streamClean⟩
  | dfPeriodMeasured d period high => exact ⟨_, rfl, h.driverPeriod⟩
  | dfFaultRecognised d low => exact ⟨_, rfl, h.driverFault⟩
  | dfFaultEnd d => exact ⟨_, rfl, h.driverFaultEnds⟩
  | dfTelemetryInvalid d high => exact ⟨_, rfl, h.driverInvalid⟩
  | resultRead stream n valueOnly => exact ⟨_, rfl, h.read⟩
  | loopTaskTrigger e t => exact ⟨_, rfl, h.taskTrigger⟩
  | loopRunRelease e t => exact ⟨_, rfl, h.release⟩
  | loopDeadlineMiss e t => exact ⟨_, rfl, h.late⟩
  | validate e v => exact ⟨_, rfl, h.writeNat⟩
  | loopStatusClear e mask => exact ⟨_, rfl, h.writeNat⟩
  | profileStep e => exact ⟨_, rfl, h.profileStep⟩
  | profileRestart e n v => exact ⟨_, rfl, h.writeNat⟩
  | limitsSet e n vMax aMax jMax tol => exact ⟨_, rfl, h.write⟩
  | modeReq c v => exact ⟨_, rfl, h.writeNat⟩
  | externalFaultChange fltP fltN safeN => exact ⟨_, rfl, h.extChange⟩
  | safePatternTurnOn c b => exact ⟨_, rfl, h.safeTurnOn⟩
  | guardRelease c mask => exact ⟨_, rfl, h.writeNat⟩
  | autoRelease c b => exact ⟨_, rfl, h.autoRelease⟩
  | bypassCommandClose c => exact ⟨_, rfl, h.bypassClose.checkStop⟩
  | bypassTimeout c => exact ⟨_, rfl, h.bypassLate.checkStop⟩
  | bypassOpenTimeout c => exact ⟨_, rfl, h.openLate.checkStop⟩
  | bypMismatchTimeout c => exact ⟨_, rfl, h.mismatchLate⟩
  | stringAssembly => exact ⟨_, rfl, h.assembly⟩
  | stringFrameIssue => exact ⟨_, rfl, h.issue⟩
  | stringFrameAccept f => exact ⟨_, rfl, .frameRow h fun _ h => h.stringFrame⟩
  | statusFrameReceive f => exact ⟨_, rfl, .frameRow h fun _ h => h.takeStatus⟩
  | moltRemove s => exact ⟨_, rfl, h.writeNat⟩
  | moltInsert s => exact ⟨_, rfl, h.writeNat⟩
  | prechargeTimeout s => exact ⟨_, rfl, h.prechargeLate⟩
  | stopTimeout => exact ⟨_, rfl, h.stopLate⟩
  | thermalSampleDue n => exact ⟨_, rfl, h.sampleDue⟩
  | thermalSampleProcess n => exact ⟨_, rfl, h.sampleProcess⟩
  | lockoutRecordWritten g ok => exact ⟨_, rfl, h.recordWritten.portFreed⟩
  | brokenClear mask => exact ⟨_, rfl, h.writeNat⟩
  | rearm mask => exact ⟨_, rfl, h.writeNat⟩
  | collectorDecision equalRails parityBad => exact ⟨_, rfl, .ite h h.noteNumeric.decide⟩
  | collectorDecisionTimeout => exact ⟨_, rfl, .ite h h.decisionLate⟩
  | stickyClear w mask => exact ⟨_, rfl, h.writeNat⟩
  | wdpEventSend => exact ⟨_, rfl, h.loadEvent⟩
  | eventFrameSend => exact ⟨_, rfl, h.sendEvents⟩
  | eventFrameReceive f => exact ⟨_, rfl, .frameRow h fun _ h => h.eventFrame⟩
  | safeFrameReceive f => exact ⟨_, rfl, .frameRow h fun _ h => h.safeFrame⟩
  | laneLosDeclared i peak ticks => exact ⟨_, rfl, h.los⟩
  | laneLosCleared i least ticks => exact ⟨_, rfl, h.losEnds⟩
  | laneLolDeclared i why => exact ⟨_, rfl, h.lol⟩
  | laneCommaAligned i commas => exact ⟨_, rfl, h.commaAlign⟩
  | slipPositionTest i headers => exact ⟨_, rfl, h.slipTest⟩
  | trainBlockReceive i block => exact ⟨_, rfl, h.trainBlock⟩
  | fillerBlockReceive i drift block => exact ⟨_, rfl, h.fillerIn⟩
  | fillerInsert i drift => exact ⟨_, rfl, h.fillerFill⟩
  | fillerSend i => exact ⟨_, rfl, h.fillerOut⟩
  | enumDelayExpiry => exact ⟨_, rfl, h.enumDelay⟩
  | enumAssignReceive q payload => exact ⟨_, rfl, .enumRow h fun _ h => h.takeAssign⟩
  | enumEndReceive q payload => exact ⟨_, rfl, .enumRow h fun _ h => h.takeEnd⟩
  | enumRateStepReceive q payload => exact ⟨_, rfl, .enumRow h fun _ h => h.takeRateStep⟩
  | rateStepPllRestart q => exact ⟨_, rfl, h.stepPll⟩
  | rateStepTimeout q => exact ⟨_, rfl, h.stepLate⟩
  | enumCheckReceive q payload => exact ⟨_, rfl, .enumRow h fun _ h => h.takeAssign⟩
  | enumDoneReceive q payload => exact ⟨_, rfl, .enumRow h fun _ h => h.takeDone⟩
  | hatchYWaitExpiry => exact ⟨_, rfl, h.yWaitEnds⟩
  | enumConflictReceive q payload => exact ⟨_, rfl, .enumRow h fun _ h => h.roleConflict⟩
  | roleConflictDetect ticks => exact ⟨_, rfl, .ite h.roleConflict h⟩
  | enumJoinReceive q payload => exact ⟨_, rfl, .enumRow h fun _ h => h.takeJoin⟩
  | joinDwellExpiry q => exact ⟨_, rfl, h.dwellEnds⟩
  | wakeBlockReceive block => exact ⟨_, rfl, h.wakeBlock⟩
  | wakeFrameRepeat => exact ⟨_, rfl, h.wakeRepeat⟩
  | frameReceive i blocks => exact ⟨_, rfl, h.blocksIn⟩
  | frameTransmitSelect i => exact ⟨_, rfl, h.transmit⟩
  | ackReceive f => exact ⟨_, rfl, .frameRow h fun _ h => h.ackFrame⟩
  | nakReceive f => exact ⟨_, rfl, .frameRow h fun _ h => h.nakFrame⟩
  | retryTimeout typ dst path => exact ⟨_, rfl, h.retryLate⟩
  | dictRequestReceive f => exact ⟨_, rfl, h.dictKind⟩
  | dictResponseReceive f => exact ⟨_, rfl, h.dictKind⟩
  | dictAbortReceive f => exact ⟨_, rfl, h.dictKind⟩
  | dictSwarmReceive f => exact ⟨_, rfl, h.dictKind⟩
  | dictBusyReceive f => exact ⟨_, rfl, h.dictKind⟩
  | forwardTimeout node tag => exact ⟨_, rfl, h.forwardLate⟩
  | delayExchangeDue => exact ⟨_, rfl, h.exchangeDue⟩
  | delayReqReceive f rxTime => exact ⟨_, rfl, .frameRow h fun _ h => h.delayReq⟩
  | delayRespReceive f rxTime => exact ⟨_, rfl, .frameRow h fun _ h => h.delayResp⟩
  | timeSyncIncrement f => exact ⟨_, rfl, .frameRow h fun _ h => h.timeSync⟩
  | timeSyncSet f => exact ⟨_, rfl, .frameRow h fun _ h => h.timeSync⟩
  | timeSyncStep f => exact ⟨_, rfl, .frameRow h fun _ h => h.timeSync⟩
  | timeIncrementWrite v => exact ⟨_, rfl, h.writeNat⟩
  | timeStep data => exact ⟨_, rfl, h.writeNat⟩
  | comparatorFire k => exact ⟨_, rfl, h.fire⟩
  | tsyncPulseStart => exact ⟨_, rfl, h.tsyncStart⟩
  | tsyncPulseEnd => exact ⟨_, rfl, h.tsyncFall⟩
  | tsyncInputEdge => exact ⟨_, rfl, .ite h.wr.count h⟩
  | orsolaneDueInstant => exact ⟨_, rfl, h.dueInstant⟩
  | leaseExpiry => exact ⟨_, rfl, h.leaseExpires⟩
  | leaseFrameRenew f => exact ⟨_, rfl, .frameRow h fun _ h => h.leaseFrame⟩
  | leaseFrameRelease f => exact ⟨_, rfl, .frameRow h fun _ h => h.leaseFrame⟩
  | leaseFrameRevert f => exact ⟨_, rfl, .frameRow h fun _ h => h.leaseFrame⟩
  | revertHoldoffExpiry can => exact ⟨_, rfl, h.revertReady⟩
  | leaseNsWrite v => exact ⟨_, rfl, h.writeNat⟩
  | pselNChange low ticks => exact ⟨_, rfl, h.pselChange⟩
  | pselHoldoffExpiry => exact ⟨_, rfl, h.pselHoldoff⟩
  | pselStuck => exact ⟨_, rfl, h.pselStuck⟩
  | fireflyBeaconSend p q => exact ⟨_, rfl, h.beaconSend⟩
  | fireflyBeaconReceive f => exact ⟨_, rfl, .frameRow h fun _ h => h.beaconReceive⟩
  | fireflyEchoSend => exact ⟨_, rfl, h.echoSend⟩
  | fireflyEchoRequestReceive f => exact ⟨_, rfl, .frameRow h fun _ h => h.echoReturn⟩
  | fireflyEchoReplyReceive f rxTime => exact ⟨_, rfl, .frameRow h fun _ h => h.echoReply⟩
  | healthEvaluation q bits errors others margin => exact ⟨_, rfl, h.evalHealth⟩
  | canLeaseExpiry => exact ⟨_, rfl, h.canExpires⟩
  | canApply u v => exact ⟨_, rfl, h.writeNat⟩
  | canTimingChange u => exact ⟨_, rfl, h.canTimingChange⟩
  | canFrameReceive u f => exact ⟨_, rfl, h.canReceive⟩
  | canObjectConfigure u n data => exact ⟨_, rfl, h.write⟩
  | canTransmitRequest u n data => exact ⟨_, rfl, h.write⟩
  | canTransmitCancel u n data => exact ⟨_, rfl, h.write⟩
  | canObjectRead u n => exact ⟨_, rfl, h.read⟩
  | canTransmitStart u => exact ⟨_, rfl, h.canStart⟩
  | canTransmitComplete u ok => exact ⟨_, rfl, h.canComplete⟩
  | canErrorDetected u code dataPhase transmitter collision place => exact ⟨_, rfl, h.canError⟩
  | canRecoveryComplete u => exact ⟨_, rfl, h.canRecovered⟩
  | canRecover u v => exact ⟨_, rfl, h.writeNat⟩
  | dupClear u v => exact ⟨_, rfl, h.writeNat⟩
  | lecRead u dlec => exact ⟨_, rfl, h.read⟩
  | timestampEntryRead u => exact ⟨_, rfl, h.read⟩
  | timestampFlush u v => exact ⟨_, rfl, h.writeNat⟩
  | canBusMonitorEnter u => exact ⟨_, rfl, h.canMonitor⟩
  | wdpRead o t => exact ⟨_, rfl, h.transact⟩
  | wdpWrite o t => exact ⟨_, rfl, h.transact⟩
  | wdpBlockRead o t => exact ⟨_, rfl, h.transact⟩
  | wdpBlockWrite o t => exact ⟨_, rfl, h.transact⟩
  | wdpSegment o t => exact ⟨_, rfl, .receive h fun _ h => h.blockTelegram⟩
  | wdpWindow o t => exact ⟨_, rfl, .receive h fun _ h => h.blockTelegram⟩
  | blockTimeout tagGen => exact ⟨_, rfl, h.blockLate⟩
  | wdpState o t => exact ⟨_, rfl, h.transact⟩
  | wdpAbort o t => exact ⟨_, rfl, .receive h fun _ h => h.abortTag⟩
  | wdpSafe u t => exact ⟨_, rfl, h.safeTelegram⟩
  | wdpLeaseRenew u t => exact ⟨_, rfl, h.leaseTelegram⟩
  | wdpLeaseRelease u t => exact ⟨_, rfl, h.leaseTelegram⟩
  | wdpLeaseRevert u t => exact ⟨_, rfl, h.leaseTelegram⟩
  | wdpCyclicCommand u data => exact ⟨_, rfl, h.cyclicCommand⟩
  | cyclicStatusSend => exact ⟨_, rfl, h.cyclicStatus⟩
  | timeTelegramSend => exact ⟨_, rfl, h.timeTelegram⟩
  | captureEnable v => exact ⟨_, rfl, h.writeNat⟩
  | captureArm v => exact ⟨_, rfl, h.writeNat⟩
  | captureForce v => exact ⟨_, rfl, h.writeNat⟩
  | captureSample => exact ⟨_, rfl, h.captureSample⟩
  | captureDecision cond => exact ⟨_, rfl, h.captureDecide⟩
  | captureRecordClose => exact ⟨_, rfl, h.recordClose⟩
  | trigLineFall line => exact ⟨_, rfl, h.trigFall⟩
  | trigDriveEnd line => exact ⟨_, rfl, h.trigRelease⟩
  | triggerFrameReceive f => exact ⟨_, rfl, .frameRow h fun _ h => h.triggerFrame⟩
  | calArm v => exact ⟨_, rfl, h.writeNat⟩
  | trigCalTimeout line => exact ⟨_, rfl, h.calLate⟩
  | trigCalDrive line => exact ⟨_, rfl, h.calStep⟩
  | deadTimeClear v => exact ⟨_, rfl, h.writeNat⟩
  | ceqWordRead => exact ⟨_, rfl, h.read⟩
  | ceqWindowRead => exact ⟨_, rfl, h.read⟩
  | ceqMark v => exact ⟨_, rfl, h.writeNat⟩
  | ceqRewind v => exact ⟨_, rfl, h.writeNat⟩
  | ceqRelease v => exact ⟨_, rfl, h.writeNat⟩
  | egressWrite v => exact ⟨_, rfl, h.writeNat⟩
  | captureFrameSend => exact ⟨_, rfl, h.captureSend⟩
  | egressHoldoffExpiry => exact ⟨_, rfl, h.egressRetry⟩
  | captureFrameReceive f => exact ⟨_, rfl, .frameRow h fun _ h => h.captureFrame⟩
  | store v => exact ⟨_, rfl, h.writeNat⟩
  | storeComplete ok => exact ⟨_, rfl, h.storeDone.portFreed⟩
  | defaults v => exact ⟨_, rfl, h.writeNat⟩
  | oemAreaWrite data => exact ⟨_, rfl, h.write⟩
  | fwImageWrite size => exact ⟨_, rfl, h.imageWrite⟩
  | fwCheck => exact ⟨_, rfl, h.writeNat⟩
  | fwCheckComplete => exact ⟨_, rfl, h.fwChecked⟩
  | fwActivate => exact ⟨_, rfl, h.writeNat⟩
  | fwActivation restart => exact ⟨_, rfl, h.fwActivation⟩
  | activateWaitExpiry => exact ⟨_, rfl, h.fwWaitLate⟩
  | maintStandbySoak arg duration => exact ⟨_, rfl, h.maint⟩
  | maintLanePrbs arg duration => exact ⟨_, rfl, h.maint⟩
  | maintOpenWireSweep arg duration => exact ⟨_, rfl, h.maint⟩
  | maintNtcSweep arg duration => exact ⟨_, rfl, h.maint⟩
  | maintFineDelaySweep arg duration => exact ⟨_, rfl, h.maint⟩
  | maintGateLoopback arg duration => exact ⟨_, rfl, h.maint⟩
  | maintNvScrub arg duration => exact ⟨_, rfl, h.maint⟩
  | maintFailoverDrill arg duration => exact ⟨_, rfl, h.maint⟩
  | maintStop mask => exact ⟨_, rfl, h.writeNat⟩
  | maintActivityEnd slot outcome v1 v2 v3 => exact ⟨_, rfl, h.maintEnds⟩
  | objectWrite index sub data => exact ⟨_, rfl, h.write⟩
  | fastComparatorRelease s bits => exact ⟨_, rfl, h.fastRelease⟩
  | relaxationOscillatorInRange cycles => exact ⟨_, rfl, .ite h.oscCheck h⟩
  | powerOnResetAssert => exact ⟨_, rfl, h.porAssert⟩
  | resetNAssert => exact ⟨_, rfl, h.pinAssert⟩
  | deviceReset => exact ⟨_, rfl, h.commandReset⟩
  | bootComplete => exact ⟨_, rfl, h.bootComplete⟩
  | supervisorRestartComplete => exact ⟨_, rfl, h.supervisorBack⟩
  | cmdRun => exact ⟨_, rfl, h.cmd⟩
  | cmdStop => exact ⟨_, rfl, h.cmd⟩
  | cmdSafe => exact ⟨_, rfl, h.cmd⟩
  | cmdResume => exact ⟨_, rfl, h.cmd⟩
  | cmdCocoon => exact ⟨_, rfl, h.cmd⟩
  | cocoonEntryComplete => exact ⟨_, rfl, h.cocoonEntered⟩
  | cmdWake => exact ⟨_, rfl, h.cmd⟩
  | cmdSupervisorRestart => exact ⟨_, rfl, h.cmd⟩
  | cmdDeviceReset => exact ⟨_, rfl, h.cmd⟩
  | cocoonExit => exact ⟨_, rfl, h.cocoonExit⟩
  | abortCapture => exact ⟨_, rfl, h.writeNat⟩
  | abortBlock => exact ⟨_, rfl, h.writeNat⟩
  | abortStore => exact ⟨_, rfl, h.writeNat⟩
  | abortFwInstall => exact ⟨_, rfl, h.writeNat⟩
  | abortMaint => exact ⟨_, rfl, h.writeNat⟩
  | abortMolt => exact ⟨_, rfl, h.writeNat⟩
  | abortForward => exact ⟨_, rfl, h.writeNat⟩

/-- On an empty queue only the clock runs on (log entry 1). -/
theorem State.idle_eq (s : State) :
    s.idle = { s with tick := s.idle.tick, net := s.idle.net, clock := s.idle.clock } := by
  unfold State.idle
  split_ifs <;> rfl

/-! ### What reset leaves -/

/-- Out of reset no object has a value of its own: each reads the default of its row (spec/20 R648; log entry 11). -/
theorem State.reset_rd (k : Nat) : State.reset.rd k = objDefault k := rfl

theorem State.reset_gates (l : Line) : State.reset.gates[l] = false := by simp [State.reset]

theorem State.reset_tag_state (i : Fin 64) : State.reset.wdp.tags[i].state = 0 := by
  simp [State.reset, WdpSt.init]

theorem State.reset_run (e : Engine) (k : Task) : State.reset.engines[e].tasks[k].run = none := by
  simp [State.reset, EngineSt.init]

theorem State.reset_cellSt : ∀ c : Cell, State.reset.cellSt c = 0 := by decide

/-! ### The obligations -/

/-- Settles O51: every command is a chain of operations that leave the queue and never take a tick back. -/
theorem everyCommandCompletesAndTimeNeverRunsBack : Obligations.EveryCommandCompletesAndTimeNeverRunsBack := by
  unfold Obligations.EveryCommandCompletesAndTimeNeverRunsBack
  intro c s
  obtain ⟨t, hexec, h⟩ := exec_evolves c s
  exact ⟨t, hexec, h.pending, h.tick⟩

/-- Settles O50: by the two cases of the queue. -/
theorem stepRunsTheFrontCommand : Obligations.StepRunsTheFrontCommand := by
  unfold Obligations.StepRunsTheFrontCommand
  constructor
  · intro s c cs hq
    simp only [step, hq]
  · intro s hq
    refine ⟨s.idle, ?_, (Evolves.refl s).idle.tick, s.idle_eq⟩
    simp only [step, hq]

/-- Settles O59: the reset state holds no value of its own for any object, so that each reads its default. -/
theorem resetLeavesTheStatedValues : Obligations.ResetLeavesTheStatedValues := by
  unfold Obligations.ResetLeavesTheStatedValues
  refine ⟨by decide, by decide, State.reset_cellSt, rfl, State.reset_gates, by decide, by decide, rfl, rfl, rfl, rfl,
    rfl, State.reset_tag_state, rfl, State.reset_run, State.reset_rd, ?_⟩
  simp only [State.reset_rd]
  decide

end Sys2Proof.Machine
end

section

namespace Sys2Proof.Machine

set_option Elab.async false

/-! ### A cell fitted while a trip input is active (spec/09 R297, R675)

A newly fitted cell meets its trip inputs at their present level. Where a bridge that one of them holds takes the ZERO pattern, the protective delay of its L gates counts from the tick at which the trip is registered, 1 or 2 ticks on: a free value (log entry 49). So a write of CELL_FITTED may take a free value, as a change of the fault lines may. -/

/-- A device in SAFE because of its external fault lines, no cell fitted and no driver reporting a fault, whose cell 0 is to hold its grid bridge in ZERO (SAFE_PATTERN 1). -/
def safeWithExternalFault : State :=
  (({ State.reset with pins := ⟨false, true, false, true, Vector.replicate 18 false⟩ }.modPower
    fun p => { p with supervisor := true }).wr kDevState 6).wr 0x700001 1

/-- CELL_FITTED is one access of the lease holder to its object (spec/20 R646). -/
theorem exec_cellFittedWrite (mask : Byte) (s : State) :
    exec (.cellFittedWrite mask) s = .next (s.writeNat 0x0011 0 1 mask.toNat) := rfl

set_option maxRecDepth 100000 in
/-- With cell 0 fitted there, the external trip starts the protective delays of its grid bridge, which takes one free value. -/
theorem safeWithExternalFault_fitted_free :
    (safeWithExternalFault.writeNat 0x0011 0 1 (1 : Byte).toNat).free = safeWithExternalFault.free + 1 := by
  decide

/-- Refutes O5: its clause of CELL_FITTED keeps the counter of free values, but the cell that is fitted may be tripped at once into a ZERO pattern, whose protective delays count from a free tick (spec/09 R297, R675; log entry 49). -/
theorem not_fittingFaultLinesAndReleaseOfHolds : ¬ Obligations.FittingFaultLinesAndReleaseOfHolds := by
  unfold Obligations.FittingFaultLinesAndReleaseOfHolds
  intro h
  obtain ⟨-, -, hfit, -⟩ := h safeWithExternalFault
  obtain ⟨t, hexec, -, -, -, -, -, -, hframe⟩ := hfit 1 (by decide) (by decide) (by decide)
  have ht : safeWithExternalFault.writeNat 0x0011 0 1 (1 : Byte).toNat = t :=
    Host.Outcome.next.inj ((exec_cellFittedWrite 1 safeWithExternalFault).symm.trans hexec)
  have htaken : t.free = safeWithExternalFault.free + 1 := ht ▸ safeWithExternalFault_fitted_free
  have hkept : t.free = safeWithExternalFault.free := (congrArg State.free hframe :)
  omega

end Sys2Proof.Machine
end

section

namespace Sys2Proof.Machine

set_option Elab.async false

/-- Settles O58: the line number read as mixed digits, of cell, bridge, leg and switch. -/
theorem gateLinesAreNumberedByCellBridgeAndLeg : Obligations.GateLinesAreNumberedByCellBridgeAndLeg := by
  unfold Obligations.GateLinesAreNumberedByCellBridgeAndLeg
  constructor
  · intro c b j
    simp only [lineH, lineL, legOf, carrierOf]
    omega
  · intro n
    refine ⟨⟨n / 12, by omega⟩, ⟨n / 4 % 3, by omega⟩, ⟨n / 2 % 2, by omega⟩, ?_⟩
    simp only [Fin.ext_iff, lineH, lineL, legOf, carrierOf]
    omega

/-! ### A lane path that falls back as its PLL loses lock (spec/03 R73; spec/13 R432) -/

/-- A device in HATCH before DONE whose path 0 runs at G1 with its U lane UP and its PLL locked, and which is to take the path's next step at tick 5. -/
def hatchWithStepDue : State :=
  (((((State.reset.wr kDevState 1).wrBit (kPllStatus 1) 0 true).wr (kPll 1 + 1) 1).wr (kLane (uLane 0) 1) 4).modPath 0
    fun p => { p with stepDue := some 5 })

/-- Four PFD cycles 900 ps off. -/
def fourLatePhases : LossEvidence := .phase (Vector.replicate 4 900)

theorem exec_pllLockLost (p : Fin 3) (e : LossEvidence) (s : State) :
    exec (.pllLockLost p e) s = .next (s.lockLost p e) := rfl

set_option maxRecDepth 100000 in
/-- The fall back to G0 drops the step due. -/
theorem hatchWithStepDue_lockLost_stepDue :
    (hatchWithStepDue.lockLost 1 fourLatePhases).paths[(0 : Path)].stepDue = none := by
  decide

/-- Refutes O7: its clause of PLL_LOCK_LOST keeps the paths, but where the loss takes a lane out of UP before DONE the path falls back to G0, which drops the step that was due on it (spec/03 R73; spec/13 R432). -/
theorem not_pllsRestartLockAndLoseLock : ¬ Obligations.PllsRestartLockAndLoseLock := by
  unfold Obligations.PllsRestartLockAndLoseLock
  intro h
  obtain ⟨-, -, -, hlost, -⟩ := h hatchWithStepDue
  obtain ⟨t, hexec, -, -, -, -, -, -, -, -, -, hframe⟩ := hlost 1 fourLatePhases (by decide) (by decide)
  have ht : hatchWithStepDue.lockLost 1 fourLatePhases = t :=
    Host.Outcome.next.inj ((exec_pllLockLost 1 fourLatePhases hatchWithStepDue).symm.trans hexec)
  have hkept : t.paths = hatchWithStepDue.paths := (congrArg State.paths hframe :)
  have hnone : t.paths[(0 : Path)].stepDue = none := ht ▸ hatchWithStepDue_lockLost_stepDue
  have hsome : hatchWithStepDue.paths[(0 : Path)].stepDue = some 5 := by decide
  rw [hkept, hsome] at hnone
  contradiction

end Sys2Proof.Machine
end

section

namespace Sys2Proof.Machine

set_option Elab.async false

/-! ### Bits of a number -/

/-- Adding the weight of a clear bit sets it and carries nowhere. -/
theorem testBit_add_two_pow (n i j : Nat) (h : n.testBit i = false) :
    (n + 2 ^ i).testBit j = if j = i then true else n.testBit j := by
  induction i generalizing n j with
  | zero =>
    have heven : n % 2 = 0 := by simpa [Nat.testBit_zero] using h
    cases j with
    | zero => simp [Nat.testBit_zero]; omega
    | succ j => simp [Nat.testBit_succ, show (n + 1) / 2 = n / 2 by omega]
  | succ i ih =>
    cases j with
    | zero => simp [Nat.testBit_zero, Nat.pow_succ]
    | succ j =>
      have hhalf : (n + 2 ^ (i + 1)) / 2 = n / 2 + 2 ^ i := by omega
      simpa [Nat.testBit_succ, hhalf] using ih (n / 2) j (by simpa [Nat.testBit_succ] using h)

/-- A number with one bit set to b. -/
theorem bit_setBit (n i j : Nat) (b : Bool) : bit (setBit n i b) j = if j = i then b else bit n j := by
  unfold setBit bit
  split
  · next h =>
    have hb : b = n.testBit i := by simpa using h
    split
    · next hj => rw [hj, hb]
    · rfl
  · next h =>
    cases b with
    | true => exact testBit_add_two_pow n i j (by simpa using h)
    | false =>
      have hset : n.testBit i = true := by simpa using h
      have hsum : n - 2 ^ i + 2 ^ i = n := Nat.sub_add_cancel (Nat.ge_two_pow_of_testBit hset)
      have hclear : (n - 2 ^ i).testBit i = false := by
        have hflip := Nat.testBit_two_pow_add_eq (n - 2 ^ i) i
        rw [Nat.add_comm, hsum, hset] at hflip
        simpa using hflip.symm
      have hj := testBit_add_two_pow (n - 2 ^ i) i j hclear
      rw [hsum] at hj
      change (n - 2 ^ i).testBit j = _
      split
      · next he => rw [he, hclear]
      · next he => rw [hj, if_neg he]

/-- A bit of an object after one bit of one is written. -/
theorem State.bitAt_wrBit (s : State) (k i : Nat) (b : Bool) (j n : Nat) :
    (s.wrBit k i b).bitAt j n = if j = k ∧ n = i then b else s.bitAt j n := by
  unfold State.bitAt
  rw [State.rd_wrBit]
  by_cases hj : j = k
  · simp [hj, bit_setBit]
  · simp [hj]

/-! ### Folds over units that each index concerns alone -/

/-- A fold over distinct indices does to each unit what its own index does, where every other index leaves the unit alone. -/
theorem foldl_each {σ β : Type} {n : Nat} (f : Fin n → σ → σ) (view : Fin n → σ → β) (I : σ → Prop)
    (R : Fin n → β → β → Prop) (hkeep : ∀ i a, I a → I (f i a))
    (hother : ∀ i j a, j ≠ i → view j (f i a) = view j a)
    (hown : ∀ i a, I a → R i (view i a) (view i (f i a))) (l : List (Fin n)) (hl : l.Nodup) (s : σ) (hs : I s)
    (i : Fin n) :
    (i ∈ l → R i (view i s) (view i (l.foldl (fun a i => f i a) s))) ∧
      (i ∉ l → view i (l.foldl (fun a i => f i a) s) = view i s) := by
  induction l generalizing s with
  | nil => simp
  | cons x l ih =>
    obtain ⟨hx, hl⟩ := List.nodup_cons.mp hl
    obtain ⟨hin, hout⟩ := ih hl (f x s) (hkeep x s hs)
    rw [List.foldl_cons]
    by_cases hix : i = x
    · subst hix
      refine ⟨fun _ => ?_, fun h => absurd List.mem_cons_self h⟩
      rw [hout hx]
      exact hown i s hs
    · rw [hother x i s hix] at hin hout
      simp only [List.mem_cons, hix, false_or]
      exact ⟨hin, hout⟩

/-- So does a fold over all indices. -/
theorem forFin_each {σ β : Type} {n : Nat} {f : Fin n → σ → σ} (view : Fin n → σ → β) (I : σ → Prop)
    (R : Fin n → β → β → Prop) (hkeep : ∀ i a, I a → I (f i a))
    (hother : ∀ i j a, j ≠ i → view j (f i a) = view j a)
    (hown : ∀ i a, I a → R i (view i a) (view i (f i a))) {s : σ} (hs : I s) (i : Fin n) :
    R i (view i s) (view i (forFin n s f)) :=
  (foldl_each f view I R hkeep hother hown _ (List.nodup_finRange n) s hs i).1 (List.mem_finRange i)

/-! ### What an operation on PLLs leaves alone (spec/03) -/

/-- The objects that an operation on the PLLs P writes: those of the paths and lanes, two flags of PLL_T's consumers, and the status and the rate of these PLLs. -/
def pllKey (P : Set (Fin 3)) (k : Nat) : Prop :=
  k / 2 ^ 20 = 0xB ∨ k = kFlags ∨ k = 0x203001 ∨ ∃ p ∈ P, k = kPllStatus p ∨ k = kPll p + 1

/-- What an operation on the PLLs P makes of a state: it leaves alone what is neither time, objects, clocks, lanes, conditions nor paths, every object but those above, every other PLL and the rest of the clocks, the occurrences and the conditions below those of the lanes. No time passes unless PLL_T changes over at a REFCLK edge that is still to come. -/
structure MovesPlls (P : Set (Fin 3)) (s t : State) : Prop where
  frame : t = { s with
    tick := t.tick, net := t.net, objs := t.objs, clock := t.clock, lanes := t.lanes, rails := t.rails,
    paths := t.paths }
  objs : ∀ k, ¬ pllKey P k → t.rd k = s.rd k
  clock : t.clock = { s.clock with pll := t.clock.pll }
  pll : ∀ p, p ∉ P → t.clock.pll[p] = s.clock.pll[p]
  occ : t.rails.occ = s.rails.occ
  cond : ∀ n, n < 93 → t.rails.cond.getLsbD n = s.rails.cond.getLsbD n
  tick : (0 ∈ P → s.clock.refPresent = true → 4 ∣ s.tick) → t.tick = s.tick

variable {P Q : Set (Fin 3)} {s a t : State}

theorem pllKey_flags : pllKey P kFlags := .inr (.inl rfl)

theorem pllKey_calibration : pllKey P 0x203001 := .inr (.inr (.inl rfl))

theorem pllKey_status {p : Fin 3} (hp : p ∈ P) : pllKey P (kPllStatus p) := .inr (.inr (.inr ⟨p, hp, .inl rfl⟩))

theorem pllKey_rate {p : Fin 3} (hp : p ∈ P) : pllKey P (kPll p + 1) := .inr (.inr (.inr ⟨p, hp, .inr rfl⟩))

theorem pllKey_kLane (i : Lane) {j : Nat} (hj : j < 256) : pllKey P (kLane i j) := by
  refine .inl ?_
  unfold kLane
  omega

theorem MovesPlls.refl (s : State) : MovesPlls P s s :=
  ⟨rfl, fun _ _ => rfl, rfl, fun _ _ => rfl, rfl, fun _ _ => rfl, fun _ => rfl⟩

theorem MovesPlls.refPresent (h : MovesPlls P s t) : t.clock.refPresent = s.clock.refPresent :=
  (congrArg ClockSt.refPresent h.clock :)

/-- Two operations in a row. -/
theorem MovesPlls.trans (h : MovesPlls P s a) (h' : MovesPlls P a t) : MovesPlls P s t where
  frame := h'.frame.trans (by rw [h.frame])
  objs k hk := (h'.objs k hk).trans (h.objs k hk)
  clock := h'.clock.trans (by rw [h.clock])
  pll p hp := (h'.pll p hp).trans (h.pll p hp)
  occ := h'.occ.trans h.occ
  cond n hn := (h'.cond n hn).trans (h.cond n hn)
  tick hedge := by
    have htick := h.tick hedge
    rw [← htick]
    exact h'.tick (by rwa [h.refPresent, htick])

/-- An operation on fewer PLLs. -/
theorem MovesPlls.mono (h : MovesPlls P s t) (hPQ : P ⊆ Q) : MovesPlls Q s t where
  frame := h.frame
  objs k hk := h.objs k fun hP => hk (hP.imp_right (.imp_right (.imp_right fun ⟨p, hp, he⟩ => ⟨p, hPQ hp, he⟩)))
  clock := h.clock
  pll p hp := h.pll p fun hP => hp (hPQ hP)
  occ := h.occ
  cond := h.cond
  tick hedge := h.tick fun hP => hedge (hPQ hP)

theorem MovesPlls.ite {c : Prop} {_ : Decidable c} {x y : State} (hx : MovesPlls P s x) (hy : MovesPlls P s y) :
    MovesPlls P s (if c then x else y) := by
  split
  · exact hx
  · exact hy

theorem MovesPlls.wr {k v} (hk : pllKey P k) (h : MovesPlls P s a) : MovesPlls P s (a.wr k v) :=
  h.trans ⟨rfl, fun j hj => by rw [State.rd_wr, if_neg fun he : j = k => hj (he ▸ hk)], rfl, fun _ _ => rfl, rfl,
    fun _ _ => rfl, fun _ => rfl⟩

theorem MovesPlls.wrBit {k i b} (hk : pllKey P k) (h : MovesPlls P s a) : MovesPlls P s (a.wrBit k i b) :=
  h.wr hk

theorem MovesPlls.count {k n} (hk : pllKey P k) (h : MovesPlls P s a) : MovesPlls P s (a.count k n) :=
  h.wr hk

theorem MovesPlls.modLane {i f} (h : MovesPlls P s a) : MovesPlls P s (a.modLane i f) :=
  h.trans ⟨rfl, fun _ _ => rfl, rfl, fun _ _ => rfl, rfl, fun _ _ => rfl, fun _ => rfl⟩

theorem MovesPlls.modPath {q f} (h : MovesPlls P s a) : MovesPlls P s (a.modPath q f) :=
  h.trans ⟨rfl, fun _ _ => rfl, rfl, fun _ _ => rfl, rfl, fun _ _ => rfl, fun _ => rfl⟩

/-- One condition's bit is all that its source moves. -/
theorem State.levelSrc_cond_other (s : State) {n m : Nat} (b : Bool) (h : m < n) :
    (s.levelSrc n b).rails.cond.getLsbD m = s.rails.cond.getLsbD m := by
  cases b with
  | true => simp [State.levelSrc, h]
  | false => simpa [State.levelSrc, h] using BitVec.lt_of_getLsbD

theorem MovesPlls.levelSrc {n b} (hn : 93 ≤ n) (h : MovesPlls P s a) : MovesPlls P s (a.levelSrc n b) := by
  have hcond (m : Nat) (hm : m < 93) := a.levelSrc_cond_other b (Nat.lt_of_lt_of_le hm hn)
  cases b with
  | true => exact h.trans ⟨rfl, fun _ _ => rfl, rfl, fun _ _ => rfl, rfl, hcond, fun _ => rfl⟩
  | false => exact h.trans ⟨rfl, fun _ _ => rfl, rfl, fun _ _ => rfl, rfl, hcond, fun _ => rfl⟩

theorem MovesPlls.laneSources {i} (h : MovesPlls P s a) : MovesPlls P s (a.laneSources i) :=
  (h.levelSrc (by omega)).levelSrc (by omega)

theorem MovesPlls.setLane {i st} (h : MovesPlls P s a) : MovesPlls P s (a.setLane i st) :=
  ((((h.wr (pllKey_kLane i (by decide))).count (.inl rfl)).wr (pllKey_kLane i (by decide))).modLane).laneSources

/-! #### Acquisition (spec/03 R70, R73) -/

/-- What acquisition leaves of its PLL: in bypass and acquiring, without spread, the other bits of its status as they were, 10 ms to lock from now (spec/03 R70, R72). -/
structure Acquires (p : Fin 3) (s t : State) : Prop where
  bits : ∀ i, t.bitAt (kPllStatus p) i =
    if i = 1 ∨ i = 2 then true else if i = 0 ∨ i = 4 then false else s.bitAt (kPllStatus p) i
  limit : t.clock.pll[p].acqLimit = some (t.tick + msTicks 10)

/-- The status of a PLL in acquisition. -/
def acquiringStatus (st : Nat) : Nat := setBit (setBit (setBit (setBit st 0 false) 1 true) 2 true) 4 false

/-- The first part of `State.acquire`: the PLL itself, before the flags of PLL_T's consumers or the lanes of a lane PLL follow. -/
def State.acquirePll (s : State) (p : Fin 3) : State :=
  let s := if p.val = 0 && s.clock.refPresent then s.toRefEdge else s
  let s1 := s.wr (kPllStatus p) (acquiringStatus (s.rd (kPllStatus p)))
  { s1 with clock := { s1.clock with
    pll := s1.clock.pll.set p
      ⟨s1.tick, some (s1.tick + msTicks 10), (s1.dividers p).1, (s1.dividers p).2, none⟩ } }

/-- A lane that is not off falls to STEP with its path's PLL (spec/13 R426). -/
def State.laneDrops (s : State) (i : Lane) : State := if s.laneState i == 0 then s else s.setLane i 5

theorem State.acquire_eq (s : State) (p : Fin 3) :
    s.acquire p = if p.val = 0 then ((s.acquirePll p).wrBit kFlags 3 true).wrBit 0x203001 0 false
      else ((s.acquirePll p).laneDrops (uLane ⟨p.val - 1, by omega⟩)).laneDrops (dLane ⟨p.val - 1, by omega⟩) :=
  rfl

theorem MovesPlls.laneDrops {i} (h : MovesPlls P s a) : MovesPlls P s (a.laneDrops i) :=
  .ite h h.setLane

/-- What follows the PLL itself concerns no PLL. -/
theorem MovesPlls.acquire_of_acquirePll {p} (h : MovesPlls P s (a.acquirePll p)) : MovesPlls P s (a.acquire p) := by
  rw [State.acquire_eq]
  exact .ite ((h.wrBit pllKey_flags).wrBit pllKey_calibration) h.laneDrops.laneDrops

/-- At a REFCLK edge there is none to wait for. -/
theorem ceilDiv_mul_of_dvd {n d : Nat} (hd : 0 < d) (h : d ∣ n) : ceilDiv n d * d = n := by
  obtain ⟨q, rfl⟩ := h
  unfold ceilDiv
  rw [show d * q + d - 1 = d - 1 + d * q by omega, Nat.add_mul_div_left _ _ hd, Nat.div_eq_of_lt (by omega)]
  simp [Nat.mul_comm]

theorem le_ceilDiv_four_mul (n : Nat) : n ≤ ceilDiv n 4 * 4 := by
  unfold ceilDiv
  omega

@[simp] theorem State.toRefEdge_tick (s : State) : s.toRefEdge.tick = ceilDiv s.tick 4 * 4 := by
  have := le_ceilDiv_four_mul s.tick
  change s.tick + _ = _
  omega

theorem MovesPlls.toRefEdge (h0 : 0 ∈ P) (href : a.clock.refPresent = true) (h : MovesPlls P s a) :
    MovesPlls P s a.toRefEdge :=
  h.trans ⟨rfl, fun _ _ => rfl, rfl, fun _ _ => rfl, rfl, fun _ _ => rfl, fun hedge =>
    a.toRefEdge_tick.trans (ceilDiv_mul_of_dvd (by decide) (hedge h0 href))⟩

theorem MovesPlls.setPll {p x} (hp : p ∈ P) (h : MovesPlls P s a) :
    MovesPlls P s { a with clock := { a.clock with pll := a.clock.pll.set p x } } :=
  h.trans ⟨rfl, fun _ _ => rfl, rfl,
    fun q hq => Vector.getElem_set_ne p.isLt q.isLt fun he => hq (Fin.ext he ▸ hp), rfl, fun _ _ => rfl,
    fun _ => rfl⟩

theorem MovesPlls.acquirePll {p} (hp : p ∈ P) (h : MovesPlls P s a) : MovesPlls P s (a.acquirePll p) := by
  refine .setPll hp (.wr (pllKey_status hp) ?_)
  split
  · next hc =>
    obtain ⟨hp0, href⟩ : p.val = 0 ∧ a.clock.refPresent = true := by simpa using hc
    obtain rfl : p = 0 := Fin.ext hp0
    exact h.toRefEdge hp href
  · exact h

theorem MovesPlls.acquire {p} (hp : p ∈ P) (h : MovesPlls P s a) : MovesPlls P s (a.acquire p) :=
  (h.acquirePll hp).acquire_of_acquirePll

theorem bit_acquiringStatus (st i : Nat) : bit (acquiringStatus st) i =
    if i = 1 ∨ i = 2 then true else if i = 0 ∨ i = 4 then false else bit st i := by
  simp only [acquiringStatus, bit_setBit]
  grind

theorem kPllStatus_area : ∀ p : Fin 3, kPllStatus p / 2 ^ 20 = 2 := by decide

theorem kPllStatus_ne_calibration : ∀ p : Fin 3, kPllStatus p ≠ 0x203001 := by decide

theorem eq_of_kPllStatus_eq : ∀ p q : Fin 3, kPllStatus p = kPllStatus q ∨ kPllStatus p = kPll q + 1 → p = q := by
  decide

/-- The status of a PLL is no object of an operation on other PLLs. -/
theorem not_pllKey_kPllStatus {p : Fin 3} (hp : p ∉ P) : ¬ pllKey P (kPllStatus p) := by
  have harea := kPllStatus_area p
  rintro (h | h | h | ⟨q, hq, h⟩)
  · omega
  · rw [h] at harea
    contradiction
  · exact kPllStatus_ne_calibration p h
  · exact hp (eq_of_kPllStatus_eq p q h ▸ hq)

/-- What follows an acquisition, at the same tick and on other PLLs, leaves the acquisition. -/
theorem Acquires.moves {p} (h : Acquires p s a) (hm : MovesPlls P a t) (hp : p ∉ P) (h0 : 0 ∉ P) :
    Acquires p s t where
  bits i := by
    rw [← h.bits i]
    exact congrArg (bit · i) (hm.objs _ (not_pllKey_kPllStatus hp))
  limit := by
    rw [hm.tick fun h => absurd h h0, ← h.limit]
    exact congrArg PllSt.acqLimit (hm.pll p hp)

theorem State.acquirePll_status (s : State) (p : Fin 3) :
    (s.acquirePll p).rd (kPllStatus p) = acquiringStatus (s.rd (kPllStatus p)) := by
  unfold State.acquirePll
  refine (State.rd_wr _ _ _ _).trans ((if_pos rfl).trans ?_)
  split <;> rfl

theorem State.acquires_acquirePll (s : State) (p : Fin 3) : Acquires p s (s.acquirePll p) where
  bits i := (congrArg (bit · i) (s.acquirePll_status p)).trans (bit_acquiringStatus _ i)
  limit := congrArg PllSt.acqLimit (Vector.getElem_set_self p.isLt)

theorem State.acquires_acquire (s : State) (p : Fin 3) : Acquires p s (s.acquire p) :=
  (s.acquires_acquirePll p).moves (P := ∅) (MovesPlls.refl _).acquire_of_acquirePll (by simp) (by simp)

/-- An acquisition that starts afresh where one was under way. -/
theorem Acquires.trans {p} (h : Acquires p s a) (h' : Acquires p a t) : Acquires p s t where
  bits i := by
    rw [h'.bits, h.bits]
    split
    · rfl
    · split <;> rfl
  limit := h'.limit

/-! #### Acquisition after a loss (spec/03 R73; spec/13 R432) -/

/-- The PLL of a path. -/
def pathPll (q : Path) : Fin 3 := ⟨q.val + 1, by omega⟩

/-- What a path writes before its PLL restarts: the rate of the PLL and of its lanes. -/
theorem State.restartPath_eq (s : State) (q : Path) (rate : Nat) : s.restartPath q rate =
    (((s.wr (kPll (pathPll q) + 1) rate).wr (kLane (uLane q) 3) rate).wr (kLane (dLane q) 3) rate).acquire
      (pathPll q) :=
  rfl

theorem kPathRate_area (q : Path) : kPathRate q / 2 ^ 20 = 0xB := by
  unfold kPathRate
  omega

theorem MovesPlls.restartPath {q rate} (hq : pathPll q ∈ P) (h : MovesPlls P s a) :
    MovesPlls P s (a.restartPath q rate) := by
  rw [State.restartPath_eq]
  exact (((h.wr (pllKey_rate hq)).wr (pllKey_kLane _ (by decide))).wr (pllKey_kLane _ (by decide))).acquire hq

theorem kPllStatus_ne_rate : ∀ p q : Fin 3, kPllStatus p ≠ kPll q + 1 := by decide

theorem kPllStatus_ne_kLane : ∀ (p : Fin 3) (i : Lane), kPllStatus p ≠ kLane i 3 := by decide

theorem State.acquires_restartPath (s : State) (q : Path) (rate : Nat) :
    Acquires (pathPll q) s (s.restartPath q rate) := by
  rw [State.restartPath_eq]
  have h := State.acquires_acquire (((s.wr (kPll (pathPll q) + 1) rate).wr (kLane (uLane q) 3) rate).wr
    (kLane (dLane q) 3) rate) (pathPll q)
  refine ⟨fun i => (h.bits i).trans ?_, h.limit⟩
  simp only [State.bitAt, State.rd_wr, if_neg (kPllStatus_ne_kLane _ _), if_neg (kPllStatus_ne_rate _ _)]

/-- A path that falls back restarts its PLL; what follows concerns no PLL. -/
theorem State.fallBack_cases (s : State) (q : Path) :
    s.fallBack q = s ∨ MovesPlls ∅ (s.restartPath q 0) (s.fallBack q) := by
  unfold State.fallBack
  split
  · exact .inl rfl
  · have h : MovesPlls ∅ (s.restartPath q 0) ((s.restartPath q 0).wr (kPathRate q) 0) :=
      .wr (.inl (kPathRate_area q)) (.refl _)
    exact .inr (.modPath (.ite (h.wrBit (.inl (by decide))) h))

theorem MovesPlls.fallBack {q} (hq : pathPll q ∈ P) (h : MovesPlls P s a) : MovesPlls P s (a.fallBack q) := by
  rcases a.fallBack_cases q with he | hm
  · rwa [he]
  · exact (h.restartPath hq).trans (hm.mono (Set.empty_subset P))

theorem MovesPlls.hatchFalls {q} (hq : pathPll q ∈ P) (h : MovesPlls P s a) : MovesPlls P s (a.hatchFalls q) :=
  .ite (h.fallBack hq) h

theorem Acquires.fallBack {q} (h : Acquires (pathPll q) s a) : Acquires (pathPll q) s (a.fallBack q) := by
  rcases a.fallBack_cases q with he | hm
  · rwa [he]
  · exact (h.trans (a.acquires_restartPath q 0)).moves hm (by simp) (by simp)

theorem Acquires.hatchFalls {q} (h : Acquires (pathPll q) s a) : Acquires (pathPll q) s (a.hatchFalls q) := by
  unfold State.hatchFalls
  split
  · exact h.fallBack
  · exact h

/-- A PLL acquires again after a loss, and where that is a lane PLL its path may fall back. -/
theorem State.reacquire_cases (s : State) (p : Fin 3) : s.reacquire p = s.acquire p ∨
    ∃ q, pathPll q = p ∧ s.reacquire p = (s.acquire p).hatchFalls q := by
  unfold State.reacquire
  split
  · exact .inl rfl
  · next hp =>
    dsimp only
    split
    · exact .inr ⟨_, Fin.ext (by simp only [pathPll]; omega), rfl⟩
    · exact .inl rfl

theorem MovesPlls.reacquire {p} (hp : p ∈ P) (h : MovesPlls P s a) : MovesPlls P s (a.reacquire p) := by
  rcases a.reacquire_cases p with he | ⟨q, rfl, he⟩
  · exact he ▸ h.acquire hp
  · exact he ▸ (h.acquire hp).hatchFalls hp

theorem State.acquires_reacquire (s : State) (p : Fin 3) : Acquires p s (s.reacquire p) := by
  rcases s.reacquire_cases p with he | ⟨q, rfl, he⟩
  · exact he ▸ s.acquires_acquire p
  · exact he ▸ (s.acquires_acquire (pathPll q)).hatchFalls

/-! #### The reference lost (spec/03 R76) -/

/-- What the loss of the reference does to PLL p. -/
def State.pllLosesRef (p : Fin 3) (s : State) : State :=
  let s := s.wrBit (kPllStatus p) 3 false
  if s.bitAt (kPllStatus p) 0 then s.reacquire p else s

/-- The state in which the PLLs lose the reference: a timebase that ran on it has handed over at its edge. -/
def State.withoutRef (s : State) : State :=
  let s := if s.netCoarse then s.toRefEdge else s
  { (s.assertSrc 88) with clock := { s.clock with refPresent := false } }

theorem State.refLost_eq (s : State) (edges : Nat) (h : s.windowLost edges = true) :
    s.refLost edges = forFin 3 s.withoutRef State.pllLosesRef := by
  unfold State.refLost
  rw [h]
  rfl

theorem MovesPlls.pllLosesRef {p} (hp : p ∈ P) (h : MovesPlls P s a) : MovesPlls P s (a.pllLosesRef p) := by
  have hw := h.wrBit (i := 3) (b := false) (pllKey_status hp)
  exact .ite (hw.reacquire hp) hw

theorem State.windowLost_of {s : State} {edges : Nat}
    (h : (s.clock.oscBad = false ∧ (edges < 80 ∨ 120 < edges)) ∨ edges = 0) : s.windowLost edges = true := by
  unfold State.windowLost windowGood
  grind

/-- What a state holds of PLL p: its status, and what stands beside it. -/
def State.pllView (p : Fin 3) (s : State) : Nat × PllSt := (s.rd (kPllStatus p), s.clock.pll[p])

theorem MovesPlls.pllView {p} (h : MovesPlls P s t) (hp : p ∉ P) : t.pllView p = s.pllView p :=
  Prod.ext (h.objs _ (not_pllKey_kPllStatus hp)) (h.pll p hp)

/-- A PLL before and after the loss of the reference at tick T. -/
def LosesRef (T : Nat) (v w : Nat × PllSt) : Prop :=
  bit w.1 3 = false ∧ bit w.1 0 = false ∧
    (bit v.1 0 = true → bit w.1 1 = true ∧ bit w.1 2 = true ∧ w.2.acqLimit = some (T + msTicks 10)) ∧
    (bit v.1 0 = false → w.2 = v.2)

theorem State.losesRef_pllLosesRef (s : State) (p : Fin 3) :
    LosesRef (s.pllLosesRef p).tick (s.pllView p) ((s.pllLosesRef p).pllView p) := by
  set b := s.wrBit (kPllStatus p) 3 false with hb
  have hbit (i : Nat) : b.bitAt (kPllStatus p) i = if i = 3 then false else s.bitAt (kPllStatus p) i := by
    rw [hb, State.bitAt_wrBit]
    simp
  have hstep : s.pllLosesRef p = if b.bitAt (kPllStatus p) 0 then b.reacquire p else b := rfl
  by_cases h0 : b.bitAt (kPllStatus p) 0 = true
  · have h := b.acquires_reacquire p
    have hlocked : s.bitAt (kPllStatus p) 0 = true := by simpa [hbit] using h0
    rw [hstep, if_pos h0]
    exact ⟨(h.bits 3).trans (by simp [hbit]), h.bits 0, fun _ => ⟨h.bits 1, h.bits 2, h.limit⟩,
      fun hopen => absurd (hlocked.symm.trans hopen) (by decide)⟩
  · have hopen : s.bitAt (kPllStatus p) 0 = false := by simpa [hbit] using h0
    rw [hstep, if_neg h0]
    exact ⟨(hbit 3).trans (by simp), (hbit 0).trans (by simpa using hopen),
      fun hlocked => absurd (hopen.symm.trans hlocked) (by decide), fun _ => rfl⟩

/-- Every PLL loses the reference, at one tick. -/
theorem State.refLost_plls (s : State) :
    MovesPlls Set.univ s.withoutRef (forFin 3 s.withoutRef State.pllLosesRef) ∧
      ∀ p, LosesRef s.withoutRef.tick (s.withoutRef.pllView p)
        ((forFin 3 s.withoutRef State.pllLosesRef).pllView p) := by
  have hkeep (p : Fin 3) (a : State) (h : MovesPlls Set.univ s.withoutRef a) :
      MovesPlls Set.univ s.withoutRef (a.pllLosesRef p) := h.pllLosesRef (Set.mem_univ p)
  have htick {a : State} (h : MovesPlls Set.univ s.withoutRef a) : a.tick = s.withoutRef.tick :=
    h.tick fun _ href => absurd href (by simp [State.withoutRef])
  refine ⟨forFin_keeps _ _ hkeep _ (.refl _), fun p =>
    forFin_each State.pllView (MovesPlls Set.univ s.withoutRef) (fun _ => LosesRef s.withoutRef.tick) hkeep
      (fun p q a hne => ?_) (fun p a h => ?_) (.refl _) p⟩
  · exact ((MovesPlls.refl a).pllLosesRef (P := {p}) rfl).pllView hne
  · exact htick (hkeep p a h) ▸ a.losesRef_pllLosesRef p

/-- What an operation on PLLs leaves of the objects of the other areas. -/
theorem MovesPlls.keepsOtherAreas (h : MovesPlls P s t) : KeepsOtherAreas [1, 2, 0xB] s t := by
  intro k hk
  refine h.objs k ?_
  rintro (hb | rfl | rfl | ⟨p, -, rfl | rfl⟩)
  · exact hk (by rw [hb]; decide)
  · exact hk (by decide)
  · exact hk (by decide)
  · exact hk (by rw [kPllStatus_area p]; decide)
  · exact hk (by revert p; decide)

theorem State.withoutRef_rd (s : State) (k : Nat) : s.withoutRef.rd k = s.rd k := by
  unfold State.withoutRef
  split <;> rfl

theorem State.withoutRef_pllView (s : State) (p : Fin 3) : s.withoutRef.pllView p = s.pllView p := by
  unfold State.withoutRef
  split <;> rfl

theorem State.withoutRef_tick (s : State) :
    s.withoutRef.tick = if s.netCoarse = true then ceilDiv s.tick 4 * 4 else s.tick := by
  unfold State.withoutRef
  split
  · exact s.toRefEdge_tick
  · rfl

theorem State.withoutRef_cond (s : State) : s.withoutRef.rails.cond.getLsbD 88 = true := by
  simp [State.withoutRef]

theorem State.withoutRef_frame (s : State) : s.withoutRef =
    { s with
      tick := s.withoutRef.tick, net := s.withoutRef.net, clock := s.withoutRef.clock,
      rails := s.withoutRef.rails } := by
  unfold State.withoutRef
  split <;> rfl

/-- The reference lost: every PLL is in bypass, and one that was locked acquires again. -/
structure RefGone (s t : State) : Prop where
  ref : t.clock.refPresent = false
  cond : t.rails.cond.getLsbD 88 = true
  plls : ∀ p, LosesRef t.tick (s.pllView p) (t.pllView p)
  tick : t.tick = if s.netCoarse = true then ceilDiv s.tick 4 * 4 else s.tick
  areas : KeepsOtherAreas [1, 2, 0xB] s t
  frame : t = { s with
    tick := t.tick, net := t.net, objs := t.objs, clock := t.clock, lanes := t.lanes, rails := t.rails,
    paths := t.paths }

theorem State.refGone_refLost (s : State) (edges : Nat) (h : s.windowLost edges = true) :
    RefGone s (s.refLost edges) := by
  rw [s.refLost_eq edges h]
  obtain ⟨hmoves, hplls⟩ := s.refLost_plls
  generalize forFin 3 s.withoutRef State.pllLosesRef = t at hmoves hplls
  have htick : t.tick = s.withoutRef.tick := hmoves.tick fun _ href => absurd href (by simp [State.withoutRef])
  exact
    { ref := hmoves.refPresent
      cond := (hmoves.cond 88 (by decide)).trans s.withoutRef_cond
      plls := fun p => by
        rw [htick, ← s.withoutRef_pllView p]
        exact hplls p
      tick := htick.trans s.withoutRef_tick
      areas := fun k hk => (hmoves.keepsOtherAreas k hk).trans (s.withoutRef_rd k)
      frame := hmoves.frame.trans (by rw [s.withoutRef_frame]) }

/-! #### The reference present again (spec/03 R76; spec/16 R517) -/

/-- What the return of the reference does to PLL p. -/
def State.pllGainsRef (p : Fin 3) (s : State) : State :=
  let s := s.wrBit (kPllStatus p) 3 true
  if s.pllOff p then s else s.acquire p

/-- What it does to CAN controller u: out of bus monitoring, it integrates. -/
def State.canGainsRef (u : Fin 2) (s : State) : State :=
  let k := unitKey 0xC0000F u
  if s.bitAt k 2 then
    { (s.wrBit k 2 false).wrBit k 1 true with can := upd s.can u fun c => { c with integAt := s.tick } }
  else s

/-- The state in which they gain it: at a REFCLK edge. -/
def State.withRef (s : State) : State :=
  let s := s.toRefEdge
  { s with clock := { s.clock with refPresent := true, quarter := 0 } }

theorem State.refPresent_eq (s : State) (counts : Vector Byte 8) (habsent : s.clock.refPresent = false)
    (hgood : ∀ i : Fin 8, 80 ≤ counts[i].toNat ∧ counts[i].toNat ≤ 120) :
    s.refPresent counts =
      (forFin 2 (forFin 3 s.withRef State.pllGainsRef) State.canGainsRef).deassertSrc 88 := by
  have hany : anyOf counts (fun n => !windowGood n.toNat) = false := by
    simp only [anyOf, List.any_eq_false, windowGood]
    intro i _
    simpa using hgood i
  unfold State.refPresent
  rw [habsent, hany]
  rfl

/-- The device state is no object of an operation on PLLs. -/
theorem MovesPlls.dev (h : MovesPlls P s t) : t.dev = s.dev := by
  refine h.objs kDevState ?_
  rintro (he | he | he | ⟨p, -, he⟩)
  · exact absurd he (by decide)
  · exact absurd he (by decide)
  · exact absurd he (by decide)
  · revert he
    revert p
    decide

theorem MovesPlls.pllGainsRef {p} (hp : p ∈ P) (h : MovesPlls P s a) : MovesPlls P s (a.pllGainsRef p) := by
  have hw := h.wrBit (i := 3) (b := true) (pllKey_status hp)
  exact .ite hw (hw.acquire hp)

/-- PLL p after the return of the reference at tick T in device state d: PLL_LY stays off in COCOON. -/
def GainsRef (T d : Nat) (p : Fin 3) (w : Nat × PllSt) : Prop :=
  bit w.1 3 = true ∧ (p.val ≠ 2 ∨ d ≠ 5 →
    bit w.1 0 = false ∧ bit w.1 1 = true ∧ bit w.1 2 = true ∧ w.2.acqLimit = some (T + msTicks 10))

theorem State.gainsRef_pllGainsRef (s : State) (p : Fin 3) :
    GainsRef (s.pllGainsRef p).tick s.dev p ((s.pllGainsRef p).pllView p) := by
  set b := s.wrBit (kPllStatus p) 3 true with hb
  have hbit : b.bitAt (kPllStatus p) 3 = true := by
    rw [hb, State.bitAt_wrBit]
    simp
  have hdev : b.dev = s.dev := ((MovesPlls.refl s).wrBit (P := {p}) (pllKey_status rfl)).dev
  have hstep : s.pllGainsRef p = if b.pllOff p then b else b.acquire p := rfl
  by_cases hoff : b.pllOff p = true
  · rw [hstep, if_pos hoff]
    refine ⟨hbit, fun hon => ?_⟩
    simp only [State.pllOff, hdev, Bool.and_eq_true, beq_iff_eq] at hoff
    omega
  · have h := b.acquires_acquire p
    rw [hstep, if_neg hoff]
    exact ⟨(h.bits 3).trans hbit, fun _ => ⟨h.bits 0, h.bits 1, h.bits 2, h.limit⟩⟩

theorem State.withRef_tick (s : State) : s.withRef.tick = ceilDiv s.tick 4 * 4 := s.toRefEdge_tick

/-- Every PLL gains the reference, at one tick. -/
theorem State.refPresent_plls (s : State) :
    MovesPlls Set.univ s.withRef (forFin 3 s.withRef State.pllGainsRef) ∧
      ∀ p, GainsRef s.withRef.tick s.dev p ((forFin 3 s.withRef State.pllGainsRef).pllView p) := by
  have hkeep (p : Fin 3) (a : State) (h : MovesPlls Set.univ s.withRef a) :
      MovesPlls Set.univ s.withRef (a.pllGainsRef p) := h.pllGainsRef (Set.mem_univ p)
  have htick {a : State} (h : MovesPlls Set.univ s.withRef a) : a.tick = s.withRef.tick :=
    h.tick fun _ _ => s.withRef_tick ▸ Nat.dvd_mul_left 4 _
  refine ⟨forFin_keeps _ _ hkeep _ (.refl _), fun p =>
    forFin_each State.pllView (MovesPlls Set.univ s.withRef) (fun p _ w => GainsRef s.withRef.tick s.dev p w) hkeep
      (fun p q a hne => ?_) (fun p a h => ?_) (.refl _) p⟩
  · exact ((MovesPlls.refl a).pllGainsRef (P := {p}) rfl).pllView hne
  · have hdev : a.dev = s.dev := h.dev
    exact htick (hkeep p a h) ▸ hdev ▸ a.gainsRef_pllGainsRef p

/-! An acquisition that is no loss leaves the paths alone. -/

theorem State.levelSrc_paths (s : State) (n : Nat) (b : Bool) : (s.levelSrc n b).paths = s.paths := by
  cases b <;> rfl

theorem State.laneSources_paths (s : State) (i : Lane) : (s.laneSources i).paths = s.paths := by
  unfold State.laneSources
  rw [State.levelSrc_paths, State.levelSrc_paths]

theorem State.setLane_paths (s : State) (i : Lane) (st : Nat) : (s.setLane i st).paths = s.paths := by
  unfold State.setLane
  rw [State.laneSources_paths]
  rfl

theorem State.laneDrops_paths (s : State) (i : Lane) : (s.laneDrops i).paths = s.paths := by
  unfold State.laneDrops
  split
  · rfl
  · exact s.setLane_paths i 5

theorem State.acquirePll_paths (s : State) (p : Fin 3) : (s.acquirePll p).paths = s.paths := by
  unfold State.acquirePll
  dsimp only
  split <;> rfl

theorem State.acquire_paths (s : State) (p : Fin 3) : (s.acquire p).paths = s.paths := by
  rw [State.acquire_eq, ← s.acquirePll_paths p]
  split
  · rfl
  · rw [State.laneDrops_paths, State.laneDrops_paths]

theorem State.pllGainsRef_paths (s : State) (p : Fin 3) : (s.pllGainsRef p).paths = s.paths := by
  unfold State.pllGainsRef
  dsimp only
  split
  · rfl
  · exact State.acquire_paths _ p

/-- What an operation on the CAN controllers leaves alone. -/
structure MovesCan (s t : State) : Prop where
  frame : t = { s with objs := t.objs, can := t.can }
  objs : ∀ k, k / 2 ^ 20 ≠ 0xC → t.rd k = s.rd k

theorem MovesCan.refl (s : State) : MovesCan s s := ⟨rfl, fun _ _ => rfl⟩

theorem MovesCan.canGainsRef {u} (h : MovesCan s a) : MovesCan s (a.canGainsRef u) := by
  unfold State.canGainsRef
  dsimp only
  split
  · refine ⟨?_, fun k hk => ?_⟩
    · rw [h.frame]
      rfl
    · have hne : k ≠ unitKey 0xC0000F u := by
        rintro rfl
        exact hk (by unfold unitKey; omega)
      have hwr : ((a.wrBit (unitKey 0xC0000F u) 2 false).wrBit (unitKey 0xC0000F u) 1 true).rd k = a.rd k := by
        simp [hne]
      exact hwr.trans (h.objs k hk)
  · exact h

/-- The reference present again: every PLL but one that is off has restarted at a REFCLK edge. -/
structure RegainsRef (s t : State) : Prop where
  ref : t.clock.refPresent = true
  cond : t.rails.cond.getLsbD 88 = false
  plls : ∀ p, GainsRef t.tick s.dev p (t.pllView p)
  tick : t.tick = ceilDiv s.tick 4 * 4
  areas : KeepsOtherAreas [1, 2, 0xB, 0xC] s t
  dev : t.dev = s.dev
  frame : t = { s with
    tick := t.tick, net := t.net, objs := t.objs, clock := t.clock, lanes := t.lanes, rails := t.rails,
    can := t.can }

theorem State.regainsRef_refPresent (s : State) (counts : Vector Byte 8) (habsent : s.clock.refPresent = false)
    (hgood : ∀ i : Fin 8, 80 ≤ counts[i].toNat ∧ counts[i].toNat ≤ 120) : RegainsRef s (s.refPresent counts) := by
  rw [s.refPresent_eq counts habsent hgood]
  obtain ⟨hmoves, hplls⟩ := s.refPresent_plls
  have hpaths : (forFin 3 s.withRef State.pllGainsRef).paths = s.paths :=
    forFin_frame State.paths _ (fun p a => a.pllGainsRef_paths p) s.withRef
  generalize forFin 3 s.withRef State.pllGainsRef = a at hmoves hplls hpaths
  have hcan : MovesCan a (forFin 2 a State.canGainsRef) := forFin_keeps _ _ (fun _ _ h => h.canGainsRef) _ (.refl a)
  generalize forFin 2 a State.canGainsRef = b at hcan
  have hclock : b.clock = a.clock := (congrArg State.clock hcan.frame :)
  have htick : b.tick = s.withRef.tick := (congrArg State.tick hcan.frame :).trans
    (hmoves.tick fun _ _ => s.withRef_tick ▸ Nat.dvd_mul_left 4 _)
  exact
    { ref := (congrArg ClockSt.refPresent hclock).trans hmoves.refPresent
      cond := by simp
      plls := fun p => by
        have hview : (b.deassertSrc 88).pllView p = a.pllView p :=
          Prod.ext (hcan.objs _ (by rw [kPllStatus_area p]; decide)) (congrArg (·.pll[p]) hclock)
        rw [hview, State.deassertSrc_tick, htick]
        exact hplls p
      tick := htick.trans s.withRef_tick
      areas := fun k hk => by
        have hC : k / 2 ^ 20 ≠ 0xC := fun h => hk (by rw [h]; decide)
        have hother : k / 2 ^ 20 ∉ [1, 2, 0xB] := fun h => hk (List.mem_append_left [0xC] h)
        exact (hcan.objs k hC).trans (hmoves.keepsOtherAreas k hother)
      dev := (hcan.objs kDevState (by decide)).trans hmoves.dev
      frame := by
        rw [hcan.frame, hmoves.frame, hpaths]
        rfl }

/-! ### The load at BOOT (spec/04 R101, R102)

What BOOT loads changes neither the device state nor the reset logic, the reference stays, and no time passes. Each operation of it has one lemma here that says so, as `Evolves` has for every operation of the model. -/

/-- What a part of the load keeps; an occurrence stays latched. -/
structure BootLoads (s t : State) : Prop where
  dev : t.dev = s.dev
  power : t.power = s.power
  ref : t.clock.refPresent = s.clock.refPresent
  tick : (s.clock.refPresent = true → 4 ∣ s.tick) → t.tick = s.tick
  occ : ∀ n, s.rails.occ.getLsbD n = true → t.rails.occ.getLsbD n = true

theorem BootLoads.refl (s : State) : BootLoads s s := ⟨rfl, rfl, rfl, fun _ => rfl, fun _ => id⟩

theorem BootLoads.trans (h : BootLoads s a) (h' : BootLoads a t) : BootLoads s t where
  dev := h'.dev.trans h.dev
  power := h'.power.trans h.power
  ref := h'.ref.trans h.ref
  tick hedge := by
    have htick := h.tick hedge
    rw [← htick]
    exact h'.tick (by rwa [h.ref, htick])
  occ n := h'.occ n ∘ h.occ n

/-- A change of other parts of the state, written as a record update. -/
theorem BootLoads.set {net free lastStatus lastData pins tap gates carriers legs guard signals winTrip engines
    modeDone refs charge string stringRx collector lanes paths hatch lease frames time meas thermal nv jobs can wdp
    capture} (h : BootLoads s a) :
    BootLoads s { a with
      net, free, lastStatus, lastData, pins, tap, gates, carriers, legs, guard, signals, winTrip, engines, modeDone,
      refs, charge, string, stringRx, collector, lanes, paths, hatch, lease, frames, time, meas, thermal, nv, jobs,
      can, wdp, capture } :=
  h.trans ⟨rfl, rfl, rfl, fun _ => rfl, fun _ => id⟩

theorem BootLoads.ite {c : Prop} {_ : Decidable c} {x y : State} (hx : BootLoads s x) (hy : BootLoads s y) :
    BootLoads s (if c then x else y) := by
  split
  · exact hx
  · exact hy

theorem BootLoads.iteSnd {α : Type} {c : Prop} {_ : Decidable c} {x y : α × State} (hx : BootLoads s x.2)
    (hy : BootLoads s y.2) : BootLoads s (if c then x else y).2 := by
  split
  · exact hx
  · exact hy

theorem BootLoads.foldl {α : Type} {l : List α} {f : State → α → State} (h : BootLoads s a)
    (hf : ∀ b x, BootLoads s b → BootLoads s (f b x)) : BootLoads s (l.foldl f a) := by
  induction l generalizing a with
  | nil => exact h
  | cons x l ih => exact ih (hf a x h)

theorem BootLoads.forFin {n : Nat} {f : Fin n → State → State} (h : BootLoads s a)
    (hf : ∀ i b, BootLoads s b → BootLoads s (f i b)) : BootLoads s (Machine.forFin n a f) :=
  forFin_keeps (BootLoads s) f hf a h

/-- An operation on PLLs is such a part. -/
theorem BootLoads.movesPlls (h : BootLoads s a) (hm : MovesPlls P a t) : BootLoads s t :=
  h.trans ⟨hm.dev, (congrArg State.power hm.frame :), hm.refPresent, fun hedge => hm.tick fun _ => hedge,
    fun _ hn => hm.occ ▸ hn⟩

/-! #### Objects, sources and units -/

/-- One object written: as a whole, a bit or a mask of it, or as a count. -/
theorem BootLoads.wr {k v} (h : BootLoads s a)
    (hk : k ≠ kDevState := by grind [kCarry, kHoldCause, kByp, kStream, kChan, kMain, kTiming, unitKey]) :
    BootLoads s (a.wr k v) :=
  h.trans ⟨(State.rd_wr a k v _).trans (if_neg hk.symm), rfl, rfl, fun _ => rfl, fun _ => id⟩

theorem BootLoads.raise {n} (h : BootLoads s a) : BootLoads s (a.raise n) :=
  h.trans ⟨rfl, rfl, rfl, fun _ => rfl, fun m hm => by simp [hm]⟩

theorem BootLoads.assertSrc {n} (h : BootLoads s a) : BootLoads s (a.assertSrc n) :=
  h.trans ⟨rfl, rfl, rfl, fun _ => rfl, fun _ => id⟩

theorem BootLoads.deassertSrc {n} (h : BootLoads s a) : BootLoads s (a.deassertSrc n) :=
  h.trans ⟨rfl, rfl, rfl, fun _ => rfl, fun _ => id⟩

theorem BootLoads.levelSrc {n b} (h : BootLoads s a) : BootLoads s (a.levelSrc n b) :=
  .ite h.assertSrc h.deassertSrc

theorem BootLoads.freeVal (h : BootLoads s a) : BootLoads s a.freeVal.2 :=
  h.set

theorem BootLoads.freeIn {lo hi} (h : BootLoads s a) : BootLoads s (a.freeIn lo hi).2 :=
  .iteSnd h h.freeVal

/-! #### Gates, holds and trips (spec/09) -/

theorem BootLoads.modLeg {l f} (h : BootLoads s a) : BootLoads s (a.modLeg l f) :=
  h.set

theorem BootLoads.modCarrier {k f} (h : BootLoads s a) : BootLoads s (a.modCarrier k f) :=
  h.set

theorem BootLoads.modGuard {c f} (h : BootLoads s a) : BootLoads s (a.modGuard c f) :=
  h.set

theorem BootLoads.gateOff {l} (h : BootLoads s a) : BootLoads s (a.gateOff l) :=
  .ite (h.trans ⟨rfl, rfl, rfl, fun _ => rfl, fun _ => id⟩) h

theorem BootLoads.legZero {l} (h : BootLoads s a) : BootLoads s (a.legZero l) :=
  h.gateOff.modLeg

theorem BootLoads.legOff {l} (h : BootLoads s a) : BootLoads s (a.legOff l) :=
  h.gateOff.gateOff.modLeg

theorem BootLoads.resetCarry {k} (h : BootLoads s a) : BootLoads s (a.resetCarry k) :=
  .forFin h fun _ _ h => h.wr.modLeg

theorem BootLoads.stopDriving {k} (h : BootLoads s a) : BootLoads s (a.stopDriving k) :=
  .ite (.forFin h.modCarrier fun _ _ h => h.modLeg) h

theorem BootLoads.applyRow {c b} (h : BootLoads s a) : BootLoads s (a.applyRow c b) :=
  .ite h (.forFin h.stopDriving fun _ _ h => .ite h.legZero h.legOff)

theorem BootLoads.applyCell {c} (h : BootLoads s a) : BootLoads s (a.applyCell c) :=
  .forFin h fun _ _ h => .applyRow (.ite h h.stopDriving)

theorem BootLoads.hold {c b bits} (h : BootLoads s a) : BootLoads s (a.hold c b bits) :=
  .ite h (.applyRow (.modGuard (.ite h.wr.wr.resetCarry h.wr)))

theorem BootLoads.registerTrip {old c b} (h : BootLoads s a) : BootLoads s (a.registerTrip old c b) :=
  .ite (.forFin (h.freeIn (lo := 1) (hi := 2)) fun _ _ h => .ite h.modLeg h) h

theorem BootLoads.trip {c i} (h : BootLoads s a) : BootLoads s (a.trip c i) :=
  .forFin h fun _ _ h => .ite h.hold.registerTrip h

theorem BootLoads.tripEnds {c i} (h : BootLoads s a) : BootLoads s (a.tripEnds c i) :=
  h.modGuard

theorem BootLoads.evalTrip {c i} (h : BootLoads s a) : BootLoads s (a.evalTrip c i) :=
  .ite h (.ite h.trip h.tripEnds)

theorem BootLoads.evalCell {c} (h : BootLoads s a) : BootLoads s (a.evalCell c) :=
  .forFin h fun _ _ h => .ite h.trip h

/-! #### The measurement front end and fitting (spec/06, spec/09) -/

theorem BootLoads.request {rank ch} (h : BootLoads s a) : BootLoads s (a.request rank ch) := by
  refine .ite h ?_
  dsimp only
  split
  · exact h.set
  · exact .ite h.wr h.set

theorem BootLoads.windowActs {ch high} (h : BootLoads s a) : BootLoads s (a.windowActs ch high) := by
  dsimp only [State.windowActs]
  split
  · exact .evalTrip (.ite h.wr.assertSrc.request h.wr.assertSrc)
  · exact .forFin (.ite h.wr.assertSrc.request h.wr.assertSrc) fun _ _ h => h.evalTrip

theorem BootLoads.restartStream {n} (h : BootLoads s a) : BootLoads s (a.restartStream n) :=
  h.wr.set

theorem BootLoads.streamSource {n} (h : BootLoads s a) : BootLoads s (a.streamSource n) :=
  h.levelSrc

theorem BootLoads.setFast {n hi lo} (h : BootLoads s a) : BootLoads s (a.setFast n hi lo) :=
  .ite h.wr.wr.streamSource.evalTrip (.ite h.wr.wr.streamSource.tripEnds h.wr.wr.streamSource)

theorem BootLoads.setStreamFault {n b} (h : BootLoads s a) : BootLoads s (a.setStreamFault n b) :=
  .streamSource (.set (.ite h.wr.wr h.wr))

theorem BootLoads.faultActs {d} (h : BootLoads s a) : BootLoads s (a.faultActs d) :=
  h.wr.assertSrc.evalTrip

theorem BootLoads.driverMode {d} (h : BootLoads s a) : BootLoads s (a.driverMode d) :=
  h.set.set

theorem BootLoads.fitCell {c} (h : BootLoads s a) : BootLoads s (a.fitCell c) :=
  .evalCell (.forFin (.foldl (.forFin h.modGuard fun _ _ h => .ite h.driverMode (.ite h.faultActs h))
    fun _ _ h => .ite h.windowActs h) fun _ _ h => h.restartStream)

theorem BootLoads.unfitCell {c} (h : BootLoads s a) : BootLoads s (a.unfitCell c) :=
  .applyCell (.modGuard (.wr (.deassertSrc
    (.forFin h fun _ _ h => h.wr.wr.deassertSrc.setFast.setStreamFault))))

theorem BootLoads.setFitted {mask} (h : BootLoads s a) : BootLoads s (a.setFitted mask) :=
  .forFin h.wr fun _ _ h => .ite h.fitCell (.ite h.unfitCell h)

/-! #### The bank, the dictionary and the controllers (spec/16, spec/17, spec/19) -/

theorem BootLoads.setupSystem (h : BootLoads s a) : BootLoads s a.setupSystem := by
  refine .forFin h fun _ _ h => ?_
  refine .foldl h fun _ _ h => ?_
  split <;> exact h.set

theorem BootLoads.setTiming {u t} (h : BootLoads s a) : BootLoads s (a.setTiming u t) :=
  .set (.wr (.wr h))

theorem BootLoads.canBoot {u} (h : BootLoads s a) : BootLoads s (a.canBoot u) :=
  .ite h.setTiming h.setTiming.wr

theorem BootLoads.setCanLease {v} (h : BootLoads s a) : BootLoads s (a.setCanLease v) :=
  h.wr.set

/-- The device state is no object of the store: a restore does not write it (spec/20 R644). -/
theorem kDevState_not_rwn : (rowOf kDevState).map Sub.acc ≠ some .rwn := by decide

theorem BootLoads.takeEntry {e} (h : BootLoads s a) : BootLoads s (a.takeEntry e) := by
  unfold State.takeEntry
  split
  · next r hrow =>
    split
    · next hok =>
      refine h.wr fun hdev => kDevState_not_rwn ?_
      have hacc : r.acc = .rwn := by
        simp only [Bool.and_eq_true, beq_iff_eq] at hok
        exact hok.1.1
      rw [← hdev, hrow, Option.map_some, hacc]
    · exact h.wr
  · exact h.wr

theorem BootLoads.takeImage {d} (h : BootLoads s a) : BootLoads s (a.takeImage d) :=
  .foldl (.wr (.wr h)) fun _ _ h => h.takeEntry

theorem BootLoads.restoreDict (h : BootLoads s a) : BootLoads s a.restoreDict := by
  have h1 : BootLoads s ((a.modNv fun n => { n with commit := matchCopies true n.commit }).wrAll
      [(0xE00103, (commitOf true a.nv.commit).2), (0xE00104, (commitOf true a.nv.commit).1)]) := .wr (.wr h.set)
  refine .ite h1.wr ?_
  split
  · exact h1.takeImage
  · exact h1.takeImage.wr.raise
  · exact h1.wr

theorem BootLoads.readLockouts (h : BootLoads s a) : BootLoads s a.readLockouts :=
  .ite (.wr (.forFin h fun _ _ h => h.set)) (.forFin h fun _ _ h => h.set)

theorem BootLoads.applyRestored {old} (h : BootLoads s a) : BootLoads s (a.applyRestored old) :=
  .setCanLease (.forFin (.forFin (.setFitted (.wr (.forFin h fun _ _ h => h.modCarrier))) fun p b h =>
    .ite h (h.movesPlls ((MovesPlls.refl b).acquire (Set.mem_univ p)))) fun _ _ h => h.canBoot)

/-- The device state is an object. -/
theorem State.dev_of_objs_eq (h : t.objs = s.objs) : t.dev = s.dev := congrArg (storeGet · kDevState) h

/-- No firmware bank is valid: the boot loader takes over and source 120 occurs (R102). -/
structure BootLoaderTakes (s t : State) : Prop where
  power : t.power = { s.power with bootLoader := true }
  occ : t.rails.occ.getLsbD 120 = true
  dev : t.dev = s.dev
  tick : t.tick = s.tick
  ref : t.clock.refPresent = s.clock.refPresent

theorem State.raise_occ (s : State) {n : Nat} (hn : n < 128) : (s.raise n).rails.occ.getLsbD n = true := by
  simp [hn]

theorem eq_or_eq_other : ∀ b n : Fin 2, b = n ∨ b = if n = 0 then 1 else 0 := by decide

/-- A valid bank is selected, or where none is the boot loader takes over. -/
theorem State.selectBank_cases (s : State) :
    (∃ b : Fin 2, s.nv.fw[b].valid = true) ∧ BootLoads s s.selectBank ∨
      (∀ b : Fin 2, s.nv.fw[b].valid = false) ∧ BootLoaderTakes s s.selectBank := by
  unfold State.selectBank
  extract_lets named other s1 run
  split
  · next h => exact .inl ⟨⟨named, h⟩, (BootLoads.refl s).set⟩
  · next hnamed =>
    split
    · next h => exact .inl ⟨⟨other, h⟩, .raise (.wr (BootLoads.refl s).set)⟩
    · next hother =>
      refine .inr ⟨fun b => ?_, rfl, (run s1 named).raise_occ (by decide),
        State.dev_of_objs_eq rfl, rfl, rfl⟩
      rcases eq_or_eq_other b named with rfl | rfl
      · exact Bool.eq_false_of_not_eq_true hnamed
      · exact Bool.eq_false_of_not_eq_true hother

/-- The load at BOOT, with the reference present: the firmware is loaded, or the boot loader takes over. -/
theorem State.bootLoad_cases (s : State) (hdev : s.dev = 0) (hreset : s.inReset = false)
    (hloaded : s.power.loaded = false) (hboot : s.power.bootLoader = false) (href : s.clock.refPresent = true) (hedge : 4 ∣ s.tick) :
    s.bootLoad.clock.refPresent = true ∧ s.bootLoad.tick = s.tick ∧ s.bootLoad.dev = 0 ∧
      if s.nv.fw[(0 : Fin 2)].valid = true ∨ s.nv.fw[(1 : Fin 2)].valid = true then
        s.bootLoad.power = { s.power with loaded := true }
      else s.bootLoad.power = { s.power with bootLoader := true } ∧ s.bootLoad.rails.occ.getLsbD 120 = true := by
  have hstep : s.bootLoad = if s.selectBank.power.bootLoader then s.selectBank.setupSystem
      else (s.selectBank.restoreDict.readLockouts.applyRestored s.selectBank).modPower fun p =>
        { p with loaded := true } := by
    unfold State.bootLoad
    simp [hdev, hreset, hloaded, hboot, href]
  rcases s.selectBank_cases with ⟨hvalid, h⟩ | ⟨hnone, h⟩
  · have hall := h.restoreDict.readLockouts.applyRestored (old := s.selectBank)
    rw [hstep, h.power, hboot, if_pos (Fin.exists_fin_two.mp hvalid)]
    generalize s.selectBank.restoreDict.readLockouts.applyRestored s.selectBank = t at hall
    exact ⟨hall.ref.trans href, hall.tick fun _ => hedge, hall.dev.trans hdev,
      congrArg (fun p : PowerSt => { p with loaded := true }) hall.power⟩
  · have hset := (BootLoads.refl s.selectBank).setupSystem
    have hnot : ¬ (s.nv.fw[(0 : Fin 2)].valid = true ∨ s.nv.fw[(1 : Fin 2)].valid = true) := by
      rw [hnone 0, hnone 1]
      simp
    rw [hstep, h.power, if_neg hnot]
    generalize s.selectBank.setupSystem = t at hset
    exact ⟨hset.ref.trans (h.ref.trans href), (hset.tick fun _ => h.tick ▸ hedge).trans h.tick,
      hset.dev.trans (h.dev.trans hdev), hset.power.trans h.power, hset.occ 120 h.occ⟩

/-! ### The relaxation oscillator (spec/03 R78) -/

theorem State.oscCheck_bad (s : State) (cycles : Nat) (href : s.clock.refPresent = true) (h : oscGood cycles = false) :
    s.oscCheck cycles = { (s.assertSrc 90) with clock := { s.clock with oscBad := true } } := by
  simp [State.oscCheck, State.levelSrc, href, h]

theorem State.oscCheck_good (s : State) (cycles : Nat) (href : s.clock.refPresent = true) (h : oscGood cycles = true) :
    s.oscCheck cycles = { (s.deassertSrc 90) with clock := { s.clock with oscBad := false } } := by
  simp [State.oscCheck, State.levelSrc, href, h]

theorem exec_relaxOscOutOfRange (cycles : BitVec 32) (s : State) (h : oscGood cycles.toNat = false) :
    exec (.relaxOscOutOfRange cycles) s = .next (s.oscCheck cycles.toNat) := by
  change execRelaxOscOutOfRange cycles s = _
  simp [execRelaxOscOutOfRange, h]

theorem exec_relaxationOscillatorInRange (cycles : BitVec 32) (s : State) (h : oscGood cycles.toNat = true) :
    exec (.relaxationOscillatorInRange cycles) s = .next (s.oscCheck cycles.toNat) := by
  change execRelaxationOscillatorInRange cycles s = _
  simp [execRelaxationOscillatorInRange, h]

/-! ### The reference and the oscillator monitored -/

theorem exec_refclkLost (edges : Byte) (s : State) :
    exec (.refclkLost edges) s = .next (s.refLost edges.toNat) := rfl

theorem exec_refclkPresent (counts : Vector Byte 8) (s : State) :
    exec (.refclkPresent counts) s = .next (s.refPresent counts).bootLoad := rfl

/-- Settles O8: each PLL goes its own way at one tick as the reference goes and comes, and what BOOT then loads touches neither time nor the device state. -/
theorem referenceAndOscillatorMonitors : Obligations.ReferenceAndOscillatorMonitors := by
  unfold Obligations.ReferenceAndOscillatorMonitors
  intro s
  refine ⟨fun edges h => ?_, fun counts habsent hgood hdev => ?_,
    fun counts habsent hgood hdev hreset hloaded hboot => ?_, fun cycles href hbad => ?_,
    fun cycles href hlow hhigh => ?_⟩
  · have hlost : s.windowLost edges.toNat = true := State.windowLost_of (h.imp_right fun h => congrArg BitVec.toNat h)
    have hgone := s.refGone_refLost _ hlost
    exact ⟨_, exec_refclkLost edges s, hgone.ref, hgone.cond, hgone.plls, hgone.tick, hgone.areas, hgone.frame⟩
  · have h := s.regainsRef_refPresent counts habsent hgood
    have hidle : (s.refPresent counts).bootLoad = s.refPresent counts := by
      unfold State.bootLoad
      simp [h.dev, hdev]
    exact ⟨_, (exec_refclkPresent counts s).trans (congrArg _ hidle), h.ref, h.cond, h.plls, h.tick, h.areas,
      h.frame⟩
  · have h := s.regainsRef_refPresent counts habsent hgood
    have hpower : (s.refPresent counts).power = s.power := (congrArg State.power h.frame :)
    have hnv : (s.refPresent counts).nv = s.nv := (congrArg State.nv h.frame :)
    obtain ⟨href, htick, hdev', hload⟩ := (s.refPresent counts).bootLoad_cases (h.dev.trans hdev)
      (by rwa [State.inReset, hpower]) (by rwa [hpower]) (by rwa [hpower]) h.ref (h.tick ▸ Nat.dvd_mul_left 4 _)
    refine ⟨_, exec_refclkPresent counts s, href, htick.trans h.tick, hdev', ?_⟩
    rwa [hpower, hnv] at hload
  · have hosc : oscGood cycles.toNat = false := by
      unfold oscGood
      grind
    exact ⟨_, (exec_relaxOscOutOfRange cycles s hosc).trans (congrArg _ (s.oscCheck_bad _ href hosc)), rfl, rfl,
      rfl, rfl⟩
  · have hosc : oscGood cycles.toNat = true := by
      unfold oscGood
      grind
    exact ⟨_, (exec_relaxationOscillatorInRange cycles s hosc).trans (congrArg _ (s.oscCheck_good _ href hosc)),
      rfl, rfl, rfl, rfl⟩

end Sys2Proof.Machine
end

section

namespace Sys2Proof.Machine

-- One proof after the other: each of Lean's threads takes its stack from the memory that the check allows.
set_option Elab.async false

/-! ### Device-wide resets (spec/04 R94 to R98, R120) -/

theorem State.rd_wr_ne (s : State) {k j : Nat} (v : Nat) (h : j ≠ k) : (s.wr k v).rd j = s.rd j := by simp [h]

/-- What the end of an install by a reset leaves alone. -/
structure EndsInstall (s t : State) : Prop where
  objs : KeepsObjs [0xE01102, 0xE01103] s t
  frame : t = { s with objs := t.objs, jobs := t.jobs, nv := { s.nv with fw := t.nv.fw } }

theorem EndsInstall.wr {s a : State} {k v : Nat} (h : EndsInstall s a) (hk : k ∈ [0xE01102, 0xE01103]) :
    EndsInstall s (a.wr k v) where
  objs j hj := (a.rd_wr_ne v fun (e : j = k) => hj (e ▸ hk)).trans (h.objs j hj)
  frame := by rw [h.frame]; rfl

theorem EndsInstall.fwState {s a : State} {phase result : Nat} (h : EndsInstall s a) :
    EndsInstall s (a.fwState phase result) := (h.wr (k := 0xE01102) (by decide)).wr (k := 0xE01103) (by decide)

theorem EndsInstall.modIdle {s a : State} {f : FwBank → FwBank} (h : EndsInstall s a) : EndsInstall s (a.modIdle f) where
  objs := h.objs
  frame := by rw [h.frame]; rfl

theorem State.fwReset_endsInstall (s : State) (phase : Nat) : EndsInstall s (s.fwReset phase) := by
  unfold State.fwReset
  extract_lets _ _ a
  have h : EndsInstall s a := ⟨fun _ _ => rfl, rfl⟩
  clear_value a
  split_ifs
  · exact h.fwState
  · exact h.modIdle.fwState
  · exact h.wr (by decide)
  · exact h.fwState
  · exact h

/-- Before the install's end, a device-wide reset leaves the state after reset but for what it keeps, the time base of what restarts, and ROLE. -/
theorem State.atReset_cases (s : State) : ∃ a : State, EndsInstall a s.atReset ∧ a.rd kRole = s.rd kRole ∧
    KeepsObjs [kRole] State.reset a ∧
    a = { State.reset with
      pending := s.pending, tick := s.tick, free := s.free, pins := s.pins, tap := s.tap, nv := s.nv, objs := a.objs
      lastStatus := s.lastStatus, lastData := s.lastData, clock := a.clock, collector := a.collector, lanes := a.lanes
      paths := a.paths, hatch := a.hatch, rails := a.rails, jobs := a.jobs } :=
  ⟨_, State.fwReset_endsInstall _ _, (State.rd_wr ..).trans (if_pos rfl),
    fun _ hk => State.rd_wr_ne _ _ fun e => hk (e ▸ List.mem_singleton_self _), rfl⟩

/-- What a device-wide reset leaves, of the reset logic and the test port too. -/
structure Resets (s t : State) : Prop where
  leaves : ResetLeaves s t
  power : t.power = .init
  tap : t.tap = s.tap
  role : t.rd kRole = s.rd kRole

/-- `ResetLeaves` names neither the reset logic nor the test port, and leaves ROLE and the reset cause open. -/
theorem ResetLeaves.of_frame {s a t : State} (h : ResetLeaves s a) (hobjs : KeepsObjs [kRole, kResetCause] a t)
    (hframe : t = { a with objs := t.objs, power := t.power, tap := t.tap }) : ResetLeaves s t := by
  obtain ⟨h1, h2, h3, h4, h5, h6, hdefault⟩ := h
  have hkeeps (k : Nat) (hk : k ∉ [kRole, kResetCause, 0xE01102, 0xE01103]) : t.rd k = objDefault k :=
    (hobjs k fun h => hk (List.mem_append_left [0xE01102, 0xE01103] h)).trans (hdefault k hk)
  generalize t.objs = o, t.power = p, t.tap = j at hframe
  subst hframe
  exact ⟨h1, h2, h3, h4, h5, h6, hkeeps⟩

theorem State.atReset_resets (s : State) : Resets s s.atReset := by
  obtain ⟨a, ⟨hobjs, hframe⟩, hrole, hrd, ha⟩ := s.atReset_cases
  have hrole' := (hobjs kRole (by decide)).trans hrole
  have hdefault (k : Nat) (hk : k ∉ [kRole, kResetCause, 0xE01102, 0xE01103]) : s.atReset.rd k = objDefault k :=
    (hobjs k fun h => hk (List.mem_append_right [kRole, kResetCause] h)).trans
      (hrd k fun h => hk (List.mem_append_left [kResetCause, 0xE01102, 0xE01103] h))
  clear hobjs hrd hrole
  rw [ha] at hframe
  generalize s.atReset = t at *
  generalize t.objs = o, t.jobs = j, t.nv.fw = f at hframe
  subst hframe
  exact ⟨⟨rfl, rfl, rfl, rfl, rfl, ⟨rfl, rfl, rfl, rfl, rfl, rfl, rfl, rfl, rfl, rfl, rfl, rfl, rfl, rfl, rfl⟩, hdefault⟩,
    rfl, rfl, hrole'⟩

theorem ResetLeaves.dev {s t : State} (h : ResetLeaves s t) : t.dev = 0 := by
  obtain ⟨-, -, -, -, -, -, hdefault⟩ := h
  exact hdefault kDevState (by decide)

/-- What the release of a device-wide reset leaves, with its cause, and with ROLE as it stands or as sampled. -/
structure Boots (s t : State) (cause role : Nat) : Prop where
  leaves : ResetLeaves s t
  power : t.power = .init
  tap : t.tap = s.tap
  role : t.rd kRole = role
  cause : t.rd kResetCause = cause

theorem State.boot_boots (s : State) (cause : Nat) : Boots s (s.boot cause) cause (s.rd kRole) :=
  have h := s.atReset_resets
  { leaves := h.leaves.of_frame (fun _ hk => State.rd_wr_ne _ _ fun e => hk (by simp [e])) rfl
    power := h.power
    tap := h.tap
    role := (State.rd_wr_ne _ _ (by decide)).trans h.role
    cause := (State.rd_wr ..).trans (if_pos rfl) }

theorem Boots.sampleRole {s a : State} {cause old : Nat} (h : Boots s a cause old) (role : Bool) :
    Boots s (a.sampleRole role) cause (if role then 1 else 0) where
  leaves := h.leaves.of_frame (fun _ hk => State.rd_wr_ne _ _ fun e => hk (by simp [e])) rfl
  power := h.power
  tap := h.tap
  role := (State.rd_wr ..).trans (if_pos rfl)
  cause := (State.rd_wr_ne _ _ (by decide)).trans h.cause

/-! ### What each command is under its hypotheses -/

theorem State.porRelease_eq (s : State) (role : Bool) (hpor : s.power.por = true) :
    s.porRelease role = ((s.boot 0).sampleRole role).modPower fun p => { p with pinReset := s.power.pinReset } := by
  simp [State.porRelease, hpor]

theorem State.pinAssert_held (s : State) (hpor : s.power.por = true) :
    s.pinAssert = s.modPower fun p => { p with pinReset := true } := by simp [State.pinAssert, hpor]

theorem State.pinAssert_free (s : State) (hpor : s.power.por = false) :
    s.pinAssert = s.atReset.modPower fun p => { p with pinReset := true } := by simp [State.pinAssert, hpor]

theorem State.pinRelease_held (s : State) (role : Bool) (hpin : s.power.pinReset = true) (hpor : s.power.por = true) :
    s.pinRelease role = (s.sampleRole role).modPower fun p => { p with pinReset := false } := by
  simp [State.pinRelease, hpin, hpor]

theorem State.pinRelease_free (s : State) (role : Bool) (hpin : s.power.pinReset = true) (hpor : s.power.por = false) :
    s.pinRelease role = (s.boot 1).sampleRole role := by simp [State.pinRelease, hpin, hpor]

theorem State.commandReset_eq (s : State) (d : Nat) (hdue : s.power.resetDue = some d) (hreset : s.inReset = false)
    (hresp : s.responding = false ∨ d ≤ s.tick) : s.commandReset = s.boot 2 := by
  have hnow : (s.responding && Decidable.decide (s.tick < d)) = false := by
    rcases hresp with h | h <;> simp [h]
  simp [State.commandReset, hdue, hreset, hnow]

/-- Settles O1: each command is the reset of the volatile state, `State.atReset`, and a few writes that `ResetLeaves` leaves open. -/
theorem deviceWideResetsLeaveBoot : Obligations.DeviceWideResetsLeaveBoot := by
  unfold Obligations.DeviceWideResetsLeaveBoot
  intro s
  have h := s.atReset_resets
  refine ⟨⟨_, rfl, ?_⟩, fun role hpor => ⟨_, rfl, ?_⟩, ⟨_, rfl, ?_⟩, fun role hpin => ⟨_, rfl, ?_⟩,
    fun d hdue hreset hresp => ⟨_, rfl, ?_⟩⟩
  · exact ⟨h.leaves.of_frame (fun _ _ => rfl) rfl, rfl, rfl, h.role, rfl⟩
  · have hboot := (s.boot_boots 0).sampleRole role
    rw [s.porRelease_eq role hpor]
    exact ⟨hboot.leaves.of_frame (fun _ _ => rfl) rfl, congrArg PowerSt.por hboot.power, rfl, hboot.leaves.dev,
      hboot.cause, hboot.role, hboot.tap⟩
  · cases hpor : s.power.por
    · rw [s.pinAssert_free hpor]
      exact ⟨fun _ => h.leaves.of_frame (fun _ _ => rfl) rfl, rfl, congrArg PowerSt.por h.power, h.role, h.tap⟩
    · rw [s.pinAssert_held hpor]
      exact ⟨nofun, rfl, hpor, rfl, rfl⟩
  · cases hpor : s.power.por
    · have hboot := (s.boot_boots 1).sampleRole role
      rw [s.pinRelease_free role hpin hpor]
      exact ⟨fun _ => ⟨hboot.leaves, hboot.leaves.dev, hboot.cause⟩, congrArg PowerSt.pinReset hboot.power,
        congrArg PowerSt.por hboot.power, hboot.role, hboot.tap⟩
    · rw [s.pinRelease_held role hpin hpor]
      exact ⟨nofun, rfl, hpor, (State.rd_wr ..).trans (if_pos rfl), rfl⟩
  · have hboot := s.boot_boots 2
    rw [s.commandReset_eq d hdue hreset hresp]
    exact ⟨hboot.leaves, by rw [State.inReset, hboot.power]; rfl, hboot.leaves.dev, hboot.cause, hboot.role,
      congrArg PowerSt.resetDue hboot.power, hboot.tap⟩

/-! ### The invariants after reset -/

/-- Settles O60: with the gates off, no run in progress and every cell OFF, the invariants ask nothing more than the canonical forms of empty stores. -/
theorem resetMeetsTheInvariants : Obligations.ResetMeetsTheInvariants := by
  unfold Obligations.ResetMeetsTheInvariants
  refine ⟨fun l h => ?_, by decide, by decide, by decide, by decide, fun e k r h => ?_, fun c _ => State.reset_cellSt c⟩
  · exact absurd h.1 (by rw [State.reset_gates]; decide)
  · exact absurd h (by rw [State.reset_run]; nofun)

/-! ### BOOT with a stored dictionary that changes PLL_T (spec/03 R70; spec/04 R101, R103) -/

/-- The entry of PLL_T's feedback divider in a dictionary image (spec/19 R617), with a value that is not its default. -/
def pllTEntry : Bytes := entryBytes 0x200002 2 2000

/-- A dictionary image of generation 1 with this one entry. -/
def pllTImage : Bytes :=
  natLe 4 1 ++ natLe 4 1 ++ natLe 4 (16 + pllTEntry.length) ++ natLe 4 (crc32c pllTEntry) ++ pllTEntry

/-- BOOT with the reference present, PLL_T locked and both firmware banks valid, and with the image in bank A. -/
def bootWithPllTImage : State :=
  let s := State.reset.wrBit (kPllStatus 0) 0 true
  { s with clock.refPresent := true, nv.dict := s.nv.dict.set 0 pllTImage }

set_option maxRecDepth 4000 in
/-- The restored divider makes PLL_T acquire afresh (spec/03 R70; log entry 171), and BOOT is not left without its lock (R103). -/
theorem bootWithPllTImage_stays : bootWithPllTImage.bootComplete.dev = 0 := by decide

/-- Refutes O2: BOOT_COMPLETE is said to end in HATCH where a bank is valid and PLL_T is locked, but a stored dictionary that changes PLL_T's configuration takes its lock away first. -/
theorem not_bootAndSupervisorRestarts : ¬ Obligations.BootAndSupervisorRestarts := by
  unfold Obligations.BootAndSupervisorRestarts
  intro h
  obtain ⟨t, hexec, hdev, -⟩ := (h bootWithPllTImage).1 (by decide) (by decide) (by decide)
    (.inr ⟨by decide, .inl (by decide)⟩) (by decide)
  obtain rfl : bootWithPllTImage.bootComplete = t := Host.Outcome.next.inj hexec
  exact absurd (bootWithPllTImage_stays.symm.trans hdev) (by decide)

/-! ### SAFE with a run in progress (spec/07 R228, R249; spec/04 R113) -/

/-- A run that computes since tick 0: its two blocks take 10 ns each, typically, and the first has met an input that is not finite, which is recorded. -/
def runUnderWay : RunSt where
  trig := 0
  deadline := 1000
  staged := []
  res := []
  sawReq := false
  begun := true
  since := some 0
  ran := 0
  starts := [10, 20]
  total := 20
  bad := [(0, 0)]
  noted := 1
  done := false

/-- RUN, with the Supervisor executing and no external fault, 12 ticks (19.2 ns) into such a run of the string engine. -/
def runningMidRun : State :=
  let s := State.reset.wr kDevState 4
  { s with
    tick := 12
    power.supervisor := true
    pins := { s.pins with fltInP := true, fltInN := false, safeN := true }
    rails := ⟨0, 0⟩
    engines := upd s.engines 6 fun g => { g with tasks := upd g.tasks 0 fun k => { k with run := some runUnderWay } } }

theorem exec_cmdSafe (s : State) : exec .cmdSafe s = .next (s.cmd 4) := rfl

set_option maxRecDepth 4000 in
/-- Whether the second block has ended by then is free (log entry 151): SAFE, which gives the run up, takes a free value. -/
theorem runningMidRun_free : (runningMidRun.cmd 4).free = runningMidRun.free + 1 := by decide

/-- Refutes O3: SAFE out of RUN gives up the string engine's runs, which takes a free value where a run has met a bad input and computes; the clause of SAFE lets no free value be taken. -/
theorem not_stateCommandsMoveTheDevice : ¬ Obligations.StateCommandsMoveTheDevice := by
  unfold Obligations.StateCommandsMoveTheDevice
  intro h
  obtain ⟨-, -, -, -, -, hsafe, -⟩ := h runningMidRun
  obtain ⟨t, hexec, -, -, -, -, -, -, -, -, -, -, -, hframe⟩ :=
    hsafe (by decide) (by decide) (by decide) (.inr (.inr (by decide)))
  obtain rfl : runningMidRun.cmd 4 = t := Host.Outcome.next.inj ((exec_cmdSafe _).symm.trans hexec)
  have hfree : (runningMidRun.cmd 4).free = runningMidRun.free := (congrArg State.free hframe :)
  exact absurd (runningMidRun_free.symm.trans hfree) (by decide)

/-! ### DONE in a worker whose PSEL_DRIVEN is set (spec/13 R434; spec/15 R495, R498) -/

/-- A worker in HATCH, with its position on path X and UP lanes towards the manager on X and away from it on Y, whose PSEL_DRIVEN bit is set. -/
def workerWithPselDriven : State :=
  State.reset.wrAll [(kDevState, 1), (0xB03001, 3), (kLane 0 1, 4), (kLane 3 1, 4), (0xB02003, 2)]

set_option maxRecDepth 4000 in
/-- At the end of its HATCH it releases PSEL_N, and a LEASE frame waits on the D lane of path Y. -/
theorem workerWithPselDriven_sends :
    (workerWithPselDriven.enumRow (uLane 0) fun a => a.takeDone 0 []).lanes[(3 : Lane)].queue ≠ [] := by decide

theorem exec_enumDoneReceive (q : Path) (b : Bytes) (s : State) :
    exec (.enumDoneReceive q b) s = .next (s.enumRow (uLane q) fun a => a.takeDone q b) := rfl

/-- Refutes O30: the clause of DONE on path X says that every lane but the D lane of X keeps its queue; where PSEL_DRIVEN is set in a worker, the end of HATCH releases PSEL_N, and its LEASE frames wait on the D lanes (spec/15 R495, R498). The bit is set in no worker that a reset leads to, but the statement speaks of every state. -/
theorem not_hatchEndsConflictsAndJoins : ¬ Obligations.HatchEndsConflictsAndJoins := by
  unfold Obligations.HatchEndsConflictsAndJoins
  intro h
  obtain ⟨-, -, hdone, -⟩ := h workerWithPselDriven
  obtain ⟨t, hexec, -, -, -, -, -, -, -, -, -, -, hqueues, -⟩ := hdone 0 [] (by decide) (by decide)
  obtain rfl := Host.Outcome.next.inj ((exec_enumDoneReceive ..).symm.trans hexec)
  exact workerWithPselDriven_sends ((hqueues 3 (by decide)).trans (by decide))

/-! ### A run that stages the state of a cell (spec/04 R112; spec/07 R246) -/

/-- A run whose last block is done, with the state CHARGE of cell 0 among its staged writes. -/
def runStagingCellState : RunSt where
  trig := 0
  deadline := 0
  staged := [(kCellState 0, 1)]
  res := []
  sawReq := false
  begun := true
  since := none
  ran := 0
  starts := []
  total := 0
  bad := []
  noted := 0
  done := true

/-- The state after reset, in which no cell is fitted, with this run in engine 0 and its release at the front of the queue. -/
def stagedCellState : State :=
  { State.reset.modTask 0 0 (fun k => { k with run := some runStagingCellState }) with
    pending := [.loopRunRelease 0 0] }

/-- The step that releases the run. -/
theorem step_stagedCellState :
    step stagedCellState = .next ({ stagedCellState with pending := [] }.release 0 0) := rfl

/-- The release commits the run, and with it the state that it staged. -/
theorem stagedCellState_commits :
    ({ stagedCellState with pending := [] }.release 0 0).fitted 0 = false ∧
      ({ stagedCellState with pending := [] }.release 0 0).cellSt 0 = 1 := by decide

/-- Refutes O56: a run may have staged any write, and its release commits that of a cell's state, whether the cell is fitted or not. In no state that a reset leads to has a run staged such a write, since its OUTPUT blocks write only fields of shadows and MOD_DEMAND (spec/07 R246; spec/10 R330), but the statement speaks of every state. -/
theorem not_unfittedCellsStayOff : ¬ Obligations.UnfittedCellsStayOff := by
  unfold Obligations.UnfittedCellsStayOff
  intro h
  have hoff : ∀ c : Cell, stagedCellState.fitted c = false → stagedCellState.cellSt c = 0 := by decide
  obtain ⟨hunfitted, hcharge⟩ := stagedCellState_commits
  exact absurd (hcharge.symm.trans (h _ _ hoff step_stagedCellState 0 hunfitted)) (by decide)

end Sys2Proof.Machine
end

section
/-! What every operation may touch: footprints. -/

namespace Sys2Proof.Machine
set_option Elab.async false

/-! ### Footprints

What an operation may touch: parts of the state, and areas of the dictionary. Each operation below has one lemma that bears its name and its footprint. -/

/-- The parts of the state of which a footprint speaks: its fields, of some of them a part that stands for itself, and the areas of the dictionary (key / 2^20, spec/20 R637). -/
inductive Part where
  | pending | tick | net | free | status | power | pins | tap
  | clock | lines
  | gates
  /-- A gate output may turn on. -/
  | gatesOn
  /-- CELL_FITTED and the states of the cells. -/
  | cells
  | carriers | legs | guard | rails | signals | winTrip | engines | modeDone | refs | charge | string | stringRx
  | collector | relay
  | lanes | paths | hatch | lease | frames | time | meas | thermal | nv | jobs | can | wdp | capture
  | area (n : Nat)

/-- The bit of a part in a footprint. -/
def Part.ix : Part → Nat
  | .area n => 64 + n
  | p => p.ctorIdx

/-- The footprint of these parts, a bit for each. -/
def foot (ps : List Part) : Nat := ps.foldl (fun m p => m ||| 1 <<< p.ix) 0

/-- The new value where a footprint has a part, else the old one. -/
def pick {α : Type} (F : Nat) (p : Part) (old new : α) : α := if F.testBit p.ix then new else old

/-- The state s with the parts of a footprint, and the dictionary, taken from t. -/
def State.patch (s : State) (F : Nat) (t : State) : State where
  pending := pick F .pending s.pending t.pending
  tick := pick F .tick s.tick t.tick
  net := pick F .net s.net t.net
  free := pick F .free s.free t.free
  objs := t.objs
  lastStatus := pick F .status s.lastStatus t.lastStatus
  lastData := pick F .status s.lastData t.lastData
  power := pick F .power s.power t.power
  pins := pick F .pins s.pins t.pins
  tap := pick F .tap s.tap t.tap
  clock := pick F .clock (pick F .lines s.clock { s.clock with lines := t.clock.lines }) t.clock
  gates := pick F .gates s.gates t.gates
  carriers := pick F .carriers s.carriers t.carriers
  legs := pick F .legs s.legs t.legs
  guard := pick F .guard s.guard t.guard
  rails := pick F .rails s.rails t.rails
  signals := pick F .signals s.signals t.signals
  winTrip := pick F .winTrip s.winTrip t.winTrip
  engines := pick F .engines s.engines t.engines
  modeDone := pick F .modeDone s.modeDone t.modeDone
  refs := pick F .refs s.refs t.refs
  charge := pick F .charge s.charge t.charge
  string := pick F .string s.string t.string
  stringRx := pick F .stringRx s.stringRx t.stringRx
  collector := pick F .collector (pick F .relay s.collector { s.collector with relay := t.collector.relay }) t.collector
  lanes := pick F .lanes s.lanes t.lanes
  paths := pick F .paths s.paths t.paths
  hatch := pick F .hatch s.hatch t.hatch
  lease := pick F .lease s.lease t.lease
  frames := pick F .frames s.frames t.frames
  time := pick F .time s.time t.time
  meas := pick F .meas s.meas t.meas
  thermal := pick F .thermal s.thermal t.thermal
  nv := pick F .nv s.nv t.nv
  jobs := pick F .jobs s.jobs t.jobs
  can := pick F .can s.can t.can
  wdp := pick F .wdp s.wdp t.wdp
  capture := pick F .capture s.capture t.capture

/-- CELL_FITTED and the state of every cell as they were. -/
def SameCells (s t : State) : Prop := t.rd kFitted = s.rd kFitted ∧ ∀ c : Cell, t.cellSt c = s.cellSt c

/-- What an operation with a footprint makes of a state. -/
structure Within (F : Nat) (s t : State) : Prop where
  frame : t = s.patch F t
  objs : ∀ k, F.testBit (Part.area (k / 2 ^ 20)).ix = false → t.rd k = s.rd k
  gates : F.testBit Part.gatesOn.ix = false → ∀ l : Line, s.gates[l] = false → t.gates[l] = false
  cells : F.testBit Part.cells.ix = false → SameCells s t

theorem SameCells.refl (s : State) : SameCells s s := ⟨rfl, fun _ => rfl⟩

theorem SameCells.trans {s a t : State} (h : SameCells s a) (h' : SameCells a t) : SameCells s t :=
  ⟨h'.1.trans h.1, fun c => (h'.2 c).trans (h.2 c)⟩

theorem SameCells.fitted {s t : State} (h : SameCells s t) (c : Nat) : t.fitted c = s.fitted c := by
  unfold State.fitted State.bitAt
  rw [h.1]

variable {F G : Nat} {s a t : State}

theorem testBit_mono (h : G ||| F = F) (i : Nat) (hG : G.testBit i = true) : F.testBit i = true := by
  rw [← h, Nat.testBit_or, hG, Bool.true_or]

theorem testBit_anti (h : G ||| F = F) (i : Nat) (hF : F.testBit i = false) : G.testBit i = false :=
  Bool.eq_false_iff.2 fun hG => Bool.eq_false_iff.1 hF (testBit_mono h i hG)

theorem pick_pick {α : Type} (p : Part) (x y z : α) : pick F p (pick F p x y) z = pick F p x z := by
  unfold pick
  split <;> rfl

theorem pick_mono {α : Type} (h : G ||| F = F) (p : Part) (x z : α) : pick F p x (pick G p x z) = pick G p x z := by
  unfold pick
  have := testBit_mono h p.ix
  split
  · rfl
  · split
    · simp_all
    · rfl

theorem State.patch_patch (s t u : State) (F : Nat) : (s.patch F t).patch F u = s.patch F u := by
  simp only [State.patch, pick_pick]
  congr 1 <;> (unfold pick; split_ifs <;> rfl)

theorem Within.refl (F : Nat) (s : State) : Within F s s where
  frame := by
    unfold State.patch
    simp [pick]
  objs _ _ := rfl
  gates _ _ := id
  cells _ := .refl s

theorem State.patch_mono (s t : State) (h : G ||| F = F) : s.patch F (s.patch G t) = s.patch G t := by
  simp only [State.patch, pick_mono h]
  congr 1
  · have h1 := testBit_mono h Part.clock.ix
    have h2 := testBit_mono h Part.lines.ix
    unfold pick
    split_ifs <;> simp_all
  · have h1 := testBit_mono h Part.collector.ix
    have h2 := testBit_mono h Part.relay.ix
    unfold pick
    split_ifs <;> simp_all

theorem Within.trans (h : Within F s a) (h' : Within F a t) : Within F s t where
  frame := h'.frame.trans ((congrArg (State.patch · F t) h.frame).trans (State.patch_patch s a t F))
  objs k hk := (h'.objs k hk).trans (h.objs k hk)
  gates hF l := h'.gates hF l ∘ h.gates hF l
  cells hF := (h.cells hF).trans (h'.cells hF)

/-- A footprint within a wider one. -/
theorem Within.mono (h : Within G s t) (hF : G ||| F = F) : Within F s t where
  frame := (h.frame.trans (s.patch_mono t hF).symm).trans (congrArg (s.patch F) h.frame.symm)
  objs k hk := h.objs k (testBit_anti hF _ hk)
  gates hgates := h.gates (testBit_anti hF _ hgates)
  cells hcells := h.cells (testBit_anti hF _ hcells)

/-- An operation with a footprint of its own, after others. -/
theorem Within.via (h : Within F s a) (hF : G ||| F = F) (hop : Within G a a → Within G a t) : Within F s t :=
  h.trans ((hop (.refl G a)).mono hF)

/-- A change of parts of a footprint, written as a record update, that turns no gate on. -/
theorem Within.set {pending tick net free lastStatus lastData power pins tap clock gates carriers legs guard rails signals
    winTrip engines modeDone refs charge string stringRx collector lanes paths hatch lease frames time meas thermal nv
    jobs can wdp capture} (h : Within F s a)
    (ht : State.mk pending tick net free a.objs lastStatus lastData power pins tap clock gates carriers legs guard rails
        signals winTrip engines modeDone refs charge string stringRx collector lanes paths hatch lease frames time meas
        thermal nv jobs can wdp capture =
      a.patch F (.mk pending tick net free a.objs lastStatus lastData power pins tap clock gates carriers legs guard rails
        signals winTrip engines modeDone refs charge string stringRx collector lanes paths hatch lease frames time meas
        thermal nv jobs can wdp capture) := by rfl)
    (hgates : ∀ l : Line, a.gates[l] = false → gates[l] = false := by exact fun _ => id) :
    Within F s (.mk pending tick net free a.objs lastStatus lastData power pins tap clock gates carriers legs guard rails
      signals winTrip engines modeDone refs charge string stringRx collector lanes paths hatch lease frames time meas
      thermal nv jobs can wdp capture) :=
  h.trans ⟨ht, fun _ _ => rfl, fun _ => hgates, fun _ => ⟨rfl, fun _ => rfl⟩⟩

/-! #### Writes of objects -/

/-- Neither CELL_FITTED nor the state of a cell. -/
def Ordinary (k : Nat) : Prop := k ≠ 0x001100 ∧ (k < 0x700000 ∨ 0x760000 ≤ k ∨ k % 0x10000 ≠ 0x301)

/-- An object of an area, neither CELL_FITTED nor the state of a cell. -/
def InArea (n k : Nat) : Prop := n * 2 ^ 20 ≤ k ∧ k < (n + 1) * 2 ^ 20 ∧ Ordinary k

theorem Ordinary.ne_fitted {k : Nat} (h : Ordinary k) : k ≠ kFitted := h.1

theorem Ordinary.ne_cellState {k : Nat} (h : Ordinary k) (c : Cell) : k ≠ kCellState c := by
  obtain ⟨-, h⟩ := h
  unfold kCellState unitKey
  omega

theorem InArea.area {n k : Nat} (h : InArea n k) : k / 2 ^ 20 = n := by
  obtain ⟨h1, h2, -⟩ := h
  omega

theorem State.sameCells_wr (s : State) {k : Nat} (v : Nat) (hk : Ordinary k) : SameCells s (s.wr k v) :=
  ⟨State.rd_wr_ne _ _ hk.ne_fitted.symm, fun c => State.rd_wr_ne _ _ (hk.ne_cellState c).symm⟩

theorem State.wr_frame (s : State) (F k v : Nat) : s.wr k v = s.patch F (s.wr k v) := by
  unfold State.patch
  simp [pick]
  rfl

/-- A write of an object of area n. What `wrBit`, `orBits`, `clrBits` and `count` do is a write too. -/
theorem Within.wrIn (n : Nat) {k v : Nat} (h : Within F s a)
    (hk : InArea n k := by
      simp [InArea, Ordinary, kLane, kPathRate, kPll, kPllStatus, kHoldCause, kByp, kCarry, kCellState, kBlock, kSignal,
        kLoop, kProf, kStream, kSticky, kErr, kTable, unitKey, kDevState, kEntryS, kEntryNs, kSafeCause, kFlags, kResult]
        <;> omega)
    (hF : foot [.area n] ||| F = F := by decide) : Within F s (a.wr k v) :=
  h.trans
    { frame := a.wr_frame F k v
      objs := fun j hj => a.rd_wr_ne v fun e => by
        have := testBit_mono hF (Part.area n).ix (by simp [foot, Nat.shiftLeft_eq, Nat.testBit_two_pow_self])
        rw [e, hk.area, this] at hj
        exact absurd hj (by decide)
      gates := fun _ _ => id
      cells := fun _ => a.sameCells_wr v hk.2.2 }


/-! #### Branches and folds -/

theorem Within.ite {c : Prop} {_ : Decidable c} {x y : State} (hx : Within F s x) (hy : Within F s y) :
    Within F s (if c then x else y) := by
  split
  · exact hx
  · exact hy

theorem Within.foldl {α : Type} {l : List α} {f : State → α → State} (h : Within F s a)
    (hf : ∀ b x, Within F s b → Within F s (f b x)) : Within F s (l.foldl f a) := by
  induction l generalizing a with
  | nil => exact h
  | cons x l ih => exact ih (hf a x h)

theorem Within.forFin {n : Nat} {f : Fin n → State → State} (h : Within F s a)
    (hf : ∀ i b, Within F s b → Within F s (f i b)) : Within F s (Machine.forFin n a f) :=
  forFin_keeps (Within F s) f hf a h

theorem Within.iteSnd {α : Type} {c : Prop} {_ : Decidable c} {x y : α × State} (hx : Within F s x.2)
    (hy : Within F s y.2) : Within F s (if c then x else y).2 := by
  split
  · exact hx
  · exact hy

theorem Within.wrAll (n : Nat) {kvs : List (Nat × Nat)} (h : Within F s a)
    (hk : ∀ p ∈ kvs, InArea n p.1 := by
      simp [InArea, Ordinary, kLane, kPathRate, kPll, kPllStatus, kHoldCause, kByp, kCarry, kCellState, kBlock, kSignal,
        kLoop, kProf, kStream, kSticky, kErr, kTable, unitKey, kDevState, kEntryS, kEntryNs, kSafeCause, kFlags, kResult]
        <;> omega)
    (hF : foot [.area n] ||| F = F := by decide) : Within F s (a.wrAll kvs) := by
  unfold State.wrAll
  induction kvs generalizing a with
  | nil => exact h
  | cons p kvs ih =>
    exact ih (h.wrIn n (hk p List.mem_cons_self) hF) fun q hq => hk q (List.mem_cons_of_mem p hq)

/-! #### The footprints of this section's operations -/

/-- Time that passes. -/
def timing : Nat := foot [.tick, .net]

/-- A free value taken. -/
def drawing : Nat := foot [.free]

/-- Event sources. -/
def raising : Nat := foot [.rails]

/-- Gates that turn off, with their legs, carriers and delay lines. -/
def gating : Nat := foot [.gates, .legs, .carriers, .lines]

/-- Holds and trips of Guard, and the contactors. -/
def holding : Nat := gating ||| foot [.guard, .free, .area 3, .area 7]

/-- The sampling of the temperature sensors. -/
def scheduling : Nat := foot [.thermal]

/-- Loop engines and profiles. -/
def looping : Nat := foot [.engines, .free, .rails, .area 5, .area 6]

/-- What follows a change of a cell's state. -/
def settling : Nat := holding ||| looping ||| scheduling ||| foot [.charge]

/-- A change of a cell's state. -/
def celling : Nat := settling ||| foot [.cells]

/-- The device's state and the reports beside it. -/
def placing : Nat := foot [.area 1]

/-- MOLT. -/
def molting : Nat := foot [.string, .rails, .area 1, .area 8]

/-- The end of CHARGE and RUN. -/
def stopping : Nat := looping ||| molting ||| foot [.power]

/-- A change of the device's state. -/
def moving : Nat := celling ||| stopping

/-- Lanes. -/
def laning : Nat := foot [.lanes, .rails, .free, .area 0xB]

/-- Paths, and what a lane counts for them. -/
def pathing : Nat := foot [.paths, .area 0xB]

/-- The acquisition of a path's PLL. -/
def relocking : Nat := laning ||| foot [.clock, .area 2]

/-- Frames that wait. -/
def sending : Nat := foot [.lanes, .frames, .area 0xB]

/-- The leases. -/
def leasing : Nat := foot [.lease, .rails, .area 0xB]

/-- PSEL_N. -/
def pselling : Nat := leasing ||| sending

/-- The measurement front end. -/
def measuring : Nat := foot [.meas, .area 4]

/-- The streams, with the trips that hang on them. -/
def streaming : Nat := measuring ||| holding ||| raising

/-- Maintenance slots. -/
def slotting : Nat := gating ||| laning ||| sending ||| measuring ||| foot [.jobs, .area 0xE]

/-- The jobs and the NV store. -/
def installing : Nat := foot [.jobs, .nv, .area 0xE]

/-- The capture queue. -/
def recording : Nat := foot [.capture, .rails, .area 0xD]

/-- Answers on their way. -/
def answering : Nat := sending ||| foot [.can, .relay, .free, .wdp]

/-- Block transfers that end. -/
def ending : Nat := answering ||| installing

/-- The entry into HATCH. -/
def hatching : Nat := placing ||| relocking ||| pathing ||| pselling ||| scheduling ||| measuring ||| gating ||| foot [.hatch]

/-- The wake from COCOON. -/
def rousing : Nat := hatching ||| foot [.power]

/-- The entry into COCOON. -/
def cocooning : Nat :=
  placing ||| relocking ||| slotting ||| recording ||| streaming ||| looping ||| pselling ||| scheduling ||| foot [.power]

/-- A WAKE block. -/
def waking : Nat := pathing ||| laning ||| foot [.power]


/-! #### The operations -/

theorem Within.setPower {power : PowerSt} (h : Within F s a) (hF : foot [.power] ||| F = F := by decide) :
    Within F s { a with power } :=
  h.via hF fun h => h.set

theorem Within.setClock {clock : ClockSt} (h : Within F s a) (hF : foot [.clock] ||| F = F := by decide) :
    Within F s { a with clock } :=
  h.via hF fun h => h.set

theorem Within.setWdp {wdp : WdpSt} (h : Within F s a) (hF : foot [.wdp] ||| F = F := by decide) :
    Within F s { a with wdp } :=
  h.via hF fun h => h.set


theorem Within.advance {n} (h : Within F s a) (hF : timing ||| F = F := by decide) :
    Within F s (a.advance n) :=
  h.via hF fun h => h.set

theorem Within.freeVal (h : Within F s a) (hF : drawing ||| F = F := by decide) :
    Within F s a.freeVal.2 :=
  h.via hF fun h => h.set

theorem Within.freeIn {lo hi} (h : Within F s a) (hF : drawing ||| F = F := by decide) :
    Within F s (a.freeIn lo hi).2 :=
  h.via hF fun h => .iteSnd h h.freeVal

theorem Within.raise {n} (h : Within F s a) (hF : raising ||| F = F := by decide) :
    Within F s (a.raise n) :=
  h.via hF fun h => h.set

theorem Within.assertSrc {n} (h : Within F s a) (hF : raising ||| F = F := by decide) :
    Within F s (a.assertSrc n) :=
  h.via hF fun h => h.set

theorem Within.deassertSrc {n} (h : Within F s a) (hF : raising ||| F = F := by decide) :
    Within F s (a.deassertSrc n) :=
  h.via hF fun h => h.set

theorem Within.levelSrc {n b} (h : Within F s a) (hF : raising ||| F = F := by decide) :
    Within F s (a.levelSrc n b) :=
  h.via hF fun h => .ite h.assertSrc h.deassertSrc

theorem Within.modCarrier {k f} (h : Within F s a) (hF : gating ||| F = F := by decide) :
    Within F s (a.modCarrier k f) :=
  h.via hF fun h => h.set

theorem Within.modLeg {l f} (h : Within F s a) (hF : gating ||| F = F := by decide) :
    Within F s (a.modLeg l f) :=
  h.via hF fun h => h.set

theorem Within.modGuard {c f} (h : Within F s a) (hF : holding ||| F = F := by decide) :
    Within F s (a.modGuard c f) :=
  h.via hF fun h => h.set

theorem Within.modSensor {n f} (h : Within F s a) (hF : scheduling ||| F = F := by decide) :
    Within F s (a.modSensor n f) :=
  h.via hF fun h => h.set

theorem Within.reschedule (h : Within F s a) (hF : scheduling ||| F = F := by decide) :
    Within F s a.reschedule :=
  h.via hF fun h => .forFin h fun _ _ h => .ite (.ite h h.modSensor) h.modSensor

theorem Within.resetCarry {k} (h : Within F s a) (hF : holding ||| F = F := by decide) :
    Within F s (a.resetCarry k) :=
  h.via hF fun h => .forFin h fun _ _ h => (h.wrIn 3).modLeg

theorem Within.gateOff {l} (h : Within F s a) (hF : gating ||| F = F := by decide) :
    Within F s (a.gateOff l) :=
  h.via hF fun h => by
    unfold State.gateOff
    split
    · exact h.set (hgates := fun j hj => by
        show (a.gates.set l.val false)[j.val] = false
        grind)
    · exact h

theorem Within.legZero {l} (h : Within F s a) (hF : gating ||| F = F := by decide) :
    Within F s (a.legZero l) :=
  h.via hF fun h => h.gateOff.modLeg

theorem Within.legOff {l} (h : Within F s a) (hF : gating ||| F = F := by decide) :
    Within F s (a.legOff l) :=
  h.via hF fun h => h.gateOff.gateOff.modLeg

theorem Within.stopDriving {k} (h : Within F s a) (hF : gating ||| F = F := by decide) :
    Within F s (a.stopDriving k) :=
  h.via hF fun h => .ite (.forFin h.modCarrier fun _ _ h => h.modLeg) h

theorem Within.applyRow {c b} (h : Within F s a) (hF : gating ||| F = F := by decide) :
    Within F s (a.applyRow c b) :=
  h.via hF fun h => .ite h (.forFin h.stopDriving fun _ _ h => .ite h.legZero h.legOff)

theorem Within.applyCell {c} (h : Within F s a) (hF : gating ||| F = F := by decide) :
    Within F s (a.applyCell c) :=
  h.via hF fun h => .forFin h fun _ _ h => .applyRow (.ite h h.stopDriving)

theorem Within.applyAll (h : Within F s a) (hF : gating ||| F = F := by decide) :
    Within F s a.applyAll :=
  h.via hF fun h => .forFin h fun _ _ h => h.applyCell

theorem Within.hold {c b bits} (h : Within F s a) (hF : holding ||| F = F := by decide) :
    Within F s (a.hold c b bits) :=
  h.via hF fun h => .ite h (.applyRow (.modGuard (.ite ((h.wrIn 7).wrIn 7).resetCarry (h.wrIn 7))))

theorem Within.unhold {c b bits} (h : Within F s a) (hF : holding ||| F = F := by decide) :
    Within F s (a.unhold c b bits) :=
  h.via hF fun h => .applyRow (.ite (h.wrIn 7).modGuard (h.wrIn 7))

theorem Within.holdCell {c bits} (h : Within F s a) (hF : holding ||| F = F := by decide) :
    Within F s (a.holdCell c bits) :=
  h.via hF fun h => .forFin h fun _ _ h => h.hold

theorem Within.unholdCell {c bits} (h : Within F s a) (hF : holding ||| F = F := by decide) :
    Within F s (a.unholdCell c bits) :=
  h.via hF fun h => .forFin h fun _ _ h => h.unhold

theorem Within.registerTrip {old c b} (h : Within F s a) (hF : holding ||| F = F := by decide) :
    Within F s (a.registerTrip old c b) :=
  h.via hF fun h => .ite (.forFin (h.freeIn (lo := 1) (hi := 2)) fun _ _ h => .ite h.modLeg h) h

theorem Within.trip {c i} (h : Within F s a) (hF : holding ||| F = F := by decide) :
    Within F s (a.trip c i) :=
  h.via hF fun h => .forFin h fun _ _ h => .ite h.hold.registerTrip h

theorem Within.tripEnds {c i} (h : Within F s a) (hF : holding ||| F = F := by decide) :
    Within F s (a.tripEnds c i) :=
  h.via hF fun h => h.modGuard

theorem Within.evalTrip {c i} (h : Within F s a) (hF : holding ||| F = F := by decide) :
    Within F s (a.evalTrip c i) :=
  h.via hF fun h => .ite h (.ite h.trip h.tripEnds)

theorem Within.modEngine {e f} (h : Within F s a) (hF : looping ||| F = F := by decide) :
    Within F s (a.modEngine e f) :=
  h.via hF fun h => h.set

theorem Within.modTask {e t f} (h : Within F s a) (hF : looping ||| F = F := by decide) :
    Within F s (a.modTask e t f) :=
  h.via hF fun h => h.modEngine

theorem Within.recordNumeric {e n} (h : Within F s a) (hF : looping ||| F = F := by decide) :
    Within F s (a.recordNumeric e n) :=
  h.via hF fun h => (((h.wrIn 5).wrIn 5).wrIn 5).raise

theorem Within.putStep {e outs keep} (h : Within F s a) (hF : looping ||| F = F := by decide) :
    Within F s (a.putStep e outs keep) :=
  h.via hF fun h => .foldl h fun _ _ h => h.wrAll 6

theorem Within.settleStep {e} (h : Within F s a) (hF : looping ||| F = F := by decide) :
    Within F s (a.settleStep e) :=
  h.via hF fun h => by
  unfold State.settleStep
  split
  · exact h
  · exact .ite h h.putStep.modEngine

theorem Within.reached {r} (h : Within F s a) (hF : drawing ||| F = F := by decide) :
    Within F s (a.reached r).2 :=
  h.via hF fun h => h.freeIn

theorem Within.noteRun {e t} (h : Within F s a) (hF : looping ||| F = F := by decide) :
    Within F s (a.noteRun e t) :=
  h.via hF fun h => by
  unfold State.noteRun
  split
  · exact h
  · exact .ite h (.modTask (.foldl (.iteSnd h h.reached) fun _ _ h => h.recordNumeric))

theorem Within.abandon {e t} (h : Within F s a) (hF : looping ||| F = F := by decide) :
    Within F s (a.abandon e t) :=
  h.via hF fun h => by
  unfold State.abandon
  split
  · exact h
  · exact h.noteRun.modTask

theorem Within.updMode {c} (h : Within F s a) (hF : looping ||| F = F := by decide) :
    Within F s (a.updMode c) :=
  h.via hF fun h => .ite h ((h.wrIn 6).wrIn 6)

theorem Within.discardRuns {e} (h : Within F s a) (hF : looping ||| F = F := by decide) :
    Within F s (a.discardRuns e) :=
  h.via hF fun h => .forFin h fun _ _ h => h.abandon

theorem Within.stopGroup {e} (h : Within F s a) (hF : looping ||| F = F := by decide) :
    Within F s (a.stopGroup e) :=
  h.via hF fun h => .ite (.forFin h.settleStep.modEngine fun _ _ h => .ite (h.wrIn 6) h) h.settleStep.modEngine

theorem Within.engineStops {e} (h : Within F s a) (hF : looping ||| F = F := by decide) :
    Within F s (a.engineStops e) :=
  h.via hF fun h => h.discardRuns.stopGroup

theorem Within.clearEngine {e} (h : Within F s a) (hF : looping ||| F = F := by decide) :
    Within F s (a.clearEngine e) :=
  h.via hF fun h => .modEngine (.discardRuns (.forFin (.forFin h fun _ _ h => h.wrAll 5) fun _ _ h => h.wrIn 5))

theorem kCellState_area (c : Cell) : kCellState c / 2 ^ 20 = 7 := by
  unfold kCellState unitKey
  omega

theorem kCellState_inj {c d : Cell} (h : kCellState c = kCellState d) : c = d := by
  unfold kCellState unitKey at h
  exact Fin.ext (by omega)

/-- What `setCell` writes first: the cell's old state beside its new one, and the count of its changes. -/
def State.moveCell (s : State) (c : Cell) (new : Nat) : State :=
  ((s.wrAll [(kCellState c + 1, s.cellSt c), (kCellState c, new)]).count (kCellState c + 2)).raise (71 + c.val)

/-- A cell as the moves of the cells see it. -/
def cellView (c : Cell) (s : State) : Bool × Nat := (s.fitted c, s.cellSt c)

theorem SameCells.view {s t : State} (h : SameCells s t) (c : Cell) : cellView c t = cellView c s :=
  Prod.ext (h.fitted c) (h.2 c)

theorem kCellState_ne_fitted (c : Cell) : kCellState c ≠ kFitted := by
  unfold kCellState unitKey kFitted
  omega

theorem kCellState_ne_report (c d : Cell) (i : Nat) (hi : i = 1 ∨ i = 2) : kCellState d ≠ kCellState c + i := by
  unfold kCellState unitKey
  omega

theorem State.moveCell_rd (s : State) (c : Cell) (new k : Nat) (hold : k ≠ kCellState c + 1)
    (hcount : k ≠ kCellState c + 2) : (s.moveCell c new).rd k = if k = kCellState c then new else s.rd k := by
  simp [State.moveCell, State.wrAll, hold, hcount]

theorem State.moveCell_fitted (s : State) (c : Cell) (new d : Nat) : (s.moveCell c new).fitted d = s.fitted d := by
  unfold State.fitted State.bitAt
  rw [State.moveCell_rd, if_neg (kCellState_ne_fitted c).symm] <;> (unfold kCellState unitKey kFitted; omega)

theorem State.moveCell_view_self (s : State) (c : Cell) (new : Nat) :
    cellView c (s.moveCell c new) = (s.fitted c, new) :=
  Prod.ext (s.moveCell_fitted c new c) <|
    (s.moveCell_rd c new _ (kCellState_ne_report c c 1 (.inl rfl)) (kCellState_ne_report c c 2 (.inr rfl))).trans (if_pos rfl)

theorem State.moveCell_view_other (s : State) {c d : Cell} (new : Nat) (hd : d ≠ c) :
    cellView d (s.moveCell c new) = cellView d s :=
  Prod.ext (s.moveCell_fitted c new d) <|
    (s.moveCell_rd c new _ (kCellState_ne_report c d 1 (.inl rfl)) (kCellState_ne_report c d 2 (.inr rfl))).trans
      (if_neg fun e => hd (kCellState_inj e))

theorem Within.moveCell {c : Cell} {new : Nat} (h : Within F s a)
    (hF : foot [.cells, .rails, .area 7] ||| F = F := by decide) : Within F s (a.moveCell c new) :=
  h.via hF fun h =>
    have hold : Within _ _ (a.wr (kCellState c + 1) (a.cellSt c)) := h.wrIn 7
    have hnew : Within _ _ ((a.wr (kCellState c + 1) (a.cellSt c)).wr (kCellState c) new) := hold.trans
      { frame := State.wr_frame ..
        objs := fun k hk => State.rd_wr_ne _ _ fun e => by
          rw [e, kCellState_area] at hk
          exact absurd hk (by decide)
        gates := fun _ _ => id
        cells := fun hF => absurd hF (by decide) }
    .raise (.wrIn 7 hnew)

/-- The rest of a cell's change, after `moveCell`. -/
theorem State.setCell_cases (s : State) (c : Cell) (new : Nat) :
    (s.fitted c = false ∨ s.cellSt c = new) ∧ s.setCell c new = s ∨
      s.fitted c = true ∧ Within settling (s.moveCell c new) (s.setCell c new) := by
  unfold State.setCell
  extract_lets old e s0 s1 s2 s3 s4 s5 s6 s7
  split
  next hc => exact .inl ⟨by simpa using hc, rfl⟩
  next hc =>
    refine .inr ⟨by simp_all, ?_⟩
    have h1 : Within settling (s.moveCell c new) s1 := (Within.refl _ (s.moveCell c new)).set
    have h2 : Within _ _ s2 := .ite h1.clearEngine.unholdCell (.ite h1.unholdCell h1)
    have h3 : Within _ _ s3 := .ite (h2.wrIn 7) (.ite h2.modGuard h2)
    have h4 : Within _ _ s4 := .ite (h3.wrIn 7) h3
    have h5 : Within _ _ s5 := .ite h4.engineStops h4
    have h6 : Within _ _ s6 := h5.applyCell
    have h7 : Within _ _ s7 := .ite (h6.wrIn 7).modGuard (.ite (h6.wrIn 7).modGuard h6)
    exact h7.updMode.reschedule

/-- A fitted cell is in its new state. -/
theorem State.setCell_view_self (s : State) (c : Cell) (new : Nat) :
    cellView c (s.setCell c new) = if s.fitted c then (true, new) else cellView c s := by
  obtain ⟨hidle, heq⟩ | ⟨hfitted, hrest⟩ := s.setCell_cases c new
  · rw [heq]
    cases hc : s.fitted c
    · rfl
    · exact Prod.ext hc (hidle.resolve_left (by simp [hc]))
  · rw [(hrest.cells (by decide)).view, s.moveCell_view_self, hfitted, if_pos rfl]

theorem State.setCell_view_other (s : State) {c d : Cell} (new : Nat) (hd : d ≠ c) :
    cellView d (s.setCell c new) = cellView d s := by
  obtain ⟨-, heq⟩ | ⟨-, hrest⟩ := s.setCell_cases c new
  · rw [heq]
  · rw [(hrest.cells (by decide)).view, s.moveCell_view_other new hd]

theorem Within.setCell {c new} (h : Within F s a) (hF : celling ||| F = F := by decide) :
    Within F s (a.setCell c new) :=
  h.via hF fun h => by
    obtain ⟨-, hidle⟩ | ⟨hfitted, hrest⟩ := a.setCell_cases c new
    · rw [hidle]
      exact h
    · exact h.moveCell.trans (hrest.mono (by decide))

theorem Within.setByp {c level} (h : Within F s a) (hF : holding ||| F = F := by decide) :
    Within F s (a.setByp c level) :=
  h.via hF fun h => .ite h (h.wrIn 7).modGuard.applyCell

theorem Within.endInsert {c} (h : Within F s a) (hF : celling ||| F = F := by decide) :
    Within F s (a.endInsert c) :=
  h.via hF fun h => h.modGuard.setByp.setCell

theorem Within.enterDev {d} (h : Within F s a) (hF : placing ||| F = F := by decide) :
    Within F s (a.enterDev d) :=
  h.via hF fun h => h.wrAll 1

theorem Within.abortIdle (h : Within F s a) (hF : molting ||| F = F := by decide) :
    Within F s a.abortIdle :=
  h.via hF fun h => .ite ((h.wrIn 1).wrIn 1) h

theorem Within.endMolt {g result} (h : Within F s a) (hF : molting ||| F = F := by decide) :
    Within F s (a.endMolt g result) :=
  h.via hF fun h => by
  unfold State.endMolt
  split
  · exact h
  · exact 
    have h2 := (Within.set (h.wrAll 8)).abortIdle
    .ite h2.raise h2

theorem Within.leaveRunning (h : Within F s a) (hF : stopping ||| F = F := by decide) :
    Within F s a.leaveRunning :=
  h.via hF fun h => .ite (.setPower (.wrIn 8 (.forFin h.engineStops fun _ _ h => h.endMolt))) h

theorem Within.cellsSafe (h : Within F s a) (hF : celling ||| F = F := by decide) :
    Within F s a.cellsSafe :=
  h.via hF fun h => .forFin h fun _ _ h => .ite h.holdCell.setCell (.ite h.endInsert h)

theorem Within.falls (h : Within F s a) (hF : stopping ||| F = F := by decide) :
    Within F s a.falls :=
  h.via hF fun h => h.set

theorem Within.toSafe {cause} (h : Within F s a) (hF : moving ||| F = F := by decide) :
    Within F s (a.toSafe cause) :=
  h.via hF fun h => .cellsSafe (.wrIn 1 (.enterDev (.leaveRunning (.ite h h.falls))))

theorem Within.safeCause {cause} (h : Within F s a) (hF : moving ||| F = F := by decide) :
    Within F s (a.safeCause cause) :=
  h.via hF fun h => by
  unfold State.safeCause
  split
  · exact h.toSafe
  · exact h.toSafe
  · exact h.toSafe
  · exact .ite h (h.wrIn 1).setPower
  · exact .ite h (h.wrIn 1).setPower
  · exact .ite h (h.wrIn 1).setPower
  · exact h

theorem Within.modLane {i f} (h : Within F s a) (hF : laning ||| F = F := by decide) :
    Within F s (a.modLane i f) :=
  h.via hF fun h => h.set

theorem Within.modPath {q f} (h : Within F s a) (hF : pathing ||| F = F := by decide) :
    Within F s (a.modPath q f) :=
  h.via hF fun h => h.set

theorem Within.laneSources {i} (h : Within F s a) (hF : raising ||| F = F := by decide) :
    Within F s (a.laneSources i) :=
  h.via hF fun h => h.levelSrc.levelSrc

theorem Within.setLane {i st} (h : Within F s a) (hF : laning ||| F = F := by decide) :
    Within F s (a.setLane i st) :=
  h.via hF fun h => (((h.wrIn 0xB).wrIn 0xB).wrIn 0xB).modLane.laneSources

/-- A path's PLL does not wait for the reference. -/
theorem Within.acquire {p : Fin 3} (h : Within F s a) (hp : p.val ≠ 0) (hF : relocking ||| F = F := by decide) :
    Within F s (a.acquire p) :=
  h.via hF fun h => by
    unfold State.acquire
    extract_lets s0 st st' s1 pll q drop
    have h0 : Within relocking a s0 := (if_neg (by simp [hp]) : s0 = a) ▸ h
    have h1 : Within _ _ s1 := h0.wrIn 2 (by
      unfold InArea Ordinary kPllStatus kPll
      split <;> omega)
    have hdrop {b i} (h : Within relocking a b) : Within relocking a (drop b i) := .ite h h.setLane
    split
    next n d _ =>
      rw [if_neg hp]
      exact hdrop (hdrop h1.set)

theorem Within.restartPath {q : Path} {rate} (h : Within F s a) (hF : relocking ||| F = F := by decide) :
    Within F s (a.restartPath q rate) :=
  h.via hF fun h => by
    unfold State.restartPath
    extract_lets p s1
    have h1 : Within _ _ s1 := .wrIn 0xB (.wrIn 0xB (.wrIn 2 h))
    exact h1.acquire (by simp [p])

theorem Within.putLine {i bs} (h : Within F s a) (hF : laning ||| F = F := by decide) :
    Within F s (a.putLine i bs) :=
  h.via hF fun h => h.freeVal.modLane

theorem Within.slotEnds {n outcome v1 v2 v3} (h : Within F s a) (hF : slotting ||| F = F := by decide) :
    Within F s (a.slotEnds n outcome v1 v2 v3) :=
  h.via hF fun h => by
    unfold State.slotEnds
    split
    · exact h
    · extract_lets k res jobs s1 train q
      have h1 : Within slotting a s1 := h.set.wrAll 0xE
      have htrain {b i} (h : Within slotting a b) : Within slotting a (train b i) := .ite h.setLane h
      exact .ite (htrain (htrain h1)) (.ite (.foldl h1 fun _ _ h => h.applyCell) h1)

theorem Within.slotAborted {n} (h : Within F s a) (hF : slotting ||| F = F := by decide) :
    Within F s (a.slotAborted n) :=
  h.via hF fun h => h.freeVal.freeVal.freeVal.slotEnds

theorem Within.pathSources (h : Within F s a) (hF : raising ||| F = F := by decide) :
    Within F s a.pathSources :=
  h.via hF fun h => h.levelSrc.levelSrc

theorem Within.updRevert (h : Within F s a) (hF : leasing ||| F = F := by decide) :
    Within F s a.updRevert :=
  h.via hF fun h => (h.set.wrIn 0xB).wrIn 0xB

theorem Within.noteErrors {q n} (h : Within F s a) (hF : pathing ||| F = F := by decide) :
    Within F s (a.noteErrors q n) :=
  h.via hF fun h => .ite h h.modPath

theorem Within.codeErrorsOn {i n} (h : Within F s a) (hF : pathing ||| F = F := by decide) :
    Within F s (a.codeErrorsOn i n) :=
  h.via hF fun h => .ite (h.wrIn 0xB).noteErrors (h.wrIn 0xB)

theorem Within.enqueue {i f fwd rx cut} (h : Within F s a) (hF : sending ||| F = F := by decide) :
    Within F s (a.enqueue i f fwd rx cut) :=
  h.via hF fun h => .ite h (h.set.wrIn 0xB)

theorem Within.takeSeq {typ src dst} (h : Within F s a) (hF : sending ||| F = F := by decide) :
    Within F s (a.takeSeq typ src dst).2 :=
  h.via hF fun h => h.set

theorem Within.sendOn {typ q up dst payload} (h : Within F s a) (hF : sending ||| F = F := by decide) :
    Within F s (a.sendOn typ q up dst payload) :=
  h.via hF fun h => .ite h h.takeSeq.enqueue

theorem Within.sendReliable {typ dst payload} (h : Within F s a) (hF : sending ||| F = F := by decide) :
    Within F s (a.sendReliable typ dst payload) :=
  h.via hF fun h => by
  unfold State.sendReliable
  split
  · exact h
  · exact .ite h.takeSeq.set h.takeSeq.set.enqueue

theorem Within.acqSource (h : Within F s a) (hF : raising ||| F = F := by decide) :
    Within F s a.acqSource :=
  h.via hF fun h => h.levelSrc

theorem Within.modAdc {a' f} (h : Within F s a) (hF : measuring ||| F = F := by decide) :
    Within F s (a.modAdc a' f) :=
  h.via hF fun h => h.set

theorem Within.modStream {n f} (h : Within F s a) (hF : measuring ||| F = F := by decide) :
    Within F s (a.modStream n f) :=
  h.via hF fun h => h.set

theorem Within.wireAbort (h : Within F s a) (hF : measuring ||| F = F := by decide) :
    Within F s a.wireAbort :=
  h.via hF fun h => .wrIn 4 (.forFin h fun _ _ h => h.modAdc)

theorem Within.restartStream {n} (h : Within F s a) (hF : measuring ||| F = F := by decide) :
    Within F s (a.restartStream n) :=
  h.via hF fun h => (h.wrIn 4).modStream

theorem Within.restartDsck {c} (h : Within F s a) (hF : measuring ||| F = F := by decide) :
    Within F s (a.restartDsck c) :=
  h.via hF fun h => .forFin h.set fun _ _ h => h.restartStream

theorem Within.streamSource {n} (h : Within F s a) (hF : raising ||| F = F := by decide) :
    Within F s (a.streamSource n) :=
  h.via hF fun h => h.levelSrc

theorem Within.setFast {n hi lo} (h : Within F s a) (hF : streaming ||| F = F := by decide) :
    Within F s (a.setFast n hi lo) :=
  h.via hF fun h => 
    have h1 := ((h.wrIn 4).wrIn 4).streamSource
    .ite h1.evalTrip (.ite h1.tripEnds h1)

theorem Within.stopStreams (h : Within F s a) (hF : streaming ||| F = F := by decide) :
    Within F s a.stopStreams :=
  h.via hF fun h => .forFin h.set fun _ _ h => (h.setFast.wrIn 4).streamSource.restartStream

theorem Within.stopTables (h : Within F s a) (hF : measuring ||| F = F := by decide) :
    Within F s a.stopTables :=
  h.via hF fun h => .wireAbort (.forFin h fun _ _ h => h.modAdc.wrIn 4)

theorem Within.restartClocks (h : Within F s a) (hF : measuring ||| F = F := by decide) :
    Within F s a.restartClocks :=
  h.via hF fun h => .forFin h fun _ _ h => h.restartDsck

theorem Within.modJobs {f} (h : Within F s a) (hF : installing ||| F = F := by decide) :
    Within F s (a.modJobs f) :=
  h.via hF fun h => h.set

theorem Within.modNv {f} (h : Within F s a) (hF : installing ||| F = F := by decide) :
    Within F s (a.modNv f) :=
  h.via hF fun h => h.set

theorem Within.storeEnds {result} (h : Within F s a) (hF : installing ||| F = F := by decide) :
    Within F s (a.storeEnds result) :=
  h.via hF fun h => (h.modJobs.wrIn 0xE).wrIn 0xE

theorem Within.modIdle {f} (h : Within F s a) (hF : installing ||| F = F := by decide) :
    Within F s (a.modIdle f) :=
  h.via hF fun h => h.modNv

theorem Within.fwState {phase result} (h : Within F s a) (hF : installing ||| F = F := by decide) :
    Within F s (a.fwState phase result) :=
  h.via hF fun h => h.wrAll 0xE

theorem Within.modInstall {f} (h : Within F s a) (hF : installing ||| F = F := by decide) :
    Within F s (a.modInstall f) :=
  h.via hF fun h => h.set

theorem Within.fwDrop (h : Within F s a) (hF : installing ||| F = F := by decide) :
    Within F s a.fwDrop :=
  h.via hF fun h => h.modJobs.modInstall

theorem Within.fwFail {result} (h : Within F s a) (hF : installing ||| F = F := by decide) :
    Within F s (a.fwFail result) :=
  h.via hF fun h => h.fwDrop.modIdle.fwState.modInstall

theorem Within.modCan {u f} (h : Within F s a) (hF : answering ||| F = F := by decide) :
    Within F s (a.modCan u f) :=
  h.via hF fun h => h.set

theorem Within.modMsg {u n f} (h : Within F s a) (hF : answering ||| F = F := by decide) :
    Within F s (a.modMsg u n f) :=
  h.via hF fun h => h.modCan

theorem Within.offerLease (h : Within F s a) (hF : pselling ||| F = F := by decide) :
    Within F s a.offerLease :=
  h.via hF fun h => .forFin h fun _ _ h => .ite h.sendOn h

theorem Within.updPsel (h : Within F s a) (hF : pselling ||| F = F := by decide) :
    Within F s a.updPsel :=
  h.via hF fun h => .ite (Within.set (h.wrIn 0xB)).offerLease (h.wrIn 0xB)

theorem Within.startLane {i} (h : Within F s a) (hF : laning ||| F = F := by decide) :
    Within F s (a.startLane i) :=
  h.via hF fun h => .ite (h.setLane.wrIn 0xB) (.ite h (.ite (h.wrIn 0xB).setLane (h.wrIn 0xB).setLane))

theorem Within.wakeRun (h : Within F s a) (hF : laning ||| F = F := by decide) :
    Within F s a.wakeRun :=
  h.via hF fun h => .ite h.putLine h

theorem Within.enterHatch {fromCocoon} (h : Within F s a) (hF : hatching ||| F = F := by decide) :
    Within F s (a.enterHatch fromCocoon) :=
  h.via hF fun h => by
  unfold State.enterHatch
  extract_lets cfg t wasG0 s1 hatch s2 s3 s4 s5
  have h4 : Within _ _ s4 := .forFin ((h.enterDev.set.wrIn 0xB).wrIn 0xB) fun _ _ h =>
    .startLane (.startLane (.modPath (.ite h.modPath h.modPath.restartPath)))
  have h5 : Within _ _ s5 := .ite h4.wakeRun h4
  exact .updPsel (.reschedule (.forFin h5 fun _ _ h => h.modSensor))

theorem Within.blockIn {i x} (h : Within F s a) (hF : pathing ||| F = F := by decide) :
    Within F s (a.blockIn i x).2 :=
  h.via hF fun h => h.codeErrorsOn

theorem Within.modCapture {f} (h : Within F s a) (hF : recording ||| F = F := by decide) :
    Within F s (a.modCapture f) :=
  h.via hF fun h => h.set

theorem Within.closeRecord {aborted} (h : Within F s a) (hF : recording ||| F = F := by decide) :
    Within F s (a.closeRecord aborted) :=
  h.via hF fun h => by
  unfold State.closeRecord
  split
  · exact h
  · exact .wrAll 0xD (.raise (.wrIn 0xD (.wrIn 0xD h.modCapture)))

theorem Within.captureStop (h : Within F s a) (hF : recording ||| F = F := by decide) :
    Within F s a.captureStop :=
  h.via hF fun h => h.closeRecord.modCapture

theorem Within.setCanHolder {u} (h : Within F s a) (hF : leasing ||| F = F := by decide) :
    Within F s (a.setCanHolder u) :=
  h.via hF fun h => (Within.set ((h.wrIn 0xB).wrIn 0xB)).pathSources.updRevert

theorem Within.canRelease (h : Within F s a) (hF : leasing ||| F = F := by decide) :
    Within F s a.canRelease :=
  h.via hF fun h => .ite h (.ite (h.setCanHolder.wrIn 0xB).raise (Within.set (h.wrIn 0xB)).pathSources)

theorem Within.canHealth {u} (h : Within F s a) (hF : leasing ||| F = F := by decide) :
    Within F s (a.canHealth u) :=
  h.via hF fun h => .updRevert (.ite (h.wrIn 0xB).canRelease (h.wrIn 0xB))

theorem Within.requestTx {u n} (h : Within F s a) (hF : answering ||| F = F := by decide) :
    Within F s (a.requestTx u n) :=
  h.via hF fun h => by
  unfold State.requestTx
  have hf := h.freeIn (lo := 60) (hi := 120)
  generalize a.freeIn 60 120 = p at hf ⊢
  exact .ite h (.ite h.modMsg hf.modMsg.modCan)

theorem Within.loadSystem {u n ident d} (h : Within F s a) (hF : answering ||| F = F := by decide) :
    Within F s (a.loadSystem u n ident d) :=
  h.via hF fun h => h.modMsg.requestTx

theorem Within.loadNext_answering {u n} (h : Within answering s a) : Within answering s (State.loadNext u n a) := by
  induction n generalizing a with
  | zero => exact h
  | succ n ih =>
    unfold State.loadNext
    split
    · exact h
    · exact .ite h (ih h.loadSystem.setWdp)

theorem Within.loadNext {u n} (h : Within F s a) (hF : answering ||| F = F := by decide) :
    Within F s (a.loadNext u n) :=
  h.via hF Within.loadNext_answering

theorem Within.loadEvent {u} (h : Within F s a) (hF : answering ||| F = F := by decide) :
    Within F s (a.loadEvent u) :=
  h.via hF fun h => by
  refine .ite h ?_
  dsimp only
  split
  · exact h.loadSystem.setWdp
  · exact h.loadSystem.setWdp
  · exact h.set.loadSystem.setWdp
  · exact h

theorem Within.loadOut {u} (h : Within F s a) (hF : answering ||| F = F := by decide) :
    Within F s (a.loadOut u) :=
  h.via hF fun h => h.loadNext.loadEvent

theorem Within.modWdp {f} (h : Within F s a) (hF : answering ||| F = F := by decide) :
    Within F s (a.modWdp f) :=
  h.via hF fun h => h.set

theorem Within.queueOut {u node tagGen data} (h : Within F s a) (hF : answering ||| F = F := by decide) :
    Within F s (a.queueOut u node tagGen data) :=
  h.via hF fun h => h.modWdp.loadOut

theorem Within.reply {o tagGen data} (h : Within F s a) (hF : answering ||| F = F := by decide) :
    Within F s (a.reply o tagGen data) :=
  h.via hF fun h => by
  unfold State.reply
  split
  · exact h.queueOut
  · exact h.sendReliable

theorem Within.setTag {tg state resp o} (h : Within F s a) (hF : answering ||| F = F := by decide) :
    Within F s (a.setTag tg state resp o) :=
  h.via hF fun h => h.modWdp

theorem Within.tagDone {tg resp} (h : Within F s a) (hF : answering ||| F = F := by decide) :
    Within F s (a.tagDone tg resp) :=
  h.via hF fun h => h.setTag.reply

theorem Within.dropBlock {b} (h : Within F s a) (hF : ending ||| F = F := by decide) :
    Within F s (a.dropBlock b) :=
  h.via hF fun h => .ite h.modWdp.fwFail h.modWdp

theorem Within.endBlock {b status} (h : Within F s a) (hF : ending ||| F = F := by decide) :
    Within F s (a.endBlock b status) :=
  h.via hF fun h => h.dropBlock.tagDone

theorem Within.abortBlocks (h : Within F s a) (hF : ending ||| F = F := by decide) :
    Within F s a.abortBlocks :=
  h.via hF fun h => .foldl h fun _ _ h => h.endBlock

theorem Within.abortForwards (h : Within F s a) (hF : sending ||| F = F := by decide) :
    Within F s a.abortForwards :=
  h.via hF fun h => h.set

theorem Within.modString {f} (h : Within F s a) (hF : molting ||| F = F := by decide) :
    Within F s (a.modString f) :=
  h.via hF fun h => h.set

theorem Within.mapCells {f} (h : Within F s a) (hF : molting ||| F = F := by decide) :
    Within F s (a.mapCells f) :=
  h.via hF fun h => h.modString

theorem Within.modMolt {g f} (h : Within F s a) (hF : molting ||| F = F := by decide) :
    Within F s (a.modMolt g f) :=
  h.via hF fun h => h.modString

theorem Within.abortMolt (h : Within F s a) (hF : molting ||| F = F := by decide) :
    Within F s a.abortMolt :=
  h.via hF fun h => by
  refine .forFin h fun _ _ h => ?_
  split
  · exact h
  · exact .ite h.modMolt.mapCells (.ite h.endMolt h)

theorem Within.drillFrame {action path} (h : Within F s a) (hF : sending ||| F = F := by decide) :
    Within F s (a.drillFrame action path) :=
  h.via hF fun h => .forFin h fun _ _ h => h.sendOn

theorem Within.maintAbort {n} (h : Within F s a) (hF : slotting ||| F = F := by decide) :
    Within F s (a.maintAbort n) :=
  h.via hF fun h => by
  unfold State.maintAbort
  split
  · exact h
  · exact .ite h.wireAbort.slotEnds (.ite h.drillFrame.slotAborted h.slotAborted)

theorem Within.maintStop {mask} (h : Within F s a) (hF : slotting ||| F = F := by decide) :
    Within F s (a.maintStop mask) :=
  h.via hF fun h => .forFin h fun _ _ h => .ite h.maintAbort h

theorem Within.enterCocoon (h : Within F s a) (hF : cocooning ||| F = F := by decide) :
    Within F s a.enterCocoon :=
  h.via hF fun h => by
    unfold State.enterCocoon
    extract_lets s1 s2 s3 s4 src clk s5 s6 s7
    have h2 : Within _ _ s2 := (h.wrIn 1).maintStop.captureStop.enterDev.setPower.stopStreams.stopTables
    have h3 : Within _ _ s3 := .forFin h2 fun _ _ h => h.clearEngine
    have h4 : Within _ _ s4 := .wrIn 0xB (.wrIn 0xB (.wrIn 2 h3.setLane.setLane))
    have h6 : Within _ _ s6 := h4.deassertSrc.acqSource.setClock.restartPath
    have h7 : Within _ _ s7 := .forFin h6 fun _ _ h => .ite h h.modGuard
    exact .updPsel (.reschedule (.forFin h7.applyAll fun _ _ h => h.canHealth))

theorem Within.wakeSeen {source} (h : Within F s a) (hF : waking ||| F = F := by decide) :
    Within F s (a.wakeSeen source) :=
  h.via hF fun h => .ite h.set h

theorem Within.wakeBlock {x} (h : Within F s a) (hF : waking ||| F = F := by decide) :
    Within F s (a.wakeBlock x) :=
  h.via hF fun h => by
  refine .ite h ?_
  have hb := h.blockIn (i := 0) (x := x)
  generalize a.blockIn 0 x = p at hb ⊢
  split
  · exact hb
  · exact .ite hb.modLane.wakeSeen hb.modLane
  · exact hb.modLane

theorem Within.cocoonExit (h : Within F s a) (hF : rousing ||| F = F := by decide) :
    Within F s a.cocoonExit :=
  h.via hF fun h => .ite (Within.set h).enterHatch.applyAll.restartClocks h

end Sys2Proof.Machine
end

section
/-! The entry into SAFE. -/

namespace Sys2Proof.Machine
set_option Elab.async false
/-! ### SAFE entered (spec/04 R106, R111) -/

/-- What the entry into SAFE makes of one cell: CHARGE and RUN end in OFF, a re-insertion in BYPASSED. -/
def safeView (v : Bool × Nat) : Bool × Nat :=
  if v.2 == 1 || v.2 == 2 then (if v.1 then (true, 0) else v) else if v.2 == 5 then (if v.1 then (true, 4) else v) else v

theorem State.cellsSafe_view (s : State) (c : Cell) : cellView c s.cellsSafe = safeView (cellView c s) := by
  have hhold (i : Cell) (a : State) (j : Cell) : cellView j (a.holdCell i 0x400) = cellView j a :=
    ((Within.holdCell (.refl holding a)).cells (by decide)).view j
  have hbyp (i : Cell) (a : State) (j : Cell) :
      cellView j ((a.modGuard i fun g => { g with opening := .no, openLimit := none }).setByp i true) = cellView j a :=
    ((Within.setByp (.modGuard (.refl holding a))).cells (by decide)).view j
  refine forFin_each cellView (fun _ => True) (fun _ v w => w = safeView v) (fun _ _ _ => trivial) ?_ ?_ trivial c
  · intro i j a hj
    split
    · rw [State.setCell_view_other _ _ hj, hhold]
    · split
      · rw [State.endInsert, State.setCell_view_other _ _ hj, hbyp]
      · rfl
  · intro i a _
    have hfitted (b : State) (h : cellView i b = cellView i a) : b.fitted i = a.fitted i := congrArg Prod.fst h
    split
    next hrun =>
      rw [State.setCell_view_self, hhold, hfitted _ (hhold i a i)]
      exact (if_pos hrun).symm
    next hrun =>
      refine Eq.trans ?_ (if_neg hrun).symm
      split
      next hin =>
        rw [State.endInsert, State.setCell_view_self, hbyp, hfitted _ (hbyp i a i)]
        exact (if_pos hin).symm
      next hin => exact (if_neg hin).symm

theorem State.cellsSafe_off (s : State) {c : Cell} (hfitted : s.fitted c = true) (hrun : s.cellSt c = 1 ∨ s.cellSt c = 2) :
    s.cellsSafe.cellSt c = 0 := by
  have h := congrArg Prod.snd (s.cellsSafe_view c)
  simp only [cellView, safeView, hfitted, if_true] at h
  rw [h]
  rcases hrun with h | h <;> simp [h]

theorem State.enterDev_rd (s : State) (d : Nat) : (s.enterDev d).rd kDevState = d ∧
    (s.enterDev d).rd kEntryS = s.net.sec ∧ (s.enterDev d).rd kEntryNs = s.ns := by
  simp [State.enterDev, State.wrAll, kDevState, kEntryS, kEntryNs]

/-- What the entry into SAFE from READY, CHARGE or RUN makes of a state. -/
structure EntersSafe (cause : Nat) (s t : State) : Prop where
  within : Within moving s t
  dev : t.dev = 6
  cause : t.rd kSafeCause = cause
  entryS : t.rd kEntryS = s.net.sec
  entryNs : t.rd kEntryNs = s.ns
  cells : ∀ c : Cell, s.fitted c = true → s.cellSt c = 1 ∨ s.cellSt c = 2 → t.cellSt c = 0

theorem State.toSafe_entersSafe (s : State) (cause : Nat) : EntersSafe cause s (s.toSafe cause) := by
  have hall : Within moving s (s.toSafe cause) := (Within.refl moving s).toSafe
  unfold State.toSafe at hall ⊢
  have hleft : Within stopping s (if cause = 4 then s else s.falls).leaveRunning :=
    .leaveRunning (.ite (.refl _ s) (.falls (.refl _ s)))
  generalize (if cause = 4 then s else s.falls).leaveRunning = a at *
  have hcells : Within celling ((a.enterDev 6).wr kSafeCause cause) ((a.enterDev 6).wr kSafeCause cause).cellsSafe :=
    (Within.refl _ _).cellsSafe
  have hplace : Within placing a ((a.enterDev 6).wr kSafeCause cause) := (Within.refl _ a).enterDev.wrIn 1
  have hnet : a.net = s.net := (congrArg State.net hleft.frame :)
  obtain ⟨hdev, hsec, hns⟩ := a.enterDev_rd 6
  have hsame := (hleft.cells (by decide)).trans (hplace.cells (by decide))
  have hrd (k : Nat) (hk : k / 2 ^ 20 = 1) (hne : k ≠ kSafeCause) :
      ((a.enterDev 6).wr kSafeCause cause).cellsSafe.rd k = (a.enterDev 6).rd k :=
    (hcells.objs k (by rw [hk]; decide)).trans (State.rd_wr_ne _ _ hne)
  exact
    { within := hall
      dev := (hrd kDevState (by decide) (by decide)).trans hdev
      cause := (hcells.objs _ (by decide)).trans ((State.rd_wr ..).trans (if_pos rfl))
      entryS := (hrd kEntryS (by decide) (by decide)).trans (by rw [hsec, hnet])
      entryNs := (hrd kEntryNs (by decide) (by decide)).trans (by rw [hns, State.ns, State.ns, hnet])
      cells := fun c hfitted hrun =>
        State.cellsSafe_off _ ((hsame.fitted c).trans hfitted) (by rwa [hsame.2 c]) }

theorem State.safeCause_entersSafe (s : State) (cause : Nat) (hdev : s.dev = 2 ∨ s.dev = 3 ∨ s.dev = 4) :
    EntersSafe cause s (s.safeCause cause) := by
  unfold State.safeCause
  rcases hdev with h | h | h <;> (rw [h]; exact s.toSafe_entersSafe cause)

end Sys2Proof.Machine
end

section
/-! SAFE and LEASE telegrams. -/

namespace Sys2Proof.Machine
set_option Elab.async false

variable {F : Nat} {s a t : State}

/-! ### What a footprint leaves of the dictionary -/

/-- A footprint without areas leaves every object. -/
theorem Within.rd (h : Within F s t) (k : Nat) (hF : F < 2 ^ 64 := by decide) : t.rd k = s.rd k :=
  h.objs k (Nat.testBit_lt_two_pow (hF.trans_le (Nat.pow_le_pow_right (by decide) (Nat.le_add_right 64 _))))

/-- A footprint leaves the areas that it does not have. -/
theorem Within.keepsOtherAreas (h : Within F s t) {areas : List Nat} (hlt : F < 2 ^ 80 := by decide)
    (hF : ∀ n < 16, F.testBit (64 + n) = true → n ∈ areas := by decide) : KeepsOtherAreas areas s t := by
  intro k hk
  refine h.objs k (Bool.eq_false_iff.2 fun hbit => hk (hF _ ?_ hbit))
  by_contra hbig
  have : F.testBit (64 + k / 2 ^ 20) = false :=
    Nat.testBit_lt_two_pow (hlt.trans_le (Nat.pow_le_pow_right (by decide) (by omega)))
  exact absurd (this.symm.trans hbit) (by decide)

theorem Within.power (h : Within F s t) (hF : F.testBit Part.power.ix = false := by decide) : t.power = s.power := by
  have := congrArg State.power h.frame
  simpa [State.patch, pick, hF] using this

theorem Within.frames (h : Within F s t) (hF : F.testBit Part.frames.ix = false := by decide) : t.frames = s.frames := by
  have := congrArg State.frames h.frame
  simpa [State.patch, pick, hF] using this

theorem Within.tick (h : Within F s t) (hF : F.testBit Part.tick.ix = false := by decide) : t.tick = s.tick := by
  have := congrArg State.tick h.frame
  simpa [State.patch, pick, hF] using this

theorem Within.net (h : Within F s t) (hF : F.testBit Part.net.ix = false := by decide) : t.net = s.net := by
  have := congrArg State.net h.frame
  simpa [State.patch, pick, hF] using this

/-! ### SAFE and LEASE telegrams (spec/17 R564, R565) -/

theorem Within.taken {o func nodes} (h : Within F s a) (hF : foot [.can] ||| F = F := by decide) :
    Within F s (a.taken o func nodes) :=
  h.via hF fun h => by
    unfold State.taken
    split
    · dsimp only
      split
      · exact h.set
      · exact h
    · exact h

theorem Within.ignored (h : Within F s a) (hF : foot [.area 0xB] ||| F = F := by decide) : Within F s a.ignored :=
  h.via hF fun h => h.wrIn 0xB

section
variable (s : State) (o : Origin) (func : Nat) (nodes : List Nat)

theorem State.taken_frame : s.taken o func nodes = s.patch (foot [.can]) (s.taken o func nodes) :=
  (Within.refl _ s).taken.frame

@[simp] theorem State.taken_rd (k : Nat) : (s.taken o func nodes).rd k = s.rd k := (Within.refl (foot [.can]) s).taken.rd k

@[simp] theorem State.taken_bitAt (k i : Nat) : (s.taken o func nodes).bitAt k i = s.bitAt k i := by simp [State.bitAt]

@[simp] theorem State.taken_pselLow : (s.taken o func nodes).pselLow = s.pselLow := by simp [State.pselLow]

@[simp] theorem State.taken_power : (s.taken o func nodes).power = s.power := by rw [State.taken_frame]; rfl

@[simp] theorem State.taken_tick : (s.taken o func nodes).tick = s.tick := by rw [State.taken_frame]; rfl

@[simp] theorem State.taken_dev : (s.taken o func nodes).dev = s.dev := by simp [State.dev]

@[simp] theorem State.taken_manager : (s.taken o func nodes).manager = s.manager := by simp [State.manager]

@[simp] theorem State.taken_node : (s.taken o func nodes).node = s.node := by
  rw [State.taken_frame]
  show (if !s.power.bootLoader then (s.taken o func nodes).rd kNodeId else _) = _
  rw [State.taken_rd]
  rfl

@[simp] theorem State.taken_reaches (node : Nat) : (s.taken o func nodes).reaches node = s.reaches node := by
  simp [State.reaches, State.inReset]

@[simp] theorem State.taken_unserved : (s.taken o func nodes).unserved = s.unserved := by simp [State.unserved]

@[simp] theorem State.taken_swarm : (s.taken o func nodes).frames = s.frames := by rw [State.taken_frame]; rfl

@[simp] theorem State.taken_fromHolder (u : Fin 2) : (s.taken o func nodes).fromHolder (.can u) = s.fromHolder (.can u) := by
  simp [State.fromHolder]

end

/-- The CAN lease with its new holder. -/
structure TakesCanLease (u : Nat) (s t : State) : Prop where
  holder : t.rd 0xB02002 = u
  lapsed : t.bitAt 0xB02003 3 = false
  canUntil : t.lease.canUntil =
    if s.rd 0xB0210B = 0 || s.pselLow then none else some (s.tick + msTicks (s.rd 0xB0210B))
  objs : KeepsObjs [0xB02002, 0xB02003] s t
  frame : t = { s with objs := t.objs, rails := t.rails, lease := t.lease }

theorem State.pathSources_rd (s : State) (k : Nat) : s.pathSources.rd k = s.rd k :=
  ((Within.refl raising s).pathSources).rd k

theorem State.pathSources_lease (s : State) : s.pathSources.lease = s.lease :=
  (congrArg State.lease ((Within.refl raising s).pathSources).frame :)

theorem State.updRevert_rd (s : State) (k : Nat) (hk : k ≠ 0xB02003) : s.updRevert.rd k = s.rd k := by
  simp only [State.updRevert, State.rd_wrBit, if_neg hk]
  rfl

theorem State.updRevert_bitAt (s : State) (i : Nat) (h6 : i ≠ 6) (h7 : i ≠ 7) :
    s.updRevert.bitAt 0xB02003 i = s.bitAt 0xB02003 i := by
  simp only [State.updRevert, State.bitAt_wrBit, true_and, if_neg h6, if_neg h7]
  rfl

/-- What a new holder of the CAN lease is given, before the sources and the reversion follow. -/
def State.grantCan (s : State) (u : Nat) : State :=
  { (s.wr 0xB02002 u).wrBit 0xB02003 3 false with
    lease := { s.lease with
      canFrom := some s.tick
      canUntil := if s.rd 0xB0210B = 0 || s.pselLow then none else some (s.tick + msTicks (s.rd 0xB0210B)) } }

theorem State.setCanHolder_eq (s : State) (u : Nat) : s.setCanHolder u = (s.grantCan u).pathSources.updRevert := rfl

theorem State.grantCan_rd (s : State) (u k : Nat) (hk : k ≠ 0xB02003) :
    (s.grantCan u).rd k = if k = 0xB02002 then u else s.rd k := by
  show ((s.wr 0xB02002 u).wrBit 0xB02003 3 false).rd k = _
  simp [hk]

theorem State.grantCan_lapsed (s : State) (u : Nat) : (s.grantCan u).bitAt 0xB02003 3 = false := by
  show ((s.wr 0xB02002 u).wrBit 0xB02003 3 false).bitAt 0xB02003 3 = false
  rw [State.bitAt_wrBit, if_pos ⟨rfl, rfl⟩]

theorem State.setCanHolder_takes (s : State) (u : Nat) : TakesCanLease u s (s.setCanHolder u) := by
  have hframe := ((Within.refl leasing s).setCanHolder (u := u)).frame
  have hrd (k : Nat) (hk : k ≠ 0xB02003) : (s.setCanHolder u).rd k = if k = 0xB02002 then u else s.rd k := by
    rw [State.setCanHolder_eq, State.updRevert_rd _ _ hk, State.pathSources_rd, State.grantCan_rd _ _ _ hk]
  exact
    { holder := (hrd _ (by decide)).trans (if_pos rfl)
      lapsed := by
        rw [State.setCanHolder_eq, State.updRevert_bitAt _ _ (by decide) (by decide), State.bitAt, State.pathSources_rd]
        exact s.grantCan_lapsed u
      canUntil := congrArg LeaseSt.canUntil (s.grantCan u).pathSources_lease
      objs := fun k hk => by
        simp only [List.mem_cons, List.not_mem_nil, or_false, not_or] at hk
        obtain ⟨hholder, hstatus⟩ := hk
        exact (hrd k hstatus).trans (if_neg hholder)
      frame := hframe }

/-- What the holder's release of the CAN lease does. -/
structure ReleasesCan (s t : State) : Prop where
  handed : s.rd (0xB02211 + (1 - s.rd 0xB02002)) = 3 →
    t.rd 0xB02002 = 1 - s.rd 0xB02002 ∧ t.bitAt 0xB02003 3 = false ∧ t.rd 0xB02009 = wrapInc 32 (s.rd 0xB02009)
  lapsed : s.rd (0xB02211 + (1 - s.rd 0xB02002)) ≠ 3 →
    t.bitAt 0xB02003 3 = true ∧ t.rd 0xB02002 = s.rd 0xB02002 ∧ t.lease.canUntil = none
  objs : KeepsObjs [0xB02002, 0xB02003, 0xB02009] s t
  frame : t = { s with objs := t.objs, rails := t.rails, lease := t.lease }

theorem State.canRelease_handed (s : State) (hpsel : s.pselLow = false)
    (hgood : s.rd (0xB02211 + (1 - s.rd 0xB02002)) = 3) :
    s.canRelease = ((s.setCanHolder (1 - s.rd 0xB02002)).count 0xB02009).raise 104 := by
  simp [State.canRelease, hpsel, hgood]

theorem State.canRelease_lapses (s : State) (hpsel : s.pselLow = false)
    (hgood : s.rd (0xB02211 + (1 - s.rd 0xB02002)) ≠ 3) : s.canRelease =
      ({ s.wrBit 0xB02003 3 true with lease := { s.lease with canUntil := none } } : State).pathSources := by
  simp [State.canRelease, hpsel, hgood]

theorem State.canRelease_releases (s : State) (hpsel : s.pselLow = false) : ReleasesCan s s.canRelease := by
  have hframe := ((Within.refl leasing s).canRelease).frame
  by_cases hgood : s.rd (0xB02211 + (1 - s.rd 0xB02002)) = 3
  · have heq := s.canRelease_handed hpsel hgood
    obtain ⟨hholder, hlapsed, -, hobjs, -⟩ := s.setCanHolder_takes (1 - s.rd 0xB02002)
    generalize s.setCanHolder (1 - s.rd 0xB02002) = a at *
    have hrd (k : Nat) (hk : k ≠ 0xB02009) : s.canRelease.rd k = a.rd k := by
      rw [heq]
      exact State.rd_wr_ne _ _ hk
    exact
      { handed := fun _ => by
          refine ⟨(hrd _ (by decide)).trans hholder, (congrArg (bit · 3) (hrd 0xB02003 (by decide))).trans hlapsed, ?_⟩
          rw [heq, State.rd_raise, State.rd_count, if_pos rfl, hobjs _ (by decide)]
        lapsed := fun h => absurd hgood h
        objs := fun k hk => by
          simp only [List.mem_cons, List.not_mem_nil, or_false, not_or] at hk
          obtain ⟨h2, h3, h9⟩ := hk
          exact (hrd k h9).trans (hobjs k (by simp [h2, h3]))
        frame := hframe }
  · have heq := s.canRelease_lapses hpsel hgood
    have hrd (k : Nat) : s.canRelease.rd k = (s.wrBit 0xB02003 3 true).rd k := by
      rw [heq, State.pathSources_rd]
      rfl
    have hne (k : Nat) (hk : k ≠ 0xB02003) : s.canRelease.rd k = s.rd k := (hrd k).trans (State.rd_wr_ne _ _ hk)
    exact
      { handed := fun h => absurd h hgood
        lapsed := fun _ => by
          refine ⟨?_, hne _ (by decide), ?_⟩
          · rw [State.bitAt, hrd]
            exact (s.bitAt_wrBit ..).trans (if_pos ⟨rfl, rfl⟩)
          · rw [heq, State.pathSources_lease]
        objs := fun k hk => hne k fun h => hk (by simp [h])
        frame := hframe }

/-! #### A safe cause, and the SWARM that passes it on -/

theorem State.safeCause_manager (s : State) (cause : Nat) : (s.safeCause cause).manager = s.manager := by
  have h : Within moving s (s.safeCause cause) := (Within.refl _ s).safeCause
  unfold State.manager
  rw [h.objs kRole (by decide)]

theorem State.leaveRunning_unserved (s : State) : s.leaveRunning.unserved = s.unserved := by
  have h : Within (looping ||| molting) s (forFin 3 (s.engineStops 6) fun g a => a.endMolt g 11) :=
    .forFin (.engineStops (.refl _ s)) fun _ _ h => h.endMolt
  unfold State.leaveRunning
  dsimp only
  generalize (forFin 3 (s.engineStops 6) fun g a => a.endMolt g 11) = b at h ⊢
  split
  · exact congrArg (fun p => !p.supervisor && !p.bootLoader) h.power
  · rfl

theorem State.toSafe_unserved (s : State) (cause : Nat) : (s.toSafe cause).unserved = s.unserved := by
  have hsafe (a : State) : Within (celling ||| placing) a (((a.enterDev 6).wr kSafeCause cause).cellsSafe) :=
    .cellsSafe (.wrIn 1 (.enterDev (.refl _ a)))
  have hleft : (if cause = 4 then s else s.falls).leaveRunning.unserved = s.unserved := by
    rw [State.leaveRunning_unserved]
    split <;> rfl
  unfold State.toSafe
  generalize (if cause = 4 then s else s.falls).leaveRunning = a at hleft ⊢
  have hpower := (hsafe a).power
  generalize ((a.enterDev 6).wr kSafeCause cause).cellsSafe = b at hpower ⊢
  exact Eq.trans (congrArg (fun p : PowerSt => !p.supervisor && !p.bootLoader) hpower : b.unserved = a.unserved) hleft

theorem State.safeCause_unserved (s : State) (cause : Nat) : (s.safeCause cause).unserved = s.unserved := by
  unfold State.safeCause
  split
  · exact s.toSafe_unserved cause
  · exact s.toSafe_unserved cause
  · exact s.toSafe_unserved cause
  · split <;> rfl
  · split <;> rfl
  · split <;> rfl
  · rfl

theorem State.safeCause_pending (s : State) (cause : Nat) (hdev : s.dev = 0 ∨ s.dev = 1 ∨ s.dev = 5) :
    s.safeCause cause = if s.bitAt kFlags 1 then s
      else { s.wrBit kFlags 1 true with power := { s.power with pendingCause := cause } } := by
  unfold State.safeCause
  rcases hdev with h | h | h <;> simp only [h]

theorem State.safeCause_stays (s : State) (cause : Nat) (hdev : s.dev = 6 ∨ s.dev = 7) : s.safeCause cause = s := by
  unfold State.safeCause
  rcases hdev with h | h <;> simp only [h]

theorem State.enqueue_swarm (s : State) (i f fwd rx cut) : (s.enqueue i f fwd rx cut).frames.swarm = s.frames.swarm := by
  unfold State.enqueue
  split <;> rfl

theorem State.sendReliable_swarm (s : State) (typ dst : Nat) (payload : Bytes) :
    (s.sendReliable typ dst payload).frames.swarm = s.frames.swarm := by
  unfold State.sendReliable
  split
  · rfl
  · dsimp only
    split
    · rfl
    · rw [State.enqueue_swarm]
      rfl

/-- A SWARM put in an empty queue goes to the last position at once. -/
theorem State.swarmStart_first (s : State) (channel p : Nat) (g : Telegram) (answered : Bool) (hempty : s.frames.swarm = [])
    (hlast : min 32 (s.rd 0xB03004) = p + 1) (hp : 1 ≤ p) : s.swarmStart channel g answered =
      ({ s with frames := { s.frames with swarm := [⟨channel, g, p, 0, answered⟩] } } : State).sendReliable 3 p
        (dictBytes 3 (swarmFunc g) channel (tgOf g) (bytesOf g)) := by
  have hrd (f : FrameSt) : ({ s with frames := f } : State).rd 0xB03004 = s.rd 0xB03004 := rfl
  simp only [State.swarmStart, hempty, List.nil_append, State.swarmKick, if_true, List.length_cons, List.length_nil,
    State.swarmGo, hrd, hlast]
  rw [if_neg (by omega)]
  rfl

/-! #### What each telegram is under its hypotheses -/

/-- A telegram that reaches this device and the lease logic. -/
structure Reaches (s : State) (g : Telegram) : Prop where
  boot : s.power.bootLoader = false
  node : s.reaches g.node.toNat = true

section
variable (s : State) (u : Fin 2) (g : Telegram)

theorem State.leaseTelegram_passed (action : Nat)
    (h : s.power.bootLoader = true ∨ s.reaches g.node.toNat = false ∨ g.tagGen.toNat ≠ action) :
    s.leaseTelegram u g action = s.taken (.can u) 1 [g.node.toNat] := by
  refine if_pos ?_
  rcases h with h | h | h <;> simp [h]

theorem State.leaseTelegram_pselLow (action : Nat) (hreach : Reaches s g) (haction : g.tagGen.toNat = action)
    (hpsel : s.pselLow = true) : s.leaseTelegram u g action = (s.taken (.can u) 1 [g.node.toNat]).ignored := by
  simp [State.leaseTelegram, hreach.boot, hreach.node, haction, hpsel]

theorem State.leaseTelegram_renews (hreach : Reaches s g) (haction : g.tagGen.toNat = 0) (hpsel : s.pselLow = false)
    (h : s.rd 0xB02002 = u.val ∨ s.bitAt 0xB02003 3 = true) :
    s.leaseTelegram u g 0 = (s.taken (.can u) 1 [g.node.toNat]).setCanHolder u.val := by
  simp [State.leaseTelegram, hreach.boot, hreach.node, haction, hpsel, h]

theorem State.leaseTelegram_foreign (hreach : Reaches s g) (haction : g.tagGen.toNat = 0) (hpsel : s.pselLow = false)
    (hholder : s.rd 0xB02002 ≠ u.val) (hlapsed : s.bitAt 0xB02003 3 = false) :
    s.leaseTelegram u g 0 = (s.taken (.can u) 1 [g.node.toNat]).ignored := by
  simp [State.leaseTelegram, hreach.boot, hreach.node, haction, hpsel, hholder, hlapsed]

theorem State.leaseTelegram_releases (hreach : Reaches s g) (haction : g.tagGen.toNat = 1) (hpsel : s.pselLow = false)
    (hholder : s.rd 0xB02002 = g.op.toNat) :
    s.leaseTelegram u g 1 = (s.taken (.can u) 1 [g.node.toNat]).canRelease := by
  simp [State.leaseTelegram, hreach.boot, hreach.node, haction, hpsel, hholder]

theorem State.leaseTelegram_unnamed (hreach : Reaches s g) (haction : g.tagGen.toNat = 1) (hpsel : s.pselLow = false)
    (hholder : s.rd 0xB02002 ≠ g.op.toNat) : s.leaseTelegram u g 1 = s.taken (.can u) 1 [g.node.toNat] := by
  simp [State.leaseTelegram, hreach.boot, hreach.node, haction, hpsel, hholder.symm]

theorem State.leaseTelegram_reverts (hreach : Reaches s g) (haction : g.tagGen.toNat = 2) (hpsel : s.pselLow = false)
    (hnamed : g.op.toNat ≤ 1) (hgood : s.rd (0xB02211 + g.op.toNat) = 3)
    (hother : ¬ (s.rd 0xB02002 = g.op.toNat ∧ s.bitAt 0xB02003 3 = false)) :
    s.leaseTelegram u g 2 = (s.taken (.can u) 1 [g.node.toNat]).setCanHolder g.op.toNat := by
  simp [State.leaseTelegram, hreach.boot, hreach.node, haction, hpsel, hnamed, hgood]
  grind

theorem State.leaseTelegram_stays (hreach : Reaches s g) (haction : g.tagGen.toNat = 2) (hpsel : s.pselLow = false)
    (hnamed : g.op.toNat ≤ 1) (hgood : s.rd (0xB02211 + g.op.toNat) = 3) (hholder : s.rd 0xB02002 = g.op.toNat)
    (hlapsed : s.bitAt 0xB02003 3 = false) : s.leaseTelegram u g 2 = s.taken (.can u) 1 [g.node.toNat] := by
  simp [State.leaseTelegram, hreach.boot, hreach.node, haction, hpsel, hnamed, hgood, hholder, hlapsed]

theorem State.leaseTelegram_revert_refused (hreach : Reaches s g) (haction : g.tagGen.toNat = 2)
    (hpsel : s.pselLow = false) (h : 1 < g.op.toNat ∨ s.rd (0xB02211 + g.op.toNat) ≠ 3) :
    s.leaseTelegram u g 2 = (s.taken (.can u) 1 [g.node.toNat]).ignored := by
  have hbad : (Decidable.decide (g.op.toNat ≤ 1) && Decidable.decide (s.rd (0xB02211 + g.op.toNat) = 3)) = false := by
    grind
  simp [State.leaseTelegram, hreach.boot, hreach.node, haction, hpsel, hbad]


theorem State.safeTelegram_passed (h : s.power.bootLoader = true ∨ s.reaches g.node.toNat = false) :
    s.safeTelegram u g = s.taken (.can u) 0 [g.node.toNat] := by
  refine if_pos ?_
  rcases h with h | h <;> simp [h]

theorem State.safeTelegram_foreign (hreach : Reaches s g) (hholder : s.fromHolder (.can u) = false) :
    s.safeTelegram u g = (s.taken (.can u) 0 [g.node.toNat]).ignored := by
  simp [State.safeTelegram, hreach.boot, hreach.node, hholder]

/-- CMD SAFE as a SWARM carries it. -/
def swarmSafe : Telegram := { readTelegram 0 (telBytes 0 5 0 0 0 0 (natLe 1 4)) with node := 0 }

theorem State.safeTelegram_acts (hreach : Reaches s g) (hholder : s.fromHolder (.can u) = true) :
    s.safeTelegram u g =
      (let a := (s.taken (.can u) 0 [g.node.toNat]).safeCause 6
      if g.node = 0 && a.manager && !a.unserved then a.swarmStart u.val swarmSafe false else a) := by
  simp [State.safeTelegram, hreach.boot, hreach.node, hholder, swarmSafe]

theorem State.safeTelegram_safeCause (hreach : Reaches s g) (hholder : s.fromHolder (.can u) = true)
    (hstays : s.manager = false ∨ g.node ≠ 0 ∨ s.unserved = true) :
    s.safeTelegram u g = (s.taken (.can u) 0 [g.node.toNat]).safeCause 6 := by
  rw [State.safeTelegram_acts s u g hreach hholder]
  refine if_neg ?_
  rw [State.safeCause_manager, State.safeCause_unserved, State.taken_manager, State.taken_unserved]
  rcases hstays with h | h | h <;> simp_all

theorem State.safeTelegram_swarm (hreach : Reaches s g) (hholder : s.fromHolder (.can u) = true)
    (hmanager : s.manager = true) (hnode : g.node = 0) (hserved : s.unserved = false) :
    s.safeTelegram u g = ((s.taken (.can u) 0 [g.node.toNat]).safeCause 6).swarmStart u.val swarmSafe false := by
  rw [State.safeTelegram_acts s u g hreach hholder]
  refine if_pos ?_
  rw [State.safeCause_manager, State.safeCause_unserved, State.taken_manager, State.taken_unserved]
  simp [hmanager, hnode, hserved]

end

/-! #### The telegrams' effects together -/

/-- A telegram that is taken and counted as ignored. -/
theorem State.taken_ignored (s : State) (u : Fin 2) (func : Nat) (nodes : List Nat) :
    let t := (s.taken (.can u) func nodes).ignored
    t.rd 0xB0200B = wrapInc 32 (s.rd 0xB0200B) ∧ KeepsObjs [0xB0200B] s t ∧ t = { s with objs := t.objs, can := t.can } := by
  refine ⟨?_, fun k hk => ?_, ?_⟩
  · rw [State.ignored, State.rd_count, if_pos rfl, State.taken_rd]
  · rw [State.ignored, State.rd_count, if_neg (by simpa using hk), State.taken_rd]
  · exact ((Within.refl (foot [.can, .area 0xB]) s).taken.ignored).frame

/-- SAFE of the holder in a device that operates. -/
theorem State.safeTelegram_operating (s : State) (u : Fin 2) (g : Telegram) (hdev : s.dev = 2 ∨ s.dev = 3 ∨ s.dev = 4) :
    let t := (s.taken (.can u) 0 [g.node.toNat]).safeCause 6
    t.dev = 6 ∧ t.rd kSafeCause = 6 ∧ Within (moving ||| foot [.can, .modeDone]) s t := by
  have h := State.safeCause_entersSafe (s.taken (.can u) 0 [g.node.toNat]) 6 (by rwa [State.taken_dev])
  exact ⟨h.dev, h.cause, ((Within.refl _ s).taken).trans (h.within.mono (by decide))⟩

/-- SAFE of the holder in a device that does not operate yet. -/
theorem State.safeTelegram_pending (s : State) (u : Fin 2) (g : Telegram) (hdev : s.dev = 0 ∨ s.dev = 1 ∨ s.dev = 5) :
    let t := (s.taken (.can u) 0 [g.node.toNat]).safeCause 6
    t.bitAt kFlags 1 = true ∧ (s.bitAt kFlags 1 = false → t.power.pendingCause = 6) ∧
      (s.bitAt kFlags 1 = true → t.power = s.power) ∧ KeepsObjs [kFlags] s t ∧
      t = { s with objs := t.objs, power := t.power, can := t.can } := by
  have htaken : Within (foot [.can, .power, .area 1]) s (s.taken (.can u) 0 [g.node.toNat]) := (Within.refl _ s).taken
  have hrd (k : Nat) : (s.taken (.can u) 0 [g.node.toNat]).rd k = s.rd k := State.taken_rd ..
  have hbit : (s.taken (.can u) 0 [g.node.toNat]).bitAt kFlags 1 = s.bitAt kFlags 1 := State.taken_bitAt ..
  have hpower : (s.taken (.can u) 0 [g.node.toNat]).power = s.power := State.taken_power ..
  have heq := (s.taken (.can u) 0 [g.node.toNat]).safeCause_pending 6 (by rwa [State.taken_dev])
  rw [hbit] at heq
  generalize s.taken (.can u) 0 [g.node.toNat] = a at *
  dsimp only
  rw [heq]
  by_cases hflag : s.bitAt kFlags 1 = true
  · rw [if_pos hflag]
    exact ⟨hbit.trans hflag, fun h => absurd hflag (by simp [h]), fun _ => hpower, fun k _ => hrd k, htaken.frame⟩
  · rw [if_neg hflag]
    have hwithin := (htaken.wrIn 1 (k := kFlags) (v := setBit (a.rd kFlags) 1 true)).setPower (power := { a.power with pendingCause := 6 })
    exact ⟨(State.bitAt_wrBit ..).trans (if_pos ⟨rfl, rfl⟩), fun _ => rfl, fun h => absurd h hflag,
      fun k hk => (State.rd_wr_ne _ _ (by simpa using hk)).trans (hrd k), hwithin.frame⟩

/-- SAFE of the holder on node 0 in a manager that serves. -/
theorem State.safeTelegram_swarms (s : State) (u : Fin 2) (g : Telegram) (p : Nat)
    (hdev : s.dev = 2 ∨ s.dev = 3 ∨ s.dev = 4) (hempty : s.frames.swarm = [])
    (hlast : min 32 (s.rd 0xB03004) = p + 1) (hp : 1 ≤ p) :
    let t := ((s.taken (.can u) 0 [g.node.toNat]).safeCause 6).swarmStart u.val swarmSafe false
    t.dev = 6 ∧ t.rd kSafeCause = 6 ∧ t.frames.swarm = [⟨u.val, swarmSafe, p, 0, false⟩] ∧
      Within (moving ||| sending ||| foot [.can, .modeDone]) s t := by
  obtain ⟨hdev, hcause, hwithin⟩ := s.safeTelegram_operating u g hdev
  generalize (s.taken (.can u) 0 [g.node.toNat]).safeCause 6 = a at *
  dsimp only
  rw [a.swarmStart_first u.val p swarmSafe false (by rw [hwithin.frames, hempty])
    (by rw [hwithin.objs 0xB03004 (by decide), hlast]) hp]
  have hsent (f : FrameSt) : Within sending a ({ a with frames := f }.sendReliable 3 p
      (dictBytes 3 (swarmFunc swarmSafe) u.val (tgOf swarmSafe) (bytesOf swarmSafe))) :=
    ((Within.refl _ a).set (frames := f)).sendReliable
  exact ⟨((hsent _).objs kDevState (by decide)).trans hdev, ((hsent _).objs kSafeCause (by decide)).trans hcause,
    State.sendReliable_swarm .., (hwithin.mono (by decide)).trans ((hsent _).mono (by decide))⟩

theorem State.taken_setCanHolder (s : State) (u : Fin 2) (func h : Nat) (nodes : List Nat) (hpsel : s.pselLow = false) :
    let t := (s.taken (.can u) func nodes).setCanHolder h
    t.rd 0xB02002 = h ∧ t.bitAt 0xB02003 3 = false ∧
      t.lease.canUntil = (if s.rd 0xB0210B = 0 then none else some (s.tick + msTicks (s.rd 0xB0210B))) ∧
      KeepsObjs [0xB02002, 0xB02003] s t ∧ KeepsOtherAreas [0xB, 0xA] s t ∧
      t = { s with objs := t.objs, rails := t.rails, lease := t.lease, can := t.can } := by
  obtain ⟨hholder, hlapsed, huntil, hobjs, -⟩ := (s.taken (.can u) func nodes).setCanHolder_takes h
  have hwithin : Within (foot [.can] ||| leasing) s ((s.taken (.can u) func nodes).setCanHolder h) :=
    (Within.refl _ s).taken.setCanHolder
  refine ⟨hholder, hlapsed, ?_, fun k hk => (hobjs k hk).trans (State.taken_rd ..), hwithin.keepsOtherAreas, hwithin.frame⟩
  simpa [hpsel] using huntil

/-- Settles O39: each clause is what its telegram is under the clause's hypotheses, after the receive object is free. -/
theorem safeAndLeaseTelegramsAct : Obligations.SafeAndLeaseTelegramsAct := by
  intro s
  refine ⟨?_, ?_, ?_, ?_, ?_, ?_, ?_, ?_, ?_, ?_, ?_, ?_, ?_, ?_, ?_, ?_⟩
  · intro u g hboot hreach hholder hstays hdev
    refine ⟨_, rfl, ?_⟩
    rw [s.safeTelegram_safeCause u g ⟨hboot, hreach⟩ hholder hstays]
    obtain ⟨hd, hcause, hwithin⟩ := s.safeTelegram_operating u g hdev
    exact ⟨hd, hcause, hwithin.tick, hwithin.frame⟩
  · intro u g hboot hreach hholder hstays hdev
    refine ⟨_, rfl, ?_⟩
    rw [s.safeTelegram_safeCause u g ⟨hboot, hreach⟩ hholder hstays]
    exact s.safeTelegram_pending u g hdev
  · intro u g hboot hreach hholder hstays hdev
    refine ⟨_, rfl, ?_⟩
    rw [s.safeTelegram_safeCause u g ⟨hboot, hreach⟩ hholder hstays]
    exact State.safeCause_stays _ _ (by rwa [State.taken_dev])
  · intro u g p hboot hreach hholder hmanager hnode hserved hdev hempty hlast hp
    refine ⟨_, rfl, ?_⟩
    rw [s.safeTelegram_swarm u g ⟨hboot, hreach⟩ hholder hmanager hnode hserved]
    obtain ⟨hd, hcause, hswarm, hwithin⟩ := s.safeTelegram_swarms u g p hdev hempty hlast hp
    exact ⟨hd, hcause, by rw [hswarm]; rfl, hwithin.frame⟩
  · intro u g hboot hreach hholder
    refine ⟨_, rfl, ?_⟩
    rw [s.safeTelegram_foreign u g ⟨hboot, hreach⟩ hholder]
    exact s.taken_ignored u 0 _
  · intro u g h
    exact ⟨_, rfl, s.safeTelegram_passed u g h⟩
  · intro u g hboot hreach haction hpsel h
    refine ⟨_, rfl, ?_⟩
    rw [s.leaseTelegram_renews u g ⟨hboot, hreach⟩ (by rw [haction]; rfl) hpsel h]
    exact s.taken_setCanHolder u 1 u.val _ hpsel
  · intro u g hboot hreach haction h
    refine ⟨_, rfl, ?_⟩
    have haction : g.tagGen.toNat = 0 := by rw [haction]; rfl
    have heq : s.leaseTelegram u g 0 = (s.taken (.can u) 1 [g.node.toNat]).ignored := by
      by_cases hpsel : s.pselLow = true
      · exact s.leaseTelegram_pselLow u g 0 ⟨hboot, hreach⟩ haction hpsel
      · obtain ⟨hholder, hlapsed⟩ := h.resolve_left hpsel
        exact s.leaseTelegram_foreign u g ⟨hboot, hreach⟩ haction (by simpa using hpsel) hholder hlapsed
    rw [heq]
    exact s.taken_ignored u 1 _
  · intro u g hboot hreach haction hpsel hholder _
    refine ⟨_, rfl, ?_⟩
    rw [s.leaseTelegram_releases u g ⟨hboot, hreach⟩ (by rw [haction]; rfl) hpsel hholder]
    obtain ⟨hhanded, hlapsed, hobjs, -⟩ := (s.taken (.can u) 1 [g.node.toNat]).canRelease_releases (by simpa using hpsel)
    simp only [State.taken_rd, hholder] at hhanded hlapsed
    exact ⟨hhanded, fun h => by simpa [hholder] using hlapsed h, fun k hk => (hobjs k hk).trans (State.taken_rd ..),
      ((Within.refl (foot [.can] ||| leasing) s).taken.canRelease).frame⟩
  · intro u g hboot hreach haction hpsel hholder
    exact ⟨_, rfl, s.leaseTelegram_unnamed u g ⟨hboot, hreach⟩ (by rw [haction]; rfl) hpsel hholder⟩
  · intro u g hboot hreach haction hpsel hnamed hgood
    refine ⟨_, rfl, ?_⟩
    have haction : g.tagGen.toNat = 2 := by rw [haction]; rfl
    by_cases hown : s.rd 0xB02002 = g.op.toNat ∧ s.bitAt 0xB02003 3 = false
    · obtain ⟨hholder, hlapsed⟩ := hown
      rw [s.leaseTelegram_stays u g ⟨hboot, hreach⟩ haction hpsel hnamed hgood hholder hlapsed]
      exact ⟨(State.taken_rd ..).trans hholder, (State.taken_bitAt ..).trans hlapsed, fun k _ => State.taken_rd ..,
        ((Within.refl (foot [.can] ||| leasing) s).taken).frame⟩
    · rw [s.leaseTelegram_reverts u g ⟨hboot, hreach⟩ haction hpsel hnamed hgood hown]
      obtain ⟨hholder, hlapsed, -, hobjs, -, hframe⟩ := s.taken_setCanHolder u 1 g.op.toNat [g.node.toNat] hpsel
      exact ⟨hholder, hlapsed, hobjs, hframe⟩
  · intro u g hboot hreach haction hpsel
    refine ⟨_, rfl, ?_⟩
    rw [s.leaseTelegram_pselLow u g 1 ⟨hboot, hreach⟩ (by rw [haction]; rfl) hpsel]
    exact s.taken_ignored u 1 _
  · intro u g hboot hreach haction h
    refine ⟨_, rfl, ?_⟩
    have haction : g.tagGen.toNat = 2 := by rw [haction]; rfl
    have heq : s.leaseTelegram u g 2 = (s.taken (.can u) 1 [g.node.toNat]).ignored := by
      by_cases hpsel : s.pselLow = true
      · exact s.leaseTelegram_pselLow u g 2 ⟨hboot, hreach⟩ haction hpsel
      · exact s.leaseTelegram_revert_refused u g ⟨hboot, hreach⟩ haction (by simpa using hpsel) (h.resolve_left hpsel)
    rw [heq]
    exact s.taken_ignored u 1 _
  · intro u g h
    exact ⟨_, rfl, s.leaseTelegram_passed u g 0 (h.imp_right (Or.imp_right (mt (BitVec.eq_of_toNat_eq (y := 0#8)))))⟩
  · intro u g h
    exact ⟨_, rfl, s.leaseTelegram_passed u g 1 (h.imp_right (Or.imp_right (mt (BitVec.eq_of_toNat_eq (y := 1#8)))))⟩
  · intro u g h
    exact ⟨_, rfl, s.leaseTelegram_passed u g 2 (h.imp_right (Or.imp_right (mt (BitVec.eq_of_toNat_eq (y := 2#8)))))⟩

end Sys2Proof.Machine
end

section
/-! EVENT and SAFE frames, event messages. -/

namespace Sys2Proof.Machine
set_option Elab.async false

/-! ### Event messages (spec/17 R568) -/

section
variable (s : State) (u : Fin 2) (n : Nat)

/-- An object of a controller that changes while every other one stays. -/
structure AtMsg (s t : State) : Prop where
  others : ∀ m : Fin 100, m ≠ objIx n → t.can[u].msg[m] = s.can[u].msg[m]
  other : t.can[otherCan u] = s.can[otherCan u]
  timing : t.can[u].timing = s.can[u].timing
  frame : t = { s with free := t.free, can := t.can }

theorem AtMsg.refl : AtMsg u n s s := ⟨fun _ _ => rfl, rfl, rfl, rfl⟩

theorem AtMsg.trans {s a t : State} {u n} (h : AtMsg u n s a) (h' : AtMsg u n a t) : AtMsg u n s t where
  others m hm := (h'.others m hm).trans (h.others m hm)
  other := h'.other.trans h.other
  timing := h'.timing.trans h.timing
  frame := by rw [h'.frame, h.frame]

theorem otherCan_ne : otherCan u ≠ u := by
  intro h
  have := congrArg Fin.val h
  simp only [otherCan] at this
  omega

theorem State.can_modCan (f : CanSt → CanSt) : (s.modCan u f).can[u] = f s.can[u] := upd_same s.can u f

theorem AtMsg.modMsg (f : MsgObj → MsgObj) : AtMsg u n s (s.modMsg u n f) where
  others m hm := (congrArg (·.msg[m]) (s.can_modCan u _)).trans (upd_ne _ _ _ f hm)
  other := upd_ne _ _ _ _ (otherCan_ne u)
  timing := (congrArg CanSt.timing (s.can_modCan u _) :)
  frame := rfl

theorem AtMsg.tx (tx : CanSt → Option CanTx) : AtMsg u n s (s.modCan u fun c => { c with tx := tx c }) where
  others m _ := congrArg (·.msg[m]) (s.can_modCan u _)
  other := upd_ne _ _ _ _ (otherCan_ne u)
  timing := (congrArg CanSt.timing (s.can_modCan u _) :)
  frame := rfl

theorem AtMsg.freeIn (lo hi : Nat) : AtMsg u n s (s.freeIn lo hi).2 := by
  unfold State.freeIn
  split
  · exact .refl s u n
  · exact ⟨fun _ _ => rfl, rfl, rfl, rfl⟩

theorem State.msg_modMsg (f : MsgObj → MsgObj) : (s.modMsg u n f).msg u n = f (s.msg u n) :=
  (congrArg (·.msg[objIx n]) (s.can_modCan u _)).trans (upd_same _ _ f)

theorem State.msg_modTx (tx : CanSt → Option CanTx) : (s.modCan u fun c => { c with tx := tx c }).msg u n = s.msg u n :=
  congrArg (·.msg[objIx n]) (s.can_modCan u _)

theorem State.msg_freeIn (lo hi : Nat) : (s.freeIn lo hi).2.msg u n = s.msg u n := by
  unfold State.freeIn
  split <;> rfl

end

/-- The object with another status and another instant of arbitration. -/
def MsgObj.requested (m : MsgObj) (t : MsgObj) : MsgObj := { m with ostat := t.ostat, readyAt := t.readyAt }

theorem State.requestTx_atMsg (s : State) (u : Fin 2) (n : Nat) : AtMsg u n s (s.requestTx u n) := by
  unfold State.requestTx
  dsimp only
  split
  · exact .refl s u n
  · split
    · exact .modMsg s u n _
    · exact ((AtMsg.freeIn s u n 60 120).trans (.modMsg _ u n _)).trans (.tx _ u n _)

theorem State.requestTx_msg (s : State) (u : Fin 2) (n : Nat) :
    (s.requestTx u n).msg u n = (s.msg u n).requested ((s.requestTx u n).msg u n) := by
  unfold State.requestTx
  dsimp only
  split
  · rfl
  · split
    · rw [State.msg_modMsg]
      rfl
    · rw [State.msg_modTx, State.msg_modMsg, State.msg_freeIn]
      rfl

theorem isPending_setBit (m : MsgObj) (readyAt : Nat) : isPending { m with ostat := setBit m.ostat 0 true, readyAt } = true := by
  simp [isPending, bit_setBit]

theorem State.requestTx_pending (s : State) (u : Fin 2) (n : Nat) (hvalid : isValid (s.msg u n) = true)
    (htx : isTx (s.msg u n) = true) (hmode : s.canMode u 1 = true) : isPending ((s.requestTx u n).msg u n) = true := by
  unfold State.requestTx
  simp only [hvalid, htx, hmode, Bool.not_true, Bool.or_self, Bool.and_false, Bool.false_eq_true, if_false]
  rw [State.msg_modTx, State.msg_modMsg]
  exact isPending_setBit _ _

/-- What `loadSystem` makes of its object, and what it leaves. -/
structure LoadsMsg (u : Fin 2) (n ident : Nat) (d : Bytes) (s t : State) : Prop extends AtMsg u n s t where
  own : t.msg u n =
    { s.msg u n with
      ident := ident + 2 ^ 30 + (if s.rd 0xC04101 = 1 then 2 ^ 31 else 0), dlc := dlcFor d.length, data := pad64 d,
      ostat := (t.msg u n).ostat, readyAt := (t.msg u n).readyAt }
  pending : isValid (s.msg u n) = true → isTx (s.msg u n) = true → s.canMode u 1 = true → isPending (t.msg u n) = true

theorem State.loadSystem_loads (s : State) (u : Fin 2) (n ident : Nat) (d : Bytes) :
    LoadsMsg u n ident d s (s.loadSystem u n ident d) := by
  unfold State.loadSystem
  dsimp only
  generalize hf : (fun m : MsgObj => { m with
    ident := ident + 2 ^ 30 + (if (s.rd 0xC04101 == 1) = true then 2 ^ 31 else 0), dlc := dlcFor d.length, data := pad64 d }) = f
  have hmsg := s.msg_modMsg u n f
  have hat := AtMsg.modMsg s u n f
  refine { toAtMsg := hat.trans (State.requestTx_atMsg _ u n), own := ?_, pending := fun hvalid htx hmode => ?_ }
  · rw [State.requestTx_msg, hmsg, ← hf]
    simp [MsgObj.requested]
  · refine State.requestTx_pending _ u n ?_ ?_ ?_
    · rw [hmsg, ← hf]
      exact hvalid
    · rw [hmsg, ← hf]
      exact htx
    · unfold State.canMode
      rw [hat.timing]
      exact hmode

/-- An event message put into object 22. -/
def State.putEvent (s : State) (u : Fin 2) (d : Bytes) : State :=
  { s.loadSystem u 22 (4 * 128 + s.node) d with wdp := { s.wdp with events := s.wdp.events.set u [d] } }

theorem State.eventBytes_length (s : State) (source position : Nat) (b : Bool) (sticky : Nat) :
    (s.eventBytes source position b sticky).length = 24 := by
  simp [State.eventBytes, natLe]

theorem dlcFor_event : dlcFor 24 = 12 := by decide

/-- What `wdpEventSend` gives with an event message. -/
structure PutsEvent (u : Fin 2) (d : Bytes) (s t : State) : Prop where
  events : t.wdp.events[u] = [d]
  own : t.msg u 22 =
    { s.msg u 22 with
      ident := 4 * 128 + s.node + 2 ^ 30 + (if s.rd 0xC04101 = 1 then 2 ^ 31 else 0), dlc := 12, data := pad64 d,
      ostat := (t.msg u 22).ostat, readyAt := (t.msg u 22).readyAt }
  pending : isTx (s.msg u 22) = true → s.canMode u 1 = true → isPending (t.msg u 22) = true
  controller : t.can[otherCan u] = s.can[otherCan u]
  others : ∀ m : Fin 100, m ≠ objIx 22 → t.can[u].msg[m] = s.can[u].msg[m]
  otherEvents : t.wdp.events[otherCan u] = s.wdp.events[otherCan u]
  frame : t = { s with free := t.free, can := t.can, wdp := { s.wdp with events := t.wdp.events } }

theorem State.putEvent_puts (s : State) (u : Fin 2) (d : Bytes) (hlen : d.length = 24)
    (hvalid : isValid (s.msg u 22) = true) : PutsEvent u d s (s.putEvent u d) := by
  obtain ⟨⟨hothers, hother, -, hframe⟩, hown, hpending⟩ := s.loadSystem_loads u 22 (4 * 128 + s.node) d
  rw [hlen, dlcFor_event] at hown
  unfold State.putEvent
  generalize s.loadSystem u 22 (4 * 128 + s.node) d = a at *
  exact
    { events := by simp
      own := hown
      pending := hpending hvalid
      controller := hother
      others := hothers
      otherEvents := by
        have : (u : Nat) ≠ (otherCan u : Nat) := fun h => otherCan_ne u (Fin.ext h.symm)
        simp [this]
      frame := by rw [hframe] }

section
variable (s : State) (u : Fin 2)

theorem State.loadEvent_own (n : Nat) (hspeaks : s.speaks = true) (hholder : s.canHolder = u)
    (hfree : isPending (s.msg u 22) = false) (hvalid : isValid (s.msg u 22) = true)
    (hnone : s.wdp.events[u].find? relayed = none)
    (hown : ((bitsOf 128 s.collector.wdpMarks.toNat).find? fun n => ownEvent s.wdp.events[otherCan u] != some n) = some n) :
    s.loadEvent u = s.putEvent u (s.eventBytes n (s.rd kPosition) false s.stickyMap.toNat) := by
  subst hholder
  refine (if_neg (by simp [hspeaks, hfree, hvalid])).trans ?_
  dsimp only
  rw [hnone, hown]
  rfl

theorem State.loadEvent_relays (x : Nat × Nat × Nat) (xs : List (Nat × Nat × Nat)) (hspeaks : s.speaks = true)
    (hholder : s.canHolder = u) (hfree : isPending (s.msg u 22) = false) (hvalid : isValid (s.msg u 22) = true)
    (hnone : s.wdp.events[u].find? relayed = none)
    (hown : ((bitsOf 128 s.collector.wdpMarks.toNat).find? fun n => ownEvent s.wdp.events[otherCan u] != some n) = none)
    (hrelay : s.collector.relay = x :: xs) :
    s.loadEvent u = State.putEvent { s with collector := { s.collector with relay := xs } } u
      (s.eventBytes x.2.1 x.1 true x.2.2) := by
  subst hholder
  refine (if_neg (by simp [hspeaks, hfree, hvalid])).trans ?_
  dsimp only
  rw [hnone, hown, hrelay]
  rfl

theorem State.loadEvent_idle (hholder : s.canHolder = u)
    (h : s.speaks = false ∨ isPending (s.msg u 22) = true ∨ isValid (s.msg u 22) = false ∨
      (s.wdp.events[u].find? relayed = none ∧ s.collector.wdpMarks = 0 ∧ s.collector.relay = [])) :
    s.loadEvent u = s := by
  unfold State.loadEvent
  rcases h with h | h | h | ⟨hnone, hmarks, hrelay⟩
  · simp [h]
  · simp [h]
  · simp [h]
  · split
    · rfl
    · have hbits : bitsOf 128 s.collector.wdpMarks.toNat = [] := by rw [hmarks]; decide
      dsimp only
      rw [hnone, hrelay, hbits]
      rfl

end

/-! ### EVENT frames sent (spec/12 R402) -/

/-- What a frame put on a lane's queue, behind the others, makes of the state. -/
structure Queues (i : Lane) (f : Frame) (s t : State) : Prop where
  queue : t.lanes[i].queue = s.lanes[i].queue ++ [⟨f, false, 0, false⟩]
  others : ∀ j : Lane, j ≠ i → t.lanes[j] = s.lanes[j]
  objs : KeepsObjs [0xB00508] s t
  frame : t = { s with objs := t.objs, lanes := t.lanes }

/-- A frame of a type that supersedes none. -/
theorem State.enqueue_queues (s : State) (i : Lane) (f : Frame) (hmay : s.maySend i = true) (h1 : f.typ ≠ 1)
    (h2 : f.typ ≠ 2) : Queues i f s (s.enqueue i f false 0) := by
  unfold State.enqueue
  rw [if_neg (by simp [hmay])]
  have hlane (g : LaneSt → LaneSt) : (s.modLane i g).lanes[i] = g s.lanes[i] := upd_same s.lanes i g
  refine ⟨?_, fun j hj => upd_ne _ _ _ _ hj, fun k hk => ?_, rfl⟩
  · have hkeeps : (f.typ == 1 || f.typ == 2) = false := by rw [beq_false_of_ne h1, beq_false_of_ne h2]; rfl
    refine (congrArg LaneSt.queue (hlane _)).trans ?_
    simp only [hkeeps, Bool.and_false, Bool.not_false, List.filter_true]
  · exact State.rd_wr_ne _ _ (by simpa using hk)

/-- The SEQ of the next frame of a triple. -/
def State.nextSeq (s : State) (typ src dst : Nat) : Nat := (s.takeSeq typ src dst).1

theorem State.sendOn_queues (s : State) (typ : Nat) (q : Path) (dst : Nat) (payload : Bytes)
    (hmay : s.maySend (uLane q) = true) (h1 : BitVec.ofNat 8 typ ≠ 1) (h2 : BitVec.ofNat 8 typ ≠ 2) :
    Queues (uLane q) (s.mkFrame typ q true dst (s.nextSeq typ ((s.posOn q).getD 0xFF) dst) payload)
      (s.takeSeq typ ((s.posOn q).getD 0xFF) dst).2 (s.sendOn typ q true dst payload) := by
  have heq : s.sendOn typ q true dst payload =
      (s.takeSeq typ ((s.posOn q).getD 0xFF) dst).2.enqueue (uLane q)
        (s.mkFrame typ q true dst (s.nextSeq typ ((s.posOn q).getD 0xFF) dst) payload) false 0 :=
    if_neg (by simp [hmay])
  rw [heq]
  exact State.enqueue_queues _ _ _ hmay h1 h2

/-- What the header of a frame is made from. -/
theorem mkFrame_congr {s t : State} (h : KeepsObjs [0xB00508] s t) (typ : Nat) (q : Path) (up : Bool) (dst seq : Nat)
    (payload : Bytes) : t.mkFrame typ q up dst seq payload = s.mkFrame typ q up dst seq payload ∧ t.posOn q = s.posOn q := by
  have hrd (k : Nat) (hk : k ≠ 0xB00508) : t.rd k = s.rd k := h k (by simpa using hk)
  have hbit (k i : Nat) (hk : k ≠ 0xB00508) : t.bitAt k i = s.bitAt k i := congrArg (bit · i) (hrd k hk)
  have hmanager : t.manager = s.manager := congrArg (· == 1) (hrd kRole (by decide))
  have hholder : t.holder = s.holder := hrd _ (by decide)
  have hpos : t.posOn q = s.posOn q := by
    unfold State.posOn
    rw [hmanager, hrd _ (by omega)]
  refine ⟨?_, hpos⟩
  unfold State.mkFrame State.leaseBit
  rw [hpos, hmanager, hholder, hbit _ _ (by decide), hbit _ _ (by decide), hbit _ _ (by decide)]

theorem lanePath_uLane (q : Path) : lanePath (uLane q) = q := Fin.ext (Nat.mul_div_right q.val (by decide))

/-- A frame in the queue as the next of its triple. -/
theorem queued_of_queue {s t : State} {typ : Nat} {q : Path} {dst : Nat} {payload : Bytes} (h : KeepsObjs [0xB00508] s t)
    (hqueue : t.lanes[uLane q].queue = s.lanes[uLane q].queue ++
      [⟨s.mkFrame typ q true dst (s.nextSeq typ ((s.posOn q).getD 0xFF) dst) payload, false, 0, false⟩]) :
    queued s t (uLane q) typ true dst payload = true := by
  have hframe (seq : Nat) := (mkFrame_congr h typ q true dst seq payload).1
  have hpos := (mkFrame_congr h typ q true dst 0 payload).2
  have hhead (seq : Nat) : (⟨BitVec.ofNat 8 typ, q, true, false, t.leaseBit typ q true, t.bitAt kFlags 3,
      BitVec.ofNat 8 ((t.posOn q).getD 0xFF), BitVec.ofNat 8 dst, BitVec.ofNat 16 seq, payload⟩ : Frame) =
      s.mkFrame typ q true dst seq payload := hframe seq
  unfold queued
  dsimp only
  rw [hqueue, lanePath_uLane, hhead, hpos]
  simp [State.nextSeq, State.takeSeq]

theorem Queues.frame_takeSeq {s t : State} {i : Lane} {f : Frame} {typ src dst : Nat}
    (h : Queues i f (s.takeSeq typ src dst).2 t) :
    t = { s with objs := t.objs, lanes := t.lanes, frames := { s.frames with txSeq := t.frames.txSeq } } := by
  have hframes : t.frames = (s.takeSeq typ src dst).2.frames := (congrArg State.frames h.frame :)
  have htx : t.frames = { s.frames with txSeq := t.frames.txSeq } := by
    rw [hframes]
    rfl
  exact h.frame.trans (congrArg (fun frames => { s with objs := t.objs, lanes := t.lanes, frames }) (hframes.symm.trans htx))

section
variable (s : State)

theorem State.sendEvents_none (h : s.manager = true ∨ s.collector.risen = 0 ∨ s.pathTo 0 = none) : s.sendEvents = s := by
  unfold State.sendEvents
  rcases h with h | h | h
  · simp [h]
  · simp [h]
  · split
    · rfl
    · rw [h]

/-- The payload of an EVENT frame. -/
def State.eventPayload (s : State) : Bytes :=
  natLe 16 s.collector.risen.toNat ++ (List.range 4).flatMap fun w => natLe 4 (s.rd (0xA00001 + w))

theorem State.eventPayload_eq : s.eventPayload = natLe 16 s.collector.risen.toNat ++
    (natLe 4 (s.rd 0xA00001) ++ natLe 4 (s.rd 0xA00002) ++ natLe 4 (s.rd 0xA00003) ++ natLe 4 (s.rd 0xA00004)) := by
  have hwords : List.range 4 = [0, 1, 2, 3] := rfl
  simp [State.eventPayload, hwords]

theorem State.sendEvents_sends (q : Path) (hmanager : s.manager = false) (hrisen : s.collector.risen ≠ 0)
    (hpath : s.pathTo 0 = some q) (hpos : s.posOn q ≠ none) (hmay : s.maySend (uLane q) = true) :
    s.sendEvents =
      { s.sendOn 0x0C q true 0 s.eventPayload with
        collector := { (s.sendOn 0x0C q true 0 s.eventPayload).collector with risen := 0 } } := by
  refine (if_neg (by simpa [hmanager] using hrisen)).trans ?_
  rw [hpath]
  exact if_neg (by simpa [hmay] using hpos)

end

/-! ### Frames received (spec/12 R402, spec/14 R475, spec/15 R483) -/

section
variable (s : State) (f : Frame)

/-- What a received frame leaves: the note of the path on which its sender has its lease, and the count. -/
structure Received (s t : State) : Prop where
  count : t.rd 0xB00509 = wrapInc 32 (s.rd 0xB00509)
  path : s.manager = true → f.up = true → f.lease = true → f.src.toNat < 32 →
    t.bitAt 0xB0200A f.src.toNat = (f.path == 1)
  objs : KeepsObjs [0xB0200A, 0xB00509] s t
  within : Within (foot [.jobs, .area 0xB]) s t
  takes : t.takesFrom f.path f.src.toNat = (s.heard f).takesFrom f.path f.src.toNat

theorem Within.eachSlot {F : Nat} {s a : State} {g : SlotSt → SlotSt} (h : Within F s a)
    (hF : foot [.jobs] ||| F = F := by decide) : Within F s (a.modSlots g) :=
  h.via hF fun h => h.set

theorem Within.setRelay {F : Nat} {s a : State} {relay : List (Nat × Nat × Nat)} (h : Within F s a)
    (hF : foot [.relay] ||| F = F := by decide) : Within F s { a with collector := { a.collector with relay } } :=
  h.via hF fun h => h.set

theorem Within.heard {F : Nat} {s a : State} (h : Within F s a) (hF : foot [.jobs, .area 0xB] ||| F = F := by decide) :
    Within F s (a.heard f) :=
  h.via hF fun h => .ite (h.wrIn 0xB).eachSlot h

theorem State.heard_rd (k : Nat) (hk : k ≠ 0xB0200A) : (s.heard f).rd k = s.rd k := by
  unfold State.heard
  split
  · exact State.rd_wr_ne _ _ hk
  · rfl

theorem State.bitAt_modSlots (g : SlotSt → SlotSt) (k i : Nat) : (s.modSlots g).bitAt k i = s.bitAt k i := rfl

theorem State.heard_path (hmanager : s.manager = true) (hup : f.up = true) (hlease : f.lease = true)
    (hsrc : f.src.toNat < 32) : (s.heard f).bitAt 0xB0200A f.src.toNat = (f.path == 1) := by
  unfold State.heard
  rw [if_pos (by simp [hmanager, hup, hlease, hsrc]), State.bitAt_modSlots]
  exact (State.bitAt_wrBit ..).trans (if_pos ⟨rfl, rfl⟩)

/-- A frame counted or not, its sender is heard the same. -/
theorem State.heard_count_rd (k : Nat) (hk : k ≠ 0xB00509) : ((s.count 0xB00509).heard f).rd k = (s.heard f).rd k := by
  have hcount (j : Nat) (hj : j ≠ 0xB00509) : (s.count 0xB00509).rd j = s.rd j := State.rd_wr_ne _ _ hj
  have hmanager : (s.count 0xB00509).manager = s.manager := congrArg (· == 1) (hcount kRole (by decide))
  unfold State.heard
  rw [hmanager]
  split
  · show ((s.count 0xB00509).wrBit 0xB0200A f.src.toNat (f.path == 1)).rd k = (s.wrBit 0xB0200A f.src.toNat (f.path == 1)).rd k
    rw [State.rd_wrBit, State.rd_wrBit, hcount k hk, hcount _ (by decide)]
  · exact hcount k hk

theorem State.received_spec : Received f s (s.received f) := by
  have hrd := s.heard_count_rd f
  have hbit (k i : Nat) (hk : k ≠ 0xB00509) : (s.received f).bitAt k i = (s.heard f).bitAt k i :=
    congrArg (bit · i) (hrd k hk)
  exact
    { count := by
        unfold State.received
        rw [State.heard_rd _ _ _ (by decide), State.rd_count, if_pos rfl]
      path := fun hmanager hup hlease hsrc => (hbit _ _ (by decide)).trans (s.heard_path f hmanager hup hlease hsrc)
      objs := fun k hk => by
        simp only [List.mem_cons, List.not_mem_nil, or_false, not_or] at hk
        obtain ⟨hpath, hcount⟩ := hk
        exact (hrd k hcount).trans (s.heard_rd f k hpath)
      within := ((Within.refl _ s).wrIn 0xB (k := 0xB00509) (v := wrapInc 32 (s.rd 0xB00509) 1)).heard f
      takes := by
        have hmanager : (s.received f).manager = (s.heard f).manager := congrArg (· == 1) (hrd kRole (by decide))
        have hholder : (s.received f).holder = (s.heard f).holder := hrd _ (by decide)
        unfold State.takesFrom State.pathTo State.pselLow
        rw [hmanager, hholder, hbit _ _ (by decide), hbit _ _ (by decide)] }

end

section
variable (s : State) (f : Frame)

theorem State.eventFrame_kept (hmanager : s.manager = true) (hsrc : f.src.toNat < 32)
    (htakes : s.takesFrom f.path f.src.toNat = true) : s.eventFrame f =
      { s.wrBit 0xA0040A f.src.toNat true with
        collector := { s.collector with
          relay := s.collector.relay ++
            (bitsOf 128 (leAt f.payload 0 16)).map fun n => (f.src.toNat, n, leAt f.payload 16 16) } } := by
  unfold State.eventFrame
  rw [if_neg (by simp [hmanager]), if_neg (by simp [htakes]), Nat.mod_eq_of_lt hsrc]
  rfl

theorem State.eventFrame_ignored (hmanager : s.manager = true) (htakes : s.takesFrom f.path f.src.toNat = false) :
    s.eventFrame f = s.ignored := by
  unfold State.eventFrame
  rw [if_neg (by simp [hmanager]), if_pos (by simp [htakes])]

theorem State.frameRow_up (act : State → State) (hup : s.laneUp (inLane f) = true) :
    s.frameRow f act = act (s.received f) := if_pos hup

end

theorem Received.manager {f : Frame} {s t : State} (h : Received f s t) : t.manager = s.manager :=
  congrArg (· == 1) (h.objs kRole (by decide))

theorem Received.dev {f : Frame} {s t : State} (h : Received f s t) : t.dev = s.dev := h.objs kDevState (by decide)

/-- A received frame that is ignored. -/
theorem Received.ignored {f : Frame} {s t : State} (h : Received f s t) :
    t.ignored.rd 0xB00509 = wrapInc 32 (s.rd 0xB00509) ∧ t.ignored.rd 0xB0200B = wrapInc 32 (s.rd 0xB0200B) ∧
      (s.manager = true → f.up = true → f.lease = true → f.src.toNat < 32 →
        t.ignored.bitAt 0xB0200A f.src.toNat = (f.path == 1)) ∧
      KeepsObjs [0xB0200A, 0xB0200B, 0xB00509] s t.ignored ∧
      t.ignored = { s with objs := t.ignored.objs, jobs := t.ignored.jobs } := by
  have hrd (k : Nat) (hk : k ≠ 0xB0200B) : t.ignored.rd k = t.rd k := State.rd_wr_ne _ _ hk
  refine ⟨(hrd _ (by decide)).trans h.count, ?_, fun hmanager hup hlease hsrc => ?_, fun k hk => ?_, h.within.ignored.frame⟩
  · rw [State.ignored, State.rd_count, if_pos rfl, h.objs _ (by decide)]
  · exact (congrArg (bit · f.src.toNat) (hrd 0xB0200A (by decide))).trans (h.path hmanager hup hlease hsrc)
  · simp only [List.mem_cons, List.not_mem_nil, or_false, not_or] at hk
    obtain ⟨hpath, hignored, hcount⟩ := hk
    exact (hrd k hignored).trans (h.objs k (by simp [hpath, hcount]))

/-- A received frame that leaves its safe cause pending. -/
theorem Received.pending {f : Frame} {s a : State} (h : Received f s a) :
    let t := if a.bitAt kFlags 1 then a
      else { a.wrBit kFlags 1 true with power := { a.power with pendingCause := 5 } }
    t.rd 0xB00509 = wrapInc 32 (s.rd 0xB00509) ∧ t.bitAt kFlags 1 = true ∧
      t.power = { s.power with pendingCause := (if s.bitAt kFlags 1 then s.power.pendingCause else 5) } ∧
      (s.manager = true → f.up = true → f.lease = true → f.src.toNat < 32 → t.bitAt 0xB0200A f.src.toNat = (f.path == 1)) ∧
      KeepsObjs [kFlags, 0xB0200A, 0xB00509] s t ∧ t = { s with objs := t.objs, power := t.power, jobs := t.jobs } := by
  have hflags : a.bitAt kFlags 1 = s.bitAt kFlags 1 := congrArg (bit · 1) (h.objs kFlags (by decide))
  have hpower := h.within.power
  have hkeeps (k : Nat) (hk : k ∉ [kFlags, 0xB0200A, 0xB00509]) : a.rd k = s.rd k :=
    h.objs k fun hmem => hk (List.mem_cons_of_mem _ hmem)
  dsimp only
  by_cases hflag : s.bitAt kFlags 1 = true
  · rw [if_pos (hflags.trans hflag), if_pos hflag]
    exact ⟨h.count, hflags.trans hflag, hpower, h.path, hkeeps,
      (h.within.mono (F := foot [.jobs, .power, .area 0xB]) (by decide)).frame⟩
  · rw [if_neg (by rwa [hflags]), if_neg hflag]
    have hrd (k : Nat) (hk : k ≠ kFlags) : (a.wrBit kFlags 1 true).rd k = a.rd k := State.rd_wr_ne _ _ hk
    have hwithin := ((h.within.mono (F := foot [.jobs, .power, .area 1, .area 0xB]) (by decide)).wrIn 1 (k := kFlags)
      (v := setBit (a.rd kFlags) 1 true)).setPower (power := { a.power with pendingCause := 5 })
    exact ⟨(hrd _ (by decide)).trans h.count, (State.bitAt_wrBit ..).trans (if_pos ⟨rfl, rfl⟩),
      by rw [hpower],
      fun hm hu hl hs => (congrArg (bit · f.src.toNat) (hrd 0xB0200A (by decide))).trans (h.path hm hu hl hs),
      fun k hk => (hrd k fun e => hk (by simp [e])).trans (hkeeps k hk), hwithin.frame⟩

/-- Settles O21: the load of object 22, the queue of the U lane, and what a received frame does after it is counted. -/
theorem eventsAndSafeFramesTravel : Obligations.EventsAndSafeFramesTravel := by
  intro s
  refine ⟨?_, ?_, ?_, ?_, ?_, ?_, ?_, ?_, ?_, ?_, ?_⟩
  · intro u n hspeaks hholder hfree hvalid hnone hown
    refine ⟨_, rfl, ?_⟩
    rw [hholder, s.loadEvent_own u n hspeaks hholder hfree hvalid hnone hown]
    obtain ⟨hevents, hmsg, hpending, hcontroller, hothers, hotherEvents, hframe⟩ :=
      s.putEvent_puts u (s.eventBytes n (s.rd kPosition) false s.stickyMap.toNat) (s.eventBytes_length ..) hvalid
    exact ⟨hevents, hmsg, hpending, hcontroller, hothers, hotherEvents, hframe⟩
  · intro u x xs hspeaks hholder hfree hvalid hnone hown hrelay
    refine ⟨_, rfl, ?_⟩
    rw [hholder, s.loadEvent_relays u x xs hspeaks hholder hfree hvalid hnone hown hrelay]
    obtain ⟨hevents, hmsg, hpending, hcontroller, hothers, hotherEvents, hframe⟩ :=
      State.putEvent_puts { s with collector := { s.collector with relay := xs } } u
        (s.eventBytes x.2.1 x.1 true x.2.2) (s.eventBytes_length ..) hvalid
    exact ⟨by rw [hframe], hevents, hmsg, hpending, hcontroller, hothers, hotherEvents, by rw [hframe]⟩
  · intro u hholder h
    refine ⟨_, rfl, ?_⟩
    rw [hholder]
    exact s.loadEvent_idle u hholder h
  · intro q hmanager hrisen hpath hpos hmay
    refine ⟨_, rfl, ?_⟩
    rw [s.sendEvents_sends q hmanager hrisen hpath hpos hmay, ← s.eventPayload_eq]
    have h := s.sendOn_queues 0x0C q 0 s.eventPayload hmay (by decide) (by decide)
    have hframe := h.frame_takeSeq
    obtain ⟨hqueue, hothers, hobjs, -⟩ := h
    generalize s.sendOn 0x0C q true 0 s.eventPayload = a at *
    refine ⟨rfl, ?_, hothers, hobjs, ?_⟩
    · exact queued_of_queue (t := { a with collector := { a.collector with risen := 0 } }) hobjs hqueue
    · exact congrArg (fun b : State => { b with collector := { b.collector with risen := 0 } }) hframe
  · intro h
    exact ⟨_, rfl, s.sendEvents_none h⟩
  · intro f hup hmanager hsrc htakes
    refine ⟨_, rfl, ?_⟩
    have h := s.received_spec f
    rw [s.frameRow_up f _ hup]
    generalize s.received f = a at h
    dsimp only
    rw [a.eventFrame_kept f (h.manager.trans hmanager) hsrc (h.takes.trans htakes)]
    have hrd (k : Nat) (hk : k ≠ 0xA0040A) : (a.wrBit 0xA0040A f.src.toNat true).rd k = a.rd k := State.rd_wr_ne _ _ hk
    have hcollector : a.collector = s.collector := (congrArg State.collector h.within.frame :)
    have hnoted : (a.wrBit 0xA0040A f.src.toNat true).bitAt 0xA0040A f.src.toNat = true :=
      (State.bitAt_wrBit ..).trans (if_pos ⟨rfl, rfl⟩)
    refine ⟨(hrd _ (by decide)).trans h.count, hnoted, ?_, ?_, ?_, ?_⟩
    · rw [← hcollector]
    · exact fun hm hu hl hs => (congrArg (bit · f.src.toNat) (hrd 0xB0200A (by decide))).trans (h.path hm hu hl hs)
    · intro k hk
      simp only [List.mem_cons, List.not_mem_nil, or_false, not_or] at hk
      obtain ⟨hworker, hpath, hcount⟩ := hk
      exact (hrd k hworker).trans (h.objs k (by simp [hpath, hcount]))
    · have hwide := h.within.mono (F := foot [.jobs, .relay, .area 0xA, .area 0xB]) (by decide)
      exact ((hwide.wrIn 0xA (by simp [InArea, Ordinary])).setRelay).frame
  · intro f hup hmanager htakes
    refine ⟨_, rfl, ?_⟩
    have h := s.received_spec f
    rw [s.frameRow_up f _ hup]
    dsimp only
    rw [State.eventFrame_ignored _ f (h.manager.trans hmanager) (h.takes.trans htakes)]
    exact h.ignored
  · intro f hup htakes hdev
    refine ⟨_, rfl, ?_⟩
    have h := s.received_spec f
    rw [s.frameRow_up f _ hup]
    generalize s.received f = a at h
    dsimp only
    rw [State.safeFrame, if_pos (h.takes.trans htakes)]
    obtain ⟨hwithin, hd, hcause, hsec, hns, hcells⟩ := a.safeCause_entersSafe 5 (by rwa [h.dev])
    have hsame := h.within.cells (by decide)
    have hnet : a.net = s.net := h.within.net
    refine ⟨(hwithin.objs _ (by decide)).trans h.count, hd, hcause, by rw [hsec, hnet], by rw [hns, State.ns, State.ns, hnet],
      fun c hfitted hrun => hcells c ((hsame.fitted c).trans hfitted) (by rwa [hsame.2 c]),
      fun l hl => hwithin.gates (by decide) l (h.within.gates (by decide) l hl),
      hwithin.tick.trans h.within.tick, fun hm hu hl hs => ?_, ?_⟩
    · exact (congrArg (bit · f.src.toNat) (hwithin.objs 0xB0200A (by decide))).trans (h.path hm hu hl hs)
    · exact ((h.within.mono (F := moving ||| foot [.jobs, .modeDone, .area 0xB]) (by decide)).trans (hwithin.mono (by decide))).frame
  · intro f hup htakes hdev
    refine ⟨_, rfl, ?_⟩
    have h := s.received_spec f
    rw [s.frameRow_up f _ hup]
    generalize s.received f = a at h
    dsimp only
    rw [State.safeFrame, if_pos (h.takes.trans htakes), a.safeCause_pending 5 (by rwa [h.dev])]
    exact h.pending
  · intro f hup htakes hdev
    refine ⟨_, rfl, ?_⟩
    have h := s.received_spec f
    rw [s.frameRow_up f _ hup]
    dsimp only
    rw [State.safeFrame, if_pos (h.takes.trans htakes), State.safeCause_stays _ 5 (by rwa [h.dev])]
    exact ⟨h.count, h.path, h.objs, h.within.frame⟩
  · intro f hup htakes
    refine ⟨_, rfl, ?_⟩
    have h := s.received_spec f
    rw [s.frameRow_up f _ hup]
    dsimp only
    rw [State.safeFrame, if_neg (by simp [h.takes, htakes])]
    exact h.ignored

end Sys2Proof.Machine
end

section
/-! ABORT. -/

namespace Sys2Proof.Machine
set_option Elab.async false

variable {F : Nat} {s a t : State}

/-! ### A write of an object of area 1 -/

/-- A write by a host that a Supervisor serves, of an object of area 1 that every state but BOOT accepts. -/
theorem State.writeNat_core (s : State) {idx sub n v : Nat} (e : Sub) (hrow : rowFor idx sub = (0, some e))
    (hone : accessIndices idx = [idx]) (harea : (idx * 256 + sub) / 2 ^ 20 = 1) (hwritable : e.writable = true)
    (hanywhere : managerWritten idx sub = false) (hlength : e.lengthOk idx n = true) (hwr : e.wr = .a)
    (hbytes : (natLe n v).length = n) (hserved : s.power.supervisor = true) (hdev : s.dev ≠ 0)
    (hok : s.valueOk e (idx * 256 + sub) (e.taken (natLe n v)) (natLe n v) = true) :
    s.writeNat idx sub n v = (s.writeCore (idx * 256 + sub) (e.taken (natLe n v))).answered 0 [] := by
  have happly : s.applyWrite (idx * 256 + sub) (e.taken (natLe n v)) (natLe n v) =
      (0, s.writeCore (idx * 256 + sub) (e.taken (natLe n v))) := by
    simp only [State.applyWrite, harea]
  have hpre : s.writePre true idx sub (natLe n v).length = 0 := by
    simp [State.writePre, hrow, hdev, hwritable, hanywhere, hbytes, hlength, hwr, Wr.allows]
  have hstatus : s.writeStatus true idx sub (natLe n v) = 0 := by
    simp [State.writeStatus, hpre, hrow, hone, hok]
  have hall : s.writeAll idx sub (natLe n v) = (0, s.writeCore (idx * 256 + sub) (e.taken (natLe n v))) := by
    simp [State.writeAll, hrow, hone, happly]
  simp [State.writeNat, State.write, State.hostWrite, hserved, hstatus, hall]

/-- The map row of ABORT. -/
def abortRow : Sub := bm .wo .a 0 0 2 0x7F 0

theorem rowFor_abort : rowFor 0x1002 0 = (0, some abortRow) := by decide

theorem State.writeNat_abort (s : State) (mask : Nat) (htaken : abortRow.taken (natLe 2 mask) = mask)
    (hserved : s.power.supervisor = true) (hdev : s.dev ≠ 0) :
    s.writeNat 0x1002 0 2 mask = (s.abort mask).answered 0 [] := by
  have hok : s.valueOk abortRow 0x100200 (abortRow.taken (natLe 2 mask)) (natLe 2 mask) = true := rfl
  rw [s.writeNat_core abortRow rowFor_abort (by decide) (by decide) (by decide) (by decide) (by decide) (by decide) rfl
    hserved hdev hok, htaken]
  rfl

/-! ### What ABORT reports (spec/04 R116 to R119) -/

/-- Whether a MOLT step that ends aborted is pending. -/
def State.moltEnding (s : State) : Bool := anyOf s.string.molt fun x => match x with
  | some m => m.abort.isSome
  | none => false

/-- ABORT of function b, which has ended at an instant with an outcome, as `State.abort` reports it and the write is answered. -/
def State.abortTold (s : State) (instant b outcome : Nat) : State :=
  State.answered
    (((s.freeVal.2.wrAll
        [(0x100301, if b = 5 ∧ s.moltEnding = true then 32 else 0), (0x100302, 2 ^ b), (0x100303, outcome),
          (0x100304, if outcome = 0 then s.freeVal.1 % 100001 else 0)]).count 0x100305).modPower
      fun p => { p with abortAt := instant }) 0 []

theorem bitsOf_single (b : Fin 7) : bitsOf 7 (2 ^ b.val % 128) = [b.val] := by
  revert b
  decide

theorem bit_single (b : Fin 7) : bit (2 ^ b.val % 128) 5 = Decidable.decide (b.val = 5) := by
  revert b
  decide

theorem State.abort_single (s : State) (b : Fin 7) :
    (s.abort (2 ^ b.val)).answered 0 [] =
      (s.abortOne b).2.portFreed.abortTold s.tick b (min 2 (s.abortOne b).1) := by
  have hmod : 2 ^ b.val % 128 = 2 ^ b.val := by
    revert b
    decide
  unfold State.abort State.abortTold State.moltEnding
  dsimp only
  rw [bitsOf_single, bit_single, hmod]
  simp only [List.foldl_cons, List.foldl_nil, Bool.and_eq_true, decide_eq_true_eq]
  rfl

theorem Within.answered {status data} (h : Within F s a) (hF : foot [.status] ||| F = F := by decide) :
    Within F s (a.answered status data) :=
  h.via hF fun h => h.set

/-- ABORT's reports after a function has ended. -/
structure AbortTold (instant b outcome : Nat) (s t : State) : Prop where
  status : t.lastStatus = 0
  pending : t.rd 0x100301 = if b = 5 ∧ s.moltEnding = true then 32 else 0
  mask : t.rd 0x100302 = 2 ^ b
  result : t.rd 0x100303 = outcome
  duration : t.rd 0x100304 ≤ 100000
  atOnce : outcome ≠ 0 → t.rd 0x100304 = 0
  count : t.rd 0x100305 = wrapInc 32 (s.rd 0x100305)
  since : t.power.abortAt = instant
  objs : KeepsObjs [0x100301, 0x100302, 0x100303, 0x100304, 0x100305] s t
  within : Within (foot [.free, .power, .status, .area 1]) s t

theorem State.abortTold_spec (s : State) (instant b outcome : Nat) :
    AbortTold instant b outcome s (s.abortTold instant b outcome) := by
  have hrd (k : Nat) : (s.abortTold instant b outcome).rd k =
      ((s.freeVal.2.wrAll
        [(0x100301, if b = 5 ∧ s.moltEnding = true then 32 else 0), (0x100302, 2 ^ b), (0x100303, outcome),
          (0x100304, if outcome = 0 then s.freeVal.1 % 100001 else 0)]).count 0x100305).rd k := rfl
  have hfree (k : Nat) : s.freeVal.2.rd k = s.rd k := rfl
  have hduration : (s.abortTold instant b outcome).rd 0x100304 = if outcome = 0 then s.freeVal.1 % 100001 else 0 := by
    simp [hrd, State.wrAll]
  refine ⟨rfl, ?_, ?_, ?_, ?_, fun h => ?_, ?_, rfl, fun k hk => ?_, ?_⟩
  · simp [hrd, State.wrAll]
  · simp [hrd, State.wrAll]
  · simp [hrd, State.wrAll]
  · rw [hduration]
    split <;> omega
  · rw [hduration, if_neg h]
  · simp [hrd, State.wrAll, hfree]
  · simp only [List.mem_cons, List.not_mem_nil, or_false, not_or] at hk
    obtain ⟨h1, h2, h3, h4, h5⟩ := hk
    simp [hrd, State.wrAll, hfree, h1, h2, h3, h4, h5]
  · unfold State.abortTold
    exact .answered (.setPower (.wrIn 1 (.wrAll 1 (.freeVal (.refl _ s)))))

/-! ### The NV port left as it is -/

/-- No write that waits may start, and no staged image ends. -/
def PortIdle (s : State) : Prop :=
  (s.jobs.waiting = [] ∨ s.portTaken 2 = true) ∧ (s.jobs.install.staged = none ∨ s.jobs.waiting.any NvJob.isFw = true)

theorem State.portServe_idle (h : s.jobs.waiting = [] ∨ s.portTaken 2 = true) : s.portServe = s := by
  unfold State.portServe
  split
  · rfl
  next hfree =>
    have hnone := h.resolve_right hfree
    simp only [hnone, List.filter_nil, List.append_nil, List.foldl_nil]
    unfold State.modJobs
    rw [← hnone]

theorem PortIdle.portFreed (h : PortIdle s) : s.portFreed = s := by
  obtain ⟨hwaiting, hstaged⟩ := h
  unfold State.portFreed
  rw [State.portServe_idle hwaiting]
  dsimp only
  split
  · rfl
  next head hhead =>
    rw [if_pos (hstaged.resolve_left (by rw [hhead]; simp))]

/-- What the port's idleness hangs on. -/
theorem PortIdle.of_same (h : PortIdle s) (hwaiting : t.jobs.waiting = s.jobs.waiting)
    (hstore : t.jobs.store = s.jobs.store) (hinstall : t.jobs.install = s.jobs.install)
    (hlockouts : t.thermal.lockouts = s.thermal.lockouts) : PortIdle t := by
  unfold PortIdle State.portTaken at h ⊢
  rwa [hwaiting, hstore, hinstall, hlockouts]

theorem Within.jobs (h : Within F s t) (hF : F.testBit Part.jobs.ix = false := by decide) : t.jobs = s.jobs := by
  have := congrArg State.jobs h.frame
  simpa [State.patch, pick, hF] using this

theorem Within.thermal (h : Within F s t) (hF : F.testBit Part.thermal.ix = false := by decide) : t.thermal = s.thermal := by
  have := congrArg State.thermal h.frame
  simpa [State.patch, pick, hF] using this

theorem PortIdle.within (h : PortIdle s) (hwithin : Within F s t) (hjobs : F.testBit Part.jobs.ix = false := by decide)
    (hthermal : F.testBit Part.thermal.ix = false := by decide) : PortIdle t :=
  h.of_same (congrArg JobSt.waiting (hwithin.jobs hjobs)) (congrArg JobSt.store (hwithin.jobs hjobs))
    (congrArg JobSt.install (hwithin.jobs hjobs)) (congrArg ThermalSt.lockouts (hwithin.thermal hthermal))

/-- A function that has nothing to stop, or nothing that it still stops. -/
theorem State.abort_idle (s : State) (b : Fin 7) (outcome : Nat) (hport : PortIdle s) (hone : s.abortOne b = (outcome, s))
    (hle : outcome ≤ 2) : AbortTold s.tick b outcome s ((s.abort (2 ^ b.val)).answered 0 []) := by
  rw [s.abort_single b, hone, hport.portFreed, min_eq_right hle]
  exact s.abortTold_spec s.tick b outcome

/-- A function that stops, before the port is freed. -/
theorem State.abort_ends (s : State) (b : Fin 7) {c : State} (hone : s.abortOne b = (0, c)) :
    AbortTold s.tick b 0 c.portFreed ((s.abort (2 ^ b.val)).answered 0 []) := by
  rw [s.abort_single b, hone]
  exact c.portFreed.abortTold_spec s.tick b 0

/-- A function that stops and leaves the port idle. -/
theorem State.abort_stops (s : State) (b : Fin 7) {c : State} (hport : PortIdle c) (hone : s.abortOne b = (0, c)) :
    AbortTold s.tick b 0 c ((s.abort (2 ^ b.val)).answered 0 []) :=
  hport.portFreed ▸ s.abort_ends b hone

/-! ### Each function that stops -/

theorem Within.capture (h : Within F s t) (hF : F.testBit Part.capture.ix = false := by decide) : t.capture = s.capture := by
  have := congrArg State.capture h.frame
  simpa [State.patch, pick, hF] using this

theorem State.closeRecord_capture (s : State) (aborted : Bool) :
    (s.closeRecord aborted).capture.record = none ∧ (s.closeRecord aborted).capture.ring = s.capture.ring := by
  unfold State.closeRecord
  split
  next hnone => exact ⟨hnone, rfl⟩
  · extract_lets dead data d valid body rearm s1 s2
    have h : Within (raising ||| foot [.area 0xD]) s1
        (s2.wrAll [(0xD05001, dead), (0xD05002, max dead (s2.rd 0xD05002)), (0xD05003, min dead (s2.rd 0xD05003))]) :=
      .wrAll 0xD (.raise (.wrIn 0xD (.wrIn 0xD (.refl _ s1))))
    rw [h.capture]
    exact ⟨rfl, rfl⟩

/-! #### Answers leave the tags and the block transactions -/

/-- The tags and the block transactions as they were. -/
def SameTags (s t : State) : Prop := t.wdp.tags = s.wdp.tags ∧ t.wdp.blocks = s.wdp.blocks

theorem SameTags.refl (s : State) : SameTags s s := ⟨rfl, rfl⟩

theorem SameTags.trans (h : SameTags s a) (h' : SameTags a t) : SameTags s t :=
  ⟨h'.1.trans h.1, h'.2.trans h.2⟩

theorem Within.wdp (h : Within F s t) (hF : F.testBit Part.wdp.ix = false := by decide) : t.wdp = s.wdp := by
  have := congrArg State.wdp h.frame
  simpa [State.patch, pick, hF] using this

theorem Within.sameTags (h : Within F s t) (hF : F.testBit Part.wdp.ix = false := by decide) : SameTags s t :=
  ⟨congrArg WdpSt.tags (h.wdp hF), congrArg WdpSt.blocks (h.wdp hF)⟩

theorem State.loadEvent_sameTags (s : State) (u : Fin 2) : SameTags s (s.loadEvent u) := by
  unfold State.loadEvent
  split
  · exact .refl s
  · dsimp only
    split
    · exact .refl s
    · exact .refl s
    · exact .refl s
    · exact .refl s

theorem State.loadNext_sameTags (u : Fin 2) (n : Nat) (s : State) : SameTags s (State.loadNext u n s) := by
  induction n generalizing s with
  | zero => exact .refl s
  | succ n ih =>
    unfold State.loadNext
    split
    · exact .refl s
    · split
      · exact .refl s
      · exact SameTags.trans (.refl s) (ih _)

theorem State.loadOut_sameTags (s : State) (u : Fin 2) : SameTags s (s.loadOut u) :=
  (State.loadNext_sameTags u _ s).trans (State.loadEvent_sameTags _ u)

theorem State.queueOut_sameTags (s : State) (u : Fin 2) (node tg : Nat) (data : Bytes) :
    SameTags s (s.queueOut u node tg data) := by
  have hqueue (f : WdpSt → WdpSt) (htags : (f s.wdp).tags = s.wdp.tags) (hblocks : (f s.wdp).blocks = s.wdp.blocks) :
      SameTags s (s.modWdp f) := ⟨htags, hblocks⟩
  exact (hqueue _ rfl rfl).trans (State.loadOut_sameTags _ u)

theorem State.reply_sameTags (s : State) (o : Origin) (tg : Nat) (data : Bytes) : SameTags s (s.reply o tg data) := by
  unfold State.reply
  split
  · exact s.queueOut_sameTags _ _ _ _
  · exact ((Within.refl sending s).sendReliable).sameTags

theorem State.tagDone_tags (s : State) (tg : Nat) (resp : Bytes) :
    (s.tagDone tg resp).wdp.tags =
        s.wdp.tags.set (tagOf tg) ⟨genOf tg, 2, resp, s.wdp.tags[tagOf tg].origin⟩ ∧
      (s.tagDone tg resp).wdp.blocks = s.wdp.blocks :=
  State.reply_sameTags _ _ _ _

/-! #### Block transactions -/

theorem State.dropBlock_wdp (s : State) (b : BlockSt) : (s.dropBlock b).wdp.tags = s.wdp.tags ∧
    (s.dropBlock b).wdp.blocks = s.wdp.blocks.filter fun x => x.tagGen != b.tagGen := by
  unfold State.dropBlock
  dsimp only
  split
  · exact (Within.refl installing _).fwFail.sameTags
  · exact ⟨rfl, rfl⟩

theorem State.endBlock_blocks (s : State) (b : BlockSt) (status : Nat) :
    (s.endBlock b status).wdp.blocks = s.wdp.blocks.filter fun x => x.tagGen != b.tagGen :=
  ((s.dropBlock b).tagDone_tags b.tagGen _).2.trans (s.dropBlock_wdp b).2

/-- The transaction of a block has ended with STATUS 11. -/
def BlockEnded (b : BlockSt) (t : State) : Prop :=
  t.wdp.tags[tagOf b.tagGen].state = 2 ∧ byteAt t.wdp.tags[tagOf b.tagGen].resp 2 = 11

theorem BlockSt.response_aborted (b : BlockSt) : byteAt (b.response 11 []) 2 = 11 := by
  simp [BlockSt.response, telBytes, natLe, byteAt]

theorem State.endBlock_tags (s : State) (b : BlockSt) (i : Fin 64) :
    (s.endBlock b 11).wdp.tags[i] = s.wdp.tags[i] ∨
      ((s.endBlock b 11).wdp.tags[i].state = 2 ∧ byteAt (s.endBlock b 11).wdp.tags[i].resp 2 = 11) := by
  unfold State.endBlock
  rw [((s.dropBlock b).tagDone_tags b.tagGen _).1]
  by_cases hi : tagOf b.tagGen = i
  · subst hi
    exact .inr (by simp [b.response_aborted])
  · have hne : (tagOf b.tagGen : Nat) ≠ i := fun h => hi (Fin.ext h)
    left
    simp [hne, (s.dropBlock_wdp b).1]

theorem State.endBlock_ended (s : State) (b : BlockSt) : BlockEnded b (s.endBlock b 11) := by
  unfold BlockEnded State.endBlock
  rw [((s.dropBlock b).tagDone_tags b.tagGen _).1]
  simp [b.response_aborted]

theorem BlockEnded.endBlock {b' : BlockSt} (h : BlockEnded b' s) (b : BlockSt) : BlockEnded b' (s.endBlock b 11) := by
  rcases s.endBlock_tags b (tagOf b'.tagGen) with heq | hended
  · unfold BlockEnded
    rwa [heq]
  · exact hended

theorem endBlocks_ended (l : List BlockSt) (s : State) (b : BlockSt) (h : b ∈ l ∨ BlockEnded b s) :
    BlockEnded b (l.foldl (fun a b => a.endBlock b 11) s) := by
  induction l generalizing s with
  | nil => exact h.resolve_left (by simp)
  | cons x l ih =>
    refine ih (s.endBlock x 11) ?_
    rcases h with hmem | hended
    · rcases List.mem_cons.1 hmem with rfl | hmem
      · exact .inr (s.endBlock_ended b)
      · exact .inl hmem
    · exact .inr (hended.endBlock x)

theorem endBlocks_blocks (l : List BlockSt) (s : State) (x : BlockSt)
    (h : x ∈ (l.foldl (fun a b => a.endBlock b 11) s).wdp.blocks) : x ∈ s.wdp.blocks ∧ x ∉ l := by
  induction l generalizing s with
  | nil => exact ⟨h, by simp⟩
  | cons b l ih =>
    obtain ⟨hmem, hnot⟩ := ih (s.endBlock b 11) h
    rw [s.endBlock_blocks b 11, List.mem_filter] at hmem
    refine ⟨hmem.1, fun hin => ?_⟩
    rcases List.mem_cons.1 hin with rfl | hin
    · simp at hmem
    · exact hnot hin

theorem State.abortBlocks_blocks (s : State) : s.abortBlocks.wdp.blocks = [] :=
  List.eq_nil_iff_forall_not_mem.2 fun x hx => (endBlocks_blocks _ s x hx).2 (endBlocks_blocks _ s x hx).1

/-! #### The port stays idle -/

theorem State.fwFail_jobs (s : State) (result : Nat) : (s.fwFail result).jobs =
    { s.jobs with
      waiting := s.jobs.waiting.filter fun j => !j.isFw
      install := { s.jobs.install with staged := none, waitAt := none } } := rfl

theorem PortIdle.fwFail (h : PortIdle s) (result : Nat) : PortIdle (s.fwFail result) := by
  obtain ⟨hwaiting, -⟩ := h
  refine ⟨?_, .inl rfl⟩
  rcases hwaiting with hnone | htaken
  · left
    rw [State.fwFail_jobs, hnone]
    rfl
  · right
    have hthermal := ((Within.refl installing s).fwFail (result := result)).thermal
    simpa [State.portTaken, State.fwFail_jobs, hthermal] using htaken

theorem PortIdle.endBlock (h : PortIdle s) (b : BlockSt) (status : Nat) : PortIdle (s.endBlock b status) := by
  have hdrop : PortIdle (s.dropBlock b) := by
    unfold State.dropBlock
    dsimp only
    split
    · exact PortIdle.fwFail (s := s.modWdp _) h 8
    · exact h
  exact hdrop.within ((Within.refl answering _).tagDone)

theorem PortIdle.abortBlocks (h : PortIdle s) : PortIdle s.abortBlocks := by
  unfold State.abortBlocks
  generalize s.wdp.blocks = l
  induction l generalizing s with
  | nil => exact h
  | cons b l ih => exact ih (h.endBlock b 11)

/-! #### Maintenance activities -/

theorem State.slotEnds_jobs (s : State) (n : Fin 4) (outcome v1 v2 v3 : Nat) (hrun : s.jobs.slots[n].isSome = true) :
    (s.slotEnds n outcome v1 v2 v3).jobs = { s.jobs with slots := s.jobs.slots.set n none } := by
  unfold State.slotEnds
  split
  next hnone => simp [hnone] at hrun
  · extract_lets k res jobs s1 train q
    have h1 : s1.jobs = { s.jobs with slots := s.jobs.slots.set n none } :=
      (Within.wrAll (F := foot [.area 0xE]) 0xE (.refl _ _)).jobs
    have htrain {b i} (h : Within (gating ||| laning) s1 b) : Within (gating ||| laning) s1 (train b i) := .ite h.setLane h
    refine (Within.jobs (F := gating ||| laning) (s := s1) ?_).trans h1
    exact .ite (htrain (htrain (.refl _ s1))) (.ite (.foldl (.refl _ s1) fun _ _ h => h.applyCell) (.refl _ s1))

theorem State.maintAbort_jobs (s : State) (n : Fin 4) :
    (s.maintAbort n).jobs = { s.jobs with slots := s.jobs.slots.set n none } := by
  have hends {a : State} {outcome v1 v2 v3} (h : a.jobs = s.jobs) (hrun : s.jobs.slots[n].isSome = true) :
      (a.slotEnds n outcome v1 v2 v3).jobs = { s.jobs with slots := s.jobs.slots.set n none } := by
    rw [a.slotEnds_jobs n outcome v1 v2 v3 (by rwa [h]), h]
  unfold State.maintAbort
  split
  next hnone =>
    have hslots : s.jobs.slots.set n none = s.jobs.slots := by
      rw [← hnone]
      exact Vector.set_getElem_self ..
    rw [hslots]
  next j hj =>
    have hrun : s.jobs.slots[n].isSome = true := by rw [hj]; rfl
    split
    · exact hends ((Within.refl measuring s).wireAbort).jobs hrun
    · split
      · exact hends ((Within.refl (sending ||| drawing) s).drillFrame.freeVal.freeVal.freeVal).jobs hrun
      · exact hends ((Within.refl drawing s).freeVal.freeVal.freeVal).jobs hrun

theorem State.maintStop_jobs (s : State) :
    (s.maintStop 15).jobs = { s.jobs with slots := Vector.replicate 4 none } := by
  have hfour : s.maintStop 15 = (((s.maintAbort 0).maintAbort 1).maintAbort 2).maintAbort 3 := rfl
  rw [hfour]
  simp only [State.maintAbort_jobs]
  congr 1
  ext i hi
  interval_cases i <;> simp

theorem PortIdle.maintStop (h : PortIdle s) : PortIdle (s.maintStop 15) := by
  have hjobs := s.maintStop_jobs
  exact h.of_same (by rw [hjobs]) (by rw [hjobs]) (by rw [hjobs])
    (congrArg ThermalSt.lockouts ((Within.refl slotting s).maintStop).thermal)

/-! #### The port as it is freed -/

/-- What the work that waited for the port leaves: the STORE, the dictionary's banks, and of area 0xE all but the install's reports. -/
structure LeavesStore (s t : State) : Prop where
  within : Within ending s t
  store : t.jobs.store = s.jobs.store
  commit : t.nv.commit = s.nv.commit
  dict : t.nv.dict = s.nv.dict
  objs : ∀ k, k / 2 ^ 20 = 0xE → k ∉ [0xE01102, 0xE01103, 0xE01104] → t.rd k = s.rd k

theorem LeavesStore.refl (s : State) : LeavesStore s s := ⟨.refl _ s, rfl, rfl, rfl, fun _ _ _ => rfl⟩

theorem LeavesStore.trans (h : LeavesStore s a) (h' : LeavesStore a t) : LeavesStore s t :=
  ⟨h.within.trans h'.within, h'.store.trans h.store, h'.commit.trans h.commit, h'.dict.trans h.dict,
    fun k harea hk => (h'.objs k harea hk).trans (h.objs k harea hk)⟩

theorem Within.nv (h : Within F s t) (hF : F.testBit Part.nv.ix = false := by decide) : t.nv = s.nv := by
  have := congrArg State.nv h.frame
  simpa [State.patch, pick, hF] using this

theorem Within.leavesStore (h : Within F s t) (hF : F ||| ending = ending := by decide)
    (hjobs : F.testBit Part.jobs.ix = false := by decide) (hnv : F.testBit Part.nv.ix = false := by decide)
    (harea : F.testBit (Part.area 0xE).ix = false := by decide) : LeavesStore s t :=
  ⟨h.mono hF, congrArg JobSt.store (h.jobs hjobs), congrArg NvSt.commit (h.nv hnv), congrArg NvSt.dict (h.nv hnv),
    fun k hk _ => h.objs k (by rw [hk]; exact harea)⟩

theorem Within.portWrite {j} (h : Within F s a) (hF : installing ||| F = F := by decide) : Within F s (a.portWrite j) :=
  h.via hF fun h => by
    cases j with
    | invalidate => exact h.set
    | stage d => exact (Within.set h).wrIn 0xE
    | oem off d => exact h.set

theorem State.portWrite_leavesStore (s : State) (j : NvJob) : LeavesStore s (s.portWrite j) := by
  cases j with
  | invalidate => exact ⟨(Within.refl _ s).portWrite, rfl, rfl, rfl, fun _ _ _ => rfl⟩
  | stage d =>
    refine ⟨(Within.refl _ s).portWrite, rfl, rfl, rfl, fun k _ hk => ?_⟩
    exact State.rd_wr_ne _ _ fun e => hk (by simp [e])
  | oem off d => exact ⟨(Within.refl _ s).portWrite, rfl, rfl, rfl, fun _ _ _ => rfl⟩

theorem State.portServe_leavesStore (s : State) : LeavesStore s s.portServe := by
  unfold State.portServe
  split
  · exact .refl s
  · have hclear : LeavesStore s (s.modJobs fun x => { x with waiting := [] }) :=
      ⟨(Within.refl _ s).modJobs, rfl, rfl, rfl, fun _ _ _ => rfl⟩
    generalize (s.modJobs fun x => { x with waiting := [] }) = a at hclear ⊢
    dsimp only
    generalize (s.jobs.waiting.filter NvJob.isFw ++ s.jobs.waiting.filter fun j => !j.isFw) = l
    induction l generalizing a with
    | nil => exact hclear
    | cons j l ih => exact ih _ (hclear.trans (a.portWrite_leavesStore j))

theorem State.modInstall_rd (s : State) (f : InstallSt → InstallSt) (k : Nat) : (s.modInstall f).rd k = s.rd k := rfl

theorem State.modIdle_rd (s : State) (f : FwBank → FwBank) (k : Nat) : (s.modIdle f).rd k = s.rd k := rfl

theorem State.fwDrop_rd (s : State) (k : Nat) : s.fwDrop.rd k = s.rd k := rfl

theorem State.fwFail_rd (s : State) (result k : Nat) :
    (s.fwFail result).rd k = if k = 0xE01103 then result else if k = 0xE01102 then 6 else s.rd k := by
  simp [State.fwFail, State.fwState, State.wrAll, State.modInstall_rd, State.modIdle_rd, State.fwDrop_rd]

theorem State.fwFail_leavesStore (s : State) (result : Nat) : LeavesStore s (s.fwFail result) := by
  refine ⟨(Within.refl _ s).fwFail, rfl, rfl, rfl, fun k _ hk => ?_⟩
  simp only [List.mem_cons, List.not_mem_nil, or_false, not_or] at hk
  obtain ⟨hphase, hresult, -⟩ := hk
  rw [State.fwFail_rd, if_neg hresult, if_neg hphase]

theorem State.fwStaged_leavesStore (s : State) : LeavesStore s s.fwStaged.2 := by
  unfold State.fwStaged
  split
  · have hdraw : LeavesStore s s.freeVal.2 := ((Within.refl drawing s).freeVal).leavesStore
    dsimp only
    split
    · refine hdraw.trans ⟨(Within.refl _ _).wrIn 0xE, rfl, rfl, rfl, fun k _ hk => ?_⟩
      exact State.rd_wr_ne _ _ fun e => hk (by simp [e])
    · exact hdraw.trans (State.fwFail_leavesStore _ 10)
  · exact .refl s

theorem State.portFreed_leavesStore (s : State) : LeavesStore s s.portFreed := by
  unfold State.portFreed
  have hserve := s.portServe_leavesStore
  generalize s.portServe = a at hserve ⊢
  dsimp only
  split
  · exact hserve
  next head hstage =>
    split
    · exact hserve
    · refine hserve.trans ?_
      have hunstage : LeavesStore a ((a.modInstall fun j => { j with staged := none }).modWdp fun w =>
          { w with blocks := w.blocks.filter fun b => b.tagGen != byteAt head 0 }) :=
        ⟨(Within.refl _ a).modInstall.modWdp, rfl, rfl, rfl, fun _ _ _ => rfl⟩
      have hstaged := hunstage.trans (State.fwStaged_leavesStore _)
      split
      · exact hstaged.trans ((Within.refl answering _).tagDone).leavesStore
      · exact hstaged

/-! #### The firmware install -/

/-- The bank that runs as it was. -/
structure KeepsRunning (s t : State) : Prop where
  within : Within ending s t
  active : t.jobs.install.active = s.jobs.install.active
  bank : ∀ b : Fin 2, b = s.jobs.install.active → t.nv.fw[b] = s.nv.fw[b]

theorem KeepsRunning.refl (s : State) : KeepsRunning s s := ⟨.refl _ s, rfl, fun _ _ => rfl⟩

theorem KeepsRunning.trans (h : KeepsRunning s a) (h' : KeepsRunning a t) : KeepsRunning s t :=
  ⟨h.within.trans h'.within, h'.active.trans h.active,
    fun b hb => (h'.bank b (hb.trans h.active.symm)).trans (h.bank b hb)⟩

theorem State.idleBank_ne (s : State) : s.jobs.install.active ≠ s.idleBank := by
  unfold State.idleBank
  split
  next h => simp [h]
  next h => exact h

theorem State.fwFail_fw (s : State) (result : Nat) : (s.fwFail result).nv.fw = upd s.nv.fw s.idleBank fun b => { b with state := 1 } :=
  rfl

theorem State.fwFail_keepsRunning (s : State) (result : Nat) : KeepsRunning s (s.fwFail result) where
  within := (Within.refl _ s).fwFail
  active := rfl
  bank b hb := by
    rw [State.fwFail_fw]
    exact upd_ne _ _ _ _ (hb ▸ s.idleBank_ne)

theorem Within.keepsRunning (h : Within F s t) (hF : F ||| ending = ending := by decide)
    (hjobs : F.testBit Part.jobs.ix = false := by decide) (hnv : F.testBit Part.nv.ix = false := by decide) :
    KeepsRunning s t :=
  ⟨h.mono hF, by rw [h.jobs hjobs], fun _ _ => by rw [h.nv hnv]⟩

theorem State.endBlock_keepsRunning (s : State) (b : BlockSt) (status : Nat) : KeepsRunning s (s.endBlock b status) := by
  have hdrop : KeepsRunning s (s.dropBlock b) := by
    have hmod (f : WdpSt → WdpSt) : KeepsRunning s (s.modWdp f) := ((Within.refl (foot [.wdp]) s).setWdp).keepsRunning
    unfold State.dropBlock
    dsimp only
    split
    · exact (hmod _).trans (State.fwFail_keepsRunning _ 8)
    · exact hmod _
  exact hdrop.trans ((Within.refl answering _).tagDone).keepsRunning

/-- What answers an install that is aborted: the block write of its image, or the request that waits for its activation. -/
def State.installEnded (s : State) : State :=
  match s.wdp.blocks.find? fun x => !x.read && x.index == 0xE010 with
  | some x => s.endBlock x 11
  | none =>
    match s.jobs.install.reply with
    | some tg => if s.running tg then s.tagDone tg (withStatus s.wdp.tags[tagOf tg].resp 11) else s
    | none => s

theorem State.installEnded_keepsRunning (s : State) : KeepsRunning s s.installEnded := by
  unfold State.installEnded
  split
  · exact s.endBlock_keepsRunning _ 11
  · split
    · split
      · exact ((Within.refl answering s).tagDone).keepsRunning
      · exact .refl s
    · exact .refl s

theorem State.abortOne_install (s : State) (hlow : 1 ≤ s.fwPhase) (hhigh : s.fwPhase ≤ 5)
    (hswitched : s.jobs.install.switched = false) : s.abortOne 3 = (0, s.installEnded.fwFail 8) := by
  simp only [State.abortOne, hswitched, Bool.false_eq_true, if_false, hlow, hhigh, decide_true, Bool.and_self, if_true]
  rfl

/-- The port freed where only OEM words wait: the firmware banks and the dictionary stay. -/
theorem State.portFreed_oem (s : State) (hstaged : s.jobs.install.staged = none)
    (hoem : ∀ j ∈ s.jobs.waiting, NvJob.isFw j = false) :
    s.portFreed.nv.fw = s.nv.fw ∧ (∀ k, s.portFreed.rd k = s.rd k) ∧ KeepsRunning s s.portFreed := by
  have hnone : s.jobs.waiting.filter NvJob.isFw = [] := List.filter_eq_nil_iff.2 fun j hj => by simp [hoem j hj]
  have hserve : s.portServe.jobs.install = s.jobs.install ∧ s.portServe.nv.fw = s.nv.fw ∧
      ∀ k, s.portServe.rd k = s.rd k := by
    unfold State.portServe
    split
    · exact ⟨rfl, rfl, fun _ => rfl⟩
    · have hclear : (s.modJobs fun x => { x with waiting := [] }).jobs.install = s.jobs.install ∧
          (s.modJobs fun x => { x with waiting := [] }).nv.fw = s.nv.fw ∧
          ∀ k, (s.modJobs fun x => { x with waiting := [] }).rd k = s.rd k := ⟨rfl, rfl, fun _ => rfl⟩
      have hmem : ∀ j ∈ s.jobs.waiting.filter fun j => !j.isFw, NvJob.isFw j = false := fun j hj =>
        hoem j (List.mem_of_mem_filter hj)
      dsimp only
      rw [hnone, List.nil_append]
      generalize (s.modJobs fun x => { x with waiting := [] }) = a at hclear ⊢
      generalize (s.jobs.waiting.filter fun j => !j.isFw) = l at hmem ⊢
      induction l generalizing a with
      | nil => exact hclear
      | cons j l ih =>
        refine ih (a.portWrite j) ?_ fun x hx => hmem x (List.mem_cons_of_mem j hx)
        have hj := hmem j List.mem_cons_self
        cases j with
        | invalidate => exact absurd hj (by decide)
        | stage d => exact absurd hj (by simp [NvJob.isFw])
        | oem off d => exact hclear
  obtain ⟨hinstall, hfw, hrd⟩ := hserve
  have heq : s.portFreed = s.portServe := by
    unfold State.portFreed
    dsimp only
    rw [hinstall, hstaged]
  rw [heq]
  exact ⟨hfw, hrd, s.portServe_leavesStore.within, by rw [hinstall], fun _ _ => by rw [hfw]⟩

/-! #### MOLT -/

/-- The pending step of a string and its RESULT. -/
def moltView (g : Fin 3) (s : State) : Option MoltSt × Nat := (s.string.molt[g], s.rd (unitKey 0x800308 g))

/-- What ABORT makes of a string's pending step. -/
def MoltAborted (v w : Option MoltSt × Nat) : Prop :=
  match v.1 with
  | none => True
  | some x =>
    if x.insert then w.1 = some { x with limit := none, abort := some 11 } else if !x.applied then w = (none, 11) else w = v

theorem State.abortIdle_view (s : State) (g : Fin 3) : moltView g s.abortIdle = moltView g s := by
  have hkey : unitKey 0x800308 g ≠ 0x100301 ∧ unitKey 0x800308 g ≠ 0x100304 := by
    unfold unitKey
    omega
  unfold State.abortIdle
  split
  · refine Prod.ext rfl ?_
    simp [moltView, hkey.1, hkey.2]
  · rfl

/-- A string without its pending step, which has ended with a result. -/
def State.moltEnded (s : State) (g : Fin 3) (result : Nat) (x : MoltSt) : State :=
  { s.wrAll [(unitKey 0x800307 g, 0), (unitKey 0x800308 g, result), (unitKey 0x800309 g, (s.tick - x.since) / 625)] with
    string := { s.string with molt := s.string.molt.set g none } }

theorem State.moltEnded_rd (s : State) (g : Fin 3) (result : Nat) (x : MoltSt) (k : Nat) :
    (s.moltEnded g result x).rd k = (s.wrAll [(unitKey 0x800307 g, 0), (unitKey 0x800308 g, result),
      (unitKey 0x800309 g, (s.tick - x.since) / 625)]).rd k := rfl

theorem State.endMolt_some (s : State) (g : Fin 3) (result : Nat) (x : MoltSt) (h : s.string.molt[g] = some x) :
    s.endMolt g result =
      if 8 ≤ result then (s.moltEnded g result x).abortIdle.raise 116 else (s.moltEnded g result x).abortIdle := by
  unfold State.endMolt
  rw [h]
  rfl

theorem State.endMolt_view_eq (s : State) (g : Fin 3) (result : Nat) (x : MoltSt) (h : s.string.molt[g] = some x)
    (j : Fin 3) : moltView j (s.endMolt g result) = moltView j (s.moltEnded g result x) := by
  rw [s.endMolt_some g result x h, ← State.abortIdle_view (s.moltEnded g result x)]
  split <;> rfl

theorem State.endMolt_view (s : State) (g : Fin 3) (result : Nat) (x : MoltSt) (h : s.string.molt[g] = some x) :
    moltView g (s.endMolt g result) = (none, result) := by
  rw [s.endMolt_view_eq g result x h, moltView, State.moltEnded_rd]
  simp [State.moltEnded, State.wrAll, unitKey]

theorem State.endMolt_view_other (s : State) {g j : Fin 3} (hne : j ≠ g) (result : Nat) :
    moltView j (s.endMolt g result) = moltView j s := by
  cases h : s.string.molt[g] with
  | none => simp [State.endMolt, h]
  | some x =>
    have hidx : (g : Nat) ≠ j := fun e => hne (Fin.ext e.symm)
    rw [s.endMolt_view_eq g result x h, moltView, State.moltEnded_rd, moltView]
    have hkeys : unitKey 0x800308 j ≠ unitKey 0x800307 g ∧ unitKey 0x800308 j ≠ unitKey 0x800308 g ∧
        unitKey 0x800308 j ≠ unitKey 0x800309 g := by
      unfold unitKey
      omega
    simp [State.moltEnded, State.wrAll, hkeys, hidx]

theorem State.endMolt_count (s : State) (g : Fin 3) (result : Nat) : (s.endMolt g result).rd 0x100305 = s.rd 0x100305 := by
  have hidle (a : State) : a.abortIdle.rd 0x100305 = a.rd 0x100305 := by
    unfold State.abortIdle
    split <;> simp
  have hkeys : (0x100305 : Nat) ≠ unitKey 0x800307 g ∧ (0x100305 : Nat) ≠ unitKey 0x800308 g ∧
      (0x100305 : Nat) ≠ unitKey 0x800309 g := by
    unfold unitKey
    omega
  cases h : s.string.molt[g] with
  | none => simp [State.endMolt, h]
  | some x =>
    have hended : (s.moltEnded g result x).rd 0x100305 = s.rd 0x100305 := by
      rw [State.moltEnded_rd]
      simp [State.wrAll, hkeys]
    rw [s.endMolt_some g result x h]
    split
    · exact (hidle _).trans hended
    · exact (hidle _).trans hended

/-- ABORT of one string's pending step. -/
def State.abortStep (s : State) (g : Fin 3) : State :=
  match s.string.molt[g] with
  | none => s
  | some x =>
    if x.insert then
      (s.modMolt g fun x => { x with limit := none, abort := some 11 }).mapCells fun m =>
        if x.is m && (s.repOf m).state == 5 then { m with active := false } else m
    else if !x.applied then s.endMolt g 11 else s

theorem State.abortMolt_eq (s : State) : s.abortMolt = forFin 3 s fun g a => a.abortStep g := rfl

theorem State.abortStep_aborted (a : State) (i : Fin 3) : MoltAborted (moltView i a) (moltView i (a.abortStep i)) := by
  unfold State.abortStep
  cases hx : a.string.molt[i] with
  | none => simp [MoltAborted, moltView, hx]
  | some x =>
    have hview : (moltView i a).1 = some x := hx
    simp only [MoltAborted, hview]
    by_cases hin : x.insert = true
    · rw [if_pos hin, if_pos hin]
      simp [moltView, State.mapCells, State.modMolt, State.modString, hx]
    · rw [if_neg hin, if_neg hin]
      split
      · exact a.endMolt_view i 11 x hx
      · rfl

theorem State.abortMolt_aborted (s : State) (g : Fin 3) : MoltAborted (moltView g s) (moltView g s.abortMolt) := by
  rw [State.abortMolt_eq]
  refine forFin_each moltView (fun _ => True) (fun _ => MoltAborted) (fun _ _ _ => trivial) ?_ ?_ trivial g
  · intro i j a hne
    have hidx : (i : Nat) ≠ j := fun e => hne (Fin.ext e.symm)
    unfold State.abortStep
    split
    · rfl
    · split
      · exact Prod.ext (by simp [moltView, State.mapCells, State.modMolt, State.modString, hidx]) rfl
      · split
        · exact a.endMolt_view_other hne 11
        · rfl
  · exact fun i a _ => a.abortStep_aborted i

/-- The objects that ABORT of MOLT leaves. -/
theorem State.abortMolt_count (s : State) : s.abortMolt.rd 0x100305 = s.rd 0x100305 := by
  rw [State.abortMolt_eq]
  refine forFin_keeps (fun a : State => a.rd 0x100305 = s.rd 0x100305) _ (fun g a h => ?_) _ rfl
  unfold State.abortStep
  split
  · exact h
  · split
    · exact h
    · split
      · exact (State.endMolt_count a g 11).trans h
      · exact h

theorem anyOf_of {α : Type} {n : Nat} {v : Vector α n} {p : α → Bool} (i : Fin n) (h : p v[i] = true) : anyOf v p = true :=
  List.any_eq_true.2 ⟨i, List.mem_finRange i, h⟩

theorem State.abortOne_molt (s : State) {g : Fin 3} {x : MoltSt} (hx : s.string.molt[g] = some x)
    (hbusy : x.insert = true ∨ x.applied = false) : s.abortOne 5 = (0, s.abortMolt) := by
  refine if_pos ?_
  refine anyOf_of g ?_
  rw [hx]
  rcases hbusy with h | h <;> simp [h]

theorem PortIdle.abortMolt (h : PortIdle s) : PortIdle s.abortMolt := h.within ((Within.refl molting s).abortMolt)

/-! #### Forwarded transactions -/

theorem addDropped_keeps (l : List (Nat × Nat)) (node tg : Nat) : l ⊆ addDropped l node tg := by
  unfold addDropped
  split
  · exact List.Subset.refl l
  · exact List.subset_append_left l _

theorem mem_addDropped (l : List (Nat × Nat)) (node tg : Nat) : (node, tg) ∈ addDropped l node tg := by
  unfold addDropped
  split
  next h => simpa using h
  · simp

theorem mem_addDroppeds (fs : List Forwarded) (l : List (Nat × Nat)) (p : Nat × Nat)
    (h : p ∈ l ∨ ∃ f ∈ fs, p = (f.node, f.tagGen)) :
    p ∈ fs.foldl (fun l f => addDropped l f.node f.tagGen) l := by
  induction fs generalizing l with
  | nil => exact h.resolve_right (by simp)
  | cons f fs ih =>
    refine ih _ ?_
    rcases h with hold | ⟨x, hx, rfl⟩
    · exact .inl (addDropped_keeps l _ _ hold)
    · rcases List.mem_cons.1 hx with rfl | hx
      · exact .inl (mem_addDropped l _ _)
      · exact .inr ⟨x, hx, rfl⟩

theorem Within.string (h : Within F s t) (hF : F.testBit Part.string.ix = false := by decide) : t.string = s.string := by
  have := congrArg State.string h.frame
  simpa [State.patch, pick, hF] using this

theorem State.storeEnds_busy (s : State) (result : Nat) : (s.storeEnds result).bitAt 0xE00101 0 = false := by
  unfold State.storeEnds State.bitAt
  rw [State.rd_wr_ne _ _ (by decide)]
  exact (State.bitAt_wrBit ..).trans (if_pos ⟨rfl, rfl⟩)

theorem State.storeEnds_result (s : State) (result : Nat) : (s.storeEnds result).rd 0xE00102 = result := by
  simp [State.storeEnds]

theorem anyOf_eq_false {α : Type} {n : Nat} {v : Vector α n} {p : α → Bool} (h : ∀ i : Fin n, p v[i] = false) :
    anyOf v p = false :=
  List.any_eq_false.2 fun i _ => Bool.eq_false_iff.1 (h i)

/-- Every pending step is a removal that has been issued, or there is none. -/
theorem State.abortOne_issued (s : State)
    (h : ∀ (g : Fin 3) (x : MoltSt), s.string.molt[g] = some x → x.insert = false ∧ x.applied = true ∧ x.abort = none) :
    s.abortOne 5 = (if ∃ g : Fin 3, s.string.molt[g].isSome = true then 1 else 2, s) ∧ s.moltEnding = false := by
  constructor
  · have hsome : (anyOf s.string.molt fun x => x.isSome) = Decidable.decide (∃ g : Fin 3, s.string.molt[g].isSome = true) := by
      rw [Bool.eq_iff_iff, decide_eq_true_iff]
      exact List.any_eq_true.trans ⟨fun ⟨g, _, hg⟩ => ⟨g, hg⟩, fun ⟨g, hg⟩ => ⟨g, List.mem_finRange g, hg⟩⟩
    refine (if_neg (Bool.eq_false_iff.1 (anyOf_eq_false fun g => ?_))).trans ?_
    · cases hx : s.string.molt[g] with
      | none => rfl
      | some x =>
        obtain ⟨hinsert, happlied, -⟩ := h g x hx
        simp [hinsert, happlied]
    · rw [hsome]
      simp only [decide_eq_true_eq]
  · refine anyOf_eq_false fun g => ?_
    cases hx : s.string.molt[g] with
    | none => rfl
    | some x => simp [(h g x hx).2.2]

/-! #### The commands together -/

theorem abortRow_taken (b : Fin 7) : abortRow.taken (natLe 2 (2 ^ b.val)) = 2 ^ b.val := by
  revert b
  decide

/-- The write that a command of ABORT is. -/
theorem State.writeNat_abort_bit (s : State) (b : Fin 7) (hserved : s.power.supervisor = true) (hdev : s.dev ≠ 0) :
    s.writeNat 0x1002 0 2 (2 ^ b.val) = (s.abort (2 ^ b.val)).answered 0 [] :=
  s.writeNat_abort _ (abortRow_taken b) hserved hdev

/-- What the clause of ABORT of maintenance leaves open. -/
def aborting : Nat :=
  slotting ||| foot [.net, .free, .signals, .power, .clock, .guard, .rails, .winTrip, .engines, .modeDone, .charge, .string,
    .lease, .thermal, .nv, .can, .wdp, .capture, .status, .relay, .area 1]

/-- What every clause says of ABORT's reports. -/
theorem AbortTold.reports {instant outcome : Nat} {b : Fin 7} (h : AbortTold instant b outcome a t) (hb : b ≠ 5)
    (hcount : a.rd 0x100305 = s.rd 0x100305) :
    t.lastStatus = 0 ∧ t.rd 0x100301 = 0 ∧ t.rd 0x100302 = 2 ^ b.val ∧ t.rd 0x100304 ≤ 100000 ∧
      t.rd 0x100305 = wrapInc 32 (s.rd 0x100305) ∧ t.power.abortAt = instant ∧ t.rd 0x100303 = outcome :=
  ⟨h.status, h.pending.trans (if_neg fun hm => hb (Fin.ext hm.1)), h.mask, h.duration, hcount ▸ h.count, h.since, h.result⟩

/-- What every clause says of a function that has nothing to stop, or nothing that it still stops. -/
theorem State.abort_nothing (s : State) (b : Fin 7) (outcome : Nat) (hserved : s.power.supervisor = true)
    (hdev : s.dev ≠ 0) (hport : PortIdle s) (hone : s.abortOne b = (outcome, s)) (hle : outcome ≤ 2) (hpos : outcome ≠ 0)
    (hmolt : b = 5 → s.moltEnding = false) :
    let t := s.writeNat 0x1002 0 2 (2 ^ b.val)
    t.lastStatus = 0 ∧ t.rd 0x100301 = 0 ∧ t.rd 0x100302 = 2 ^ b.val ∧ t.rd 0x100304 ≤ 100000 ∧
      t.rd 0x100305 = wrapInc 32 (s.rd 0x100305) ∧ t.power.abortAt = s.tick ∧ t.rd 0x100303 = outcome ∧
      t.rd 0x100304 = 0 ∧ KeepsObjs [0x100301, 0x100302, 0x100303, 0x100304, 0x100305] s t ∧
      t = { s with
        objs := t.objs, free := t.free, power := t.power, lastStatus := t.lastStatus, lastData := t.lastData } := by
  have h := s.abort_idle b outcome hport hone hle
  dsimp only
  rw [s.writeNat_abort_bit b hserved hdev]
  refine ⟨h.status, h.pending.trans (if_neg fun hm => ?_), h.mask, h.duration, h.count, h.since, h.result, h.atOnce hpos,
    h.objs, h.within.frame⟩
  rw [hmolt (Fin.ext hm.1)] at hm
  exact absurd hm.2 (by decide)

theorem exec_abort (b : Fin 7) (i : Instr) (hexec : exec i s = .next (s.writeNat 0x1002 0 2 (2 ^ b.val))) {P : State → Prop}
    (h : P (s.writeNat 0x1002 0 2 (2 ^ b.val))) : Completes i s P := ⟨_, hexec, h⟩

/-- Settles O48: each function's own end, after which the port is as idle as it was, under ABORT's reports. -/
theorem abortStopsTheNamedFunction : Obligations.AbortStopsTheNamedFunction := by
  intro s
  refine ⟨?_, ?_, ?_, ?_, ?_, ?_, ?_, ?_, ?_, ?_, ?_, ?_, ?_, ?_, ?_⟩
  · intro hserved hdev hwaiting hstaged hbusy
    refine exec_abort 0 _ rfl ?_
    have hwithin : Within recording s s.captureStop := (Within.refl _ s).captureStop
    have hone : s.abortOne 0 = (0, s.captureStop) := if_pos (by
      rcases hbusy with h | h | h
      · simp [Option.isSome_iff_ne_none.2 h]
      · simp [Option.isSome_iff_ne_none.2 h]
      · simp [h])
    have h := s.abort_stops 0 (PortIdle.within ⟨hwaiting, hstaged⟩ hwithin) hone
    rw [s.writeNat_abort_bit 0 hserved hdev]
    obtain ⟨h1, h2, h3, h4, h5, h6, h7⟩ := h.reports (by decide) (hwithin.objs 0x100305 (by decide))
    have hcapture := h.within.capture
    have hall := (hwithin.mono (F := recording ||| foot [.free, .power, .status, .area 1]) (by decide)).trans
      (h.within.mono (by decide))
    have hring := (s.closeRecord_capture true)
    exact ⟨h1, h2, h3, h4, h5, h6, h7, by rw [hcapture]; rfl, by rw [hcapture]; exact hring.1, by rw [hcapture]; rfl,
      by rw [hcapture]; exact hring.2, hall.keepsOtherAreas, hall.frame⟩
  · intro hserved hdev hwaiting hstaged harmed hrecord hfirings
    refine exec_abort 0 _ rfl ?_
    exact s.abort_nothing 0 2 hserved hdev ⟨hwaiting, hstaged⟩ (if_neg (by simp [harmed, hrecord, hfirings])) (by decide)
      (by decide) (fun h => absurd h (by decide))
  · intro hserved hdev hwaiting hstaged hblocks
    refine exec_abort 1 _ rfl ?_
    have hwithin : Within ending s s.abortBlocks := (Within.refl _ s).abortBlocks
    have hone : s.abortOne 1 = (0, s.abortBlocks) := if_pos (by simpa using hblocks)
    have h := s.abort_stops 1 (PortIdle.abortBlocks ⟨hwaiting, hstaged⟩) hone
    rw [s.writeNat_abort_bit 1 hserved hdev]
    obtain ⟨h1, h2, h3, h4, h5, h6, h7⟩ := h.reports (by decide) (hwithin.objs 0x100305 (by decide))
    have hwdp := h.within.wdp
    have hall := (hwithin.mono (F := ending ||| foot [.free, .power, .status, .rails, .area 1]) (by decide)).trans
      (h.within.mono (by decide))
    refine ⟨h1, h2, h3, h4, h5, h6, h7, by rw [hwdp]; exact s.abortBlocks_blocks, ?_, hall.tick, hall.keepsOtherAreas,
      hall.frame⟩
    rw [hwdp]
    refine List.all_eq_true.2 fun b hb => ?_
    obtain ⟨hstate, hresp⟩ := endBlocks_ended s.wdp.blocks s b (.inl hb)
    exact Bool.and_eq_true_iff.2 ⟨beq_iff_eq.2 hstate, beq_iff_eq.2 hresp⟩
  · intro hserved hdev hwaiting hstaged hblocks
    refine exec_abort 1 _ rfl ?_
    exact s.abort_nothing 1 2 hserved hdev ⟨hwaiting, hstaged⟩ (if_neg (by simp [hblocks])) (by decide) (by decide)
      (fun h => absurd h (by decide))
  · intro hserved hdev hcommitting hstore
    refine exec_abort 2 _ rfl ?_
    have hone : s.abortOne 2 = (0, (s.storeEnds 3).portFreed) := by
      simp [State.abortOne, hcommitting, hstore]
    have h := s.abort_ends 2 hone
    rw [s.writeNat_abort_bit 2 hserved hdev]
    have hleaves := ((s.storeEnds 3).portFreed_leavesStore).trans ((s.storeEnds 3).portFreed.portFreed_leavesStore)
    generalize (s.storeEnds 3).portFreed.portFreed = a at h hleaves
    have hended : Within installing s (s.storeEnds 3) := (Within.refl _ s).storeEnds
    have hwithin : Within ending s a := (hended.mono (by decide)).trans hleaves.within
    obtain ⟨h1, h2, h3, h4, h5, h6, h7⟩ := h.reports (by decide) (hwithin.objs 0x100305 (by decide))
    have hnv := h.within.nv
    have hall := (hwithin.mono (F := ending ||| foot [.free, .power, .status, .area 1]) (by decide)).trans
      (h.within.mono (by decide))
    refine ⟨h1, h2, h3, h4, h5, h6, ?_, h7, ?_, ?_, ?_, ?_, hall.keepsOtherAreas, hall.frame⟩
    · rw [h.within.jobs, hleaves.store]
      rfl
    · refine (congrArg (bit · 0) ((h.within.objs 0xE00101 (by decide)).trans (hleaves.objs 0xE00101 (by decide) (by decide)))).trans ?_
      exact s.storeEnds_busy 3
    · rw [h.within.objs 0xE00102 (by decide), hleaves.objs 0xE00102 (by decide) (by decide)]
      exact s.storeEnds_result 3
    · rw [hnv, hleaves.commit]
      rfl
    · rw [hnv, hleaves.dict]
      rfl
  · intro hserved hdev hwaiting hstaged hdone
    refine exec_abort 2 _ rfl ?_
    have hone : s.abortOne 2 = (if s.storeCommitting then 1 else 2, s) := by
      unfold State.abortOne
      by_cases hc : s.storeCommitting = true
      · simp [hc]
      · simp [hc, hdone.resolve_left hc]
    exact s.abort_nothing 2 _ hserved hdev ⟨hwaiting, hstaged⟩ hone (by split <;> decide) (by split <;> decide)
      (fun h => absurd h (by decide))
  · intro hserved hdev hlow hhigh hswitched
    refine exec_abort 3 _ rfl ?_
    have h := s.abort_ends 3 (s.abortOne_install hlow hhigh hswitched)
    rw [s.writeNat_abort_bit 3 hserved hdev]
    have hended := s.installEnded_keepsRunning
    have hidle : s.installEnded.idleBank = s.idleBank := by
      unfold State.idleBank
      rw [hended.active]
    generalize s.installEnded = a at h hended hidle
    obtain ⟨hfw, hrd, hport⟩ := (a.fwFail 8).portFreed_oem rfl fun j hj => by
      rw [State.fwFail_jobs] at hj
      simpa using List.of_mem_filter hj
    have hkeeps := (hended.trans (a.fwFail_keepsRunning 8)).trans hport
    have hstate : (a.fwFail 8).portFreed.nv.fw[s.idleBank].state = 1 := by
      rw [hfw, State.fwFail_fw, hidle, upd_same]
    generalize (a.fwFail 8).portFreed = c at h hfw hrd hport hkeeps hstate
    obtain ⟨h1, h2, h3, h4, h5, h6, h7⟩ := h.reports (by decide) (hkeeps.within.objs 0x100305 (by decide))
    have hnv := h.within.nv
    have hall := (hkeeps.within.mono (F := ending ||| foot [.free, .power, .status, .rails, .area 1]) (by decide)).trans
      (h.within.mono (by decide))
    refine ⟨h1, h2, h3, h4, h5, h6, h7, ?_, ?_, by rw [hnv]; exact hstate, by rw [hnv]; exact hkeeps.bank _ rfl, hall.tick,
      hall.keepsOtherAreas, hall.frame⟩
    · exact (h.within.objs 0xE01102 (by decide)).trans ((hrd _).trans (State.fwFail_rd ..))
    · exact (h.within.objs 0xE01103 (by decide)).trans ((hrd _).trans (State.fwFail_rd ..))
  · intro hserved hdev hwaiting hstaged hdone
    refine exec_abort 3 _ rfl ?_
    have hone : s.abortOne 3 = (if s.jobs.install.switched then 1 else 2, s) := by
      unfold State.abortOne
      by_cases hs : s.jobs.install.switched = true
      · simp [hs]
      · have hphase : s.fwPhase = 0 ∨ s.fwPhase = 6 := by simpa [hs] using hdone
        rcases hphase with h | h <;> simp [hs, h]
    exact s.abort_nothing 3 _ hserved hdev ⟨hwaiting, hstaged⟩ hone (by split <;> decide) (by split <;> decide)
      (fun h => absurd h (by decide))
  · intro hserved hdev hwaiting hstaged hbusy
    refine exec_abort 4 _ rfl ?_
    obtain ⟨n, hn⟩ := hbusy
    have hwithin : Within slotting s (s.maintStop 15) := (Within.refl _ s).maintStop
    have hone : s.abortOne 4 = (0, s.maintStop 15) := if_pos (anyOf_of n hn)
    have h := s.abort_stops 4 (PortIdle.maintStop ⟨hwaiting, hstaged⟩) hone
    rw [s.writeNat_abort_bit 4 hserved hdev]
    obtain ⟨h1, h2, h3, h4, h5, h6, h7⟩ := h.reports (by decide) (hwithin.objs 0x100305 (by decide))
    have hslots := congrArg JobSt.slots s.maintStop_jobs
    have hall := (hwithin.mono (F := aborting) (by decide)).trans (h.within.mono (by decide))
    exact ⟨h1, h2, h3, h4, h5, h6, h7, by rw [h.within.jobs]; exact hslots, hall.tick, hall.frame⟩
  · intro hserved hdev hwaiting hstaged hfree
    refine exec_abort 4 _ rfl ?_
    have hnone : (anyOf s.jobs.slots fun x => x.isSome) = false := by
      refine List.any_eq_false.2 fun n _ => ?_
      rw [hfree n]
      decide
    exact s.abort_nothing 4 2 hserved hdev ⟨hwaiting, hstaged⟩ (if_neg (by rw [hnone]; decide)) (by decide) (by decide)
      (fun h => absurd h (by decide))
  · intro hserved hdev hwaiting hstaged hissued
    refine exec_abort 5 _ rfl ?_
    obtain ⟨hone, hending⟩ := s.abortOne_issued hissued
    exact s.abort_nothing 5 _ hserved hdev ⟨hwaiting, hstaged⟩ hone (by split <;> decide) (by split <;> decide)
      (fun _ => hending)
  · intro g x hserved hdev hwaiting hstaged hx hinsert
    refine exec_abort 5 _ rfl ?_
    have h := s.abort_stops 5 (PortIdle.abortMolt ⟨hwaiting, hstaged⟩) (s.abortOne_molt hx (.inl hinsert))
    rw [s.writeNat_abort_bit 5 hserved hdev]
    have hwithin : Within molting s s.abortMolt := (Within.refl _ s).abortMolt
    have hmolt : s.abortMolt.string.molt[g] = some { x with limit := none, abort := some 11 } := by
      have hview := s.abortMolt_aborted g
      simpa only [MoltAborted, moltView, hx, hinsert, if_true] using hview
    have hending : s.abortMolt.moltEnding = true := anyOf_of g (by rw [hmolt]; rfl)
    have hall := (hwithin.mono (F := molting ||| foot [.free, .power, .status]) (by decide)).trans (h.within.mono (by decide))
    exact ⟨h.status, h.pending.trans (if_pos ⟨rfl, hending⟩), h.mask, h.duration, s.abortMolt_count ▸ h.count, h.since,
      h.result, by rw [h.within.string]; exact hmolt, hall.keepsOtherAreas, hall.frame⟩
  · intro g x hserved hdev hwaiting hstaged hx hinsert happlied
    refine exec_abort 5 _ rfl ?_
    have h := s.abort_stops 5 (PortIdle.abortMolt ⟨hwaiting, hstaged⟩) (s.abortOne_molt hx (.inr happlied))
    rw [s.writeNat_abort_bit 5 hserved hdev]
    have hwithin : Within molting s s.abortMolt := (Within.refl _ s).abortMolt
    have hview : moltView g s.abortMolt = (none, 11) := by
      have hview := s.abortMolt_aborted g
      simpa [MoltAborted, moltView, hx, hinsert, happlied] using hview
    have harea : unitKey 0x800308 g / 2 ^ 20 = 8 := by
      unfold unitKey
      omega
    have hall := (hwithin.mono (F := molting ||| foot [.free, .power, .status]) (by decide)).trans (h.within.mono (by decide))
    exact ⟨h.status, h.result, by rw [h.within.string]; exact congrArg Prod.fst hview,
      (h.within.objs _ (by rw [harea]; decide)).trans (congrArg Prod.snd hview), hall.keepsOtherAreas, hall.frame⟩
  · intro hserved hdev hwaiting hstaged hforwarded
    refine exec_abort 6 _ rfl ?_
    have hwithin : Within (foot [.frames]) s s.abortForwards := (Within.refl _ s).set
    have hone : s.abortOne 6 = (0, s.abortForwards) := if_pos (by simpa using hforwarded)
    have h := s.abort_stops 6 (PortIdle.within ⟨hwaiting, hstaged⟩ hwithin) hone
    rw [s.writeNat_abort_bit 6 hserved hdev]
    obtain ⟨h1, h2, h3, h4, h5, h6, h7⟩ := h.reports (by decide) (hwithin.objs 0x100305 (by decide))
    have hframes := h.within.frames
    have hall := (hwithin.mono (F := foot [.frames, .free, .power, .status, .area 1]) (by decide)).trans
      (h.within.mono (by decide))
    refine ⟨h1, h2, h3, h4, h5, h6, h7, by rw [hframes]; rfl, ?_, by rw [hframes]; rfl, h.objs, hall.frame⟩
    rw [hframes]
    refine List.all_eq_true.2 fun f hf => List.contains_iff_mem.2 ?_
    exact mem_addDroppeds s.frames.forwarded s.frames.dropped _ (.inr ⟨f, hf, rfl⟩)
  · intro hserved hdev hwaiting hstaged hforwarded
    refine exec_abort 6 _ rfl ?_
    exact s.abort_nothing 6 2 hserved hdev ⟨hwaiting, hstaged⟩ (if_neg (by simp [hforwarded])) (by decide) (by decide)
      (fun h => absurd h (by decide))

end Sys2Proof.Machine
end

section
/-! COCOON and the wake from it. -/

namespace Sys2Proof.Machine
set_option Elab.async false

variable {F : Nat} {s a t : State}

/-! ### State commands (spec/04 R104 to R108) -/

/-- The map row of CMD. -/
def cmdRow : Sub := rawv .wo .a 1 1 1 0

theorem rowFor_cmd : rowFor 0x1001 1 = (0, some cmdRow) := by decide

theorem State.cmd_eq (s : State) (code : Nat) (hcode : cmdRow.taken (natLe 1 code) = code)
    (hserved : s.power.supervisor = true) (hdev : s.dev ≠ 0) : s.cmd code = (s.command code).answered 0 [] := by
  have hok : s.valueOk cmdRow 0x100101 (cmdRow.taken (natLe 1 code)) (natLe 1 code) = true := rfl
  unfold State.cmd
  rw [s.writeNat_core cmdRow rowFor_cmd (by decide) (by decide) (by decide) (by decide) (by decide) rfl rfl hserved hdev
    hok, hcode]
  rfl

/-- A command that its state accepts, with no fall to SAFE or LOCKOUT beside it. -/
structure Accepted (s : State) (code : Nat) : Prop where
  served : s.power.supervisor = true
  kept : s.fellNow code = false
  state : s.dev ∈ cmdStates code
  stays : s.fallsDue = false

section
variable (s : State)

theorem State.cmd_wake (h : Accepted s 7) (henabled : s.bitAt 0x100401 0 = true) :
    s.cmd 7 = ((s.wr kResult 0).wakeSeen 0).answered 0 [] := by
  have hdev : s.dev = 5 := by simpa [cmdStates] using h.state
  rw [s.cmd_eq 7 (by decide) h.served (by omega)]
  simp [State.command, h.kept, h.state, h.stays, henabled]

theorem State.cmd_reset (h : Accepted s 9) :
    s.cmd 9 = ((s.wr kResult 0).modPower fun p => { p with resetDue := some (s.tick + msTicks 1) }).answered 0 [] := by
  have hdev : s.dev ≠ 0 := fun h0 => absurd (h0 ▸ h.state) (by decide)
  rw [s.cmd_eq 9 (by decide) h.served hdev]
  simp [State.command, h.kept, h.state, h.stays]

theorem State.cmd_cocoon (h : Accepted s 6) (hsettled : ∀ c : Cell, s.fitted c = true → s.cellSt c ≠ 3) :
    s.cmd 6 = s.enterCocoon.answered 0 [] := by
  have hdev : s.dev ≠ 0 := fun h0 => absurd (h0 ▸ h.state) (by decide)
  have hnone : ((List.finRange 6).any fun (c : Cell) => s.fitted c && s.cellSt c == 3) = false :=
    List.any_eq_false.2 fun c _ => by
      have := hsettled c
      simpa using this
  rw [s.cmd_eq 6 (by decide) h.served hdev]
  simp [State.command, h.kept, h.state, h.stays, State.cmdCocoon, hnone]

theorem State.wakeSeen_due (source : Nat) (hdev : s.dev = 5) (henabled : s.bitAt 0x100401 source = true) :
    s.wakeSeen source = s.modPower fun p => { p with waking := true } :=
  if_pos (by simp [hdev, henabled])

theorem State.wakeBlock_fourth (x : LineBlock) (b : Bytes) (hdev : s.dev = 5) (hworker : s.manager = false)
    (hup : s.laneUp 0 = true) (hblock : (s.blockIn 0 x).1 = some (.control 0x5A b))
    (hrun : 3 ≤ (s.blockIn 0 x).2.lanes[(0 : Lane)].wakes) :
    s.wakeBlock x = (((s.blockIn 0 x).2.modLane 0 fun l => { l with wakes := (s.blockIn 0 x).2.lanes[(0 : Lane)].wakes + 1 }).wakeSeen 1) := by
  refine (if_neg (by simp [hdev, hworker, hup])).trans ?_
  generalize s.blockIn 0 x = r at hblock hrun ⊢
  obtain ⟨o, a⟩ := r
  obtain rfl : o = _ := hblock
  exact if_pos (Nat.succ_le_succ hrun)

end

/-! ### The wake takes effect -/

/-- Lanes, paths, PSEL_N and the sampling of the temperature sensors. -/
def linking : Nat := relocking ||| pathing ||| pselling ||| scheduling

theorem Within.hatch (h : Within F s t) (hF : F.testBit Part.hatch.ix = false := by decide) : t.hatch = s.hatch := by
  have := congrArg State.hatch h.frame
  simpa [State.patch, pick, hF] using this

/-- What the entry into HATCH sets. -/
theorem State.enterHatch_dev (s : State) (fromCocoon : Bool) :
    (s.enterHatch fromCocoon).dev = 1 ∧ (s.enterHatch fromCocoon).hatch.since = s.tick := by
  unfold State.enterHatch
  extract_lets cfg instant wasG0 s1 hatch s2 s3 s4 s5
  have h3 : Within linking s2 s3 := .wrIn 0xB (.wrIn 0xB (.refl _ s2))
  have h4 : Within linking s2 s4 := .forFin h3 fun _ _ h =>
    .startLane (.startLane (.modPath (.ite h.modPath h.modPath.restartPath)))
  have h5 : Within linking s2 s5 := .ite h4.wakeRun h4
  have h := Within.updPsel (F := linking) (.reschedule (.forFin h5 fun (n : Fin 28) _ h =>
    h.modSensor (n := n) (f := fun x => { x with due := none, waiting := false, value := none })))
  exact ⟨(h.objs kDevState (by decide)).trans (s.enterDev_rd 1).1, congrArg HatchSt.since h.hatch⟩

/-- What the wake makes of COCOON. -/
structure Rouses (s t : State) : Prop where
  dev : t.dev = 1
  power : t.power = { s.power with waking := false }
  since : t.hatch.since = s.tick
  within : Within rousing s t

theorem State.cocoonExit_rouses (s : State) (hdev : s.dev = 5) (hwaking : s.power.waking = true)
    (hentered : s.power.entering = false) : Rouses s s.cocoonExit := by
  have hwithin : Within rousing s s.cocoonExit := (Within.refl _ s).cocoonExit
  have heq : s.cocoonExit = (((s.modPower fun p => { p with waking := false }).enterHatch true).applyAll).restartClocks :=
    if_pos (by simp [hdev, hwaking, hentered])
  obtain ⟨hd, hsince⟩ := (s.modPower fun p => { p with waking := false }).enterHatch_dev true
  have hpower := ((Within.refl hatching (s.modPower fun p => { p with waking := false })).enterHatch (fromCocoon := true)).power
  rw [heq] at hwithin ⊢
  generalize (s.modPower fun p => { p with waking := false }).enterHatch true = a at *
  have hrest : Within (gating ||| measuring) a a.applyAll.restartClocks := (Within.refl _ a).applyAll.restartClocks
  exact
    { dev := (hrest.objs kDevState (by decide)).trans hd
      power := hrest.power.trans hpower
      since := (congrArg HatchSt.since hrest.hatch).trans hsince
      within := hwithin }

/-! ### Gates in COCOON (spec/09 R289) -/

/-- What each index establishes and every index keeps holds of all indices after a fold over them. -/
theorem forFin_reaches {σ : Type} {n : Nat} {f : Fin n → σ → σ} {I : σ → Prop} {P : Fin n → σ → Prop}
    (hI : ∀ i a, I a → I (f i a)) (hkeep : ∀ i j a, I a → P i a → P i (f j a)) (hown : ∀ i a, I a → P i (f i a)) {s : σ}
    (hs : I s) (i : Fin n) : P i (forFin n s f) := by
  suffices h : ∀ (l : List (Fin n)) (a : σ), I a → (i ∈ l ∨ P i a) → P i (l.foldl (fun a i => f i a) a) from
    h _ s hs (.inl (List.mem_finRange i))
  intro l
  induction l with
  | nil => exact fun a _ h => h.resolve_left (by simp)
  | cons j l ih =>
    intro a ha h
    refine ih (f j a) (hI j a ha) ?_
    rcases h with hmem | hp
    · rcases List.mem_cons.1 hmem with rfl | hmem
      · exact .inr (hown i a ha)
      · exact .inl hmem
    · exact .inr (hkeep i j a ha hp)

/-- Both gates of a leg are off. -/
def LegLow (l : Leg) (s : State) : Prop := s.gates[lineH l] = false ∧ s.gates[lineL l] = false

theorem LegLow.within {l : Leg} (h : LegLow l s) (hwithin : Within F s t)
    (hF : F.testBit Part.gatesOn.ix = false := by decide) : LegLow l t :=
  ⟨hwithin.gates hF _ h.1, hwithin.gates hF _ h.2⟩

theorem State.gateOff_low (s : State) (l : Line) : (s.gateOff l).gates[l] = false := by
  unfold State.gateOff
  split
  · exact Vector.getElem_set_self ..
  next h => simpa using h

theorem State.legOff_low (s : State) (l : Leg) : LegLow l (s.legOff l) :=
  ⟨((Within.refl gating _).gateOff).gates (by decide) _ (s.gateOff_low (lineH l)), State.gateOff_low _ (lineL l)⟩

theorem State.guardRow_cocoon (s : State) (c : Cell) (b : Bridge) (hdev : s.dev = 5) : s.guardRow c b = 1 :=
  if_pos (by simp [hdev])

theorem State.zeroRow_cocoon (s : State) (c : Cell) (b : Bridge) (hdev : s.dev = 5) : s.zeroRow c b = false := by
  simp [State.zeroRow, s.guardRow_cocoon c b hdev]

/-- An operation on gates alone leaves the device's state. -/
theorem Within.dev_of_gating (h : Within gating s t) : t.dev = s.dev := h.rd kDevState

theorem State.applyRow_low (s : State) (c : Cell) (b : Bridge) (hdev : s.dev = 5) (j : Fin 2) :
    LegLow (legOf (carrierOf c b) j) (s.applyRow c b) := by
  have hstop : (s.stopDriving (carrierOf c b)).dev = 5 := ((Within.refl gating s).stopDriving).dev_of_gating.trans hdev
  unfold State.applyRow
  rw [s.guardRow_cocoon c b hdev, if_neg (by decide)]
  simp only [State.zeroRow_cocoon _ c b hstop, Bool.false_eq_true, if_false]
  exact forFin_reaches (I := fun _ => True) (P := fun j a => LegLow (legOf (carrierOf c b) j) a) (fun _ _ _ => trivial)
    (fun _ _ a _ h => h.within ((Within.refl gating a).legOff)) (fun _ a _ => a.legOff_low _) trivial j

theorem State.applyCell_low (s : State) (c : Cell) (hdev : s.dev = 5) (b : Bridge) :
    ∀ j : Fin 2, LegLow (legOf (carrierOf c b) j) (s.applyCell c) := by
  have hstep (b : Bridge) (a : State) :
      Within gating a ((if a.mayDrive (carrierOf c b) then a else a.stopDriving (carrierOf c b)).applyRow c b) :=
    .applyRow (.ite (.refl _ a) (.stopDriving (.refl _ a)))
  refine forFin_reaches (I := fun a : State => a.dev = 5)
    (P := fun b a => ∀ j : Fin 2, LegLow (legOf (carrierOf c b) j) a)
    (fun b a h => (hstep b a).dev_of_gating.trans h) (fun _ b a _ h j => (h j).within (hstep b a)) (fun b a h j => ?_) hdev b
  refine State.applyRow_low _ c b ?_ j
  split
  · exact h
  · exact ((Within.refl gating a).stopDriving).dev_of_gating.trans h

theorem State.applyAll_low (s : State) (hdev : s.dev = 5) (c : Cell) (b : Bridge) (j : Fin 2) :
    LegLow (legOf (carrierOf c b) j) s.applyAll :=
  forFin_reaches (I := fun a : State => a.dev = 5)
    (P := fun c a => ∀ (b : Bridge) (j : Fin 2), LegLow (legOf (carrierOf c b) j) a)
    (fun _ a h => ((Within.refl gating a).applyCell).dev_of_gating.trans h)
    (fun _ _ a _ h b j => (h b j).within ((Within.refl gating a).applyCell)) (fun c a h b => a.applyCell_low c h b) hdev c b j

/-- Every gate is off once COCOON has its row. -/
theorem State.applyAll_cocoon (s : State) (hdev : s.dev = 5) (l : Line) : s.applyAll.gates[l] = false := by
  have hleg : LegLow ⟨l.val / 2, by omega⟩ s.applyAll := by
    have h := s.applyAll_low hdev ⟨l.val / 12, by omega⟩ ⟨l.val % 12 / 4, by omega⟩ ⟨l.val % 4 / 2, by omega⟩
    have heq : legOf (carrierOf ⟨l.val / 12, by omega⟩ ⟨l.val % 12 / 4, by omega⟩) ⟨l.val % 4 / 2, by omega⟩ =
        (⟨l.val / 2, by omega⟩ : Leg) := by
      refine Fin.ext ?_
      simp only [legOf, carrierOf]
      omega
    rwa [heq] at h
  obtain ⟨hhigh, hlow⟩ := hleg
  rcases Nat.mod_two_eq_zero_or_one l.val with hmod | hmod
  · have heq : lineH ⟨l.val / 2, by omega⟩ = l := Fin.ext (by simp only [lineH]; omega)
    exact heq ▸ hhigh
  · have heq : lineL ⟨l.val / 2, by omega⟩ = l := Fin.ext (by simp only [lineL]; omega)
    exact heq ▸ hlow

/-! ### The lanes of path Y -/

/-- The states of the lanes of path Y as they were. -/
def KeepsY (s t : State) : Prop := t.laneState 2 = s.laneState 2 ∧ t.laneState 3 = s.laneState 3

theorem KeepsY.refl (s : State) : KeepsY s s := ⟨rfl, rfl⟩

theorem KeepsY.trans (h : KeepsY s a) (h' : KeepsY a t) : KeepsY s t := ⟨h'.1.trans h.1, h'.2.trans h.2⟩

theorem KeepsY.of_objs {ks : List Nat} (h : KeepsObjs ks s t) (h2 : kLane 2 1 ∉ ks := by decide)
    (h3 : kLane 3 1 ∉ ks := by decide) : KeepsY s t := ⟨h _ h2, h _ h3⟩

theorem Within.keepsY (h : Within F s t) (hF : F.testBit (Part.area 0xB).ix = false := by decide) : KeepsY s t :=
  ⟨h.objs (kLane 2 1) hF, h.objs (kLane 3 1) hF⟩

theorem KeepsY.wr (s : State) (k v : Nat) (h2 : kLane 2 1 ≠ k) (h3 : kLane 3 1 ≠ k) : KeepsY s (s.wr k v) :=
  ⟨State.rd_wr_ne _ _ h2, State.rd_wr_ne _ _ h3⟩

/-- What the objects of a lane's state show of `setLane`. -/
theorem State.setLane_rd (s : State) (i : Lane) (st k : Nat) (h1 : k ≠ kLane i 1) (h2 : k ≠ kLane i 2) (h3 : k ≠ 0xB00504) :
    (s.setLane i st).rd k = s.rd k := by
  have hsources (b : State) : Within raising b (b.laneSources i) := (Within.refl _ b).laneSources
  unfold State.setLane
  extract_lets was s1 fl fl' s2
  rw [(hsources s2).rd]
  show (s1.wr (kLane i 2) fl').rd k = s.rd k
  rw [State.rd_wr_ne _ _ h2]
  show ((s.wr (kLane i 1) st).count 0xB00504 _).rd k = s.rd k
  rw [State.rd_count, if_neg h3, State.rd_wr_ne _ _ h1]

theorem State.setLane_state (s : State) (i : Lane) (st : Nat) : (s.setLane i st).laneState i = st := by
  have hsources (b : State) : Within raising b (b.laneSources i) := (Within.refl _ b).laneSources
  have hkey : kLane i 1 ≠ kLane i 2 ∧ kLane i 1 ≠ 0xB00504 := by
    unfold kLane
    omega
  unfold State.setLane State.laneState
  extract_lets was s1 fl fl' s2
  rw [(hsources s2).rd]
  show (s1.wr (kLane i 2) fl').rd (kLane i 1) = st
  rw [State.rd_wr_ne _ _ hkey.1]
  show ((s.wr (kLane i 1) st).count 0xB00504 _).rd (kLane i 1) = st
  rw [State.rd_count, if_neg hkey.2, State.rd_wr, if_pos rfl]

theorem KeepsY.setLane (s : State) (i : Lane) (st : Nat) (hi : i.val < 2) : KeepsY s (s.setLane i st) := by
  have hkeys (j : Nat) (hj : j = 2 ∨ j = 3) : kLane j 1 ≠ kLane i 1 ∧ kLane j 1 ≠ kLane i 2 ∧ kLane j 1 ≠ 0xB00504 := by
    unfold kLane
    omega
  exact ⟨s.setLane_rd i st _ (hkeys 2 (.inl rfl)).1 (hkeys 2 (.inl rfl)).2.1 (hkeys 2 (.inl rfl)).2.2,
    s.setLane_rd i st _ (hkeys 3 (.inr rfl)).1 (hkeys 3 (.inr rfl)).2.1 (hkeys 3 (.inr rfl)).2.2⟩

theorem KeepsY.laneDrops (s : State) (i : Lane) (hi : i.val < 2) : KeepsY s (s.laneDrops i) := by
  unfold State.laneDrops
  split
  · exact .refl s
  · exact .setLane s i 5 hi

/-- The PLL of path X restarts. -/
theorem KeepsY.restartPath (s : State) (rate : Nat) : KeepsY s (s.restartPath 0 rate) := by
  unfold State.restartPath
  extract_lets p s1
  have h1 : KeepsY s s1 := by
    refine ⟨?_, ?_⟩
    · simp [s1, p, State.laneState, State.wrAll, kPll, kLane, uLane, dLane]
    · simp [s1, p, State.laneState, State.wrAll, kPll, kLane, uLane, dLane]
  have hpll : KeepsY s1 (s1.acquirePll 1) := by
    refine (KeepsY.wr s1 (kPllStatus 1) (acquiringStatus (s1.rd (kPllStatus 1))) (by decide) (by decide)).trans ?_
    exact ⟨rfl, rfl⟩
  have hacquire := s1.acquire_eq 1
  rw [if_neg (by decide)] at hacquire
  refine h1.trans ?_
  show KeepsY s1 (s1.acquire 1)
  rw [hacquire]
  exact (hpll.trans (.laneDrops _ _ (by decide))).trans (.laneDrops _ _ (by decide))

theorem State.canRelease_pselLow (s : State) (hpsel : s.pselLow = true) : s.canRelease = s := if_pos hpsel

theorem KeepsY.canHealth (s : State) (u : Fin 2) : KeepsY s (s.canHealth u) := by
  have hrelease (a : State) : KeepsY a a.canRelease := by
    by_cases hpsel : a.pselLow = true
    · rw [a.canRelease_pselLow hpsel]
      exact .refl a
    · exact .of_objs (a.canRelease_releases (by simpa using hpsel)).objs
  have hrevert (a : State) : KeepsY a a.updRevert :=
    ⟨a.updRevert_rd _ (by decide), a.updRevert_rd _ (by decide)⟩
  unfold State.canHealth
  extract_lets k was h s1 s2
  have h1 : KeepsY s s1 := .wr s _ _ (by simp only [k, kLane]; omega) (by simp only [k, kLane]; omega)
  refine KeepsY.trans ?_ (hrevert s2)
  unfold s2
  split
  · exact h1.trans (hrelease s1)
  · exact h1

theorem KeepsY.enqueue (s : State) (i f fwd rx cut) : KeepsY s (s.enqueue i f fwd rx cut) := by
  unfold State.enqueue
  split
  · exact .refl s
  · exact KeepsY.wr (s.modLane i _) 0xB00508 _ (by decide) (by decide)

theorem KeepsY.sendOn (s : State) (typ q up dst payload) : KeepsY s (s.sendOn typ q up dst payload) := by
  unfold State.sendOn
  extract_lets i
  split
  · exact .refl s
  · exact .enqueue (s.takeSeq _ _ _).2 _ _ _ _ _

theorem KeepsY.updPsel (s : State) : KeepsY s s.updPsel := by
  have hoffer (a : State) : KeepsY a a.offerLease := by
    refine forFin_keeps (KeepsY a) _ (fun q b h => ?_) a (.refl a)
    split
    · exact h.trans (.sendOn b _ _ _ _ _)
    · exact h
  unfold State.updPsel
  extract_lets was s1
  have h1 : KeepsY s s1 := .wr s 0xB02003 _ (by decide) (by decide)
  split
  · exact h1.trans (hoffer { s1 with lease := _ })
  · exact h1

/-! ### The entry into COCOON -/

/-- What the entry into COCOON leaves behind. -/
structure EntersCocoon (s t : State) : Prop where
  dev : t.dev = 5
  result : t.rd kResult = 0
  entering : t.power.entering = true
  waking : t.power.waking = false
  gates : ∀ l : Line, t.gates[l] = false
  laneYU : t.laneState 2 = 0
  laneYD : t.laneState 3 = 0
  tables : ∀ a : Fin 4, t.meas.adc[a].run = none
  within : Within cocooning s t

theorem State.adc_modAdc (s : State) (a b : Fin 4) (f : AdcSt → AdcSt) :
    (s.modAdc a f).meas.adc[b] = if b = a then f s.meas.adc[b] else s.meas.adc[b] := by
  split
  next h =>
    subst h
    exact upd_same ..
  next h => exact upd_ne _ _ _ _ h

theorem State.wireAbort_run (s : State) (a : Fin 4) (h : s.meas.adc[a].run = none) : s.wireAbort.meas.adc[a].run = none := by
  refine forFin_keeps (fun t : State => t.meas.adc[a].run = none) _ (fun b t ht => ?_) s h
  rw [State.adc_modAdc]
  split
  · exact ht
  · exact ht

theorem State.stopTables_run (s : State) (a : Fin 4) : s.stopTables.meas.adc[a].run = none := by
  refine State.wireAbort_run _ a (forFin_reaches (I := fun _ => True) (P := fun a t => State.meas t |>.adc[a].run = none)
    (fun _ _ _ => trivial) (fun i j b _ h => ?_) (fun i b _ => ?_) trivial a)
  · refine (congrArg AdcSt.run (State.adc_modAdc ..)).trans ?_
    split
    · rfl
    · exact h
  · exact (congrArg AdcSt.run (State.adc_modAdc ..)).trans (by rw [if_pos rfl])

/-- What the entry into COCOON touches once the tables have stopped. -/
def quieting : Nat := looping ||| relocking ||| holding ||| leasing ||| scheduling ||| pselling

theorem Within.meas (h : Within F s t) (hF : F.testBit Part.meas.ix = false := by decide) : t.meas = s.meas := by
  have := congrArg State.meas h.frame
  simpa [State.patch, pick, hF] using this

theorem State.enterDev_result (s : State) (d : Nat) : (s.enterDev d).rd kResult = s.rd kResult := by
  simp [State.enterDev, State.wrAll, kDevState, kEntryS, kEntryNs, kResult]

theorem State.modPower_rd (s : State) (f : PowerSt → PowerSt) (k : Nat) : (s.modPower f).rd k = s.rd k := rfl

theorem State.enterCocoon_enters (s : State) : EntersCocoon s s.enterCocoon := by
  have hwithin : Within cocooning s s.enterCocoon := (Within.refl _ s).enterCocoon
  suffices h : s.enterCocoon.dev = 5 ∧ s.enterCocoon.rd kResult = 0 ∧ s.enterCocoon.power.entering = true ∧
      s.enterCocoon.power.waking = false ∧ (∀ l : Line, s.enterCocoon.gates[l] = false) ∧ s.enterCocoon.laneState 2 = 0 ∧
      s.enterCocoon.laneState 3 = 0 ∧ ∀ a : Fin 4, s.enterCocoon.meas.adc[a].run = none by
    obtain ⟨hd, hr, he, hw, hg, h2, h3, ht⟩ := h
    exact ⟨hd, hr, he, hw, hg, h2, h3, ht, hwithin⟩
  clear hwithin
  unfold State.enterCocoon
  extract_lets s1 s2 s3 s4 src clk s5 s6 s7
  have hs1 : Within (slotting ||| recording) (s.wr kResult 0) s1 := (Within.refl _ _).maintStop.captureStop
  have hs2 : Within streaming ((s1.enterDev 5).modPower fun p => { p with entering := true, waking := false }) s2 :=
    (Within.refl _ _).stopStreams.stopTables
  have hs3 : Within quieting s2 s3 := .forFin (.refl _ s2) fun _ _ h => h.clearEngine
  have hs4 : Within quieting s2 s4 := .wrIn 0xB (.wrIn 0xB (.wrIn 2 hs3.setLane.setLane))
  have hs6 : Within quieting s2 s6 := hs4.deassertSrc.acqSource.setClock.restartPath
  have hs7 : Within quieting s2 s7 := .forFin hs6 fun _ _ h => .ite h h.modGuard
  have htail : Within quieting s7.applyAll (forFin 2 s7.applyAll fun u a => a.canHealth u).reschedule.updPsel :=
    .updPsel (.reschedule (.forFin (.refl _ _) fun _ _ h => h.canHealth))
  have hall := hs7.applyAll.trans htail
  have hdev2 : s2.dev = 5 := by
    rw [State.dev, hs2.objs kDevState (by decide), State.modPower_rd]
    exact (s1.enterDev_rd 5).1
  have hresult : s2.rd kResult = 0 := by
    rw [hs2.objs kResult (by decide), State.modPower_rd, State.enterDev_result, hs1.objs kResult (by decide), State.rd_wr,
      if_pos rfl]
  have hlanes : s4.laneState 2 = 0 ∧ s4.laneState 3 = 0 := by
    have hwr : KeepsY ((s3.setLane 2 0).setLane 3 0) s4 := by
      refine ⟨?_, ?_⟩
      · simp [s4, State.laneState, State.wrAll, kPll, kLane]
      · simp [s4, State.laneState, State.wrAll, kPll, kLane]
    refine ⟨hwr.1.trans ?_, hwr.2.trans (State.setLane_state _ 3 0)⟩
    exact (State.setLane_rd _ 3 0 (kLane 2 1) (by decide) (by decide) (by decide)).trans (s3.setLane_state 2 0)
  have hy : KeepsY s4 (forFin 2 s7.applyAll fun u a => a.canHealth u).reschedule.updPsel := by
    have h5 : Within (raising ||| foot [.clock]) s4 s5 := (Within.refl _ s4).deassertSrc.acqSource.setClock
    have h7 : Within holding s6 s7.applyAll :=
      .applyAll (.forFin (.refl _ s6) fun _ _ h => .ite h h.modGuard)
    have hcan : KeepsY s7.applyAll (forFin 2 s7.applyAll fun u a => a.canHealth u) :=
      forFin_keeps (KeepsY s7.applyAll) _ (fun u b h => h.trans (.canHealth b u)) _ (.refl _)
    have hsample (a : State) : KeepsY a a.reschedule := ((Within.refl scheduling a).reschedule).keepsY
    exact ((((h5.keepsY.trans (.restartPath s5 0)).trans h7.keepsY).trans hcan).trans (hsample _)).trans (.updPsel _)
  refine ⟨(hall.objs kDevState (by decide)).trans hdev2, (hall.objs kResult (by decide)).trans hresult, ?_, ?_, ?_, ?_, ?_, ?_⟩
  · rw [hall.power, hs2.power]
    rfl
  · rw [hall.power, hs2.power]
    rfl
  · exact fun l => htail.gates (by decide) l (s7.applyAll_cocoon ((hs7.objs kDevState (by decide)).trans hdev2) l)
  · exact hy.1.trans hlanes.1
  · exact hy.2.trans hlanes.2
  · intro a
    rw [hall.meas]
    exact State.stopTables_run _ a

/-! ### The commands together -/

theorem Within.pins (h : Within F s t) (hF : F.testBit Part.pins.ix = false := by decide) : t.pins = s.pins := by
  have := congrArg State.pins h.frame
  simpa [State.patch, pick, hF] using this

/-- A command that RESULT 0 and a change of the power domain's state answer. -/
theorem State.answered_result (s : State) (f : PowerSt → PowerSt) :
    let t := ((s.wr kResult 0).modPower f).answered 0 []
    t.rd kResult = 0 ∧ t.lastStatus = 0 ∧ t.power = f s.power ∧ KeepsObjs [kResult] s t ∧
      t = { s with objs := t.objs, power := t.power, lastStatus := t.lastStatus, lastData := t.lastData } := by
  have hrd (k : Nat) : (((s.wr kResult 0).modPower f).answered 0 []).rd k = (s.wr kResult 0).rd k := rfl
  refine ⟨(hrd _).trans ((State.rd_wr ..).trans (if_pos rfl)), rfl, rfl, fun k hk => ?_, rfl⟩
  exact (hrd k).trans (State.rd_wr_ne _ _ (by simpa using hk))

/-- A run of WAKE blocks on XU that is complete. -/
theorem State.wakeBlock_wakes (s : State) (x : LineBlock) (b : Bytes) (hdev : s.dev = 5) (hworker : s.manager = false)
    (hup : s.laneUp 0 = true) (henabled : s.bitAt 0x100401 1 = true)
    (hblock : (s.blockIn 0 x).1 = some (.control 0x5A b))
    (hrun : 3 ≤ (s.blockIn 0 x).2.lanes[(0 : Lane)].wakes) :
    (s.wakeBlock x).power = { s.power with waking := true } ∧
      Within (pathing ||| foot [.lanes, .power, .lease, .rails]) s (s.wakeBlock x) := by
  rw [s.wakeBlock_fourth x b hdev hworker hup hblock hrun]
  have hread : Within pathing s (s.blockIn 0 x).2 := (Within.refl _ s).blockIn
  generalize (s.blockIn 0 x).2 = a at hread ⊢
  have hlane (f : LaneSt → LaneSt) : Within (pathing ||| foot [.lanes]) s (a.modLane 0 f) :=
    (hread.mono (by decide)).trans (Within.set (.refl _ a))
  rw [State.wakeSeen_due _ 1 (((hlane _).objs kDevState (by decide)).trans hdev)
    ((congrArg (bit · 1) ((hlane _).objs 0x100401 (by decide))).trans henabled)]
  refine ⟨?_, ((hlane _).mono (by decide)).setPower⟩
  show { (a.modLane 0 _).power with waking := true } = _
  rw [(hlane _).power]

/-- Settles O4: the entry into COCOON part by part, and the sources that make the wake due. -/
theorem cocoonWakeAndResetCommands : Obligations.CocoonWakeAndResetCommands := by
  intro s
  refine ⟨?_, ?_, ?_, ?_, ?_, ?_, ?_, ?_⟩
  · intro hserved hfell hstate hstays hsettled
    refine ⟨_, rfl, ?_⟩
    rw [s.cmd_cocoon ⟨hserved, hfell, by rcases hstate with h | h <;> simp [h, cmdStates], hstays⟩ hsettled]
    obtain ⟨hdev, hresult, hentering, hwaking, hgates, h2, h3, htables, hwithin⟩ := s.enterCocoon_enters
    generalize s.enterCocoon = a at *
    have hall :=
      (hwithin.mono (F := cocooning ||| foot [.can, .paths, .status, .area 0xC]) (by decide)).answered (status := 0) (data := [])
    refine ⟨hdev, hentering, hwaking, hresult, rfl, hgates, h2, h3, fun n => ?_, htables, hwithin.nv, hwithin.pins,
      hwithin.tick, hall.keepsOtherAreas, hall.frame⟩
    have hstill : (a.answered 0 []).dev = 5 := hdev
    simp [State.streamRuns, hstill]
  · intro hentering hwaking
    refine ⟨_, rfl, ?_⟩
    have heq : s.cocoonEntered = s.modPower fun p => { p with entering := false } := by
      refine (if_pos hentering).trans (if_neg ?_)
      simp [State.modPower, hwaking]
    rw [heq]
    exact ⟨rfl, rfl⟩
  · intro hentering hwaking hdev
    refine ⟨_, rfl, ?_⟩
    have heq : s.cocoonEntered = (s.modPower fun p => { p with entering := false }).cocoonExit := if_pos hentering
    have hentered : Within (foot [.power]) s (s.modPower fun p => { p with entering := false }) := (Within.refl _ s).setPower
    obtain ⟨hd, hpower, hsince, hwithin⟩ :=
      (s.modPower fun p => { p with entering := false }).cocoonExit_rouses hdev hwaking rfl
    rw [heq]
    have hall := (hentered.mono (F := rousing ||| foot [.nv, .can, .time]) (by decide)).trans (hwithin.mono (by decide))
    exact ⟨by rw [hpower]; rfl, by rw [hpower], hd, hsince, hall.tick, hall.frame⟩
  · intro ticks hdev henabled hlong
    refine ⟨_, rfl, ?_⟩
    rw [if_pos hlong, s.wakeSeen_due 2 hdev henabled]
    exact ⟨rfl, rfl⟩
  · intro x b hdev hworker hup henabled hblock hrun
    refine ⟨_, rfl, ?_⟩
    obtain ⟨hpower, hwithin⟩ := s.wakeBlock_wakes x b hdev hworker hup henabled hblock hrun
    refine ⟨hpower, hwithin.keepsOtherAreas, hwithin.frame⟩
  · intro hdev hwaking hentered
    refine ⟨_, rfl, ?_⟩
    obtain ⟨hd, hpower, hsince, hwithin⟩ := s.cocoonExit_rouses hdev hwaking hentered
    exact ⟨hd, by rw [hpower], hsince, hwithin.tick, hwithin.nv,
      (hwithin.mono (F := rousing ||| foot [.can, .time]) (by decide)).frame⟩
  · intro hserved hstays hfell hdev henabled
    refine ⟨_, rfl, ?_⟩
    have hwake : (s.wr kResult 0).wakeSeen 0 = (s.wr kResult 0).modPower fun p => { p with waking := true } := by
      refine State.wakeSeen_due _ 0 ?_ ?_
      · exact (State.rd_wr_ne _ _ (by decide)).trans hdev
      · exact (congrArg (bit · 0) (State.rd_wr_ne s (k := kResult) (j := 0x100401) 0 (by decide))).trans henabled
    rw [s.cmd_wake ⟨hserved, hfell, by simp [hdev, cmdStates], hstays⟩ henabled, hwake]
    exact s.answered_result _
  · intro hserved hstays hfell hstate
    refine ⟨_, rfl, ?_⟩
    rw [s.cmd_reset ⟨hserved, hfell, by rcases hstate with h | h | h | h | h <;> simp [h, cmdStates], hstays⟩]
    exact s.answered_result fun p => { p with resetDue := some (s.tick + msTicks 1) }

end Sys2Proof.Machine
end

section
/-! The shoot-through interlock. -/

namespace Sys2Proof.Machine
set_option Elab.async false

/-! ### Operations that turn no gate on

No command but the end of a dead time and that of a protective delay turns a gate on (spec/05 R140; spec/09 R297). Each operation that the other commands use has one lemma here, which bears its name: what has turned no gate on since s still has not after the operation. Where the operation's footprint says so already, the lemma cites it; an operation without branches leaves the gates as they stand, so that its premise is its proof; the other proofs follow the branches of the operation's definition. -/

/-- No gate output that is off in s is on in t. -/
def Dims (s t : State) : Prop := ∀ l : Line, s.gates[l] = false → t.gates[l] = false

variable {s a t : State}

theorem Dims.refl (s : State) : Dims s s := fun _ => id

theorem Dims.trans (h : Dims s a) (h' : Dims a t) : Dims s t := fun l => h' l ∘ h l

/-- What a footprint says of the gates. -/
theorem Dims.within {F : Nat} (h : Dims s a) (hw : Within F a t)
    (hF : F.testBit Part.gatesOn.ix = false := by decide) : Dims s t :=
  h.trans (hw.gates hF)

/-- A change of the state's other parts, written as a record update. -/
theorem Dims.set {pending tick net free objs lastStatus lastData power pins tap clock carriers legs guard rails signals
    winTrip engines modeDone refs charge string stringRx collector lanes paths hatch lease frames time meas thermal nv
    jobs can wdp capture} (h : Dims s a) :
    Dims s (.mk pending tick net free objs lastStatus lastData power pins tap clock a.gates carriers legs guard rails
      signals winTrip engines modeDone refs charge string stringRx collector lanes paths hatch lease frames time meas
      thermal nv jobs can wdp capture) :=
  h

/-! #### Branches and folds -/

theorem Dims.ite {c : Prop} {_ : Decidable c} {x y : State} (hx : Dims s x) (hy : Dims s y) :
    Dims s (if c then x else y) := by
  split
  · exact hx
  · exact hy

theorem Dims.foldl {α : Type} {l : List α} {f : State → α → State} (h : Dims s a)
    (hf : ∀ b x, Dims s b → Dims s (f b x)) : Dims s (l.foldl f a) := by
  induction l generalizing a with
  | nil => exact h
  | cons x l ih => exact ih (hf a x h)

theorem Dims.forFin {n : Nat} {f : Fin n → State → State} (h : Dims s a)
    (hf : ∀ i b, Dims s b → Dims s (f i b)) : Dims s (Machine.forFin n a f) :=
  forFin_keeps (Dims s) f hf a h

theorem Dims.foldr {α : Type} {l : List α} {f : α → State → State} (h : Dims s a)
    (hf : ∀ x b, Dims s b → Dims s (f x b)) : Dims s (l.foldr f a) := by
  induction l with
  | nil => exact h
  | cons x l ih => exact hf x _ ih

theorem Dims.getD {o : Option State} (h : Dims s a) (ho : ∀ t, o = some t → Dims s t) :
    Dims s (o.getD a) := by
  cases o with
  | none => exact h
  | some t => exact ho t rfl

/-! #### Pairs of an answer and a state -/

theorem Dims.iteSnd {α : Type} {c : Prop} {_ : Decidable c} {x y : α × State} (hx : Dims s x.2)
    (hy : Dims s y.2) : Dims s (if c then x else y).2 := by
  split
  · exact hx
  · exact hy

theorem Dims.iteSndSnd {α β : Type} {c : Prop} {_ : Decidable c} {x y : α × β × State} (hx : Dims s x.2.2)
    (hy : Dims s y.2.2) : Dims s (if c then x else y).2.2 := by
  split
  · exact hx
  · exact hy

theorem Dims.snd {α : Type} {x : α} (h : Dims s a) : Dims s (x, a).2 := h

theorem Dims.foldlSnd {α β : Type} {l : List β} {f : α × State → β → α × State} {p : α × State}
    (h : Dims s p.2) (hf : ∀ q x, Dims s q.2 → Dims s (f q x).2) : Dims s (l.foldl f p).2 := by
  induction l generalizing p with
  | nil => exact h
  | cons x l ih => exact ih (hf p x h)

theorem Dims.forFinSnd {α : Type} {n : Nat} {f : Fin n → α × State → α × State} {p : α × State}
    (h : Dims s p.2) (hf : ∀ i q, Dims s q.2 → Dims s (f i q).2) :
    Dims s (Machine.forFin n p f).2 :=
  forFin_keeps (fun q => Dims s q.2) f hf p h

theorem Dims.forFinFst {α : Type} {n : Nat} {f : Fin n → State × α → State × α} {p : State × α}
    (h : Dims s p.1) (hf : ∀ i q, Dims s q.1 → Dims s (f i q).1) :
    Dims s (Machine.forFin n p f).1 :=
  forFin_keeps (fun q => Dims s q.1) f hf p h

/-! #### The named operations -/

theorem Dims.wr {k v} (h : Dims s a) : Dims s (a.wr k v) := h
theorem Dims.wrBit {k i b} (h : Dims s a) : Dims s (a.wrBit k i b) := h
theorem Dims.orBits {k m} (h : Dims s a) : Dims s (a.orBits k m) := h
theorem Dims.clrBits {k m} (h : Dims s a) : Dims s (a.clrBits k m) := h
theorem Dims.count {k n} (h : Dims s a) : Dims s (a.count k n) := h
theorem Dims.countSat {k} (h : Dims s a) : Dims s (a.countSat k) := h
theorem Dims.wrAll {kvs} (h : Dims s a) : Dims s (a.wrAll kvs) := .foldl h fun _ _ h => h.wr
theorem Dims.advance {n} (h : Dims s a) : Dims s (a.advance n) := h
theorem Dims.advanceTo {t} (h : Dims s a) : Dims s (a.advanceTo t) := h
theorem Dims.freeVal (h : Dims s a) : Dims s a.freeVal.2 := h
theorem Dims.freeIn {lo hi} (h : Dims s a) : Dims s (a.freeIn lo hi).2 := h.within (Within.refl drawing a).freeIn
theorem Dims.raise {n} (h : Dims s a) : Dims s (a.raise n) := h
theorem Dims.assertSrc {n} (h : Dims s a) : Dims s (a.assertSrc n) := h
theorem Dims.deassertSrc {n} (h : Dims s a) : Dims s (a.deassertSrc n) := h
theorem Dims.levelSrc {n b} (h : Dims s a) : Dims s (a.levelSrc n b) := h.within (Within.refl raising a).levelSrc
theorem Dims.emit {code tick exact} (h : Dims s a) : Dims s (a.emit code tick exact) := h
theorem Dims.emitSync {code} (h : Dims s a) : Dims s (a.emitSync code) := h
theorem Dims.claim {code who t} (h : Dims s a) : Dims s (a.claim code who t) := h
theorem Dims.take {code who t} (h : Dims s a) : Dims s (a.take code who t) := h
theorem Dims.takeTrigger {code who t} (h : Dims s a) : Dims s (a.takeTrigger code who t) := .ite h.claim h.take
theorem Dims.modCarrier {k f} (h : Dims s a) : Dims s (a.modCarrier k f) := h
theorem Dims.modLeg {l f} (h : Dims s a) : Dims s (a.modLeg l f) := h
theorem Dims.modGuard {c f} (h : Dims s a) : Dims s (a.modGuard c f) := h

theorem Dims.gate {l} (h : Dims s a) : Dims s (a.gate l false) :=
  h.trans fun j hj => by
    rw [State.gate_gates, Fin.getElem_fin, Vector.getElem_set]
    split
    · rfl
    · exact hj

theorem Dims.modSensor {n f} (h : Dims s a) : Dims s (a.modSensor n f) := h
theorem Dims.reschedule (h : Dims s a) : Dims s a.reschedule := h.within (Within.refl scheduling a).reschedule

/-! #### Gates and holds (spec/09) -/

theorem Dims.edgeCause {c i} (h : Dims s a) : Dims s (a.edgeCause c i) := h
theorem Dims.setCarry {l z} (h : Dims s a) : Dims s (a.setCarry l z) := .ite h.wr h.wr.count.edgeCause
theorem Dims.resetCarry {k} (h : Dims s a) : Dims s (a.resetCarry k) := h
theorem Dims.legOff {l} (h : Dims s a) : Dims s (a.legOff l) := h.within (Within.refl gating a).legOff
theorem Dims.stopDriving {k} (h : Dims s a) : Dims s (a.stopDriving k) := h.within (Within.refl gating a).stopDriving
theorem Dims.applyRow {c b} (h : Dims s a) : Dims s (a.applyRow c b) := h.within (Within.refl gating a).applyRow
theorem Dims.applyCell {c} (h : Dims s a) : Dims s (a.applyCell c) := h.within (Within.refl gating a).applyCell
theorem Dims.applyAll (h : Dims s a) : Dims s a.applyAll := h.within (Within.refl gating a).applyAll
theorem Dims.hold {c b bits} (h : Dims s a) : Dims s (a.hold c b bits) := h.within (Within.refl holding a).hold
theorem Dims.unhold {c b bits} (h : Dims s a) : Dims s (a.unhold c b bits) := h.within (Within.refl holding a).unhold

theorem Dims.holdCell {c bits} (h : Dims s a) : Dims s (a.holdCell c bits) :=
  h.within (Within.refl holding a).holdCell

theorem Dims.holdAll {bits} (h : Dims s a) : Dims s (a.holdAll bits) := .forFin h fun _ _ h => h.holdCell
theorem Dims.trip {c i} (h : Dims s a) : Dims s (a.trip c i) := h.within (Within.refl holding a).trip
theorem Dims.tripEnds {c i} (h : Dims s a) : Dims s (a.tripEnds c i) := h
theorem Dims.evalTrip {c i} (h : Dims s a) : Dims s (a.evalTrip c i) := h.within (Within.refl holding a).evalTrip
theorem Dims.evalCell {c} (h : Dims s a) : Dims s (a.evalCell c) := .forFin h fun _ _ h => .ite h.trip h

/-! #### Carriers and pulses (spec/05) -/

theorem Dims.toTaps {t} (h : Dims s a) : Dims s (a.toTaps t) := h
theorem Dims.issueEdge {l t} (h : Dims s a) : Dims s (a.issueEdge l false t) := h.toTaps.gate.set
theorem Dims.event {k y t} (h : Dims s a) : Dims s (a.event k y t) := .ite h.modCarrier.emit h.modCarrier
theorem Dims.cmpEvent {l t} (h : Dims s a) : Dims s (a.cmpEvent l t) := h.event
theorem Dims.loadShadow {k i} (h : Dims s a) : Dims s (a.loadShadow k i) := h
theorem Dims.loadSlew {k} (h : Dims s a) : Dims s (a.loadSlew k) := h
theorem Dims.armCommit {k} (h : Dims s a) : Dims s (a.armCommit k) := .ite h.modCarrier h
theorem Dims.startCarrier {k} (h : Dims s a) : Dims s (a.startCarrier k) := h
theorem Dims.restShadows {k} (h : Dims s a) : Dims s (a.restShadows k) := h
theorem Dims.clearPeriods {k} (h : Dims s a) : Dims s (a.clearPeriods k) := .ite h.wr h

theorem Dims.stopCarrier {k t} (h : Dims s a) : Dims s (a.stopCarrier k t) :=
  .restShadows (.forFin h.stopDriving.clearPeriods fun _ _ h => .ite h.modLeg.cmpEvent h)

theorem Dims.syncCarriers {c} (h : Dims s a) : Dims s (a.syncCarriers c) :=
  .forFin h fun _ _ h => .ite h.startCarrier (.ite h (.ite h.stopCarrier.applyRow h.clearPeriods))

theorem Dims.rebaseNet {d} (h : Dims s a) : Dims s (a.rebaseNet d) :=
  .forFin h fun _ _ h => .ite (.forFin h.modCarrier fun _ _ h => h.modLeg) h

theorem Dims.countErase {l} (h : Dims s a) : Dims s (a.countErase l) := h

theorem Dims.startLeg {l t} (h : Dims s a) : Dims s (a.startLeg l t) :=
  .ite h.legOff.modLeg h.legOff.modLeg.countErase

theorem Dims.tryDrive {k t} (h : Dims s a) : Dims s (a.tryDrive k t) :=
  .ite h (.forFin h.modCarrier.resetCarry fun _ _ h => h.startLeg)

theorem Dims.latch {k} (h : Dims s a) : Dims s (a.latch k) := h
theorem Dims.latchFollowers {k} (h : Dims s a) : Dims s (a.latchFollowers k) := h
theorem Dims.transfer {k} (h : Dims s a) : Dims s (a.transfer k) := h

theorem Dims.countSkew {k} (h : Dims s a) : Dims s (a.countSkew k) :=
  .ite (.ite h.modCarrier.edgeCause h.modCarrier) h.modCarrier

theorem Dims.legPeriod {l} (h : Dims s a) : Dims s (a.legPeriod l) := .ite h.modLeg.edgeCause h.modLeg
theorem Dims.zeroFollowers {k t p zp} (h : Dims s a) : Dims s (a.zeroFollowers k t p zp) := h

theorem Dims.nextPeriod {k t oldPeriod oldPhase same} (h : Dims s a) :
    Dims s (a.nextPeriod k t oldPeriod oldPhase same) :=
  .ite h.modCarrier (.ite h.modCarrier h.modCarrier)

theorem Dims.keepTails {k t} (h : Dims s a) : Dims s (a.keepTails k t) := by
  refine .forFin h fun _ _ h => ?_
  dsimp only
  split
  · exact h
  · exact .ite h h.modLeg

theorem Dims.newPeriod {k tl t0} (h : Dims s a) : Dims s (a.newPeriod k tl t0) := h

theorem Dims.zeroBoundary {k} (h : Dims s a) : Dims s (a.zeroBoundary k) :=
  .ite (.countSkew (.transfer (.ite h.latch h))) (.transfer (.ite h.latch h))

theorem Dims.countPeriod {k t} (h : Dims s a) : Dims s (a.countPeriod k t) := .ite h.count.wr.wr h.count

theorem Dims.zero {k} (h : Dims s a) : Dims s (a.zero k) := by
  unfold State.zero
  extract_lets c tl s1 s2 s3 n t s4 s5 s6 s7
  refine .ite h ?_
  have h3 : Dims s s3 := h.toTaps.countPeriod.keepTails.zeroBoundary.newPeriod
  have h5 : Dims s s5 := h3.nextPeriod.zeroFollowers
  have h6 : Dims s s6 := .ite (.forFin h5 fun _ _ h => h.legPeriod) h5
  exact .ite h3.event.stopCarrier.applyRow (.ite h6.event h6.event.tryDrive)

theorem Dims.apex {k} (h : Dims s a) : Dims s (a.apex k) := by
  unfold State.apex
  extract_lets c t s1 s2 s2' s3 s4
  refine .ite h ?_
  have h2 : Dims s s2 := h.toTaps.modCarrier.event
  have h2' : Dims s s2' := .transfer (.ite h2.keepTails h2)
  have h3 : Dims s s3 := .ite (.ite h2'.countSkew h2') h2
  have h4 : Dims s s4 := .ite h3 h3.modCarrier
  exact .ite h4.tryDrive h4

theorem Dims.tcmpEvent {k} (h : Dims s a) : Dims s (a.tcmpEvent k) := .ite h h.toTaps.modCarrier.event

theorem Dims.transferInstant {k apex} (h : Dims s a) : Dims s (a.transferInstant k apex) :=
  .ite h (.ite (.ite h.toTaps.latch h.toTaps) (.latchFollowers (.ite h.toTaps.latch h.toTaps)))

theorem Dims.commandEdge {l high t} (h : Dims s a) : Dims s (a.commandEdge l high t) := h.issueEdge.modLeg.cmpEvent

theorem Dims.judge {l high t t1} (h : Dims s a) : Dims s (a.judge l high t t1) :=
  .ite h.toTaps.modLeg.countErase h.toTaps.setCarry.modLeg.commandEdge

theorem Dims.erasedEnd {l} (h : Dims s a) : Dims s (a.erasedEnd l) := by
  dsimp only [State.erasedEnd]
  split
  · exact h
  · split
    · exact h
    · exact h.toTaps.setCarry.modLeg

theorem Dims.refresh {l} (h : Dims s a) : Dims s (a.refresh l) := h.toTaps.modLeg.commandEdge

theorem Dims.settle {l t} (h : Dims s a) : Dims s (a.settle l t) := by
  unfold State.settle
  split
  · exact h
  · split
    · exact h
    · exact .ite h.erasedEnd h

theorem Dims.legChange {l high t} (h : Dims s a) : Dims s (a.legChange l high t) := by
  refine .ite h (.ite h.refresh (.ite ?_ ?_))
  · split
    · exact h
    · exact .ite h h.toTaps.modLeg.cmpEvent
  · split
    · exact h
    · exact .ite h (.ite h.settle h.settle.judge)

theorem Dims.loopRefused {c} (h : Dims s a) : Dims s (a.loopRefused c) := h
theorem Dims.refuseOn {l} (h : Dims s a) : Dims s (a.refuseOn l) := h.loopRefused.count.hold.raise
theorem Dims.blanked {t0 t} (h : Dims s a) : Dims s (a.blanked t0 t).2 := .iteSnd h h.freeVal

theorem Dims.refreshEnd {l} (h : Dims s a) : Dims s (a.refreshEnd l) := by
  unfold State.refreshEnd
  split
  · exact h
  · exact .ite h.toTaps.setCarry.count.modLeg.modLeg.judge h.toTaps.setCarry.count.modLeg

theorem Dims.reanchor {k tn} (h : Dims s a) : Dims s (a.reanchor k tn) := h

/-! #### Loop engines (spec/07) -/

theorem Dims.modEngine {e f} (h : Dims s a) : Dims s (a.modEngine e f) := h
theorem Dims.modTask {e t f} (h : Dims s a) : Dims s (a.modTask e t f) := h
theorem Dims.recordNumeric {e n} (h : Dims s a) : Dims s (a.recordNumeric e n) := h

theorem Dims.miss {e t cause countSub} (h : Dims s a) : Dims s (a.miss e t cause countSub) :=
  .ite h.count.wrBit.wr.modTask.raise h.count.wrBit.wr

theorem Dims.putStep {e outs keep} (h : Dims s a) : Dims s (a.putStep e outs keep) :=
  h.within (Within.refl looping a).putStep

theorem Dims.settleStep {e} (h : Dims s a) : Dims s (a.settleStep e) := h.within (Within.refl looping a).settleStep

theorem Dims.startRun {e t r} (h : Dims s a) : Dims s (a.startRun e t r) :=
  .modTask (.ite h.settleStep.count.wrBit h.settleStep)

theorem Dims.runNext {e} (h : Dims s a) : Dims s (a.runNext e) := by
  unfold State.runNext
  split
  · exact h
  · split
    · exact h
    · exact .ite h.startRun (.ite h h.modTask)

theorem Dims.reached {r} (h : Dims s a) : Dims s (a.reached r).2 := h.within (Within.refl drawing a).reached
theorem Dims.blockLeft {r} (h : Dims s a) : Dims s (a.blockLeft r).2 := h.reached.freeIn

theorem Dims.suspendBelow {e t} (h : Dims s a) : Dims s (a.suspendBelow e t) := by
  dsimp only [State.suspendBelow]
  split
  · exact h.modEngine
  · split
    · exact h.modEngine
    · exact h.blockLeft.advance.modEngine

theorem Dims.acceptTrigger {e t g} (h : Dims s a) : Dims s (a.acceptTrigger e t g) := h.modTask.suspendBelow.runNext
theorem Dims.noteRun {e t} (h : Dims s a) : Dims s (a.noteRun e t) := h.within (Within.refl looping a).noteRun

theorem Dims.noteNumeric (h : Dims s a) : Dims s a.noteNumeric :=
  .forFin h fun _ _ h => .forFin h fun _ _ h => h.noteRun

theorem Dims.abandon {e t} (h : Dims s a) : Dims s (a.abandon e t) := h.within (Within.refl looping a).abandon

theorem Dims.countClamp {e r} (h : Dims s a) : Dims s (a.countClamp e r) := by
  unfold State.countClamp
  split
  · exact .ite h.modEngine.wrBit.raise h.modEngine
  · exact h

theorem Dims.commitBlock {e r} (h : Dims s a) : Dims s (a.commitBlock e r) := h.wrAll.countClamp

theorem Dims.loadStaged {kv} (h : Dims s a) : Dims s (a.loadStaged kv) := by
  dsimp only [State.loadStaged]
  split
  · exact h.wr.loadShadow.armCommit
  · exact h.wr

theorem Dims.updMode {c} (h : Dims s a) : Dims s (a.updMode c) := h.within (Within.refl looping a).updMode
theorem Dims.commitMode {c t saw} (h : Dims s a) : Dims s (a.commitMode c t saw) := .updMode (.ite h.wrBit.set h)

theorem Dims.commitRun {e t r} (h : Dims s a) : Dims s (a.commitRun e t r) := by
  unfold State.commitRun
  extract_lets s0 s1 s2 dur s3 s4 s5
  have h0 : Dims s s0 := .foldl h fun _ _ h => h.recordNumeric
  have h1 : Dims s s1 := .foldl h0 fun _ _ h => h.loadStaged
  have h2 : Dims s s2 := .foldr h1 fun _ _ h => h.commitBlock
  have h4 : Dims s s4 := h2.count.wrAll.modTask
  have h5 : Dims s s5 := by
    unfold s5
    split
    · exact h4.commitMode
    · exact h4
  exact h5.emit.runNext

theorem Dims.release {e t} (h : Dims s a) : Dims s (a.release e t) := by
  unfold State.release
  split
  · exact h
  · exact .ite h h.commitRun

theorem Dims.late {e t} (h : Dims s a) : Dims s (a.late e t) := by
  unfold State.late
  split
  · exact h
  · exact .ite h.advanceTo.commitRun h.advanceTo.abandon.miss.runNext

theorem Dims.clearEngine {e} (h : Dims s a) : Dims s (a.clearEngine e) := h.within (Within.refl looping a).clearEngine
theorem Dims.validateProgram {e} (h : Dims s a) : Dims s (a.validateProgram e) := h

/-! #### Profiles and modes (spec/08) -/

theorem Dims.markSeed {e n w} (h : Dims s a) : Dims s (a.markSeed e n w) := h

theorem Dims.seedStep {e n cause} (h : Dims s a) : Dims s (a.seedStep e n cause) :=
  .ite (.raise (.modEngine (.ite h.wrAll.wr h.wrAll))) (.modEngine (.ite h.wrAll.wr h.wrAll))

theorem Dims.motionStep {e n} (h : Dims s a) : Dims s (a.motionStep e n) :=
  .ite h.wrAll.modEngine h.wrAll.modEngine.raise

theorem Dims.stepGroup {e g} (h : Dims s a) : Dims s (a.stepGroup e g) := by
  unfold State.stepGroup
  extract_lets on begins s1 s2 s3
  have hf : Dims s (s3.freeIn 82 167).2 :=
    .freeIn (.count (.modEngine (.ite (.foldl h fun _ _ h => h.markSeed) h)))
  generalize s3.freeIn 82 167 = p at hf ⊢
  refine .modEngine (.putStep (.foldl hf fun _ _ h => ?_))
  split
  · exact h.motionStep
  · exact h.seedStep

theorem Dims.stepNow {e g} (h : Dims s a) : Dims s (a.stepNow e g) :=
  .ite h.settleStep (.ite h.settleStep.count h.settleStep.stepGroup)

theorem Dims.profileStep {e} (h : Dims s a) : Dims s (a.profileStep e) := by
  dsimp only [State.profileStep]
  split
  · exact h
  · exact h.takeTrigger.stepNow

theorem Dims.taskTrigger {e t} (h : Dims s a) : Dims s (a.taskTrigger e t) := by
  unfold State.taskTrigger
  extract_lets code
  split
  · exact h
  · extract_lets s0 s1 q
    have h1 : Dims s s1 := .takeTrigger (.ite h.profileStep h)
    exact .ite h1 (.ite h1.miss h1.acceptTrigger)

theorem Dims.onEnable {e n v} (h : Dims s a) : Dims s (a.onEnable e n v) :=
  .ite h.wr (.ite (.ite h.wr.wrBit h.wr) h.wr.markSeed)

theorem Dims.setLimits {e n v a' j tol} (h : Dims s a) : Dims s (a.setLimits e n v a' j tol) := h

theorem Dims.modeRequest {c v} (h : Dims s a) : Dims s (a.modeRequest c v) :=
  .ite h (.updMode (.forFin (.ite h.wr.set.modEngine.wr.wr h.wr.set.modEngine.wr.set) fun _ _ h => .ite
    h.markSeed h))

/-! #### Cells and the bypass (spec/09) -/

theorem Dims.setCell {c new} (h : Dims s a) : Dims s (a.setCell c new) := h.within (Within.refl celling a).setCell
theorem Dims.setByp {c level} (h : Dims s a) : Dims s (a.setByp c level) := h.within (Within.refl holding a).setByp
theorem Dims.mismatch {c} (h : Dims s a) : Dims s (a.mismatch c) := h
theorem Dims.bypassDone {c} (h : Dims s a) : Dims s (a.bypassDone c) := h.wr.setCell

theorem Dims.bypassClose {c} (h : Dims s a) : Dims s (a.bypassClose c) := by
  unfold State.bypassClose
  split
  · exact h
  · exact .ite h.advanceTo.setByp.modGuard.bypassDone h.advanceTo.setByp.modGuard

theorem Dims.feedback {c closed} (h : Dims s a) : Dims s (a.feedback c closed) :=
  .ite h.wrBit.bypassDone (.ite h.wrBit.modGuard.setCell
    (.ite h.wrBit.modGuard (.ite h.wrBit (.ite h.wrBit.modGuard (.ite h.wrBit h.wrBit.mismatch)))))

theorem Dims.bypRelease {c} (h : Dims s a) : Dims s (a.bypRelease c) := by
  unfold State.bypRelease
  split
  · exact h
  · exact .ite h.advanceTo.modGuard h

theorem Dims.bypSample {c high} (h : Dims s a) : Dims s (a.bypSample c high) := by
  unfold State.bypSample
  split
  · exact h
  · exact .ite h (.ite h.advanceTo.modGuard.modGuard
      (.ite h.advanceTo.modGuard.modGuard h.advanceTo.modGuard.modGuard.feedback))

theorem Dims.bypCycle {c} (h : Dims s a) : Dims s (a.bypCycle c) := by
  unfold State.bypCycle
  split
  · exact h
  · exact h.advanceTo.modGuard

theorem Dims.bypassLate {c} (h : Dims s a) : Dims s (a.bypassLate c) := by
  unfold State.bypassLate
  split
  · exact h
  · exact h.advanceTo.wrBit.setCell

theorem Dims.openLate {c} (h : Dims s a) : Dims s (a.openLate c) := by
  unfold State.openLate
  split
  · exact h
  · exact .ite h.advanceTo.modGuard.mismatch.modGuard.setByp.setCell h.advanceTo.modGuard.mismatch

theorem Dims.mismatchLate {c} (h : Dims s a) : Dims s (a.mismatchLate c) := by
  unfold State.mismatchLate
  split
  · exact h
  · exact .ite h.advanceTo.modGuard h.advanceTo.modGuard.mismatch

theorem Dims.openContactor {c w} (h : Dims s a) : Dims s (a.openContactor c w) :=
  .ite h (.ite h.setByp.modGuard (.ite h.setByp.modGuard.setCell h.setByp.modGuard))

theorem Dims.endInsert {c} (h : Dims s a) : Dims s (a.endInsert c) := h.within (Within.refl celling a).endInsert

theorem Dims.guardRelease {c mask} (h : Dims s a) : Dims s (a.guardRelease c mask) :=
  .forFin h.wr fun _ _ h => .ite h.unhold h

theorem Dims.autoRelease {c b} (h : Dims s a) : Dims s (a.autoRelease c b) := by
  unfold State.autoRelease
  split
  · exact h
  · exact .ite h (.unhold (.ite h.advanceTo h.advanceTo.wr.modGuard))

theorem Dims.extChange {p n sn} (h : Dims s a) : Dims s (a.extChange p n sn) :=
  .ite h.set (.ite (.forFin h.set.assertSrc fun _ _ h => .ite h.trip h)
    (.ite (.forFin h.set.deassertSrc fun _ _ h => .ite h.tripEnds h) h.set))

/-! #### The device state machine (spec/04) -/

theorem Dims.enterDev {d} (h : Dims s a) : Dims s (a.enterDev d) := h

theorem Dims.endMolt {g result} (h : Dims s a) : Dims s (a.endMolt g result) :=
  h.within (Within.refl molting a).endMolt

theorem Dims.leaveRunning (h : Dims s a) : Dims s a.leaveRunning := h.within (Within.refl stopping a).leaveRunning
theorem Dims.cellsSafe (h : Dims s a) : Dims s a.cellsSafe := h.within (Within.refl celling a).cellsSafe
theorem Dims.falls (h : Dims s a) : Dims s a.falls := h
theorem Dims.toSafe {cause} (h : Dims s a) : Dims s (a.toSafe cause) := h.within (Within.refl moving a).toSafe

theorem Dims.safeCause {cause} (h : Dims s a) : Dims s (a.safeCause cause) :=
  h.within (Within.refl moving a).safeCause

theorem Dims.lockout (h : Dims s a) : Dims s a.lockout := by
  have hnow : Dims s ((a.falls.leaveRunning.enterDev 7).cellsSafe) := h.falls.leaveRunning.enterDev.cellsSafe
  unfold State.lockout
  split
  · exact hnow
  · exact hnow
  · exact hnow
  · exact hnow
  · exact h.wrBit
  · exact h.wrBit
  · exact h.wrBit
  · exact h

theorem Dims.hatchEnds (h : Dims s a) : Dims s a.hatchEnds :=
  .ite h.clrBits.set.enterDev (.ite h.clrBits.set.enterDev.wr h.clrBits.set.enterDev)

theorem Dims.checkStop (h : Dims s a) : Dims s a.checkStop := .ite h.leaveRunning.enterDev h

theorem Dims.cellReaction {c} (h : Dims s a) : Dims s (a.cellReaction c) := by
  refine .ite h (.checkStop ?_)
  split
  · exact .ite h.holdCell.setCell h.holdCell.setCell
  · exact h.holdCell.setCell
  · exact h.holdCell.setCell
  · exact h.holdCell.endInsert
  · exact h.holdCell

/-! #### Lanes and paths (spec/13) -/

theorem Dims.modLane {i f} (h : Dims s a) : Dims s (a.modLane i f) := h
theorem Dims.modPath {q f} (h : Dims s a) : Dims s (a.modPath q f) := h
theorem Dims.laneSources {i} (h : Dims s a) : Dims s (a.laneSources i) := h.within (Within.refl raising a).laneSources
theorem Dims.setLane {i st} (h : Dims s a) : Dims s (a.setLane i st) := h.within (Within.refl laning a).setLane
theorem Dims.toRefEdge (h : Dims s a) : Dims s a.toRefEdge := h

theorem Dims.acquire {p} (h : Dims s a) : Dims s (a.acquire p) := by
  unfold State.acquire
  extract_lets s0 st st' s1 pll q drop
  have h1 : Dims s s1 := .wr (.ite h.toRefEdge h)
  have hdrop {b i} (h : Dims s b) : Dims s (drop b i) := .ite h h.setLane
  exact .ite h1.set.wrBit.wrBit (hdrop (hdrop h1.set))

theorem Dims.restartPath {q rate} (h : Dims s a) : Dims s (a.restartPath q rate) :=
  h.within (Within.refl relocking a).restartPath

theorem Dims.fallBack {q} (h : Dims s a) : Dims s (a.fallBack q) :=
  .ite h (.modPath (.ite h.restartPath.wr.wrBit h.restartPath.wr))

theorem Dims.hatchFalls {q} (h : Dims s a) : Dims s (a.hatchFalls q) := .ite h.fallBack h
theorem Dims.putLine {i bs} (h : Dims s a) : Dims s (a.putLine i bs) := h
theorem Dims.soakNote {q errors trip} (h : Dims s a) : Dims s (a.soakNote q errors trip) := h

theorem Dims.slotEnds {n outcome v1 v2 v3} (h : Dims s a) : Dims s (a.slotEnds n outcome v1 v2 v3) :=
  h.within (Within.refl slotting a).slotEnds

theorem Dims.slotAborted {n} (h : Dims s a) : Dims s (a.slotAborted n) :=
  h.within (Within.refl slotting a).slotAborted

theorem Dims.pathSlotsEnd (h : Dims s a) : Dims s a.pathSlotsEnd := by
  refine .forFin h fun _ _ h => ?_
  split
  · exact .ite h.slotAborted h
  · exact h

theorem Dims.pathSources (h : Dims s a) : Dims s a.pathSources := h.within (Within.refl raising a).pathSources
theorem Dims.setHolder {q} (h : Dims s a) : Dims s (a.setHolder q) := h.wr.set.pathSources
theorem Dims.updRevert (h : Dims s a) : Dims s a.updRevert := h
theorem Dims.healthUnknown {q} (h : Dims s a) : Dims s (a.healthUnknown q) := h.modPath.wr.pathSources.updRevert

theorem Dims.releaseLease {cause} (h : Dims s a) : Dims s (a.releaseLease cause) :=
  .ite h (.ite h.pathSlotsEnd.wr.setHolder.count.raise.set h.pathSlotsEnd.wr.setHolder)

theorem Dims.releaseOn {q cause} (h : Dims s a) : Dims s (a.releaseOn q cause) := .ite h.set.releaseLease h.set

theorem Dims.noteErrors {q n} (h : Dims s a) : Dims s (a.noteErrors q n) :=
  h.within (Within.refl pathing a).noteErrors

theorem Dims.codeErrorsOn {i n} (h : Dims s a) : Dims s (a.codeErrorsOn i n) :=
  h.within (Within.refl pathing a).codeErrorsOn

theorem Dims.enqueue {i f fwd rx cut} (h : Dims s a) : Dims s (a.enqueue i f fwd rx cut) :=
  h.within (Within.refl sending a).enqueue

theorem Dims.sendOn {typ q up dst payload} (h : Dims s a) : Dims s (a.sendOn typ q up dst payload) :=
  h.within (Within.refl sending a).sendOn

theorem Dims.sendEverywhere {typ payload} (h : Dims s a) : Dims s (a.sendEverywhere typ payload) :=
  h.sendOn.sendOn.sendOn.sendOn

theorem Dims.ignored (h : Dims s a) : Dims s a.ignored := h
theorem Dims.heard {f} (h : Dims s a) : Dims s (a.heard f) := .ite h h
theorem Dims.received {f} (h : Dims s a) : Dims s (a.received f) := h.count.heard

theorem Dims.frameRow {f act} (h : Dims s a) (hact : ∀ b, Dims s b → Dims s (act b)) :
    Dims s (a.frameRow f act) :=
  .ite (hact _ h.received) h

theorem Dims.sendReliable {typ dst payload} (h : Dims s a) : Dims s (a.sendReliable typ dst payload) :=
  h.within (Within.refl sending a).sendReliable

theorem Dims.sendSafe {cause source} (h : Dims s a) : Dims s (a.sendSafe cause source) := h.sendEverywhere

theorem Dims.sendEvents (h : Dims s a) : Dims s a.sendEvents := by
  refine .ite h ?_
  split
  · exact h
  · exact .ite h h.sendOn.set

/-! #### Clocks and calibration (spec/03) -/

theorem Dims.acqSource (h : Dims s a) : Dims s a.acqSource := h.within (Within.refl raising a).acqSource

theorem Dims.lock {p counts} (h : Dims s a) : Dims s (a.lock p counts) := by
  unfold State.lock
  refine .ite h ?_
  extract_lets cycles s0 ssc st s1 clk s2 s3 s4 clk' q wake
  have h3 : Dims s s3 := h.advanceTo.toRefEdge.wrAll.set.deassertSrc.acqSource
  have hwake {b i} (h : Dims s b) : Dims s (wake b i) := .ite h.setLane h
  exact .ite h3.wrBit.wrBit.set (hwake (hwake h3))

theorem Dims.reacquire {p} (h : Dims s a) : Dims s (a.reacquire p) :=
  .ite h.acquire (.ite h.acquire.hatchFalls h.acquire)

theorem Dims.lockLost {p e} (h : Dims s a) : Dims s (a.lockLost p e) :=
  .ite h.advanceTo.countSat.assertSrc.reacquire h

theorem Dims.acqLate {p} (h : Dims s a) : Dims s (a.acqLate p) := by
  unfold State.acqLate
  split
  · exact h
  · exact h.advanceTo.wrBit.set.acqSource

theorem Dims.refLost {edges} (h : Dims s a) : Dims s (a.refLost edges) :=
  .ite h (.forFin (.set (.assertSrc (.ite h.toRefEdge h))) fun _ _ h => .ite h.wrBit.reacquire h.wrBit)

theorem Dims.refPresent {counts} (h : Dims s a) : Dims s (a.refPresent counts) :=
  .ite h (.deassertSrc (.forFin (.forFin h.toRefEdge.set fun _ _ h => .ite h.wrBit h.wrBit.acquire)
    fun _ _ h => .ite h.wrBit.wrBit.set h))

theorem Dims.oscCheck {cycles} (h : Dims s a) : Dims s (a.oscCheck cycles) := .ite h h.levelSrc.set
theorem Dims.calSource (h : Dims s a) : Dims s a.calSource := h.wrBit.levelSrc
theorem Dims.modLine {l f} (h : Dims s a) : Dims s (a.modLine l f) := h

theorem Dims.measureLine {l plausible elements} (h : Dims s a) :
    Dims s (a.measureLine l plausible elements) :=
  .ite h (.ite h.advanceTo.set.modLine.wrBit.set.wr.count.wrBit.calSource
    h.advanceTo.set.modLine.wrBit.set.calSource)

theorem Dims.applyLine {l} (h : Dims s a) : Dims s (a.applyLine l) := .ite h.advanceTo.modLine h

/-! #### The measurement front end (spec/06) -/

theorem Dims.modAdc {a' f} (h : Dims s a) : Dims s (a.modAdc a' f) := h
theorem Dims.modStream {n f} (h : Dims s a) : Dims s (a.modStream n f) := h
theorem Dims.modDriver {d f} (h : Dims s a) : Dims s (a.modDriver d f) := h
theorem Dims.putResult {k value raw ns flags} (h : Dims s a) : Dims s (a.putResult k value raw ns flags) := h.wr
theorem Dims.clearFresh {k} (h : Dims s a) : Dims s (a.clearFresh k) := h

theorem Dims.putCode {ch code ns late urgent} (h : Dims s a) :
    Dims s (a.putCode ch code ns late urgent) :=
  h.putResult.set

theorem Dims.seqStart {a'} (h : Dims s a) : Dims s (a.seqStart a') :=
  .ite h.count.wrBit (.modAdc (.foldl h fun _ _ h => h.wr))

theorem Dims.seqTrigger {a'} (h : Dims s a) : Dims s (a.seqTrigger a') := by
  refine .ite h ?_
  split
  · exact h
  · exact .ite h.take h.take.seqStart

theorem Dims.nextEntry {a'} (h : Dims s a) : Dims s (a.nextEntry a') := by
  dsimp only [State.nextEntry]
  split
  · exact h
  · exact .ite h (.ite h.modAdc (.foldl h.modAdc fun _ _ h => h.wrBit))

theorem Dims.holdEntry {a' entry late last} (h : Dims s a) : Dims s (a.holdEntry a' entry late last) :=
  .ite h.modAdc.wrBit h

theorem Dims.holdTable {a' o r} (h : Dims s a) : Dims s (a.holdTable a' o r) :=
  .nextEntry (.foldl h.advanceTo.modAdc fun _ _ h => h.holdEntry)

theorem Dims.adcHold {a'} (h : Dims s a) : Dims s (a.adcHold a') := by
  refine .ite h ?_
  split
  · exact h.advanceTo.modAdc
  · split
    · exact .ite h h.holdTable
    · split
      · exact .ite h h.advanceTo.modAdc
      · exact h

theorem Dims.request {rank ch} (h : Dims s a) : Dims s (a.request rank ch) := by
  refine .ite h ?_
  dsimp only
  split
  · exact h.modAdc
  · exact .ite h.count h.modAdc

theorem Dims.restartRun {o hold cut} (h : Dims s a) : Dims s (a.restartRun o hold cut) := by
  unfold State.restartRun
  split
  · exact h
  · exact .ite h.modAdc h

theorem Dims.urgentStart {a'} (h : Dims s a) : Dims s (a.urgentStart a') := by
  refine .ite h ?_
  split
  · exact h
  · exact .restartRun (.modAdc (.foldl h fun _ _ h => h.modAdc))

theorem Dims.setAdcs {v} (h : Dims s a) : Dims s (a.setAdcs v) := .forFin h.wr fun _ _ h => .ite h h.modAdc
theorem Dims.setPairs {v} (h : Dims s a) : Dims s (a.setPairs v) := .forFin h.wr fun _ _ h => .ite h h.modAdc.wrBit

theorem Dims.nextTest {a'} (h : Dims s a) : Dims s (a.nextTest a') := by
  unfold State.nextTest
  split <;> exact h.modAdc

theorem Dims.requeue {a' q} (h : Dims s a) : Dims s (a.requeue a' q) := .ite h (.ite h.count h.modAdc)
theorem Dims.leaveTest {a'} (h : Dims s a) : Dims s (a.leaveTest a') := h.modAdc.nextTest

theorem Dims.rehome {ch new} (h : Dims s a) : Dims s (a.rehome ch new) := by
  unfold State.rehome
  extract_lets old home me mine testing s1 s2 s3
  refine .ite h ?_
  have h2 : Dims s s2 := .foldl (.ite h.modAdc.leaveTest h.modAdc) fun _ _ h => h.requeue
  exact .ite (.ite h2.modAdc.nextTest h2.modAdc) h2

theorem Dims.wireEnds (h : Dims s a) : Dims s a.wireEnds :=
  .ite h (.wr (.foldl h.orBits.orBits fun _ _ h => h.wrBit.raise))

theorem Dims.wireStart {mask} (h : Dims s a) : Dims s (a.wireStart mask) :=
  .wireEnds (.forFin h.clrBits.clrBits.wr.set fun _ _ h => h.modAdc.nextTest)

theorem Dims.wireReference {a' code ended} (h : Dims s a) : Dims s (a.wireReference a' code ended) := h

theorem Dims.wireSettled {a' code} (h : Dims s a) : Dims s (a.wireSettled a' code) := by
  unfold State.wireSettled
  split
  · exact h
  · split
    · exact h
    · exact .ite h.advanceTo.advance.modAdc.modAdc h.advanceTo.advance.modAdc.set.nextTest.wireEnds

theorem Dims.sensorCode {ch code sec} (h : Dims s a) : Dims s (a.sensorCode ch code sec) := by
  unfold State.sensorCode
  extract_lets n
  split
  · exact h.modSensor
  · exact h

theorem Dims.adcResult {a' code} (h : Dims s a) : Dims s (a.adcResult a' code) := by
  unfold State.adcResult
  split
  · exact h
  · dsimp only
    split
    · exact .ite h.freeIn.advanceTo.modAdc.putCode.nextEntry.emitSync
        h.freeIn.advanceTo.modAdc.putCode.nextEntry
    · exact .ite h.freeIn.advanceTo.modAdc.putCode.sensorCode h.freeIn.advanceTo.modAdc.putCode
    · exact h.freeIn.advanceTo.modAdc.wireReference

theorem Dims.windowActs {ch high} (h : Dims s a) : Dims s (a.windowActs ch high) := by
  dsimp only [State.windowActs]
  split
  · exact .evalTrip (.ite h.wrBit.assertSrc.request h.wrBit.assertSrc)
  · exact .forFin (.ite h.wrBit.assertSrc.request h.wrBit.assertSrc) fun _ _ h => h.evalTrip

theorem Dims.windowTrip {ch high x} (h : Dims s a) : Dims s (a.windowTrip ch high x) :=
  .ite h (.ite h.set.windowActs h.set)

theorem Dims.windowEnds {ch high} (h : Dims s a) : Dims s (a.windowEnds ch high) := by
  refine .ite h (.ite h.set (.ite h.set.levelSrc ?_))
  split
  · exact h.set.levelSrc.tripEnds
  · exact .forFin h.set.levelSrc fun _ _ h => h.tripEnds

theorem Dims.windowRelease {ch high x} (h : Dims s a) : Dims s (a.windowRelease ch high x) := .ite h.windowEnds h
theorem Dims.refill {n} (h : Dims s a) : Dims s (a.refill n) := h
theorem Dims.restartStream {n} (h : Dims s a) : Dims s (a.restartStream n) := h

theorem Dims.restartDsck {c} (h : Dims s a) : Dims s (a.restartDsck c) :=
  h.within (Within.refl measuring a).restartDsck

theorem Dims.alignEvent {n} (h : Dims s a) : Dims s (a.alignEvent n) := by
  dsimp only [State.alignEvent]
  split
  · exact h
  · exact .ite h.take.take (.ite h.take.take.wrBit h.take.take.modStream)

theorem Dims.countCharge {n v} (h : Dims s a) : Dims s (a.countCharge n v) := .ite h h.set
theorem Dims.dropWindow {n} (h : Dims s a) : Dims s (a.dropWindow n) := h

theorem Dims.mainResult {n bits x0 x1} (h : Dims s a) : Dims s (a.mainResult n bits x0 x1) := by
  unfold State.mainResult
  refine .ite h ?_
  split
  · exact .ite h.refill h.dropWindow
  · have hf := h.freeIn (lo := 16) (hi := 31)
    generalize a.freeIn 16 31 = p at hf ⊢
    exact hf.advanceTo.dropWindow.modStream.putResult.wrBit.wrBit.countCharge.emitSync

theorem Dims.streamSource {n} (h : Dims s a) : Dims s (a.streamSource n) :=
  h.within (Within.refl raising a).streamSource

theorem Dims.setFast {n hi lo} (h : Dims s a) : Dims s (a.setFast n hi lo) :=
  h.within (Within.refl streaming a).setFast

theorem Dims.fastTrip {n bits} (h : Dims s a) : Dims s (a.fastTrip n bits) := .ite h.setFast h
theorem Dims.fastRelease {n bits} (h : Dims s a) : Dims s (a.fastRelease n bits) := .ite h.setFast h

theorem Dims.setStreamFault {n b} (h : Dims s a) : Dims s (a.setStreamFault n b) :=
  .streamSource (.modStream (.ite h.wrBit.wrBit h.wrBit))

theorem Dims.streamFault {n bits} (h : Dims s a) : Dims s (a.streamFault n bits) := .ite h.setStreamFault h
theorem Dims.streamClean {n bits} (h : Dims s a) : Dims s (a.streamClean n bits) := .ite h.setStreamFault.refill h

theorem Dims.driverPeriod {d period high} (h : Dims s a) : Dims s (a.driverPeriod d period high) :=
  .ite h h.modDriver.wr.wrBit.reschedule

theorem Dims.lowIsFault {d low} (h : Dims s a) : Dims s (a.lowIsFault d low).2 :=
  .iteSnd h (.iteSnd h (.iteSnd h h.freeVal))

theorem Dims.faultActs {d} (h : Dims s a) : Dims s (a.faultActs d) := h.wrBit.assertSrc.evalTrip
theorem Dims.setDf {d low} (h : Dims s a) : Dims s (a.setDf d low) := h

theorem Dims.driverFault {d low} (h : Dims s a) : Dims s (a.driverFault d low) :=
  .ite h.setDf (.ite h.setDf.lowIsFault.faultActs h.setDf.lowIsFault)

theorem Dims.driverFaultEnds {d} (h : Dims s a) : Dims s (a.driverFaultEnds d) :=
  .ite h.setDf h.setDf.wrBit.deassertSrc.tripEnds

theorem Dims.driverInvalid {d high} (h : Dims s a) : Dims s (a.driverInvalid d high) := .ite h.wrBit h
theorem Dims.driverBegins {d} (h : Dims s a) : Dims s (a.driverBegins d) := h
theorem Dims.driverMode {d} (h : Dims s a) : Dims s (a.driverMode d) := h
theorem Dims.restartClocks (h : Dims s a) : Dims s a.restartClocks := h.within (Within.refl measuring a).restartClocks

theorem Dims.fitCell {c} (h : Dims s a) : Dims s (a.fitCell c) :=
  .evalCell (.forFin (.foldl (.forFin h.modGuard fun _ _ h => .ite h.driverMode (.ite h.faultActs h))
    fun _ _ h => .ite h.windowActs h) fun _ _ h => h.restartStream)

theorem Dims.unfitCell {c} (h : Dims s a) : Dims s (a.unfitCell c) :=
  .applyCell (.modGuard (.wrBit (.deassertSrc
    (.forFin h fun _ _ h => h.wr.wrBit.deassertSrc.setFast.setStreamFault))))

theorem Dims.setFitted {mask} (h : Dims s a) : Dims s (a.setFitted mask) :=
  .forFin h.wr fun _ _ h => .ite h.fitCell (.ite h.unfitCell h)

/-! #### Retry of frames (spec/14) -/

theorem Dims.answer {typ f seq} (h : Dims s a) : Dims s (a.answer typ f seq) := h.sendOn

theorem Dims.acceptSeq {f} (h : Dims s a) : Dims s (a.acceptSeq f).2 :=
  .iteSnd h.answer.set (.iteSnd h.answer h.answer)

theorem Dims.resend {u} (h : Dims s a) : Dims s (a.resend u) := h.set.enqueue.count

theorem Dims.nextWaiting {f} (h : Dims s a) : Dims s (a.nextWaiting f) := by
  dsimp only [State.nextWaiting]
  split
  · exact h.set
  · exact h.set.set.enqueue

/-! #### The NV store (spec/19) -/

theorem Dims.modNv {f} (h : Dims s a) : Dims s (a.modNv f) := h
theorem Dims.commitDict {bank} (h : Dims s a) : Dims s (a.commitDict bank) := h
theorem Dims.modJobs {f} (h : Dims s a) : Dims s (a.modJobs f) := h
theorem Dims.portWrite {j} (h : Dims s a) : Dims s (a.portWrite j) := h.within (Within.refl installing a).portWrite
theorem Dims.portRequest {j} (h : Dims s a) : Dims s (a.portRequest j) := .ite h.modJobs h.portWrite
theorem Dims.portServe (h : Dims s a) : Dims s a.portServe := .ite h (.foldl h.modJobs fun _ _ h => h.portWrite)
theorem Dims.storeStart (h : Dims s a) : Dims s a.storeStart := h
theorem Dims.storeEnds {result} (h : Dims s a) : Dims s (a.storeEnds result) := h
theorem Dims.storeTick {j} (h : Dims s a) : Dims s (a.storeTick j).2 := h.freeIn

theorem Dims.storeDone {ok} (h : Dims s a) : Dims s (a.storeDone ok) := by
  unfold State.storeDone
  split
  · exact h
  · exact .ite h (.ite h.storeTick.advanceTo.modNv.commitDict.storeEnds.wrAll.modJobs h.storeEnds.raise)

theorem Dims.storeDefaults (h : Dims s a) : Dims s a.storeDefaults := h
theorem Dims.oemWrite {data} (h : Dims s a) : Dims s (a.oemWrite data) := h.portRequest
theorem Dims.modIdle {f} (h : Dims s a) : Dims s (a.modIdle f) := h
theorem Dims.fwState {phase result} (h : Dims s a) : Dims s (a.fwState phase result) := h
theorem Dims.modInstall {f} (h : Dims s a) : Dims s (a.modInstall f) := h
theorem Dims.fwDrop (h : Dims s a) : Dims s a.fwDrop := h
theorem Dims.fwStage {size} (h : Dims s a) : Dims s (a.fwStage size) := h.fwDrop.portRequest.wr.wr.modInstall
theorem Dims.fwBytes {d} (h : Dims s a) : Dims s (a.fwBytes d) := h.portRequest
theorem Dims.fwFail {result} (h : Dims s a) : Dims s (a.fwFail result) := h.within (Within.refl installing a).fwFail
theorem Dims.fwStaged (h : Dims s a) : Dims s a.fwStaged.2 := .iteSnd (.iteSnd h.freeVal.wr h.freeVal.fwFail) h

theorem Dims.fwChecked (h : Dims s a) : Dims s a.fwChecked :=
  .ite h (.ite h.freeIn.advanceTo.modIdle.fwState h.freeIn.advanceTo.fwFail.raise)

theorem Dims.fwActivate {reply} (h : Dims s a) : Dims s (a.fwActivate reply) := h
theorem Dims.fwSwitch (h : Dims s a) : Dims s a.fwSwitch := h

theorem Dims.selectBank (h : Dims s a) : Dims s a.selectBank :=
  .ite h.modNv.modInstall (.ite h.modNv.modInstall.wrBit.raise h.modNv.modInstall.raise.set)

theorem Dims.reloadBank (h : Dims s a) : Dims s a.reloadBank.2 := .iteSnd h (.iteSnd h.modInstall.wrBit.raise h.raise)

theorem Dims.fwReset {phase} (h : Dims s a) : Dims s (a.fwReset phase) :=
  .ite h.modJobs.modInstall.fwState
    (.ite h.modJobs.modInstall.modIdle.fwState
    (.ite h.modJobs.modInstall.wr (.ite h.modJobs.modInstall.fwState h.modJobs.modInstall)))

/-! #### The message objects (spec/16) -/

theorem Dims.modCan {u f} (h : Dims s a) : Dims s (a.modCan u f) := h
theorem Dims.modMsg {u n f} (h : Dims s a) : Dims s (a.modMsg u n f) := h

theorem Dims.setupSystem (h : Dims s a) : Dims s a.setupSystem := by
  refine .forFin h fun _ _ h => ?_
  refine .foldl h fun _ _ h => ?_
  split <;> exact h.modMsg

/-! #### Bring-up and enumeration (spec/13) -/

theorem Dims.offerLease (h : Dims s a) : Dims s a.offerLease := h.within (Within.refl pselling a).offerLease
theorem Dims.updPsel (h : Dims s a) : Dims s a.updPsel := h.within (Within.refl pselling a).updPsel
theorem Dims.wakeRun (h : Dims s a) : Dims s a.wakeRun := h.within (Within.refl laning a).wakeRun

theorem Dims.enterHatch {fromCocoon} (h : Dims s a) : Dims s (a.enterHatch fromCocoon) :=
  h.within (Within.refl hatching a).enterHatch

theorem Dims.enumDown {q m} (h : Dims s a) : Dims s (a.enumDown q m) := h.sendOn
theorem Dims.enumUp {q m} (h : Dims s a) : Dims s (a.enumUp q m) := h.sendOn
theorem Dims.assignFromManager {q sub} (h : Dims s a) : Dims s (a.assignFromManager q sub) := h.enumDown
theorem Dims.endScan {q} (h : Dims s a) : Dims s (a.endScan q) := .ite h h.modPath.laneSources.laneSources

theorem Dims.completeHatch (h : Dims s a) : Dims s a.completeHatch :=
  .ite h (.updPsel (.hatchEnds (.setupSystem
    (.wr (.set (.forFin h.wrAll.wrBit.set fun _ _ h => h.endScan.modPath))))))

theorem Dims.finishEnum (h : Dims s a) : Dims s a.finishEnum :=
  .completeHatch (.forFin h fun _ _ h => h.enumDown.modPath)

theorem Dims.afterEnumerated (h : Dims s a) : Dims s a.afterEnumerated := .ite (.ite h.finishEnum (.ite h h.set)) h

theorem Dims.laneLost {i up cause} (h : Dims s a) : Dims s (a.laneLost i up cause) :=
  .ite (.hatchFalls (.ite h h.releaseOn.updRevert)) (.ite h h.releaseOn.updRevert)

theorem Dims.los {i peak ticks} (h : Dims s a) : Dims s (a.los i peak ticks) :=
  .ite h (.laneLost (.ite h.count.wr.laneSources h.count.wr.setLane))

theorem Dims.losEnds {i least ticks} (h : Dims s a) : Dims s (a.losEnds i least ticks) :=
  .ite h (.ite h.wrBit.setLane h.wrBit.laneSources)

theorem Dims.lol {i why} (h : Dims s a) : Dims s (a.lol i why) := by
  unfold State.lol
  refine .ite h ?_
  extract_lets up s1 broken s2 s4
  have h1 : Dims s s1 := h.count.wrBit
  have h2 : Dims s s2 := by
    unfold s2
    split
    · exact h1.wrBit.count.modLane
    · exact h1.wrBit
    · exact h1.codeErrorsOn
    · exact h1.codeErrorsOn
  exact .laneLost (.ite h2.laneSources h2.setLane)

theorem Dims.aligned {i} (h : Dims s a) : Dims s (a.aligned i) := by
  unfold State.aligned
  have hf := h.freeIn (lo := 13) (hi := 31)
  generalize a.freeIn 13 31 = p at hf ⊢
  exact .ite h hf.modLane.wrBit.wrBit.setLane

theorem Dims.cdrLocked {i} (h : Dims s a) : Dims s (a.cdrLocked i) := .ite h.wrBit h

theorem Dims.commaAlign {i commas} (h : Dims s a) : Dims s (a.commaAlign i commas) :=
  .ite h (.ite h.aligned h.cdrLocked)

theorem Dims.slipTest {i headers} (h : Dims s a) : Dims s (a.slipTest i headers) := by
  unfold State.slipTest
  have hf := h.freeIn (lo := 1538) (hi := 3125)
  generalize a.freeIn 1538 3125 = p at hf ⊢
  exact .ite h (.ite hf.advanceTo.modLane.aligned hf.advanceTo.modLane.cdrLocked.wr)

theorem Dims.reachedUp {i} (h : Dims s a) : Dims s (a.reachedUp i) := by
  unfold State.reachedUp
  extract_lets q p s0 b s1 s2
  have h0 : Dims s s0 := .ite h.healthUnknown h
  have h1 : Dims s s1 := .ite h0.modPath.laneSources.laneSources h0
  have h2 : Dims s s2 := .ite h1 h1.endScan.modPath
  refine .ite h2 (.ite (.ite h2 ?_) (.ite ?_ h2))
  · split
    · exact h2.wrBit.modPath.assignFromManager
    · exact .ite h2.modPath.assignFromManager h2
  · split
    · exact h2.enumDown
    · exact h2

theorem Dims.blockIn {i x} (h : Dims s a) : Dims s (a.blockIn i x).2 := h.within (Within.refl pathing a).blockIn

theorem Dims.train {i tflags position uid} (h : Dims s a) : Dims s (a.train i tflags position uid) :=
  .ite h (.ite (.ite (.reachedUp (.setLane (.modLane (.ite h.wrAll.wrBit h.wrAll))))
    (.modLane (.ite h.wrAll.wrBit h.wrAll))) (.ite h.modLane.wrBit h.modLane))

theorem Dims.trainBlock {i x} (h : Dims s a) : Dims s (a.trainBlock i x) := by
  refine .ite h ?_
  have hb := h.blockIn (i := i) (x := x)
  generalize a.blockIn i x = p at hb ⊢
  split
  · exact hb.train
  · exact hb
  · exact hb.modLane

theorem Dims.fillerIn {i drift x} (h : Dims s a) : Dims s (a.fillerIn i drift x) := by
  refine .ite h ?_
  have hb := h.blockIn (i := i) (x := x)
  generalize a.blockIn i x = p at hb ⊢
  split
  · exact .ite hb.modLane.count hb.modLane
  · exact hb.modLane

theorem Dims.fillerFill {i drift} (h : Dims s a) : Dims s (a.fillerFill i drift) := .ite h h.modLane.count
theorem Dims.fillerOut {i} (h : Dims s a) : Dims s (a.fillerOut i) := .ite h h.advanceTo.modLane.putLine

theorem Dims.enumDelay (h : Dims s a) : Dims s a.enumDelay := by
  unfold State.enumDelay
  split
  · exact h
  · exact .ite h.advanceTo.set h.advanceTo.set.assignFromManager.assignFromManager

theorem Dims.runningPartner {q rate} (h : Dims s a) : Dims s (a.runningPartner q rate).2 :=
  .iteSnd h (.iteSnd h (.iteSnd h.freeVal h))

theorem Dims.takeAssign {q b sub} (h : Dims s a) : Dims s (a.takeAssign q b sub) := by
  unfold State.takeAssign
  refine .ite h ?_
  extract_lets m
  have hp : Dims s (if sub = 0 && a.dev == 1 && a.laneRate (uLane q) == 0 then a.runningPartner q m.rate
      else (false, a)).2 := .iteSnd h.runningPartner h
  generalize (if sub = 0 && a.dev == 1 && a.laneRate (uLane q) == 0 then a.runningPartner q m.rate
      else (false, a)) = p at hp ⊢
  have h1 := (hp.endScan (q := q)).modPath (q := q) (f := fun p => { p with assigned := true })
  exact .ite h1.set.wrBit.enumUp (.ite h1.set.wr.wr.modPath.enumUp
    (.ite h1.set.wr.enumUp (.ite h1.set.wr.enumDown h1.set.wr.enumUp)))

theorem Dims.takeEnd {q b} (h : Dims s a) : Dims s (a.takeEnd q b) := by
  unfold State.takeEnd
  refine .ite h ?_
  extract_lets m s0 s1 r s2 s3 s4
  have h1 : Dims s s1 := .ite h.wr.wrBit.wrBit h.wr.wrBit
  have h2 : Dims s s2 := h1.wr
  exact .ite h1.modPath.wrBit.afterEnumerated
    (.ite h2.wrBit.afterEnumerated h2.enumDown.modPath.laneSources.laneSources)

theorem Dims.takeRateStep {q b} (h : Dims s a) : Dims s (a.takeRateStep q b) :=
  .ite h h.wr.wrBit.enumDown.modPath.laneSources.laneSources

theorem Dims.stepPll {q} (h : Dims s a) : Dims s (a.stepPll q) := by
  unfold State.stepPll
  split
  · exact h
  · exact .ite h.modPath h.advanceTo.modPath.restartPath

theorem Dims.stepLate {q} (h : Dims s a) : Dims s (a.stepLate q) := by
  unfold State.stepLate
  split
  · exact h
  · exact .ite h.advanceTo.modPath h.advanceTo.modPath.fallBack

theorem Dims.takeDone {q b} (h : Dims s a) : Dims s (a.takeDone q b) := by
  unfold State.takeDone
  refine .ite h ?_
  extract_lets m s1 s2 s3 s4
  have h3 : Dims s s3 := .modPath (.wrBit (.wrAll (.ite h.modPath h.enumDown)))
  have h4 : Dims s s4 := .ite h3.wrBit.raise h3
  exact .ite h4.completeHatch.pathSources h3

theorem Dims.doneTo {pos} (h : Dims s a) : Dims s (a.doneTo pos) := .forFin h.set fun _ _ h => h.sendOn

theorem Dims.yWaitEnds (h : Dims s a) : Dims s a.yWaitEnds := by
  unfold State.yWaitEnds
  split
  · dsimp only
    split
    · exact h.advanceTo.doneTo
    · exact h
  · exact .ite h.advanceTo.set.finishEnum h.advanceTo.set

theorem Dims.roleConflict {pos} (h : Dims s a) : Dims s (a.roleConflict pos) := by
  refine .ite h (.updPsel (.set ?_))
  split
  · exact h.wrBit.wr
  · exact h.wrBit

theorem Dims.takeJoin {q b} (h : Dims s a) : Dims s (a.takeJoin q b) :=
  .ite h (.ite h.wr.count.set.set.doneTo h.wr.count.set.set)

theorem Dims.dwellEnds {q} (h : Dims s a) : Dims s (a.dwellEnds q) := by
  unfold State.dwellEnds
  split
  · exact .ite h.advanceTo.endScan h.advanceTo.modPath.restartPath
  · exact h

theorem Dims.wakeRepeat (h : Dims s a) : Dims s a.wakeRepeat := by
  unfold State.wakeRepeat
  split
  · exact .ite h.advanceTo.set h.advanceTo.set.wakeRun
  · exact h

theorem Dims.enumRow {i act} (h : Dims s a) (hact : ∀ b, Dims s b → Dims s (act b)) :
    Dims s (a.enumRow i act) :=
  .ite (hact _ h.count) h

/-! #### Firings (spec/18) -/

theorem Dims.modCapture {f} (h : Dims s a) : Dims s (a.modCapture f) := h
theorem Dims.fireCond {k instant} (h : Dims s a) : Dims s (a.fireCond k instant) := .ite h.wrBit.modCapture h.wrBit

theorem Dims.fireKind {kind accepts instant} (h : Dims s a) :
    Dims s (a.fireKind kind accepts instant) :=
  .forFin h fun _ _ h => .ite h.fireCond h

/-! #### Network time (spec/14) -/

theorem Dims.setNet {u} (h : Dims s a) : Dims s (a.setNet u) := h.set.rebaseNet.count

theorem Dims.stepNet {d} (h : Dims s a) (ht : a.stepNet d = some t) : Dims s t := by
  unfold State.stepNet at ht
  simp only [Option.ite_none_left_eq_some, Option.some.injEq] at ht
  obtain ⟨-, rfl⟩ := ht
  exact h.setNet

theorem Dims.hostStep {d} (h : Dims s a) (ht : a.hostStep d = some t) : Dims s t := by
  unfold State.hostStep at ht
  extract_lets b at ht
  split at ht
  · obtain ⟨-, -, rfl⟩ := Option.map_eq_some_iff.mp ht
    exact h.advance.count
  · exact h.advance.stepNet ht

theorem Dims.timeSync {f mode} (h : Dims s a) : Dims s (a.timeSync f mode) :=
  .ite h (.ite h.ignored (.ite h.wr.setNet.set (.ite (h.wr.getD fun _ => h.wr.stepNet) h.wr)))

theorem Dims.exchangeDue (h : Dims s a) : Dims s a.exchangeDue := by
  refine .ite h ?_
  split
  · exact h
  · exact h.advanceTo.sendOn.set

theorem Dims.delayReq {f rx} (h : Dims s a) : Dims s (a.delayReq f rx) := .ite h h.enqueue
theorem Dims.judgeConverged (h : Dims s a) : Dims s a.judgeConverged := h

theorem Dims.delayResp {f rx} (h : Dims s a) : Dims s (a.delayResp f rx) := by
  refine .ite h ?_
  split
  · exact .ite h (.ite h.wrAll.set.judgeConverged.set.sendOn h.wrAll.set.judgeConverged)
  · exact h

theorem Dims.tsyncHigh (h : Dims s a) : Dims s a.tsyncHigh := h

theorem Dims.fire {k} (h : Dims s a) : Dims s (a.fire k) := by
  unfold State.fire
  refine .ite h ?_
  extract_lets u s0 s1 late st s2 s3 per n t m s4 s5
  have h3 : Dims s s3 := .forFin h.advance.emit.wr.count fun _ _ h => .ite h.reanchor h
  have h4 : Dims s s4 := .ite h3.wrBit h3.wr.count
  exact .ite h4.fireKind.tsyncHigh h4.fireKind

theorem Dims.tsyncStart (h : Dims s a) : Dims s a.tsyncStart := .ite h.advance.tsyncHigh h

theorem Dims.tsyncFall (h : Dims s a) : Dims s a.tsyncFall := by
  unfold State.tsyncFall
  split
  · exact h
  · exact h.advanceTo.set

/-! #### Capture (spec/18) -/

theorem Dims.ceqMark (h : Dims s a) : Dims s a.ceqMark := h
theorem Dims.ceqRewind (h : Dims s a) : Dims s a.ceqRewind := h
theorem Dims.ceqRelease (h : Dims s a) : Dims s a.ceqRelease := h
theorem Dims.underrun (h : Dims s a) : Dims s a.underrun := .ite h.wrBit.count h.wrBit.count.raise

theorem Dims.ceqRead {n} (h : Dims s a) : Dims s (a.ceqRead n).2 := by
  unfold State.ceqRead
  exact .iteSnd h.underrun (.snd h.modCapture)

theorem Dims.trackSample {t k instant} (h : Dims s a) : Dims s (a.trackSample t k instant).2 := by
  unfold State.trackSample
  split
  · exact h
  · dsimp only
    split
    · exact .snd h.modCapture
    · exact .snd (.forFin h.modCapture.wr fun _ _ h => .ite (.ite h.modCapture.fireCond h.modCapture) h)

theorem Dims.sampleAt {exact} (h : Dims s a) : Dims s (a.sampleAt exact) := by
  unfold State.sampleAt
  refine .ite h (.ite h.count ?_)
  extract_lets k inst
  split
  rename_i hs s1 hfold
  have hf : Dims s (hs, s1).2 := by
    rw [← hfold]
    exact .foldlSnd (.snd h) fun _ _ h => h.trackSample
  exact hf.modCapture

theorem Dims.captureSample (h : Dims s a) : Dims s a.captureSample := by
  unfold State.captureSample
  split
  · exact h
  · exact h.modCapture.advanceTo.sampleAt

theorem Dims.lateMissed (h : Dims s a) : Dims s a.lateMissed := h

theorem Dims.decideRecord {x late mask} (h : Dims s a) : Dims s (a.decideRecord x late mask) := by
  refine .ite h.count.wrBit.raise ?_
  dsimp only
  split
  · exact .sendEverywhere (.forFin h.modCapture fun _ _ h => .ite h.modCapture h)
  · exact .forFin h.modCapture fun _ _ h => .ite h.modCapture h

theorem Dims.captureDecide {cond} (h : Dims s a) : Dims s (a.captureDecide cond) := by
  unfold State.captureDecide
  have hf := h.freeIn (lo := 31) (hi := 62)
  generalize a.freeIn 31 62 = p at hf ⊢
  split
  · exact h
  · split
    · exact h
    · refine .ite hf.advanceTo.decideRecord.modCapture ?_
      dsimp only
      split
      · refine .ite hf.advanceTo.modCapture.modCapture (.ite (.raise (.ite ?_ ?_)) ?_)
        · exact hf.advanceTo.modCapture.modCapture.count
        · exact hf.advanceTo.modCapture.modCapture
        · exact hf.advanceTo.modCapture.lateMissed
      · exact .ite hf.advanceTo.modCapture.lateMissed hf.advanceTo.modCapture

theorem Dims.closeRecord {aborted} (h : Dims s a) : Dims s (a.closeRecord aborted) :=
  h.within (Within.refl recording a).closeRecord

theorem Dims.recordClose (h : Dims s a) : Dims s a.recordClose := by
  unfold State.recordClose
  have hf := h.freeIn (lo := 113) (hi := 229)
  generalize a.freeIn 113 229 = p at hf ⊢
  split
  · exact h
  · exact .ite h hf.advanceTo.closeRecord

theorem Dims.captureStop (h : Dims s a) : Dims s a.captureStop := h.within (Within.refl recording a).captureStop

theorem Dims.captureOn {on} (h : Dims s a) : Dims s (a.captureOn on) :=
  .ite (.ite h h.wr.modCapture) h.captureStop.wr.modCapture

theorem Dims.captureArm (h : Dims s a) : Dims s a.captureArm := .ite h h.modCapture
theorem Dims.captureForce (h : Dims s a) : Dims s a.captureForce := h.fireCond
theorem Dims.calNext {line} (h : Dims s a) : Dims s (a.calNext line) := h

theorem Dims.calEdge {line} (h : Dims s a) : Dims s (a.calEdge line) := by
  unfold State.calEdge
  split
  · exact h
  · exact .ite h (.calNext (.ite h.wr.wrBit h.wrBit))

theorem Dims.trigFall {line} (h : Dims s a) : Dims s (a.trigFall line) := .ite h h.wr.calEdge.fireKind

theorem Dims.trigRelease {line} (h : Dims s a) : Dims s (a.trigRelease line) := by
  unfold State.trigRelease
  split
  · exact h
  · exact h.advanceTo.modCapture

theorem Dims.calArm (h : Dims s a) : Dims s a.calArm := h

theorem Dims.calLate {line} (h : Dims s a) : Dims s (a.calLate line) := by
  unfold State.calLate
  split
  · exact h
  · exact .ite h h.advanceTo.wrBit.calNext

theorem Dims.triggerFrame {f} (h : Dims s a) : Dims s (a.triggerFrame f) := .ite h (.ite h.ignored h.fireKind)
theorem Dims.setEgress {v} (h : Dims s a) : Dims s (a.setEgress v) := .ite h h.ceqRewind.wr.modCapture

theorem Dims.captureSend (h : Dims s a) : Dims s a.captureSend := by
  refine .ite h ?_
  dsimp only
  split
  · exact h
  · exact h.ceqMark.modCapture.sendReliable

theorem Dims.egressAck {f} (h : Dims s a) : Dims s (a.egressAck f) := .ite h h.ceqRelease.count.modCapture
theorem Dims.egressFail {f} (h : Dims s a) : Dims s (a.egressFail f) := .ite h h.ceqRewind.count.modCapture

theorem Dims.egressRetry (h : Dims s a) : Dims s a.egressRetry := by
  dsimp only [State.egressRetry]
  split
  · exact .ite h.advanceTo.modCapture h.advanceTo.modCapture.set.resend
  · exact h

theorem Dims.relayPacket {f} (h : Dims s a) (ht : a.relayPacket f = some t) : Dims s t := by
  unfold State.relayPacket at ht
  simp only [Option.ite_none_left_eq_some, Option.some.injEq] at ht
  obtain ⟨-, rfl⟩ := ht
  exact h.modCapture.count.count

theorem Dims.captureFrame {f} (h : Dims s a) : Dims s (a.captureFrame f) := by
  refine .ite h.ignored ?_
  split
  · exact h.count.wrBit.raise
  · exact .ite (h.acceptSeq.getD fun _ => h.acceptSeq.relayPacket) h.acceptSeq

/-! #### The balls and the test port (spec/02) -/

theorem Dims.loadJtag {i} (h : Dims s a) : Dims s (a.loadJtag i) := h.set.applyAll
theorem Dims.scanOut {bits} (h : Dims s a) : Dims s (a.scanOut bits) := h
theorem Dims.bypassScan {bits} (h : Dims s a) : Dims s (a.bypassScan bits) := h
theorem Dims.boundaryScan {outside shifted} (h : Dims s a) : Dims s (a.boundaryScan outside shifted) := h

theorem Dims.extest {scan} (h : Dims s a) : Dims s (a.extest scan) := by
  dsimp only [State.extest]
  split
  · exact h.loadJtag.scanOut
  · exact .ite h.loadJtag.boundaryScan h.loadJtag.bypassScan

theorem Dims.jtagId {scan} (h : Dims s a) : Dims s (a.jtagId scan) := .ite h.loadJtag.scanOut.set h.loadJtag.scanOut

/-! #### Thermal supervision (spec/11) -/

theorem Dims.sampleMissed {n} (h : Dims s a) : Dims s (a.sampleMissed n) := h

theorem Dims.sampleDue {n} (h : Dims s a) : Dims s (a.sampleDue n) := by
  unfold State.sampleDue
  split
  · exact h
  · exact .ite h.modSensor (.ite h.advanceTo.modSensor.modSensor
      (.ite h.advanceTo.modSensor.request.sampleMissed h.advanceTo.modSensor.request))

theorem Dims.declareBroken {n cause} (h : Dims s a) : Dims s (a.declareBroken n cause) := .ite h h.wr.modSensor

theorem Dims.crossCheck {n t} (h : Dims s a) : Dims s (a.crossCheck n t) :=
  .ite h (.ite h.declareBroken.raise h.modSensor)

theorem Dims.writeFactors (h : Dims s a) : Dims s a.writeFactors :=
  .forFin h.wr fun _ _ h => .ite h.wrAll.raise h.wrAll

theorem Dims.modLockout {g f} (h : Dims s a) : Dims s (a.modLockout g f) := h

theorem Dims.tripGroup {n} (h : Dims s a) : Dims s (a.tripGroup n) := by
  dsimp only [State.tripGroup]
  split
  · exact h.modLockout.wrBit.raise.cellReaction
  · exact h.modLockout.raise.lockout

theorem Dims.countTrip {n keep} (h : Dims s a) : Dims s (a.countTrip n keep) :=
  .ite h (.ite (.ite h.modSensor.tripGroup h.modSensor) h.modSensor)

theorem Dims.sampleProcess {n} (h : Dims s a) : Dims s (a.sampleProcess n) := by
  unfold State.sampleProcess
  have hf := h.freeIn (lo := 103) (hi := 208)
  generalize a.freeIn 103 208 = p at hf ⊢
  split
  · exact .ite h.sampleMissed h
  · refine .writeFactors (.countTrip (.modSensor (.wr ?_)))
    split
    · exact hf.advanceTo.declareBroken.raise
    · exact hf.advanceTo.crossCheck

theorem Dims.lockoutCells (h : Dims s a) : Dims s a.lockoutCells := .forFin h fun _ _ h => .ite h.cellReaction h

theorem Dims.recordWritten {g ok} (h : Dims s a) : Dims s (a.recordWritten g ok) :=
  .ite h (.ite h.modLockout.set (.ite h.modLockout.wrBit.raise.wr h.modLockout.wrBit.raise))

theorem Dims.rearmGroup {g} (h : Dims s a) : Dims s (a.rearmGroup g) :=
  .ite (.wr (.forFin h fun _ _ h => h.modLockout))
    (.ite (.raise (.wr (.wrBit (.forFin h fun _ _ h => h.modLockout))))
    (.wr (.wrBit (.modLockout (.forFin h fun _ _ h => h.modLockout)))))

theorem Dims.rearmGroups {mask} (h : Dims s a) : Dims s (a.rearmGroups mask) :=
  .forFin h fun _ _ h => .ite h.rearmGroup h

theorem Dims.clearBroken {mask} (h : Dims s a) : Dims s (a.clearBroken mask) :=
  .forFin h.clrBits fun _ _ h => .ite h.modSensor h

/-! #### The fault collector (spec/12) -/

theorem Dims.setSticky {m} (h : Dims s a) : Dims s (a.setSticky m) := .ite h.wrAll.wr h.wrAll
theorem Dims.route (h : Dims s a) : Dims s a.route := h
theorem Dims.notify {rises} (h : Dims s a) : Dims s (a.notify rises) := h

theorem Dims.fireRises {rises} (h : Dims s a) : Dims s (a.fireRises rises) := by
  unfold State.fireRises
  have hf := h.freeIn (lo := 1) (hi := 2)
  generalize a.freeIn 1 2 = p at hf ⊢
  exact .ite hf.fireKind h

theorem Dims.selfFault {cause} (h : Dims s a) : Dims s (a.selfFault cause) :=
  .ite h.wrBit h.orBits.wrBit.holdAll.safeCause.sendSafe.fireRises.notify

theorem Dims.cellRises {rises} (h : Dims s a) : Dims s (a.cellRises rises) :=
  .forFin h fun _ _ h => .ite h.cellReaction (.ite h.cellReaction h)

theorem Dims.deviceRises {rises} (h : Dims s a) : Dims s (a.deviceRises rises) := by
  dsimp only [State.deviceRises]
  split
  · exact h.holdAll.safeCause.sendSafe
  · exact .ite h h.holdAll.safeCause

theorem Dims.decide {equal parityBad} (h : Dims s a) : Dims s (a.decide equal parityBad) :=
  .ite (.notify (.route (.fireRises (.setSticky (.freeVal (.freeVal (.set (.ite h.selfFault h))))))))
    (.notify (.route (.deviceRises
    (.lockoutCells (.cellRises (.fireRises (.setSticky (.set (.ite h.selfFault h)))))))))

theorem Dims.decisionLate (h : Dims s a) : Dims s a.decisionLate := h.advanceTo.selfFault
theorem Dims.clearSticky {w mask} (h : Dims s a) : Dims s (a.clearSticky w mask) := h.setSticky
theorem Dims.eventFrame {f} (h : Dims s a) : Dims s (a.eventFrame f) := .ite h (.ite h.ignored h.wrBit.set)
theorem Dims.safeFrame {f} (h : Dims s a) : Dims s (a.safeFrame f) := .ite h.safeCause h.ignored

/-! #### Path redundancy (spec/15) -/

theorem Dims.renew (h : Dims s a) : Dims s a.renew := h
theorem Dims.moveLease {q} (h : Dims s a) : Dims s (a.moveLease q) := h.setHolder.updRevert
theorem Dims.revertOn {q} (h : Dims s a) : Dims s (a.revertOn q) := .ite h.moveLease.count.raise h

theorem Dims.atDue (h : Dims s a) : Dims s a.atDue :=
  .ite h.set.wrBit.set (.assertSrc (.wrBit (.wrBit (.ite h.set.set h.set))))

theorem Dims.dueInstant (h : Dims s a) : Dims s a.dueInstant := by
  unfold State.dueInstant
  split
  · exact h
  · exact .updRevert (.atDue (.ite h.advanceTo.releaseLease h.advanceTo))

theorem Dims.leaseExpires (h : Dims s a) : Dims s a.leaseExpires := by
  unfold State.leaseExpires
  split
  · exact h
  · exact h.advanceTo.releaseLease.updRevert

theorem Dims.leaseFrame {f action} (h : Dims s a) : Dims s (a.leaseFrame f action) := by
  refine .ite h (.ite h.ignored ?_)
  dsimp only
  split
  · exact .ite (.ite h.wr.renew h.wr) h.ignored
  · exact .ite (.ite h.releaseOn.updRevert h.releaseOn.updRevert.ignored) h.ignored
  · exact .ite (.ite h h.moveLease) h.ignored

theorem Dims.setHealth {q st cause} (h : Dims s a) : Dims s (a.setHealth q st cause) :=
  .updRevert (.pathSources (.wr (.ite h.wrAll h)))

theorem Dims.pselChange {low ticks} (h : Dims s a) : Dims s (a.pselChange low ticks) :=
  .ite h (.moveLease (.ite h.set.wrBit.wr.wrBit.set h.set.wrBit.wr.wrBit.set.wrBit.modPath))

theorem Dims.pselStuck (h : Dims s a) : Dims s a.pselStuck := by
  unfold State.pselStuck
  split
  · exact h
  · exact .ite h (.ite h.advanceTo.set.wrBit.modPath.setHealth h)

theorem Dims.pselHoldoff (h : Dims s a) : Dims s a.pselHoldoff := by
  unfold State.pselHoldoff
  split
  · exact h
  · exact h.advanceTo.set.updPsel

theorem Dims.beaconSend {p q} (h : Dims s a) : Dims s (a.beaconSend p q) := .ite h h.advanceTo.sendOn.set.modPath

theorem Dims.beaconReceive {f} (h : Dims s a) : Dims s (a.beaconReceive f) :=
  .ite h (.ite h.modPath.noteErrors.soakNote h.modPath.noteErrors.soakNote.count)

theorem Dims.echoSend (h : Dims s a) : Dims s a.echoSend :=
  .ite h (.forFin h.advanceTo fun _ _ h => .ite h h.sendOn.modPath)

theorem Dims.echoReturn {f} (h : Dims s a) : Dims s (a.echoReturn f) := .ite h h.sendOn
theorem Dims.echoReply {f rx} (h : Dims s a) : Dims s (a.echoReply f rx) := .ite h h.wr.soakNote.modPath
theorem Dims.berOf {errors bits} (h : Dims s a) : Dims s (a.berOf errors bits).2 := .iteSnd h.freeVal h

theorem Dims.badPath {q cause} (h : Dims s a) : Dims s (a.badPath q cause) :=
  .ite h.modPath.freeVal.setHealth h.modPath.setHealth

theorem Dims.evalHealth {q bits errors others margin} (h : Dims s a) :
    Dims s (a.evalHealth q bits errors others margin) := by
  dsimp only [State.evalHealth]
  split
  · exact h.advanceTo.codeErrorsOn.codeErrorsOn.modPath.berOf.wrAll.modPath.badPath
  · exact .ite h.advanceTo.codeErrorsOn.codeErrorsOn.modPath.berOf.wrAll.modPath.modPath.setHealth
      h.advanceTo.codeErrorsOn.codeErrorsOn.modPath.berOf.wrAll.modPath.modPath.setHealth

theorem Dims.setCanHolder {u} (h : Dims s a) : Dims s (a.setCanHolder u) :=
  h.within (Within.refl leasing a).setCanHolder

theorem Dims.setCanLease {v} (h : Dims s a) : Dims s (a.setCanLease v) := h
theorem Dims.canRelease (h : Dims s a) : Dims s a.canRelease := h.within (Within.refl leasing a).canRelease

theorem Dims.canExpires (h : Dims s a) : Dims s a.canExpires := by
  unfold State.canExpires
  split
  · exact h
  · exact h.advanceTo.canRelease

theorem Dims.revertReady {can} (h : Dims s a) : Dims s (a.revertReady can) := by
  refine .ite ?_ ?_
  · split
    · exact h.advanceTo.setCanHolder.count.raise
    · exact h
  · split
    · exact h.advanceTo.set
    · exact h

/-! #### The CAN FD controllers (spec/16) -/

theorem Dims.setTiming {u t} (h : Dims s a) : Dims s (a.setTiming u t) := h
theorem Dims.integrate {u} (h : Dims s a) : Dims s (a.integrate u) := h

theorem Dims.countRecovery {u} (h : Dims s a) : Dims s (a.countRecovery u) := by
  unfold State.countRecovery
  split
  · exact h
  · exact h.freeIn.wr

theorem Dims.canApply {u} (h : Dims s a) : Dims s (a.canApply u) := h
theorem Dims.canModeBits {u} (h : Dims s a) : Dims s (a.canModeBits u) := .ite h h.modCan

theorem Dims.canTimingChange {u} (h : Dims s a) : Dims s (a.canTimingChange u) := by
  unfold State.canTimingChange
  split
  · exact h
  · exact .ite h h.advanceTo.setTiming.modCan.wrBit.integrate

theorem Dims.canBoot {u} (h : Dims s a) : Dims s (a.canBoot u) := .ite h.setTiming h.setTiming.wrBit
theorem Dims.canHealth {u} (h : Dims s a) : Dims s (a.canHealth u) := h.within (Within.refl leasing a).canHealth
theorem Dims.canState {u} (h : Dims s a) : Dims s (a.canState u) := h.wr.levelSrc.levelSrc.levelSrc.canHealth
theorem Dims.requestTx {u n} (h : Dims s a) : Dims s (a.requestTx u n) := h.within (Within.refl answering a).requestTx
theorem Dims.cancelTx {u n} (h : Dims s a) : Dims s (a.cancelTx u n) := h
theorem Dims.writeMsg {u n d} (h : Dims s a) : Dims s (a.writeMsg u n d) := .ite h.modMsg.requestTx h.modMsg.cancelTx
theorem Dims.clearNew {u n} (h : Dims s a) : Dims s (a.clearNew u n) := h
theorem Dims.recDown {u} (h : Dims s a) : Dims s (a.recDown u) := .ite h (.ite h.wr.canState h.freeVal.wr.canState)

theorem Dims.canReceive {u f} (h : Dims s a) : Dims s (a.canReceive u f) := by
  refine .ite h (.ite h.wrBit.count.recDown.canHealth ?_)
  split
  · exact h.wrBit.count.recDown.canHealth
  · exact .ite h.wrBit.count.recDown.canHealth.modMsg.clearNew.count h.wrBit.count.recDown.canHealth.modMsg

theorem Dims.loadSystem {u n ident d} (h : Dims s a) : Dims s (a.loadSystem u n ident d) :=
  h.within (Within.refl answering a).loadSystem

theorem Dims.loadEvent {u} (h : Dims s a) : Dims s (a.loadEvent u) := h.within (Within.refl answering a).loadEvent
theorem Dims.eventSent {u} (h : Dims s a) : Dims s (a.eventSent u) := h
theorem Dims.loadOut {u} (h : Dims s a) : Dims s (a.loadOut u) := h.within (Within.refl answering a).loadOut

theorem Dims.dropFd {u} (h : Dims s a) : Dims s (a.dropFd u) := by
  refine .ite h ?_
  dsimp only
  split
  · exact .ite h.modCan.modCan.modMsg h.modCan
  · exact h.modCan

theorem Dims.canStart {u} (h : Dims s a) : Dims s (a.canStart u) := by
  refine .ite h ?_
  dsimp only
  split
  · exact h.advanceTo.dropFd.loadOut
  · exact .ite h.advanceTo.dropFd.loadOut.wrBit.modCan.freeVal.wr.wrBit h.advanceTo.dropFd.loadOut.wrBit.modCan

theorem Dims.stampEntry {u t} (h : Dims s a) : Dims s (a.stampEntry u t) :=
  .ite h (.ite h.wr.countSat.canState h.modCan)

theorem Dims.txDone {u t} (h : Dims s a) : Dims s (a.txDone u t) := by
  unfold State.txDone
  extract_lets home s1 s2 s3 tec s4 s5
  have h2 : Dims s s2 := h.count.modCan.modMsg
  have h3 : Dims s s3 := .stampEntry (.ite h2.eventSent h2)
  have h4 : Dims s s4 := .ite h3 h3.wr
  exact .canModeBits (.canState (.ite h4.set h4))

theorem Dims.txFail {u t} (h : Dims s a) : Dims s (a.txFail u t) := by
  unfold State.txFail
  extract_lets s1 single s2 s3
  have h1 : Dims s s1 := h.modCan
  have h2 : Dims s s2 := .ite (.ite h1.modMsg (.ite h1 h1.modCan)) (.ite h1.modMsg h1)
  exact .canModeBits (.ite h2.set h2)

theorem Dims.canComplete {u ok} (h : Dims s a) : Dims s (a.canComplete u ok) := by
  unfold State.canComplete
  split
  · exact h
  · exact .loadOut (.ite h.txDone h.txFail)

theorem Dims.requeueTop {u} (h : Dims s a) : Dims s (a.requeueTop u) := by
  unfold State.requeueTop
  have hf := h.freeIn (lo := 77) (hi := 157)
  generalize a.freeIn 77 157 = p at hf ⊢
  split
  · exact h
  · exact .ite h (.ite hf.modCan.modMsg.count h.modMsg)

theorem Dims.startRecovery {u} (h : Dims s a) : Dims s (a.startRecovery u) := h

theorem Dims.enterBusOff {u} (h : Dims s a) : Dims s (a.enterBusOff u) :=
  .loadOut (.ite h.count.modCan.canState.canModeBits.requeueTop.startRecovery
    h.count.modCan.canState.canModeBits.requeueTop)

theorem Dims.collide {u} (h : Dims s a) : Dims s (a.collide u) := .ite h.count.modCan.wr.canState h.count.modCan

theorem Dims.errCounts {u code transmitter place} (h : Dims s a) :
    Dims s (a.errCounts u code transmitter place) :=
  .ite h (.ite (.ite h h.wr) h.wr)

theorem Dims.canError {u code dataPhase transmitter collision place} (h : Dims s a) :
    Dims s (a.canError u code dataPhase transmitter collision place) := by
  unfold State.canError
  refine .ite h ?_
  extract_lets code' transmitter' s1 s2 s3 s4
  have h2 : Dims s s2 := h.wr.count.errCounts.canState
  have h3 : Dims s s3 := .ite h2.collide h2
  have h4 : Dims s s4 := .ite h3.integrate h3
  refine .ite h4.enterBusOff (.ite ?_ h4)
  split
  · exact h4.txFail.loadOut
  · exact h4

theorem Dims.canRecovered {u} (h : Dims s a) : Dims s (a.canRecovered u) := by
  unfold State.canRecovered
  split
  · exact h
  · exact h.advanceTo.wrAll.modCan.canState

theorem Dims.canRecover {u} (h : Dims s a) : Dims s (a.canRecover u) := .ite h.startRecovery h
theorem Dims.dupClear {u} (h : Dims s a) : Dims s (a.dupClear u) := h.wr.modCan.canState
theorem Dims.canMonitor {u} (h : Dims s a) : Dims s (a.canMonitor u) := .ite h h.wrBit
theorem Dims.clearOverflow {u} (h : Dims s a) : Dims s (a.clearOverflow u) := h.wr.canState

/-! #### Tags and responses (spec/17) -/

theorem Dims.modWdp {f} (h : Dims s a) : Dims s (a.modWdp f) := h

theorem Dims.queueOut {u node tagGen data} (h : Dims s a) : Dims s (a.queueOut u node tagGen data) :=
  h.within (Within.refl answering a).queueOut

theorem Dims.reply {o tagGen data} (h : Dims s a) : Dims s (a.reply o tagGen data) :=
  h.within (Within.refl answering a).reply

theorem Dims.setTag {tg state resp o} (h : Dims s a) : Dims s (a.setTag tg state resp o) := h

theorem Dims.tagDone {tg resp} (h : Dims s a) : Dims s (a.tagDone tg resp) :=
  h.within (Within.refl answering a).tagDone

theorem Dims.suppress {tg} (h : Dims s a) : Dims s (a.suppress tg).2 :=
  .forFinSnd h fun _ _ h => .iteSnd (.snd h.modWdp.cancelTx.loadOut) (.snd h.modWdp)

theorem Dims.dropBlock {b} (h : Dims s a) : Dims s (a.dropBlock b) := h.within (Within.refl ending a).dropBlock

theorem Dims.endBlock {b status} (h : Dims s a) : Dims s (a.endBlock b status) :=
  h.within (Within.refl ending a).endBlock

theorem Dims.stopWork {tg} (h : Dims s a) : Dims s (a.stopWork tg) := by
  refine .ite (.fwFail (.set ?_)) (.set ?_)
  · split
    · exact h.dropBlock
    · exact h
  · split
    · exact h.dropBlock
    · exact h

theorem Dims.abortBlocks (h : Dims s a) : Dims s a.abortBlocks := h.within (Within.refl ending a).abortBlocks
theorem Dims.abortForwards (h : Dims s a) : Dims s a.abortForwards := h

theorem Dims.tagsReset (h : Dims s a) : Dims s a.tagsReset := by
  unfold State.tagsReset
  exact .modWdp (.set (.abortForwards (.foldl h fun _ _ h => h.dropBlock)))

/-! #### String coordination (spec/10) -/

theorem Dims.modString {f} (h : Dims s a) : Dims s (a.modString f) := h

theorem Dims.takeStatus {f} (h : Dims s a) : Dims s (a.takeStatus f) := by
  refine .ite h ?_
  split
  · exact h.modString.wrBit
  · exact h

theorem Dims.gather (h : Dims s a) : Dims s a.gather :=
  .forFin h fun _ _ h => .ite h.modString (.ite (.modString (.ite h.wrBit h)) h)

theorem Dims.tripString {g cause} (h : Dims s a) : Dims s (a.tripString g cause) := h.wr.raise.endMolt.modString
theorem Dims.mapCells {f} (h : Dims s a) : Dims s (a.mapCells f) := h
theorem Dims.updActive (h : Dims s a) : Dims s a.updActive.1 := .mapCells (.foldr h fun _ _ h => h.tripString)

theorem Dims.nMinRule (h : Dims s a) : Dims s a.nMinRule.1 := by
  refine .forFinFst h fun g q h => ?_
  dsimp only
  split
  · exact h.tripString
  · exact h

theorem Dims.modMolt {g f} (h : Dims s a) : Dims s (a.modMolt g f) := h

theorem Dims.moltRequest {g insert} (h : Dims s a) : Dims s (a.moltRequest g insert) := by
  refine .ite h.wr ?_
  split
  · exact h.wr
  · exact .ite h.wr (.ite h.wr (.ite h.wr (.ite h.wr h.wr.modString)))

theorem Dims.openingEnded {g x} (h : Dims s a) : Dims s (a.openingEnded g x) := .ite h.endMolt h.freeVal.endMolt

theorem Dims.advanceMolt {g} (h : Dims s a) : Dims s (a.advanceMolt g) := by
  unfold State.advanceMolt
  split
  · exact h
  · refine .ite ?_ (.ite (.ite h.endMolt h.modMolt.mapCells)
      (.ite h.endMolt.count (.ite h.endMolt (.ite h.wr h))))
    split
    · exact .ite h.endMolt h
    · exact .ite h.modMolt (.ite (.ite h.openingEnded (.ite h.endMolt h))
        (.ite (.ite h.endMolt.count h)
        (.ite (.ite h.wr.modMolt.mapCells h) (.ite (.ite h.modMolt (.ite h.wr.modMolt h.modMolt)) h))))

theorem Dims.prechargeLate {g} (h : Dims s a) : Dims s (a.prechargeLate g) := by
  unfold State.prechargeLate
  split
  · split
    · exact h.advanceTo.modMolt
    · exact h
  · exact h

theorem Dims.abortMolt (h : Dims s a) : Dims s a.abortMolt := h.within (Within.refl molting a).abortMolt
theorem Dims.slots {g} (h : Dims s a) : Dims s (a.slots g) := .mapCells (.ite h.wrAll.wr h.wrAll)

theorem Dims.steering {g changed} (h : Dims s a) : Dims s (a.steering g changed) :=
  .ite h.modString.mapCells (.ite h.modString.mapCells h.modString.wrAll.count.modString.mapCells)

theorem Dims.stringRefs {g} (h : Dims s a) : Dims s (a.stringRefs g) := .set (.wr (.iteSnd h.freeVal h))
theorem Dims.stopStep (h : Dims s a) : Dims s a.stopStep := .ite h (.ite h.modString.modString.mapCells h.modString)

theorem Dims.slowPaths (h : Dims s a) : Dims s a.slowPaths :=
  .ite (.forFin h.wrBit.wrBit.pathSources fun _ _ h => .ite h h.tripString) h.wrBit.wrBit.pathSources

theorem Dims.supersede (h : Dims s a) : Dims s a.supersede := .forFin h fun _ _ h => h.count.modLane

theorem Dims.assemble (h : Dims s a) : Dims s a.assemble := by
  unfold State.assemble
  extract_lets b before
  have hu : Dims s b.updActive.1 := h.gather.stopStep.slowPaths.updActive
  generalize b.updActive = p at hu ⊢
  obtain ⟨s1, t1⟩ := p
  refine .ite hu ?_
  have hn : Dims s (Machine.forFin 3 s1 fun g b => b.advanceMolt g).nMinRule.1 :=
    .nMinRule (.forFin hu fun _ _ h => h.advanceMolt)
  generalize (Machine.forFin 3 s1 fun g b => b.advanceMolt g).nMinRule = q at hn ⊢
  exact .ite hn (.supersede (.modString (.forFin hn fun _ _ h => h.slots.steering.stringRefs)))

theorem Dims.assembly (h : Dims s a) : Dims s a.assembly := .ite h h.advance.modString.assemble

theorem Dims.actFlags {c fl} (h : Dims s a) : Dims s (a.actFlags c fl) :=
  .ite h.setCell (.ite h.setCell
    (.ite h.openContactor (.ite h.setCell (.ite h.endInsert (.ite h.setCell.checkStop h)))))

theorem Dims.respace {c fl slot n slew} (h : Dims s a) : Dims s (a.respace c fl slot n slew) :=
  .ite h.wrAll.loadShadow.loadShadow h

theorem Dims.takeString {b seq pos} (h : Dims s a) : Dims s (a.takeString b seq pos) :=
  .ite h.set.count.wr.wrAll.wrBit.wrBit.deassertSrc.emitSync
    (.forFin h.set.count.wr.wrAll.wrBit.wrBit.deassertSrc.emitSync.set fun _ _ h => h.actFlags.respace.set)

theorem Dims.sendStatus (h : Dims s a) : Dims s a.sendStatus := h.sendOn.sendOn

theorem Dims.stringFrame {f} (h : Dims s a) : Dims s (a.stringFrame f) := by
  unfold State.stringFrame
  extract_lets q moved lease s1 s2 lease' s3
  have h1 : Dims s s1 := .ite h.moveLease.set (.ite h.revertOn h)
  have h2 : Dims s s2 := .ite h1.renew h1
  have h3 : Dims s s3 := by
    unfold s3
    split
    · exact h2.wr.set
    · exact h2
  exact .ite h (.ite (.ite h.moveLease (.ite h.ignored h)) (.ite h1.ignored h3.takeString.sendStatus.updRevert))

theorem Dims.issue (h : Dims s a) : Dims s a.issue := by
  unfold State.issue
  split
  · exact h
  · refine .ite h.modString ?_
    extract_lets s1 n s2 s3 s4 k s5 s6
    have h3 : Dims s s3 := .modString (.count (.forFin h.advance fun _ _ h => h.enqueue))
    have h4 : Dims s s4 := .forFin h3 fun _ _ h => by
      split
      · exact .ite h.wr h
      · exact h
    exact .takeString (.ite h4.set.offerLease h4.set)

theorem Dims.stopLate (h : Dims s a) : Dims s a.stopLate := by
  unfold State.stopLate
  split
  · exact h
  · exact .ite h.advanceTo.toSafe.sendSafe h.advanceTo.toSafe

/-! #### Checks and the restore of the dictionary (spec/19) -/

theorem Dims.takeEntry {e} (h : Dims s a) : Dims s (a.takeEntry e) := by
  unfold State.takeEntry
  split
  · exact .ite h.wr h.count
  · exact h.count

theorem Dims.takeImage {d} (h : Dims s a) : Dims s (a.takeImage d) := .foldl h.wrAll fun _ _ h => h.takeEntry

theorem Dims.restoreDict (h : Dims s a) : Dims s a.restoreDict := by
  refine .ite h.modNv.wrAll.wrBit ?_
  split
  · exact h.modNv.wrAll.takeImage
  · exact h.modNv.wrAll.takeImage.wrBit.raise
  · exact h.modNv.wrAll.wrBit

/-! #### Maintenance (spec/19) -/

theorem Dims.drillFrame {action path} (h : Dims s a) : Dims s (a.drillFrame action path) :=
  h.within (Within.refl sending a).drillFrame

theorem Dims.maintRequest {act arg duration} (h : Dims s a) : Dims s (a.maintRequest act arg duration).2 := by
  unfold State.maintRequest
  split
  · exact h.wrAll.raise
  · split
    · exact h
    · exact .ite h.wrAll.set.wireStart (.ite h.wrAll.set.drillFrame h.wrAll.set)

theorem Dims.maintAbort {n} (h : Dims s a) : Dims s (a.maintAbort n) := h.within (Within.refl slotting a).maintAbort

theorem Dims.maintAbortClaims {mask} (h : Dims s a) : Dims s (a.maintAbortClaims mask) :=
  .forFin h fun _ _ h => .ite h.maintAbort h

theorem Dims.maintStop {mask} (h : Dims s a) : Dims s (a.maintStop mask) :=
  h.within (Within.refl slotting a).maintStop

theorem Dims.maintEnds {n failed v1 v2 v3} (h : Dims s a) :
    Dims s (a.maintEnds n failed v1 v2 v3) := by
  unfold State.maintEnds
  split
  · exact h
  · extract_lets finish
    have hfinish {b x y z} (h : Dims s b) : Dims s (finish b x y z) :=
      .ite (.raise (.ite h.slotEnds h.slotEnds.raise)) (.ite h.slotEnds h.slotEnds.raise)
    split
    · exact .ite h (hfinish h)
    · exact hfinish h
    · exact .ite h (hfinish h.count.count)
    · exact hfinish h.advanceTo
    · exact hfinish h.advanceTo
    · exact hfinish h.advanceTo.drillFrame
    · exact hfinish h.advanceTo

/-! #### Resets and state commands (spec/04) -/

theorem Dims.atReset (_ : Dims s a) : Dims s a.atReset := .fwReset (.wr fun l _ => State.reset_gates l)
theorem Dims.modPower {f} (h : Dims s a) : Dims s (a.modPower f) := h
theorem Dims.boot {cause} (h : Dims s a) : Dims s (a.boot cause) := h.atReset.wr
theorem Dims.sampleRole {role} (h : Dims s a) : Dims s (a.sampleRole role) := h
theorem Dims.porAssert (h : Dims s a) : Dims s a.porAssert := h.atReset.set.modPower
theorem Dims.porRelease {role} (h : Dims s a) : Dims s (a.porRelease role) := .ite h h.boot.sampleRole.modPower
theorem Dims.pinAssert (h : Dims s a) : Dims s a.pinAssert := .ite h.modPower h.atReset.modPower

theorem Dims.pinRelease {role} (h : Dims s a) : Dims s (a.pinRelease role) :=
  .ite h (.ite h.sampleRole.modPower h.boot.sampleRole)

theorem Dims.commandReset (h : Dims s a) : Dims s a.commandReset := by
  unfold State.commandReset
  split
  · exact h
  · exact .ite h h.boot

theorem Dims.superStarts (h : Dims s a) : Dims s a.superStarts := .forFin h.modPower fun _ _ h => .ite h.modLane h

theorem Dims.applyRestored {old} (h : Dims s a) : Dims s (a.applyRestored old) :=
  .setCanLease (.forFin (.forFin (.setFitted (.wr (.forFin h fun _ _ h => h.restShadows))) fun _ _ h => .ite h
    h.acquire) fun _ _ h => h.canBoot)

theorem Dims.startCarriers (h : Dims s a) : Dims s a.startCarriers :=
  .forFin (.forFin h fun _ _ h => h.restShadows) fun _ _ h => h.syncCarriers

theorem Dims.readLockouts (h : Dims s a) : Dims s a.readLockouts :=
  .ite (.wrBit (.forFin h fun _ _ h => h.modLockout)) (.forFin h fun _ _ h => h.modLockout)

theorem Dims.bootLoad (h : Dims s a) : Dims s a.bootLoad :=
  .ite h (.ite h.selectBank.setupSystem h.selectBank.restoreDict.readLockouts.applyRestored.modPower)

theorem Dims.startInputs (h : Dims s a) : Dims s a.startInputs := .forFin h.restartClocks fun _ _ h => h.driverBegins

theorem Dims.bootComplete (h : Dims s a) : Dims s a.bootComplete :=
  .ite h.bootLoad h.bootLoad.startCarriers.setupSystem.superStarts.enterHatch.startInputs.lockoutCells

theorem Dims.supervisorReset {cause} (h : Dims s a) : Dims s (a.supervisorReset cause) :=
  .ite h (.modPower (.wr (.fwReset (.ite h.tagsReset.maintStop.storeEnds h.tagsReset.maintStop))))

theorem Dims.watchdog {serviced} (h : Dims s a) : Dims s (a.watchdog serviced) := by
  unfold State.watchdog
  split
  · exact h
  · exact h.advanceTo.supervisorReset.countSat.raise

theorem Dims.supervisorBack (h : Dims s a) : Dims s a.supervisorBack :=
  .ite h (.ite (.forFin h.reloadBank.superStarts fun _ _ h => h.loadOut) h.reloadBank)

theorem Dims.checkMap {all} (h : Dims s a) : Dims s (a.checkMap all).2 := h

theorem Dims.validateAll (h : Dims s a) : Dims s a.validateAll.2 :=
  .iteSnd (.modEngine (.validateProgram (.forFinSnd h fun _ _ h => .iteSnd h.validateProgram h)))
    (.modEngine (.forFinSnd h fun _ _ h => .iteSnd h.validateProgram h))

theorem Dims.enterCharge {all} (h : Dims s a) : Dims s (a.enterCharge all) :=
  .forFin (.enterDev (.clearEngine
    (.ite (.modString (.forFin h.maintAbortClaims fun _ _ h => h.wr)) h.maintAbortClaims))) fun _ _ h => .ite
    h.setCell h

theorem Dims.chargeCheck {cells} (h : Dims s a) : Dims s (a.chargeCheck cells) :=
  .ite (.wr (.iteSnd h.validateAll.checkMap h.validateAll))
    (.ite (.wr (.iteSnd h.validateAll.checkMap h.validateAll))
    (.enterCharge (.wr (.iteSnd h.validateAll.checkMap h.validateAll))))

theorem Dims.cmdRun (h : Dims s a) : Dims s a.cmdRun :=
  .ite h.wr (.forFin h.wr.enterDev fun _ _ h => .ite h.setCell h)

theorem Dims.cmdStop (h : Dims s a) : Dims s a.cmdStop := h.wr.wr.modPower.modString.checkStop
theorem Dims.cmdResume (h : Dims s a) : Dims s a.cmdResume := .ite h.wr (.ite h.wr (.ite h.wr h.wr.enterDev))
theorem Dims.enterCocoon (h : Dims s a) : Dims s a.enterCocoon := h.within (Within.refl cocooning a).enterCocoon
theorem Dims.cmdCocoon (h : Dims s a) : Dims s a.cmdCocoon := .ite h.wr h.enterCocoon
theorem Dims.wakeSeen {source} (h : Dims s a) : Dims s (a.wakeSeen source) := h.within (Within.refl waking a).wakeSeen
theorem Dims.wakeBlock {x} (h : Dims s a) : Dims s (a.wakeBlock x) := h.within (Within.refl waking a).wakeBlock
theorem Dims.cocoonExit (h : Dims s a) : Dims s a.cocoonExit := h.within (Within.refl rousing a).cocoonExit
theorem Dims.cocoonEntered (h : Dims s a) : Dims s a.cocoonEntered := .ite h.modPower.cocoonExit h

theorem Dims.command {code} (h : Dims s a) : Dims s (a.command code) := by
  refine .ite h (.ite h.wr (.ite h.wr (.ite h.wr (.ite h.wr ?_))))
  split
  · exact .ite h h.chargeCheck
  · exact h.cmdRun
  · exact h.cmdStop
  · exact h.wr.safeCause
  · exact h.cmdResume
  · exact h.cmdCocoon
  · exact .ite h.wr.wakeSeen h.wr
  · exact h.wr.supervisorReset
  · exact h.wr.modPower

theorem Dims.commandCharge {cells} (h : Dims s a) : Dims s (a.commandCharge cells) :=
  .ite h.wr (.ite h.wr (.ite h.wr h.chargeCheck))

theorem Dims.cellClear {mask} (h : Dims s a) : Dims s (a.cellClear mask) :=
  .ite h (.forFin h fun _ _ h => .ite h (.ite h.openContactor (.ite h.setByp.setCell h)))

theorem Dims.portFreed (h : Dims s a) : Dims s a.portFreed := by
  dsimp only [State.portFreed]
  split
  · exact h.portServe
  · exact .ite h.portServe (.ite h.portServe.modInstall.modWdp.fwStaged.tagDone
      h.portServe.modInstall.modWdp.fwStaged)

theorem Dims.abortOne {b} (h : Dims s a) : Dims s (a.abortOne b).2 := by
  dsimp only [State.abortOne]
  split
  · exact .iteSnd h.captureStop h
  · exact .iteSnd h.abortBlocks h
  · exact .iteSnd h (.iteSnd h.storeEnds.portFreed h)
  · refine .iteSnd h (.iteSnd (.snd (.fwFail ?_)) h)
    split
    · exact h.endBlock
    · split
      · exact .ite h.tagDone h
      · exact h
  · exact .iteSnd (.snd h.maintStop) h
  · exact .iteSnd h.abortMolt h
  · exact .iteSnd h.abortForwards h
  · exact h

theorem Dims.abort {mask} (h : Dims s a) : Dims s (a.abort mask) := by
  unfold State.abort
  extract_lets m r
  have hr : Dims s r.2 := .foldlSnd (.snd h) fun _ _ h => .snd h.abortOne
  exact hr.portFreed.freeVal.wrAll.count.modPower

theorem Dims.answerActivate {status} (h : Dims s a) : Dims s (a.answerActivate status) := by
  unfold State.answerActivate
  split
  · exact h
  · exact .ite h.modInstall.tagDone h.modInstall

theorem Dims.fwCommit (h : Dims s a) : Dims s a.fwCommit := .ite h h.fwSwitch.answerActivate

theorem Dims.fwRestart (h : Dims s a) : Dims s a.fwRestart :=
  .ite h (.ite h.tagsReset.fwReset.wr.modPower.bootLoad h.supervisorReset)

theorem Dims.fwActivation {restart} (h : Dims s a) : Dims s (a.fwActivation restart) :=
  .ite h.fwCommit.fwRestart h.fwCommit

theorem Dims.fwWaitLate (h : Dims s a) : Dims s a.fwWaitLate := by
  unfold State.fwWaitLate
  split
  · exact h
  · exact .ite h h.advanceTo.modInstall.fwState.answerActivate

/-! #### Access to the dictionary (spec/17) -/

theorem Dims.writeCore {key v} (h : Dims s a) : Dims s (a.writeCore key v) :=
  .ite h.setFitted.reschedule (.ite h.command
    (.ite h.cellClear (.ite h.abort (.ite (.ite h.acquire h) (.ite h.wr.acquire h.wr)))))

theorem Dims.carryClear {c mask} (h : Dims s a) : Dims s (a.carryClear c mask) :=
  .forFin h fun _ _ h => .ite h.setCarry h

theorem Dims.commitMask {c mask} (h : Dims s a) : Dims s (a.commitMask c mask) :=
  .forFin h fun _ _ h => .ite h.armCommit h

theorem Dims.writeEdge {key base sub v c} (h : Dims s a) : Dims s (a.writeEdge key base sub v c) := by
  refine .ite h.commitMask (.ite h.clrBits (.ite h.carryClear ?_))
  dsimp only
  split
  · exact h.wr.loadShadow
  · exact .ite h.wr.loadSlew (.ite h.wr.setCarry (.ite h.wr.syncCarriers (.ite h.wr.modCarrier h.wr)))

theorem Dims.keepDelay {c} (h : Dims s a) : Dims s (a.keepDelay c) := h
theorem Dims.delayAll {v} (h : Dims s a) : Dims s (a.delayAll v) := .wrAll (.forFin h fun _ _ h => h.keepDelay)

theorem Dims.writeMeas {key base sub v} (h : Dims s a) : Dims s (a.writeMeas key base sub v) :=
  .ite h.setAdcs (.ite h.setPairs
    (.ite h.request (.ite h.delayAll
    (.ite h.wr.restartDsck (.ite h.keepDelay.wr
    (.ite (.forFin h.wr fun _ _ h => .ite h.restartDsck h)
    (.ite (.ite h.clrBits (.ite h.windowEnds.windowEnds.wr (.ite h.rehome.wr h.wr)))
    (.ite (.ite (.restartStream (.wr (.ite h.setFast h))) (.ite h.setFast.wr h.wr))
    (.ite h.wireStart (.ite (.reschedule (.ite h.wr h.wr.driverMode)) h.wr))))))))))

theorem Dims.clearLoop {e mask} (h : Dims s a) : Dims s (a.clearLoop e mask) := .forFin h fun _ _ h => .ite h.wrAll h
theorem Dims.unvalidate {e} (h : Dims s a) : Dims s (a.unvalidate e) := h
theorem Dims.setParams {e b data} (h : Dims s a) : Dims s (a.setParams e b data) := h.wrAll

theorem Dims.writeLoop {key base sub v data e} (h : Dims s a) :
    Dims s (a.writeLoop key base sub v data e) :=
  .ite (.ite (.ite h.validateProgram h) h.wr.unvalidate)
    (.ite (.ite h.clrBits h.clearLoop)
    (.ite h.wr.unvalidate (.ite (.ite h.wr.unvalidate (.ite h.setParams h.wr)) h.wr)))

theorem Dims.writeProfile {key base sub v data u} (h : Dims s a) : Dims s (a.writeProfile key base sub v data u) := by
  refine .ite ?_ (.ite (.ite h.settleStep.modeRequest h.settleStep.wr.updMode) h.settleStep.wr)
  dsimp only
  split
  · exact h.settleStep.onEnable
  · exact h.settleStep.wr.wrBit
  · exact h.settleStep.setLimits
  · exact .ite h.settleStep.markSeed h.settleStep
  · exact h.settleStep.wr

theorem Dims.writeGuard {key base sub v c} (h : Dims s a) : Dims s (a.writeGuard key base sub v c) :=
  .ite h.wr.applyCell (.ite h.guardRelease (.ite (.forFin h.wr fun _ _ h => .ite h.trip h) h.wr))

theorem Dims.writeString {key base sub v u} (h : Dims s a) :
    Dims s (a.writeString key base sub v u).2 :=
  .iteSnd h.moltRequest h.wr

theorem Dims.writeThermal {key base sub v} (h : Dims s a) : Dims s (a.writeThermal key base sub v) :=
  .ite h.wr.reschedule (.ite h.clearBroken (.ite h.rearmGroups (.ite h.clearSticky (.ite h.clrBits h.wr))))

theorem Dims.writeNet {key base sub v data} (h : Dims s a) : Dims s (a.writeNet key base sub v data) := by
  refine .ite (h.getD fun _ => h.hostStep) (.ite h.wr.judgeConverged (.ite h.wr.wr (.ite ?_ h.wr)))
  split
  · exact h.wr.offerLease
  · exact h.wr.updRevert
  · exact h.wr.updRevert
  · exact h.wr.updPsel
  · exact h.wr.updPsel
  · exact h.setCanLease
  · exact h.wr.updRevert
  · exact h.wr

theorem Dims.writeCan {key base sub v data u} (h : Dims s a) :
    Dims s (a.writeCan key base sub v data u) :=
  .ite (.ite h.wr.canModeBits.loadOut (.ite (.ite h.canApply h) h.wr))
    (.ite h.writeMsg (.ite (.ite h (.ite h.clearOverflow h.modCan))
    (.ite (.ite h (.ite h.canRecover h.dupClear)) h.wr)))

theorem Dims.deadTimeClear (h : Dims s a) : Dims s a.deadTimeClear := h

theorem Dims.writeCapture {key base v} (h : Dims s a) : Dims s (a.writeCapture key base v) :=
  .ite h.captureOn (.ite h.setEgress
    (.ite h.clrBits (.ite (.ite h (.ite h.captureArm
    (.ite h.captureForce (.ite h.calArm
    (.ite h.deadTimeClear (.ite h.ceqMark (.ite h.ceqRewind h.ceqRelease))))))) h.wr)))

theorem Dims.fwCheck (h : Dims s a) : Dims s a.fwCheck := h

theorem Dims.writeMemory {key v data} (h : Dims s a) : Dims s (a.writeMemory key v data).2 :=
  .iteSnd h.maintRequest (.ite (.ite h.storeStart h)
    (.ite (.ite h.storeDefaults h)
    (.ite h.oemWrite (.ite (.ite h.fwCheck h.fwActivate) (.ite h.maintStop h.wr)))))

theorem Dims.applyWrite {key v data} (h : Dims s a) : Dims s (a.applyWrite key v data).2 := by
  dsimp only [State.applyWrite]
  split
  · exact h.writeEdge
  · exact h.writeMeas
  · exact h.writeLoop
  · exact h.writeProfile
  · exact h.writeGuard
  · exact h.writeString
  · exact h.writeThermal
  · exact h.writeThermal
  · exact h.writeNet
  · exact h.writeCan
  · exact h.writeCapture
  · exact h.writeMemory
  · exact h.writeCore

theorem Dims.writeAll {idx sub data} (h : Dims s a) : Dims s (a.writeAll idx sub data).2 := by
  unfold State.writeAll
  split
  · exact h
  · exact .foldlSnd h fun _ _ h => h.applyWrite

theorem Dims.moltOutside {idx sub data} (h : Dims s a) : Dims s (a.moltOutside idx sub data) :=
  .ite (.foldl h fun _ _ h => .ite h.wr h) h

theorem Dims.hostWrite {holder idx sub data} (h : Dims s a) :
    Dims s (a.hostWrite holder idx sub data).2 :=
  .iteSnd h.writeAll (.ite h.moltOutside h)

theorem Dims.readEffect {key} (h : Dims s a) : Dims s (a.readEffect key) :=
  .ite h.clearNew (.ite h.modCan (.ite h.wr (.ite h.ceqRead (.ite h.ceqRead h))))

theorem Dims.readDone {key} (h : Dims s a) : Dims s (a.readDone key) := .ite h.clearFresh h.readEffect

theorem Dims.watched {idx} (h : Dims s a) : Dims s (a.watched idx) :=
  .ite h.noteNumeric (.ite (.forFin h fun _ _ h => h.countRecovery) h)

theorem Dims.hostRead {block idx sub} (h : Dims s a) : Dims s (a.hostRead block idx sub).2.2 := by
  dsimp only [State.hostRead]
  split
  · split
    · exact h.watched.readDone
    · exact h.watched
  · exact h.watched

theorem Dims.answered {status data} (h : Dims s a) : Dims s (a.answered status data) := h

theorem Dims.write {idx sub data} (h : Dims s a) : Dims s (a.write idx sub data) :=
  .ite h.answered h.hostWrite.answered

theorem Dims.writeNat {idx sub n v} (h : Dims s a) : Dims s (a.writeNat idx sub n v) := h.write

theorem Dims.read {block idx sub} (h : Dims s a) : Dims s (a.read block idx sub) :=
  .ite h.answered h.hostRead.answered

/-! #### Direct accesses (spec/17) -/

theorem Dims.cmd {code} (h : Dims s a) : Dims s (a.cmd code) := h.writeNat

theorem Dims.respond {head status fails} (h : Dims s a) : Dims s (a.respond head status fails) := by
  dsimp only [State.respond]
  split
  · exact h.tagDone
  · exact .ite h.tagDone h.tagDone

theorem Dims.answerCharge {cells} (h : Dims s a) : Dims s (a.answerCharge cells) :=
  .foldlSnd (.snd h.modPower) fun _ _ h =>
    .snd (.ite (.respond (.ite h h.commandCharge)) (.ite h h.commandCharge))

theorem Dims.cmdCharge {cells} (h : Dims s a) : Dims s (a.cmdCharge cells) :=
  .ite h.answered (.ite h.answered h.commandCharge.answered.answerCharge)

theorem Dims.imageWrite {size} (h : Dims s a) : Dims s (a.imageWrite size) :=
  .ite h.answered (.answered (.ite h.fwStage h))

theorem Dims.maint {act arg duration} (h : Dims s a) : Dims s (a.maint act arg duration) := h.write

/-! #### The dictionary protocol (spec/17) -/

theorem Dims.taken {o func nodes} (h : Dims s a) : Dims s (a.taken o func nodes) :=
  h.within (Within.refl (foot [.can]) a).taken

theorem Dims.runWrite {head holder idx sub data fails} (h : Dims s a) :
    Dims s (a.runWrite head holder idx sub data fails) :=
  .ite h.wr.respond.hostWrite (.ite h.hostWrite.modPower (.ite h.hostWrite.modInstall h.hostWrite.respond))

theorem Dims.startBlock {o holder t} (h : Dims s a) : Dims s (a.startBlock o holder t).2.2 := by
  unfold State.startBlock
  extract_lets idx sub run
  have hrun {b x} (h : Dims s b) : Dims s (run b x) := h.modWdp
  refine .iteSndSnd (.iteSndSnd h (.iteSndSnd h ?_)) (.iteSndSnd h (.iteSndSnd h ?_))
  · exact hrun h.hostRead
  · exact hrun (.ite h.fwStage h)

theorem Dims.serve {o func t} (h : Dims s a) : Dims s (a.serve o func t) := by
  refine .ite h.respond (.ite (.ite h.runWrite h.respond) ?_)
  split
  · exact h.hostRead.tagDone
  · exact h.runWrite
  · exact .ite h.startBlock.reply h.respond
  · exact .ite h.startBlock.reply h.respond
  · exact h.respond

theorem Dims.applySwarm {o func t} (h : Dims s a) : Dims s (a.applySwarm o func t) :=
  .ite h (.ite h.hostWrite (.ite h.hostWrite (.ite h.startBlock h)))

theorem Dims.swarmApply {w} (h : Dims s a) : Dims s (a.swarmApply w) :=
  .ite (.ite (.ite h.respond (.ite h.startBlock.reply h.startBlock.reply)) (.ite h.runWrite h.runWrite))
    (.ite h.applySwarm.modCapture h.applySwarm)

theorem Dims.swarmGo {n} (h : Dims s a) : Dims s (a.swarmGo n) := by
  induction n generalizing a with
  | zero => exact h
  | succ n ih =>
    unfold State.swarmGo
    split
    · exact h
    · exact .ite (ih h.set.swarmApply) h.set.sendReliable

theorem Dims.swarmKick (h : Dims s a) : Dims s a.swarmKick := by
  unfold State.swarmKick
  split
  · exact .ite h.swarmGo h
  · exact h

theorem Dims.swarmStart {channel t answered} (h : Dims s a) :
    Dims s (a.swarmStart channel t answered) :=
  h.set.swarmKick

theorem Dims.swarmNext {p ok} (h : Dims s a) : Dims s (a.swarmNext p ok) := by
  unfold State.swarmNext
  split
  · exact .ite h h.set.swarmGo
  · exact h

theorem Dims.serveSwarm {o func t} (h : Dims s a) : Dims s (a.serveSwarm o func t) := by
  refine .ite h.respond (.ite h.respond ?_)
  split
  · exact h.swarmStart
  · exact h

theorem Dims.byTag {o t run} (h : Dims s a) (hrun : ∀ b, Dims s b → Dims s (run b)) :
    Dims s (a.byTag o t run) :=
  .ite (hrun _ h.setTag.count) (.ite (.ite h.count h.count.reply)
    (hrun _ (.count (.setTag (.swarmKick (.count (.suppress (.ite h.stopWork h))))))))

theorem Dims.busy {o t} (h : Dims s a) : Dims s (a.busy o t) := by
  unfold State.busy
  split
  · exact h.queueOut
  · exact h.sendReliable

theorem Dims.modForwarded {f} (h : Dims s a) : Dims s (a.modForwarded f) := h
theorem Dims.dropForward {node tg} (h : Dims s a) : Dims s (a.dropForward node tg) := h
theorem Dims.answerFor {node channel tg data} (h : Dims s a) : Dims s (a.answerFor node channel tg data) := h.queueOut

theorem Dims.forward {u func t} (h : Dims s a) : Dims s (a.forward u func t) :=
  .ite h (.ite h.answerFor (.ite h.sendReliable
    (.ite h (.ite (.answerFor (.modForwarded (.foldl h fun _ _ h => h.dropForward.sendReliable)))
    (.sendReliable (.count (.set (.modForwarded (.foldl h fun _ _ h => h.dropForward.sendReliable)))))))))

theorem Dims.unreachable {f} (h : Dims s a) : Dims s (a.unreachable f) := h.modForwarded.dropForward.answerFor

theorem Dims.forwardLate {node tg} (h : Dims s a) : Dims s (a.forwardLate node tg) := by
  unfold State.forwardLate
  split
  · exact h
  · exact h.advanceTo.unreachable.count

theorem Dims.takeResponse {node channel data} (h : Dims s a) :
    Dims s (a.takeResponse node channel data) :=
  .ite h.count (.ite h.modForwarded.answerFor h.count)

theorem Dims.receive {o func t here} (h : Dims s a) (hhere : ∀ b, Dims s b → Dims s (here b)) :
    Dims s (a.receive o func t here) := by
  refine .ite (.ite h.taken.busy (hhere _ h.taken)) ?_
  split
  · exact .ite h.taken (.ite (.ite (.byTag h.taken fun _ h => h.serveSwarm) h.taken) h.taken.forward)
  · exact h.taken

theorem Dims.transact {o func t} (h : Dims s a) : Dims s (a.transact o func t) :=
  .receive h fun _ h => .byTag h fun _ h => h.serve

theorem Dims.modBlock {tg f} (h : Dims s a) : Dims s (a.modBlock tg f) := h
theorem Dims.blockOut {b op status seg data} (h : Dims s a) : Dims s (a.blockOut b op status seg data) := h.reply

theorem Dims.blockWritten {b} (h : Dims s a) : Dims s (a.blockWritten b) :=
  .ite h.endBlock (.ite (.ite h.modInstall h.modWdp.fwStaged.respond) h.modWdp.runWrite)

theorem Dims.segment {o t} (h : Dims s a) : Dims s (a.segment o t) := by
  unfold State.segment
  split
  · exact h.count
  · refine .ite h.reply (.ite h.reply ?_)
    extract_lets whole s1 s2 b1 s3
    have h3 : Dims s s3 := .modBlock (.ite h.modBlock.fwBytes h.modBlock)
    exact .ite h.modBlock.blockOut (.ite h3.blockWritten (.ite h3.blockOut h3))

theorem Dims.window {o t} (h : Dims s a) : Dims s (a.window o t) := by
  unfold State.window
  split
  · exact h.count
  · exact .ite h.reply (.ite h.modBlock.reply
      (.ite h.modBlock.dropBlock.setTag (.foldl h.modBlock fun _ _ h => h.blockOut)))

theorem Dims.blockTelegram {o t} (h : Dims s a) : Dims s (a.blockTelegram o t) :=
  .ite h.reply (.ite h.segment h.window)

theorem Dims.blockLate {tg} (h : Dims s a) : Dims s (a.blockLate tg) := by
  unfold State.blockLate
  split
  · exact h
  · exact h.advanceTo.endBlock

theorem Dims.abortTag {o t} (h : Dims s a) : Dims s (a.abortTag o t) :=
  .ite h.reply (.ite h.reply (.ite h.stopWork.setTag.reply.swarmKick h.reply))

/-! #### Telegrams without a response (spec/17) -/

theorem Dims.safeTelegram {u t} (h : Dims s a) : Dims s (a.safeTelegram u t) :=
  .ite h.taken (.ite h.taken.ignored (.ite h.taken.safeCause.swarmStart h.taken.safeCause))

theorem Dims.leaseTelegram {u t action} (h : Dims s a) : Dims s (a.leaseTelegram u t action) := by
  refine .ite h.taken (.ite h.taken.ignored ?_)
  dsimp only
  split
  · exact .ite h.taken.setCanHolder h.taken.ignored
  · exact .ite h.taken.canRelease h.taken
  · exact .ite (.ite h.taken h.taken.setCanHolder) h.taken.ignored

theorem Dims.cyclicWrites {data es} (h : Dims s a) : Dims s (a.cyclicWrites data es) := by
  induction es generalizing a data with
  | nil => exact h
  | cons e es ih => exact ih (.ite h.hostWrite h.hostWrite.count)

theorem Dims.cyclicCommand {u data} (h : Dims s a) : Dims s (a.cyclicCommand u data) :=
  .ite h (.ite h.taken.ignored (.ite h.taken.count h.taken.cyclicWrites))

theorem Dims.toMultiple {n last} (h : Dims s a) : Dims s (a.toMultiple n last) := h

theorem Dims.cyclicReads {es} (h : Dims s a) : Dims s (a.cyclicReads es).2 := by
  induction es generalizing a with
  | nil => exact h
  | cons e es ih => exact ih h.readEffect

theorem Dims.cyclicStatus (h : Dims s a) : Dims s a.cyclicStatus := .ite h h.toMultiple.modWdp.cyclicReads.loadSystem
theorem Dims.timeTelegram (h : Dims s a) : Dims s a.timeTelegram := .ite h h.toMultiple.modWdp.modWdp.loadSystem

/-! #### Frames end to end (spec/14) -/

theorem Dims.ackFrame {f} (h : Dims s a) : Dims s (a.ackFrame f) := by
  unfold State.ackFrame
  split
  · exact h
  · exact .ite h (.ite (.ite h.nextWaiting.swarmNext h.nextWaiting) h.nextWaiting.egressAck)

theorem Dims.frameFails {u} (h : Dims s a) : Dims s (a.frameFails u) := by
  refine .ite (.ite h.nextWaiting.count.swarmNext ?_) h.nextWaiting.count.egressFail
  split
  · exact .ite h.nextWaiting.count.unreachable h.nextWaiting.count
  · exact h.nextWaiting.count

theorem Dims.retry {u} (h : Dims s a) : Dims s (a.retry u) := .ite h.frameFails h.resend

theorem Dims.nakFrame {f} (h : Dims s a) : Dims s (a.nakFrame f) := by
  unfold State.nakFrame
  split
  · exact h
  · exact h.retry

theorem Dims.retryLate {typ dst q} (h : Dims s a) : Dims s (a.retryLate typ dst q) := by
  unfold State.retryLate
  split
  · exact h
  · exact .ite h h.advanceTo.retry

theorem Dims.dictTake {f} (h : Dims s a) : Dims s (a.dictTake f) := by
  refine .ite ?_ (.ite h.count ?_)
  · split
    · exact h.takeResponse
    · exact h.takeResponse
    · exact h
  · split
    · exact .ite h.transact (.ite (.receive h fun _ h => h.blockTelegram) h)
    · exact .receive h fun _ h => h.abortTag
    · exact h.set
    · exact h

theorem Dims.dictHold {f} (h : Dims s a) : Dims s (a.dictHold f) :=
  .set (.iteSnd h.freeIn (.iteSnd h.freeIn h.freeIn))

theorem Dims.dictFrame {f} (h : Dims s a) : Dims s (a.dictFrame f) :=
  .ite h.ignored (.ite h.count (.ite h.acceptSeq.dictHold.dictTake h.acceptSeq))

theorem Dims.dictKind {kind f} (h : Dims s a) : Dims s (a.dictKind kind f) :=
  .ite (.frameRow h fun _ h => h.dictFrame) h

theorem Dims.crcBad {i} (h : Dims s a) : Dims s (a.crcBad i) :=
  .ite (.updRevert (.releaseOn (.modLane (.modLane (.count (.ite h.noteErrors h))))))
    (.modLane (.count (.ite h.noteErrors h)))

theorem Dims.enumFrame {f} (h : Dims s a) : Dims s (a.enumFrame f) := by
  unfold State.enumFrame
  split
  · exact h.takeAssign
  · exact h.takeEnd
  · exact h.takeRateStep
  · exact h.takeAssign
  · exact h.takeDone
  · exact h.takeJoin
  · exact h.roleConflict
  · exact h

theorem Dims.lineInstant {rate} (h : Dims s a) : Dims s (a.lineInstant rate).2 := h.freeIn

theorem Dims.consume {f} (h : Dims s a) : Dims s (a.consume f) := by
  unfold State.consume
  extract_lets s0
  have hp : Dims s (if f.typ = 5 || f.typ = 6 || f.typ = 8 then s0.lineInstant (s0.laneRate (inLane f))
      else (0, s0)).2 := .iteSnd (.lineInstant (.ite h.received h)) (.ite h.received h)
  generalize (if f.typ = 5 || f.typ = 6 || f.typ = 8 then s0.lineInstant (s0.laneRate (inLane f))
      else (0, s0)) = p at hp ⊢
  dsimp only
  split
  · exact hp.stringFrame
  · exact hp.takeStatus
  · exact hp.dictFrame
  · exact hp.timeSync
  · exact hp.delayReq
  · exact hp.delayResp
  · exact hp.leaseFrame
  · split
    · exact hp.beaconReceive
    · exact hp.echoReturn
    · exact hp.echoReply
  · exact hp.captureFrame
  · exact hp.triggerFrame
  · exact hp.enumFrame
  · exact hp.eventFrame
  · exact hp.safeFrame
  · exact hp.ackFrame
  · exact hp.nakFrame
  · exact hp

theorem Dims.forwardFrame {i f cut} (h : Dims s a) : Dims s (a.forwardFrame i f cut) :=
  .ite h.count (.enqueue (.iteSnd h.lineInstant h))

theorem Dims.cutFrame {i b} (h : Dims s a) : Dims s (a.cutFrame i b) := .ite h.forwardFrame h

theorem Dims.routeFrame {i f} (h : Dims s a) : Dims s (a.routeFrame i f) :=
  .ite (.consume (.ite h.forwardFrame h)) (.ite h.forwardFrame h)

theorem Dims.frameIn {i b ended} (h : Dims s a) : Dims s (a.frameIn i b ended) :=
  .ite h (.ite h.count.cutFrame (.ite h.crcBad.cutFrame (.ite h.count h.routeFrame)))

theorem Dims.lineIn {i blocks} (h : Dims s a) : Dims s (a.lineIn i blocks) := h.codeErrorsOn.count.modLane

theorem Dims.blocksIn {i blocks} (h : Dims s a) : Dims s (a.blocksIn i blocks) := by
  refine .ite h (.ite h.lineIn.modLane ?_)
  split
  · exact h.lineIn.frameIn
  · exact h.lineIn

theorem Dims.departs {i x} (h : Dims s a) : Dims s (a.departs i x).2 := .iteSnd h h.lineInstant
theorem Dims.swarmAct {f} (h : Dims s a) : Dims s (a.swarmAct f) := .ite h.set h.set.applySwarm
theorem Dims.putFrame {i x} (h : Dims s a) : Dims s (a.putFrame i x).2 := h.advanceTo.departs.modLane.putLine

theorem Dims.transmit {i} (h : Dims s a) : Dims s (a.transmit i) := by
  refine .ite h ?_
  split
  · exact h
  · have hp := h.putFrame (i := i) (x := ‹_›)
    dsimp only
    split
    · exact hp
    · exact hp.advanceTo.swarmAct

theorem Dims.calDrive {line} (h : Dims s a) : Dims s (a.calDrive line) := h.modCapture.wr.calEdge

theorem Dims.calStep {line} (h : Dims s a) : Dims s (a.calStep line) := by
  refine .ite h ?_
  split
  · exact .ite h h.modCapture.swarmStart
  · exact h.advanceTo.advance.modCapture.calDrive
  · exact h.advance.modCapture.calDrive
  · exact h

/-- Every command but two turns no gate on: what it does is a chain of the operations above. -/
theorem exec_dims (c : Instr) (s : State) (hdead : ∀ l, c ≠ .deadtimeTurnOn l)
    (hsafe : ∀ k b, c ≠ .safePatternTurnOn k b) : Completes c s (Dims s) := by
  have h := Dims.refl s
  cases c with
  | powerOnResetRelease role => exact ⟨_, rfl, h.porRelease⟩
  | resetNRelease role => exact ⟨_, rfl, h.pinRelease⟩
  | cmdCharge cells => exact ⟨_, rfl, h.cmdCharge⟩
  | cellClear mask => exact ⟨_, rfl, h.writeNat⟩
  | cellFittedWrite mask => exact ⟨_, rfl, h.writeNat⟩
  | wakePinHigh ticks => exact ⟨_, rfl, .ite h.wakeSeen h⟩
  | supervisorWatchdogExpiry serviced => exact ⟨_, rfl, h.watchdog⟩
  | pllRestart p v => exact ⟨_, rfl, .ite h.writeNat h.writeNat⟩
  | pllLockDeclared p counts => exact ⟨_, rfl, h.lock⟩
  | pllLockLost p evidence => exact ⟨_, rfl, h.lockLost⟩
  | pllAcquisitionTimeout p => exact ⟨_, rfl, h.acqLate⟩
  | refclkLost edges => exact ⟨_, rfl, h.refLost⟩
  | refclkPresent counts => exact ⟨_, rfl, h.refPresent.bootLoad⟩
  | relaxOscOutOfRange cycles => exact ⟨_, rfl, .ite h h.oscCheck⟩
  | fineCalLineMeasure l plausible elements => exact ⟨_, rfl, h.measureLine⟩
  | fineCalTableApply l => exact ⟨_, rfl, h.applyLine⟩
  | bypSenseRelease c => exact ⟨_, rfl, h.bypRelease⟩
  | bypSenseSample c high => exact ⟨_, rfl, h.bypSample.checkStop⟩
  | bypSenseCycleStart c => exact ⟨_, rfl, h.bypCycle⟩
  | jtagExtest scan => exact ⟨_, rfl, h.extest⟩
  | jtagBypass bits => exact ⟨_, rfl, h.loadJtag.bypassScan⟩
  | jtagSamplePreload outside shifted => exact ⟨_, rfl, h.loadJtag.boundaryScan⟩
  | jtagIdcode scan => exact ⟨_, rfl, h.jtagId⟩
  | carrierZero k => exact ⟨_, rfl, h.zero⟩
  | carrierApex k => exact ⟨_, rfl, h.apex⟩
  | tcmpEvent k => exact ⟨_, rfl, h.tcmpEvent⟩
  | shadowTransfer k apex => exact ⟨_, rfl, h.transferInstant⟩
  | legCommandChange l high at_ => exact ⟨_, rfl, h.legChange⟩
  | erasedPulseEnd l => exact ⟨_, rfl, h.erasedEnd⟩
  | deadtimeTurnOn l => exact absurd rfl (hdead l)
  | refreshPulseEnd l => exact ⟨_, rfl, h.refreshEnd⟩
  | commit c mask => exact ⟨_, rfl, h.writeNat⟩
  | carryClear c mask => exact ⟨_, rfl, h.writeNat⟩
  | sequenceTrigger a => exact ⟨_, rfl, h.seqTrigger⟩
  | adcHold a => exact ⟨_, rfl, h.adcHold⟩
  | adcResultWritten a code => exact ⟨_, rfl, h.adcResult⟩
  | ondemand ch => exact ⟨_, rfl, h.writeNat⟩
  | urgentConversionStart a => exact ⟨_, rfl, h.urgentStart⟩
  | windowTrip ch high level => exact ⟨_, rfl, h.windowTrip⟩
  | windowRelease ch high level => exact ⟨_, rfl, h.windowRelease⟩
  | openWireRequest mask => exact ⟨_, rfl, h.writeNat⟩
  | openWireSettleExpiry a code => exact ⟨_, rfl, h.wireSettled⟩
  | dsdMainResult s bits start stop => exact ⟨_, rfl, h.mainResult⟩
  | dsdAlignEvent s => exact ⟨_, rfl, h.alignEvent⟩
  | fastComparatorTrip s bits => exact ⟨_, rfl, h.fastTrip⟩
  | streamFault s bits => exact ⟨_, rfl, h.streamFault⟩
  | streamFaultClear s bits => exact ⟨_, rfl, h.streamClean⟩
  | dfPeriodMeasured d period high => exact ⟨_, rfl, h.driverPeriod⟩
  | dfFaultRecognised d low => exact ⟨_, rfl, h.driverFault⟩
  | dfFaultEnd d => exact ⟨_, rfl, h.driverFaultEnds⟩
  | dfTelemetryInvalid d high => exact ⟨_, rfl, h.driverInvalid⟩
  | resultRead stream n valueOnly => exact ⟨_, rfl, h.read⟩
  | loopTaskTrigger e t => exact ⟨_, rfl, h.taskTrigger⟩
  | loopRunRelease e t => exact ⟨_, rfl, h.release⟩
  | loopDeadlineMiss e t => exact ⟨_, rfl, h.late⟩
  | validate e v => exact ⟨_, rfl, h.writeNat⟩
  | loopStatusClear e mask => exact ⟨_, rfl, h.writeNat⟩
  | profileStep e => exact ⟨_, rfl, h.profileStep⟩
  | profileRestart e n v => exact ⟨_, rfl, h.writeNat⟩
  | limitsSet e n vMax aMax jMax tol => exact ⟨_, rfl, h.write⟩
  | modeReq c v => exact ⟨_, rfl, h.writeNat⟩
  | externalFaultChange fltP fltN safeN => exact ⟨_, rfl, h.extChange⟩
  | safePatternTurnOn c b => exact absurd rfl (hsafe c b)
  | guardRelease c mask => exact ⟨_, rfl, h.writeNat⟩
  | autoRelease c b => exact ⟨_, rfl, h.autoRelease⟩
  | bypassCommandClose c => exact ⟨_, rfl, h.bypassClose.checkStop⟩
  | bypassTimeout c => exact ⟨_, rfl, h.bypassLate.checkStop⟩
  | bypassOpenTimeout c => exact ⟨_, rfl, h.openLate.checkStop⟩
  | bypMismatchTimeout c => exact ⟨_, rfl, h.mismatchLate⟩
  | stringAssembly => exact ⟨_, rfl, h.assembly⟩
  | stringFrameIssue => exact ⟨_, rfl, h.issue⟩
  | stringFrameAccept f => exact ⟨_, rfl, .frameRow h fun _ h => h.stringFrame⟩
  | statusFrameReceive f => exact ⟨_, rfl, .frameRow h fun _ h => h.takeStatus⟩
  | moltRemove s => exact ⟨_, rfl, h.writeNat⟩
  | moltInsert s => exact ⟨_, rfl, h.writeNat⟩
  | prechargeTimeout s => exact ⟨_, rfl, h.prechargeLate⟩
  | stopTimeout => exact ⟨_, rfl, h.stopLate⟩
  | thermalSampleDue n => exact ⟨_, rfl, h.sampleDue⟩
  | thermalSampleProcess n => exact ⟨_, rfl, h.sampleProcess⟩
  | lockoutRecordWritten g ok => exact ⟨_, rfl, h.recordWritten.portFreed⟩
  | brokenClear mask => exact ⟨_, rfl, h.writeNat⟩
  | rearm mask => exact ⟨_, rfl, h.writeNat⟩
  | collectorDecision equalRails parityBad => exact ⟨_, rfl, .ite h h.noteNumeric.decide⟩
  | collectorDecisionTimeout => exact ⟨_, rfl, .ite h h.decisionLate⟩
  | stickyClear w mask => exact ⟨_, rfl, h.writeNat⟩
  | wdpEventSend => exact ⟨_, rfl, h.loadEvent⟩
  | eventFrameSend => exact ⟨_, rfl, h.sendEvents⟩
  | eventFrameReceive f => exact ⟨_, rfl, .frameRow h fun _ h => h.eventFrame⟩
  | safeFrameReceive f => exact ⟨_, rfl, .frameRow h fun _ h => h.safeFrame⟩
  | laneLosDeclared i peak ticks => exact ⟨_, rfl, h.los⟩
  | laneLosCleared i least ticks => exact ⟨_, rfl, h.losEnds⟩
  | laneLolDeclared i why => exact ⟨_, rfl, h.lol⟩
  | laneCommaAligned i commas => exact ⟨_, rfl, h.commaAlign⟩
  | slipPositionTest i headers => exact ⟨_, rfl, h.slipTest⟩
  | trainBlockReceive i block => exact ⟨_, rfl, h.trainBlock⟩
  | fillerBlockReceive i drift block => exact ⟨_, rfl, h.fillerIn⟩
  | fillerInsert i drift => exact ⟨_, rfl, h.fillerFill⟩
  | fillerSend i => exact ⟨_, rfl, h.fillerOut⟩
  | enumDelayExpiry => exact ⟨_, rfl, h.enumDelay⟩
  | enumAssignReceive q payload => exact ⟨_, rfl, .enumRow h fun _ h => h.takeAssign⟩
  | enumEndReceive q payload => exact ⟨_, rfl, .enumRow h fun _ h => h.takeEnd⟩
  | enumRateStepReceive q payload => exact ⟨_, rfl, .enumRow h fun _ h => h.takeRateStep⟩
  | rateStepPllRestart q => exact ⟨_, rfl, h.stepPll⟩
  | rateStepTimeout q => exact ⟨_, rfl, h.stepLate⟩
  | enumCheckReceive q payload => exact ⟨_, rfl, .enumRow h fun _ h => h.takeAssign⟩
  | enumDoneReceive q payload => exact ⟨_, rfl, .enumRow h fun _ h => h.takeDone⟩
  | hatchYWaitExpiry => exact ⟨_, rfl, h.yWaitEnds⟩
  | enumConflictReceive q payload => exact ⟨_, rfl, .enumRow h fun _ h => h.roleConflict⟩
  | roleConflictDetect ticks => exact ⟨_, rfl, .ite h.roleConflict h⟩
  | enumJoinReceive q payload => exact ⟨_, rfl, .enumRow h fun _ h => h.takeJoin⟩
  | joinDwellExpiry q => exact ⟨_, rfl, h.dwellEnds⟩
  | wakeBlockReceive block => exact ⟨_, rfl, h.wakeBlock⟩
  | wakeFrameRepeat => exact ⟨_, rfl, h.wakeRepeat⟩
  | frameReceive i blocks => exact ⟨_, rfl, h.blocksIn⟩
  | frameTransmitSelect i => exact ⟨_, rfl, h.transmit⟩
  | ackReceive f => exact ⟨_, rfl, .frameRow h fun _ h => h.ackFrame⟩
  | nakReceive f => exact ⟨_, rfl, .frameRow h fun _ h => h.nakFrame⟩
  | retryTimeout typ dst path => exact ⟨_, rfl, h.retryLate⟩
  | dictRequestReceive f => exact ⟨_, rfl, h.dictKind⟩
  | dictResponseReceive f => exact ⟨_, rfl, h.dictKind⟩
  | dictAbortReceive f => exact ⟨_, rfl, h.dictKind⟩
  | dictSwarmReceive f => exact ⟨_, rfl, h.dictKind⟩
  | dictBusyReceive f => exact ⟨_, rfl, h.dictKind⟩
  | forwardTimeout node tag => exact ⟨_, rfl, h.forwardLate⟩
  | delayExchangeDue => exact ⟨_, rfl, h.exchangeDue⟩
  | delayReqReceive f rxTime => exact ⟨_, rfl, .frameRow h fun _ h => h.delayReq⟩
  | delayRespReceive f rxTime => exact ⟨_, rfl, .frameRow h fun _ h => h.delayResp⟩
  | timeSyncIncrement f => exact ⟨_, rfl, .frameRow h fun _ h => h.timeSync⟩
  | timeSyncSet f => exact ⟨_, rfl, .frameRow h fun _ h => h.timeSync⟩
  | timeSyncStep f => exact ⟨_, rfl, .frameRow h fun _ h => h.timeSync⟩
  | timeIncrementWrite v => exact ⟨_, rfl, h.writeNat⟩
  | timeStep data => exact ⟨_, rfl, h.writeNat⟩
  | comparatorFire k => exact ⟨_, rfl, h.fire⟩
  | tsyncPulseStart => exact ⟨_, rfl, h.tsyncStart⟩
  | tsyncPulseEnd => exact ⟨_, rfl, h.tsyncFall⟩
  | tsyncInputEdge => exact ⟨_, rfl, .ite h.wr.count h⟩
  | orsolaneDueInstant => exact ⟨_, rfl, h.dueInstant⟩
  | leaseExpiry => exact ⟨_, rfl, h.leaseExpires⟩
  | leaseFrameRenew f => exact ⟨_, rfl, .frameRow h fun _ h => h.leaseFrame⟩
  | leaseFrameRelease f => exact ⟨_, rfl, .frameRow h fun _ h => h.leaseFrame⟩
  | leaseFrameRevert f => exact ⟨_, rfl, .frameRow h fun _ h => h.leaseFrame⟩
  | revertHoldoffExpiry can => exact ⟨_, rfl, h.revertReady⟩
  | leaseNsWrite v => exact ⟨_, rfl, h.writeNat⟩
  | pselNChange low ticks => exact ⟨_, rfl, h.pselChange⟩
  | pselHoldoffExpiry => exact ⟨_, rfl, h.pselHoldoff⟩
  | pselStuck => exact ⟨_, rfl, h.pselStuck⟩
  | fireflyBeaconSend p q => exact ⟨_, rfl, h.beaconSend⟩
  | fireflyBeaconReceive f => exact ⟨_, rfl, .frameRow h fun _ h => h.beaconReceive⟩
  | fireflyEchoSend => exact ⟨_, rfl, h.echoSend⟩
  | fireflyEchoRequestReceive f => exact ⟨_, rfl, .frameRow h fun _ h => h.echoReturn⟩
  | fireflyEchoReplyReceive f rxTime => exact ⟨_, rfl, .frameRow h fun _ h => h.echoReply⟩
  | healthEvaluation q bits errors others margin => exact ⟨_, rfl, h.evalHealth⟩
  | canLeaseExpiry => exact ⟨_, rfl, h.canExpires⟩
  | canApply u v => exact ⟨_, rfl, h.writeNat⟩
  | canTimingChange u => exact ⟨_, rfl, h.canTimingChange⟩
  | canFrameReceive u f => exact ⟨_, rfl, h.canReceive⟩
  | canObjectConfigure u n data => exact ⟨_, rfl, h.write⟩
  | canTransmitRequest u n data => exact ⟨_, rfl, h.write⟩
  | canTransmitCancel u n data => exact ⟨_, rfl, h.write⟩
  | canObjectRead u n => exact ⟨_, rfl, h.read⟩
  | canTransmitStart u => exact ⟨_, rfl, h.canStart⟩
  | canTransmitComplete u ok => exact ⟨_, rfl, h.canComplete⟩
  | canErrorDetected u code dataPhase transmitter collision place => exact ⟨_, rfl, h.canError⟩
  | canRecoveryComplete u => exact ⟨_, rfl, h.canRecovered⟩
  | canRecover u v => exact ⟨_, rfl, h.writeNat⟩
  | dupClear u v => exact ⟨_, rfl, h.writeNat⟩
  | lecRead u dlec => exact ⟨_, rfl, h.read⟩
  | timestampEntryRead u => exact ⟨_, rfl, h.read⟩
  | timestampFlush u v => exact ⟨_, rfl, h.writeNat⟩
  | canBusMonitorEnter u => exact ⟨_, rfl, h.canMonitor⟩
  | wdpRead o t => exact ⟨_, rfl, h.transact⟩
  | wdpWrite o t => exact ⟨_, rfl, h.transact⟩
  | wdpBlockRead o t => exact ⟨_, rfl, h.transact⟩
  | wdpBlockWrite o t => exact ⟨_, rfl, h.transact⟩
  | wdpSegment o t => exact ⟨_, rfl, .receive h fun _ h => h.blockTelegram⟩
  | wdpWindow o t => exact ⟨_, rfl, .receive h fun _ h => h.blockTelegram⟩
  | blockTimeout tagGen => exact ⟨_, rfl, h.blockLate⟩
  | wdpState o t => exact ⟨_, rfl, h.transact⟩
  | wdpAbort o t => exact ⟨_, rfl, .receive h fun _ h => h.abortTag⟩
  | wdpSafe u t => exact ⟨_, rfl, h.safeTelegram⟩
  | wdpLeaseRenew u t => exact ⟨_, rfl, h.leaseTelegram⟩
  | wdpLeaseRelease u t => exact ⟨_, rfl, h.leaseTelegram⟩
  | wdpLeaseRevert u t => exact ⟨_, rfl, h.leaseTelegram⟩
  | wdpCyclicCommand u data => exact ⟨_, rfl, h.cyclicCommand⟩
  | cyclicStatusSend => exact ⟨_, rfl, h.cyclicStatus⟩
  | timeTelegramSend => exact ⟨_, rfl, h.timeTelegram⟩
  | captureEnable v => exact ⟨_, rfl, h.writeNat⟩
  | captureArm v => exact ⟨_, rfl, h.writeNat⟩
  | captureForce v => exact ⟨_, rfl, h.writeNat⟩
  | captureSample => exact ⟨_, rfl, h.captureSample⟩
  | captureDecision cond => exact ⟨_, rfl, h.captureDecide⟩
  | captureRecordClose => exact ⟨_, rfl, h.recordClose⟩
  | trigLineFall line => exact ⟨_, rfl, h.trigFall⟩
  | trigDriveEnd line => exact ⟨_, rfl, h.trigRelease⟩
  | triggerFrameReceive f => exact ⟨_, rfl, .frameRow h fun _ h => h.triggerFrame⟩
  | calArm v => exact ⟨_, rfl, h.writeNat⟩
  | trigCalTimeout line => exact ⟨_, rfl, h.calLate⟩
  | trigCalDrive line => exact ⟨_, rfl, h.calStep⟩
  | deadTimeClear v => exact ⟨_, rfl, h.writeNat⟩
  | ceqWordRead => exact ⟨_, rfl, h.read⟩
  | ceqWindowRead => exact ⟨_, rfl, h.read⟩
  | ceqMark v => exact ⟨_, rfl, h.writeNat⟩
  | ceqRewind v => exact ⟨_, rfl, h.writeNat⟩
  | ceqRelease v => exact ⟨_, rfl, h.writeNat⟩
  | egressWrite v => exact ⟨_, rfl, h.writeNat⟩
  | captureFrameSend => exact ⟨_, rfl, h.captureSend⟩
  | egressHoldoffExpiry => exact ⟨_, rfl, h.egressRetry⟩
  | captureFrameReceive f => exact ⟨_, rfl, .frameRow h fun _ h => h.captureFrame⟩
  | store v => exact ⟨_, rfl, h.writeNat⟩
  | storeComplete ok => exact ⟨_, rfl, h.storeDone.portFreed⟩
  | defaults v => exact ⟨_, rfl, h.writeNat⟩
  | oemAreaWrite data => exact ⟨_, rfl, h.write⟩
  | fwImageWrite size => exact ⟨_, rfl, h.imageWrite⟩
  | fwCheck => exact ⟨_, rfl, h.writeNat⟩
  | fwCheckComplete => exact ⟨_, rfl, h.fwChecked⟩
  | fwActivate => exact ⟨_, rfl, h.writeNat⟩
  | fwActivation restart => exact ⟨_, rfl, h.fwActivation⟩
  | activateWaitExpiry => exact ⟨_, rfl, h.fwWaitLate⟩
  | maintStandbySoak arg duration => exact ⟨_, rfl, h.maint⟩
  | maintLanePrbs arg duration => exact ⟨_, rfl, h.maint⟩
  | maintOpenWireSweep arg duration => exact ⟨_, rfl, h.maint⟩
  | maintNtcSweep arg duration => exact ⟨_, rfl, h.maint⟩
  | maintFineDelaySweep arg duration => exact ⟨_, rfl, h.maint⟩
  | maintGateLoopback arg duration => exact ⟨_, rfl, h.maint⟩
  | maintNvScrub arg duration => exact ⟨_, rfl, h.maint⟩
  | maintFailoverDrill arg duration => exact ⟨_, rfl, h.maint⟩
  | maintStop mask => exact ⟨_, rfl, h.writeNat⟩
  | maintActivityEnd slot outcome v1 v2 v3 => exact ⟨_, rfl, h.maintEnds⟩
  | objectWrite index sub data => exact ⟨_, rfl, h.write⟩
  | fastComparatorRelease s bits => exact ⟨_, rfl, h.fastRelease⟩
  | relaxationOscillatorInRange cycles => exact ⟨_, rfl, .ite h.oscCheck h⟩
  | powerOnResetAssert => exact ⟨_, rfl, h.porAssert⟩
  | resetNAssert => exact ⟨_, rfl, h.pinAssert⟩
  | deviceReset => exact ⟨_, rfl, h.commandReset⟩
  | bootComplete => exact ⟨_, rfl, h.bootComplete⟩
  | supervisorRestartComplete => exact ⟨_, rfl, h.supervisorBack⟩
  | cmdRun => exact ⟨_, rfl, h.cmd⟩
  | cmdStop => exact ⟨_, rfl, h.cmd⟩
  | cmdSafe => exact ⟨_, rfl, h.cmd⟩
  | cmdResume => exact ⟨_, rfl, h.cmd⟩
  | cmdCocoon => exact ⟨_, rfl, h.cmd⟩
  | cocoonEntryComplete => exact ⟨_, rfl, h.cocoonEntered⟩
  | cmdWake => exact ⟨_, rfl, h.cmd⟩
  | cmdSupervisorRestart => exact ⟨_, rfl, h.cmd⟩
  | cmdDeviceReset => exact ⟨_, rfl, h.cmd⟩
  | cocoonExit => exact ⟨_, rfl, h.cocoonExit⟩
  | abortCapture => exact ⟨_, rfl, h.writeNat⟩
  | abortBlock => exact ⟨_, rfl, h.writeNat⟩
  | abortStore => exact ⟨_, rfl, h.writeNat⟩
  | abortFwInstall => exact ⟨_, rfl, h.writeNat⟩
  | abortMaint => exact ⟨_, rfl, h.writeNat⟩
  | abortMolt => exact ⟨_, rfl, h.writeNat⟩
  | abortForward => exact ⟨_, rfl, h.writeNat⟩

/-! ### The two commands that turn a gate on (spec/05 R140; spec/09 R297, R299, R300) -/

/-- The gate line of a leg's H or L switch. -/
def switchLine (l : Leg) (high : Bool) : Line := if high then lineH l else lineL l

theorem switchLine_inj {l m : Leg} {b c : Bool} (h : switchLine l b = switchLine m c) : l = m ∧ b = c := by
  simp only [switchLine, lineH, lineL, Fin.ext_iff] at h ⊢
  cases b <;> cases c <;> simp_all <;> omega

theorem State.gate_getElem (s : State) (l : Line) (b : Bool) (j : Line) :
    (s.gate l b).gates[j] = if j = l then b else s.gates[j] := by
  simp only [State.gate_gates, Fin.getElem_fin, Vector.getElem_set, Fin.ext_iff, eq_comm]

/-- The form of the exclusion in which either switch of a leg stands for H. -/
theorem gatesExclude_iff : GatesExclude s ↔
    ∀ (l : Leg) (high : Bool), s.gates[switchLine l high] = true → s.gates[switchLine l !high] = false := by
  refine forall_congr' fun l => ?_
  simp only [switchLine, Bool.forall_bool, Bool.not_false, Bool.not_true, if_true, Bool.false_eq_true, if_false]
  cases s.gates[lineH l] <;> cases s.gates[lineL l] <;> decide

/-- Where no gate turns on, no leg comes to have both on. -/
theorem GatesExclude.dims (h : GatesExclude s) (hd : Dims s t) : GatesExclude t := by
  have hon (j : Line) : t.gates[j] = true → s.gates[j] = true := by
    have := hd j
    cases hs : s.gates[j] <;> simp_all
  exact fun l ⟨hH, hL⟩ => h l ⟨hon _ hH, hon _ hL⟩

/-- A switch turns on while its partner is off. -/
theorem GatesExclude.turnOn (h : GatesExclude s) (l : Leg) (high : Bool) (hoff : s.gates[switchLine l !high] = false) :
    GatesExclude (s.gate (switchLine l high) true) := by
  rw [gatesExclude_iff] at h ⊢
  intro m b hb
  have hne : switchLine m (!b) ≠ switchLine l high := fun he => by
    obtain ⟨rfl, hb'⟩ := switchLine_inj he
    obtain rfl : b = !high := by simp [← hb']
    rw [State.gate_getElem, if_neg fun he => by simpa using (switchLine_inj he).2, hoff] at hb
    exact Bool.false_ne_true hb
  rw [State.gate_getElem, if_neg hne]
  rw [State.gate_getElem] at hb
  split at hb
  next he =>
    obtain ⟨rfl, rfl⟩ := switchLine_inj he
    exact hoff
  next => exact h m b hb

/-- The edge that turns a switch on moves no other gate. -/
theorem GatesExclude.issueOn {tl : Nat} (h : GatesExclude s) (l : Leg) (high : Bool)
    (hoff : s.gates[switchLine l !high] = false) : GatesExclude (s.issueEdge (switchLine l high) true tl) :=
  GatesExclude.turnOn (s := s.toTaps tl) h l high hoff

/-- The instant at which a switch whose dead time ends at d turns on, after the blanking that its partner's turn-off may ask for. -/
def State.onAt (s : State) (l : Leg) (high : Bool) (d : Nat) : Nat × State :=
  let due := placeOn (s.quantum (switchLine l high)) d
  match s.clock.lines[switchLine l !high].offAt with
  | some t0 => s.blanked t0 due
  | none => (due, s)

/-- That instant has come, and no turn-on waits. -/
def State.deadOver (s : State) (l : Leg) (high : Bool) (d : Nat) : State :=
  ((s.onAt l high d).2.toTaps (s.onAt l high d).1).modLeg l fun g => { g with turnOn := none }

theorem State.deadEnd_eq {l : Leg} {high : Bool} {d : Nat} (h : s.legs[l].turnOn = some (high, d)) :
    s.deadEnd l =
      if (s.deadOver l high d).guardRow (cellOf (legCarrier l)) (bridgeOf (legCarrier l)) != 5 then s.deadOver l high d
      else if (s.deadOver l high d).gates[switchLine l !high] then (s.deadOver l high d).refuseOn l
      else (s.deadOver l high d).issueEdge (switchLine l high) true (s.onAt l high d).1 := by
  unfold State.deadEnd
  rw [h]
  cases high <;> rfl

theorem Dims.onAt {l high d} (h : Dims s a) : Dims s (a.onAt l high d).2 := by
  unfold State.onAt
  split
  · exact h.blanked
  · exact h

theorem Dims.deadOver {l high d} (h : Dims s a) : Dims s (a.deadOver l high d) := h.onAt.toTaps.modLeg

theorem GatesExclude.deadEnd {l : Leg} (h : GatesExclude s) : GatesExclude (s.deadEnd l) := by
  cases hdue : s.legs[l].turnOn with
  | none => rwa [show s.deadEnd l = s by unfold State.deadEnd; rw [hdue]]
  | some due =>
    obtain ⟨high, d⟩ := due
    have hover : Dims s (s.deadOver l high d) := (Dims.refl s).deadOver
    rw [State.deadEnd_eq hdue]
    split_ifs with hrow hon
    · exact h.dims hover
    · exact h.dims hover.refuseOn
    · exact (h.dims hover).issueOn l high (Bool.eq_false_iff.2 hon)

theorem GatesExclude.safeTurnOn {c : Cell} {b : Bridge} (h : GatesExclude s) : GatesExclude (s.safeTurnOn c b) := by
  dsimp only [State.safeTurnOn]
  split
  · exact h
  · refine forFin_keeps GatesExclude _ (fun j a h => ?_) _ h
    split
    · exact h
    · split_ifs with hwait hrow hH
      · exact h
      · exact h
      · exact h.dims (.refuseOn (.modLeg (.refl a)))
      · exact GatesExclude.turnOn (s := a.modLeg _ _) h _ false (Bool.eq_false_iff.2 hH)

/-! ### The interlock -/

/-- Each of the two commands that may turn a gate on looks at its partner; no other command turns one on. -/
theorem exec_gatesExclude (c : Instr) (s : State) (h : GatesExclude s) : Completes c s GatesExclude := by
  by_cases hdead : ∃ l, c = .deadtimeTurnOn l
  · obtain ⟨l, rfl⟩ := hdead
    exact ⟨_, rfl, h.deadEnd⟩
  by_cases hsafe : ∃ k b, c = .safePatternTurnOn k b
  · obtain ⟨k, b, rfl⟩ := hsafe
    exact ⟨_, rfl, h.safeTurnOn⟩
  obtain ⟨t, hexec, hdims⟩ := exec_dims c s (fun l he => hdead ⟨l, he⟩) fun k b he => hsafe ⟨k, b, he⟩
  exact ⟨t, hexec, h.dims hdims⟩

/-- Settles O52: a step runs a command, none of which turns a gate on beside its partner, or lets the clock run on. -/
theorem noLegEverHasBothGatesOn : Obligations.NoLegEverHasBothGatesOn := by
  unfold Obligations.NoLegEverHasBothGatesOn
  intro s t h hstep
  obtain ⟨hrun, hidle⟩ := stepRunsTheFrontCommand
  cases hq : s.pending with
  | nil =>
    obtain ⟨u, hu, -, hframe⟩ := hidle s hq
    obtain rfl : u = t := by simpa [hu] using hstep
    rw [hframe]
    exact h
  | cons c cs =>
    obtain ⟨u, hu, hexcl⟩ := exec_gatesExclude c { s with pending := cs } h
    rw [hrun s c cs hq, hu] at hstep
    obtain rfl : u = t := by simpa using hstep
    exact hexcl

end Sys2Proof.Machine
end

section
/-! A leg command at the end of network time. -/

namespace Sys2Proof.Machine
set_option Elab.async false

/-! ### A carrier on network time whose seconds run out (spec/05 R130; spec/14 R462)

The 64 bits of network time's seconds wrap. A NETWORK carrier gives its instants as taps of network time, and the local instant of one that lies past the wrap is right only before it: once the timebase has passed the wrap, network time has begun anew, and the same instant lies 2^64 seconds ahead. -/

/-- A driven NETWORK carrier in SAWTOOTH mode, one tick before the seconds of network time wrap, whose coming ZERO turns leg 0 high 1600 taps after the wrap. -/
def carrierPastTheWrap : State :=
  { ((State.reset.wr 0x203001 2).wr 0x200005 1).modCarrier 0 fun c =>
      { c with running := true, driving := true, started := true, mode := 2, pref := 1, span := 10000
               zeroAt := (2 ^ 64 * 10 ^ 10 + 1600 : Nat), lastZero := 2 ^ 64 * 10 ^ 10 + 1600
               nextAt := 2 ^ 64 * 10 ^ 10 + 11600
               v := { c.v with cmp := Vector.replicate 2 0x40000000, dead := Vector.replicate 2 100 } } with
    net := ⟨2 ^ 64 - 1, secUnits - 6871947674⟩ }

/-- The local instant of that ZERO, as network time stands, and the instant of the carrier. -/
def zeroPastTheWrap : BitVec 64 × Nat := (1616, 2 ^ 64 * 10 ^ 10 + 1600)

theorem exec_legCommandChange (l : Leg) (high : Bool) (instant : BitVec 64) (s : State) :
    exec (.legCommandChange l high instant) s = .next (s.legChange l high instant.toNat) := rfl

/-- The rise does not come in the tick of its local instant. -/
theorem carrierPastTheWrap_legChange_tick :
    (carrierPastTheWrap.legChange 0 true zeroPastTheWrap.1.toNat).tick ≠ zeroPastTheWrap.1.toNat / 16 := by
  decide

/-- Refutes O11: its clause of a placed pulse says that the edge comes at the operand's local instant; but of a NETWORK carrier the edge is placed after time has passed to its tick, and where the seconds of network time have wrapped meanwhile, the instant's local time is another (spec/05 R127, R130; spec/14 R462). -/
theorem not_legsSwitchWithDeadTime : ¬ Obligations.LegsSwitchWithDeadTime := by
  unfold Obligations.LegsSwitchWithDeadTime
  intro h
  obtain ⟨-, hplaced, -⟩ := h carrierPastTheWrap
  obtain ⟨t, hexec, -, -, -, -, -, -, -, -, htick, -⟩ := hplaced 0 true zeroPastTheWrap.1 zeroPastTheWrap.2
    (by decide) (by decide) (by decide) (by decide) (by decide) (by decide) (by decide) (by decide) (by decide)
    (by decide) (by decide) (by decide) (by decide)
  have ht : carrierPastTheWrap.legChange 0 true zeroPastTheWrap.1.toNat = t :=
    Host.Outcome.next.inj ((exec_legCommandChange 0 true zeroPastTheWrap.1 carrierPastTheWrap).symm.trans hexec)
  exact carrierPastTheWrap_legChange_tick (by rw [ht, htick]; rfl)

end Sys2Proof.Machine
end

section
/-! What the operations of carriers and pulses leave. -/

namespace Sys2Proof.Machine
set_option Elab.async false

variable {F : Nat} {s a t : State}

/-! ### Carriers by themselves -/

theorem State.carriers_modCarrier (s : State) (j k : Carrier) (f : CarrierSt → CarrierSt) :
    (s.modCarrier j f).carriers[k] = if k = j then f s.carriers[k] else s.carriers[k] := by
  split
  next h => exact h ▸ upd_same ..
  next h => exact upd_ne _ _ _ _ h

theorem State.carriers_modCarrier_self (s : State) (k : Carrier) (f : CarrierSt → CarrierSt) :
    (s.modCarrier k f).carriers[k] = f s.carriers[k] := upd_same ..

theorem carrierOf_inj {c : Cell} {b d : Bridge} (h : carrierOf c b = carrierOf c d) : b = d := by
  simp only [carrierOf, Fin.mk.injEq] at h
  exact Fin.ext (by omega)

theorem carrierOf_cellOf (k : Carrier) : carrierOf (cellOf k) (bridgeOf k) = k := by
  simp only [carrierOf, cellOf, bridgeOf, Fin.ext_iff]
  omega

@[simp] theorem State.gateOff_carriers (s : State) (l : Line) : (s.gateOff l).carriers = s.carriers := by
  unfold State.gateOff
  split <;> rfl

@[simp] theorem State.legOff_carriers (s : State) (l : Leg) : (s.legOff l).carriers = s.carriers :=
  (State.gateOff_carriers ..).trans (State.gateOff_carriers ..)

@[simp] theorem State.resetCarry_carriers (s : State) (k : Carrier) : (s.resetCarry k).carriers = s.carriers := by
  refine forFin_frame State.carriers _ (fun j a => ?_) s
  rfl

@[simp] theorem State.startLeg_carriers (s : State) (l : Leg) (t : Nat) : (s.startLeg l t).carriers = s.carriers := by
  unfold State.startLeg
  extract_lets k w th lvl ok s1
  have hs1 : s1.carriers = s.carriers := s.legOff_carriers l
  clear_value s1
  split
  · exact hs1
  · exact hs1

@[simp] theorem State.keepTails_carriers (s : State) (k : Carrier) (t : Nat) : (s.keepTails k t).carriers = s.carriers := by
  refine forFin_frame State.carriers _ (fun j a => ?_) s
  dsimp only
  split
  · rfl
  · split <;> rfl

@[simp] theorem State.legPeriod_carriers (s : State) (l : Leg) : (s.legPeriod l).carriers = s.carriers := by
  unfold State.legPeriod
  extract_lets
  split <;> rfl

@[simp] theorem State.countPeriod_carriers (s : State) (k : Carrier) (t : Nat) :
    (s.countPeriod k t).carriers = s.carriers := by
  unfold State.countPeriod
  extract_lets
  split <;> rfl

/-- An event is numbered (spec/05 R166). -/
theorem State.event_carriers (s : State) (k : Carrier) (y : Fin 5) (t : Nat) :
    ∃ evAt, (s.event k y t).carriers =
      upd s.carriers k fun c => { c with evIdx := c.evIdx.set y (c.evIdx[y] + 1), evAt } := by
  unfold State.event
  extract_lets c no pass s1
  refine ⟨if pass then c.evAt.set y (some t) else c.evAt, ?_⟩
  have hs1 : s1.carriers = upd s.carriers k fun c' =>
      { c' with evIdx := c'.evIdx.set y (c'.evIdx[y] + 1), evAt := if pass then c.evAt.set y (some t) else c.evAt } := by
    simp only [s1, State.modCarrier, upd, c]
  rw [← hs1]
  split <;> rfl

/-- A change that changes nothing. -/
theorem upd_of_eq {α : Type} {n : Nat} {v : Vector α n} {i : Fin n} {f : α → α} (h : f v[i] = v[i]) : upd v i f = v := by
  unfold upd
  rw [h]
  exact Vector.set_getElem_self ..

/-- A bridge that starts to be driven (spec/05 R161). -/
theorem State.tryDrive_carriers (s : State) (k : Carrier) (t : Nat) :
    ∃ driving, (s.tryDrive k t).carriers = upd s.carriers k fun c => { c with driving } := by
  unfold State.tryDrive
  extract_lets c s1
  split
  · exact ⟨s.carriers[k].driving, (upd_of_eq rfl).symm⟩
  · exact ⟨true, (forFin_frame State.carriers _ (fun j a => a.startLeg_carriers _ t) _).trans
      (State.resetCarry_carriers _ k)⟩

/-- Boundaries counted towards LOAD_SKEW (spec/05 R158). -/
theorem State.countSkew_carriers (s : State) (k : Carrier) :
    ∃ skew skewFlag, (s.countSkew k).carriers = upd s.carriers k fun c => { c with skew, skewFlag } := by
  unfold State.countSkew
  extract_lets c s1
  split
  · refine ⟨s.carriers[k].skew + 1, s.carriers[k].skewFlag || s.carriers[k].skew + 1 == 16, ?_⟩
    split <;> simp only [s1, State.modCarrier, upd, State.edgeCause, State.wrBit, State.wr, State.raise]
  · exact ⟨if s.carriers[k].sh.now.pend = 0 then 0 else s.carriers[k].skew, s.carriers[k].skewFlag, by
      simp only [State.modCarrier, upd]⟩

/-! ### What lies beyond carriers and pulses -/

/-- Carriers, legs and gates, with the events and the reports of area 3. -/
def pulsing : Nat := gating ||| raising ||| foot [.signals, .capture, .area 3]

/-- An operation on carriers and pulses: within its footprint, and of a unit of area 3 it writes no object below 0x2000, where the carriers' own lie (spec/05 R169). -/
structure Pulses (s t : State) : Prop where
  within : Within pulsing s t
  low : ∀ key, key % 0x10000 < 0x2000 → t.rd key = s.rd key

theorem Pulses.refl (s : State) : Pulses s s := ⟨.refl _ s, fun _ _ => rfl⟩

theorem Pulses.trans (h : Pulses s a) (h' : Pulses a t) : Pulses s t :=
  ⟨h.within.trans h'.within, fun key hkey => (h'.low key hkey).trans (h.low key hkey)⟩

theorem Pulses.ite {c : Prop} {_ : Decidable c} {x y : State} (hx : Pulses s x) (hy : Pulses s y) :
    Pulses s (if c then x else y) := by
  split
  · exact hx
  · exact hy

theorem Pulses.forFin {n : Nat} {f : Fin n → State → State} (h : Pulses s a)
    (hf : ∀ i b, Pulses s b → Pulses s (f i b)) : Pulses s (Machine.forFin n a f) :=
  forFin_keeps (Pulses s) f hf a h

/-- An operation that writes no object. -/
theorem Pulses.still (h : Pulses s a) (hw : Within F a t) (hF : F ||| pulsing = pulsing := by decide)
    (hlt : F < 2 ^ 64 := by decide) : Pulses s t :=
  h.trans ⟨hw.mono hF, fun key _ =>
    hw.objs key (Nat.testBit_lt_two_pow (hlt.trans_le (Nat.pow_le_pow_right (by decide) (Nat.le_add_right 64 _))))⟩

theorem Pulses.wr {k v} (h : Pulses s a) (hk : InArea 3 k) (hhigh : 0x2000 ≤ k % 0x10000) : Pulses s (a.wr k v) :=
  h.trans ⟨.wrIn 3 (.refl _ a) hk, fun key hkey => State.rd_wr_ne _ _ fun he => by
    rw [he] at hkey
    omega⟩

theorem Pulses.modCarrier {k f} (h : Pulses s a) : Pulses s (a.modCarrier k f) := h.still (Within.refl gating a).modCarrier
theorem Pulses.modLeg {l f} (h : Pulses s a) : Pulses s (a.modLeg l f) := h.still (Within.refl gating a).modLeg
theorem Pulses.legOff {l} (h : Pulses s a) : Pulses s (a.legOff l) := h.still (Within.refl gating a).legOff
theorem Pulses.raise {n} (h : Pulses s a) : Pulses s (a.raise n) := h.still (Within.refl raising a).raise

/-- An event that the router signals. -/
def signalling : Nat := foot [.carriers, .signals, .capture]

theorem Within.event {k y t} (h : Within F s a) (hF : signalling ||| F = F := by decide) : Within F s (a.event k y t) :=
  h.via hF fun h => .ite (Within.set (Within.set h)) (Within.set h)

theorem Pulses.event {k y t} (h : Pulses s a) : Pulses s (a.event k y t) := h.still (Within.refl signalling a).event

theorem Pulses.edgeCause {c i} (h : Pulses s a) (hc : c < 6) : Pulses s (a.edgeCause c i) :=
  .raise (h.wr (by simp only [InArea, Ordinary, unitKey]; omega) (by simp only [unitKey]; omega))

theorem Pulses.resetCarry {k} (h : Pulses s a) : Pulses s (a.resetCarry k) :=
  .forFin h fun _ _ h => .modLeg <| h.wr
    (by simp only [InArea, Ordinary, kCarry, unitKey]; omega) (by simp only [kCarry, unitKey]; omega)

theorem Pulses.countErase {l} (h : Pulses s a) : Pulses s (a.countErase l) :=
  h.modLeg.wr (by simp only [InArea, Ordinary, unitKey]; omega) (by simp only [unitKey]; omega)

theorem Pulses.startLeg {l t} (h : Pulses s a) : Pulses s (a.startLeg l t) :=
  .ite h.legOff.modLeg h.legOff.modLeg.countErase

theorem Pulses.tryDrive {k t} (h : Pulses s a) : Pulses s (a.tryDrive k t) :=
  .ite h (.forFin h.modCarrier.resetCarry fun _ _ h => h.startLeg)

theorem Pulses.countSkew {k} (h : Pulses s a) : Pulses s (a.countSkew k) :=
  .ite (.ite (h.modCarrier.edgeCause (cellOf k).isLt) h.modCarrier) h.modCarrier

theorem Pulses.legPeriod {l} (h : Pulses s a) : Pulses s (a.legPeriod l) :=
  .ite (h.modLeg.edgeCause (by omega)) h.modLeg

theorem Pulses.keepTails {k t} (h : Pulses s a) : Pulses s (a.keepTails k t) := by
  refine .forFin h fun _ _ h => ?_
  dsimp only
  split
  · exact h
  · exact .ite h h.modLeg

theorem Pulses.latchFollowers {k} (h : Pulses s a) : Pulses s (a.latchFollowers k) :=
  .forFin h fun _ _ h => h.modCarrier

theorem Pulses.zeroFollowers {k t p zp} (h : Pulses s a) : Pulses s (a.zeroFollowers k t p zp) :=
  .forFin h fun _ _ h => h.modCarrier

theorem Pulses.nextPeriod {k t oldPeriod oldPhase same} (h : Pulses s a) :
    Pulses s (a.nextPeriod k t oldPeriod oldPhase same) :=
  .ite h.modCarrier (.ite h.modCarrier h.modCarrier)

theorem Pulses.latch {k} (h : Pulses s a) : Pulses s (a.latch k) := h.modCarrier
theorem Pulses.transfer {k} (h : Pulses s a) : Pulses s (a.transfer k) := h.modCarrier
theorem Pulses.newPeriod {k tl t0} (h : Pulses s a) : Pulses s (a.newPeriod k tl t0) := h.modCarrier

theorem Pulses.zeroBoundary {k} (h : Pulses s a) : Pulses s (a.zeroBoundary k) :=
  have h2 := Pulses.transfer (k := k) (.ite (c := (a.modeAt k != a.carriers[k].mode && a.carriers[k].staged.isNone) = true) h.latch h)
  .ite h2.countSkew h2

/-! ### What stays in force -/

theorem kCarrier_low (k : Carrier) (b : Nat) {i : Nat} (hb : b < 3) (hi : i < 0x100) :
    kCarrier (cellOf k) b i % 0x10000 < 0x2000 := by
  simp only [kCarrier, unitKey]
  omega

theorem Pulses.modeAt (h : Pulses s t) (k : Carrier) : t.modeAt k = s.modeAt k := by
  have hk {i : Nat} (hi : i < 0x100) := h.low _ (kCarrier_low k (bridgeOf k) (bridgeOf k).isLt hi)
  have hcell : t.cellSt (cellOf k) = s.cellSt (cellOf k) := h.low _ (by simp only [kCellState, unitKey]; omega)
  simp only [State.modeAt, hk (i := 1) (by decide), hk (i := 2) (by decide), hcell]

end Sys2Proof.Machine
end

section
/-! A carrier reaches its ZERO, its apex and its transfer instants. -/

namespace Sys2Proof.Machine
set_option Elab.async false

variable {F : Nat} {s a t : State}

/-! ### ZERO (spec/05 R129, R139, R153, R167) -/

theorem State.toTaps_tick (s : State) (n : Nat) : (s.toTaps n).tick = max s.tick (n / 16) := by
  show s.tick + (n / 16 - s.tick) = _
  omega

theorem Within.toTaps {n} (h : Within F s a) (hF : timing ||| F = F := by decide) : Within F s (a.toTaps n) :=
  h.advance hF

theorem State.transfer_of_none {k : Carrier} (h : s.carriers[k].staged = none) :
    (s.transfer k).carriers[k] = s.carriers[k] := by
  rw [State.transfer, State.carriers_modCarrier_self, h]

theorem State.event_carrier (s : State) (k : Carrier) (y : Fin 5) (t : Nat) :
    ∃ evAt, (s.event k y t).carriers[k] =
      { s.carriers[k] with evIdx := s.carriers[k].evIdx.set y (s.carriers[k].evIdx[y] + 1), evAt } := by
  obtain ⟨evAt, h⟩ := s.event_carriers k y t
  exact ⟨evAt, by rw [h, upd_same]⟩

theorem State.tryDrive_carrier (s : State) (k : Carrier) (t : Nat) :
    ∃ driving, (s.tryDrive k t).carriers[k] = { s.carriers[k] with driving } := by
  obtain ⟨driving, h⟩ := s.tryDrive_carriers k t
  exact ⟨driving, by rw [h, upd_same]⟩

/-- What was latched takes effect. -/
theorem State.transfer_of_some {k : Carrier} {v : EdgeVals} (h : s.carriers[k].staged = some v)
    (hpref : s.carriers[k].pref < 2) : (s.transfer k).carriers[k].v = v := by
  rw [State.transfer, State.carriers_modCarrier_self, h]
  exact if_pos hpref

theorem State.transfer_running (s : State) (k : Carrier) :
    (s.transfer k).carriers[k].running = s.carriers[k].running := by
  rw [State.transfer, State.carriers_modCarrier_self]
  split <;> rfl

/-- The count towards LOAD_SKEW touches no other field of the carrier. -/
theorem State.countSkew_carrier (s : State) (k : Carrier) :
    ∃ skew skewFlag, (s.countSkew k).carriers[k] = { s.carriers[k] with skew, skewFlag } := by
  obtain ⟨skew, skewFlag, h⟩ := s.countSkew_carriers k
  exact ⟨skew, skewFlag, by rw [h, upd_same]⟩

theorem State.zeroBoundary_running (s : State) (k : Carrier) :
    (s.zeroBoundary k).carriers[k].running = s.carriers[k].running := by
  unfold State.zeroBoundary
  extract_lets c s1 s2
  have h1 : s1.carriers[k].running = s.carriers[k].running := by
    simp only [s1]
    split
    · rw [State.latch, State.carriers_modCarrier_self]
    · rfl
  have h2 : s2.carriers[k].running = s.carriers[k].running := (s1.transfer_running k).trans h1
  split
  · obtain ⟨skew, skewFlag, h⟩ := s2.countSkew_carrier k
    rw [h, ← h2]
  · exact h2

theorem State.zeroBoundary_of_some {k : Carrier} {v : EdgeVals} (h : s.carriers[k].staged = some v)
    (hpref : s.carriers[k].pref < 2) : (s.zeroBoundary k).carriers[k].v = v := by
  unfold State.zeroBoundary
  extract_lets c s1 s2
  have h1 : s1 = s := if_neg (by rw [show c.staged = some v from h]; simp)
  have h2 : s2.carriers[k].v = v := State.transfer_of_some (h1 ▸ h) (h1 ▸ hpref)
  split
  · obtain ⟨skew, skewFlag, h⟩ := s2.countSkew_carrier k
    rw [h, ← h2]
  · exact h2

/-- A ZERO up to its new period: the period that ends is counted, and the boundary has taken effect. -/
def State.zeroBegun (s : State) (k : Carrier) : State :=
  let c := s.carriers[k]
  ((((s.toTaps (s.nextZero k)).countPeriod k c.nextAt).keepTails k c.nextAt).zeroBoundary k).newPeriod k (s.nextZero k)
    c.nextAt

/-- The rest of a ZERO of a carrier that runs on: c is what it was before, tl the local instant. -/
def State.periodBegun (s : State) (k : Carrier) (c : CarrierSt) (tl : Nat) : State :=
  let n := s.carriers[k]
  let s1 := s.nextPeriod k n.lastZero c.v.period c.v.phase (n.pref == c.pref)
  let s2 := s1.zeroFollowers k tl s1.carriers[k].pk c.zeroLoc
  let s3 := if n.driving then forFin 2 s2 fun j a => a.legPeriod (legOf k j) else s2
  let s4 := s3.event k 0 n.lastZero
  if n.mode = 1 then s4 else s4.tryDrive k n.lastZero

theorem State.zero_eq {k : Carrier} (hrun : s.carriers[k].running = true) (hplaced : s.carriers[k].placed = true)
    (hwants : (s.zeroBegun k).wantsRun k = true) :
    s.zero k = (s.zeroBegun k).periodBegun k s.carriers[k] (s.nextZero k) := by
  unfold State.zero
  refine (if_neg (by rw [hrun, hplaced]; decide)).trans ?_
  exact if_neg (show ¬ (!(s.zeroBegun k).wantsRun k) = true by rw [hwants]; decide)

/-- What of a carrier the rest of a ZERO leaves: what the ZERO has set, and of one that follows none the values in force. -/
structure Outlasts (c d : CarrierSt) : Prop where
  started : d.started = c.started
  zeroLoc : d.zeroLoc = c.zeroLoc
  lastZero : d.lastZero = c.lastZero
  mode : d.mode = c.mode
  pref : d.pref = c.pref
  apexDone : d.apexDone = c.apexDone
  tcmpDone : d.tcmpDone = c.tcmpDone
  v : c.pref < 2 → d.v = c.v

theorem Outlasts.refl (c : CarrierSt) : Outlasts c c := ⟨rfl, rfl, rfl, rfl, rfl, rfl, rfl, fun _ => rfl⟩

theorem Outlasts.trans {c d e : CarrierSt} (h : Outlasts c d) (h' : Outlasts d e) : Outlasts c e where
  started := h'.started.trans h.started
  zeroLoc := h'.zeroLoc.trans h.zeroLoc
  lastZero := h'.lastZero.trans h.lastZero
  mode := h'.mode.trans h.mode
  pref := h'.pref.trans h.pref
  apexDone := h'.apexDone.trans h.apexDone
  tcmpDone := h'.tcmpDone.trans h.tcmpDone
  v hpref := (h'.v (h.pref ▸ hpref)).trans (h.v hpref)

/-- A follower that its leader's ZERO moves keeps what its own ZERO has set. -/
theorem CarrierSt.follow_outlasts (c : CarrierSt) (t p zp : Nat) (hpref : 2 ≤ c.pref) : Outlasts c (c.follow t p zp) := by
  have hv : ¬ c.pref < 2 := by omega
  unfold CarrierSt.follow
  extract_lets ph goal slew taken c0 put phi d n c1
  split_ifs <;> exact ⟨rfl, rfl, rfl, rfl, rfl, rfl, rfl, fun h => absurd h hv⟩

theorem State.zeroFollowers_carrier (s : State) (k : Carrier) (t p zp : Nat) :
    Outlasts s.carriers[k] (s.zeroFollowers k t p zp).carriers[k] ∧
      (s.carriers[k].pref < 2 → (s.zeroFollowers k t p zp).carriers[k].nextAt = s.carriers[k].nextAt) := by
  refine forFin_keeps (fun (a : State) => Outlasts s.carriers[k] a.carriers[k] ∧
    (s.carriers[k].pref < 2 → a.carriers[k].nextAt = s.carriers[k].nextAt)) _ (fun b a ⟨ha, hnext⟩ => ?_) s
    ⟨.refl _, fun _ => rfl⟩
  dsimp only
  rw [State.carriers_modCarrier]
  split
  · split
    next hfollows =>
      simp only [Bool.and_eq_true, decide_eq_true_eq] at hfollows
      obtain ⟨⟨-, hpref⟩, -⟩ := hfollows
      exact ⟨ha.trans (a.carriers[k].follow_outlasts t p zp hpref), fun h => by have := ha.pref; omega⟩
    next => exact ⟨ha, hnext⟩
  · exact ⟨ha, hnext⟩

/-- The period that begins: a LOCAL carrier's next ZERO comes a period later (spec/05 R129). -/
theorem State.nextPeriod_carrier (s : State) (k : Carrier) (t oldPeriod oldPhase : Nat) (same : Bool) :
    Outlasts s.carriers[k] (s.nextPeriod k t oldPeriod oldPhase same).carriers[k] ∧
      (s.carriers[k].pref = 0 →
        (s.nextPeriod k t oldPeriod oldPhase same).carriers[k].nextAt = t + s.carriers[k].v.period) := by
  unfold State.nextPeriod
  extract_lets c p ld lead again
  split
  next h =>
    rw [State.carriers_modCarrier_self]
    exact ⟨⟨rfl, rfl, rfl, rfl, rfl, rfl, rfl, fun _ => rfl⟩, fun h0 => absurd (h.symm.trans h0) (by decide)⟩
  next =>
    split
    next h =>
      rw [State.carriers_modCarrier_self]
      exact ⟨⟨rfl, rfl, rfl, rfl, rfl, rfl, rfl, fun _ => rfl⟩, fun h0 => absurd (h0 ▸ h) (by decide)⟩
    next =>
      rw [State.carriers_modCarrier_self]
      exact ⟨⟨rfl, rfl, rfl, rfl, rfl, rfl, rfl, fun _ => rfl⟩, fun _ => rfl⟩

theorem State.periodBegun_carrier (s : State) (k : Carrier) (c : CarrierSt) (tl : Nat) :
    Outlasts s.carriers[k] (s.periodBegun k c tl).carriers[k] ∧
      (s.carriers[k].pref = 0 →
        (s.periodBegun k c tl).carriers[k].nextAt = s.carriers[k].lastZero + s.carriers[k].v.period) := by
  unfold State.periodBegun
  extract_lets n s1 s2 s3 s4
  obtain ⟨h1, hnext⟩ := s.nextPeriod_carrier k n.lastZero c.v.period c.v.phase (n.pref == c.pref)
  obtain ⟨h2, hnext2⟩ := s1.zeroFollowers_carrier k tl s1.carriers[k].pk c.zeroLoc
  have h3 : s3.carriers = s2.carriers := by
    simp only [s3]
    split
    · exact forFin_frame State.carriers _ (fun j a => a.legPeriod_carriers _) s2
    · rfl
  obtain ⟨evAt, h4⟩ : ∃ evAt, s4.carriers[k] = _ := s3.event_carrier k 0 n.lastZero
  have h4k : Outlasts s.carriers[k] s4.carriers[k] ∧ s4.carriers[k].nextAt = s2.carriers[k].nextAt := by
    rw [h4, h3]
    exact ⟨(h1.trans h2).trans ⟨rfl, rfl, rfl, rfl, rfl, rfl, rfl, fun _ => rfl⟩, rfl⟩
  have hlocal (h0 : s.carriers[k].pref = 0) :
      s2.carriers[k].nextAt = s.carriers[k].lastZero + s.carriers[k].v.period :=
    (hnext2 (by rw [h1.pref, h0]; decide)).trans (hnext h0)
  split
  · exact ⟨h4k.1, fun h0 => h4k.2.trans (hlocal h0)⟩
  · obtain ⟨driving, h5⟩ := s4.tryDrive_carrier k n.lastZero
    rw [h5]
    exact ⟨h4k.1.trans ⟨rfl, rfl, rfl, rfl, rfl, rfl, rfl, fun _ => rfl⟩, fun h0 => h4k.2.trans (hlocal h0)⟩

theorem Pulses.periodBegun {k c tl} (h : Pulses s a) : Pulses s (a.periodBegun k c tl) := by
  unfold State.periodBegun
  extract_lets n s1 s2 s3 s4
  have h2 : Pulses s s2 := h.nextPeriod.zeroFollowers
  have h4 : Pulses s s4 := .event (.ite (.forFin h2 fun _ _ h => h.legPeriod) h2)
  exact .ite h4 h4.tryDrive

/-! #### The objects of a ZERO -/

/-- The objects that `countPeriod` writes. -/
def kPeriods (k : Carrier) : List Nat :=
  [kCarrier (cellOf k) (bridgeOf k) 0x0E, kCarrier (cellOf k) (bridgeOf k) 0x0F, kCarrier (cellOf k) (bridgeOf k) 0x10]

theorem State.countPeriod_keeps (s : State) (k : Carrier) (t : Nat) : KeepsObjs (kPeriods k) s (s.countPeriod k t) := by
  intro key hkey
  simp only [kPeriods, List.mem_cons, List.not_mem_nil, or_false, not_or] at hkey
  obtain ⟨hcount, hticks, htaps⟩ := hkey
  unfold State.countPeriod
  extract_lets b cl c len s1
  have h1 : s1.rd key = s.rd key := (State.rd_count ..).trans (if_neg hcount)
  split
  · exact (State.rd_wr_ne _ _ htaps).trans ((State.rd_wr_ne _ _ hticks).trans h1)
  · exact h1

theorem kCarrier_inj (k : Carrier) {i j : Nat} (h : i ≠ j) :
    kCarrier (cellOf k) (bridgeOf k) i ≠ kCarrier (cellOf k) (bridgeOf k) j := by
  simp only [kCarrier]
  omega

theorem State.countPeriod_count (s : State) (k : Carrier) (t : Nat) :
    (s.countPeriod k t).rd (kCarrier (cellOf k) (bridgeOf k) 0x0E) =
      wrapInc 32 (s.rd (kCarrier (cellOf k) (bridgeOf k) 0x0E)) := by
  unfold State.countPeriod
  extract_lets b cl c len s1
  have h1 : s1.rd (kCarrier cl b 0x0E) = wrapInc 32 (s.rd (kCarrier cl b 0x0E)) := (State.rd_count ..).trans (if_pos rfl)
  split
  · rw [State.rd_wr_ne _ _ (kCarrier_inj k (by decide)), State.rd_wr_ne _ _ (kCarrier_inj k (by decide))]
    exact h1
  · exact h1

theorem State.countPeriod_active (s : State) (k : Carrier) (t : Nat) (h : s.carriers[k].started = true) :
    (s.countPeriod k t).rd (kCarrier (cellOf k) (bridgeOf k) 0x0F) = (t - s.carriers[k].lastZero) / 16 ∧
      (s.countPeriod k t).rd (kCarrier (cellOf k) (bridgeOf k) 0x10) = (t - s.carriers[k].lastZero) % 16 := by
  unfold State.countPeriod
  extract_lets b cl c len s1
  rw [if_pos (show c.started = true from h)]
  exact ⟨(State.rd_wr_ne _ _ (kCarrier_inj k (by decide))).trans ((State.rd_wr ..).trans (if_pos rfl)),
    (State.rd_wr ..).trans (if_pos rfl)⟩

theorem inArea_kCarrier (k : Carrier) {i : Nat} (hi : i < 0x100) : InArea 3 (kCarrier (cellOf k) (bridgeOf k) i) := by
  simp only [InArea, Ordinary, kCarrier, unitKey]
  omega

theorem Within.countPeriod {k t} (h : Within F s a) (hF : foot [.area 3] ||| F = F := by decide) :
    Within F s (a.countPeriod k t) :=
  h.via hF fun h =>
    have hcount := h.wrIn (v := wrapInc 32 (a.rd (kCarrier (cellOf k) (bridgeOf k) 0x0E))) 3 (inArea_kCarrier k (i := 0x0E) (by decide))
    .ite ((hcount.wrIn 3 (inArea_kCarrier k (by decide))).wrIn 3 (inArea_kCarrier k (by decide))) hcount

/-- What a ZERO has counted, with time at its tick: the rest of the ZERO concerns carriers and pulses alone. -/
def State.zeroCounted (s : State) (k : Carrier) : State := (s.toTaps (s.nextZero k)).countPeriod k s.carriers[k].nextAt

theorem State.zeroBegun_pulses (s : State) (k : Carrier) : Pulses (s.zeroCounted k) (s.zeroBegun k) :=
  (Pulses.refl _).keepTails.zeroBoundary.newPeriod

theorem State.zeroCounted_rd (s : State) (k : Carrier) {key : Nat} (hkey : key ∉ kPeriods k) :
    (s.zeroCounted k).rd key = s.rd key := State.countPeriod_keeps _ k _ key hkey

theorem State.zeroCounted_kCarrier (s : State) (k : Carrier) (b : Bridge) {i : Nat} (hi : i < 0x0E) :
    (s.zeroCounted k).rd (kCarrier (cellOf k) b i) = s.rd (kCarrier (cellOf k) b i) :=
  s.zeroCounted_rd k (by
    simp only [kPeriods, kCarrier, List.mem_cons, List.not_mem_nil, or_false]
    omega)

theorem State.zeroBegun_kCarrier (s : State) (k : Carrier) (b : Bridge) {i : Nat} (hi : i < 0x0E) :
    (s.zeroBegun k).rd (kCarrier (cellOf k) b i) = s.rd (kCarrier (cellOf k) b i) :=
  ((s.zeroBegun_pulses k).low _ (kCarrier_low k b b.isLt (by omega))).trans (s.zeroCounted_kCarrier k b hi)

theorem State.zeroCounted_modeAt (s : State) (k : Carrier) : (s.zeroCounted k).modeAt k = s.modeAt k := by
  have hcell : (s.zeroCounted k).cellSt (cellOf k) = s.cellSt (cellOf k) := s.zeroCounted_rd k (by
    simp only [kPeriods, kCarrier, kCellState, unitKey, List.mem_cons, List.not_mem_nil, or_false]
    omega)
  simp only [State.modeAt, s.zeroCounted_kCarrier k (bridgeOf k) (i := 1) (by decide),
    s.zeroCounted_kCarrier k (bridgeOf k) (i := 2) (by decide), hcell]

/-- What a ZERO makes of its carrier. -/
structure Begins (k : Carrier) (s t : State) : Prop where
  running : t.carriers[k].running = s.carriers[k].running
  started : t.carriers[k].started = true
  zeroLoc : t.carriers[k].zeroLoc = s.nextZero k
  mode : t.carriers[k].mode = s.modeAt k
  pref : t.carriers[k].pref = s.rd (kCarrier (cellOf k) (bridgeOf k) 3)
  apexDone : t.carriers[k].apexDone = false
  tcmpDone : t.carriers[k].tcmpDone = false
  v : ∀ v, s.carriers[k].staged = some v → s.carriers[k].pref < 2 → t.carriers[k].v = v

theorem State.newPeriod_begins (s : State) (k : Carrier) (tl t0 : Nat) :
    ∃ pref evIdx phi stretched nextSpan zeroAt lastZero, pref = s.rd (kCarrier (cellOf k) (bridgeOf k) 3) ∧
      (s.newPeriod k tl t0).carriers[k] =
        { s.carriers[k] with
          mode := s.modeAt k, started := true, apexDone := false, tcmpDone := false, zeroLoc := tl
          evRestart := Vector.replicate 5 false, pref, evIdx, phi, stretched, nextSpan, zeroAt, lastZero } := by
  unfold State.newPeriod
  extract_lets c pref mode t
  exact ⟨_, _, _, _, _, _, _, rfl, State.carriers_modCarrier_self ..⟩

theorem State.zeroBegun_begins (s : State) (k : Carrier) : Begins k s (s.zeroBegun k) := by
  obtain ⟨a, ha⟩ : ∃ a, a = ((s.zeroCounted k).keepTails k s.carriers[k].nextAt).zeroBoundary k := ⟨_, rfl⟩
  have hp : Pulses (s.zeroCounted k) a := ha ▸ (Pulses.refl _).keepTails.zeroBoundary
  have hcarriers : ((s.zeroCounted k).keepTails k s.carriers[k].nextAt).carriers = s.carriers :=
    (State.keepTails_carriers ..).trans (State.countPeriod_carriers ..)
  have hrunning : a.carriers[k].running = s.carriers[k].running := by
    rw [ha, State.zeroBoundary_running, hcarriers]
  have hv (v : EdgeVals) (hstaged : s.carriers[k].staged = some v) (hpref : s.carriers[k].pref < 2) :
      a.carriers[k].v = v := by
    rw [ha]
    exact State.zeroBoundary_of_some (by rw [hcarriers, hstaged]) (by rw [hcarriers]; exact hpref)
  have hmode : a.modeAt k = s.modeAt k := (hp.modeAt k).trans (s.zeroCounted_modeAt k)
  have hpref : a.rd (kCarrier (cellOf k) (bridgeOf k) 3) = s.rd (kCarrier (cellOf k) (bridgeOf k) 3) :=
    (hp.low _ (kCarrier_low k _ (bridgeOf k).isLt (by decide))).trans (s.zeroCounted_kCarrier k _ (by decide))
  have heq : s.zeroBegun k = a.newPeriod k (s.nextZero k) s.carriers[k].nextAt := by rw [ha]; rfl
  obtain ⟨pref, evIdx, phi, stretched, nextSpan, zeroAt, lastZero, hpref', hnew⟩ :=
    a.newPeriod_begins k (s.nextZero k) s.carriers[k].nextAt
  rw [heq]
  constructor <;> rw [hnew]
  · exact hrunning
  · exact hmode
  · exact hpref'.trans hpref
  · exact hv

/-! ### The apex and TCMP (spec/05 R131, R136, R153, R164) -/

theorem State.transfer_apexDone (s : State) (k : Carrier) :
    (s.transfer k).carriers[k].apexDone = s.carriers[k].apexDone := by
  rw [State.transfer, State.carriers_modCarrier_self]
  split <;> rfl

/-- What an apex makes of its carrier, c, whose events have been numbered. -/
structure Halves (c d : CarrierSt) : Prop where
  apexDone : d.apexDone = c.apexDone
  evIdx : c.mode ≠ 1 ∨ c.staged = none → d.evIdx = c.evIdx
  v : ∀ v, c.mode = 1 → c.pref < 2 → c.staged = some v → d.v = v

/-- The boundary that the apex is in TRIANGLE mode. -/
def State.apexBoundary (s : State) (k : Carrier) (t : Nat) : State :=
  let s1 := (if s.carriers[k].staged.isSome then s.keepTails k t else s).transfer k
  if s.loadsAt k true then s1.countSkew k else s1

theorem State.apexBoundary_carrier (s : State) (k : Carrier) (t : Nat) :
    (s.apexBoundary k t).carriers[k].apexDone = s.carriers[k].apexDone ∧
      (s.carriers[k].staged = none → (s.apexBoundary k t).carriers[k].evIdx = s.carriers[k].evIdx) ∧
      ∀ v, s.carriers[k].pref < 2 → s.carriers[k].staged = some v → (s.apexBoundary k t).carriers[k].v = v := by
  unfold State.apexBoundary
  extract_lets s1
  obtain ⟨b, hb⟩ : ∃ b, b = if s.carriers[k].staged.isSome then s.keepTails k t else s := ⟨_, rfl⟩
  have hcarriers : b.carriers = s.carriers := by
    rw [hb]
    split
    · exact s.keepTails_carriers k t
    · rfl
  have hs1 : s1 = b.transfer k := by rw [hb]
  have hskew : (if s.loadsAt k true then s1.countSkew k else s1).carriers[k].apexDone = s1.carriers[k].apexDone ∧
      (if s.loadsAt k true then s1.countSkew k else s1).carriers[k].evIdx = s1.carriers[k].evIdx ∧
      (if s.loadsAt k true then s1.countSkew k else s1).carriers[k].v = s1.carriers[k].v := by
    obtain ⟨skew, skewFlag, h⟩ := s1.countSkew_carrier k
    split
    · rw [h]
      exact ⟨rfl, rfl, rfl⟩
    · exact ⟨rfl, rfl, rfl⟩
  obtain ⟨hapex, hidx, hv⟩ := hskew
  rw [hapex, hidx, hv, hs1]
  refine ⟨(b.transfer_apexDone k).trans (by rw [hcarriers]), fun hnone => ?_, fun v hpref hstaged => ?_⟩
  · rw [State.transfer_of_none (by rw [hcarriers, hnone]), hcarriers]
  · exact State.transfer_of_some (by rw [hcarriers, hstaged]) (by rw [hcarriers]; exact hpref)

theorem Pulses.apexBoundary {k t} (h : Pulses s a) : Pulses s (a.apexBoundary k t) :=
  have h2 := Pulses.transfer (k := k) (.ite (c := a.carriers[k].staged.isSome = true) (h.keepTails (k := k) (t := t)) h)
  .ite h2.countSkew h2

/-- The apex of a carrier at t, once its event has been numbered: c is what the carrier was before. -/
def State.halved (s : State) (k : Carrier) (c : CarrierSt) (t : Nat) : State :=
  let s1 := if c.mode = 1 then s.apexBoundary k t else s
  let s2 := if s1.carriers[k].v.period = c.v.period || c.pref ≥ 2 then s1
    else s1.modCarrier k fun x => x.halfAt t c.v.phase
  if c.mode = 1 then s2.tryDrive k t else s2

/-- The instant of a carrier's apex. -/
def CarrierSt.apexAt (c : CarrierSt) : Nat := (c.zeroAt + c.span / 2).toNat

/-- The event of an apex, at its instant. -/
def State.apexNoted (s : State) (k : Carrier) : State :=
  ((s.toTaps (s.localOf k s.carriers[k].apexAt)).modCarrier k fun c => { c with apexDone := true }).event k 1
    s.carriers[k].apexAt

theorem State.apexNoted_carrier (s : State) (k : Carrier) :
    ∃ evAt, (s.apexNoted k).carriers[k] =
      { s.carriers[k] with
        apexDone := true, evIdx := s.carriers[k].evIdx.set 1 (s.carriers[k].evIdx[(1 : Fin 5)] + 1), evAt } := by
  obtain ⟨evAt, h⟩ := State.event_carrier ((s.toTaps (s.localOf k s.carriers[k].apexAt)).modCarrier k fun c =>
    { c with apexDone := true }) k 1 s.carriers[k].apexAt
  rw [State.carriers_modCarrier_self] at h
  exact ⟨evAt, h⟩

theorem State.apex_eq {k : Carrier} (hrun : s.carriers[k].running = true) (hstarted : s.carriers[k].started = true)
    (hapex : s.carriers[k].apexDone = false) (hcome : s.carriers[k].apexAt < s.carriers[k].nextAt) :
    s.apex k = (s.apexNoted k).halved k s.carriers[k] s.carriers[k].apexAt := by
  obtain ⟨evAt, hnoted⟩ := s.apexNoted_carrier k
  have hstaged : (s.apexNoted k).carriers[k].staged = s.carriers[k].staged := by rw [hnoted]
  unfold State.apex
  have hnot : ¬ s.carriers[k].nextAt ≤ s.carriers[k].apexAt := by omega
  refine (if_neg ?_).trans ?_
  · rw [hrun, hstarted, hapex]
    simpa [CarrierSt.apexAt] using hnot
  · unfold State.halved State.apexBoundary
    rw [hstaged]
    rfl

theorem State.halved_carrier (s : State) (k : Carrier) (c : CarrierSt) (t : Nat) (hmode : s.carriers[k].mode = c.mode) :
    Halves s.carriers[k] (s.halved k c t).carriers[k] := by
  unfold State.halved
  extract_lets s1 s2
  have h1 : Halves s.carriers[k] s1.carriers[k] := by
    simp only [s1]
    split
    next h =>
      obtain ⟨hapex, hidx, hv⟩ := s.apexBoundary_carrier k t
      exact ⟨hapex, fun hor => hidx (hor.resolve_left fun hne => hne (hmode.trans h)), fun v _ => hv v⟩
    next h => exact ⟨rfl, fun _ => rfl, fun v h1 => absurd (hmode.symm.trans h1) h⟩
  have h2 : Halves s.carriers[k] s2.carriers[k] := by
    simp only [s2]
    split
    · exact h1
    · rw [State.carriers_modCarrier_self]
      exact ⟨h1.apexDone, h1.evIdx, h1.v⟩
  split
  · obtain ⟨driving, h⟩ := s2.tryDrive_carrier k t
    rw [h]
    exact ⟨h2.apexDone, h2.evIdx, h2.v⟩
  · exact h2

theorem Pulses.halved {k c t} (h : Pulses s a) : Pulses s (a.halved k c t) := by
  unfold State.halved
  extract_lets s1 s2
  have h1 : Pulses s s1 := .ite h.apexBoundary h
  have h2 : Pulses s s2 := .ite h1 h1.modCarrier
  exact .ite h2.tryDrive h2

/-! ### Transfer instants (spec/05 R154, R155, R157) -/

/-- Shadows of two legs, of which a mask takes all. -/
theorem ofFn_of_bits {m i : Nat} (h : ∀ j : Fin 2, bit m (i + j.val) = true) (v w : Vector Nat 2) :
    (Vector.ofFn fun j : Fin 2 => if bit m (i + j.val) then w[j] else v[j]) = w := by
  ext j hj
  simp [h ⟨j, hj⟩]

theorem ofFn_of_not_bits {m i : Nat} (h : ∀ j : Fin 2, bit m (i + j.val) = false) (v w : Vector Nat 2) :
    (Vector.ofFn fun j : Fin 2 => if bit m (i + j.val) then w[j] else v[j]) = v := by
  ext j hj
  simp [h ⟨j, hj⟩]

theorem mixVals_all (v w : EdgeVals) : mixVals allShadows v w = w := by
  unfold mixVals
  dsimp only
  rw [ofFn_of_bits (by decide), ofFn_of_bits (by decide), ofFn_of_bits (by decide), ofFn_of_bits (by decide)]
  rfl

theorem mixVals_none (v w : EdgeVals) : mixVals 0 v w = v := by
  unfold mixVals
  dsimp only
  rw [ofFn_of_not_bits (by decide), ofFn_of_not_bits (by decide), ofFn_of_not_bits (by decide), ofFn_of_not_bits (by decide)]
  rfl

/-- What the transfer instant latches for a carrier that follows none. -/
theorem State.latch_staged {k : Carrier} (hpref : s.carriers[k].pref < 2) :
    (s.latch k).carriers[k].staged = some (mixVals
      (if s.absolute k then (if (s.carriers[k].sh.seen s.tick).armed then (s.carriers[k].sh.seen s.tick).pend else 0)
        else allShadows) s.carriers[k].v (s.carriers[k].sh.seen s.tick).vals) := by
  have hfol : ¬ s.carriers[k].pref ≥ 2 := by omega
  rw [State.latch, State.carriers_modCarrier_self]
  simp only [if_neg hfol]

/-- The leader's own latch stands. -/
theorem State.latchFollowers_own {k : Carrier} (hpref : s.carriers[k].pref < 2) :
    (s.latchFollowers k).carriers[k] = s.carriers[k] := by
  refine forFin_keeps (fun (a : State) => a.carriers[k] = s.carriers[k]) _ (fun b a ha => ?_) s rfl
  dsimp only
  rw [State.carriers_modCarrier]
  split
  · split
    next hfollows =>
      simp only [Bool.and_eq_true, decide_eq_true_eq] at hfollows
      obtain ⟨⟨⟨-, hfol⟩, -⟩, -⟩ := hfollows
      rw [ha] at hfol
      omega
    next => exact ha
  · exact ha

/-- A running follower of k in RATIO mode. -/
def State.followsFreely (s : State) (k : Carrier) (b : Bridge) : Prop :=
  s.carriers[carrierOf (cellOf k) b].running = true ∧ 2 ≤ s.carriers[carrierOf (cellOf k) b].pref ∧
    leaderOf (carrierOf (cellOf k) b) s.carriers[carrierOf (cellOf k) b].pref = k ∧
    s.absolute (carrierOf (cellOf k) b) = false

/-- The PHASE of such a follower is latched with its leader's ZERO (spec/05 R153). -/
theorem State.latchFollowers_phase (s : State) (k : Carrier) (b : Bridge) (h : s.followsFreely k b) :
    (s.latchFollowers k).carriers[carrierOf (cellOf k) b].stagedPhase =
      some (s.carriers[carrierOf (cellOf k) b].sh.seen s.tick).vals.phase := by
  unfold State.latchFollowers
  refine forFin_each (fun (i : Bridge) (a : State) => a.carriers[carrierOf (cellOf k) i])
    (fun a => a.tick = s.tick ∧ a.objs = s.objs)
    (fun i c d => (c.running = true ∧ 2 ≤ c.pref ∧ leaderOf (carrierOf (cellOf k) i) c.pref = k ∧
      s.absolute (carrierOf (cellOf k) i) = false) → d.stagedPhase = some (c.sh.seen s.tick).vals.phase)
    (fun i a ha => ?_) (fun i j a hne => ?_) (fun i a ha hfollows => ?_) (s := s) ⟨rfl, rfl⟩ b h
  · exact ha
  · dsimp only
    rw [State.carriers_modCarrier, if_neg fun he => hne (carrierOf_inj he)]
  · obtain ⟨htick, hobjs⟩ := ha
    obtain ⟨hrun, hpref, hleader, habs⟩ := hfollows
    have habs' : a.absolute (carrierOf (cellOf k) i) = false := by
      unfold State.absolute State.rd at habs ⊢
      rw [hobjs, habs]
    dsimp only
    rw [State.carriers_modCarrier_self, habs', htick, if_pos (by rw [hrun, hleader]; simpa using hpref)]

/-- A transfer instant touches carriers alone. -/
theorem State.latchFollowers_frame (s : State) (k : Carrier) :
    s.latchFollowers k = { s with carriers := (s.latchFollowers k).carriers } :=
  forFin_keeps (fun (a : State) => a = { s with carriers := a.carriers }) _
    (fun b a ha => by rw [ha]; rfl) s rfl

end Sys2Proof.Machine
end

section
/-! COMMIT and CARRY_CLEAR, and the instants of carriers together. -/

namespace Sys2Proof.Machine
set_option Elab.async false

variable {F : Nat} {s a t : State}

/-! ### Writes of area 3 (spec/17 R557) -/

/-- What an OUTPUT block stages lies below the reports and commands of area 3, or in area 8. -/
theorem stageOf_key {e : Engine} {sub u : Nat} (hsub : sub < 256) {p : Nat × Nat} (hp : p ∈ stageOf e sub u) :
    p.1 % 0x10000 < 0x2000 ∨ 0x800000 ≤ p.1 := by
  unfold stageOf at hp
  dsimp only at hp
  split at hp
  case h_4 =>
    simp only [List.mem_cons, List.not_mem_nil, or_false] at hp
    rcases hp with rfl | rfl <;> simp only [kCarrier, unitKey] <;> omega
  case h_9 => exact absurd hp List.not_mem_nil
  all_goals
    obtain rfl := List.mem_singleton.1 hp
    simp only [kCarrier, unitKey]
    omega

theorem State.not_mem_targets (s : State) (e : Engine) {key : Nat} (hhigh : 0x2000 ≤ key % 0x10000) (harea : key < 0x800000) :
    key ∉ s.targets e := by
  unfold State.targets
  split
  · simp only [List.mem_flatMap, List.mem_range, not_exists, not_and]
    intro b _
    split
    · intro hmem
      obtain ⟨p, hp, rfl⟩ := List.mem_map.1 hmem
      have := stageOf_key (Nat.mod_lt _ (by decide)) hp
      omega
    · exact List.not_mem_nil
  · exact List.not_mem_nil

/-- A write by a host that a Supervisor serves, of an object of area 3 that its state accepts. -/
theorem State.writeNat_edge (s : State) {idx sub n v : Nat} (e : Sub) (hrow : rowFor idx sub = (0, some e))
    (hone : accessIndices idx = [idx]) (harea : (idx * 256 + sub) / 2 ^ 20 = 3) (hwritable : e.writable = true)
    (hanywhere : managerWritten idx sub = false) (hlength : e.lengthOk idx n = true) (hwr : e.wr.allows s.dev = true)
    (hbytes : (natLe n v).length = n) (hserved : s.power.supervisor = true) (hdev : s.dev ≠ 0)
    (hok : s.valueOk e (idx * 256 + sub) (e.taken (natLe n v)) (natLe n v) = true) :
    s.writeNat idx sub n v = (s.writeEdge (idx * 256 + sub) (baseOf ((idx * 256 + sub) / 256)) ((idx * 256 + sub) % 256)
      (e.taken (natLe n v)) (cellOfUnit (unitOf ((idx * 256 + sub) / 256)))).answered 0 [] := by
  have hpre : s.writePre true idx sub (natLe n v).length = 0 := by
    simp [State.writePre, hrow, hdev, hwritable, hanywhere, hbytes, hlength, hwr]
  have hstatus : s.writeStatus true idx sub (natLe n v) = 0 := by
    simp [State.writeStatus, hpre, hrow, hone, hok]
  have happly : s.applyWrite (idx * 256 + sub) (e.taken (natLe n v)) (natLe n v) =
      (0, s.writeEdge (idx * 256 + sub) (baseOf ((idx * 256 + sub) / 256)) ((idx * 256 + sub) % 256)
        (e.taken (natLe n v)) (cellOfUnit (unitOf ((idx * 256 + sub) / 256)))) := by
    simp only [State.applyWrite, harea]
  simp [State.writeNat, State.write, State.hostWrite, hserved, hstatus, State.writeAll, hrow, hone, happly]

/-- The map rows of COMMIT and CARRY_CLEAR. -/
def commitRow : Sub := bm .wo .a 1 1 1 7 0
def carryClearRow : Sub := bm .wo .c 17 17 1 0x3F 0

/-- No run stages a value of these objects, so that their owner refuses none. -/
theorem State.edge_ok (s : State) (c : Cell) {key base sub : Nat} (v : Nat) (hbase : 0x3002 < base) (hbase' : base ≠ 0x3050)
    (hhigh : 0x2000 ≤ key % 0x10000) (harea : key < 0x800000) : s.okEdge key base sub v c = true := by
  have hlow : ¬ base ≤ 0x3002 := by omega
  simp [State.okEdge, s.not_mem_targets _ hhigh harea, hlow, hbase']

theorem rowFor_commit : ∀ c : Cell, rowFor (0x3040 + 256 * c.val) 1 = (0, some commitRow) := by decide
theorem rowFor_carryClear : ∀ c : Cell, rowFor (0x3022 + 256 * c.val) 0x11 = (0, some carryClearRow) := by decide

/-- The keys of COMMIT and of CARRY_CLEAR, taken apart. -/
theorem commit_key : ∀ c : Cell, accessIndices (0x3040 + 256 * c.val) = [0x3040 + 256 * c.val] ∧
    managerWritten (0x3040 + 256 * c.val) 1 = false ∧ baseOf (((0x3040 + 256 * c.val) * 256 + 1) / 256) = 0x3040 ∧
    unitOf (((0x3040 + 256 * c.val) * 256 + 1) / 256) = c.val := by decide

theorem carryClear_key : ∀ c : Cell, accessIndices (0x3022 + 256 * c.val) = [0x3022 + 256 * c.val] ∧
    managerWritten (0x3022 + 256 * c.val) 0x11 = false ∧ baseOf (((0x3022 + 256 * c.val) * 256 + 0x11) / 256) = 0x3022 ∧
    unitOf (((0x3022 + 256 * c.val) * 256 + 0x11) / 256) = c.val := by decide

theorem State.writeNat_commit (s : State) (c : Cell) (mask : Byte) (hserved : s.power.supervisor = true)
    (hdev : s.dev ≠ 0) :
    s.writeNat (0x3040 + 256 * c.val) 1 1 mask.toNat = (s.commitMask c (commitRow.taken (natLe 1 mask.toNat))).answered 0 [] := by
  obtain ⟨hone, hanywhere, hbase, hunit⟩ := commit_key c
  have harea : ((0x3040 + 256 * c.val) * 256 + 1) / 2 ^ 20 = 3 := by omega
  have hcell : cellOfUnit c.val = c := Fin.ext (Nat.mod_eq_of_lt c.isLt)
  rw [s.writeNat_edge commitRow (rowFor_commit c) hone harea rfl hanywhere rfl (by simpa [commitRow, bm, Wr.allows] using hdev) rfl
    hserved hdev ?_, hbase, hunit, hcell]
  · rfl
  · simp only [State.valueOk, State.ownerOk, harea, hbase]
    exact (Bool.true_and _).trans (s.edge_ok _ _ (by decide) (by decide) (by omega) (by omega))

theorem State.writeNat_carryClear (s : State) (c : Cell) (mask : Byte) (hserved : s.power.supervisor = true)
    (hdev : s.dev = 2 ∨ s.dev = 6 ∨ s.dev = 7) :
    s.writeNat (0x3022 + 256 * c.val) 0x11 1 mask.toNat =
      (s.carryClear c (carryClearRow.taken (natLe 1 mask.toNat))).answered 0 [] := by
  obtain ⟨hone, hanywhere, hbase, hunit⟩ := carryClear_key c
  have harea : ((0x3022 + 256 * c.val) * 256 + 0x11) / 2 ^ 20 = 3 := by omega
  have hsub : ((0x3022 + 256 * c.val) * 256 + 0x11) % 256 = 0x11 := by omega
  have hcell : cellOfUnit c.val = c := Fin.ext (Nat.mod_eq_of_lt c.isLt)
  rw [s.writeNat_edge carryClearRow (rowFor_carryClear c) hone harea rfl hanywhere rfl
    (by simpa [carryClearRow, bm, Wr.allows, or_assoc] using hdev) rfl hserved (by omega) ?_, hbase, hunit, hcell, hsub]
  · rfl
  · simp only [State.valueOk, State.ownerOk, harea, hbase]
    exact (Bool.true_and _).trans (s.edge_ok _ _ (by decide) (by decide) (by omega) (by omega))

/-- A bit of a mask that its row takes. -/
theorem bit_taken {e : Sub} (hkind : e.kind = .bits) {w : Nat} (hmax : e.max = 2 ^ w - 1) (mask : Byte) {n : Nat} (hn : n < w) :
    bit (e.taken (natLe 1 mask.toNat)) n = bit mask.toNat n := by
  have hle : leNat (natLe 1 mask.toNat) = mask.toNat := by
    simp [natLe, leNat]
  simp [Sub.taken, hkind, hle, hmax, bit, hn]

/-! ### COMMIT (spec/05 R157) and CARRY_CLEAR (spec/05 R171) -/

/-- COMMIT arms, and leaves the shadows as they stand. -/
theorem ShadowSt.arm_now (x : ShadowSt) (t : Nat) : (x.arm t).now = { x.now with armed := true } := by
  unfold ShadowSt.arm ShadowSt.open_
  split <;> rfl

theorem State.commitMask_frame (s : State) (c : Cell) (mask : Nat) :
    s.commitMask c mask = { s with carriers := (s.commitMask c mask).carriers } :=
  forFin_keeps (fun (a : State) => a = { s with carriers := a.carriers }) _ (fun b a ha => by
    split
    · unfold State.armCommit
      split
      · rw [ha]; rfl
      · exact ha
    · exact ha) s rfl

/-- What COMMIT makes of a carrier that runs in ABSOLUTE mode, or does not. -/
def armed (absolute : Bool) (t : Nat) (c : CarrierSt) : CarrierSt :=
  if absolute && c.running then { c with sh := c.sh.arm t } else c

theorem armed_armed (absolute : Bool) (t : Nat) (c : CarrierSt) :
    (armed absolute t c).sh.now.armed = (c.sh.now.armed || (absolute && c.running)) := by
  unfold armed
  cases h : absolute && c.running
  · simp
  · simp [ShadowSt.arm_now]

theorem State.armCommit_carrier (s : State) (k : Carrier) :
    (s.armCommit k).carriers[k] = armed (s.absolute k) s.tick s.carriers[k] := by
  unfold State.armCommit armed
  split
  · exact s.carriers_modCarrier_self k _
  · rfl

theorem State.armCommit_other (s : State) {j k : Carrier} (h : j ≠ k) : (s.armCommit k).carriers[j] = s.carriers[j] := by
  unfold State.armCommit
  split
  · rw [State.carriers_modCarrier, if_neg h]
  · rfl

theorem State.armCommit_frame (s : State) (k : Carrier) :
    s.armCommit k = { s with carriers := (s.armCommit k).carriers } := by
  unfold State.armCommit
  split <;> rfl

theorem State.commitMask_carrier (s : State) (c : Cell) (mask : Nat) (b : Bridge) :
    (s.commitMask c mask).carriers[carrierOf c b] =
      if bit mask b.val then armed (s.absolute (carrierOf c b)) s.tick s.carriers[carrierOf c b]
      else s.carriers[carrierOf c b] := by
  unfold State.commitMask
  refine forFin_each (fun (i : Bridge) (a : State) => a.carriers[carrierOf c i])
    (fun a => a.tick = s.tick ∧ a.objs = s.objs)
    (fun i x y => y = if bit mask i.val then armed (s.absolute (carrierOf c i)) s.tick x else x)
    (fun i a ha => ?_) (fun i j a hne => ?_) (fun i a ha => ?_) (s := s) ⟨rfl, rfl⟩ b
  · split
    · rw [State.armCommit_frame]
      exact ha
    · exact ha
  · split
    · exact State.armCommit_other _ fun he => hne (carrierOf_inj he)
    · rfl
  · obtain ⟨htick, hobjs⟩ := ha
    have habs : a.absolute (carrierOf c i) = s.absolute (carrierOf c i) := by
      unfold State.absolute State.rd
      rw [hobjs]
    split
    · rw [State.armCommit_carrier, htick, habs]
    · rfl

/-- COMMIT loads nothing and touches no more of a carrier than its shadow side. -/
def OnlyArms (c d : CarrierSt) : Prop :=
  d = { c with sh := d.sh } ∧ d.sh.now.vals = c.sh.now.vals ∧ d.sh.now.pend = c.sh.now.pend

theorem OnlyArms.armed {c d : CarrierSt} (h : OnlyArms c d) (absolute : Bool) (t : Nat) :
    OnlyArms c (armed absolute t d) := by
  obtain ⟨heq, hvals, hpend⟩ := h
  unfold Machine.armed
  split
  · exact ⟨by rw [heq], by rw [ShadowSt.arm_now]; exact hvals, by rw [ShadowSt.arm_now]; exact hpend⟩
  · exact ⟨heq, hvals, hpend⟩

theorem State.commitMask_onlyArms (s : State) (c : Cell) (mask : Nat) (k : Carrier) :
    OnlyArms s.carriers[k] (s.commitMask c mask).carriers[k] := by
  refine forFin_keeps (fun (a : State) => OnlyArms s.carriers[k] a.carriers[k]) _ (fun b a ha => ?_) s ⟨rfl, rfl, rfl⟩
  split
  · by_cases hk : k = carrierOf c b
    · obtain rfl := hk
      rw [State.armCommit_carrier]
      exact ha.armed _ _
    · rw [State.armCommit_other _ hk]
      exact ha
  · exact ha

theorem State.setCarry_zero (s : State) (l : Leg) : s.setCarry l 0 = s.wr (kCarry l) 0 := by
  unfold State.setCarry
  extract_lets lim s'
  have hclip : clampInt (-lim) lim 0 = 0 := by
    have : 0 ≤ lim := Int.natCast_nonneg _
    simp only [clampInt]
    split_ifs <;> omega
  refine (if_pos hclip).trans ?_
  simp only [s', hclip]
  rfl

/-- The leg that bit n of CARRY_CLEAR of a cell names. -/
def clearLeg (c : Cell) (n : Fin 6) : Leg := ⟨6 * c.val + n.val, by omega⟩

theorem kCarry_clearLeg (c : Cell) (n : Fin 6) : kCarry (clearLeg c n) = unitKey 0x302207 c + n.val := by
  simp only [kCarry, clearLeg, unitKey]
  omega

theorem State.carryClear_rd (s : State) (c : Cell) (mask : Nat) (n : Fin 6) :
    (s.carryClear c mask).rd (unitKey 0x302207 c + n.val) =
      if bit mask n.val then 0 else s.rd (unitKey 0x302207 c + n.val) := by
  refine forFin_each (fun (i : Fin 6) (a : State) => a.rd (unitKey 0x302207 c + i.val)) (fun _ => True)
    (fun i x y => y = if bit mask i.val then 0 else x) (fun _ _ _ => trivial) (fun i j a hne => ?_) (fun i a _ => ?_)
    (s := s) trivial n
  · split
    · rw [State.setCarry_zero]
      refine State.rd_wr_ne _ _ fun he => hne (Fin.ext ?_)
      have := he.trans (kCarry_clearLeg c i)
      omega
    · rfl
  · split
    · rw [State.setCarry_zero]
      exact (State.rd_wr ..).trans (if_pos (kCarry_clearLeg c i).symm)
    · rfl

/-- CARRY_CLEAR writes the carries of its cell alone. -/
theorem State.carryClear_frame (s : State) (c : Cell) (mask : Nat) :
    s.carryClear c mask = { s with objs := (s.carryClear c mask).objs } :=
  forFin_keeps (fun (a : State) => a = { s with objs := a.objs }) _ (fun n a ha => by
    split
    · rw [State.setCarry_zero, ha]
      rfl
    · exact ha) s rfl

theorem State.carryClear_keeps (s : State) (c : Cell) (mask : Nat) {key : Nat}
    (h : ∀ n : Fin 6, key ≠ unitKey 0x302207 c + n.val) : (s.carryClear c mask).rd key = s.rd key := by
  refine forFin_frame (fun (a : State) => a.rd key) _ (fun n a => ?_) s
  split
  · rw [State.setCarry_zero]
    exact State.rd_wr_ne _ _ fun he => h n (he.trans (kCarry_clearLeg c n))
  · rfl

/-! ### The commands together -/

/-- What the clauses of ZERO and of the apex leave open. -/
def pulsingInTime : Nat := pulsing ||| timing

theorem State.zeroBegun_wantsRun {k : Carrier} (hrun : s.carriers[k].running = true)
    (hmode : s.rd (kCarrier (cellOf k) (bridgeOf k) 1) ≠ 0)
    (hleader : s.rd (kCarrier (cellOf k) (bridgeOf k) 3) < 2 ∨
      s.rd (kCarrier (cellOf k) ((s.rd (kCarrier (cellOf k) (bridgeOf k) 3) - 2) % 3) 1) ≠ 0) :
    (s.zeroBegun k).wantsRun k = true := by
  have hb := s.zeroBegun_begins k
  have hlead := s.zeroBegun_kCarrier k ⟨(s.rd (kCarrier (cellOf k) (bridgeOf k) 3) - 2) % 3, Nat.mod_lt _ (by decide)⟩
    (i := 1) (by decide)
  unfold State.wantsRun
  extract_lets c x pref
  have hpref : pref = s.rd (kCarrier (cellOf k) (bridgeOf k) 3) :=
    (if_pos (show x.running = true from hb.running.trans hrun)).trans hb.pref
  rw [hpref, s.zeroBegun_kCarrier k (bridgeOf k) (by decide)]
  simp only [Bool.and_eq_true, Bool.or_eq_true, bne_iff_ne, decide_eq_true_eq]
  exact ⟨hmode, hleader.imp_right fun h => hlead ▸ h⟩

theorem State.zeroCounted_within (s : State) (k : Carrier) : Within pulsingInTime s (s.zeroCounted k) :=
  (Within.refl _ s).toTaps.countPeriod

theorem State.zeroCounted_tick (s : State) (k : Carrier) : (s.zeroCounted k).tick = max s.tick (s.nextZero k / 16) :=
  ((Within.refl (foot [.area 3]) (s.toTaps (s.nextZero k))).countPeriod).tick.trans (s.toTaps_tick _)

theorem Pulses.kCarrier (h : Pulses s t) (k : Carrier) {i : Nat} (hi : i < 0x100) :
    t.rd (kCarrier (cellOf k) (bridgeOf k) i) = s.rd (kCarrier (cellOf k) (bridgeOf k) i) :=
  h.low _ (kCarrier_low k _ (bridgeOf k).isLt hi)

theorem State.apexNoted_pulses (s : State) (k : Carrier) :
    Pulses (s.toTaps (s.localOf k s.carriers[k].apexAt)) (s.apexNoted k) :=
  (Pulses.refl _).modCarrier.event

theorem State.event_objs (s : State) (k : Carrier) (y : Fin 5) (t : Nat) : (s.event k y t).objs = s.objs := by
  unfold State.event
  extract_lets c no pass s1
  split <;> rfl

theorem State.event_other (s : State) {j k : Carrier} (y : Fin 5) (t : Nat) (h : j ≠ k) :
    (s.event k y t).carriers[j] = s.carriers[j] := by
  obtain ⟨evAt, hev⟩ := s.event_carriers k y t
  rw [hev, upd_ne _ _ _ _ h]

/-- The instant of a carrier's TCMP event. -/
def State.tcmpInstant (s : State) (k : Carrier) : Nat := (s.carriers[k].zeroAt + s.tcmpAt k).toNat

/-- The TCMP event, at its instant. -/
def State.tcmpNoted (s : State) (k : Carrier) : State :=
  ((s.toTaps (s.localOf k (s.tcmpInstant k))).modCarrier k fun c => { c with tcmpDone := true }).event k 4 (s.tcmpInstant k)

theorem State.tcmpNoted_within (s : State) (k : Carrier) : Within (timing ||| signalling) s (s.tcmpNoted k) :=
  .event (.set (.toTaps (.refl _ s)))

theorem State.tcmpEvent_eq {k : Carrier} (hrun : s.carriers[k].running = true) (hstarted : s.carriers[k].started = true)
    (htcmp : s.carriers[k].tcmpDone = false) (hcome : s.tcmpInstant k < s.carriers[k].nextAt) :
    s.tcmpEvent k = s.tcmpNoted k := by
  have hnot : ¬ s.carriers[k].nextAt ≤ s.tcmpInstant k := by omega
  refine if_neg ?_
  rw [hrun, hstarted, htcmp]
  simpa [State.tcmpInstant] using hnot

/-- The transfer instant of a boundary: its tick, with the carrier's latch (spec/05 R154). -/
def State.transferAt (s : State) (k : Carrier) (apex : Bool) : Nat :=
  (if apex then s.localOf k (s.carriers[k].zeroAt + s.carriers[k].span / 2) else s.nextZero k) - 256

def State.latchedAt (s : State) (k : Carrier) (apex : Bool) : State := (s.toTaps (s.transferAt k apex)).latch k

theorem State.transferInstant_eq {k : Carrier} {apex : Bool} (hrun : s.carriers[k].running = true)
    (hapex : apex = true → s.carriers[k].started = true ∧ s.carriers[k].apexDone = false)
    (hloads : s.loadsAt k apex = true) (hstaged : s.carriers[k].staged = none) :
    s.transferInstant k apex =
      if apex then s.latchedAt k apex else (s.latchedAt k apex).latchFollowers k := by
  have hlatch : (if (s.toTaps (s.transferAt k apex)).loadsAt k apex && s.carriers[k].staged.isNone then
      (s.toTaps (s.transferAt k apex)).latch k else s.toTaps (s.transferAt k apex)) = s.latchedAt k apex :=
    if_pos (by rw [hstaged, show (s.toTaps (s.transferAt k apex)).loadsAt k apex = true from hloads]; rfl)
  unfold State.transferInstant
  refine (if_neg ?_).trans ?_
  · rw [hrun]
    cases apex
    · simp
    · obtain ⟨h1, h2⟩ := hapex rfl
      rw [h1, h2]
      decide
  · rw [← hlatch]
    rfl

/-- What a transfer instant leaves. -/
structure Transfers (k : Carrier) (apex : Bool) (s t : State) : Prop where
  tick : t.tick = (s.toTaps (s.transferAt k apex)).tick
  staged : t.carriers[k].staged = ((s.latchedAt k apex).carriers[k]).staged
  phase : apex = false → ∀ b : Bridge, s.followsFreely k b →
    t.carriers[carrierOf (cellOf k) b].stagedPhase = some (s.carriers[carrierOf (cellOf k) b].sh.seen t.tick).vals.phase
  frame : t = { s with tick := t.tick, net := t.net, carriers := t.carriers }

theorem State.latchedAt_pref (s : State) (k : Carrier) (apex : Bool) :
    (s.latchedAt k apex).carriers[k].pref = s.carriers[k].pref := by
  rw [State.latchedAt, State.latch, State.carriers_modCarrier_self]
  rfl

theorem State.transfers {k : Carrier} (hpref : s.carriers[k].pref < 2) (apex : Bool) :
    Transfers k apex s (if apex then s.latchedAt k apex else (s.latchedAt k apex).latchFollowers k) := by
  cases apex
  · have hframe := (s.latchedAt k false).latchFollowers_frame k
    have htick : ((s.latchedAt k false).latchFollowers k).tick = (s.toTaps (s.transferAt k false)).tick := by
      rw [hframe]
      rfl
    refine ⟨htick, ?_, fun _ b hfree => ?_, by rw [hframe]; rfl⟩
    · exact congrArg CarrierSt.staged (State.latchFollowers_own (by rw [State.latchedAt_pref]; exact hpref))
    · have hne : carrierOf (cellOf k) b ≠ k := fun he => by
        obtain ⟨-, hfollows, -⟩ := hfree
        have : 2 ≤ s.carriers[k].pref := he ▸ hfollows
        omega
      have hsame : (s.latchedAt k false).carriers[carrierOf (cellOf k) b] = s.carriers[carrierOf (cellOf k) b] := by
        rw [State.latchedAt, State.latch, State.carriers_modCarrier, if_neg hne]
        rfl
      have hphase := (s.latchedAt k false).latchFollowers_phase k b (by
        unfold State.followsFreely
        rw [hsame]
        exact hfree)
      rw [hsame] at hphase
      show _ = some (s.carriers[carrierOf (cellOf k) b].sh.seen ((s.latchedAt k false).latchFollowers k).tick).vals.phase
      rw [htick]
      exact hphase
  · exact ⟨rfl, rfl, fun h => absurd h (by decide), rfl⟩

/-- Settles O10: each event goes through its instant, its own step and the boundary that it may be; the two writes through their rows. -/
theorem carriersReachTheirInstants : Obligations.CarriersReachTheirInstants := by
  intro s
  refine ⟨fun k hrun hplaced hmode hleader => ⟨_, rfl, ?_⟩, fun k hrun hstarted hapex hcome => ⟨_, rfl, ?_⟩,
    fun k hrun hstarted htcmp hcome => ⟨_, rfl, ?_⟩, fun k apex hrun hapex hloads hstaged hpref => ⟨_, rfl, ?_⟩,
    fun c mask hserved hdev => ⟨_, congrArg Host.Outcome.next (s.writeNat_commit c mask hserved hdev), ?_⟩,
    fun c mask hserved hdev => ⟨_, congrArg Host.Outcome.next (s.writeNat_carryClear c mask hserved hdev), ?_⟩⟩
  · have hb := s.zeroBegun_begins k
    obtain ⟨hrest, hnext⟩ := (s.zeroBegun k).periodBegun_carrier k s.carriers[k] (s.nextZero k)
    have hp : Pulses (s.zeroCounted k) ((s.zeroBegun k).periodBegun k s.carriers[k] (s.nextZero k)) :=
      (s.zeroBegun_pulses k).periodBegun
    have hwithin := (s.zeroCounted_within k).trans (hp.within.mono (by decide))
    rw [State.zero_eq hrun hplaced (State.zeroBegun_wantsRun hrun hmode hleader)]
    generalize (s.zeroBegun k).periodBegun k s.carriers[k] (s.nextZero k) = t at *
    refine ⟨hrest.started.trans hb.started, hrest.zeroLoc.trans hb.zeroLoc, hrest.mode.trans hb.mode,
      hrest.pref.trans hb.pref, hrest.apexDone.trans hb.apexDone, hrest.tcmpDone.trans hb.tcmpDone,
      (hp.kCarrier k (by decide)).trans (State.countPeriod_count _ k _), fun hstarted => ?_, fun hlocal => ?_,
      fun hstaged hpref hpref' => ?_, hp.within.tick.trans (s.zeroCounted_tick k), hwithin.keepsOtherAreas, hwithin.frame⟩
    · obtain ⟨hticks, htaps⟩ := (s.toTaps (s.nextZero k)).countPeriod_active k s.carriers[k].nextAt hstarted
      exact ⟨(hp.kCarrier k (by decide)).trans hticks, (hp.kCarrier k (by decide)).trans htaps⟩
    · have h0 : (s.zeroBegun k).carriers[k].pref = 0 := hb.pref.trans hlocal
      rw [hnext h0, hrest.lastZero, hrest.v (by rw [h0]; decide)]
    · obtain ⟨v, hv⟩ := Option.isSome_iff_exists.1 hstaged
      rw [hrest.v (by rw [hb.pref]; exact hpref'), hb.v v hv hpref, hv]
  · obtain ⟨evAt, hnoted⟩ := s.apexNoted_carrier k
    have hhalves := (s.apexNoted k).halved_carrier k s.carriers[k] s.carriers[k].apexAt (by rw [hnoted])
    have hp : Pulses (s.toTaps (s.localOf k s.carriers[k].apexAt)) ((s.apexNoted k).halved k s.carriers[k] s.carriers[k].apexAt) :=
      (s.apexNoted_pulses k).halved
    have hwithin : Within pulsingInTime s _ := (Within.refl _ s).toTaps.trans (hp.within.mono (by decide))
    rw [State.apex_eq hrun hstarted hapex hcome]
    generalize (s.apexNoted k).halved k s.carriers[k] s.carriers[k].apexAt = t at *
    rw [hnoted] at hhalves
    refine ⟨hhalves.apexDone, fun hor => hhalves.evIdx hor, fun hmode hpref hstaged => ?_,
      hp.within.tick.trans (s.toTaps_tick _), hwithin.keepsOtherAreas, hwithin.frame⟩
    obtain ⟨v, hv⟩ := Option.isSome_iff_exists.1 hstaged
    rw [hhalves.v v hmode hpref hv, hv]
  · have hwithin := s.tcmpNoted_within k
    obtain ⟨evAt, hev⟩ := State.event_carrier ((s.toTaps (s.localOf k (s.tcmpInstant k))).modCarrier k fun c =>
      { c with tcmpDone := true }) k 4 (s.tcmpInstant k)
    rw [State.carriers_modCarrier_self] at hev
    have hother (j : Carrier) (hj : j ≠ k) : (s.tcmpNoted k).carriers[j] = s.carriers[j] :=
      (State.event_other _ 4 _ hj).trans ((State.carriers_modCarrier ..).trans (if_neg hj))
    have htick : (s.tcmpNoted k).tick = max s.tick (s.localOf k (s.tcmpInstant k) / 16) :=
      ((Within.refl signalling _).event).tick.trans (s.toTaps_tick _)
    have hobjs : (s.tcmpNoted k).objs = s.objs := State.event_objs ..
    rw [State.tcmpEvent_eq hrun hstarted htcmp hcome]
    refine ⟨(congrArg CarrierSt.tcmpDone hev :), (congrArg CarrierSt.evIdx hev :), htick, hother, ?_⟩
    have hframe := hwithin.frame
    rw [State.patch, hobjs] at hframe
    exact hframe
  · have hlatch := State.latch_staged (s := s.toTaps (s.transferAt k apex)) hpref
    obtain ⟨htick, hown, hphase, hframe⟩ := State.transfers hpref apex
    rw [State.transferInstant_eq hrun hapex hloads hstaged]
    generalize (if apex then s.latchedAt k apex else (s.latchedAt k apex).latchFollowers k) = t at *
    replace hlatch := hown.trans hlatch
    rw [← htick] at hlatch
    refine ⟨fun hratio => ?_, fun habs harmed => ?_, fun habs hidle => ?_, fun b hfree => ?_,
      htick.trans (s.toTaps_tick _), hframe⟩
    · rw [hlatch, show (s.toTaps (s.transferAt k apex)).absolute k = false from hratio]
      exact congrArg some (mixVals_all _ _)
    · rw [hlatch, show (s.toTaps (s.transferAt k apex)).absolute k = true from habs]
      exact congrArg (fun m => some (mixVals m _ _)) ((if_pos rfl).trans (if_pos harmed))
    · rw [hlatch, show (s.toTaps (s.transferAt k apex)).absolute k = true from habs]
      refine (congrArg (fun m => some (mixVals m _ _)) ((if_pos rfl).trans (if_neg ?_))).trans
        (congrArg some (mixVals_none _ _))
      exact Bool.eq_false_iff.1 hidle
    · obtain ⟨hzero, hfollows⟩ := hfree
      exact hphase hzero b hfollows
  · refine ⟨rfl, fun b => ?_, s.commitMask_onlyArms c _, ?_⟩
    · refine (congrArg (·.sh.now.armed) (s.commitMask_carrier c _ b)).trans ?_
      rw [bit_taken (w := 3) rfl rfl mask b.isLt]
      cases bit mask.toNat b.val
      · exact (Bool.or_false _).symm
      · exact armed_armed ..
    · rw [State.commitMask_frame]
      rfl
  · refine ⟨rfl, fun n => ?_, fun key hkey => ?_, ?_⟩
    · refine (s.carryClear_rd c _ n).trans ?_
      rw [bit_taken (w := 6) rfl rfl mask n.isLt]
    · refine s.carryClear_keeps c _ fun n he => hkey ?_
      simp only [List.mem_cons, List.not_mem_nil, or_false, unitKey] at he ⊢
      omega
    · rw [State.carryClear_frame]
      rfl

end Sys2Proof.Machine
end
